-- ==== Sys2Proof/Word.lean ====
section
/-! DEFINITION. The words of the WV-2480: bytes, 16-, 32- and 64-bit words, the numbers of its resources, the two
sides (halves, host ports and Hawser ports come in pairs) and a pair of like things. -/

namespace Sys2Proof

/-- A byte of a register, a buffer, a frame or a message. -/
abbrev Byte := BitVec 8
/-- A 16-bit register field. -/
abbrev U16 := BitVec 16
/-- A 32-bit register, parameter value or angle (a full turn is 2^32, R21). -/
abbrev Word := BitVec 32
/-- A 64-bit register, such as a device time (R17). -/
abbrev Dword := BitVec 64

/-- A quay Q0 to Q11. -/
abbrev QuayNo := Fin 12
/-- A leg L0 to L79. -/
abbrev LegNo := Fin 80
/-- A feedback cell F0 to F15. -/
abbrev CellNo := Fin 16
/-- A lane: 0 to 15 for G0 to G15, 16 to 19 for IG0 to IG3 (the instances of R883). -/
abbrev LaneNo := Fin 20
/-- A pre-driver die. -/
abbrev DieNo := Fin 2
/-- An enable group in the order of R802: LEG_EN0, LEG_EN1, GW_EN0 to GW_EN3. -/
abbrev GroupNo := Fin 6
/-- A mailbox MB0 to MB31. -/
abbrev MbxNo := Fin 32

/-- One of two like things: Half A or B, host port HP_A or HP_B, Hawser port H0 or H1. -/
inductive Side where
  | a
  | b
  deriving DecidableEq, Repr

/-- The other side. -/
def Side.other : Side → Side
  | .a => .b
  | .b => .a

/-- 0 for the first side, 1 for the second. -/
def Side.toNat : Side → Nat
  | .a => 0
  | .b => 1

/-- A pair of like things, one for each side. -/
structure Pair (α : Type) where
  a : α
  b : α
  deriving DecidableEq, Repr

/-- The element of a side. -/
def Pair.get {α : Type} (p : Pair α) : Side → α
  | .a => p.a
  | .b => p.b

/-- The pair with the element of one side replaced. -/
def Pair.set {α : Type} (p : Pair α) (h : Side) (x : α) : Pair α :=
  match h with
  | .a => ⟨x, p.b⟩
  | .b => ⟨p.a, x⟩

/-- The pair with both elements the same. -/
def Pair.both {α : Type} (x : α) : Pair α := ⟨x, x⟩

/-- The vector with the element of one index changed by a function. -/
def vmod {α : Type} {n : Nat} (v : Vector α n) (i : Fin n) (f : α → α) : Vector α n := v.set i (f v[i])

end Sys2Proof
end

