-- ==== Sys2Proof/Syntax.lean ====
section
/-! DEFINITION. The commands and events of the WV-2480: one constructor of `Instr` for each row of the opcode table,
with the values the outside world chooses as operands. -/

namespace Sys2Proof

/-- A switch of a leg. -/
inductive Switch where
  | high
  | low
  deriving DecidableEq, Repr

/-- The two detectors of a local leg (R769). -/
inductive Detector where
  | slope
  | absolute
  deriving DecidableEq, Repr

/-- A rail with a monitor (R1005), in the order of context byte 16 of R1015. -/
inductive Rail where
  | vcore
  | vio33
  | vio18
  | vana18
  | vgd (d : DieNo)
  deriving DecidableEq, Repr

/-- Below or above a band. -/
inductive LowHigh where
  | low
  | high
  deriving DecidableEq, Repr

/-- A chopper: BRK0 to BRK3, or a chopper leg (R792). -/
inductive ChopperRef where
  | brk (m : Fin 4)
  | leg (l : LegNo)
  deriving DecidableEq, Repr

/-- A limit input of a quay. -/
inductive LimitSide where
  | positive
  | negative
  deriving DecidableEq, Repr

/-- The level of a limit input (true: high) and the device time since when the input has stayed at it (R611). -/
structure LimitLevel where
  level : Bool := true
  since : Nat := 0
  deriving DecidableEq, Repr

/-- A link that trains (R841, R868). -/
inductive LinkRef where
  | lane (n : LaneNo)
  | hawser (p : Side)
  deriving DecidableEq, Repr

/-- Why a frame was discarded (R828, R829). -/
inductive BadFrame where
  | crc
  | abort
  | unknownType
  | tooLong
  deriving DecidableEq, Repr

/-- Kind of a leg command (R830): the codes of `leg.kind`. -/
inductive LegKind where
  | off
  | switch
  | holdLow
  | holdHigh
  deriving DecidableEq, Repr

/-- A leg command: its kind and its instants, in ticks after the update point (R492, R831). -/
structure LegCmd where
  kind : LegKind
  on   : Option Nat
  off  : Option Nat
  deriving DecidableEq, Repr

/-- The role a half believes it holds (R956). -/
inductive Claim where
  | active
  | shadow
  deriving DecidableEq, Repr

/-- What arrives at a leg cell: the command its half's kernel computed last, or another one (a half that has gone wrong). -/
inductive LegCmdSource where
  | computed
  | given (c : LegCmd)
  deriving DecidableEq, Repr

/-- What the ADCs of one local leg convert at a sample event (R765, R766): the current code and the phase voltage code. -/
structure LegSample where
  leg   : LegNo
  code  : BitVec 14
  volts : BitVec 14
  deriving DecidableEq, Repr

/-- The bootstrap voltages and temperatures of the legs of a lane are carried by its status frames. -/
structure StatusEntry where
  slot     : BitVec 8
  armed    : Bool
  short    : Bool
  supply   : Bool
  overtemp : Bool
  trip     : Bool
  suspect  : BitVec 2
  current  : BitVec 16
  volts    : BitVec 16
  temp     : BitVec 16
  derate   : BitVec 8
  deriving DecidableEq, Repr

/-- The internal block of a pre-driver die's status frame (R838), as far as the manual names its reports: the bootstrap
voltage of each slot and VM, in mV. -/
structure InternalBlock where
  vboot : List (BitVec 8 × BitVec 16)
  vm    : BitVec 32
  deriving DecidableEq, Repr

/-- A status frame (R829, R835). -/
structure StatusFrame where
  seq        : BitVec 8
  sampleTime : BitVec 32
  timeOk     : Bool
  dcValid    : Bool
  udc        : BitVec 16
  entries    : List StatusEntry
  internal   : Option InternalBlock
  deriving DecidableEq, Repr

/-- An identity frame (R839). -/
structure Ident where
  seq      : BitVec 8
  serial   : BitVec 64
  unitType : BitVec 16
  legs     : BitVec 8
  caps     : BitVec 32
  fwLevel  : BitVec 16
  iLsb     : BitVec 16
  uLsb     : BitVec 16
  deriving DecidableEq, Repr

/-- The header of a Hawser frame (R865); its TYPE is that of the row. -/
structure HwHeader where
  ttl : BitVec 8
  seq : BitVec 8
  src : BitVec 32
  deriving DecidableEq, Repr

/-- DISC (R866). -/
structure HwDisc where
  serial   : BitVec 64
  h0Up     : Bool
  h1Up     : Bool
  timePrio : BitVec 8
  mode     : BitVec 8
  deriving DecidableEq, Repr

/-- SHARE: the items of R562 in the layout of R866. -/
structure HwShare where
  sampleTime : BitVec 64
  sequence   : BitVec 16
  axisState  : BitVec 5
  release    : Bool
  stopDone   : Bool
  contributing : Bool
  mode       : BitVec 8
  subState   : BitVec 8
  g          : BitVec 32
  nRefEff    : BitVec 32
  n          : BitVec 32
  fStar      : BitVec 32
  f          : BitVec 32
  deriving DecidableEq, Repr

/-- SHARE_STAT: the items of R563 in the layout of R866. -/
structure HwShareStat where
  sampleTime   : BitVec 64
  appliedTime  : BitVec 64
  axisState    : BitVec 5
  release      : Bool
  stopDone     : Bool
  contributing : Bool
  reducedPos   : Bool
  reducedNeg   : Bool
  tStar        : BitVec 32
  shareRatio   : BitVec 32
  tBase        : BitVec 32
  deriving DecidableEq, Repr

/-- A message of classes 1 to 3 as the host writes it (R211, R212); its OPCODE is that of the row. -/
structure Req where
  byte0   : Byte
  seq     : BitVec 16
  target  : BitVec 16
  length  : BitVec 16
  payload : List Byte
  trailer : List Byte
  deriving DecidableEq, Repr

/-- A class-0 message as the host writes it (R240, R242); its OPCODE is that of the row. -/
structure C0Msg where
  byte0  : Byte
  seq    : BitVec 16
  target : BitVec 16
  length : BitVec 16
  valA   : BitVec 16
  valB   : BitVec 16
  valC   : BitVec 16
  crc    : BitVec 16
  deriving DecidableEq, Repr

/-- What an iteration measures by a procedure that the manual does not give: the frequency of the short-circuit currents in pu (R517, R702)
and the load angle δ of Ibex (R646). Unconstrained operands, log entry 26. -/
structure Estimates where
  currentFreq : Rat
  ibexAngle : BitVec 32
  deriving DecidableEq, Repr

/-- What an SSI transfer clocked in (R359, R360): the data line before the first falling edge, the data bits, the parity bit, and the
line at the rising edge after the last bit. -/
structure SsiFrame where
  ready  : Bool
  data   : BitVec 32
  parity : Bool
  tail   : Bool
  deriving DecidableEq, Repr

/-- What a scrub pass finds (R37 to R41). -/
inductive ScrubFinding where
  | single
  | doubleHalf (h : Side)
  | doubleTrace (region : Fin 16)
  | doubleParam
  deriving DecidableEq, Repr

/-- The sub-causes of CHECK_TRIP that a Check core finds (R965). -/
inductive TripCause where
  | engineMiss
  | engineSig
  | pilotWd
  | pilotSig
  | role
  | link
  deriving DecidableEq, Repr

/-- A fuse command (R164): program a blank key slot or set a revoke bit, signed with the key of a slot or not at all. -/
inductive FuseCmd where
  | program (slot : Fin 4) (hash : BitVec 256)
  | revoke (slot : Fin 4)
  deriving DecidableEq, Repr

/-- What a transaction of a host port begins with (R199): the instruction byte and the address. -/
structure PortAddr where
  instr : Byte
  at_   : BitVec 16
  deriving DecidableEq, Repr

/-- The commands and events of the block, one constructor per row of the opcode table, in the table's order. -/
inductive Instr where
  | powerGood
  | brownOut (below : BitVec 4)
  | rstNAssert
  | rstNRelease (bootsel : BitVec 2) (mpref : Bool)
  | timeBaseLock
  | tbNoLock
  | halfDigestReady (h : Side) (answers0 answers1 : Bool) (reqA reqB : Bool)
  | halfBootFail (h : Side)
  | prefWaitExpiry
  | discoveryEnd
  | downloadChunk (p : Side) (len : BitVec 13)
  | fuseCommand (cmd : FuseCmd) (signer : Option (Fin 4))
  | delayLineCal (within : Bool)
  | refLoss
  | sensorWindowEnd (counts : Vector Nat 16) (temps : Vector Int 24)
  | captureEdge (c : Fin 32) (rising : Bool)
  | sampleEvent (q : QuayNo) (legs : List LegSample) (vm : BitVec 14)
  | updatePoint (q : QuayNo)
  | traceCapture (r : Fin 16) (share : Bool)
  | sdcResync (m : Fin 4)
  | emulationTiming (k : CellNo)
  | timedEvent (slot : Fin 256)
  | snapshotComplete (q : QuayNo)
  | inputDeadline (q : QuayNo)
  | iterationComplete (q : QuayNo) (e : Estimates)
  | legCommandArrival (l : LegNo) (h : Side) (claim : Claim) (src : LegCmdSource)
  | gateWatch (l : LegNo) (sw : Switch)
  | gateOnUncommanded (l : LegNo) (sw : Switch)
  | gateOnTimeout (l : LegNo) (sw : Switch)
  | bootRefresh (l : LegNo)
  | refreshRepeat (l : LegNo)
  | bootUv (l : LegNo)
  | bootUvClear (l : LegNo)
  | shortCircuit (l : LegNo) (d : Detector) (current : Int)
  | blankingEnd (l : LegNo) (current : Int)
  | vmOv (d : DieNo) (mv : Nat)
  | vmUv (d : DieNo) (mv : Nat)
  | chopperOn (c : ChopperRef)
  | chopperOff (c : ChopperRef)
  | chopperLong (m : Fin 4)
  | enableLow (g : GroupNo)
  | enableToggle (g : GroupNo)
  | haltAssert (ch : Side)
  | haltRelease (ch : Side)
  | haltDisc
  | fbEdge (k : CellNo) (a b : Bool)
  | hallChange (k : CellNo) (st : BitVec 3)
  | indexLatch (k : CellNo)
  | fbWire (k : CellNo)
  | ssiFrameEnd (k : CellNo) (frame : SsiFrame)
  | sincosConversion (k : CellNo) (sin cos : BitVec 16)
  | quadrantChange (k : CellNo) (a b : Bool)
  | fbStillTimeout (k : CellNo)
  | comparePulseEnd (k : CellNo)
  | probeEdge (q : QuayNo) (rising : Bool)
  | sdValueReady (n : Fin 16) (bits : List Bool)
  | sdOverrange (n : Fin 16)
  | limitInputChange (q : QuayNo) (side : LimitSide) (shown : LimitLevel)
  | armComplete (q : QuayNo)
  | armTimeout (q : QuayNo)
  | stopDwellExpiry (q : QuayNo)
  | moveArrival (q : QuayNo)
  | holdDelayExpiry (q : QuayNo)
  | catchTimeout (q : QuayNo)
  | observeWindowEnd (q : QuayNo)
  | ifTimeout (q : QuayNo)
  | speedError (q : QuayNo)
  | tensionDwellExpiry (q : QuayNo)
  | tensionHigh (q : QuayNo)
  | ibexSaturationStall (q : QuayNo)
  | homeStallDetect (q : QuayNo)
  | mirrorRefresh (q : QuayNo)
  | signalDetect (n : LaneNo)
  | trainingComplete (l : LinkRef)
  | gwPong (n : LaneNo) (seq : BitVec 8) (turnaround : BitVec 32)
  | gwIdent (n : LaneNo) (ident : Ident)
  | identTimeout (n : LaneNo)
  | gwTrainFail (n : LaneNo)
  | trainRetry (n : LaneNo)
  | gwSyncSend (n : LaneNo)
  | gwStatus (n : LaneNo) (frame : StatusFrame)
  | laneLoss (n : LaneNo)
  | gwBadFrame (n : LaneNo) (reason : BadFrame)
  | hwPortUp (p : Side)
  | hwPortLoss (p : Side)
  | hwDiscSend
  | hwDisc (p : Side) (hdr : HwHeader) (disc : HwDisc)
  | hwTopo (p : Side) (hdr : HwHeader) (lost : Bool) (port : Side)
  | hwTimeSend
  | hwTime (p : Side) (hdr : HwHeader) (stamp : BitVec 64) (correction : BitVec 32)
  | hwAlignLost
  | hwPing (p : Side)
  | hwPong (p : Side) (turnaround : BitVec 32)
  | hwShare (p : Side) (hdr : HwHeader) (share : HwShare)
  | hwShareStat (p : Side) (hdr : HwHeader) (stat : HwShareStat)
  | memberWindowEnd
  | hwBadFrame (p : Side) (reason : BadFrame)
  | faultArrival (i : Nat)
  | faultOrdered
  | conseqWindowEnd (i : Nat)
  | errPulseEnd
  | fabricStall
  | scrubPass (findings : List ScrubFinding)
  | checkTrip (h : Side) (cause : TripCause) (engine : BitVec 8)
  | heartbeatTimeout (h : Side)
  | checkSelftest (h : Side) (pass : Bool)
  | halfRejoin (h : Side)
  | ihChange
  | ihChangeAck
  | ihForward
  | ihForwardReply
  | ihKstate
  | ihPatch (ok : Bool)
  | ihAliveSend (h : Side)
  | halfLink
  | forwardTimeout
  | mforceAssert (h : Side)
  | mforceRelease (h : Side)
  | supplyWarning (rail : Rail) (side : LowHigh) (value : Int)
  | vgdHold (d : DieNo)
  | vgdHoldRelease (d : DieNo)
  | arm (p : Side) (mbx : MbxNo) (r : Req)
  | disarm (p : Side) (mbx : MbxNo) (r : Req)
  | start (p : Side) (mbx : MbxNo) (r : Req)
  | stop (p : Side) (mbx : MbxNo) (r : Req)
  | quickstop (p : Side) (mbx : MbxNo) (r : Req)
  | hold (p : Side) (mbx : MbxNo) (r : Req)
  | move (p : Side) (mbx : MbxNo) (r : Req)
  | moveGroup (p : Side) (mbx : MbxNo) (r : Req)
  | jog (p : Side) (mbx : MbxNo) (r : Req)
  | home (p : Side) (mbx : MbxNo) (r : Req)
  | setSpeed (p : Side) (mbx : MbxNo) (r : Req)
  | setAccel (p : Side) (mbx : MbxNo) (r : Req)
  | setTorqueLimit (p : Side) (mbx : MbxNo) (r : Req)
  | ackFault (p : Side) (mbx : MbxNo) (r : Req)
  | detach (p : Side) (mbx : MbxNo) (r : Req)
  | attach (p : Side) (mbx : MbxNo) (r : Req)
  | paramRead (p : Side) (mbx : MbxNo) (r : Req)
  | paramStage (p : Side) (mbx : MbxNo) (r : Req)
  | commit (p : Side) (mbx : MbxNo) (r : Req)
  | stageClear (p : Side) (mbx : MbxNo) (r : Req)
  | paramInfo (p : Side) (mbx : MbxNo) (r : Req)
  | traceConfig (p : Side) (mbx : MbxNo) (r : Req)
  | traceArm (p : Side) (mbx : MbxNo) (r : Req)
  | traceStop (p : Side) (mbx : MbxNo) (r : Req)
  | traceRead (p : Side) (mbx : MbxNo) (r : Req)
  | flashWrite (p : Side) (mbx : MbxNo) (r : Req)
  | setTorque (p : Side) (mb : Fin 4) (m : C0Msg)
  | c0SetSpeed (p : Side) (mb : Fin 4) (m : C0Msg)
  | setTension (p : Side) (mb : Fin 4) (m : C0Msg)
  | setSpeedTorque (p : Side) (mb : Fin 4) (m : C0Msg)
  | c0Quickstop (p : Side) (mb : Fin 4) (m : C0Msg)
  | c0Stop (p : Side) (mb : Fin 4) (m : C0Msg)
  | quickRelease (p : Side) (mb : Fin 4) (m : C0Msg)
  | c0Frame (p : Side) (mb : Fin 4)
  | devtimeLoRead (p : Side)
  | capTimeLoRead (p : Side) (c : Fin 32)
  | evqTailWrite (p : Side) (v : BitVec 4)
  | errPinHoldWrite (p : Side) (level : Bool)
  | registerWrite (p : Side) (addr : PortAddr) (data : List Byte) (incomplete : Bool)
  | discExpiry (device : BitVec 3)
  | rxOkSet (l : LinkRef)
  | fbWireClear (k : CellNo)
  | supplyWarningEnd (rail : Rail) (side : LowHigh)
  | ihAck
  deriving DecidableEq, Repr

end Sys2Proof
end

