-- ==== Sys2Proof/WellFormed.lean ====
section
/-! DEFINITION. Which commands can be spelled on the device's interfaces: mailbox of the row's class, message sizes, frame
sizes. The meanings are total and do not rely on it. -/

namespace Sys2Proof

/-- Mailboxes of class 1: MB4 to MB11 (R208). -/
def MbxNo.isClass1 (m : MbxNo) : Bool := decide (4 ≤ m.val ∧ m.val ≤ 11)
/-- Mailboxes of class 2: MB12 to MB23 (R208). -/
def MbxNo.isClass2 (m : MbxNo) : Bool := decide (12 ≤ m.val ∧ m.val ≤ 23)
/-- Mailboxes of class 3: MB24 to MB31 (R208). -/
def MbxNo.isClass3 (m : MbxNo) : Bool := decide (24 ≤ m.val)

/-- A message of class 1 or 2 fits its buffer of 256 bytes (R208, R213). -/
def Req.wfShort (r : Req) : Bool := decide (r.payload.length ≤ 246) && decide (r.trailer.length = 2)
/-- A message of class 3 fits its buffer of 4,096 bytes (R208, R213). -/
def Req.wfLong (r : Req) : Bool := decide (r.payload.length ≤ 4084) && decide (r.trailer.length = 4)

/-- A status frame carries 1 to 8 entries (R835). -/
def StatusFrame.wf (f : StatusFrame) : Bool := decide (1 ≤ f.entries.length ∧ f.entries.length ≤ 8)

/-- A Hawser frame from a peer arrives with a TTL of at most 8 (R866). -/
def HwHeader.wf (h : HwHeader) : Bool := decide (h.ttl.toNat ≤ 8)

/-- The command can be spelled on the device's interfaces. -/
def Instr.wellFormed : Instr → Bool
  | .arm _ m r | .disarm _ m r | .start _ m r | .stop _ m r | .quickstop _ m r | .hold _ m r | .move _ m r
  | .moveGroup _ m r | .jog _ m r | .home _ m r | .setSpeed _ m r | .setAccel _ m r | .setTorqueLimit _ m r
  | .ackFault _ m r | .detach _ m r | .attach _ m r => m.isClass1 && r.wfShort
  | .paramRead _ m r | .paramStage _ m r | .commit _ m r | .stageClear _ m r | .paramInfo _ m r | .traceConfig _ m r
  | .traceArm _ m r | .traceStop _ m r => m.isClass2 && r.wfShort
  | .traceRead _ m r | .flashWrite _ m r => m.isClass3 && r.wfLong
  | .gwStatus _ f => f.wf
  | .hwDisc _ h _ | .hwTopo _ h _ _ | .hwTime _ h _ _ | .hwShare _ h _ | .hwShareStat _ h _ => h.wf
  | .registerWrite _ _ d inc => decide (d ≠ []) || inc
  | _ => true

end Sys2Proof
end

