-- ==== Sys2Proof/Config.lean ====
section
/-! DEFINITION. What the manual leaves open: each is an opaque constant, of which no proof can see a value. A free value is
drawn at the counter `State.free`. Log entries are named beside each constant. -/

namespace Sys2Proof.Config

/-- A free 32-bit word for each draw (log entry 3). -/
opaque freeWord : Nat → Word
/-- A free bit for each draw (log entry 3). -/
opaque freeBit : Nat → Bool
/-- A free rational value for each draw (log entry 3). -/
opaque freeRat : Nat → Rat
/-- A free integer for each draw (log entry 3). -/
opaque freeInt : Nat → Int
/-- What a flash byte becomes when the given byte is written over the given one without an erase (log entry 6). -/
opaque flashProgram : Byte → Byte → Byte
/-- The sine of an angle, held within its bounds by `Machine.sinTurn` (log entry 12). -/
opaque sinTurn : Word → Rat
/-- The root of a value, held within its bounds by `Machine.sqrtQ` (log entry 12). -/
opaque sqrtQ : Rat → Rat
/-- The angle of the vector (x, y), y first, held within its bounds by `Machine.atan2Turn` (log entry 12). -/
opaque atan2Turn : Rat → Rat → Int
/-- Coefficient of a first-order filter: bandwidth or time constant, and period; held from 0 to 1 by `Machine.filterGain` (log entry 12). -/
opaque filterGain : Rat → Rat → Rat
/-- A reported quantity that lies between two raw values takes the upper one (log entry 13). -/
opaque roundUp : Rat → Bool
/-- The raw Q8.24 word of a reported quantity beyond the range of the format (log entry 13). -/
opaque beyondQ24 : Rat → Word

/-- The number of radians in a full turn, held within its bounds by `Machine.twoPi` (log entry 12). -/
opaque twoPi : Rat
/-- The back-EMF and current estimates of an observer after a period: from its gain, the machine's resistance, inductances and ω_base times the
period, and from the estimates before, voltage and measured current, all in the stationary frame (log entry 26). -/
opaque emfObserver : Rat → List Rat → List (Rat × Rat) → (Rat × Rat) × (Rat × Rat)
/-- The gains of a phase-locked loop of a bandwidth and period, for angle and speed (log entry 26). -/
opaque pllGains : Rat → Rat → Rat × Rat
/-- The share of the current model in the flux estimate, of the speed over the speed at which it ends; held from 0 to 1 (log entry 26). -/
opaque fluxBlend : Rat → Rat
/-- The gain of the amplitude regulator of quiet mode, of a bandwidth and period (log entry 26). -/
opaque quietGain : Rat → Rat → Rat
/-- The load fraction λ from the coil voltages that the regulators need and those that the winding model predicts (log entry 26). -/
opaque loadFraction : Rat × Rat → Rat × Rat → Rat
/-- The signature record of a unit of a half at a draw (log entry 43). -/
opaque signature : Nat → Nat → Word
/-- The parameter values that a table section of an image sets: the manual gives the section no layout (log entry 32). -/
opaque imageTables : List Byte → List (Nat × Word)

/-- The pair of levels, in the order of R344, that the emulation of a cell shows for E = 0: the manual gives none (log entry 27). -/
opaque emuOrigin : Nat → Int

end Sys2Proof.Config
end

