-- ==== Sys2Proof/Machine/State.lean ====
section
/-! DEFINITION. The state of the WV-2480 as plain data, with the value every field has right after reset (the default of
its field), and the reasons a step can stop. -/

namespace Sys2Proof.Machine

/-- Faults: none. No command stops the machine: each failure the manual describes is an effect on the state. -/
inductive Fault where
  /-- Raised by no command; safe. -/
  | none
  deriving DecidableEq, Repr

/-- Refusals. -/
inductive Refusal where
  /-- Raised by an arm of `exec` whose command has no meaning yet; safe. -/
  | notModelled (mnemonic : String)
  deriving DecidableEq, Repr

/-! ### Fuses, boot and protection set -/

/-- Fuses and mask contents (R7, R103, R160, R163, R191, R853, R866): they survive every reset. Log entry 5. -/
structure Fuses where
  pkgC0     : Bool := false
  key       : Vector (Option (BitVec 256)) 4 := Vector.replicate 4 none
  revoked   : Vector Bool 4 := Vector.replicate 4 false
  debugLock : Bool := false
  cMin      : Vector Nat 16 := Vector.replicate 16 18000
  romRev    : Word := 0
  serial    : Dword := 0
  dieSerial : Vector Dword 2 := Vector.replicate 2 0
  deriving DecidableEq, Repr

/-- Where the boot sequence stands (R137). -/
inductive BootStage where
  | inReset
  | lockWait
  | imageRead
  | discovery
  | ready
  | halted
  deriving DecidableEq, Repr

/-- What one half has presented: the image it accepted, or the cause and detail of its failure (R133, R165, R166). -/
inductive HalfBoot where
  | nothing
  | passed (slot : Bool) (digest : BitVec 256)
  | failed (cause : Byte) (detail : U16)
  deriving DecidableEq, Repr

/-- Boot registers and progress (R129 to R146). -/
structure Boot where
  powerGood  : Bool := false
  rstN       : Bool := false
  stage      : BootStage := .inReset
  phase      : BitVec 4 := 0
  bootsel    : BitVec 2 := 0
  mpref      : Bool := false
  haltCause  : Byte := 0
  haltDetail : U16 := 0
  src        : BitVec 2 := 0
  sealed     : Bool := false
  debugPolicy : BitVec 2 := 1
  debugOpen  : Bool := false
  boundVoid  : Bool := false
  imgBl      : Byte := 0
  imgFormat  : U16 := 0
  imgSeq     : Word := 0
  imgDigest  : Word := 0
  commitCount : Word := 0
  c0Drop     : U16 := 0
  half       : Pair HalfBoot := ⟨.nothing, .nothing⟩
  digestAt   : Nat := 0
  step10At   : Nat := 0
  prefWaitAt : Option Nat := none
  patchCrc   : Option Word := none
  deriving DecidableEq, Repr

/-- Download through a host port (R146 to R151); the bytes received form a canonical list of cells. -/
structure Download where
  image  : List Host.Cell := []
  next   : Nat := 0
  active : Bool := false
  wait   : Bool := false
  done   : Bool := false
  seqErr : Bool := false
  deriving DecidableEq, Repr

/-- Reaction and counting entry of one fault source (R918, R919). -/
structure SourceEntry where
  src        : Nat
  base       : Nat
  severe     : Nat
  n          : Nat
  t          : Nat
  rBase      : Nat
  rSevere    : Nat
  latchBase  : Bool
  latchSevere : Bool
  conseq     : Byte
  deriving DecidableEq, Repr

/-- Kinds of owner (R178). -/
inductive Owner where
  | unassigned
  | quay (q : QuayNo)
  | device
  | pool
  deriving DecidableEq, Repr

/-- One ownership entry (R177 to R179): the resource class and index, its owner and argument. -/
structure Ownership where
  cls   : Nat
  index : Nat
  owner : Owner
  arg   : Nat
  deriving DecidableEq, Repr

/-- One roster entry (R848). -/
structure RosterEntry where
  lane     : Nat
  legs     : Nat
  unitType : Nat
  fwMin    : Nat
  capsReq  : Word
  serial   : Dword
  deriving DecidableEq, Repr

/-- The parts of the protection set that are no parameter (R169); the boot ROM writes them from the image. -/
structure Prot where
  sources   : List SourceEntry := []
  owners    : List Ownership := []
  roster    : List RosterEntry := []
  hmPolicy  : Nat := 0
  hmForce   : Bool := false
  hmPrefWait : Nat := 0
  hwAddress : Word := 0
  hwTimePrio : Byte := 0
  deriving DecidableEq, Repr

/-- Who holds a pool resource claimed at runtime (R181). -/
inductive Claimant where
  | capture (c : Fin 32)
  | probe (q : QuayNo)
  | compare (k : CellNo)
  | emulation (k : CellNo)
  | ssi (k : CellNo)
  | sdClock (m : Fin 4)
  | trace (r : Fin 16)
  | timed (slot : Fin 256)
  | hostIrq (p : Side)
  deriving DecidableEq, Repr

/-- A runtime claim: resource class, index, claimant. -/
structure PoolClaim where
  cls   : Nat
  index : Nat
  by_   : Claimant
  deriving DecidableEq, Repr

/-! ### Time base, temperatures, supplies -/

/-- A time-capture register (R95, R96). -/
structure Capture where
  level   : Bool := false
  fresh   : Bool := false
  overrun : Bool := false
  time    : Nat := 0
  count   : Word := 0
  deriving DecidableEq, Repr

/-- An event slot in use (R98 to R100): period and phase in force, and those that take effect after the next firing. -/
structure EventSlot where
  slot   : Fin 256
  period : Nat
  phase  : Nat
  next   : Option (Nat × Nat)
  deriving DecidableEq, Repr

/-- The time-base island (R82 to R102, R450). `sdc` is the device time of a rising edge of each sigma-delta clock output. `slewLeft` is
what a correction has still to insert or remove, in ticks, and `slewAcc` how far the next fine step has come, in 0.1 ppm of a tick (R89). -/
structure TimeBase where
  now      : Nat := 0
  lock     : Bool := false
  backup   : Bool := false
  slewing  : Bool := false
  calOk    : Bool := false
  slewRate : Int := 0
  slewLeft : Int := 0
  slewAcc  : Nat := 0
  cap      : Vector Capture 32 := Vector.replicate 32 {}
  slots    : List EventSlot := []
  sdc      : Vector Int 4 := Vector.replicate 4 0
  devHi    : Pair Word := ⟨0, 0⟩
  capHi    : Pair (Vector Word 32) := ⟨Vector.replicate 32 0, Vector.replicate 32 0⟩
  deriving DecidableEq, Repr

/-- Temperatures, margins and throttling (R103 to R108, R989 to R1004, R1016). A temperature is `none` while its sensor is
invalid. -/
structure Thermal where
  temp     : Vector (Option Int) 24 := Vector.replicate 24 (some 0)
  margin   : Vector Int 16 := Vector.replicate 16 0
  clearRun : Nat := 0
  inRun    : Bool := false
  factor   : Vector Rat 2 := Vector.replicate 2 1
  factorOld : Vector Rat 2 := Vector.replicate 2 1
  factorAt : Nat := 0
  share    : Rat := 1
  shut     : Vector Bool 2 := Vector.replicate 2 false
  ctlHot   : Bool := false
  episode  : Vector Bool 3 := Vector.replicate 3 false
  deriving DecidableEq, Repr

/-- Supply monitors (R1005 to R1014) and the VM of each die (R767, in mV). -/
structure Supply where
  vcoreLow  : Bool := false
  vcoreHigh : Bool := false
  vio33Out  : Bool := false
  vio18Out  : Bool := false
  vana18Out : Bool := false
  vgdLow    : Vector Bool 2 := Vector.replicate 2 false
  vgdHigh   : Vector Bool 2 := Vector.replicate 2 false
  vgdHold   : Vector Bool 2 := Vector.replicate 2 false
  cause     : BitVec 5 := 0
  vm        : Vector Rat 2 := Vector.replicate 2 0
  deriving DecidableEq, Repr

/-! ### Halves and the Harbourmaster -/

/-- `half.state` (R987). -/
inductive HalfState where
  | reset
  | selfTest
  | rejoining
  | shadow
  | inCharge
  deriving DecidableEq, Repr

/-- Check core memory of a half (R34): for each quay the consecutive iterations that took longer than their kernel may (R965), and the latest
signature record of each of the six loop engines and of the Pilot. -/
structure CheckMem where
  missed : Vector Nat 12 := Vector.replicate 12 0
  sigs   : Vector Word 7 := Vector.replicate 7 0
  deriving DecidableEq, Repr

/-- One half (R957 to R987). `tables` is its half-shared table store, `roster` its copy of the discovery roster and `check` the memory of its Check
core (R34, R36). -/
structure Half where
  run      : Bool := false
  selfOk   : Bool := false
  held     : Bool := false
  req      : Bool := false
  patchOk  : Bool := false
  coreSync : Bool := false
  mismatch : Word := 0
  resets   : Word := 0
  rejoinUs : Word := 0
  mismatchAt : List Nat := []
  mismatchKeys : List (QuayNo × Nat) := []
  roleRecAt : Option Nat := none
  resetAt  : Nat := 0
  tables   : List (Nat × Word) := []
  roster   : List RosterEntry := []
  check    : CheckMem := {}
  deriving DecidableEq, Repr

/-- The Harbourmaster (R940 to R959, R985). -/
structure Harbour where
  grant     : Option Side := none
  everGranted : Bool := false
  force     : Pair Bool := ⟨false, false⟩
  forcePend : Bool := false
  admission : Vector Bool 12 := Vector.replicate 12 false
  synced    : Vector Bool 12 := Vector.replicate 12 false
  failovers : Word := 0
  lastMove  : Nat := 0
  deriving DecidableEq, Repr

/-! ### Faults -/

/-- Context of a record (R922, R785): byte 16, byte 17, byte 18, bytes 20 to 23, bytes 24 to 31. -/
structure Ctx where
  inst  : Byte := 0
  b17   : Byte := 0
  sub   : Byte := 0
  value : Word := 0
  tail  : Dword := 0
  deriving DecidableEq, Repr

/-- A fault on its way to or inside the collector (R893 to R895): its source, its time, the scope byte of its record, the
quays in its scope, its context, the legs whose Bollard latch its detector set, its suspect, and whether R816 counts it
severe. -/
structure FaultEvent where
  src     : Nat
  time    : Nat
  scope   : Byte
  quays   : List QuayNo
  ctx     : Ctx
  latched : List LegNo
  suspect : Nat
  forceSevere : Bool
  deriving DecidableEq, Repr

/-- A fault in the ordering stage: with the device time of its arrival. -/
structure Staged where
  ev      : FaultEvent
  arrived : Nat
  deriving DecidableEq, Repr

/-- A log record (R922) with the quays in its scope and those that have acknowledged it (R935). -/
structure Record where
  no       : Nat
  time     : Nat
  src      : Nat
  severity : Nat
  coincident : Bool
  consequential : Bool
  merged   : Bool
  escalated : Bool
  severe   : Bool
  acked    : Bool
  ackedAt  : Nat
  latch    : Bool
  hard     : Bool
  scope    : Byte
  reaction : Nat
  count    : Nat
  ctx      : Ctx
  quays    : List QuayNo
  ackedBy  : List QuayNo
  deriving DecidableEq, Repr

/-- A counting window (R898). -/
structure CountWindow where
  src   : Nat
  scope : Byte
  since : Nat
  count : Nat
  isOpen : Bool
  deriving DecidableEq, Repr

/-- A consequence window (R907): its code, the time at which it opened, its quays (every quay where `all`), end and record. -/
structure ConseqWindow where
  code  : Nat
  since : Nat
  quays : List QuayNo
  all   : Bool
  until_ : Nat
  record : Nat
  deriving DecidableEq, Repr

/-- The fault collector (R885 to R939). The log holds every record since reset, newest first; the mirror shows the last 256. -/
structure Collector where
  transit  : List FaultEvent := []
  stage    : List Staged := []
  windows  : List CountWindow := []
  log      : List Record := []
  total    : Nat := 0
  devFirst : Option Nat := none
  conseq   : List ConseqWindow := []
  devSafe  : Bool := false
  hardSafe : Bool := false
  errHold  : Bool := false
  pulseUntil : Option Nat := none
  events   : List (Nat × Word) := []
  suspects : List (QuayNo × Nat × Nat) := []
  deriving DecidableEq, Repr

/-! ### Host ports -/

/-- One mailbox: request and reply buffers and the kept reply (R208, R230). Buffers are canonical lists of cells. -/
structure Mailbox where
  req  : List Host.Cell := []
  rep  : List Host.Cell := []
  kept : Option (U16 × List Byte) := none
  deriving DecidableEq, Repr

/-- An event-queue entry as the collector of bytes of R235. -/
abbrev EvqEntry := List Byte

/-- One host port (R198 to R267, R929). `held` are rung mailboxes whose requests follow an earlier one that has not been executed (R228). -/
structure Port where
  mbx      : Vector Mailbox 32 := Vector.replicate 32 {}
  done     : Word := 0
  busy     : Word := 0
  irqEn    : Word := 0
  irqBound : Bool := false
  irqBack  : Bool := false
  irqLost  : Bool := false
  irqRole  : Bool := false
  irqFault : Bool := false
  hostIrqEn : BitVec 7 := 0
  mbx3Sel  : BitVec 3 := 0
  spiErr   : BitVec 6 := 0
  evqHead  : BitVec 4 := 0
  evqTail  : BitVec 4 := 0
  evq      : Vector EvqEntry 16 := Vector.replicate 16 []
  evqOvf   : U16 := 0
  c0Refused : U16 := 0
  c0Accepted : U16 := 0
  logPage  : Bool := false
  dlLen    : BitVec 13 := 0
  dlOffset : Word := 0
  staging  : List (Word × Word) := []
  held     : List MbxNo := []
  deriving DecidableEq, Repr

/-! ### Inter-half channel -/

/-- An accepted command still in progress (R234). -/
structure AcceptedOp where
  port   : Side
  mbx    : MbxNo
  cls    : BitVec 2
  opcode : Byte
  seq    : U16
  target : U16
  forwarded : Bool
  deriving DecidableEq, Repr

/-- A command in service: the message as read from its request buffer. -/
structure Msg where
  port    : Side
  mbx     : MbxNo
  byte0   : Byte
  opcode  : Byte
  seq     : U16
  target  : U16
  payload : List Byte
  deriving DecidableEq, Repr

/-- Result of a command: status, advice and result data after the result block (R217). -/
structure Result where
  status : Byte
  advice : U16
  data   : List Byte
  deriving DecidableEq, Repr

/-- Modes of a quay (R328). -/
inductive Mode where
  | none
  | torque
  | speed
  | tension
  | position
  deriving DecidableEq, Repr

/-- Axis states (chapter 05). -/
inductive AxisState where
  | off
  | armed
  | catching
  | running
  | stopping
  | hold
  | homing
  | faulted
  | safe
  deriving DecidableEq, Repr

/-- How a quay in STOPPING decelerates. -/
inductive StopKind where
  | none
  | ramp
  | quick
  deriving DecidableEq, Repr

/-- A motion in progress (R590): its target, or the distance of a relative one until it starts (R593); the speed of a jog; whether it is
an axis of a group motion; whether it has been ended and only comes to rest (R597); whether it has started and must first come to a stop
before it turns (R591). -/
structure Motion where
  target : Int
  rel    : Option Int
  jog    : Option Rat
  group  : Bool
  halted : Bool
  started : Bool
  turn   : Bool
  deriving DecidableEq, Repr

/-- A homing run (R620 to R630): method, home position, phase (0 seek, 1 creep back, 2 back-off, 3 failed, 4 at its end), the position last seen
with the path so far (R629), and the latch count of the index at the start. -/
structure Homing where
  method : Nat
  homePos : Int
  phase  : Nat
  lastPos : Int
  travel : Int
  latches : Nat
  deriving DecidableEq, Repr

/-- The state machine of one quay (R270), of which the shadow keeps a copy (R277). `byGen` says that its stop runs on the profile
generator (R607, R1075) and not on the speed loop (R608); `sigma` is the catch direction (R675); `endedOp` is a motion ended and
replaced before it came to rest (R597); `entries` counts the entries into RUNNING, by which an iteration tells a new one (R462, R577). -/
structure AxisCore where
  st       : AxisState := .off
  mode     : Mode := .none
  stAt     : Nat := 0
  armOp    : Option AcceptedOp := Option.none
  startOp  : Option AcceptedOp := Option.none
  motionOp : Option AcceptedOp := Option.none
  endedOp  : Option AcceptedOp := Option.none
  homeOp   : Option AcceptedOp := Option.none
  armAt    : Nat := 0
  stop     : StopKind := .none
  byGen    : Bool := false
  sigma    : Int := 0
  homed    : Bool := false
  homing   : Option Homing := Option.none
  motion   : Option Motion := Option.none
  release  : Bool := false
  entries  : Nat := 0
  deriving DecidableEq, Repr

/-- Messages of the inter-half channel (R982). -/
inductive IhMsg where
  | change (q : QuayNo) (core : AxisCore) (posted : Nat)
  | changeAck (q : QuayNo)
  | forward (m : Msg) (staging : List (Word × Word)) (at_ : Nat)
  | forwardReply (m : Msg) (r : Result)
  | kstate (q : QuayNo)
  | patch
  | alive
  deriving DecidableEq, Repr

/-- The inter-half channel: messages on their way from each half, oldest first, and the times of the messages not yet
acknowledged (R963, R981 to R983). -/
structure Channel where
  from_    : Pair (List IhMsg) := ⟨[], []⟩
  unacked  : Pair (List Nat) := ⟨[], []⟩
  changes  : List (QuayNo × Nat) := []
  waiting  : List (Msg × Nat) := []
  linkDown : Bool := false
  linkSince : Nat := 0
  deriving DecidableEq, Repr

/-! ### Quays -/

/-- What the acceptance table of R246 answers for a class-0 opcode. -/
inductive C0Judge where
  | accept
  | done
  | refuse
  deriving DecidableEq, Repr

/-- The class-0 buffer of a quay and its acceptance table (R243 to R246); references as raw Q2.14 values. -/
structure C0Buffer where
  torque  : U16 := 0
  speed   : U16 := 0
  tension : U16 := 0
  ff      : U16 := 0
  quick   : Bool := false
  stop    : Bool := false
  release : Bool := false
  jSet    : C0Judge := .refuse
  jStop   : C0Judge := .done
  jQuick  : C0Judge := .done
  jRelease : C0Judge := .refuse
  deriving DecidableEq, Repr

/-- An input of a quay's snapshot (R58, R74, R566). -/
inductive InputId where
  | lane (n : LaneNo)
  | cell (k : CellNo)
  | sd (n : Fin 16)
  | share
  deriving DecidableEq, Repr

/-- What a cell delivers to its quay (R393); `status` is `fb.status`. -/
structure CellView where
  cell   : CellNo
  status : Word
  pos    : Int
  speed  : Rat
  still  : Bool
  provisional : Bool
  bad    : Bool
  hall   : Option (BitVec 3)
  lastEdge : Nat
  dir    : Int
  latches : Nat
  latch  : Int
  deriving DecidableEq, Repr

/-- The input snapshot of a quay (R44, R74, R75, R960): open while inputs are awaited, complete once closed and not yet iterated. `legs`,
`volts`, `sdv`, `dc` and `vm` are the inputs as they arrived: currents in mA, phase voltages in mV, sigma-delta values, DC voltages of lanes
and VM in mV; an input that
does not arrive keeps the value of the snapshot before (R75). `closedAt` is when it closed (R76). -/
structure Snapshot where
  closedAt : Nat := 0
  legs     : List (LegNo × Option Rat) := []
  volts    : List (LegNo × Rat) := []
  sdv      : List (Nat × Rat) := []
  dc       : List (Nat × Rat) := []
  vm       : Rat := 0
  isOpen   : Bool := false
  complete : Bool := false
  time     : Nat := 0
  missing  : List InputId := []
  stale    : List InputId := []
  currents : List (LegNo × Option Rat) := []
  udc      : Rat := 0
  sdTension : Rat := 0
  cells    : List CellView := []
  torque   : Rat := 0
  speed    : Rat := 0
  tension  : Rat := 0
  ff       : Rat := 0
  quick    : Bool := false
  stop     : Bool := false
  release  : Bool := false
  limP     : Bool := false
  limN     : Bool := false
  share    : Option HwShare := none
  deriving DecidableEq, Repr

/-- A three-phase current or voltage vector in the rotor frame. -/
structure Dq where
  d : Rat := 0
  q : Rat := 0
  deriving DecidableEq, Repr

/-- State of the torque, speed, current and observer layers (chapters 07, 08, 10). Times are those of the sample event from which a
condition has held. `prevSt`, `prevMode` and `prevRun` are state, mode and entries into RUNNING at the iteration before. `uStat` is the voltage
vector of each set last applied, in the stationary frame (R446); `obsVolts` the phase voltages the observers took in the iteration (R502), in pu.
The observers (R500 to R503) hold their angle and speed, the estimated back-EMF, current and rotor flux and the current measured last, all in
the stationary frame; `nBefore` is their speed of the iteration before (R512), `nUg` that of the last iteration and `lossUg` that of a loss (R512).
`clampOn` says that the speed clamp acted (R540), `nAcc` is the slope of a jerk-limited stop ramp (R606), `ifSign` the sign of the current of
current-frequency mode, `limBoth` that both limit inputs are active (R618). -/
structure Regs where
  prevSt   : AxisState := .off
  prevMode : Mode := .none
  prevRun  : Nat := 0
  thetaE   : Word := 0
  thetaM   : Word := 0
  n        : Rat := 0
  nf       : Rat := 0
  nHat     : Rat := 0
  lHat     : Rat := 0
  demand   : Rat := 0
  presetD  : Option Rat := none
  nRef     : Rat := 0
  reference : Rat := 0
  tStar    : Rat := 0
  integ    : Rat := 0
  clampInt : Rat := 0
  clampOn  : Bool := false
  nAcc     : Rat := 0
  reducedPos : Bool := false
  reducedNeg : Bool := false
  iInt     : Dq := {}
  balInt   : Vector Dq 4 := Vector.replicate 4 {}
  iMeas    : Dq := {}
  uCmd     : Dq := {}
  uSets    : Vector Dq 4 := Vector.replicate 4 {}
  uStat    : Vector Dq 4 := Vector.replicate 4 {}
  obsVolts : List Rat := []
  obsAngle : Word := 0
  obsSpeed : Rat := 0
  obsEmf   : Dq := {}
  obsCur   : Dq := {}
  obsFlux  : Dq := {}
  obsLast  : Dq := {}
  nBefore  : Rat := 0
  psiR     : Rat := 0
  slip     : Rat := 0
  fluxUp   : Bool := false
  adv      : Word := 0
  udc      : Rat := 0
  nUg      : Rat := 0
  lossUg   : Rat := 0
  residual : Rat := 0
  pllErr   : Word := 0
  torque   : Rat := 0
  voltLimit : Bool := false
  torqueLim : Bool := false
  vlimRun  : Nat := 0
  vlimDone : Bool := false
  imbRun   : Vector Nat 4 := Vector.replicate 4 0
  overRun  : Nat := 0
  followRun : Nat := 0
  dropped  : Vector Bool 4 := Vector.replicate 4 false
  sensorless : Bool := false
  encOffset : Word := 0
  encDiffs : List Word := []
  obsOffset : Word := 0
  obsDiffs : List Word := []
  fallback : Bool := false
  encSwitch : Bool := false
  ready    : Bool := false
  residRun : Nat := 0
  lockRun  : Nat := 0
  okRun    : Nat := 0
  lossSpeed : Rat := 0
  lossShort : Bool := false
  ifMode   : Bool := false
  ifFreq   : Rat := 0
  ifSign   : Rat := 1
  ifAngle  : Word := 0
  ifSince  : Option Nat := none
  ifStart  : Bool := false
  handover : Nat := 0
  handDiff : Word := 0
  catchPhase : Nat := 0
  caught   : Rat := 0
  windowAt : Nat := 0
  emf      : Rat := 0
  searchSign : Int := 1
  searchSecond : Bool := false
  searchFreq : Rat := 0
  searchUq : Rat := 0
  crashPhase : Nat := 0
  udcRun   : Nat := 0
  wsb      : Rat := 0
  wsbRun   : Nat := 0
  tension  : Rat := 0
  tensionState : Nat := 0
  limHeld  : Bool := false
  limBoth  : Bool := false
  stillSince : Option Nat := none
  inPosSince : Option Nat := none
  vZeroSince : Option Nat := none
  errSince : Option Nat := none
  renderSince : Option Nat := none
  recoverSince : Option Nat := none
  tensSince : Option Nat := none
  satSince : Option Nat := none
  stallSince : Option Nat := none
  deriving DecidableEq, Repr

/-- The profile generator (R587 to R605) in counts, counts/s and counts/s²; `inPos` is IN_POSITION (R596). -/
structure ProfileGen where
  pos   : Rat := 0
  vel   : Rat := 0
  acc   : Rat := 0
  inPos : Bool := false
  deriving DecidableEq, Repr

/-- Stepper kernel (R631 to R653): resolution level, vector position m, current mode, coil current, hold current in force, λ, δ, slips,
run of the stall angle, coil integrators, last coil voltages, the correction of the quiet amplitude (R643), and the latest vector positions with
the times from which they act. -/
structure StepKern where
  level   : Nat := 0
  m       : Int := 0
  strong  : Bool := false
  current : Rat := 0
  held    : Bool := false
  load    : Rat := 0
  angle   : Word := 0
  slips   : Word := 0
  stallRun : Nat := 0
  stalled : Bool := false
  intA    : Rat := 0
  intB    : Rat := 0
  uA      : Rat := 0
  uB      : Rat := 0
  quiet   : Rat := 0
  ms      : List (Nat × Int) := []
  deriving DecidableEq, Repr

/-- Kernel state of a quay: what a loop engine holds for it (R34). `count` is the commanded step count of a pulse quay (R583, R585). -/
structure Kern where
  reg  : Regs := {}
  gen  : ProfileGen := {}
  step : StepKern := {}
  count : Int := 0
  deriving DecidableEq, Repr

/-- Pulse generation of a pulse quay (R662 to R668). `emitted` counts the pulses placed, `edges` are the latest of them with their
directions, newest first. -/
structure PulseGen where
  emitted : Int := 0
  lag     : Int := 0
  dir     : Bool := false
  dirAt   : Nat := 0
  stepAt  : Nat := 0
  edges   : List (Nat × Bool) := []
  deriving DecidableEq, Repr

/-- The position probe of a quay (R406 to R415, R429). `waiting` are the edges whose positions follow: with a later evaluation of an SSI
or sine/cosine cell (R410, R411), or once the filter of a counting cell has let through every edge up to them (R409). Each is a time and whether
it was a falling edge, oldest first. -/
structure Probe where
  armed    : Bool := false
  captured : Bool := false
  falling  : Bool := false
  waiting  : List (Nat × Bool) := []
  time     : Nat := 0
  pos      : Int := 0
  frac     : U16 := 0
  count    : Word := 0
  deriving DecidableEq, Repr

/-- What a master holds of one follower (R563, R567, R573): its address, its newest status, iterations without one. -/
structure Follower where
  addr    : Word
  stat    : HwShareStat
  fresh   : Bool
  missing : Nat
  inK     : Bool
  deriving DecidableEq, Repr

/-- Load-sharing state of a quay (R558 to R580): newest share value and its sender, G in use, run of stale values, K, followers, stand-alone,
left the group, sequence number, whether an iteration of its group found it misformed (R559). `prior` is the share value before the newest (R566),
`lastSample` the sample event of a master's previous iteration (R567), `stopDone` that a master came to OFF from STOPPING (R571), `takeover` the
share value with which a follower goes on alone at its next iteration (R575). -/
structure Share where
  value    : Option HwShare := none
  sender   : Word := 0
  staleRun : Nat := 0
  following : Bool := false
  k        : Rat := 0
  followers : List Follower := []
  alone    : Bool := false
  left     : Bool := false
  seq      : U16 := 0
  prior    : Option HwShare := none
  lastSample : Nat := 0
  config   : Bool := false
  stopDone : Bool := false
  takeover : Option HwShare := none
  deriving DecidableEq, Repr

/-- One quay. `form` is the snapshot that takes its inputs, `snap` the one its engine runs or ran last, `cfg` the parameters an iteration
in progress started with (R74, R463), `oldCfg` those that its iterations keep while the shadow has not acknowledged a commit (R961). `slotOld` is the period and phase its event slot keeps until after its next firing, and the time of that firing once it has
come (R100). -/
structure Quay where
  core     : AxisCore := {}
  eff      : AxisCore := {}
  coreCopy : AxisCore := {}
  c0       : C0Buffer := {}
  form     : Snapshot := {}
  snap     : Snapshot := {}
  cfg      : Option (List (Nat × Word)) := none
  oldCfg   : Option (List (Nat × Word)) := none
  kern     : Kern := {}
  kernCopy : Kern := {}
  slotOld  : Option (Nat × Nat × Option Nat) := none
  inputLate : U16 := 0
  cmdLate  : U16 := 0
  pulse    : PulseGen := {}
  limP     : LimitLevel := {}
  limN     : LimitLevel := {}
  probe    : Probe := {}
  share    : Share := {}
  first    : Option Nat := none
  openRec  : Option Nat := none
  react    : Option Nat := none
  rampReact : Bool := false
  iterAt   : Option Nat := none
  ranAt    : Nat := 0
  offSum   : List (LegNo × Rat × Nat) := []
  offsets  : List (LegNo × Rat) := []
  mirror   : List Byte := []
  mirrorSeq : Word := 0
  sent     : List (LegNo × LegCmd) := []
  deriving DecidableEq, Repr

/-! ### Legs, choppers, pins -/

/-- One leg cell with what its die or gate unit reports (R742 to R819). `latch` is the held kind; `latchRecs` the records
that set or changed it. `high` and `low` are the edges of the two gates of a local leg: times and levels, rising in time. `compared` is set
once active and standby command of the coming update point have been compared; `divergeDone` once their run of divergences has been raised. -/
structure Leg where
  active   : Option LegCmd := none
  fresh    : Bool := false
  standby  : Option LegCmd := none
  sbFresh  : Bool := false
  inForce  : LegCmd := ⟨.off, none, none⟩
  missed   : Nat := 0
  present  : Bool := false
  diverge  : Nat := 0
  compared : Bool := false
  divergeDone : Bool := false
  latch    : Option LegKind := none
  latchRecs : List Nat := []
  latchWait : Bool := false
  react    : Option LegKind := none
  high     : List (Nat × Bool) := []
  low      : List (Nat × Bool) := []
  slopeLatched : Bool := false
  lastRefresh : Option Nat := none
  uvlo     : Bool := false
  abandoned : Bool := false
  armed    : Bool := false
  short    : Bool := false
  supply   : Bool := false
  overtemp : Bool := false
  trip     : Bool := false
  chopping : Bool := false
  current  : Option Rat := some 0
  vphase   : Rat := 0
  vboot    : Nat := 0
  temp     : Int := 0
  derate   : Rat := 1
  suspect  : Nat := 0
  discards : Word := 0
  refreshes : Word := 0
  blanks   : Word := 0
  shorts   : Word := 0
  deriving DecidableEq, Repr

/-- One brake chopper BRK0 to BRK3 (R792 to R797). -/
structure Chopper where
  on      : Bool := false
  onSince : Nat := 0
  deriving DecidableEq, Repr

/-- Pins that commands read: enable groups, HALT channels (R802, R1039 to R1046). Log entry 10 for their levels at reset. -/
structure Pins where
  enHigh   : Vector Bool 6 := Vector.replicate 6 false
  enLowAt  : Vector Nat 6 := Vector.replicate 6 0
  halt     : Pair Bool := ⟨true, true⟩
  haltDisc : Bool := false
  deriving DecidableEq, Repr

/-! ### Feedback and sigma-delta -/

/-- A frequency window (R378): its counted edges, the times of the first and last of them and their direction; `bad` where it is discarded. -/
structure EdgeWindow where
  edges : Nat := 0
  first : Nat := 0
  last  : Nat := 0
  dir   : Int := 0
  bad   : Bool := false
  deriving DecidableEq, Repr

/-- What a cell held until an edge with a stamp (R409): its count, last edge, direction and period, and whether it moved. -/
structure HeldCount where
  until_   : Nat
  pos      : Int
  lastEdge : Nat
  lastDir  : Int
  period   : Option Nat
  moving   : Bool
  deriving DecidableEq, Repr

/-- One feedback cell (R330 to R428). `pos` is the count; `sampled` and `speed` are what it delivered at its last sample event, at `sampledAt`,
and `given` is that delivery as a whole (R393); `eventAt` is the last sample event. `win` is the frequency window in progress, `ended` the
last one (R378), `atEnd` and `wasF` whether the last event ended it and the method before that event (R379 to R382). `hist` are the sample
events of the difference method (R384), `centre` the band of R385, `quad` and `offset` the quadrant count and the offset of a preset (R370,
R394), `presetNow` a preset for the event whose position is under way, `evals` the evaluations so far, newest first (R401, R410), `await` a
conversion or transfer started at a sample event, `convStart` the start of the conversion in progress (R368), `held` what the count was
before its latest edges, `lineAt` the last accepted change of each input line (R339), `edgeTime` the time of the last edge ever. `emuBase`
to `emuStart` schedule the steps of the emulation (R420), `emuE` is its target E (R419) and `emuGoal` the step count to reach (R422). `prior` is the
delivery before the last (R75), `presetAt` the event and the difference of the last preset of modes 1 and 2 (R394), `drift` the miscount of the
last index that raised COUNT_DRIFT (R356). -/
structure Cell where
  pos      : Int := 0
  sampled  : Int := 0
  sampledAt : Nat := 0
  speed    : Rat := 0
  still    : Bool := true
  provisional : Bool := false
  methodF  : Bool := false
  unsure   : Bool := false
  wire     : Bool := false
  ampl     : Bool := false
  ssiErr   : Bool := false
  stale    : Bool := false
  cmpDone  : Bool := false
  emuLagF  : Bool := false
  a        : Bool := false
  b        : Bool := false
  hall     : BitVec 3 := 0
  lastHall : Option (BitVec 3) := none
  lastEdge : Nat := 0
  lastDir  : Int := 0
  period   : Option Nat := none
  winEvents : Nat := 0
  win      : EdgeWindow := {}
  ended    : EdgeWindow := {}
  atEnd    : Bool := false
  wasF     : Bool := false
  held     : List HeldCount := []
  eventAt  : Nat := 0
  edgeTime : Nat := 0
  lineAt   : Vector (Option Nat) 3 := Vector.replicate 3 none
  given    : Option CellView := none
  freq     : Option Rat := none
  hist     : List (Nat × Int) := []
  centre   : Int := 0
  quad     : Option Int := none
  offset   : Int := 0
  evals    : List (Nat × Int) := []
  await    : Option Nat := none
  convStart : Nat := 0
  illegalHere : Bool := false
  illegal  : Word := 0
  indexRef : Option Int := none
  indexLatch : Int := 0
  indexDev : Int := 0
  latches  : Nat := 0
  ssiPrev  : Option Nat := none
  amplVal  : U16 := 0
  amplRun  : Nat := 0
  preset   : Option Int := none
  presetNow : Option Int := none
  cmpNext  : Int := 0
  cmpHits  : Word := 0
  cmpSkips : Word := 0
  cmpLast  : Nat := 0
  cmpUntil : Option Nat := none
  emuOut   : Int := 0
  emuLag   : Int := 0
  emuE     : Int := 0
  emuGoal  : Int := 0
  prior    : Option CellView := none
  presetAt : Option (Nat × Int) := none
  drift    : Int := 0
  emuZ     : Bool := false
  emuBase  : Int := 0
  emuSteps : Int := 0
  emuStart : Nat := 0
  emuPeriod : Nat := 0
  deriving DecidableEq, Repr

/-- One sigma-delta input (R450 to R456). `at_` is the sample event its value belongs to, `await` one whose window is to be evaluated, and
`first` and `last` the times of the first and last bit of that window. -/
structure SigmaDelta where
  value : Rat := 0
  raw   : Int := 0
  ovr   : Bool := false
  at_   : Nat := 0
  await : Option Nat := none
  first : Nat := 0
  last  : Nat := 0
  deriving DecidableEq, Repr

/-! ### Gangway lanes and Hawser ports -/

/-- `gw.state` (R840). -/
inductive LaneState where
  | down
  | training
  | aligning
  | identifying
  | attached
  | quarantined
  | detached
  deriving DecidableEq, Repr

/-- One entry of an ARM frame (R830). -/
structure ArmEntry where
  slot    : Nat
  chopper : Bool
  high    : Bool
  lossLow : Bool
  dead    : Nat
  deriving DecidableEq, Repr

/-- A frame or character handed to the transmitter of a lane (R824, R830). -/
inductive GwFrame where
  | rxOk
  | cmd (updateTime : Nat) (period : Nat) (enLow : Bool) (entries : List (Nat × LegCmd))
  | state (enLow : Bool) (entries : List (Nat × LegKind × Bool))
  | sync (stamp : Nat)
  | ping
  | delay (d : Nat)
  | identReq
  | arm (entries : List ArmEntry)
  | disarm (mask : Byte)
  | rearm (mask : Byte)
  | bye
  deriving DecidableEq, Repr

/-- One Gangway lane or internal link (R829 to R883). -/
structure Lane where
  st        : LaneState := .down
  serial    : Dword := 0
  unitType  : U16 := 0
  fwLevel   : U16 := 0
  caps      : Word := 0
  iLsb      : U16 := 0
  uLsb      : U16 := 0
  legs      : Byte := 0
  delay     : Word := 0
  crcCount  : Word := 0
  seqGaps   : Word := 0
  stray     : Word := 0
  losses    : Word := 0
  rxOk      : Bool := false
  detectAt  : Nat := 0
  pingAt    : Nat := 0
  rs        : List Int := []
  identReqs : Nat := 0
  identReqAt : Nat := 0
  downAt    : Option Nat := none
  syncAt    : Nat := 0
  timeOk    : Bool := false
  dcMv      : Nat := 0
  rxSeq     : Option Byte := none
  attachOps : List AcceptedOp := []
  tx        : List GwFrame := []
  deriving DecidableEq, Repr

/-- A frame handed to the transmitter of a Hawser port, with its TTL, SEQ and SRC (R865, R866). -/
inductive HwFrame where
  | rxOk
  | disc (hdr : HwHeader) (d : HwDisc)
  | topo (hdr : HwHeader) (lost : Bool) (port : Side)
  | time (hdr : HwHeader) (stamp : Dword) (correction : Word)
  | ping
  | pong (turnaround : Word)
  | share (hdr : HwHeader) (s : HwShare)
  | shareStat (hdr : HwHeader) (s : HwShareStat)
  deriving DecidableEq, Repr

/-- One Hawser port (R868). -/
structure HwPort where
  up     : Bool := false
  rxOk   : Bool := false
  training : Bool := false
  pingAt : Nat := 0
  rs     : List Int := []
  delay  : Word := 0
  tx     : List HwFrame := []
  deriving DecidableEq, Repr

/-- A member of the ring as its last DISC showed it (R875). -/
structure Member where
  device : Nat
  serial : Dword
  h0Up   : Bool
  h1Up   : Bool
  prio   : Byte
  at_    : Nat
  deriving DecidableEq, Repr

/-- `hw.mode` (R869). -/
inductive HwMode where
  | alone
  | line
  | ring
  deriving DecidableEq, Repr

/-- The Hawser layer (R865 to R884). -/
structure Hawser where
  mode    : HwMode := .alone
  ports   : Pair HwPort := ⟨{}, {}⟩
  members : List Member := []
  memberSet : List Nat := []
  master  : Nat := 0
  offset  : Int := 0
  aligned : Bool := false
  recent  : List (Word × Nat × Byte × Nat) := []
  seqs    : List (Word × Nat × Byte) := []
  conflicts : List (Word × Dword) := []
  lastTime : Nat := 0
  lastSent : Nat := 0
  lastDisc : Nat := 0
  windowAt : Option Nat := none
  wholeSince : Option Nat := none
  deriving DecidableEq, Repr

/-! ### Trace -/

/-- A trace descriptor (R321). -/
structure TraceDesc where
  ring      : Bool
  trigKind  : Nat
  trigLevel : Nat
  pre       : Nat
  quay      : Nat
  period    : Nat
  trigValue : Word
  signals   : List Word
  deriving DecidableEq, Repr

/-- One record of a trace region (R324). -/
structure TraceRec where
  time   : Nat
  values : List Word
  deriving DecidableEq, Repr

/-- One trace region (R321 to R327). -/
structure TraceRegion where
  desc      : Option TraceDesc := none
  armed     : Bool := false
  triggered : Bool := false
  stopped   : Bool := false
  invalid   : Bool := false
  slot      : Option (Fin 256) := none
  recs      : List TraceRec := []
  prevFirst : Option Int := none
  deriving DecidableEq, Repr

/-- Limits of a profile (R588, R589): speed, acceleration, deceleration, jerk, and whether it is jerk-limited. -/
structure Limits where
  v : Rat
  a : Rat
  d : Rat
  j : Rat
  jerk : Bool
  deriving DecidableEq, Repr

/-- The path parameter of a group motion at a time, with speed and acceleration (R657). -/
structure PathPoint where
  at_  : Nat
  path : Rat
  vel  : Rat
  acc  : Rat
  deriving DecidableEq, Repr

/-- A MOVE_GROUP in progress (R655 to R661): its command, its axes with start and distance, whether these are relative, t0, the latest points of
the path parameter, newest first, the limits of each axis in force (R658), and the axis that ended it. -/
structure GroupMove where
  op    : AcceptedOp
  axes  : List (QuayNo × Int × Int)
  relative : Bool
  t0    : Nat
  points : List PathPoint
  lims  : List (QuayNo × Limits)
  ended : Option QuayNo
  deriving DecidableEq, Repr

/-! ### The whole -/

/-- The state of the device. `pending` holds the commands that wait, first in, first out; `free` is the counter at which the
free values of `Config` are drawn (log entry 3). -/
structure State where
  fuse   : Fuses := {}
  flash  : List Host.Cell := []
  boot   : Boot := {}
  dl     : Download := {}
  prot   : Prot := {}
  claims : List PoolClaim := []
  params : List (Nat × Word) := []
  tb     : TimeBase := {}
  thm    : Thermal := {}
  supply : Supply := {}
  half   : Pair Half := ⟨{}, {}⟩
  hm     : Harbour := {}
  ih     : Channel := {}
  port   : Pair Port := ⟨{}, {}⟩
  quay   : Vector Quay 12 := Vector.replicate 12 {}
  groups : List GroupMove := []
  leg    : Vector Leg 80 := Vector.replicate 80 {}
  brk    : Vector Chopper 4 := Vector.replicate 4 {}
  pins   : Pins := {}
  cell   : Vector Cell 16 := Vector.replicate 16 {}
  sd     : Vector SigmaDelta 16 := Vector.replicate 16 {}
  lane   : Vector Lane 20 := Vector.replicate 20 {}
  hw     : Hawser := {}
  flt    : Collector := {}
  trace  : Vector TraceRegion 16 := Vector.replicate 16 {}
  free   : Nat := 0
  pending : List Instr := []
  deriving DecidableEq, Repr

/-- The machine right after reset: held in internal reset, every field at the default written beside it. -/
def State.reset : State := {}

end Sys2Proof.Machine
end

