-- ==== Sys2Proof/Machine/Template.lean ====
section
/-! DEFINITION. The parameter templates (R25, R26, R310, R320): one row per line of the manual's parameter tables. -/

namespace Sys2Proof.Machine

/-- Types of a parameter (R320). -/
inductive PType where
  | u8 | u16 | u32 | s16 | s32 | u64 | s64 | q14 | q24
  deriving DecidableEq, Repr

/-- Access codes (R12). -/
inductive PAcc where
  | ro | rw | rws | bo | wo
  deriving DecidableEq, Repr

/-- One template row: block kind, first and last instance, first index, number of indices and their distance, type, type code
of PARAM_INFO (R320), access, run lock, lowest and highest raw value, further legal values, default raw value. -/
structure PRow where
  kind   : Nat
  instLo : Nat
  instHi : Nat
  base   : Nat
  count  : Nat
  stride : Nat
  ty     : PType
  info   : Nat
  acc    : PAcc
  lock   : Bool
  lo     : Int
  hi     : Int
  vals   : List Int
  dflt   : Int
  deriving DecidableEq, Repr

/-- Template rows, part 1. A range holds the raw values whose value lies between the stated ends. A default that is no whole raw value (0.05 as
Q8.24) is the nearest one: DESIGN CHOICE, log entry 43. -/
def templates1 : List PRow :=
  [ ⟨2, 0, 11, 0x10, 1, 1, .u8, 1, .rw, true, 5, 60, [], 30⟩  /- quay.input_deadline (R80) -/
  , ⟨2, 0, 11, 0x11, 1, 1, .u16, 2, .rw, false, 0, 640, [], 16⟩  /- quay.shadow_tolerance (R80) -/
  , ⟨2, 0, 11, 0x12, 1, 1, .u8, 1, .rw, false, 1, 255, [], 3⟩  /- quay.shadow_count (R80) -/
  , ⟨0, 0, 0, 0x600, 32, 1, .u8, 1, .rw, false, 0, 31, [255], 255⟩  /- dev.cap0_src to dev.cap31_src (R97) -/
  , ⟨0, 0, 0, 0x620, 32, 1, .u8, 11, .rw, false, 1, 3, [], 1⟩  /- dev.cap0_edge to dev.cap31_edge (R97) -/
  , ⟨0, 0, 0, 0x640, 32, 1, .u16, 2, .rw, false, 0, 640, [], 40⟩  /- dev.cap0_filter to dev.cap31_filter (R97) -/
  , ⟨2, 0, 11, 0x20, 1, 1, .u32, 3, .rw, true, 500, 100000, [], 16000⟩  /- quay.carrier_freq (R128) -/
  , ⟨2, 0, 11, 0x21, 1, 1, .u8, 1, .rw, true, 1, 2, [], 1⟩  /- quay.loop_per_carrier (R128) -/
  , ⟨2, 0, 11, 0x22, 1, 1, .u32, 10, .rw, true, 0, 4294967295, [], 0⟩  /- quay.carrier_phase (R128) -/
  , ⟨2, 0, 11, 0x23, 1, 1, .u8, 1, .ro, false, 0, 255, [], 0⟩  /- quay.event_slot (R128) -/
  , ⟨2, 0, 11, 0x24, 1, 1, .u8, 11, .ro, false, 0, 4, [], 0⟩  /- quay.kernel (R128) -/
  , ⟨2, 0, 11, 0x25, 1, 1, .u16, 2, .ro, false, 0, 1000, [], 0⟩  /- quay.engine_share (R128) -/
  , ⟨9, 0, 0, 0x0, 1, 1, .u8, 11, .rws, false, 0, 1, [], 0⟩  /- tb.ref_source (R128) -/
  , ⟨9, 0, 0, 0x1, 1, 1, .u16, 2, .rws, false, 500, 2000, [], 2000⟩  /- tb.slew_limit (R128) -/
  , ⟨9, 0, 0, 0x2, 1, 1, .s16, 4, .rws, false, 0, 1000, [], 100⟩  /- tb.margin_clear (R128) -/
  , ⟨9, 0, 0, 0x10, 16, 1, .s16, 4, .ro, false, -32768, 32767, [], 0⟩  /- tb.margin_ts0 to tb.margin_ts15 (R128) -/
  , ⟨0, 0, 0, 0x10, 1, 1, .u32, 3, .rw, false, 1000, 1000000, [], 30000⟩  /- dev.discovery_window (R140) -/
  , ⟨10, 0, 1, 0x0, 1, 1, .u8, 1, .rw, false, 0, 31, [255], 255⟩  /- host.irq_gpio (R267) -/
  , ⟨10, 0, 1, 0x1, 1, 1, .u8, 1, .rw, false, 0, 4, [], 2⟩  /- host.irq_fault_level (R267) -/
  , ⟨10, 0, 1, 0x2, 1, 1, .u16, 2, .rw, false, 100, 10000, [], 2000⟩  /- host.fwd_timeout (R267) -/
  , ⟨10, 0, 1, 0x3, 1, 1, .u8, 1, .rws, false, 0, 1, [], 1⟩  /- host.c0_enable (R267) -/
  , ⟨2, 0, 11, 0x30, 1, 1, .q24, 9, .rw, false, 1678, 3355443, [], 83886⟩  /- quay.stop_speed (R329) -/
  , ⟨2, 0, 11, 0x31, 1, 1, .u32, 3, .rw, false, 0, 1000000, [], 20000⟩  /- quay.stop_dwell (R329) -/
  , ⟨2, 0, 11, 0x32, 1, 1, .u32, 3, .rw, false, 1000, 1000000, [], 50000⟩  /- quay.arm_timeout (R329) -/ ]

/-- Template rows, part 2. -/
def templates2 : List PRow :=
  [ ⟨2, 0, 11, 0x33, 1, 1, .u8, 1, .rws, false, 0, 1, [], 0⟩  /- quay.homing_enable (R329) -/
  , ⟨2, 0, 11, 0x34, 1, 1, .u8, 1, .rw, true, 0, 1, [], 0⟩  /- quay.require_homed (R329) -/
  , ⟨2, 0, 11, 0x35, 1, 1, .u8, 1, .rws, false, 0, 1, [], 0⟩  /- quay.release_enable (R329) -/
  , ⟨2, 0, 11, 0x36, 1, 1, .u8, 1, .rw, true, 0, 1, [], 0⟩  /- quay.tension_enable (R329) -/
  , ⟨2, 0, 11, 0x40, 1, 1, .q24, 9, .rw, false, 1678, 33554432, [], 8388608⟩  /- quay.profile_speed (R329) -/
  , ⟨2, 0, 11, 0x41, 1, 1, .q24, 9, .rw, false, 16778, 1677721600, [], 16777216⟩  /- quay.profile_accel (R329) -/
  , ⟨2, 0, 11, 0x42, 1, 1, .q24, 9, .rw, false, 16778, 1677721600, [], 16777216⟩  /- quay.profile_decel (R329) -/
  , ⟨2, 0, 11, 0x43, 1, 1, .q14, 8, .rw, false, 0, 32767, [], 16384⟩  /- quay.torque_limit_pos (R329) -/
  , ⟨2, 0, 11, 0x44, 1, 1, .q14, 8, .rw, false, 0, 32767, [], 16384⟩  /- quay.torque_limit_neg (R329) -/
  , ⟨4, 0, 15, 0x0, 1, 1, .u8, 11, .rw, true, 0, 4, [], 0⟩  /- fb.mode (R428) -/
  , ⟨4, 0, 15, 0x1, 1, 1, .u32, 3, .rw, true, 1, 16777216, [], 1024⟩  /- fb.lines (R428) -/
  , ⟨4, 0, 15, 0x2, 1, 1, .u8, 1, .rw, true, 1, 64, [], 4⟩  /- fb.hall_pole_pairs (R428) -/
  , ⟨4, 0, 15, 0x3, 1, 1, .u32, 3, .ro, false, 0, 4294967295, [], 0⟩  /- fb.counts_per_rev (R428) -/
  , ⟨4, 0, 15, 0x4, 1, 1, .u16, 2, .rw, true, 0, 640, [], 8⟩  /- fb.filter (R428) -/
  , ⟨4, 0, 15, 0x5, 1, 1, .u8, 1, .rw, true, 0, 1, [], 0⟩  /- fb.dir (R428) -/
  , ⟨4, 0, 15, 0x6, 1, 1, .u8, 1, .rw, true, 0, 1, [], 0⟩  /- fb.index_enable (R428) -/
  , ⟨4, 0, 15, 0x7, 1, 1, .u8, 1, .rw, true, 0, 7, [], 7⟩  /- fb.index_gate (R428) -/
  , ⟨4, 0, 15, 0x8, 1, 1, .u16, 2, .rw, false, 0, 4096, [], 2⟩  /- fb.drift_tol (R428) -/
  , ⟨4, 0, 15, 0x9, 1, 1, .u32, 3, .rw, false, 1000, 10000000, [], 50000⟩  /- fb.t_still (R428) -/
  , ⟨4, 0, 15, 0xa, 1, 1, .u32, 3, .rw, false, 1000, 40000000, [], 100000⟩  /- fb.method_hi (R428) -/
  , ⟨4, 0, 15, 0xb, 1, 1, .u32, 3, .rw, false, 500, 39999999, [], 50000⟩  /- fb.method_lo (R428) -/
  , ⟨4, 0, 15, 0xc, 1, 1, .u8, 1, .rw, false, 1, 64, [], 4⟩  /- fb.freq_window (R428) -/
  , ⟨4, 0, 15, 0xd, 1, 1, .u16, 2, .rw, false, 1, 65535, [], 16⟩  /- fb.still_band (R428) -/
  , ⟨4, 0, 15, 0xe, 1, 1, .u16, 2, .rw, false, 1, 100, [], 10⟩  /- fb.wire_filter (R428) -/ ]

/-- Template rows, part 3. -/
def templates3 : List PRow :=
  [ ⟨4, 0, 15, 0xf, 1, 1, .u8, 1, .rw, true, 0, 1, [], 0⟩  /- fb.hall_order (R428) -/
  , ⟨4, 0, 15, 0x10, 1, 1, .u32, 3, .rw, true, 100000, 10000000, [], 1000000⟩  /- fb.ssi_clock (R428) -/
  , ⟨4, 0, 15, 0x11, 1, 1, .u8, 1, .rw, true, 8, 32, [], 25⟩  /- fb.ssi_bits (R428) -/
  , ⟨4, 0, 15, 0x12, 1, 1, .u8, 1, .rw, true, 1, 31, [], 13⟩  /- fb.ssi_st_bits (R428) -/
  , ⟨4, 0, 15, 0x13, 1, 1, .u8, 11, .rw, true, 0, 1, [], 1⟩  /- fb.ssi_code (R428) -/
  , ⟨4, 0, 15, 0x14, 1, 1, .u8, 11, .rw, true, 0, 2, [], 0⟩  /- fb.ssi_parity (R428) -/
  , ⟨4, 0, 15, 0x15, 1, 1, .u16, 2, .rw, true, 1, 100, [], 20⟩  /- fb.ssi_monoflop (R428) -/
  , ⟨4, 0, 15, 0x16, 1, 1, .u32, 3, .rw, false, 1, 2147483647, [], 1048576⟩  /- fb.ssi_max_step (R428) -/
  , ⟨4, 0, 15, 0x18, 1, 1, .u16, 2, .rw, false, 100, 1000, [], 600⟩  /- fb.ampl_min (R428) -/
  , ⟨4, 0, 15, 0x19, 1, 1, .u16, 2, .rw, false, 1000, 2000, [], 1400⟩  /- fb.ampl_max (R428) -/
  , ⟨4, 0, 15, 0x1a, 1, 1, .u8, 1, .rw, false, 1, 255, [], 8⟩  /- fb.ampl_count (R428) -/
  , ⟨4, 0, 15, 0x20, 1, 1, .u8, 1, .rw, false, 0, 1, [], 0⟩  /- fb.cmp_enable (R428) -/
  , ⟨4, 0, 15, 0x21, 1, 1, .s64, 7, .rw, false, -9223372036854775808, 9223372036854775807, [], 0⟩  /- fb.cmp_start (R428) -/
  , ⟨4, 0, 15, 0x23, 1, 1, .s32, 5, .rw, false, -2147483648, 2147483647, [], 1024⟩  /- fb.cmp_spacing (R428) -/
  , ⟨4, 0, 15, 0x24, 1, 1, .u32, 3, .rw, false, 0, 4294967295, [], 0⟩  /- fb.cmp_count (R428) -/
  , ⟨4, 0, 15, 0x25, 1, 1, .u16, 2, .rw, false, 4, 65535, [], 400⟩  /- fb.cmp_width (R428) -/
  , ⟨4, 0, 15, 0x26, 1, 1, .u8, 11, .rw, false, 0, 1, [], 0⟩  /- fb.cmp_output (R428) -/
  , ⟨4, 0, 15, 0x30, 1, 1, .u8, 11, .rw, false, 0, 2, [], 0⟩  /- fb.emu_source (R428) -/
  , ⟨4, 0, 15, 0x31, 1, 1, .u8, 1, .rw, false, 0, 11, [], 0⟩  /- fb.emu_quay (R428) -/
  , ⟨4, 0, 15, 0x32, 1, 1, .u32, 3, .rw, false, 1, 65536, [], 1024⟩  /- fb.emu_lines (R428) -/
  , ⟨4, 0, 15, 0x33, 1, 1, .u32, 3, .rw, false, 0, 4294967295, [], 0⟩  /- fb.emu_zero (R428) -/
  , ⟨4, 0, 15, 0x34, 1, 1, .u8, 1, .rw, false, 0, 1, [], 1⟩  /- fb.emu_z (R428) -/
  , ⟨4, 0, 15, 0x40, 1, 1, .s64, 7, .ro, false, -9223372036854775808, 9223372036854775807, [], 0⟩  /- fb.position (R428) -/
  , ⟨4, 0, 15, 0x42, 1, 1, .s32, 5, .ro, false, -2147483648, 2147483647, [], 0⟩  /- fb.speed (R428) -/ ]

/-- Template rows, part 4. -/
def templates4 : List PRow :=
  [ ⟨4, 0, 15, 0x43, 1, 1, .u32, 3, .ro, false, 0, 4294967295, [], 1⟩  /- fb.status (R428) -/
  , ⟨4, 0, 15, 0x44, 1, 1, .s64, 7, .ro, false, -9223372036854775808, 9223372036854775807, [], 0⟩  /- fb.index_latch (R428) -/
  , ⟨4, 0, 15, 0x46, 1, 1, .s32, 5, .ro, false, -2147483648, 2147483647, [], 0⟩  /- fb.index_dev (R428) -/
  , ⟨4, 0, 15, 0x47, 1, 1, .u16, 2, .ro, false, 0, 4000, [], 0⟩  /- fb.ampl (R428) -/
  , ⟨4, 0, 15, 0x48, 1, 1, .s64, 7, .ro, false, -9223372036854775808, 9223372036854775807, [], 0⟩  /- fb.cmp_next (R428) -/
  , ⟨4, 0, 15, 0x4a, 1, 1, .u32, 3, .ro, false, 0, 4294967295, [], 0⟩  /- fb.cmp_hits (R428) -/
  , ⟨4, 0, 15, 0x4b, 1, 1, .u32, 3, .ro, false, 0, 4294967295, [], 0⟩  /- fb.cmp_skips (R428) -/
  , ⟨4, 0, 15, 0x4c, 1, 1, .u64, 6, .ro, false, 0, 18446744073709551615, [], 0⟩  /- fb.cmp_last_time (R428) -/
  , ⟨4, 0, 15, 0x4e, 1, 1, .s32, 5, .ro, false, -2147483648, 2147483647, [], 0⟩  /- fb.emu_lag (R428) -/
  , ⟨4, 0, 15, 0x4f, 1, 1, .u32, 3, .ro, false, 0, 4294967295, [], 0⟩  /- fb.illegal_count (R428) -/
  , ⟨4, 0, 15, 0x50, 1, 1, .u64, 6, .ro, false, 0, 18446744073709551615, [], 0⟩  /- fb.last_edge_time (R428) -/
  , ⟨4, 0, 15, 0x52, 1, 1, .s64, 7, .rw, true, -9223372036854775808, 9223372036854775807, [], 0⟩  /- fb.pos_preset (R428) -/
  , ⟨2, 0, 11, 0x50, 1, 1, .u8, 11, .rw, false, 0, 2, [], 0⟩  /- quay.probe_mode (R429) -/
  , ⟨2, 0, 11, 0x51, 1, 1, .u8, 11, .rw, true, 0, 1, [], 0⟩  /- quay.probe_source (R429) -/
  , ⟨2, 0, 11, 0x52, 1, 1, .u8, 11, .rw, false, 1, 3, [], 1⟩  /- quay.probe_edge (R429) -/
  , ⟨2, 0, 11, 0x53, 1, 1, .u16, 2, .rw, false, 0, 640, [], 40⟩  /- quay.probe_filter (R429) -/
  , ⟨2, 0, 11, 0x54, 1, 1, .u8, 1, .wo, false, 1, 1, [], 0⟩  /- quay.probe_arm (R429) -/
  , ⟨2, 0, 11, 0x55, 1, 1, .u8, 1, .ro, false, 0, 255, [], 255⟩  /- quay.probe_capture (R429) -/
  , ⟨2, 0, 11, 0x56, 1, 1, .u64, 6, .ro, false, 0, 18446744073709551615, [], 0⟩  /- quay.probe_time (R429) -/
  , ⟨2, 0, 11, 0x58, 1, 1, .s64, 7, .ro, false, -9223372036854775808, 9223372036854775807, [], 0⟩  /- quay.probe_pos (R429) -/
  , ⟨2, 0, 11, 0x5a, 1, 1, .u16, 2, .ro, false, 0, 65535, [], 0⟩  /- quay.probe_frac (R429) -/
  , ⟨2, 0, 11, 0x5b, 1, 1, .u32, 3, .ro, false, 0, 4294967295, [], 0⟩  /- quay.probe_count (R429) -/
  , ⟨2, 0, 11, 0x5c, 1, 1, .u8, 1, .ro, false, 0, 255, [], 0⟩  /- quay.probe_state (R429) -/
  , ⟨2, 0, 11, 0x60, 1, 1, .u8, 11, .rws, false, 0, 7, [], 0⟩  /- quay.machine (R522) -/ ]

/-- Template rows, part 5. -/
def templates5 : List PRow :=
  [ ⟨2, 0, 11, 0x61, 1, 1, .u32, 3, .rw, true, 1, 10000000, [], 10000⟩  /- quay.i_base (R522) -/
  , ⟨2, 0, 11, 0x62, 1, 1, .u32, 3, .rw, true, 1000, 2000000, [], 48000⟩  /- quay.u_base (R522) -/
  , ⟨2, 0, 11, 0x63, 1, 1, .u16, 2, .rw, true, 1, 60000, [], 3000⟩  /- quay.n_base (R522) -/
  , ⟨2, 0, 11, 0x64, 1, 1, .u8, 1, .rw, true, 1, 64, [], 4⟩  /- quay.pole_pairs (R522) -/
  , ⟨2, 0, 11, 0x65, 1, 1, .u32, 3, .rw, false, 1, 4294967295, [], 10000⟩  /- quay.t_base (R522) -/
  , ⟨2, 0, 11, 0x66, 1, 1, .u8, 1, .ro, false, 1, 4, [], 0⟩  /- quay.sets (R522) -/
  , ⟨2, 0, 11, 0x67, 3, 1, .u32, 10, .rw, true, 0, 4294967295, [], 0⟩  /- quay.set_shift1 to quay.set_shift3 (R522) -/
  , ⟨2, 0, 11, 0x6a, 1, 1, .u8, 1, .rw, true, 0, 1, [], 0⟩  /- quay.phase_order (R522) -/
  , ⟨2, 0, 11, 0x70, 1, 1, .q24, 9, .rw, false, 0, 167772160, [], 335544⟩  /- quay.rs (R522) -/
  , ⟨2, 0, 11, 0x71, 1, 1, .q24, 9, .rw, false, 16778, 335544320, [], 5033165⟩  /- quay.ld (R522) -/
  , ⟨2, 0, 11, 0x72, 1, 1, .q24, 9, .rw, false, 16778, 335544320, [], 5033165⟩  /- quay.lq (R522) -/
  , ⟨2, 0, 11, 0x73, 1, 1, .q24, 9, .rw, false, 0, 33554432, [], 15099494⟩  /- quay.psi_pm (R522) -/
  , ⟨2, 0, 11, 0x74, 1, 1, .q24, 9, .rw, false, 167773, 167772160, [], 16777216⟩  /- quay.kt (R522) -/
  , ⟨2, 0, 11, 0x75, 1, 1, .q24, 9, .rw, false, 16778, 167772160, [], 838861⟩  /- quay.l_sigma_set (R522) -/
  , ⟨2, 0, 11, 0x76, 1, 1, .q24, 9, .rw, false, 0, 167772160, [], 335544⟩  /- quay.rr (R522) -/
  , ⟨2, 0, 11, 0x77, 1, 1, .q24, 9, .rw, false, 1677722, 335544320, [], 50331648⟩  /- quay.lm (R522) -/
  , ⟨2, 0, 11, 0x78, 1, 1, .q24, 9, .rw, false, 1677722, 335544320, [], 52009370⟩  /- quay.lr (R522) -/
  , ⟨2, 0, 11, 0x79, 1, 1, .q24, 9, .rw, false, 1677722, 33554432, [], 15938355⟩  /- quay.im_flux_nom (R522) -/
  , ⟨2, 0, 11, 0x80, 1, 1, .q24, 9, .rw, false, 0, 1677721600, [], 8388608⟩  /- quay.i_kp (R522) -/
  , ⟨2, 0, 11, 0x81, 1, 1, .u32, 3, .rw, false, 0, 4000000000, [], 1000000⟩  /- quay.i_ki (R522) -/
  , ⟨2, 0, 11, 0x82, 1, 1, .q24, 9, .rw, false, 0, 1677721600, [], 3355443⟩  /- quay.bal_kp (R522) -/
  , ⟨2, 0, 11, 0x83, 1, 1, .u32, 3, .rw, false, 0, 4000000000, [], 200000⟩  /- quay.bal_ki (R522) -/
  , ⟨2, 0, 11, 0x84, 1, 1, .u8, 1, .rw, false, 0, 1, [], 1⟩  /- quay.decouple (R522) -/
  , ⟨2, 0, 11, 0x85, 1, 1, .q24, 9, .rw, false, 0, 67108864, [], 25165824⟩  /- quay.i_max (R522) -/ ]

/-- Template rows, part 6. -/
def templates6 : List PRow :=
  [ ⟨2, 0, 11, 0x86, 1, 1, .u16, 2, .rw, false, 500, 1000, [], 950⟩  /- quay.mod_limit (R522) -/
  , ⟨2, 0, 11, 0x87, 1, 1, .u8, 11, .rw, true, 0, 1, [], 0⟩  /- quay.modulation (R522) -/
  , ⟨2, 0, 11, 0x88, 1, 1, .u16, 2, .rw, false, 0, 64000, [65535], 65535⟩  /- quay.dtc_time (R522) -/
  , ⟨2, 0, 11, 0x89, 1, 1, .q24, 9, .rw, false, 16778, 8388608, [], 335544⟩  /- quay.dtc_band (R522) -/
  , ⟨2, 0, 11, 0x8a, 1, 1, .u16, 2, .rw, false, 0, 64000, [], 3200⟩  /- quay.min_pulse (R522) -/
  , ⟨2, 0, 11, 0x8b, 1, 1, .u8, 1, .rw, false, 0, 1, [], 1⟩  /- quay.delay_comp (R522) -/
  , ⟨2, 0, 11, 0x8c, 1, 1, .u8, 11, .rw, true, 0, 1, [], 0⟩  /- quay.i_source (R522) -/
  , ⟨2, 0, 11, 0x8d, 1, 1, .u8, 11, .rw, true, 0, 1, [], 0⟩  /- quay.shunt_place (R522) -/
  , ⟨2, 0, 11, 0x8e, 1, 1, .u16, 2, .rw, true, 0, 64000, [], 12800⟩  /- quay.shunt_min_window (R522) -/
  , ⟨2, 0, 11, 0x8f, 1, 1, .u8, 11, .rw, true, 0, 3, [], 0⟩  /- quay.udc_source (R522) -/
  , ⟨2, 0, 11, 0x90, 1, 1, .u8, 1, .rw, true, 0, 15, [], 0⟩  /- quay.udc_sd (R522) -/
  , ⟨2, 0, 11, 0x91, 1, 1, .q24, 9, .rw, false, 1677722, 1677721600, [], 30198989⟩  /- quay.udc_fixed (R522) -/
  , ⟨2, 0, 11, 0x92, 1, 1, .u32, 3, .rw, true, 0, 4294967295, [], 0⟩  /- quay.sd_map (R522) -/
  , ⟨2, 0, 11, 0x93, 1, 1, .u8, 1, .rw, false, 1, 255, [], 8⟩  /- quay.vlim_count (R522) -/
  , ⟨2, 0, 11, 0x94, 1, 1, .q24, 9, .rw, false, 167773, 16777216, [], 1677722⟩  /- quay.bal_warn (R522) -/
  , ⟨2, 0, 11, 0x95, 1, 1, .q24, 9, .rw, false, 0, 8388608, [], 838861⟩  /- quay.offset_max (R522) -/
  , ⟨2, 0, 11, 0x96, 1, 1, .u16, 2, .rw, false, 1, 4096, [], 256⟩  /- quay.offset_samples (R522) -/
  , ⟨2, 0, 11, 0x97, 1, 1, .u8, 11, .rw, true, 0, 1, [], 1⟩  /- quay.bldc_pwm (R522) -/
  , ⟨2, 0, 11, 0xa0, 1, 1, .u8, 11, .rw, true, 0, 2, [], 0⟩  /- quay.angle_source (R522) -/
  , ⟨2, 0, 11, 0xa1, 1, 1, .u8, 11, .rw, true, 0, 1, [], 0⟩  /- quay.comm_cell (R522) -/
  , ⟨2, 0, 11, 0xa2, 1, 1, .u32, 10, .rw, true, 0, 4294967295, [], 0⟩  /- quay.elec_offset (R522) -/
  , ⟨2, 0, 11, 0xa3, 1, 1, .s64, 7, .rw, true, -9223372036854775808, 9223372036854775807, [], 0⟩  /- quay.angle_zero (R522) -/
  , ⟨2, 0, 11, 0xa5, 1, 1, .u32, 10, .rw, true, 0, 4294967295, [], 0⟩  /- quay.hall_offset (R522) -/
  , ⟨2, 0, 11, 0xa6, 1, 1, .q24, 9, .rw, false, 167773, 167772160, [], 16777216⟩  /- quay.obs_gain (R522) -/ ]

/-- Template rows, part 7. -/
def templates7 : List PRow :=
  [ ⟨2, 0, 11, 0xa7, 1, 1, .u16, 2, .rw, false, 1, 2000, [], 50⟩  /- quay.pll_bw (R522) -/
  , ⟨2, 0, 11, 0xa8, 1, 1, .q24, 9, .rw, false, 167773, 8388608, [], 838861⟩  /- quay.obs_min_speed (R522) -/
  , ⟨2, 0, 11, 0xa9, 1, 1, .q24, 9, .rw, false, 167773, 16777216, [], 2516582⟩  /- quay.obs_resid_max (R522) -/
  , ⟨2, 0, 11, 0xaa, 1, 1, .u8, 1, .rw, false, 1, 255, [], 4⟩  /- quay.obs_loss_count (R522) -/
  , ⟨2, 0, 11, 0xab, 1, 1, .u32, 10, .rw, false, 0, 536870912, [], 238609294⟩  /- quay.pll_err_max (R522) -/
  , ⟨2, 0, 11, 0xac, 1, 1, .q24, 9, .rw, false, 0, 33554432, [], 8388608⟩  /- quay.if_current (R522) -/
  , ⟨2, 0, 11, 0xad, 1, 1, .q24, 9, .rw, false, 16778, 1677721600, [], 8388608⟩  /- quay.if_accel (R522) -/
  , ⟨2, 0, 11, 0xae, 1, 1, .q24, 9, .rw, false, 335545, 16777216, [], 1677722⟩  /- quay.obs_handover (R522) -/
  , ⟨2, 0, 11, 0xaf, 1, 1, .u32, 3, .rw, false, 10000, 10000000, [], 1000000⟩  /- quay.if_timeout (R522) -/
  , ⟨2, 0, 11, 0xb0, 1, 1, .q24, 9, .ro, false, -2147483648, 2147483647, [], 0⟩  /- quay.n_ug (R522) -/
  , ⟨2, 0, 11, 0xb1, 1, 1, .u32, 10, .ro, false, 0, 1073741824, [], 0⟩  /- quay.adv_angle (R522) -/
  , ⟨2, 0, 11, 0xb2, 1, 1, .q24, 9, .ro, false, -2147483648, 2147483647, [], 0⟩  /- quay.obs_residual (R522) -/
  , ⟨2, 0, 11, 0xb3, 1, 1, .u32, 10, .ro, false, 0, 4294967295, [], 0⟩  /- quay.pll_err (R522) -/
  , ⟨2, 0, 11, 0xb4, 1, 1, .u32, 10, .ro, false, 0, 4294967295, [], 0⟩  /- quay.enc_offset (R522) -/
  , ⟨12, 0, 11, 0x0, 1, 1, .u8, 1, .rw, true, 2, 32, [], 2⟩  /- tab.adv_count (R523) -/
  , ⟨12, 0, 11, 0x1, 32, 1, .q24, 9, .rw, true, 0, 67108864, [], 0⟩  /- tab.adv_speed_0 to tab.adv_speed_31 (R523) -/
  , ⟨12, 0, 11, 0x21, 32, 1, .u32, 10, .rw, true, 0, 1073741824, [], 0⟩  /- tab.adv_angle_0 to tab.adv_angle_31 (R523) -/
  , ⟨0, 0, 0, 0x200, 16, 16, .u8, 1, .rw, true, 0, 3, [255], 255⟩  /- dev.sdn_clock (R524) -/
  , ⟨0, 0, 0, 0x201, 16, 16, .u16, 2, .rw, true, 16, 256, [], 128⟩  /- dev.sdn_decim (R524) -/
  , ⟨0, 0, 0, 0x202, 16, 16, .u8, 11, .rw, true, 0, 1, [], 1⟩  /- dev.sdn_align (R524) -/
  , ⟨0, 0, 0, 0x203, 16, 16, .q24, 9, .rw, false, 167773, 1677721600, [], 33554432⟩  /- dev.sdn_gain (R524) -/
  , ⟨0, 0, 0, 0x204, 16, 16, .q24, 9, .rw, false, -134217728, 134217728, [], 0⟩  /- dev.sdn_offset (R524) -/
  , ⟨0, 0, 0, 0x205, 16, 16, .u16, 2, .rw, false, 2, 1024, [], 32⟩  /- dev.sdn_ovr_bits (R524) -/
  , ⟨0, 0, 0, 0x206, 16, 16, .q24, 9, .ro, false, -2147483648, 2147483647, [], 0⟩  /- dev.sdn_value (R524) -/ ]

/-- Template rows, part 8. -/
def templates8 : List PRow :=
  [ ⟨0, 0, 0, 0x300, 4, 1, .u8, 1, .rw, true, 16, 80, [0], 0⟩  /- dev.sdcm_div (R524) -/
  , ⟨2, 0, 11, 0x100, 1, 1, .q24, 9, .rw, false, 167773, 33554432, [], 18454938⟩  /- quay.speed_limit (R582) -/
  , ⟨2, 0, 11, 0x101, 1, 1, .q24, 9, .rw, false, 1677722, 67108864, [], 20971520⟩  /- quay.overspeed (R582) -/
  , ⟨2, 0, 11, 0x102, 1, 1, .q24, 9, .rw, false, 167773, 33554432, [], 3355443⟩  /- quay.speed_err_max (R582) -/
  , ⟨2, 0, 11, 0x103, 1, 1, .u32, 3, .rw, false, 1000, 10000000, [], 500000⟩  /- quay.speed_err_time (R582) -/
  , ⟨2, 0, 11, 0x104, 1, 1, .u32, 3, .rw, false, 0, 1000000, [], 10000⟩  /- quay.speed_kp (R582) -/
  , ⟨2, 0, 11, 0x105, 1, 1, .u32, 3, .rw, false, 0, 4000000000, [], 20000⟩  /- quay.speed_ki (R582) -/
  , ⟨2, 0, 11, 0x106, 1, 1, .u32, 3, .rw, false, 0, 100000, [], 500⟩  /- quay.speed_filter (R582) -/
  , ⟨2, 0, 11, 0x107, 1, 1, .q24, 9, .rw, false, 16778, 1677721600, [], 16777216⟩  /- quay.inertia (R582) -/
  , ⟨2, 0, 11, 0x108, 1, 1, .u16, 2, .rw, false, 1, 500, [], 20⟩  /- quay.lobs_bw (R582) -/
  , ⟨2, 0, 11, 0x109, 1, 1, .u8, 1, .rw, false, 0, 1, [], 0⟩  /- quay.lobs_ff (R582) -/
  , ⟨2, 0, 11, 0x10a, 1, 1, .u8, 1, .rw, false, 0, 1, [], 1⟩  /- quay.accel_ff (R582) -/
  , ⟨2, 0, 11, 0x10b, 1, 1, .u32, 3, .rw, false, 100, 1000000, [], 20000⟩  /- quay.torque_rate (R582) -/
  , ⟨2, 0, 11, 0x10c, 1, 1, .q24, 9, .rw, false, 0, 3355443, [], 0⟩  /- quay.droop (R582) -/
  , ⟨2, 0, 11, 0x110, 1, 1, .q24, 9, .rw, true, 167773, 167772160, [], 16777216⟩  /- quay.tension_gain (R582) -/
  , ⟨2, 0, 11, 0x111, 1, 1, .u32, 3, .rw, false, 1, 4294967295, [], 100000⟩  /- quay.tension_base (R582) -/
  , ⟨2, 0, 11, 0x112, 1, 1, .u8, 11, .rw, true, 0, 1, [], 0⟩  /- quay.tension_source (R582) -/
  , ⟨2, 0, 11, 0x113, 1, 1, .u8, 1, .rw, true, 0, 15, [], 0⟩  /- quay.tension_sd (R582) -/
  , ⟨2, 0, 11, 0x114, 1, 1, .q24, 9, .rw, false, 167773, 16777216, [], 3355443⟩  /- quay.render_band (R582) -/
  , ⟨2, 0, 11, 0x115, 1, 1, .q24, 9, .rw, false, 167773, 16777216, [], 3355443⟩  /- quay.recover_band (R582) -/
  , ⟨2, 0, 11, 0x116, 1, 1, .q24, 9, .rw, false, 16778, 16777216, [], 838861⟩  /- quay.render_speed (R582) -/
  , ⟨2, 0, 11, 0x117, 1, 1, .q24, 9, .rw, false, 16778, 16777216, [], 503316⟩  /- quay.recover_speed (R582) -/
  , ⟨2, 0, 11, 0x118, 1, 1, .u32, 3, .rw, false, 0, 1000000, [], 20000⟩  /- quay.tension_dwell (R582) -/
  , ⟨2, 0, 11, 0x119, 1, 1, .u32, 3, .rw, false, 0, 100000, [], 5000⟩  /- quay.tension_filter (R582) -/ ]

/-- Template rows, part 9. -/
def templates9 : List PRow :=
  [ ⟨2, 0, 11, 0x11a, 1, 1, .q24, 9, .rw, false, 1677722, 67108864, [], 25165824⟩  /- quay.tension_max (R582) -/
  , ⟨2, 0, 11, 0x11b, 1, 1, .u8, 11, .ro, false, 0, 2, [], 0⟩  /- quay.tension_state (R582) -/
  , ⟨2, 0, 11, 0x11c, 1, 1, .q24, 9, .ro, false, -2147483648, 2147483647, [], 0⟩  /- quay.tension_meas (R582) -/
  , ⟨2, 0, 11, 0x11d, 1, 1, .q24, 9, .ro, false, -2147483648, 2147483647, [], 0⟩  /- quay.load_est (R582) -/
  , ⟨2, 0, 11, 0x11e, 1, 1, .q24, 9, .ro, false, -2147483648, 2147483647, [], 0⟩  /- quay.speed_est (R582) -/
  , ⟨2, 0, 11, 0x11f, 1, 1, .q24, 9, .ro, false, -2147483648, 2147483647, [], 0⟩  /- quay.demand (R582) -/
  , ⟨2, 0, 11, 0x120, 1, 1, .u8, 1, .rws, false, 0, 63, [], 0⟩  /- quay.shaft_group (R582) -/
  , ⟨2, 0, 11, 0x121, 1, 1, .u8, 11, .rws, false, 0, 3, [], 0⟩  /- quay.share_role (R582) -/
  , ⟨2, 0, 11, 0x122, 1, 1, .q24, 9, .rw, true, 167773, 67108864, [], 16777216⟩  /- quay.share_ratio (R582) -/
  , ⟨2, 0, 11, 0x123, 1, 1, .u8, 11, .rw, false, 0, 2, [], 0⟩  /- quay.standalone_mode (R582) -/
  , ⟨2, 0, 11, 0x124, 1, 1, .u8, 1, .rw, false, 1, 255, [], 3⟩  /- quay.share_loss_count (R582) -/
  , ⟨2, 0, 11, 0x125, 1, 1, .q24, 9, .ro, false, -2147483648, 2147483647, [], 0⟩  /- quay.share_k (R582) -/
  , ⟨2, 0, 11, 0x126, 1, 1, .u8, 1, .ro, false, 0, 8, [], 0⟩  /- quay.share_members (R582) -/
  , ⟨2, 0, 11, 0x45, 1, 1, .q24, 9, .rw, false, 167773, 2130706432, [], 167772160⟩  /- quay.profile_jerk (R670) -/
  , ⟨2, 0, 11, 0x46, 1, 1, .u8, 11, .rw, true, 0, 1, [], 0⟩  /- quay.profile_kind (R670) -/
  , ⟨2, 0, 11, 0x47, 1, 1, .q24, 9, .rw, false, 167773, 2130706432, [], 167772160⟩  /- quay.quickstop_decel (R670) -/
  , ⟨2, 0, 11, 0x130, 1, 1, .q24, 9, .rw, false, 0, 2130706432, [], 335544320⟩  /- quay.pos_kp (R670) -/
  , ⟨2, 0, 11, 0x131, 1, 1, .u32, 3, .rw, false, 1, 2147483647, [], 4096⟩  /- quay.follow_err_max (R670) -/
  , ⟨2, 0, 11, 0x132, 1, 1, .u32, 3, .rw, false, 0, 2147483647, [], 16⟩  /- quay.in_pos_window (R670) -/
  , ⟨2, 0, 11, 0x133, 1, 1, .u32, 3, .rw, false, 0, 1000000, [], 5000⟩  /- quay.in_pos_time (R670) -/
  , ⟨2, 0, 11, 0x134, 1, 1, .u16, 2, .rw, true, 4, 1000, [], 200⟩  /- quay.full_steps (R670) -/
  , ⟨2, 0, 11, 0x135, 1, 1, .u32, 3, .rw, true, 1, 16777216, [], 1000⟩  /- quay.steps_per_rev (R670) -/
  , ⟨2, 0, 11, 0x136, 1, 1, .q24, 9, .rw, true, 1678, 2130706432, [], 16777216⟩  /- quay.step_ratio (R670) -/
  , ⟨2, 0, 11, 0x137, 1, 1, .u32, 3, .ro, false, 0, 4294967295, [], 0⟩  /- quay.counts_per_rev (R670) -/ ]

/-- Template rows, part 10. -/
def templates10 : List PRow :=
  [ ⟨2, 0, 11, 0x138, 1, 1, .s64, 7, .ro, false, -9223372036854775808, 9223372036854775807, [], 0⟩  /- quay.profile_pos (R670) -/
  , ⟨2, 0, 11, 0x13a, 1, 1, .q24, 9, .ro, false, -2147483648, 2147483647, [], 0⟩  /- quay.profile_vel (R670) -/
  , ⟨2, 0, 11, 0x140, 1, 1, .u8, 11, .rw, true, 0, 2, [], 0⟩  /- quay.limp_mode (R670) -/
  , ⟨2, 0, 11, 0x141, 1, 1, .u8, 11, .rw, true, 0, 2, [], 0⟩  /- quay.limn_mode (R670) -/
  , ⟨2, 0, 11, 0x142, 1, 1, .u8, 1, .rw, true, 0, 3, [], 0⟩  /- quay.lim_active (R670) -/
  , ⟨2, 0, 11, 0x143, 1, 1, .u16, 2, .rw, false, 0, 10000, [], 100⟩  /- quay.lim_filter (R670) -/
  , ⟨2, 0, 11, 0x144, 1, 1, .u8, 1, .ro, false, 0, 3, [], 0⟩  /- quay.lim_state (R670) -/
  , ⟨2, 0, 11, 0x150, 1, 1, .q24, 9, .rw, false, 16778, 16777216, [], 838861⟩  /- quay.home_speed (R670) -/
  , ⟨2, 0, 11, 0x151, 1, 1, .q24, 9, .rw, false, 1678, 3355443, [], 167772⟩  /- quay.home_creep (R670) -/
  , ⟨2, 0, 11, 0x152, 1, 1, .q14, 8, .rw, false, 0, 32767, [], 4915⟩  /- quay.home_limit (R670) -/
  , ⟨2, 0, 11, 0x153, 1, 1, .q24, 9, .rw, false, 1678, 3355443, [], 83886⟩  /- quay.home_stall_speed (R670) -/
  , ⟨2, 0, 11, 0x154, 1, 1, .u32, 3, .rw, false, 1000, 1000000, [], 50000⟩  /- quay.home_stall_time (R670) -/
  , ⟨2, 0, 11, 0x155, 1, 1, .u32, 3, .rw, false, 0, 2147483647, [], 256⟩  /- quay.home_backoff (R670) -/
  , ⟨2, 0, 11, 0x156, 1, 1, .u32, 3, .rw, false, 1, 4294967295, [], 4294967295⟩  /- quay.home_max_travel (R670) -/
  , ⟨2, 0, 11, 0x160, 1, 1, .q24, 9, .rw, false, 0, 33554432, [], 1677722⟩  /- quay.quiet_speed (R670) -/
  , ⟨2, 0, 11, 0x161, 1, 1, .u16, 2, .rw, false, 0, 500, [], 100⟩  /- quay.mode_hyst (R670) -/
  , ⟨2, 0, 11, 0x162, 1, 1, .u16, 2, .rw, false, 1, 500, [], 20⟩  /- quay.quiet_bw (R670) -/
  , ⟨2, 0, 11, 0x163, 1, 1, .q24, 9, .rw, false, 0, 33554432, [], 5033165⟩  /- quay.hold_current (R670) -/
  , ⟨2, 0, 11, 0x164, 1, 1, .u32, 3, .rw, false, 0, 10000000, [], 200000⟩  /- quay.hold_delay (R670) -/
  , ⟨2, 0, 11, 0x170, 1, 1, .u8, 1, .rw, true, 0, 1, [], 1⟩  /- quay.ibex_enable (R670) -/
  , ⟨2, 0, 11, 0x171, 1, 1, .q24, 9, .rw, false, 0, 33554432, [], 16777216⟩  /- quay.i_run (R670) -/
  , ⟨2, 0, 11, 0x172, 1, 1, .q24, 9, .rw, false, 0, 33554432, [], 6710886⟩  /- quay.i_min (R670) -/
  , ⟨2, 0, 11, 0x173, 1, 1, .q24, 9, .rw, false, 0, 16777216, [], 10066330⟩  /- quay.ibex_raise_lvl (R670) -/
  , ⟨2, 0, 11, 0x174, 1, 1, .q24, 9, .rw, false, 0, 16777216, [], 5033165⟩  /- quay.ibex_lower_lvl (R670) -/ ]

/-- Template rows, part 11. -/
def templates11 : List PRow :=
  [ ⟨2, 0, 11, 0x175, 1, 1, .q24, 9, .rw, false, 167773, 2130706432, [], 335544320⟩  /- quay.ibex_slew (R670) -/
  , ⟨2, 0, 11, 0x176, 1, 1, .q24, 9, .rw, false, 16778, 16777216, [], 671089⟩  /- quay.ibex_emf_speed (R670) -/
  , ⟨2, 0, 11, 0x177, 1, 1, .u32, 10, .rw, false, 0, 2147483648, [], 894784853⟩  /- quay.ibex_stall_angle (R670) -/
  , ⟨2, 0, 11, 0x178, 1, 1, .u8, 1, .rw, false, 1, 255, [], 4⟩  /- quay.ibex_stall_count (R670) -/
  , ⟨2, 0, 11, 0x179, 1, 1, .u32, 3, .rw, false, 1000, 10000000, [], 100000⟩  /- quay.ibex_sat_time (R670) -/
  , ⟨2, 0, 11, 0x17a, 1, 1, .q24, 9, .ro, false, -2147483648, 2147483647, [], 0⟩  /- quay.ibex_load (R670) -/
  , ⟨2, 0, 11, 0x17b, 1, 1, .u32, 10, .ro, false, 0, 4294967295, [], 0⟩  /- quay.ibex_angle (R670) -/
  , ⟨2, 0, 11, 0x17c, 1, 1, .q24, 9, .ro, false, -2147483648, 2147483647, [], 0⟩  /- quay.ibex_current (R670) -/
  , ⟨2, 0, 11, 0x17d, 1, 1, .u32, 3, .ro, false, 0, 4294967295, [], 0⟩  /- quay.ibex_slip (R670) -/
  , ⟨2, 0, 11, 0x17e, 1, 1, .u8, 1, .ro, false, 0, 8, [], 0⟩  /- quay.ms_level (R670) -/
  , ⟨2, 0, 11, 0x180, 1, 1, .u16, 2, .rw, true, 40, 65535, [], 400⟩  /- quay.step_width (R670) -/
  , ⟨2, 0, 11, 0x181, 1, 1, .u8, 1, .rw, true, 0, 3, [], 1⟩  /- quay.step_polarity (R670) -/
  , ⟨2, 0, 11, 0x182, 1, 1, .u16, 2, .rw, true, 0, 65535, [], 2000⟩  /- quay.dir_setup (R670) -/
  , ⟨2, 0, 11, 0x183, 1, 1, .u16, 2, .rw, true, 0, 65535, [], 2000⟩  /- quay.dir_hold (R670) -/
  , ⟨2, 0, 11, 0x184, 1, 1, .s32, 5, .ro, false, -2147483648, 2147483647, [], 0⟩  /- quay.step_lag (R670) -/
  , ⟨12, 16, 27, 0x0, 1, 1, .u16, 2, .rw, false, 0, 500, [], 100⟩  /- tab.ms_hyst (R671) -/
  , ⟨12, 16, 27, 0x1, 8, 1, .u32, 3, .rw, false, 1, 1000000, [], 0⟩  /- tab.ms_thr_1 to tab.ms_thr_8 (R671) -/
  , ⟨12, 16, 27, 0x9, 1, 1, .u8, 1, .rw, false, 0, 8, [], 8⟩  /- tab.ms_floor (R671) -/
  , ⟨2, 0, 11, 0x190, 1, 1, .q24, 9, .rw, false, 83887, 8388608, [], 503316⟩  /- quay.catch_detect (R741) -/
  , ⟨2, 0, 11, 0x191, 1, 1, .q24, 9, .rw, false, 167773, 16777216, [], 5033165⟩  /- quay.catch_limit (R741) -/
  , ⟨2, 0, 11, 0x192, 1, 1, .u32, 3, .rw, false, 250, 100000, [], 2000⟩  /- quay.catch_window (R741) -/
  , ⟨2, 0, 11, 0x193, 1, 1, .q24, 9, .rw, false, 167773, 33554432, [], 8388608⟩  /- quay.catch_torque (R741) -/
  , ⟨2, 0, 11, 0x194, 1, 1, .u32, 3, .rw, false, 10000, 60000000, [], 10000000⟩  /- quay.catch_timeout (R741) -/
  , ⟨2, 0, 11, 0x195, 1, 1, .q24, 9, .rw, false, 16778, 8388608, [], 167772⟩  /- quay.catch_emf_min (R741) -/ ]

/-- Template rows, part 12. -/
def templates12 : List PRow :=
  [ ⟨2, 0, 11, 0x196, 1, 1, .q24, 9, .rw, false, 167773, 16777216, [], 1677722⟩  /- quay.search_current (R741) -/
  , ⟨2, 0, 11, 0x197, 1, 1, .q24, 9, .rw, false, 167773, 1677721600, [], 33554432⟩  /- quay.search_rate (R741) -/
  , ⟨2, 0, 11, 0x198, 1, 1, .q24, 9, .rw, false, 1677722, 67108864, [], 33554432⟩  /- quay.wsb_i_max (R741) -/
  , ⟨2, 0, 11, 0x199, 1, 1, .u8, 11, .rw, true, 0, 2, [], 0⟩  /- quay.crash_mode (R741) -/
  , ⟨2, 0, 11, 0x19a, 1, 1, .q24, 9, .rw, false, 167773, 33554432, [], 3355443⟩  /- quay.crash_speed (R741) -/
  , ⟨2, 0, 11, 0x19b, 1, 1, .q24, 9, .rw, false, 167773, 33554432, [], 16777216⟩  /- quay.crash_torque (R741) -/
  , ⟨2, 0, 11, 0x19c, 1, 1, .q24, 9, .rw, false, 1677722, 1677721600, [], 31876710⟩  /- quay.crash_udc_soft (R741) -/
  , ⟨2, 0, 11, 0x19d, 1, 1, .q24, 9, .rw, false, 1677722, 1677721600, [], 33554432⟩  /- quay.crash_udc_hard (R741) -/
  , ⟨2, 0, 11, 0x19e, 1, 1, .u8, 1, .rw, false, 1, 255, [], 4⟩  /- quay.crash_udc_count (R741) -/
  , ⟨2, 0, 11, 0x19f, 1, 1, .q24, 9, .rw, false, 167773, 8388608, [], 1677722⟩  /- quay.crash_through_speed (R741) -/
  , ⟨2, 0, 11, 0x1a0, 1, 1, .u8, 1, .rws, false, 0, 1, [], 0⟩  /- quay.degrade_enable (R741) -/
  , ⟨2, 0, 11, 0x1a1, 1, 1, .u8, 11, .rw, true, 0, 1, [], 0⟩  /- quay.degrade_set_state (R741) -/
  , ⟨2, 0, 11, 0x1a2, 1, 1, .u8, 1, .rws, false, 0, 1, [], 0⟩  /- quay.enc_fallback (R741) -/
  , ⟨2, 0, 11, 0x1a3, 1, 1, .u32, 3, .rw, false, 1000, 1000000, [], 200000⟩  /- quay.release_rate (R741) -/
  , ⟨2, 0, 11, 0x1a4, 1, 1, .q24, 9, .rw, false, 167773, 33554432, [], 8388608⟩  /- quay.release_speed_max (R741) -/
  , ⟨2, 0, 11, 0x1a8, 1, 1, .u8, 11, .ro, false, 0, 4, [], 0⟩  /- quay.catch_phase (R741) -/
  , ⟨2, 0, 11, 0x1a9, 1, 1, .u8, 11, .ro, false, 0, 3, [], 0⟩  /- quay.crash_phase (R741) -/
  , ⟨2, 0, 11, 0x1aa, 1, 1, .u8, 1, .ro, false, 0, 1, [], 0⟩  /- quay.release_active (R741) -/
  , ⟨2, 0, 11, 0x1ab, 1, 1, .u32, 10, .ro, false, 0, 4294967295, [], 0⟩  /- quay.obs_offset (R741) -/
  , ⟨2, 0, 11, 0x1ac, 1, 1, .q24, 9, .ro, false, -2147483648, 2147483647, [], 0⟩  /- quay.wsb_current (R741) -/
  , ⟨3, 0, 79, 0x0, 1, 1, .u8, 11, .rws, false, 0, 1, [], 0⟩  /- leg.role (R819) -/
  , ⟨3, 0, 79, 0x1, 1, 1, .u16, 2, .rw, true, 128, 64000, [], 640⟩  /- leg.dead_time (R819) -/
  , ⟨3, 0, 79, 0x2, 1, 1, .u16, 2, .rws, false, 640, 12800, [], 3200⟩  /- leg.blank_time (R819) -/
  , ⟨3, 0, 79, 0x3, 1, 1, .u16, 2, .rws, false, 320, 2560, [], 640⟩  /- leg.sc_filter (R819) -/ ]

/-- Template rows, part 13. -/
def templates13 : List PRow :=
  [ ⟨3, 0, 79, 0x4, 1, 1, .u32, 3, .rws, false, 100, 1000000, [], 2000⟩  /- leg.rshunt (R819) -/
  , ⟨3, 0, 79, 0x5, 1, 1, .u8, 11, .rws, false, 0, -1, [5, 10, 20, 40], 20⟩  /- leg.shunt_gain (R819) -/
  , ⟨3, 0, 79, 0x6, 1, 1, .u32, 3, .rws, false, 100, 1000000, [], 20000⟩  /- leg.oc_level (R819) -/
  , ⟨3, 0, 79, 0x7, 1, 1, .u32, 3, .rws, false, 100, 10000000, [], 10000⟩  /- leg.slope_level (R819) -/
  , ⟨3, 0, 79, 0x8, 1, 1, .u32, 3, .rws, false, 100, 1000000, [], 10000⟩  /- leg.pb_level (R819) -/
  , ⟨3, 0, 79, 0x9, 1, 1, .u16, 2, .rws, false, 320, 12800, [], 1280⟩  /- leg.gw_timeout (R819) -/
  , ⟨3, 0, 79, 0xa, 1, 1, .u16, 2, .rw, false, 500, 5000, [], 2500⟩  /- leg.vboot_refresh_ofs (R819) -/
  , ⟨3, 0, 79, 0xb, 1, 1, .u16, 2, .rws, false, 5000, 10000, [], 7500⟩  /- leg.vboot_uvlo (R819) -/
  , ⟨3, 0, 79, 0xc, 1, 1, .u32, 3, .rw, false, 0, 1000000, [], 20000⟩  /- leg.i_limit (R819) -/
  , ⟨3, 0, 79, 0xd, 1, 1, .u8, 11, .rws, false, 0, 1, [], 0⟩  /- leg.chop_switch (R819) -/
  , ⟨3, 0, 79, 0xe, 1, 1, .u32, 3, .rws, false, 1000, 2000000, [], 800000⟩  /- leg.chop_on (R819) -/
  , ⟨3, 0, 79, 0xf, 1, 1, .u32, 3, .rws, false, 1000, 2000000, [], 760000⟩  /- leg.chop_off (R819) -/
  , ⟨3, 0, 79, 0x20, 1, 1, .u32, 3, .ro, false, 0, 4294967295, [], 0⟩  /- leg.status (R819) -/
  , ⟨3, 0, 79, 0x21, 1, 1, .u8, 11, .ro, false, 0, 3, [], 0⟩  /- leg.kind (R819) -/
  , ⟨3, 0, 79, 0x22, 1, 1, .s32, 5, .ro, false, -2147483648, 2147483647, [], 0⟩  /- leg.current (R819) -/
  , ⟨3, 0, 79, 0x23, 1, 1, .u32, 3, .ro, false, 0, 4294967295, [], 0⟩  /- leg.vphase (R819) -/
  , ⟨3, 0, 79, 0x24, 1, 1, .u16, 2, .ro, false, 0, 65535, [], 0⟩  /- leg.vboot (R819) -/
  , ⟨3, 0, 79, 0x25, 1, 1, .s16, 4, .ro, false, -32768, 32767, [], 0⟩  /- leg.temp (R819) -/
  , ⟨3, 0, 79, 0x26, 1, 1, .u32, 3, .ro, false, 0, 4294967295, [], 0⟩  /- leg.i_limit_eff (R819) -/
  , ⟨3, 0, 79, 0x27, 1, 1, .u8, 11, .ro, false, 0, 3, [], 0⟩  /- leg.suspect (R819) -/
  , ⟨3, 0, 79, 0x28, 1, 1, .u32, 3, .ro, false, 0, 4294967295, [], 0⟩  /- leg.discard_count (R819) -/
  , ⟨3, 0, 79, 0x29, 1, 1, .u32, 3, .ro, false, 0, 4294967295, [], 0⟩  /- leg.refresh_count (R819) -/
  , ⟨3, 0, 79, 0x2a, 1, 1, .u32, 3, .ro, false, 0, 4294967295, [], 0⟩  /- leg.blank_count (R819) -/
  , ⟨3, 0, 79, 0x2b, 1, 1, .u32, 3, .ro, false, 0, 4294967295, [], 0⟩  /- leg.short_pulse_count (R819) -/ ]

/-- Template rows, part 14. -/
def templates14 : List PRow :=
  [ ⟨0, 0, 0, 0x400, 4, 16, .u8, 1, .rws, false, 0, 1, [], 0⟩  /- dev.brkm_enable (R820) -/
  , ⟨0, 0, 0, 0x401, 4, 16, .u32, 3, .rws, false, 1000, 2000000, [], 78000⟩  /- dev.brkm_on (R820) -/
  , ⟨0, 0, 0, 0x402, 4, 16, .u32, 3, .rws, false, 1000, 2000000, [], 76000⟩  /- dev.brkm_off (R820) -/
  , ⟨0, 0, 0, 0x403, 4, 16, .u8, 11, .rws, false, 0, 31, [255], 0⟩  /- dev.brkm_src (R820) -/
  , ⟨0, 0, 0, 0x404, 4, 16, .u32, 3, .rw, false, 0, 60000000, [], 0⟩  /- dev.brkm_max_on (R820) -/
  , ⟨0, 0, 0, 0x405, 4, 16, .u8, 1, .ro, false, 0, 1, [], 0⟩  /- dev.brkm_state (R820) -/
  , ⟨0, 0, 0, 0x450, 2, 1, .u32, 3, .rws, false, 20000, 95000, [], 84000⟩  /- dev.vm_ov_d (R820) -/
  , ⟨0, 0, 0, 0x460, 2, 1, .u32, 3, .rws, false, 6000, 70000, [], 7000⟩  /- dev.vm_uv_d (R820) -/
  , ⟨2, 0, 11, 0x1b0, 1, 1, .u8, 11, .rw, true, 0, 3, [32, 33, 34, 35, 36, 37, 38, 39, 40, 41, 42, 43, 44, 45, 46, 47, 48, 49, 50, 51, 52, 53, 54, 55, 56, 57, 58, 59, 60, 61, 62, 63, 64, 65, 66, 67, 68, 69, 70, 71, 72, 73, 74, 75, 76, 77, 78, 79, 255], 255⟩  /- quay.chopper (R821) -/
  , ⟨2, 0, 11, 0x1b1, 1, 1, .u8, 1, .rws, false, 0, 3, [], 3⟩  /- quay.asc_policy (R821) -/
  , ⟨5, 0, 19, 0x0, 1, 1, .u8, 11, .ro, false, 0, 6, [], 0⟩  /- gw.state (R883) -/
  , ⟨5, 0, 19, 0x1, 1, 1, .u64, 6, .ro, false, 0, 18446744073709551615, [], 0⟩  /- gw.serial (R883) -/
  , ⟨5, 0, 19, 0x3, 1, 1, .u16, 2, .ro, false, 0, 65535, [], 0⟩  /- gw.unit_type (R883) -/
  , ⟨5, 0, 19, 0x4, 1, 1, .u16, 2, .ro, false, 0, 65535, [], 0⟩  /- gw.fw_level (R883) -/
  , ⟨5, 0, 19, 0x5, 1, 1, .u32, 3, .ro, false, 0, 4294967295, [], 0⟩  /- gw.caps (R883) -/
  , ⟨5, 0, 19, 0x6, 1, 1, .u16, 2, .ro, false, 0, 65535, [], 0⟩  /- gw.i_lsb (R883) -/
  , ⟨5, 0, 19, 0x7, 1, 1, .u16, 2, .ro, false, 0, 65535, [], 0⟩  /- gw.u_lsb (R883) -/
  , ⟨5, 0, 19, 0x8, 1, 1, .u32, 3, .ro, false, 0, 4294967295, [], 0⟩  /- gw.delay (R883) -/
  , ⟨5, 0, 19, 0x10, 1, 1, .u32, 3, .rw, false, 1000, 1000000, [], 20000⟩  /- gw.train_timeout (R883) -/
  , ⟨5, 0, 19, 0x11, 1, 1, .u32, 3, .rw, false, 100, 100000, [], 1000⟩  /- gw.sync_period (R883) -/
  , ⟨5, 0, 19, 0x12, 1, 1, .u32, 3, .rw, false, 64, 25600, [], 12800⟩  /- gw.delay_max (R883) -/
  , ⟨5, 0, 19, 0x13, 1, 1, .u8, 11, .rws, false, 0, 1, [], 0⟩  /- gw.loss_state (R883) -/
  , ⟨5, 0, 19, 0x20, 1, 1, .u32, 3, .ro, false, 0, 4294967295, [], 0⟩  /- gw.crc_count (R883) -/
  , ⟨5, 0, 19, 0x21, 1, 1, .u32, 3, .ro, false, 0, 4294967295, [], 0⟩  /- gw.seq_gaps (R883) -/ ]

/-- Template rows, part 15. -/
def templates15 : List PRow :=
  [ ⟨5, 0, 19, 0x22, 1, 1, .u32, 3, .ro, false, 0, 4294967295, [], 0⟩  /- gw.stray_status (R883) -/
  , ⟨5, 0, 19, 0x23, 1, 1, .u32, 3, .ro, false, 0, 4294967295, [], 0⟩  /- gw.loss_count (R883) -/
  , ⟨6, 0, 0, 0x0, 1, 1, .u32, 3, .bo, false, 0, 4294967295, [], 0⟩  /- hw.address (R884) -/
  , ⟨6, 0, 0, 0x1, 1, 1, .u8, 1, .bo, false, 0, 255, [], 0⟩  /- hw.time_prio (R884) -/
  , ⟨6, 0, 0, 0x2, 1, 1, .u32, 3, .rw, false, 100, 10000, [], 1000⟩  /- hw.time_period (R884) -/
  , ⟨6, 0, 0, 0x3, 1, 1, .u32, 3, .rw, false, 1000, 100000, [], 10000⟩  /- hw.disc_period (R884) -/
  , ⟨6, 0, 0, 0x4, 1, 1, .u32, 3, .rw, false, 500, 50000, [], 2000⟩  /- hw.member_window (R884) -/
  , ⟨6, 0, 0, 0x5, 1, 1, .u32, 3, .rw, false, 32, 64000, [], 320⟩  /- hw.align_lost (R884) -/
  , ⟨6, 0, 0, 0x6, 1, 1, .u8, 11, .ro, false, 0, 2, [], 0⟩  /- hw.mode (R884) -/
  , ⟨6, 0, 0, 0x7, 1, 1, .u8, 1, .ro, false, 0, 255, [], 0⟩  /- hw.members (R884) -/
  , ⟨6, 0, 0, 0x8, 1, 1, .u8, 1, .ro, false, 0, 7, [], 0⟩  /- hw.time_master (R884) -/
  , ⟨6, 0, 0, 0x9, 1, 1, .s32, 5, .ro, false, -2147483648, 2147483647, [], 0⟩  /- hw.offset (R884) -/
  , ⟨6, 0, 0, 0xa, 1, 1, .u8, 1, .ro, false, 0, 1, [], 0⟩  /- hw.aligned (R884) -/
  , ⟨6, 0, 0, 0xb, 1, 1, .u32, 3, .ro, false, 0, 4294967295, [], 0⟩  /- hw.delay_h0 (R884) -/
  , ⟨6, 0, 0, 0xc, 1, 1, .u32, 3, .ro, false, 0, 4294967295, [], 0⟩  /- hw.delay_h1 (R884) -/
  , ⟨7, 0, 0, 0x0, 1, 1, .u8, 1, .rws, false, 0, 4, [], 2⟩  /- flt.err_level (R939) -/
  , ⟨7, 0, 0, 0x1, 1, 1, .u16, 2, .rws, false, 1, 1000, [], 100⟩  /- flt.err_pulse (R939) -/
  , ⟨7, 0, 0, 0x2, 1, 1, .u16, 2, .ro, false, 128, 128, [], 128⟩  /- flt.coinc_window (R939) -/
  , ⟨7, 0, 0, 0x12, 8, 1, .u32, 3, .rws, false, 0, 60000000, [], 2000⟩  /- flt.conseq_window_2 to flt.conseq_window_9 (R939) -/
  , ⟨7, 0, 0, 0x20, 12, 1, .u8, 11, .rws, false, 4, 6, [], 4⟩  /- flt.safe_state_0 to flt.safe_state_11 (R939) -/
  , ⟨7, 1, 1, 0x0, 3072, 1, .u8, 1, .bo, false, 0, 4, [], 0⟩  /- flt.base_level (R939) -/
  , ⟨7, 2, 2, 0x0, 3072, 1, .u8, 1, .bo, false, 0, 4, [], 0⟩  /- flt.severe_level (R939) -/
  , ⟨7, 3, 3, 0x0, 3072, 1, .u8, 1, .bo, false, 1, 255, [], 0⟩  /- flt.count_n (R939) -/
  , ⟨7, 4, 4, 0x0, 3072, 1, .u32, 3, .bo, false, 1, 60000000, [], 0⟩  /- flt.count_t (R939) -/ ]

/-- Template rows, part 16. -/
def templates16 : List PRow :=
  [ ⟨7, 5, 5, 0x0, 3072, 1, .u8, 11, .bo, false, 0, 9, [], 0⟩  /- flt.reaction_base (R939) -/
  , ⟨7, 6, 6, 0x0, 3072, 1, .u8, 11, .bo, false, 0, 9, [], 0⟩  /- flt.reaction_severe (R939) -/
  , ⟨7, 7, 7, 0x0, 3072, 1, .u16, 2, .bo, false, 0, 65535, [], 0⟩  /- flt.entry_flags (R939) -/
  , ⟨7, 8, 8, 0x0, 3072, 1, .u32, 3, .ro, false, 0, 4294967295, [], 0⟩  /- flt.events (R939) -/
  , ⟨1, 0, 1, 0x0, 1, 1, .u8, 11, .ro, false, 0, 4, [], 0⟩  /- half.state (R987) -/
  , ⟨1, 0, 1, 0x1, 1, 1, .u32, 3, .rws, false, 20, 10000, [], 200⟩  /- half.pilot_wd (R987) -/
  , ⟨1, 0, 1, 0x2, 1, 1, .u16, 2, .rws, false, 4, 100, [], 10⟩  /- half.hb_timeout (R987) -/
  , ⟨1, 0, 1, 0x3, 1, 1, .u8, 1, .rws, false, 1, 8, [], 2⟩  /- half.engine_miss (R987) -/
  , ⟨1, 0, 1, 0x4, 1, 1, .u32, 3, .rws, false, 20, 10000, [], 100⟩  /- half.link_timeout (R987) -/
  , ⟨1, 0, 1, 0x5, 1, 1, .u32, 3, .ro, false, 0, 4294967295, [], 0⟩  /- half.mismatch_count (R987) -/
  , ⟨1, 0, 1, 0x6, 1, 1, .u32, 3, .ro, false, 0, 4294967295, [], 0⟩  /- half.reset_count (R987) -/
  , ⟨1, 0, 1, 0x7, 1, 1, .u32, 3, .ro, false, 0, 4294967295, [], 0⟩  /- half.rejoin_time (R987) -/
  , ⟨0, 0, 0, 0x500, 1, 1, .u8, 11, .bo, false, 0, 3, [], 0⟩  /- hm.policy (R988) -/
  , ⟨0, 0, 0, 0x501, 1, 1, .u8, 1, .bo, false, 0, 1, [], 0⟩  /- hm.force_enable (R988) -/
  , ⟨0, 0, 0, 0x502, 1, 1, .u16, 2, .bo, false, 0, 50, [], 0⟩  /- hm.pref_wait (R988) -/
  , ⟨8, 0, 0, 0x0, 24, 1, .s16, 4, .ro, false, -600, 2000, [-32768], 0⟩  /- thm.temp_ts0 to thm.temp_ts23 (R1020) -/
  , ⟨8, 0, 0, 0x20, 2, 1, .s16, 4, .rws, false, 1000, 1400, [], 1250⟩  /- thm.thr_start_d (R1020) -/
  , ⟨8, 0, 0, 0x30, 2, 1, .u8, 1, .rws, false, 1, 100, [], 5⟩  /- thm.thr_slope_d (R1020) -/
  , ⟨8, 0, 0, 0x40, 2, 1, .s16, 4, .rws, false, 1300, 1500, [], 1500⟩  /- thm.shutdown_d (R1020) -/
  , ⟨8, 0, 0, 0x50, 2, 1, .u16, 2, .ro, false, 0, 1000, [], 1000⟩  /- thm.factor_d (R1020) -/
  , ⟨8, 0, 0, 0x60, 1, 1, .u16, 2, .ro, false, 200, 1000, [], 1000⟩  /- thm.share_factor (R1020) -/ ]

/-- All template rows. -/
def templates : List PRow :=
  templates1 ++ templates2 ++ templates3 ++ templates4 ++ templates5 ++ templates6 ++ templates7 ++ templates8 ++ templates9 ++ templates10 ++ templates11 ++ templates12 ++ templates13 ++ templates14 ++ templates15 ++ templates16

end Sys2Proof.Machine
end

