-- ==== Sys2Proof/Machine/ParamStore.lean ====
section
/-! DEFINITION. The common parameter store (R25, R35, R1069), the ownership table (R177 to R180) and what follows from both:
the assembly of a quay (R63 to R67), the lane and the enable group of a leg. -/

namespace Sys2Proof.Machine

/-- Ticks of a number of microseconds (R14). -/
def us (n : Nat) : Nat := 6400 * n

/-- Present device time, in ticks. -/
def State.now (s : State) : Nat := s.tb.now

/-! ### Addresses and the store -/

/-- A parameter address (R25). -/
def addr (kind inst idx : Nat) : Nat := kind * 0x100000 + inst * 0x1000 + idx
/-- Address of a quay parameter. -/
def quayAddr (q : QuayNo) (idx : Nat) : Nat := addr 2 q.val idx
/-- Address of a leg parameter. -/
def legAddr (l : LegNo) (idx : Nat) : Nat := addr 3 l.val idx
/-- Address of a feedback-cell parameter. -/
def cellAddr (k : CellNo) (idx : Nat) : Nat := addr 4 k.val idx
/-- Address of a lane parameter. -/
def laneAddr (n : LaneNo) (idx : Nat) : Nat := addr 5 n.val idx
/-- Address of a half parameter. -/
def halfAddr (h : Side) (idx : Nat) : Nat := addr 1 h.toNat idx
/-- Address of a host parameter. -/
def hostAddr (p : Side) (idx : Nat) : Nat := addr 10 p.toNat idx
/-- Address of a table parameter: instances from 0 for phase advance, from 16 for microsteps. -/
def tabAddr (first : Nat) (q : QuayNo) (idx : Nat) : Nat := addr 12 (first + q.val) idx

/-- The value of a key in a sorted list of pairs. -/
def assoc {β : Type} : List (Nat × β) → Nat → Option β
  | [], _ => none
  | (k, v) :: rest, a => if k = a then some v else assoc rest a

/-- A sorted list of pairs with the value of one key set. -/
def assocSet {β : Type} : List (Nat × β) → Nat → β → List (Nat × β)
  | [], a, v => [(a, v)]
  | (k, w) :: rest, a, v =>
    if a < k then (a, v) :: (k, w) :: rest else if a = k then (a, v) :: rest else (k, w) :: assocSet rest a v

/-- A parameter's word, or the given default while nothing was written. -/
def State.param (s : State) (a : Nat) (d : Int) : Word := (assoc s.params a).getD (BitVec.ofInt 32 d)

/-- Write one word of the common parameter store. -/
def State.setParam (s : State) (a : Nat) (v : Word) : State := { s with params := assocSet s.params a v }

/-- Reading of an unsigned parameter. -/
def pNat (s : State) (a : Nat) (d : Int) : Nat := (s.param a d).toNat
/-- Reading of a signed parameter in the form of R1069. -/
def pInt (s : State) (a : Nat) (d : Int) : Int := (s.param a d).toInt
/-- Reading of a 64-bit signed parameter: two words, low word first (R1069). -/
def pInt64 (s : State) (a : Nat) (d : Int) : Int :=
  ((s.param (a + 1) (d / 4294967296)) ++ (s.param a (d % 4294967296)) : BitVec 64).toInt
/-- Value of a raw Q8.24 word (R20). -/
def q24 (w : Word) : Rat := (w.toInt : Rat) / 16777216
/-- Value of a raw Q2.14 halfword (R19). -/
def q14 (w : U16) : Rat := (w.toInt : Rat) / 16384
/-- Reading of a Q8.24 parameter. -/
def pQ24 (s : State) (a : Nat) (d : Int) : Rat := q24 (s.param a d)
/-- Reading of a Q2.14 parameter in the form of R1069. -/
def pQ14 (s : State) (a : Nat) (d : Int) : Rat := (pInt s a d : Rat) / 16384

/-! ### Ownership -/

/-- The owner of a resource: unassigned without an entry (R180). -/
def State.ownerOf (s : State) (cls index : Nat) : Owner :=
  match s.prot.owners.find? (fun e => e.cls == cls && e.index == index) with
  | some e => e.owner
  | none => .unassigned

/-- Indices of the resources of one class that a quay owns, in ascending order of entry. -/
def State.owned (s : State) (q : QuayNo) (cls : Nat) : List Nat :=
  (s.prot.owners.filter (fun e => e.cls == cls && e.owner == .quay q)).map (·.index)

/-- A leg number of an index. -/
def legOfNat (n : Nat) : Option LegNo := if h : n < 80 then some ⟨n, h⟩ else none

/-- Legs a quay owns, phase and chopper legs, in ascending order. -/
def State.legsOf (s : State) (q : QuayNo) : List LegNo :=
  (List.finRange 80).filter (fun l => s.ownerOf 1 l.val == .quay q)

/-- `leg.role` = 1: a chopper leg (R68, R819). -/
def State.isChopperLeg (s : State) (l : LegNo) : Bool := pNat s (legAddr l 0) 0 == 1

/-- Phase legs of a quay, in ascending order. -/
def State.phaseLegs (s : State) (q : QuayNo) : List LegNo := (s.legsOf q).filter (fun l => !s.isChopperLeg l)

/-- The quay that owns a leg. -/
def State.legQuay (s : State) (l : LegNo) : Option QuayNo :=
  match s.ownerOf 1 l.val with
  | .quay q => some q
  | _ => none

/-- A leg of a pre-driver die (L0 to L31). -/
def isLocal (l : LegNo) : Bool := decide (l.val < 32)
/-- The die of a local leg; of a remote leg the answer means nothing. -/
def dieOf (l : LegNo) : DieNo := if l.val < 16 then 0 else 1

/-- A lane number of an index. -/
def laneOfNat (n : Nat) : Option LaneNo := if h : n < 20 then some ⟨n, h⟩ else none

/-- The lane and slot that carry a leg (R59, R179, R180, R830). -/
def State.laneSlot (s : State) (l : LegNo) : Option (LaneNo × Nat) :=
  if l.val < 32 then (laneOfNat (16 + l.val / 8)).map (fun n => (n, l.val % 8))
  else
    match s.prot.owners.find? (fun e => e.cls == 4 && e.arg == l.val && e.owner != .unassigned) with
    | some e => (laneOfNat (e.index / 6)).map (fun n => (n, e.index % 6))
    | none => none

/-- The lane of a leg. -/
def State.laneOf (s : State) (l : LegNo) : Option LaneNo := (s.laneSlot l).map (·.1)

/-- The leg that a slot of a lane carries (R830); an unassigned slot carries none (R180). -/
def State.slotLeg (s : State) (n : LaneNo) (slot : Nat) : Option LegNo :=
  if 16 ≤ n.val then (if slot < 8 then legOfNat (8 * (n.val - 16) + slot) else none)
  else
    match s.prot.owners.find? (fun e => e.cls == 4 && e.index == 6 * n.val + slot && decide (slot < 6) && e.owner != .unassigned) with
    | some e => legOfNat e.arg
    | none => none

/-- Legs carried by a lane. -/
def State.legsOnLane (s : State) (n : LaneNo) : List LegNo :=
  (List.range 8).filterMap (s.slotLeg n)

/-- The enable group of a lane (R802). -/
def groupOfLane (n : LaneNo) : GroupNo :=
  if n.val < 4 then 2 else if n.val < 8 then 3 else if n.val < 12 then 4 else if n.val < 16 then 5
  else if n.val < 18 then 0 else 1

/-- The enable group of a leg (R802); none for a remote leg that no lane carries. -/
def State.groupOf (s : State) (l : LegNo) : Option GroupNo :=
  if l.val < 16 then some 0 else if l.val < 32 then some 1 else (s.laneOf l).map groupOfLane

/-- Feedback cells a quay owns: primary first (R66). -/
def State.cellsOf (s : State) (q : QuayNo) : List CellNo :=
  (List.finRange 16).filter (fun k => s.ownerOf 2 k.val == .quay q)

/-- The primary feedback cell of a quay. DEDUCED, log entry 15: the first is the one with the lower number. -/
def State.primaryCell (s : State) (q : QuayNo) : Option CellNo := (s.cellsOf q).head?

/-- The quay that owns a cell. -/
def State.cellQuay (s : State) (k : CellNo) : Option QuayNo :=
  match s.ownerOf 2 k.val with
  | .quay q => some q
  | _ => none

/-- The event slot a quay owns (R1073). -/
def State.eventSlotOf (s : State) (q : QuayNo) : Option Nat := (s.owned q 0x10).head?

/-! ### Assembly of a quay -/

/-- `quay.machine`: 0 none, 1 PMSM, 2 induction, 3 BLDC block, 4 BLDC sinusoidal, 5 brushed DC, 6 stepper, 7 pulse (R522). -/
def State.machine (s : State) (q : QuayNo) : Nat := pNat s (quayAddr q 0x60) 0

/-- A quay has a kernel exactly when its machine is not 0 (R1073). -/
def State.hasKernel (s : State) (q : QuayNo) : Bool := s.machine q != 0

/-- Heavy: all its legs are remote (R63). -/
def State.isHeavy (s : State) (q : QuayNo) : Bool :=
  s.hasKernel q && s.machine q != 7 && !(s.legsOf q).isEmpty && (s.legsOf q).all (fun l => !isLocal l)

/-- A pulse quay (R65). -/
def State.isPulse (s : State) (q : QuayNo) : Bool := s.machine q == 7

/-- A light two-phase stepper (R65). -/
def State.isStepper (s : State) (q : QuayNo) : Bool := s.machine q == 6

/-- Number of three-phase winding sets (R65); none where the legs do not form such sets. -/
def State.setsOf (s : State) (q : QuayNo) : Nat :=
  let n := (s.phaseLegs q).length
  if n % 3 = 0 then n / 3 else 0

/-- `quay.kernel` (R119, R128): 0 none, 1 three-phase FOC, 2 twelve-phase FOC, 3 stepper, 4 profile. -/
def State.kernel (s : State) (q : QuayNo) : Nat :=
  match s.machine q with
  | 0 => 0
  | 1 | 2 => if s.setsOf q ≤ 1 then 1 else 2
  | 6 => 3
  | 7 => 4
  | _ => 1

/-- Default of `quay.carrier_freq` (R128). -/
def carrierDefault (s : State) (q : QuayNo) : Int := if s.isPulse q then 5000 else if s.isHeavy q then 2000 else 16000
/-- Default of `quay.udc_source` (R522). -/
def udcDefault (s : State) (q : QuayNo) : Int := if s.isHeavy q then 1 else 0
/-- Default of `quay.asc_policy` (R821). -/
def ascDefault (s : State) (q : QuayNo) : Int := if s.machine q == 2 then 0 else 3
/-- Default of `quay.set_shift1` to `quay.set_shift3`: 15, 30, 45 degrees (R522). -/
def shiftDefault (i : Nat) : Int := ((i + 1) * 4294967296 + 12) / 24
/-- Default of `tab.adv_speed_i`: 0, 2.0, then 0 (R523). -/
def advDefault (i : Nat) : Int := if i = 1 then 33554432 else 0
/-- Default of `tab.ms_thr_1` to `tab.ms_thr_8` (R671). -/
def msDefault (i : Nat) : Int := 80 * 2 ^ i
/-- Default of `dev.brkm_src` (R820). -/
def brkSrcDefault (m : Nat) : Int := if m < 2 then 255 else 0

/-! ### Template rows -/

/-- Words of a parameter of a type. -/
def PType.words : PType → Nat
  | .u64 | .s64 => 2
  | _ => 1

/-- A template row covers an address: answers the position within the row and whether it is the high word of a 64-bit value. -/
def PRow.find (r : PRow) (a : Nat) : Option (Nat × Bool) :=
  let kind := a / 0x100000
  let inst := a / 0x1000 % 256
  let idx := a % 0x1000
  if kind = r.kind ∧ r.instLo ≤ inst ∧ inst ≤ r.instHi ∧ r.base ≤ idx then
    let off := idx - r.base
    if r.ty.words = 2 then (if off = 0 then some (0, false) else if off = 1 then some (0, true) else none)
    else if off % r.stride = 0 ∧ off / r.stride < r.count then some (off / r.stride, false)
    else none
  else none

/-- The template row of an address, the position within the row, and whether it is a high word. -/
def findRow (a : Nat) : Option (PRow × Nat × Bool) :=
  let rec go : List PRow → Option (PRow × Nat × Bool)
    | [] => none
    | r :: rest =>
      match r.find a with
      | some (i, h) => some (r, i, h)
      | none => go rest
  go templates

/-- The quay a quay parameter or table address belongs to. -/
def quayOfAddr (a : Nat) : Option QuayNo :=
  let inst := a / 0x1000 % 256
  let n := if a / 0x100000 = 12 ∧ 16 ≤ inst then inst - 16 else inst
  if (a / 0x100000 = 2 ∨ a / 0x100000 = 12) then (if h : n < 12 then some ⟨n, h⟩ else none) else none

/-- The default of a parameter, as a raw value of its own type. -/
def rowDefault (s : State) (a : Nat) (r : PRow) (i : Nat) : Int :=
  match r.kind, r.base, quayOfAddr a with
  | 2, 0x20, some q => carrierDefault s q
  | 2, 0x8F, some q => udcDefault s q
  | 2, 0x1B1, some q => ascDefault s q
  | 2, 0x67, _ => shiftDefault i
  | 12, 0x001, _ => if r.count = 32 then advDefault i else msDefault i
  | 0, 0x403, _ => brkSrcDefault i
  | _, _, _ => r.dflt

/-- The stored word of a writable address: what was written, else the default. -/
def State.stored (s : State) (a : Nat) : Word :=
  match findRow a with
  | some (r, i, h) =>
    let d := rowDefault s a r i
    s.param a (if r.ty.words = 2 then (if h then d / 4294967296 else d % 4294967296) else d)
  | none => 0

/-- A word has the form of R1069 for its type and lies in the row's range (R1068). -/
def PRow.inRange (r : PRow) (w : Word) : Bool :=
  let v : Int := match r.ty with
    | .s16 | .s32 | .q14 | .q24 => w.toInt
    | _ => w.toNat
  (decide (r.lo ≤ v) && decide (v ≤ r.hi)) || r.vals.contains v

end Sys2Proof.Machine
end

