-- ==== Sys2Proof/Machine/Params.lean ====
section
/-! DEFINITION. One typed reading of each parameter that a host or an image can set (chapters 01 to 15, parameter tables). -/

namespace Sys2Proof.Machine

/-- `quay.input_deadline` (R80): Latest closing of the input snapshot after the sample event. -/
def quayInputDeadline (s : State) (q : QuayNo) : Nat := pNat s (quayAddr q 0x10) 30
/-- `quay.shadow_tolerance` (R80): Largest difference between active and standby instants not counted as divergence. -/
def quayShadowTolerance (s : State) (q : QuayNo) : Nat := pNat s (quayAddr q 0x11) 16
/-- `quay.shadow_count` (R80): Consecutive divergent update points that raise SHADOW_DIVERGE. -/
def quayShadowCount (s : State) (q : QuayNo) : Nat := pNat s (quayAddr q 0x12) 3
/-- `dev.cap0_src to dev.cap31_src` (R97): GPIO stamped by register c; pool claim. -/
def devCapSrc (s : State) (i : Nat) : Nat := pNat s (addr 0 0 (0x600 + i)) 255
/-- `dev.cap0_edge to dev.cap31_edge` (R97): Edges stamped. -/
def devCapEdge (s : State) (i : Nat) : Nat := pNat s (addr 0 0 (0x620 + i)) 1
/-- `dev.cap0_filter to dev.cap31_filter` (R97): Input filter. -/
def devCapFilter (s : State) (i : Nat) : Nat := pNat s (addr 0 0 (0x640 + i)) 40
/-- `quay.carrier_freq` (R128): Carrier frequency, or profile rate of a pulse quay. -/
def quayCarrierFreq (s : State) (q : QuayNo) : Nat := pNat s (quayAddr q 0x20) (carrierDefault s q)
/-- `quay.loop_per_carrier` (R128): Loop iterations per carrier period. -/
def quayLoopPerCarrier (s : State) (q : QuayNo) : Nat := pNat s (quayAddr q 0x21) 1
/-- `quay.carrier_phase` (R128): Phase of the quay's slot within the carrier period, for interleaving. -/
def quayCarrierPhase (s : State) (q : QuayNo) : Nat := pNat s (quayAddr q 0x22) 0
/-- `tb.ref_source` (R128): Reference source. -/
def tbRefSource (s : State) : Nat := pNat s (addr 9 0 0x0) 0
/-- `tb.slew_limit` (R128): Largest alignment slew rate. -/
def tbSlewLimit (s : State) : Nat := pNat s (addr 9 0 0x1) 2000
/-- `tb.margin_clear` (R128): Margin that every sensor must show for R108. -/
def tbMarginClear (s : State) : Int := pInt s (addr 9 0 0x2) 100
/-- `dev.discovery_window` (R140): Longest wait at step 11 for roster partners and pre-driver dies. -/
def devDiscoveryWindow (s : State) : Nat := pNat s (addr 0 0 0x10) 30000
/-- `host.irq_gpio` (R267): GPIO claimed as the port's interrupt output (R210). -/
def hostIrqGpio (s : State) (p : Side) : Nat := pNat s (hostAddr p 0x0) 255
/-- `host.irq_fault_level` (R267): Lowest severity that sets HOST_IRQ_STATUS.FAULT. -/
def hostIrqFaultLevel (s : State) (p : Side) : Nat := pNat s (hostAddr p 0x1) 2
/-- `host.fwd_timeout` (R267): Longest wait for the half in charge to answer a forwarded command. -/
def hostFwdTimeout (s : State) (p : Side) : Nat := pNat s (hostAddr p 0x2) 2000
/-- `host.c0_enable` (R267): 1 = the port accepts class-0 messages. -/
def hostC0Enable (s : State) (p : Side) : Nat := pNat s (hostAddr p 0x3) 1
/-- `quay.stop_speed` (R329): Standstill threshold for leaving STOPPING. -/
def quayStopSpeed (s : State) (q : QuayNo) : Rat := pQ24 s (quayAddr q 0x30) 83886
/-- `quay.stop_dwell` (R329): Time below quay.stop_speed before OFF. -/
def quayStopDwell (s : State) (q : QuayNo) : Nat := pNat s (quayAddr q 0x31) 20000
/-- `quay.arm_timeout` (R329): Longest time for ARM to complete. -/
def quayArmTimeout (s : State) (q : QuayNo) : Nat := pNat s (quayAddr q 0x32) 50000
/-- `quay.homing_enable` (R329): 1 = HOME permitted. -/
def quayHomingEnable (s : State) (q : QuayNo) : Nat := pNat s (quayAddr q 0x33) 0
/-- `quay.require_homed` (R329): 1 = absolute motion only while HOMED is set. -/
def quayRequireHomed (s : State) (q : QuayNo) : Nat := pNat s (quayAddr q 0x34) 0
/-- `quay.release_enable` (R329): 1 = QUICK_RELEASE permitted. -/
def quayReleaseEnable (s : State) (q : QuayNo) : Nat := pNat s (quayAddr q 0x35) 0
/-- `quay.tension_enable` (R329): 1 = tension mode permitted. -/
def quayTensionEnable (s : State) (q : QuayNo) : Nat := pNat s (quayAddr q 0x36) 0
/-- `quay.profile_speed` (R329): Cruise speed of motions. -/
def quayProfileSpeed (s : State) (q : QuayNo) : Rat := pQ24 s (quayAddr q 0x40) 8388608
/-- `quay.profile_accel` (R329): Acceleration of motions. -/
def quayProfileAccel (s : State) (q : QuayNo) : Rat := pQ24 s (quayAddr q 0x41) 16777216
/-- `quay.profile_decel` (R329): Deceleration of motions and ramp stops. -/
def quayProfileDecel (s : State) (q : QuayNo) : Rat := pQ24 s (quayAddr q 0x42) 16777216
/-- `quay.torque_limit_pos` (R329): Magnitude of the positive torque limit. -/
def quayTorqueLimitPos (s : State) (q : QuayNo) : Rat := pQ14 s (quayAddr q 0x43) 16384
/-- `quay.torque_limit_neg` (R329): Magnitude of the negative torque limit. -/
def quayTorqueLimitNeg (s : State) (q : QuayNo) : Rat := pQ14 s (quayAddr q 0x44) 16384
/-- `fb.mode` (R428): Cell mode. -/
def fbMode (s : State) (k : CellNo) : Nat := pNat s (cellAddr k 0x0) 0
/-- `fb.lines` (R428): Encoder lines per revolution. -/
def fbLines (s : State) (k : CellNo) : Nat := pNat s (cellAddr k 0x1) 1024
/-- `fb.hall_pole_pairs` (R428): Pole pairs for Hall counting. -/
def fbHallPolePairs (s : State) (k : CellNo) : Nat := pNat s (cellAddr k 0x2) 4
/-- `fb.filter` (R428): Input filter length. -/
def fbFilter (s : State) (k : CellNo) : Nat := pNat s (cellAddr k 0x4) 8
/-- `fb.dir` (R428): 1 = inverted count sense. -/
def fbDir (s : State) (k : CellNo) : Nat := pNat s (cellAddr k 0x5) 0
/-- `fb.index_enable` (R428): Index latch on. -/
def fbIndexEnable (s : State) (k : CellNo) : Nat := pNat s (cellAddr k 0x6) 0
/-- `fb.index_gate` (R428): [2] gate on, [1] B level, [0] A level. -/
def fbIndexGate (s : State) (k : CellNo) : Nat := pNat s (cellAddr k 0x7) 7
/-- `fb.drift_tol` (R428): Drift tolerance of R354. -/
def fbDriftTol (s : State) (k : CellNo) : Nat := pNat s (cellAddr k 0x8) 2
/-- `fb.t_still` (R428): Standstill time. -/
def fbTStill (s : State) (k : CellNo) : Nat := pNat s (cellAddr k 0x9) 50000
/-- `fb.method_hi` (R428): Change to the frequency method. -/
def fbMethodHi (s : State) (k : CellNo) : Nat := pNat s (cellAddr k 0xa) 100000
/-- `fb.method_lo` (R428): Change to the period method. -/
def fbMethodLo (s : State) (k : CellNo) : Nat := pNat s (cellAddr k 0xb) 50000
/-- `fb.freq_window` (R428): Window of R378 and R384. -/
def fbFreqWindow (s : State) (k : CellNo) : Nat := pNat s (cellAddr k 0xc) 4
/-- `fb.still_band` (R428): Edge band of R385. -/
def fbStillBand (s : State) (k : CellNo) : Nat := pNat s (cellAddr k 0xd) 16
/-- `fb.wire_filter` (R428): Line-fault persistence. -/
def fbWireFilter (s : State) (k : CellNo) : Nat := pNat s (cellAddr k 0xe) 10
/-- `fb.hall_order` (R428): Hall sequence sense. -/
def fbHallOrder (s : State) (k : CellNo) : Nat := pNat s (cellAddr k 0xf) 0
/-- `fb.ssi_clock` (R428): SSI clock. -/
def fbSsiClock (s : State) (k : CellNo) : Nat := pNat s (cellAddr k 0x10) 1000000
/-- `fb.ssi_bits` (R428): Data bits per frame. -/
def fbSsiBits (s : State) (k : CellNo) : Nat := pNat s (cellAddr k 0x11) 25
/-- `fb.ssi_st_bits` (R428): Bits per revolution. -/
def fbSsiStBits (s : State) (k : CellNo) : Nat := pNat s (cellAddr k 0x12) 13
/-- `fb.ssi_code` (R428): Data code. -/
def fbSsiCode (s : State) (k : CellNo) : Nat := pNat s (cellAddr k 0x13) 1
/-- `fb.ssi_parity` (R428): Parity bit. -/
def fbSsiParity (s : State) (k : CellNo) : Nat := pNat s (cellAddr k 0x14) 0
/-- `fb.ssi_monoflop` (R428): Clock-high time after a frame. -/
def fbSsiMonoflop (s : State) (k : CellNo) : Nat := pNat s (cellAddr k 0x15) 20
/-- `fb.ssi_max_step` (R428): Jump limit. -/
def fbSsiMaxStep (s : State) (k : CellNo) : Nat := pNat s (cellAddr k 0x16) 1048576
/-- `fb.ampl_min` (R428): Lower amplitude limit. -/
def fbAmplMin (s : State) (k : CellNo) : Nat := pNat s (cellAddr k 0x18) 600
/-- `fb.ampl_max` (R428): Upper amplitude limit. -/
def fbAmplMax (s : State) (k : CellNo) : Nat := pNat s (cellAddr k 0x19) 1400
/-- `fb.ampl_count` (R428): Consecutive conversions outside the band. -/
def fbAmplCount (s : State) (k : CellNo) : Nat := pNat s (cellAddr k 0x1a) 8
/-- `fb.cmp_enable` (R428): Compare unit on; pool claim. -/
def fbCmpEnable (s : State) (k : CellNo) : Nat := pNat s (cellAddr k 0x20) 0
/-- `fb.cmp_start` (R428): First compare position. -/
def fbCmpStart (s : State) (k : CellNo) : Int := pInt64 s (cellAddr k 0x21) 0
/-- `fb.cmp_spacing` (R428): Spacing s. -/
def fbCmpSpacing (s : State) (k : CellNo) : Int := pInt s (cellAddr k 0x23) 1024
/-- `fb.cmp_count` (R428): Hits before stop; 0 = endless. -/
def fbCmpCount (s : State) (k : CellNo) : Nat := pNat s (cellAddr k 0x24) 0
/-- `fb.cmp_width` (R428): Pulse width. -/
def fbCmpWidth (s : State) (k : CellNo) : Nat := pNat s (cellAddr k 0x25) 400
/-- `fb.cmp_output` (R428): Pulse output. -/
def fbCmpOutput (s : State) (k : CellNo) : Nat := pNat s (cellAddr k 0x26) 0
/-- `fb.emu_source` (R428): Emulation source; pool claim. -/
def fbEmuSource (s : State) (k : CellNo) : Nat := pNat s (cellAddr k 0x30) 0
/-- `fb.emu_quay` (R428): Source quay for source 2. -/
def fbEmuQuay (s : State) (k : CellNo) : Nat := pNat s (cellAddr k 0x31) 0
/-- `fb.emu_lines` (R428): Emulated lines. -/
def fbEmuLines (s : State) (k : CellNo) : Nat := pNat s (cellAddr k 0x32) 1024
/-- `fb.emu_zero` (R428): Zero offset. -/
def fbEmuZero (s : State) (k : CellNo) : Nat := pNat s (cellAddr k 0x33) 0
/-- `fb.emu_z` (R428): Z output on FBk_X3. -/
def fbEmuZ (s : State) (k : CellNo) : Nat := pNat s (cellAddr k 0x34) 1
/-- `fb.pos_preset` (R428): Preset of R394; reads back the last value written. -/
def fbPosPreset (s : State) (k : CellNo) : Int := pInt64 s (cellAddr k 0x52) 0
/-- `quay.probe_mode` (R429): Probe on; pool claim. -/
def quayProbeMode (s : State) (q : QuayNo) : Nat := pNat s (quayAddr q 0x50) 0
/-- `quay.probe_source` (R429): Probe ball. -/
def quayProbeSource (s : State) (q : QuayNo) : Nat := pNat s (quayAddr q 0x51) 0
/-- `quay.probe_edge` (R429): Edges captured. -/
def quayProbeEdge (s : State) (q : QuayNo) : Nat := pNat s (quayAddr q 0x52) 1
/-- `quay.probe_filter` (R429): Probe input filter. -/
def quayProbeFilter (s : State) (q : QuayNo) : Nat := pNat s (quayAddr q 0x53) 40
/-- `quay.machine` (R522): Machine type; must match the assembly of R65. -/
def quayMachine (s : State) (q : QuayNo) : Nat := pNat s (quayAddr q 0x60) 0
/-- `quay.i_base` (R522): I_base. -/
def quayIBase (s : State) (q : QuayNo) : Nat := pNat s (quayAddr q 0x61) 10000
/-- `quay.u_base` (R522): U_base. -/
def quayUBase (s : State) (q : QuayNo) : Nat := pNat s (quayAddr q 0x62) 48000
/-- `quay.n_base` (R522): n_base. -/
def quayNBase (s : State) (q : QuayNo) : Nat := pNat s (quayAddr q 0x63) 3000
/-- `quay.pole_pairs` (R522): Pole pairs. -/
def quayPolePairs (s : State) (q : QuayNo) : Nat := pNat s (quayAddr q 0x64) 4
/-- `quay.t_base` (R522): T_base for reporting. -/
def quayTBase (s : State) (q : QuayNo) : Nat := pNat s (quayAddr q 0x65) 10000
/-- `quay.set_shift1 to quay.set_shift3` (R522): Electrical shift of sets 1–3. -/
def quaySetShift (s : State) (q : QuayNo) (i : Nat) : Nat := pNat s (quayAddr q (0x67 + i)) (shiftDefault i)
/-- `quay.phase_order` (R522): 1 = exchange V and W. -/
def quayPhaseOrder (s : State) (q : QuayNo) : Nat := pNat s (quayAddr q 0x6a) 0
/-- `quay.rs` (R522): Stator or armature resistance. -/
def quayRs (s : State) (q : QuayNo) : Rat := pQ24 s (quayAddr q 0x70) 335544
/-- `quay.ld` (R522): d-axis inductance; stator inductance of an induction machine. -/
def quayLd (s : State) (q : QuayNo) : Rat := pQ24 s (quayAddr q 0x71) 5033165
/-- `quay.lq` (R522): q-axis inductance. -/
def quayLq (s : State) (q : QuayNo) : Rat := pQ24 s (quayAddr q 0x72) 5033165
/-- `quay.psi_pm` (R522): Magnet flux; back-EMF constant of brushed DC. -/
def quayPsiPm (s : State) (q : QuayNo) : Rat := pQ24 s (quayAddr q 0x73) 15099494
/-- `quay.kt` (R522): Torque constant. -/
def quayKt (s : State) (q : QuayNo) : Rat := pQ24 s (quayAddr q 0x74) 16777216
/-- `quay.l_sigma_set` (R522): Set leakage inductance for balancing. -/
def quayLSigmaSet (s : State) (q : QuayNo) : Rat := pQ24 s (quayAddr q 0x75) 838861
/-- `quay.rr` (R522): Rotor resistance. -/
def quayRr (s : State) (q : QuayNo) : Rat := pQ24 s (quayAddr q 0x76) 335544
/-- `quay.lm` (R522): Magnetising inductance. -/
def quayLm (s : State) (q : QuayNo) : Rat := pQ24 s (quayAddr q 0x77) 50331648
/-- `quay.lr` (R522): Rotor inductance. -/
def quayLr (s : State) (q : QuayNo) : Rat := pQ24 s (quayAddr q 0x78) 52009370
/-- `quay.im_flux_nom` (R522): Nominal rotor flux. -/
def quayImFluxNom (s : State) (q : QuayNo) : Rat := pQ24 s (quayAddr q 0x79) 15938355
/-- `quay.i_kp` (R522): Current proportional gain. -/
def quayIKp (s : State) (q : QuayNo) : Rat := pQ24 s (quayAddr q 0x80) 8388608
/-- `quay.i_ki` (R522): Current integral gain. -/
def quayIKi (s : State) (q : QuayNo) : Nat := pNat s (quayAddr q 0x81) 1000000
/-- `quay.bal_kp` (R522): Balancing proportional gain. -/
def quayBalKp (s : State) (q : QuayNo) : Rat := pQ24 s (quayAddr q 0x82) 3355443
/-- `quay.bal_ki` (R522): Balancing integral gain. -/
def quayBalKi (s : State) (q : QuayNo) : Nat := pNat s (quayAddr q 0x83) 200000
/-- `quay.decouple` (R522): Feedforward of R461 on. -/
def quayDecouple (s : State) (q : QuayNo) : Nat := pNat s (quayAddr q 0x84) 1
/-- `quay.i_max` (R522): Current vector limit per set. -/
def quayIMax (s : State) (q : QuayNo) : Rat := pQ24 s (quayAddr q 0x85) 25165824
/-- `quay.mod_limit` (R522): Modulation limit. -/
def quayModLimit (s : State) (q : QuayNo) : Nat := pNat s (quayAddr q 0x86) 950
/-- `quay.modulation` (R522): Zero-sequence rule. -/
def quayModulation (s : State) (q : QuayNo) : Nat := pNat s (quayAddr q 0x87) 0
/-- `quay.dtc_time` (R522): Dead-time compensation; 0 = off, 0xFFFF = leg dead time. -/
def quayDtcTime (s : State) (q : QuayNo) : Nat := pNat s (quayAddr q 0x88) 65535
/-- `quay.dtc_band` (R522): Linear zone of compensation. -/
def quayDtcBand (s : State) (q : QuayNo) : Rat := pQ24 s (quayAddr q 0x89) 335544
/-- `quay.min_pulse` (R522): Shortest interval kept. -/
def quayMinPulse (s : State) (q : QuayNo) : Nat := pNat s (quayAddr q 0x8a) 3200
/-- `quay.delay_comp` (R522): Angle compensation of R468 on. -/
def quayDelayComp (s : State) (q : QuayNo) : Nat := pNat s (quayAddr q 0x8b) 1
/-- `quay.i_source` (R522): Current acquisition. -/
def quayISource (s : State) (q : QuayNo) : Nat := pNat s (quayAddr q 0x8c) 0
/-- `quay.shunt_place` (R522): Local shunt position. -/
def quayShuntPlace (s : State) (q : QuayNo) : Nat := pNat s (quayAddr q 0x8d) 0
/-- `quay.shunt_min_window` (R522): Low-side window of R442. -/
def quayShuntMinWindow (s : State) (q : QuayNo) : Nat := pNat s (quayAddr q 0x8e) 12800
/-- `quay.udc_source` (R522): DC-link source. -/
def quayUdcSource (s : State) (q : QuayNo) : Nat := pNat s (quayAddr q 0x8f) (udcDefault s q)
/-- `quay.udc_sd` (R522): Sigma-delta input for u_dc. -/
def quayUdcSd (s : State) (q : QuayNo) : Nat := pNat s (quayAddr q 0x90) 0
/-- `quay.udc_fixed` (R522): Fixed u_dc. -/
def quayUdcFixed (s : State) (q : QuayNo) : Rat := pQ24 s (quayAddr q 0x91) 30198989
/-- `quay.sd_map` (R522): Sigma-delta current map. -/
def quaySdMap (s : State) (q : QuayNo) : Nat := pNat s (quayAddr q 0x92) 0
/-- `quay.vlim_count` (R522): Run that raises VOLTAGE_LIMIT. -/
def quayVlimCount (s : State) (q : QuayNo) : Nat := pNat s (quayAddr q 0x93) 8
/-- `quay.bal_warn` (R522): Imbalance limit. -/
def quayBalWarn (s : State) (q : QuayNo) : Rat := pQ24 s (quayAddr q 0x94) 1677722
/-- `quay.offset_max` (R522): Largest current offset. -/
def quayOffsetMax (s : State) (q : QuayNo) : Rat := pQ24 s (quayAddr q 0x95) 838861
/-- `quay.offset_samples` (R522): Samples averaged at ARM. -/
def quayOffsetSamples (s : State) (q : QuayNo) : Nat := pNat s (quayAddr q 0x96) 256
/-- `quay.bldc_pwm` (R522): Block PWM scheme. -/
def quayBldcPwm (s : State) (q : QuayNo) : Nat := pNat s (quayAddr q 0x97) 1
/-- `quay.angle_source` (R522): Angle source. -/
def quayAngleSource (s : State) (q : QuayNo) : Nat := pNat s (quayAddr q 0xa0) 0
/-- `quay.comm_cell` (R522): Cell for angle. -/
def quayCommCell (s : State) (q : QuayNo) : Nat := pNat s (quayAddr q 0xa1) 0
/-- `quay.elec_offset` (R522): Encoder electrical offset. -/
def quayElecOffset (s : State) (q : QuayNo) : Nat := pNat s (quayAddr q 0xa2) 0
/-- `quay.angle_zero` (R522): Zero of θ_m. -/
def quayAngleZero (s : State) (q : QuayNo) : Int := pInt64 s (quayAddr q 0xa3) 0
/-- `quay.hall_offset` (R522): Centre of sector 0. -/
def quayHallOffset (s : State) (q : QuayNo) : Nat := pNat s (quayAddr q 0xa5) 0
/-- `quay.obs_gain` (R522): Observer gain. -/
def quayObsGain (s : State) (q : QuayNo) : Rat := pQ24 s (quayAddr q 0xa6) 16777216
/-- `quay.pll_bw` (R522): Phase-locked loop bandwidth. -/
def quayPllBw (s : State) (q : QuayNo) : Nat := pNat s (quayAddr q 0xa7) 50
/-- `quay.obs_min_speed` (R522): Lowest observer speed. -/
def quayObsMinSpeed (s : State) (q : QuayNo) : Rat := pQ24 s (quayAddr q 0xa8) 838861
/-- `quay.obs_resid_max` (R522): Residual threshold. -/
def quayObsResidMax (s : State) (q : QuayNo) : Rat := pQ24 s (quayAddr q 0xa9) 2516582
/-- `quay.obs_loss_count` (R522): Consecutive iterations of R510 and R505. -/
def quayObsLossCount (s : State) (q : QuayNo) : Nat := pNat s (quayAddr q 0xaa) 4
/-- `quay.pll_err_max` (R522): Lock indicator limit. -/
def quayPllErrMax (s : State) (q : QuayNo) : Nat := pNat s (quayAddr q 0xab) 238609294
/-- `quay.if_current` (R522): Current in current-frequency mode. -/
def quayIfCurrent (s : State) (q : QuayNo) : Rat := pQ24 s (quayAddr q 0xac) 8388608
/-- `quay.if_accel` (R522): Frame frequency ramp. -/
def quayIfAccel (s : State) (q : QuayNo) : Rat := pQ24 s (quayAddr q 0xad) 8388608
/-- `quay.obs_handover` (R522): Handover speed. -/
def quayObsHandover (s : State) (q : QuayNo) : Rat := pQ24 s (quayAddr q 0xae) 1677722
/-- `quay.if_timeout` (R522): Handover time limit. -/
def quayIfTimeout (s : State) (q : QuayNo) : Nat := pNat s (quayAddr q 0xaf) 1000000
/-- `tab.adv_count` (R523): Points in use. -/
def tabAdvCount (s : State) (q : QuayNo) : Nat := pNat s (tabAddr 0 q 0x0) 2
/-- `tab.adv_speed_0 to tab.adv_speed_31` (R523): Speed of point i. -/
def tabAdvSpeed (s : State) (q : QuayNo) (i : Nat) : Rat := pQ24 s (tabAddr 0 q (0x1 + i)) (advDefault i)
/-- `tab.adv_angle_0 to tab.adv_angle_31` (R523): Advance of point i. -/
def tabAdvAngle (s : State) (q : QuayNo) (i : Nat) : Nat := pNat s (tabAddr 0 q (0x21 + i)) 0
/-- `dev.sdn_clock` (R524): Clock output used. -/
def devSdClock (s : State) (i : Nat) : Nat := pNat s (addr 0 0 (0x200 + 16 * i)) 255
/-- `dev.sdn_decim` (R524): N of R451. -/
def devSdDecim (s : State) (i : Nat) : Nat := pNat s (addr 0 0 (0x201 + 16 * i)) 128
/-- `dev.sdn_align` (R524): Window placement. -/
def devSdAlign (s : State) (i : Nat) : Nat := pNat s (addr 0 0 (0x202 + 16 * i)) 1
/-- `dev.sdn_gain` (R524): Full-scale value. -/
def devSdGain (s : State) (i : Nat) : Rat := pQ24 s (addr 0 0 (0x203 + 16 * i)) 33554432
/-- `dev.sdn_offset` (R524): Offset subtracted. -/
def devSdOffset (s : State) (i : Nat) : Rat := pQ24 s (addr 0 0 (0x204 + 16 * i)) 0
/-- `dev.sdn_ovr_bits` (R524): Equal-bit run of R456. -/
def devSdOvrBits (s : State) (i : Nat) : Nat := pNat s (addr 0 0 (0x205 + 16 * i)) 32
/-- `dev.sdcm_div` (R524): Divider of R450. -/
def devSdcDiv (s : State) (i : Nat) : Nat := pNat s (addr 0 0 (0x300 + i)) 0
/-- `quay.speed_limit` (R582): Reference clamp and torque-mode speed clamp. -/
def quaySpeedLimit (s : State) (q : QuayNo) : Rat := pQ24 s (quayAddr q 0x100) 18454938
/-- `quay.overspeed` (R582): Threshold of R541. -/
def quayOverspeed (s : State) (q : QuayNo) : Rat := pQ24 s (quayAddr q 0x101) 20971520
/-- `quay.speed_err_max` (R582): Error of R542. -/
def quaySpeedErrMax (s : State) (q : QuayNo) : Rat := pQ24 s (quayAddr q 0x102) 3355443
/-- `quay.speed_err_time` (R582): Persistence of R542. -/
def quaySpeedErrTime (s : State) (q : QuayNo) : Nat := pNat s (quayAddr q 0x103) 500000
/-- `quay.speed_kp` (R582): Speed proportional gain, 0 to 1,000 pu torque per pu speed. -/
def quaySpeedKp (s : State) (q : QuayNo) : Nat := pNat s (quayAddr q 0x104) 10000
/-- `quay.speed_ki` (R582): Speed integral gain. -/
def quaySpeedKi (s : State) (q : QuayNo) : Nat := pNat s (quayAddr q 0x105) 20000
/-- `quay.speed_filter` (R582): Speed filter time constant. -/
def quaySpeedFilter (s : State) (q : QuayNo) : Nat := pNat s (quayAddr q 0x106) 500
/-- `quay.inertia` (R582): Mechanical time constant of R537. -/
def quayInertia (s : State) (q : QuayNo) : Rat := pQ24 s (quayAddr q 0x107) 16777216
/-- `quay.lobs_bw` (R582): Load-observer pole frequency. -/
def quayLobsBw (s : State) (q : QuayNo) : Nat := pNat s (quayAddr q 0x108) 20
/-- `quay.lobs_ff` (R582): 1 = load compensation in T_ff. -/
def quayLobsFf (s : State) (q : QuayNo) : Nat := pNat s (quayAddr q 0x109) 0
/-- `quay.accel_ff` (R582): 1 = acceleration feedforward in T_ff. -/
def quayAccelFf (s : State) (q : QuayNo) : Nat := pNat s (quayAddr q 0x10a) 1
/-- `quay.torque_rate` (R582): Rate limit of R528, 0.1 to 1,000 pu/s. -/
def quayTorqueRate (s : State) (q : QuayNo) : Nat := pNat s (quayAddr q 0x10b) 20000
/-- `quay.droop` (R582): Droop of R539. -/
def quayDroop (s : State) (q : QuayNo) : Rat := pQ24 s (quayAddr q 0x10c) 0
/-- `quay.tension_gain` (R582): Torque that holds 1 pu of tension with all members contributing. -/
def quayTensionGain (s : State) (q : QuayNo) : Rat := pQ24 s (quayAddr q 0x110) 16777216
/-- `quay.tension_base` (R582): Tension base. -/
def quayTensionBase (s : State) (q : QuayNo) : Nat := pNat s (quayAddr q 0x111) 100000
/-- `quay.tension_source` (R582): Source of R549. -/
def quayTensionSource (s : State) (q : QuayNo) : Nat := pNat s (quayAddr q 0x112) 0
/-- `quay.tension_sd` (R582): Sigma-delta input of a load cell. -/
def quayTensionSd (s : State) (q : QuayNo) : Nat := pNat s (quayAddr q 0x113) 0
/-- `quay.render_band` (R582): Render band. -/
def quayRenderBand (s : State) (q : QuayNo) : Rat := pQ24 s (quayAddr q 0x114) 3355443
/-- `quay.recover_band` (R582): Recover band. -/
def quayRecoverBand (s : State) (q : QuayNo) : Rat := pQ24 s (quayAddr q 0x115) 3355443
/-- `quay.render_speed` (R582): Payout speed in RENDER. -/
def quayRenderSpeed (s : State) (q : QuayNo) : Rat := pQ24 s (quayAddr q 0x116) 838861
/-- `quay.recover_speed` (R582): Haul speed in RECOVER. -/
def quayRecoverSpeed (s : State) (q : QuayNo) : Rat := pQ24 s (quayAddr q 0x117) 503316
/-- `quay.tension_dwell` (R582): Dwell of R551 and R555. -/
def quayTensionDwell (s : State) (q : QuayNo) : Nat := pNat s (quayAddr q 0x118) 20000
/-- `quay.tension_filter` (R582): Tension filter time constant. -/
def quayTensionFilter (s : State) (q : QuayNo) : Nat := pNat s (quayAddr q 0x119) 5000
/-- `quay.tension_max` (R582): Threshold of R555. -/
def quayTensionMax (s : State) (q : QuayNo) : Rat := pQ24 s (quayAddr q 0x11a) 25165824
/-- `quay.shaft_group` (R582): Shaft group of R557. -/
def quayShaftGroup (s : State) (q : QuayNo) : Nat := pNat s (quayAddr q 0x120) 0
/-- `quay.share_role` (R582): Share role. -/
def quayShareRole (s : State) (q : QuayNo) : Nat := pNat s (quayAddr q 0x121) 0
/-- `quay.share_ratio` (R582): Torque per unit of G. -/
def quayShareRatio (s : State) (q : QuayNo) : Rat := pQ24 s (quayAddr q 0x122) 16777216
/-- `quay.standalone_mode` (R582): Stand-alone mode. -/
def quayStandaloneMode (s : State) (q : QuayNo) : Nat := pNat s (quayAddr q 0x123) 0
/-- `quay.share_loss_count` (R582): Count of R572 and R573. -/
def quayShareLossCount (s : State) (q : QuayNo) : Nat := pNat s (quayAddr q 0x124) 3
/-- `quay.profile_jerk` (R670): Jerk limit. -/
def quayProfileJerk (s : State) (q : QuayNo) : Rat := pQ24 s (quayAddr q 0x45) 167772160
/-- `quay.profile_kind` (R670): Profile kind. -/
def quayProfileKind (s : State) (q : QuayNo) : Nat := pNat s (quayAddr q 0x46) 0
/-- `quay.quickstop_decel` (R670): Quick-stop deceleration. -/
def quayQuickstopDecel (s : State) (q : QuayNo) : Rat := pQ24 s (quayAddr q 0x47) 167772160
/-- `quay.pos_kp` (R670): Position gain of R602. -/
def quayPosKp (s : State) (q : QuayNo) : Rat := pQ24 s (quayAddr q 0x130) 335544320
/-- `quay.follow_err_max` (R670): Limit of R603. -/
def quayFollowErrMax (s : State) (q : QuayNo) : Nat := pNat s (quayAddr q 0x131) 4096
/-- `quay.in_pos_window` (R670): Arrival window. -/
def quayInPosWindow (s : State) (q : QuayNo) : Nat := pNat s (quayAddr q 0x132) 16
/-- `quay.in_pos_time` (R670): Arrival dwell. -/
def quayInPosTime (s : State) (q : QuayNo) : Nat := pNat s (quayAddr q 0x133) 5000
/-- `quay.full_steps` (R670): Stepper full steps. -/
def quayFullSteps (s : State) (q : QuayNo) : Nat := pNat s (quayAddr q 0x134) 200
/-- `quay.steps_per_rev` (R670): Pulse-quay steps. -/
def quayStepsPerRev (s : State) (q : QuayNo) : Nat := pNat s (quayAddr q 0x135) 1000
/-- `quay.step_ratio` (R670): Ratio of R585. -/
def quayStepRatio (s : State) (q : QuayNo) : Rat := pQ24 s (quayAddr q 0x136) 16777216
/-- `quay.limp_mode` (R670): LIMPq stop. -/
def quayLimpMode (s : State) (q : QuayNo) : Nat := pNat s (quayAddr q 0x140) 0
/-- `quay.limn_mode` (R670): LIMNq stop. -/
def quayLimnMode (s : State) (q : QuayNo) : Nat := pNat s (quayAddr q 0x141) 0
/-- `quay.lim_active` (R670): [0] LIMPq, [1] LIMNq active level: 0 low, 1 high. -/
def quayLimActive (s : State) (q : QuayNo) : Nat := pNat s (quayAddr q 0x142) 0
/-- `quay.lim_filter` (R670): Limit persistence. -/
def quayLimFilter (s : State) (q : QuayNo) : Nat := pNat s (quayAddr q 0x143) 100
/-- `quay.home_speed` (R670): Homing speed. -/
def quayHomeSpeed (s : State) (q : QuayNo) : Rat := pQ24 s (quayAddr q 0x150) 838861
/-- `quay.home_creep` (R670): Creep speed. -/
def quayHomeCreep (s : State) (q : QuayNo) : Rat := pQ24 s (quayAddr q 0x151) 167772
/-- `quay.home_limit` (R670): Torque limit or coil current in methods 4 and 5. -/
def quayHomeLimit (s : State) (q : QuayNo) : Rat := pQ14 s (quayAddr q 0x152) 4915
/-- `quay.home_stall_speed` (R670): FOC stall speed. -/
def quayHomeStallSpeed (s : State) (q : QuayNo) : Rat := pQ24 s (quayAddr q 0x153) 83886
/-- `quay.home_stall_time` (R670): FOC stall persistence. -/
def quayHomeStallTime (s : State) (q : QuayNo) : Nat := pNat s (quayAddr q 0x154) 50000
/-- `quay.home_backoff` (R670): Back-off of R627. -/
def quayHomeBackoff (s : State) (q : QuayNo) : Nat := pNat s (quayAddr q 0x155) 256
/-- `quay.home_max_travel` (R670): Limit of R629. -/
def quayHomeMaxTravel (s : State) (q : QuayNo) : Nat := pNat s (quayAddr q 0x156) 4294967295
/-- `quay.quiet_speed` (R670): Quiet-to-strong threshold. -/
def quayQuietSpeed (s : State) (q : QuayNo) : Rat := pQ24 s (quayAddr q 0x160) 1677722
/-- `quay.mode_hyst` (R670): Current-mode hysteresis. -/
def quayModeHyst (s : State) (q : QuayNo) : Nat := pNat s (quayAddr q 0x161) 100
/-- `quay.quiet_bw` (R670): Quiet amplitude regulator. -/
def quayQuietBw (s : State) (q : QuayNo) : Nat := pNat s (quayAddr q 0x162) 20
/-- `quay.hold_current` (R670): Standstill current. -/
def quayHoldCurrent (s : State) (q : QuayNo) : Rat := pQ24 s (quayAddr q 0x163) 5033165
/-- `quay.hold_delay` (R670): Delay of R645. -/
def quayHoldDelay (s : State) (q : QuayNo) : Nat := pNat s (quayAddr q 0x164) 200000
/-- `quay.ibex_enable` (R670): Ibex on. -/
def quayIbexEnable (s : State) (q : QuayNo) : Nat := pNat s (quayAddr q 0x170) 1
/-- `quay.i_run` (R670): Largest coil current. -/
def quayIRun (s : State) (q : QuayNo) : Rat := pQ24 s (quayAddr q 0x171) 16777216
/-- `quay.i_min` (R670): Smallest running coil current. -/
def quayIMin (s : State) (q : QuayNo) : Rat := pQ24 s (quayAddr q 0x172) 6710886
/-- `quay.ibex_raise_lvl` (R670): λ above which I rises. -/
def quayIbexRaiseLvl (s : State) (q : QuayNo) : Rat := pQ24 s (quayAddr q 0x173) 10066330
/-- `quay.ibex_lower_lvl` (R670): λ below which I falls. -/
def quayIbexLowerLvl (s : State) (q : QuayNo) : Rat := pQ24 s (quayAddr q 0x174) 5033165
/-- `quay.ibex_slew` (R670): Rate of current change. -/
def quayIbexSlew (s : State) (q : QuayNo) : Rat := pQ24 s (quayAddr q 0x175) 335544320
/-- `quay.ibex_emf_speed` (R670): Lowest speed for δ. -/
def quayIbexEmfSpeed (s : State) (q : QuayNo) : Rat := pQ24 s (quayAddr q 0x176) 671089
/-- `quay.ibex_stall_angle` (R670): Stall angle. -/
def quayIbexStallAngle (s : State) (q : QuayNo) : Nat := pNat s (quayAddr q 0x177) 894784853
/-- `quay.ibex_stall_count` (R670): Count of R650. -/
def quayIbexStallCount (s : State) (q : QuayNo) : Nat := pNat s (quayAddr q 0x178) 4
/-- `quay.ibex_sat_time` (R670): Persistence of R651. -/
def quayIbexSatTime (s : State) (q : QuayNo) : Nat := pNat s (quayAddr q 0x179) 100000
/-- `quay.step_width` (R670): STEP active time. -/
def quayStepWidth (s : State) (q : QuayNo) : Nat := pNat s (quayAddr q 0x180) 400
/-- `quay.step_polarity` (R670): [0] STEP active level, [1] DIR inverted. -/
def quayStepPolarity (s : State) (q : QuayNo) : Nat := pNat s (quayAddr q 0x181) 1
/-- `quay.dir_setup` (R670): DIR before STEP. -/
def quayDirSetup (s : State) (q : QuayNo) : Nat := pNat s (quayAddr q 0x182) 2000
/-- `quay.dir_hold` (R670): DIR after STEP. -/
def quayDirHold (s : State) (q : QuayNo) : Nat := pNat s (quayAddr q 0x183) 2000
/-- `tab.ms_hyst` (R671): Hysteresis of R637. -/
def tabMsHyst (s : State) (q : QuayNo) : Nat := pNat s (tabAddr 16 q 0x0) 100
/-- `tab.ms_thr_1 to tab.ms_thr_8` (R671): Threshold of level k. -/
def tabMsThr (s : State) (q : QuayNo) (i : Nat) : Nat := pNat s (tabAddr 16 q (0x1 + i)) (msDefault i)
/-- `tab.ms_floor` (R671): Coarsest level used. -/
def tabMsFloor (s : State) (q : QuayNo) : Nat := pNat s (tabAddr 16 q 0x9) 8
/-- `quay.catch_detect` (R741): Catch-detect threshold. -/
def quayCatchDetect (s : State) (q : QuayNo) : Rat := pQ24 s (quayAddr q 0x190) 503316
/-- `quay.catch_limit` (R741): Catch limit of R678. -/
def quayCatchLimit (s : State) (q : QuayNo) : Rat := pQ24 s (quayAddr q 0x191) 5033165
/-- `quay.catch_window` (R741): Observation window. -/
def quayCatchWindow (s : State) (q : QuayNo) : Nat := pNat s (quayAddr q 0x192) 2000
/-- `quay.catch_torque` (R741): Torque in THROUGH. -/
def quayCatchTorque (s : State) (q : QuayNo) : Rat := pQ24 s (quayAddr q 0x193) 8388608
/-- `quay.catch_timeout` (R741): Limit of R697. -/
def quayCatchTimeout (s : State) (q : QuayNo) : Nat := pNat s (quayAddr q 0x194) 10000000
/-- `quay.catch_emf_min` (R741): Back-EMF taken as standstill. -/
def quayCatchEmfMin (s : State) (q : QuayNo) : Rat := pQ24 s (quayAddr q 0x195) 167772
/-- `quay.search_current` (R741): Search current. -/
def quaySearchCurrent (s : State) (q : QuayNo) : Rat := pQ24 s (quayAddr q 0x196) 1677722
/-- `quay.search_rate` (R741): Search frequency fall. -/
def quaySearchRate (s : State) (q : QuayNo) : Rat := pQ24 s (quayAddr q 0x197) 33554432
/-- `quay.wsb_i_max` (R741): Winding-short current limit. -/
def quayWsbIMax (s : State) (q : QuayNo) : Rat := pQ24 s (quayAddr q 0x198) 33554432
/-- `quay.crash_mode` (R741): Crash-stop start phase. -/
def quayCrashMode (s : State) (q : QuayNo) : Nat := pNat s (quayAddr q 0x199) 0
/-- `quay.crash_speed` (R741): Least speed for crash stop. -/
def quayCrashSpeed (s : State) (q : QuayNo) : Rat := pQ24 s (quayAddr q 0x19a) 3355443
/-- `quay.crash_torque` (R741): Crash-stop torque. -/
def quayCrashTorque (s : State) (q : QuayNo) : Rat := pQ24 s (quayAddr q 0x19b) 16777216
/-- `quay.crash_udc_soft` (R741): Start of torque reduction. -/
def quayCrashUdcSoft (s : State) (q : QuayNo) : Rat := pQ24 s (quayAddr q 0x19c) 31876710
/-- `quay.crash_udc_hard` (R741): Zero regenerative torque. -/
def quayCrashUdcHard (s : State) (q : QuayNo) : Rat := pQ24 s (quayAddr q 0x19d) 33554432
/-- `quay.crash_udc_count` (R741): Count of R709. -/
def quayCrashUdcCount (s : State) (q : QuayNo) : Nat := pNat s (quayAddr q 0x19e) 4
/-- `quay.crash_through_speed` (R741): Speed that starts THROUGH. -/
def quayCrashThroughSpeed (s : State) (q : QuayNo) : Rat := pQ24 s (quayAddr q 0x19f) 1677722
/-- `quay.degrade_enable` (R741): 1 = degraded winding set permitted. -/
def quayDegradeEnable (s : State) (q : QuayNo) : Nat := pNat s (quayAddr q 0x1a0) 0
/-- `quay.degrade_set_state` (R741): Command to dropped legs. -/
def quayDegradeSetState (s : State) (q : QuayNo) : Nat := pNat s (quayAddr q 0x1a1) 0
/-- `quay.enc_fallback` (R741): 1 = sensorless fallback permitted. -/
def quayEncFallback (s : State) (q : QuayNo) : Nat := pNat s (quayAddr q 0x1a2) 0
/-- `quay.release_rate` (R741): Torque fall in release, 1 to 1,000 pu/s. -/
def quayReleaseRate (s : State) (q : QuayNo) : Nat := pNat s (quayAddr q 0x1a3) 200000
/-- `quay.release_speed_max` (R741): Payout speed clamp. -/
def quayReleaseSpeedMax (s : State) (q : QuayNo) : Rat := pQ24 s (quayAddr q 0x1a4) 8388608
/-- `leg.role` (R819): Role; 1 only on L32–L79 (R68). -/
def legRole (s : State) (l : LegNo) : Nat := pNat s (legAddr l 0x0) 0
/-- `leg.dead_time` (R819): Dead time, 20 ns to 10 µs. -/
def legDeadTime (s : State) (l : LegNo) : Nat := pNat s (legAddr l 0x1) 640
/-- `leg.blank_time` (R819): Blanking, 100 ns to 2 µs. -/
def legBlankTime (s : State) (l : LegNo) : Nat := pNat s (legAddr l 0x2) 3200
/-- `leg.sc_filter` (R819): Detector filter, 50 ns to 400 ns. -/
def legScFilter (s : State) (l : LegNo) : Nat := pNat s (legAddr l 0x3) 640
/-- `leg.rshunt` (R819): RSHUNT. -/
def legRshunt (s : State) (l : LegNo) : Nat := pNat s (legAddr l 0x4) 2000
/-- `leg.shunt_gain` (R819): Amplifier gain. -/
def legShuntGain (s : State) (l : LegNo) : Nat := pNat s (legAddr l 0x5) 20
/-- `leg.oc_level` (R819): Absolute over-current trip. -/
def legOcLevel (s : State) (l : LegNo) : Nat := pNat s (legAddr l 0x6) 20000
/-- `leg.slope_level` (R819): Slope trip. -/
def legSlopeLevel (s : State) (l : LegNo) : Nat := pNat s (legAddr l 0x7) 10000
/-- `leg.pb_level` (R819): End-of-blanking check level. -/
def legPbLevel (s : State) (l : LegNo) : Nat := pNat s (legAddr l 0x8) 10000
/-- `leg.gw_timeout` (R819): Gate-watch time limit. -/
def legGwTimeout (s : State) (l : LegNo) : Nat := pNat s (legAddr l 0x9) 1280
/-- `leg.vboot_refresh_ofs` (R819): VGD minus VBOOT_REFRESH. -/
def legVbootRefreshOfs (s : State) (l : LegNo) : Nat := pNat s (legAddr l 0xa) 2500
/-- `leg.vboot_uvlo` (R819): Bootstrap UVLO. -/
def legVbootUvlo (s : State) (l : LegNo) : Nat := pNat s (legAddr l 0xb) 7500
/-- `leg.i_limit` (R819): Current limit before derating. -/
def legILimit (s : State) (l : LegNo) : Nat := pNat s (legAddr l 0xc) 20000
/-- `leg.chop_switch` (R819): Chopping switch. -/
def legChopSwitch (s : State) (l : LegNo) : Nat := pNat s (legAddr l 0xd) 0
/-- `leg.chop_on` (R819): Chopper on level. -/
def legChopOn (s : State) (l : LegNo) : Nat := pNat s (legAddr l 0xe) 800000
/-- `leg.chop_off` (R819): Chopper off level. -/
def legChopOff (s : State) (l : LegNo) : Nat := pNat s (legAddr l 0xf) 760000
/-- `dev.brkm_enable` (R820): Chopper BRKm on. -/
def devBrkEnable (s : State) (i : Nat) : Nat := pNat s (addr 0 0 (0x400 + 16 * i)) 0
/-- `dev.brkm_on` (R820): On level. -/
def devBrkOn (s : State) (i : Nat) : Nat := pNat s (addr 0 0 (0x401 + 16 * i)) 78000
/-- `dev.brkm_off` (R820): Off level. -/
def devBrkOff (s : State) (i : Nat) : Nat := pNat s (addr 0 0 (0x402 + 16 * i)) 76000
/-- `dev.brkm_src` (R820): Voltage judged (R792); a value outside the range for m is refused with RANGE, and in an image stops the boot with PARAM_RANGE. -/
def devBrkSrc (s : State) (i : Nat) : Nat := pNat s (addr 0 0 (0x403 + 16 * i)) (brkSrcDefault i)
/-- `dev.brkm_max_on` (R820): Limit of R797. -/
def devBrkMaxOn (s : State) (i : Nat) : Nat := pNat s (addr 0 0 (0x404 + 16 * i)) 0
/-- `dev.vm_ov_d` (R820): VM over-voltage trip. -/
def devVmOv (s : State) (i : Nat) : Nat := pNat s (addr 0 0 (0x450 + i)) 84000
/-- `dev.vm_uv_d` (R820): VM under-voltage trip. -/
def devVmUv (s : State) (i : Nat) : Nat := pNat s (addr 0 0 (0x460 + i)) 7000
/-- `quay.chopper` (R821): Chopper holding the quay's DC link. -/
def quayChopper (s : State) (q : QuayNo) : Nat := pNat s (quayAddr q 0x1b0) 255
/-- `quay.asc_policy` (R821): [0] ASC-low allowed, [1] ASC-high allowed. -/
def quayAscPolicy (s : State) (q : QuayNo) : Nat := pNat s (quayAddr q 0x1b1) (ascDefault s q)
/-- `gw.train_timeout` (R883): Limit of R846. -/
def gwTrainTimeout (s : State) (n : LaneNo) : Nat := pNat s (laneAddr n 0x10) 20000
/-- `gw.sync_period` (R883): SYNC repetition. -/
def gwSyncPeriod (s : State) (n : LaneNo) : Nat := pNat s (laneAddr n 0x11) 1000
/-- `gw.delay_max` (R883): Largest d accepted. -/
def gwDelayMax (s : State) (n : LaneNo) : Nat := pNat s (laneAddr n 0x12) 12800
/-- `gw.loss_state` (R883): Loss state sent in ARM. -/
def gwLossState (s : State) (n : LaneNo) : Nat := pNat s (laneAddr n 0x13) 0
/-- `hw.time_period` (R884): TIME repetition. -/
def hwTimePeriod (s : State) : Nat := pNat s (addr 6 0 0x2) 1000
/-- `hw.disc_period` (R884): DISC repetition. -/
def hwDiscPeriod (s : State) : Nat := pNat s (addr 6 0 0x3) 10000
/-- `hw.member_window` (R884): Window of R874 and R875. -/
def hwMemberWindow (s : State) : Nat := pNat s (addr 6 0 0x4) 2000
/-- `hw.align_lost` (R884): Offset of R880. -/
def hwAlignLost (s : State) : Nat := pNat s (addr 6 0 0x5) 320
/-- `flt.err_level` (R939): Pin threshold of R930. -/
def fltErrLevel (s : State) : Nat := pNat s (addr 7 0 0x0) 2
/-- `flt.err_pulse` (R939): t_ERRPULSE. -/
def fltErrPulse (s : State) : Nat := pNat s (addr 7 0 0x1) 100
/-- `flt.conseq_window_2 to flt.conseq_window_9` (R939): Consequence window of reaction code r. -/
def fltConseqWindow (s : State) (i : Nat) : Nat := pNat s (addr 7 0 (0x12 + i)) 2000
/-- `flt.safe_state_0 to flt.safe_state_11` (R939): Configured safe state of Qq. -/
def fltSafeState (s : State) (i : Nat) : Nat := pNat s (addr 7 0 (0x20 + i)) 4
/-- `half.pilot_wd` (R987): Pilot watchdog. -/
def halfPilotWd (s : State) (h : Side) : Nat := pNat s (halfAddr h 0x1) 200
/-- `half.hb_timeout` (R987): Heartbeat limit of R967. -/
def halfHbTimeout (s : State) (h : Side) : Nat := pNat s (halfAddr h 0x2) 10
/-- `half.engine_miss` (R987): Count of R965 bit 0. -/
def halfEngineMiss (s : State) (h : Side) : Nat := pNat s (halfAddr h 0x3) 2
/-- `half.link_timeout` (R987): Acknowledgement limit. -/
def halfLinkTimeout (s : State) (h : Side) : Nat := pNat s (halfAddr h 0x4) 100
/-- `thm.thr_start_d` (R1020): Throttle start of die d (R994). -/
def thmThrStart (s : State) (i : Nat) : Int := pInt s (addr 8 0 (0x20 + i)) 1250
/-- `thm.thr_slope_d` (R1020): Throttle slope of die d (R994). -/
def thmThrSlope (s : State) (i : Nat) : Nat := pNat s (addr 8 0 (0x30 + i)) 5
/-- `thm.shutdown_d` (R1020): Shutdown level of die d (R1000). -/
def thmShutdown (s : State) (i : Nat) : Int := pInt s (addr 8 0 (0x40 + i)) 1500

end Sys2Proof.Machine
end

