-- ==== Sys2Proof/Machine/Real.lean ====
section
/-! DEFINITION. The real functions of chapters 06 to 10 in rationals. A value that is rational is exact; any other is a free value of `Config`
held within stated bounds of the exact one (log entry 12). -/

namespace Sys2Proof.Machine

/-- A free value held between two bounds. -/
def between (lo hi free : Rat) : Rat := max lo (min hi free)

/-- 2^48, the unit of the fixed-point series below. -/
def fixOne : Int := 281474976710656

/-- Product of two fixed-point numbers. -/
def fixMul (a b : Int) : Int := a * b / fixOne

/-- The fixed-point number of π. -/
def fixPi : Int := 884279719003555

/-- Horner's scheme for a series whose i-th factor is 1 minus t2 over a divisor. -/
def fixSeries (t2 : Int) : List Int → Int
  | [] => fixOne
  | d :: rest => fixOne - fixMul t2 (fixSeries t2 rest) / d

/-- Sine of an angle of at most an eighth of a turn, in radians. -/
def fixSin (t : Int) : Int := fixMul t (fixSeries (fixMul t t) [6, 20, 42, 72, 110, 156, 210])
/-- Cosine of an angle of at most an eighth of a turn, in radians. -/
def fixCos (t : Int) : Int := fixSeries (fixMul t t) [2, 12, 30, 56, 90, 132, 182, 240]

/-- The nearest quarter turn of an angle and what is left of it. -/
def quarterOf (w : Word) : Nat × Int :=
  let k := (w.toNat + 536870912) / 1073741824
  (k % 4, (w.toNat : Int) - 1073741824 * (k : Int))

/-- Sine of an angle of which a full turn is 2^32, in fixed point. -/
def fixSinTurn (w : Word) : Int :=
  let q := quarterOf w
  let t := q.2 * fixPi / 2147483648
  match q.1 with
  | 0 => fixSin t
  | 1 => fixCos t
  | 2 => -fixSin t
  | _ => -fixCos t

/-- Half the width of the bounds of a sine or cosine: 2^-40. -/
def trigTol : Rat := 1 / 1099511627776

/-- Sine of an angle of which a full turn is 2^32: exact at quarter turns, elsewhere within 2^-40. -/
def sinTurn (w : Word) : Rat :=
  let v : Rat := (fixSinTurn w : Rat) / (fixOne : Rat)
  match quarterOf w with
  | (0, 0) | (2, 0) => 0
  | (1, 0) => 1
  | (_, 0) => -1
  | _ => between (v - trigTol) (v + trigTol) (Config.sinTurn w)

/-- Cosine of an angle: the sine a quarter turn on. -/
def cosTurn (w : Word) : Rat := sinTurn (w + 0x40000000#32)

/-- Root of a natural number where it is a square. -/
def natRoot (n : Nat) : Option Nat := if n.sqrt * n.sqrt = n then some n.sqrt else none

/-- Square root: exact where it is rational, elsewhere within 2^-40 over the denominator; 0 of a value that is not positive. -/
def sqrtQ (x : Rat) : Rat :=
  if x ≤ 0 then 0
  else
    match natRoot x.num.toNat, natRoot x.den with
    | some a, some b => (a : Rat) / (b : Rat)
    | _, _ =>
      let r := (x.num.toNat * x.den * 1208925819614629174706176).sqrt
      let d : Rat := (x.den : Rat) * 1099511627776
      between ((r : Rat) / d) (((r + 1 : Nat) : Rat) / d) (Config.sqrtQ x)

/-- The number of radians in a full turn, within 2^-46. -/
def twoPi : Rat :=
  between (2 * (fixPi : Rat) / (fixOne : Rat)) (2 * ((fixPi + 1 : Int) : Rat) / (fixOne : Rat)) Config.twoPi

/-- Terms of the series of the arc tangent of z with the square of z, from an odd divisor on. -/
def fixAtanSeries (z2 : Int) : Nat → Int → Int
  | 0, _ => 0
  | n + 1, d => fixOne / d - fixMul z2 (fixAtanSeries z2 n (d + 2))

/-- Arc tangent of a fixed-point number from 0 to 1, in radians. -/
def fixAtan (z : Int) : Int :=
  let big := decide (116590752822204 < z)
  let y := if big then (z - fixOne) * fixOne / (z + fixOne) else z
  let a := fixMul y (fixAtanSeries (fixMul y y) 16 1)
  if big then a + fixPi / 4 else a

/-- Arc tangent of a/b for 0 < a ≤ b as an angle of which a full turn is 2^32, in 1/64 of its unit. -/
def fixAtanTurn (a b : Rat) : Int :=
  let z := (a / b * (fixOne : Rat)).floor
  fixAtan z * 137438953472 / fixPi

/-- Angle of the vector (x, y), y first, as an angle of which a full turn is 2^32: exact in multiples of an eighth of a turn, elsewhere one
of the words within one unit; free for the zero vector. -/
def atan2Turn (y x : Rat) : Word :=
  let ax := if x < 0 then -x else x
  let ay := if y < 0 then -y else y
  if ax = 0 ∧ ay = 0 then BitVec.ofInt 32 (Config.atan2Turn y x)
  else
    let exact := decide (ax = 0 ∨ ay = 0 ∨ ax = ay)
    let first : Int := if ax = ay then 34359738368 else if ay ≤ ax then fixAtanTurn ay ax else 68719476736 - fixAtanTurn ax ay
    let turn : Int :=
      if 0 ≤ x then (if 0 ≤ y then first else -first) else (if 0 ≤ y then 137438953472 - first else first - 137438953472)
    let lo := (turn - 1) / 64
    let hi := (turn + 1) / 64 + 1
    BitVec.ofInt 32 (if exact then turn / 64 else max lo (min hi (Config.atan2Turn y x)))

/-- Coefficient of a first-order filter from its bandwidth or time constant and its period: a free value from 0 to 1. -/
def filterGain (a h : Rat) : Rat := between 0 1 (Config.filterGain a h)

end Sys2Proof.Machine
end

