-- ==== Sys2Proof/Machine/Ops.lean ====
section
/-! DEFINITION. The shared operations: changing one element of an array of the state, drawing a free value, byte buffers and
little-endian words, the two CRCs of the messages and frames, and raising a fault. -/

namespace Sys2Proof.Machine

/-! ### Changing one element -/

/-- Change one quay. -/
def State.modQuay (s : State) (q : QuayNo) (f : Quay → Quay) : State := { s with quay := vmod s.quay q f }
/-- Change one leg. -/
def State.modLeg (s : State) (l : LegNo) (f : Leg → Leg) : State := { s with leg := vmod s.leg l f }
/-- Change one chopper. -/
def State.modBrk (s : State) (m : Fin 4) (f : Chopper → Chopper) : State := { s with brk := vmod s.brk m f }
/-- Change one feedback cell. -/
def State.modCell (s : State) (k : CellNo) (f : Cell → Cell) : State := { s with cell := vmod s.cell k f }
/-- Change one sigma-delta input. -/
def State.modSd (s : State) (n : Fin 16) (f : SigmaDelta → SigmaDelta) : State := { s with sd := vmod s.sd n f }
/-- Change one lane. -/
def State.modLane (s : State) (n : LaneNo) (f : Lane → Lane) : State := { s with lane := vmod s.lane n f }
/-- Change one trace region. -/
def State.modTrace (s : State) (r : Fin 16) (f : TraceRegion → TraceRegion) : State := { s with trace := vmod s.trace r f }
/-- Change one half. -/
def State.modHalf (s : State) (h : Side) (f : Half → Half) : State := { s with half := s.half.set h (f (s.half.get h)) }
/-- Change one host port. -/
def State.modPort (s : State) (p : Side) (f : Port → Port) : State := { s with port := s.port.set p (f (s.port.get p)) }
/-- Change the fault collector. -/
def State.modFlt (s : State) (f : Collector → Collector) : State := { s with flt := f s.flt }
/-- Change the boot registers. -/
def State.modBoot (s : State) (f : Boot → Boot) : State := { s with boot := f s.boot }
/-- Change the time base. -/
def State.modTb (s : State) (f : TimeBase → TimeBase) : State := { s with tb := f s.tb }
/-- Change the thermal block. -/
def State.modThm (s : State) (f : Thermal → Thermal) : State := { s with thm := f s.thm }
/-- Change the supply monitors. -/
def State.modSupply (s : State) (f : Supply → Supply) : State := { s with supply := f s.supply }
/-- Change the Harbourmaster. -/
def State.modHm (s : State) (f : Harbour → Harbour) : State := { s with hm := f s.hm }
/-- Change the inter-half channel. -/
def State.modIh (s : State) (f : Channel → Channel) : State := { s with ih := f s.ih }
/-- Change the Hawser layer. -/
def State.modHw (s : State) (f : Hawser → Hawser) : State := { s with hw := f s.hw }
/-- Change one Hawser port. -/
def State.modHwPort (s : State) (p : Side) (f : HwPort → HwPort) : State :=
  { s with hw := { s.hw with ports := s.hw.ports.set p (f (s.hw.ports.get p)) } }
/-- Change the pins. -/
def State.modPins (s : State) (f : Pins → Pins) : State := { s with pins := f s.pins }
/-- Change the download registers. -/
def State.modDl (s : State) (f : Download → Download) : State := { s with dl := f s.dl }
/-- Advance the counter of the free values by one draw. -/
def State.drawn (s : State) : State := { s with free := s.free + 1 }
/-- A quay of the state. -/
def State.quayAt (s : State) (q : QuayNo) : Quay := s.quay[q]
/-- A half refreshes its table store from the common parameter store (R36) and its copy of the discovery roster (R34). -/
def State.refreshHalf (s : State) (h : Side) : State :=
  s.modHalf h (fun x => { x with tables := s.params.filter (fun e => decide (0xC00000 ≤ e.1)), roster := s.prot.roster })
/-- The parameters as an engine of the half in charge reads them: the common store, and the tables from its half's table store (R34 to R36). -/
def State.working (s : State) : List (Nat × Word) :=
  match s.hm.grant with
  | some h => s.params.filter (fun e => decide (e.1 < 0xC00000)) ++ (s.half.get h).tables
  | none => s.params
/-- A leg of the state. -/
def State.legAt (s : State) (l : LegNo) : Leg := s.leg[l]
/-- A cell of the state. -/
def State.cellAt (s : State) (k : CellNo) : Cell := s.cell[k]
/-- A lane of the state. -/
def State.laneAt (s : State) (n : LaneNo) : Lane := s.lane[n]

/-- Apply a function to every element of a list of things, in order. -/
def forAll {α : Type} (xs : List α) (s : State) (f : State → α → State) : State := xs.foldl f s

/-- All quays in ascending order. -/
def allQuays : List QuayNo := List.finRange 12
/-- All legs in ascending order. -/
def allLegs : List LegNo := List.finRange 80
/-- Quays with a kernel. -/
def State.kernelQuays (s : State) : List QuayNo := allQuays.filter s.hasKernel

/-! ### Byte buffers -/

/-- The byte of an address in a list of cells; an unlisted address reads the given default. -/
def readCell (d : Byte) : List Host.Cell → Nat → Byte
  | [], _ => d
  | (a, v) :: rest, x => if a = x then v else readCell d rest x

/-- Write one byte into a list of cells in rising order; a byte equal to the default is unlisted. -/
def writeCell (d : Byte) : List Host.Cell → Nat → Byte → List Host.Cell
  | [], x, v => if v = d then [] else [(x, v)]
  | (a, w) :: rest, x, v =>
    if x < a then (if v = d then (a, w) :: rest else (x, v) :: (a, w) :: rest)
    else if x = a then (if v = d then rest else (a, v) :: rest)
    else (a, w) :: writeCell d rest x v

/-- The canonical form: addresses strictly rising, no byte equal to the default. -/
def cellsWf (d : Byte) : List Host.Cell → Bool
  | [] => true
  | (_, v) :: [] => decide (v ≠ d)
  | (a, v) :: (b, w) :: rest => decide (v ≠ d) && decide (a < b) && cellsWf d ((b, w) :: rest)

/-- Write bytes from an address on. -/
def writeCells (d : Byte) (m : List Host.Cell) (x : Nat) : List Byte → List Host.Cell
  | [] => m
  | v :: rest => writeCells d (writeCell d m x v) (x + 1) rest

/-- Read a number of bytes from an address on, of cells in rising order of which none lies below that address. -/
def readFrom (d : Byte) : List Host.Cell → Nat → Nat → List Byte
  | _, _, 0 => []
  | [], x, n + 1 => d :: readFrom d [] (x + 1) n
  | (a, v) :: rest, x, n + 1 =>
    if a = x then v :: readFrom d rest (x + 1) n else d :: readFrom d ((a, v) :: rest) (x + 1) n

/-- Read a number of bytes from an address on. -/
def readCells (d : Byte) (m : List Host.Cell) (x n : Nat) : List Byte := readFrom d (m.dropWhile (fun e => decide (e.1 < x))) x n

/-- An erased flash byte. DESIGN CHOICE, log entry 6. -/
def erased : Byte := 0xFF

/-! ### Little-endian fields (R9) -/

/-- The number that bytes spell, lowest byte first. -/
def leNat : List Byte → Nat
  | [] => 0
  | b :: rest => b.toNat + 256 * leNat rest

/-- The low `n` bytes of a number, lowest byte first. -/
def leBytes : Nat → Nat → List Byte
  | 0, _ => []
  | n + 1, v => BitVec.ofNat 8 v :: leBytes n (v / 256)

/-- The number of bytes `off` to `off + n - 1` of a list; absent bytes read 0. -/
def field (bs : List Byte) (off n : Nat) : Nat := leNat ((List.range n).map (fun i => bs.getD (off + i) 0))

/-! ### CRCs (R214, R215) -/

/-- One bit step of the CRC-16. -/
def crc16Bit (c : BitVec 16) : BitVec 16 := if c.msb then (c <<< 1) ^^^ 0x1021#16 else c <<< 1
/-- One byte step of the CRC-16. -/
def crc16Byte (c : BitVec 16) (b : Byte) : BitVec 16 :=
  Nat.repeat crc16Bit 8 (c ^^^ ((b.setWidth 16) <<< 8))
/-- The CRC-16 of R214. -/
def crc16 (bs : List Byte) : BitVec 16 := bs.foldl crc16Byte 0xFFFF#16

/-- One bit step of the reflected CRC-32. -/
def crc32Bit (c : BitVec 32) : BitVec 32 := if c.getLsbD 0 then (c >>> 1) ^^^ 0xEDB88320#32 else c >>> 1
/-- One byte step of the CRC-32. -/
def crc32Byte (c : BitVec 32) (b : Byte) : BitVec 32 := Nat.repeat crc32Bit 8 (c ^^^ b.setWidth 32)
/-- The CRC-32 of R215. -/
def crc32 (bs : List Byte) : BitVec 32 := (bs.foldl crc32Byte 0xFFFFFFFF#32) ^^^ 0xFFFFFFFF#32

/-! ### Reported values (R19, R20; log entry 13) -/

/-- The integer a reported quantity takes: an exact integer is itself, any other value one of its two neighbours. -/
def reportInt (x : Rat) : Int := if x.den = 1 then x.num else if Config.roundUp x then x.floor + 1 else x.floor
/-- The Q8.24 word a reported quantity takes: within the range as `reportInt`; beyond it a free word. -/
def reportQ24 (x : Rat) : Word :=
  let y := reportInt (x * 16777216)
  if -2147483648 ≤ y ∧ y ≤ 2147483647 then BitVec.ofInt 32 y else Config.beyondQ24 x

/-! ### Device time (R17, R89 to R91) -/

/-- The last device time (R17). DESIGN CHOICE, log entry 14: device time stops there. -/
def lastTime : Nat := 18446744073709551615

/-- Device time moves by a number of ticks that the oscillator has not counted: the sigma-delta clocks, which it does count, keep their
edges, which now lie at other device times (R450). DESIGN CHOICE, log entry 44: a slot firing at a device time that a step forward (R90)
passes over does not take place. -/
def TimeBase.displaced (t : TimeBase) (d : Int) : TimeBase :=
  { t with now := min (t.now + d).toNat lastTime, sdc := t.sdc.map (· + d) }

/-- One fine step of a correction has been carried out; the correction ends with the last (R92). -/
def TimeBase.slewed (t : TimeBase) (d : Int) (acc : Nat) : TimeBase :=
  if t.slewLeft = d then { t with slewLeft := 0, slewAcc := 0, slewing := false, slewRate := 0 }
  else { t with slewLeft := t.slewLeft - d, slewAcc := acc }

/-- One tick (R85, R89, R91). While a correction goes on, a fine step is due each time the slew rate has made up one tick of the oscillator:
one to insert is a tick of device time that the oscillator does not count, so that device time takes every value (R98); one to remove is a
tick of the oscillator that device time does not count, so that it never decreases (R18). At its last value device time stands still. -/
def TimeBase.tick (t : TimeBase) : TimeBase :=
  if t.now = lastTime then t
  else if 0 < t.slewLeft ∧ 10000000 ≤ t.slewAcc then (t.displaced 1).slewed 1 (t.slewAcc - 10000000)
  else
    let acc := t.slewAcc + t.slewRate.natAbs
    if t.slewLeft < 0 ∧ 10000000 ≤ acc then { t with sdc := t.sdc.map (· - 1) }.slewed (-1) (acc - 10000000)
    else { t with now := t.now + 1, slewAcc := if t.slewLeft = 0 then t.slewAcc else acc }

/-! ### Saturating counters -/

/-- A 16-bit counter that stops at its highest value. -/
def satInc (c : U16) : U16 := if c = 0xFFFF#16 then c else c + 1

/-! ### Fault sources (R886) and raising a fault (R893) -/

/-- Hand a fault to the collector's arbiter; it arrives with FAULT_ARRIVAL. -/
def State.raise (s : State) (e : FaultEvent) : State := s.modFlt (fun f => { f with transit := f.transit ++ [e] })

/-- A fault of a source with no context, no scope quay and the present time. -/
def faultOf (s : State) (src : Nat) (scope : Byte) (quays : List QuayNo) (ctx : Ctx) : FaultEvent :=
  { src := src, time := s.now, scope := scope, quays := quays, ctx := ctx, latched := [], suspect := 0, forceSevere := false }

/-- Raise a fault of quay scope. -/
def State.raiseQuay (s : State) (src : Nat) (q : QuayNo) (ctx : Ctx := {}) : State :=
  s.raise (faultOf s src (BitVec.ofNat 8 q.val) [q] ctx)
/-- Raise a fault of device scope; its quays follow from its level (R888). -/
def State.raiseDevice (s : State) (src : Nat) (ctx : Ctx := {}) : State := s.raise (faultOf s src 0xFF [] ctx)
/-- Raise a fault of half scope. -/
def State.raiseHalf (s : State) (src : Nat) (h : Side) (ctx : Ctx := {}) : State :=
  s.raise (faultOf s src (if h = .a then 0xE0 else 0xE1) [] ctx)
/-- Raise a fault of die scope for the quays its raising rule names. -/
def State.raiseDie (s : State) (src : Nat) (d : DieNo) (quays : List QuayNo) (ctx : Ctx := {}) : State :=
  s.raise (faultOf s src (0x40 + BitVec.ofNat 8 d.val) quays ctx)

/-- Quays owning a leg for which a test holds. -/
def State.quaysWithLeg (s : State) (t : LegNo → Bool) : List QuayNo :=
  allQuays.filter (fun q => (s.legsOf q).any t)
/-- Quays owning legs on a die. -/
def State.dieQuays (s : State) (d : DieNo) : List QuayNo := s.quaysWithLeg (fun l => isLocal l && dieOf l == d)
/-- Quays owning legs on a lane. -/
def State.laneQuays (s : State) (n : LaneNo) : List QuayNo := s.quaysWithLeg (fun l => s.laneOf l == some n)
/-- A quay outside OFF. -/
def State.outsideOff (s : State) (q : QuayNo) : Bool := s.quay[q].core.st != .off

/-- The scope byte of a lane (R922). -/
def laneScope (n : LaneNo) : Byte := if n.val < 16 then 0x50 + BitVec.ofNat 8 n.val else 0x60 + BitVec.ofNat 8 (n.val - 16)
/-- Raise a fault of lane scope. -/
def State.raiseLane (s : State) (src : Nat) (n : LaneNo) (ctx : Ctx := {}) : State :=
  s.raise (faultOf s src (laneScope n) (s.laneQuays n) { ctx with inst := BitVec.ofNat 8 n.val })
/-- The scope byte of a chopper (R922). -/
def chopperScope : ChopperRef → Byte
  | .brk m => 0x70 + BitVec.ofNat 8 m.val
  | .leg l => 0x80 + BitVec.ofNat 8 (l.val - 32)
/-- The number by which `quay.chopper` names a chopper (R821). -/
def chopperNo : ChopperRef → Nat
  | .brk m => m.val
  | .leg l => l.val
/-- Raise a fault of chopper scope (R888). -/
def State.raiseChopper (s : State) (src : Nat) (c : ChopperRef) (ctx : Ctx := {}) (latched : List LegNo := []) : State :=
  s.raise { faultOf s src (chopperScope c) (allQuays.filter (fun q => s.hasKernel q && quayChopper s q == chopperNo c)) ctx
            with latched := latched }

/-- An instance number as context byte 16. -/
def instCtx (n : Nat) : Ctx := { inst := BitVec.ofNat 8 n }

end Sys2Proof.Machine
end

