-- ==== Sys2Proof/Machine/Sources.lean ====
section
/-! DEFINITION. The fault sources: their IDs and classes (R886), and the default levels, counting, reactions, latch flags and
consequence sets of the manual's source tables (R106, R427, R521, R581, R669, R740, R815, R817, R882, R937, R938, R986, R1015). -/

namespace Sys2Proof.Machine

/-- FABRIC_STALL (R886). -/
def srcFabricStall : Nat := 0x001
/-- REF_LOSS (R886). -/
def srcRefLoss : Nat := 0x002
/-- SPEED_MARGIN (R886). -/
def srcSpeedMargin : Nat := 0x003
/-- ECC_CORR (R886). -/
def srcEccCorr : Nat := 0x010
/-- ECC_HALF (R886). -/
def srcEccHalf : Nat := 0x011
/-- ECC_TRACE (R886). -/
def srcEccTrace : Nat := 0x012
/-- ECC_PARAM (R886). -/
def srcEccParam : Nat := 0x013
/-- SEAL_WRITE (R886). -/
def srcSealWrite : Nat := 0x020
/-- CONFIG_REFUSED (R886). -/
def srcConfigRefused : Nat := 0x021
/-- DEBUG_OPEN (R886). -/
def srcDebugOpen : Nat := 0x022
/-- HALF_BOOT_FAIL (R886). -/
def srcHalfBootFail : Nat := 0x023
/-- INPUT_LATE (R886). -/
def srcInputLate : Nat := 0x030
/-- ENGINE_OVERRUN (R886). -/
def srcEngineOverrun : Nat := 0x031
/-- SHADOW_DIVERGE (R886). -/
def srcShadowDiverge : Nat := 0x032
/-- ROLE_MISMATCH (R886). -/
def srcRoleMismatch : Nat := 0x100
/-- FORCE_CONFLICT (R886). -/
def srcForceConflict : Nat := 0x101
/-- CHECK_TRIP (R886). -/
def srcCheckTrip : Nat := 0x102
/-- CHECK_SELFTEST (R886). -/
def srcCheckSelftest : Nat := 0x103
/-- HALF_LINK (R886). -/
def srcHalfLink : Nat := 0x104
/-- CMD_REFUSED (R886). -/
def srcCmdRefused : Nat := 0x200
/-- ILLEGAL_EDGE (R886). -/
def srcIllegalEdge : Nat := 0x300
/-- COUNT_DRIFT (R886). -/
def srcCountDrift : Nat := 0x301
/-- HALL_ILLEGAL (R886). -/
def srcHallIllegal : Nat := 0x302
/-- FB_WIRE (R886). -/
def srcFbWire : Nat := 0x303
/-- SSI_FRAME (R886). -/
def srcSsiFrame : Nat := 0x304
/-- SINCOS_SYNC (R886). -/
def srcSincosSync : Nat := 0x305
/-- SINCOS_LOST (R886). -/
def srcSincosLost : Nat := 0x306
/-- SINCOS_AMPL (R886). -/
def srcSincosAmpl : Nat := 0x307
/-- EMU_OVERRUN (R886). -/
def srcEmuOverrun : Nat := 0x308
/-- OBSERVER_LOSS (R886). -/
def srcObserverLoss : Nat := 0x400
/-- VOLTAGE_LIMIT (R886). -/
def srcVoltageLimit : Nat := 0x401
/-- SET_IMBALANCE (R886). -/
def srcSetImbalance : Nat := 0x402
/-- CURRENT_OFFSET (R886). -/
def srcCurrentOffset : Nat := 0x403
/-- SD_OVERRANGE (R886). -/
def srcSdOverrange : Nat := 0x404
/-- OVERSPEED (R886). -/
def srcOverspeed : Nat := 0x500
/-- SPEED_ERROR (R886). -/
def srcSpeedError : Nat := 0x501
/-- TENSION_HIGH (R886). -/
def srcTensionHigh : Nat := 0x502
/-- SHARE_LOST (R886). -/
def srcShareLost : Nat := 0x503
/-- SHARE_CONFIG (R886). -/
def srcShareConfig : Nat := 0x504
/-- LIMIT_STOP (R886). -/
def srcLimitStop : Nat := 0x600
/-- LIMIT_BOTH (R886). -/
def srcLimitBoth : Nat := 0x601
/-- HOME_FAIL (R886). -/
def srcHomeFail : Nat := 0x602
/-- FOLLOW_ERROR (R886). -/
def srcFollowError : Nat := 0x603
/-- STALL (R886). -/
def srcStall : Nat := 0x604
/-- STEP_OVERRUN (R886). -/
def srcStepOverrun : Nat := 0x605
/-- CATCH_TIMEOUT (R886). -/
def srcCatchTimeout : Nat := 0x700
/-- WSB_OVERCURRENT (R886). -/
def srcWsbOvercurrent : Nat := 0x701
/-- CRASH_SHORT (R886). -/
def srcCrashShort : Nat := 0x702
/-- SET_DROPPED (R886). -/
def srcSetDropped : Nat := 0x703
/-- ENC_FALLBACK (R886). -/
def srcEncFallback : Nat := 0x704
/-- SHORT_CIRCUIT (R886). -/
def srcShortCircuit : Nat := 0x800
/-- GU_SHORT (R886). -/
def srcGuShort : Nat := 0x801
/-- GATE_WATCH (R886). -/
def srcGateWatch : Nat := 0x802
/-- ASC_OVERCURRENT (R886). -/
def srcAscOvercurrent : Nat := 0x803
/-- BOOT_UV (R886). -/
def srcBootUv : Nat := 0x804
/-- BOOT_REFRESH (R886). -/
def srcBootRefresh : Nat := 0x805
/-- BLANKED_TRANSIENT (R886). -/
def srcBlankedTransient : Nat := 0x806
/-- GU_SUPPLY (R886). -/
def srcGuSupply : Nat := 0x807
/-- GU_OVERTEMP (R886). -/
def srcGuOvertemp : Nat := 0x808
/-- GU_TRIP (R886). -/
def srcGuTrip : Nat := 0x809
/-- VM_OV (R886). -/
def srcVmOv : Nat := 0x80A
/-- VM_UV (R886). -/
def srcVmUv : Nat := 0x80B
/-- CHOPPER_FAULT (R886). -/
def srcChopperFault : Nat := 0x80C
/-- CHOPPER_LONG (R886). -/
def srcChopperLong : Nat := 0x80D
/-- ENABLE_LOW (R886). -/
def srcEnableLow : Nat := 0x80E
/-- BOLLARD_EARLY (R886). -/
def srcBollardEarly : Nat := 0x80F
/-- CMD_LATE (R886). -/
def srcCmdLate : Nat := 0x810
/-- GW_LANE_LOSS (R886). -/
def srcGwLaneLoss : Nat := 0x900
/-- GW_LINK_DOWN (R886). -/
def srcGwLinkDown : Nat := 0x901
/-- GW_TIME (R886). -/
def srcGwTime : Nat := 0x902
/-- GW_QUARANTINE (R886). -/
def srcGwQuarantine : Nat := 0x903
/-- GW_TRAIN_FAIL (R886). -/
def srcGwTrainFail : Nat := 0x904
/-- GW_CRC (R886). -/
def srcGwCrc : Nat := 0x905
/-- HW_RING_CHANGE (R886). -/
def srcHwRingChange : Nat := 0xA00
/-- HW_ALIGN_LOST (R886). -/
def srcHwAlignLost : Nat := 0xA01
/-- HW_ID_CONFLICT (R886). -/
def srcHwIdConflict : Nat := 0xA02
/-- HW_CRC (R886). -/
def srcHwCrc : Nat := 0xA03
/-- THERMAL_THROTTLE (R886). -/
def srcThermalThrottle : Nat := 0xA80
/-- THERMAL_SHUTDOWN (R886). -/
def srcThermalShutdown : Nat := 0xA81
/-- SUPPLY_VCORE (R886). -/
def srcSupplyVcore : Nat := 0xA82
/-- SUPPLY_VIO (R886). -/
def srcSupplyVio : Nat := 0xA83
/-- SUPPLY_VGD (R886). -/
def srcSupplyVgd : Nat := 0xA84

/-- The assigned source IDs of path class (R886). -/
def pathSources : List Nat :=
  [0x300, 0x301, 0x302, 0x303, 0x304, 0x305, 0x306, 0x307, 0x308, 0x400, 0x401, 0x402, 0x403, 0x404, 0x500, 0x501, 0x502, 0x600, 0x601, 0x602, 0x603, 0x604, 0x700, 0x701, 0x702, 0x703, 0x704, 0x800, 0x801, 0x802, 0x803, 0x804, 0x805, 0x806, 0x807, 0x808, 0x809, 0x80A, 0x80B, 0x80C, 0x80D, 0xA80, 0xA81, 0xA84]

/-- The assigned source IDs of traffic class (R886). -/
def trafficSources : List Nat :=
  [0x001, 0x002, 0x003, 0x010, 0x011, 0x012, 0x013, 0x020, 0x021, 0x022, 0x023, 0x030, 0x031, 0x032, 0x100, 0x101, 0x102, 0x103, 0x104, 0x200, 0x503, 0x504, 0x605, 0x80E, 0x80F, 0x810, 0x900, 0x901, 0x902, 0x903, 0x904, 0x905, 0xA00, 0xA01, 0xA02, 0xA03, 0xA82, 0xA83]

/-- Default entries, part 1: source, base and severe level, N, T in microseconds, reactions at base and severe level, latch
flags, consequence mask (R918, R919). -/
def defaultSources1 : List SourceEntry :=
  [ ⟨0x001, 4, 4, 1, 1000000, 9, 9, false, false, 0⟩ /- FABRIC_STALL -/
  , ⟨0x002, 4, 4, 1, 1000000, 9, 9, false, false, 0⟩ /- REF_LOSS -/
  , ⟨0x003, 1, 1, 1, 1000000, 1, 1, false, false, 0⟩ /- SPEED_MARGIN -/
  , ⟨0x010, 0, 1, 64, 1000000, 1, 1, false, false, 0⟩ /- ECC_CORR -/
  , ⟨0x011, 1, 1, 1, 1000000, 8, 8, false, false, 0⟩ /- ECC_HALF -/
  , ⟨0x012, 1, 1, 1, 1000000, 1, 1, false, false, 0⟩ /- ECC_TRACE -/
  , ⟨0x013, 4, 4, 1, 1000000, 9, 9, false, false, 0⟩ /- ECC_PARAM -/
  , ⟨0x020, 0, 0, 1, 1000000, 1, 1, false, false, 0⟩ /- SEAL_WRITE -/
  , ⟨0x021, 0, 0, 1, 1000000, 1, 1, false, false, 0⟩ /- CONFIG_REFUSED -/
  , ⟨0x022, 1, 1, 1, 1000000, 1, 1, false, false, 0⟩ /- DEBUG_OPEN -/
  , ⟨0x023, 1, 1, 1, 1000000, 1, 1, false, false, 0⟩ /- HALF_BOOT_FAIL -/
  , ⟨0x030, 0, 1, 8, 10000, 1, 1, false, false, 192⟩ /- INPUT_LATE -/
  , ⟨0x031, 1, 1, 1, 1000000, 1, 1, false, false, 64⟩ /- ENGINE_OVERRUN -/
  , ⟨0x032, 1, 1, 1, 1000000, 1, 1, false, false, 64⟩ /- SHADOW_DIVERGE -/
  , ⟨0x100, 1, 1, 1, 1000000, 1, 1, false, false, 0⟩ /- ROLE_MISMATCH -/
  , ⟨0x101, 1, 1, 1, 1000000, 1, 1, false, false, 0⟩ /- FORCE_CONFLICT -/
  , ⟨0x102, 1, 1, 1, 1000000, 8, 8, false, false, 0⟩ /- CHECK_TRIP -/
  , ⟨0x103, 1, 1, 1, 1000000, 8, 8, false, false, 0⟩ /- CHECK_SELFTEST -/
  , ⟨0x104, 1, 1, 1, 1000000, 1, 1, false, false, 0⟩ /- HALF_LINK -/
  , ⟨0x200, 0, 0, 1, 1000000, 1, 1, false, false, 0⟩ /- CMD_REFUSED -/
  , ⟨0x300, 0, 1, 16, 1000000, 1, 1, false, false, 0⟩ /- ILLEGAL_EDGE -/
  , ⟨0x301, 1, 2, 3, 60000000, 1, 3, false, false, 0⟩ /- COUNT_DRIFT -/
  , ⟨0x302, 1, 2, 4, 100000, 1, 4, false, false, 0⟩ /- HALL_ILLEGAL -/
  , ⟨0x303, 2, 2, 1, 1000000, 4, 4, false, false, 0⟩ /- FB_WIRE -/ ]

/-- Default entries, part 2: source, base and severe level, N, T in microseconds, reactions at base and severe level, latch
flags, consequence mask (R918, R919). -/
def defaultSources2 : List SourceEntry :=
  [ ⟨0x304, 1, 2, 3, 10000, 1, 4, false, false, 0⟩ /- SSI_FRAME -/
  , ⟨0x305, 0, 1, 8, 1000000, 1, 1, false, false, 0⟩ /- SINCOS_SYNC -/
  , ⟨0x306, 2, 2, 1, 1000000, 4, 4, false, false, 0⟩ /- SINCOS_LOST -/
  , ⟨0x307, 2, 2, 1, 1000000, 4, 4, false, false, 0⟩ /- SINCOS_AMPL -/
  , ⟨0x308, 1, 1, 1, 1000000, 1, 1, false, false, 0⟩ /- EMU_OVERRUN -/
  , ⟨0x400, 1, 2, 3, 10000000, 1, 5, false, false, 188⟩ /- OBSERVER_LOSS -/
  , ⟨0x401, 0, 1, 10, 1000000, 1, 1, false, false, 191⟩ /- VOLTAGE_LIMIT -/
  , ⟨0x402, 1, 2, 4, 1000000, 1, 3, false, false, 188⟩ /- SET_IMBALANCE -/
  , ⟨0x403, 1, 1, 1, 1000000, 1, 1, false, false, 0⟩ /- CURRENT_OFFSET -/
  , ⟨0x404, 2, 2, 1, 1000000, 4, 4, false, false, 0⟩ /- SD_OVERRANGE -/
  , ⟨0x500, 2, 2, 1, 1000000, 3, 3, false, false, 0⟩ /- OVERSPEED -/
  , ⟨0x501, 1, 2, 3, 10000000, 1, 2, false, false, 191⟩ /- SPEED_ERROR -/
  , ⟨0x502, 1, 2, 3, 60000000, 1, 2, false, false, 191⟩ /- TENSION_HIGH -/
  , ⟨0x503, 1, 1, 1, 1000000, 1, 1, false, false, 191⟩ /- SHARE_LOST -/
  , ⟨0x504, 1, 1, 1, 1000000, 1, 1, false, false, 0⟩ /- SHARE_CONFIG -/
  , ⟨0x600, 1, 1, 1, 1000000, 1, 1, false, false, 0⟩ /- LIMIT_STOP -/
  , ⟨0x601, 2, 2, 1, 1000000, 4, 4, false, false, 0⟩ /- LIMIT_BOTH -/
  , ⟨0x602, 2, 2, 1, 1000000, 3, 3, false, false, 0⟩ /- HOME_FAIL -/
  , ⟨0x603, 2, 2, 1, 1000000, 3, 3, false, false, 191⟩ /- FOLLOW_ERROR -/
  , ⟨0x604, 2, 2, 1, 1000000, 4, 4, false, false, 0⟩ /- STALL -/
  , ⟨0x605, 1, 1, 1, 1000000, 1, 1, false, false, 0⟩ /- STEP_OVERRUN -/
  , ⟨0x700, 2, 2, 1, 1000000, 4, 4, false, false, 0⟩ /- CATCH_TIMEOUT -/
  , ⟨0x701, 2, 2, 1, 1000000, 5, 5, false, false, 0⟩ /- WSB_OVERCURRENT -/
  , ⟨0x702, 0, 1, 3, 60000000, 1, 1, false, false, 0⟩ /- CRASH_SHORT -/ ]

/-- Default entries, part 3: source, base and severe level, N, T in microseconds, reactions at base and severe level, latch
flags, consequence mask (R918, R919). -/
def defaultSources3 : List SourceEntry :=
  [ ⟨0x703, 1, 1, 1, 1000000, 1, 1, false, false, 0⟩ /- SET_DROPPED -/
  , ⟨0x704, 1, 1, 1, 1000000, 1, 1, false, false, 0⟩ /- ENC_FALLBACK -/
  , ⟨0x800, 2, 2, 1, 1000000, 7, 7, true, true, 0⟩ /- SHORT_CIRCUIT -/
  , ⟨0x801, 2, 2, 1, 1000000, 7, 7, true, true, 0⟩ /- GU_SHORT -/
  , ⟨0x802, 2, 2, 1, 1000000, 7, 7, true, true, 0⟩ /- GATE_WATCH -/
  , ⟨0x803, 2, 2, 1, 1000000, 4, 4, true, true, 0⟩ /- ASC_OVERCURRENT -/
  , ⟨0x804, 2, 2, 1, 1000000, 5, 5, false, false, 0⟩ /- BOOT_UV -/
  , ⟨0x805, 0, 1, 50, 1000000, 1, 1, false, false, 0⟩ /- BOOT_REFRESH -/
  , ⟨0x806, 0, 1, 16, 1000000, 1, 1, false, false, 0⟩ /- BLANKED_TRANSIENT -/
  , ⟨0x807, 2, 2, 1, 1000000, 4, 4, false, false, 0⟩ /- GU_SUPPLY -/
  , ⟨0x808, 1, 1, 1, 1000000, 1, 1, false, false, 0⟩ /- GU_OVERTEMP -/
  , ⟨0x809, 2, 2, 1, 1000000, 4, 4, false, false, 0⟩ /- GU_TRIP -/
  , ⟨0x80A, 3, 3, 1, 1000000, 5, 5, false, false, 0⟩ /- VM_OV -/
  , ⟨0x80B, 3, 3, 1, 1000000, 4, 4, false, false, 0⟩ /- VM_UV -/
  , ⟨0x80C, 3, 3, 1, 1000000, 5, 5, false, false, 0⟩ /- CHOPPER_FAULT -/
  , ⟨0x80D, 1, 1, 1, 1000000, 1, 1, false, false, 0⟩ /- CHOPPER_LONG -/
  , ⟨0x80E, 2, 2, 1, 1000000, 4, 4, false, false, 0⟩ /- ENABLE_LOW -/
  , ⟨0x80F, 0, 0, 1, 1000000, 1, 1, false, false, 0⟩ /- BOLLARD_EARLY -/
  , ⟨0x810, 0, 2, 8, 10000, 1, 4, false, false, 252⟩ /- CMD_LATE -/
  , ⟨0x900, 2, 2, 1, 1000000, 4, 4, false, false, 0⟩ /- GW_LANE_LOSS -/
  , ⟨0x901, 0, 1, 4, 60000000, 1, 1, false, false, 0⟩ /- GW_LINK_DOWN -/
  , ⟨0x902, 2, 2, 1, 1000000, 4, 4, false, false, 0⟩ /- GW_TIME -/
  , ⟨0x903, 1, 1, 1, 1000000, 1, 1, false, false, 0⟩ /- GW_QUARANTINE -/
  , ⟨0x904, 0, 1, 10, 60000000, 1, 1, false, false, 0⟩ /- GW_TRAIN_FAIL -/ ]

/-- Default entries, part 4: source, base and severe level, N, T in microseconds, reactions at base and severe level, latch
flags, consequence mask (R918, R919). -/
def defaultSources4 : List SourceEntry :=
  [ ⟨0x905, 0, 1, 16, 1000000, 1, 1, false, false, 0⟩ /- GW_CRC -/
  , ⟨0xA00, 0, 0, 1, 1000000, 1, 1, false, false, 0⟩ /- HW_RING_CHANGE -/
  , ⟨0xA01, 1, 1, 1, 1000000, 1, 1, false, false, 0⟩ /- HW_ALIGN_LOST -/
  , ⟨0xA02, 1, 1, 1, 1000000, 1, 1, false, false, 0⟩ /- HW_ID_CONFLICT -/
  , ⟨0xA03, 0, 1, 16, 1000000, 1, 1, false, false, 0⟩ /- HW_CRC -/
  , ⟨0xA80, 1, 1, 1, 1000000, 1, 1, false, false, 0⟩ /- THERMAL_THROTTLE -/
  , ⟨0xA81, 3, 3, 1, 1000000, 4, 4, true, true, 0⟩ /- THERMAL_SHUTDOWN -/
  , ⟨0xA82, 1, 1, 1, 1000000, 1, 1, false, false, 0⟩ /- SUPPLY_VCORE -/
  , ⟨0xA83, 1, 1, 1, 1000000, 1, 1, false, false, 0⟩ /- SUPPLY_VIO -/
  , ⟨0xA84, 3, 3, 1, 1000000, 4, 4, false, false, 0⟩ /- SUPPLY_VGD -/ ]

/-- The default entries of every assigned source. -/
def defaultSources : List SourceEntry := defaultSources1 ++ defaultSources2 ++ defaultSources3 ++ defaultSources4

/-- A source this manual assigns (R885, R886). -/
def isAssigned (src : Nat) : Bool := pathSources.contains src || trafficSources.contains src
/-- A source of the path class (R886). -/
def isPath (src : Nat) : Bool := pathSources.contains src

/-- The entry in force of a source: that of the protection set, or before an image gave one the default. -/
def State.entry (s : State) (src : Nat) : SourceEntry :=
  match s.prot.sources.find? (fun e => e.src == src) with
  | some e => e
  | none =>
    match defaultSources.find? (fun e => e.src == src) with
    | some e => e
    | none => ⟨src, 0, 0, 1, 1000000, 0, 0, false, false, 0⟩

end Sys2Proof.Machine
end

