-- ==== Sys2Proof/Machine/LegOps.lean ====
section
/-! DEFINITION. What decides a leg's state (R742), the edges of a held kind on a local leg (R744, R748), the STATE frames of a
remote one (R833), reactions and Bollard latches on legs (R743, R745, R800, R801). -/

namespace Sys2Proof.Machine

/-- From step 10 of the boot sequence on, outside BOOT_HALT (R137, R142). -/
def State.afterStep10 (s : State) : Bool := s.boot.stage == .discovery || s.boot.stage == .ready

/-- READY is set (R146). -/
def State.isReady (s : State) : Bool := s.boot.stage == .ready

/-- The pre-driver dies exist: not on a WV-2480-C0 (R2, R3). -/
def State.hasDies (s : State) : Bool := !s.fuse.pkgC0

/-- A leg of a pre-driver die that the device has: of L0 to L31, none on a WV-2480-C0 (R3). -/
def State.localLeg (s : State) (l : LegNo) : Bool := isLocal l && s.hasDies

/-- The enable pin of the leg's group is low; a leg without a lane has no pin. -/
def State.legEnLow (s : State) (l : LegNo) : Bool :=
  match s.groupOf l with
  | some g => !s.pins.enHigh[g]
  | none => false

/-- A HALT input is asserted (R1040). -/
def State.haltOn (s : State) : Bool := s.pins.halt.a || s.pins.halt.b

/-- The kind in which ranks 1 to 4 of R742 hold a leg, where one of them does. -/
def State.heldKind (s : State) (l : LegNo) : Option LegKind :=
  if !s.afterStep10 then some .off
  else if s.legEnLow l || (!s.isChopperLeg l && s.haltOn) then some .off
  else
    match s.leg[l].latch with
    | some k => some k
    | none => s.leg[l].react

/-- A chopper leg chops (R792, R793, R795): its chopping flag, unless what R795 names stops it. -/
def State.legChops (s : State) (l : LegNo) : Bool :=
  s.leg[l].chopping && !s.legEnLow l && s.leg[l].latch == none && !s.flt.hardSafe &&
    (match s.laneOf l with
     | some n => s.lane[n].st == .attached
     | none => false)

/-- The kind in force of a leg (R742, `leg.kind`). -/
def State.kindInForce (s : State) (l : LegNo) : LegKind :=
  match s.heldKind l with
  | some k => k
  | none =>
    if s.isChopperLeg l then
      (if s.legChops l then (if legChopSwitch s l == 1 then .holdHigh else .holdLow) else .off)
    else s.leg[l].inForce.kind

/-! ### Update points (R77, R98 to R100) -/

/-- The period of a quay's sample events by its parameters, in ticks. DEDUCED, log entry 16: rounded to the nearest tick. -/
def State.paramPeriod (s : State) (q : QuayNo) : Nat :=
  let d := quayCarrierFreq s q * quayLoopPerCarrier s q
  if d = 0 then 0 else (2 * 6400000000 + d) / (2 * d)

/-- The carrier period in ticks. -/
def State.carrierPeriod (s : State) (q : QuayNo) : Nat :=
  let d := quayCarrierFreq s q
  if d = 0 then 0 else (2 * 6400000000 + d) / (2 * d)

/-- The phase of a quay's carrier in ticks, from `quay.carrier_phase`, rounded to the nearest tick (R128). -/
def State.carrierPhase (s : State) (q : QuayNo) : Nat := (quayCarrierPhase s q * s.carrierPeriod q + 2147483648) / 4294967296

/-- The phase of a quay's slot (R128). DESIGN CHOICE, log entry 16: where two iterations share a carrier period, a carrier phase of a
slot period or more is that phase less the slot period (R99), and the other sample event of a carrier is its valley. -/
def State.paramPhase (s : State) (q : QuayNo) : Nat :=
  let p := s.paramPeriod q
  if p = 0 then 0 else s.carrierPhase q % p

/-- The firings of a quay's slot are half a carrier apart from those its phase alone gives. -/
def State.carrierFlip (s : State) (q : QuayNo) : Bool :=
  let p := s.paramPeriod q
  decide (p ≠ 0) && decide (s.carrierPhase q / p % 2 = 1)

/-- The period and phase in force of a quay's slot: a commit takes effect after the next firing (R100). -/
def State.slotInForce (s : State) (q : QuayNo) : Nat × Nat :=
  match s.quay[q].slotOld with
  | some (p, f, none) => (p, f)
  | some (p, f, some t) => if s.now ≤ t then (p, f) else (s.paramPeriod q, s.paramPhase q)
  | none => (s.paramPeriod q, s.paramPhase q)

/-- The period of a quay's sample events in force, in ticks. -/
def State.loopPeriod (s : State) (q : QuayNo) : Nat := (s.slotInForce q).1
/-- The phase of a quay's slot in force. -/
def State.loopPhase (s : State) (q : QuayNo) : Nat := (s.slotInForce q).2

/-- A slot of a period and phase fires at a time (R98). -/
def fires (period phase t : Nat) : Bool := decide (0 < period) && decide (phase ≤ t) && decide ((t - phase) % period = 0)

/-- First firing after a time. -/
def nextFire (period phase t : Nat) : Nat :=
  if period = 0 then t else if t < phase then phase else t + (period - (t - phase) % period)

/-- The next update point of a quay after now (R77). -/
def State.nextUpdate (s : State) (q : QuayNo) : Nat :=
  match s.quay[q].slotOld with
  | some (_, _, some _) => nextFire (s.paramPeriod q) (s.paramPhase q) s.now
  | _ => nextFire (s.loopPeriod q) (s.loopPhase q) s.now

/-! ### Edges of a local leg (R744, R748 to R750)

The edges of a gate are a list of times and levels, rising in time: those to come and the latest of those past. -/

/-- The level of a gate at a time. -/
def levelAt (es : List (Nat × Bool)) (t : Nat) : Bool := ((es.filter (fun e => decide (e.1 ≤ t))).getLast?.map (·.2)).getD false

/-- The level of a gate after its last edge to come. -/
def endsOn (es : List (Nat × Bool)) : Bool := (es.getLast?.map (·.2)).getD false

/-- The last turn-on of a gate up to a time. -/
def lastOn (es : List (Nat × Bool)) (t : Nat) : Option Nat := (es.filter (fun e => e.2 && decide (e.1 ≤ t))).getLast?.map (·.1)

/-- A gate is off from a time on. -/
def offFrom (es : List (Nat × Bool)) (t : Nat) : List (Nat × Bool) :=
  let p := es.filter (fun e => decide (e.1 ≤ t))
  if levelAt p t then p ++ [(t, false)] else p

/-- A gate that is on at a time stays on; any other turns on at a second time. -/
def onFrom (es : List (Nat × Bool)) (t on : Nat) : List (Nat × Bool) :=
  let p := es.filter (fun e => decide (e.1 ≤ t))
  if levelAt p t then p else p ++ [(max t on, true)]

/-- The edges to come, and the last four of those past. -/
def recent (es : List (Nat × Bool)) (t : Nat) : List (Nat × Bool) :=
  let p := es.filter (fun e => decide (e.1 ≤ t))
  p.drop (p.length - 4) ++ es.filter (fun e => decide (t < e.1))

/-- Bring a local leg into a kind (R744, R748): each switch that leaves conduction turns off at one time, the one that enters turns on at
another. -/
def Leg.hold (x : Leg) (k : LegKind) (off on : Nat) : Leg :=
  match k with
  | .off => { x with high := offFrom x.high off, low := offFrom x.low off }
  | .holdLow => { x with high := offFrom x.high off, low := onFrom x.low off on }
  | .holdHigh => { x with low := offFrom x.low off, high := onFrom x.high off on }
  | .switch => x

/-- The high-side on-interval of a SWITCH command within a period. -/
def highTime (c : LegCmd) (period : Nat) : Nat :=
  match c.on, c.off with
  | some a, some b => if a ≤ b then b - a else period - (a - b)
  | some a, none => period - a
  | none, some b => b
  | none, none => 0

/-- The command as the cell executes it: short on- or off-intervals become HOLD_LOW or HOLD_HIGH (R750). -/
def substitute (c : LegCmd) (period dead : Nat) : LegCmd :=
  if c.kind = .switch then
    if highTime c period < dead then ⟨.holdLow, none, none⟩
    else if period - highTime c period < dead then ⟨.holdHigh, none, none⟩ else c
  else c

/-- A SWITCH command starts its period with the high side on. -/
def startsHigh (c : LegCmd) : Bool :=
  match c.on, c.off with
  | some a, some b => decide (b < a)
  | none, some _ => true
  | _, _ => false

/-- The edges of a command on a local leg for the period from an update point on (R748, R749). `lowToo` is false for the PWM leg of a
block-commutated quay that leaves its low side off (R497). -/
def Leg.execute (x : Leg) (c : LegCmd) (t dead : Nat) (lowToo : Bool) : Leg :=
  let bring (y : Leg) (k : LegKind) (u : Nat) : Leg := y.hold k (t + u - dead / 2) (t + u + dead / 2)
  let fall : LegKind := if lowToo then .holdLow else .off
  match c.kind with
  | .switch =>
    let y := if startsHigh c then (if endsOn x.high then x else bring x .holdHigh 0)
      else if endsOn x.high || lowToo != endsOn x.low then bring x fall 0 else x
    match c.on, c.off with
    | some a, some b => if a ≤ b then bring (bring y .holdHigh a) fall b else bring (bring y fall b) .holdHigh a
    | some a, none => bring y .holdHigh a
    | none, some b => bring y fall b
    | none, none => y
  | k => bring x k 0

/-- The PWM leg of a block-commutated quay leaves its low side off (R497). -/
def State.highSideOnly (s : State) (q : QuayNo) : Bool := s.machine q == 3 && quayBldcPwm s q == 0

/-- Execute the command in force of a leg from an update point on. -/
def State.executeLeg (s : State) (q : QuayNo) (l : LegNo) (x : Leg) (t : Nat) : Leg :=
  let y := x.execute x.inForce t (legDeadTime s l) (!s.highSideOnly q)
  { y with high := recent y.high s.now, low := recent y.low s.now }

/-- A leg that no rank above the commands holds any longer: the command of the present period goes on from here (R742). The side it has on
now turns on a dead time later, unless another edge comes before that. -/
def State.resume (s : State) (l : LegNo) : State :=
  match s.legQuay l with
  | none => s
  | some q =>
    let d := legDeadTime s l
    let p := s.loopPeriod q
    let t0 := if p = 0 then s.now else s.now - (s.now - s.loopPhase q) % p
    s.modLeg l (fun x =>
      let z := ({ x with high := [], low := [] }).execute x.inForce t0 d (!s.highSideOnly q)
      let ahead (es : List (Nat × Bool)) := es.filter (fun e => decide (s.now < e.1))
      let soon := (ahead z.high ++ ahead z.low).any (fun e => decide (e.1 ≤ s.now + d))
      let k : LegKind := if soon then .off else if levelAt z.high s.now then .holdHigh else if levelAt z.low s.now then .holdLow else .off
      let y := x.hold k s.now (s.now + d)
      { y with high := y.high ++ ahead z.high, low := y.low ++ ahead z.low })

/-- Take what holds a local leg to it where that has changed (R744). -/
def State.orderLocal (old s : State) (l : LegNo) : State :=
  if s.localLeg l && (old.heldKind l != s.heldKind l) then
    match s.heldKind l with
    | some k => s.modLeg l (fun x => let y := x.hold k s.now (s.now + legDeadTime s l); { y with high := recent y.high s.now, low := recent y.low s.now })
    | none => s.resume l
  else s

/-- Entries of a STATE frame (R803, R830, R833, R834, R1041): slot, kind, HOLD, for the legs of a lane whose held kind has changed, for all of
them where the enable pin of their group has, for the phase legs where a HALT input begins or ends to hold them, and for a chopper leg that
FABRIC_STALL stops (R795). -/
def State.stateEntries (old s : State) (n : LaneNo) : List (Nat × LegKind × Bool) :=
  (List.range 8).filterMap (fun slot =>
    match s.slotLeg n slot with
    | some l =>
      if old.heldKind l != s.heldKind l || old.legEnLow l != s.legEnLow l || (old.haltOn != s.haltOn && !s.isChopperLeg l)
          || (s.isChopperLeg l && old.kindInForce l != s.kindInForce l) then
        (match s.heldKind l with
         | some k => some (slot, k, true)
         | none => if s.isChopperLeg l then some (slot, s.kindInForce l, true) else some (slot, s.leg[l].inForce.kind, false))
      else none
    | none => none)

/-- Hand a frame to the transmitter of a lane. -/
def State.sendLane (s : State) (n : LaneNo) (f : GwFrame) : State := s.modLane n (fun x => { x with tx := x.tx ++ [f] })

/-- The enable pin of a lane's group is low (R803). -/
def State.laneEnLow (s : State) (n : LaneNo) : Bool := !s.pins.enHigh[groupOfLane n]

/-- Send the STATE frame of a lane where a held kind of one of its legs changed (R833); only to an ATTACHED partner (R852). -/
def State.stateFrame (old s : State) (n : LaneNo) : State :=
  let es := old.stateEntries s n
  if es.isEmpty || s.lane[n].st != .attached then s else s.sendLane n (.state (s.laneEnLow n) es)

/-- After a change of what holds legs, take it to the legs at once (R744): edges on local legs, STATE frames on lanes. -/
def State.syncLegs (old s : State) : State :=
  forAll (List.finRange 20) (forAll allLegs s (fun t l => old.orderLocal t l)) (fun t n => old.stateFrame t n)

/-! ### Latches and reactions on legs -/

/-- The kind a reaction code puts a leg in (R743); codes 4, 5 and 6. -/
def reactKind : Nat → LegKind
  | 5 => .holdLow
  | 6 => .holdHigh
  | _ => .off

/-- Put a leg-acting reaction of code 4, 5 or 6 in force on the legs of a quay (R743, R801, R1002): phase legs only. A held
latch takes the state of the reaction; a reaction with a latch flag sets the latch (R800). `rec` is the record's number. -/
def State.reactLegs (s : State) (q : QuayNo) (code : Nat) (latch : Bool) (rec : Option Nat) : State :=
  forAll (s.phaseLegs q) s (fun t l =>
    t.modLeg l (fun x =>
      let k := reactKind code
      if latch || x.latch.isSome then
        { x with latch := some k, react := some k
                 latchRecs := match rec with
                   | some r => if x.latchRecs.contains r then x.latchRecs else x.latchRecs ++ [r]
                   | none => x.latchRecs }
      else { x with react := some k }))

/-- Set the Bollard latch of one leg in state OFF at its detection, its record not yet written (R775, R786, R798). -/
def State.latchOff (s : State) (l : LegNo) : State :=
  s.modLeg l (fun x => { x with latch := some .off, latchWait := true })

/-- The record of a fault whose detector set latches has been written: it joins the records of those latches (R806). -/
def State.joinLatch (s : State) (ls : List LegNo) (rec : Nat) : State :=
  forAll ls s (fun t l => t.modLeg l (fun x =>
    { x with latchWait := false
             latchRecs := if x.latch.isSome && !x.latchRecs.contains rec then x.latchRecs ++ [rec] else x.latchRecs }))

/-- The legs a source latched directly wait for no record of its own: it is counted only, or consequential (R806, R908, R911). -/
def State.endLatchWait (s : State) (ls : List LegNo) : State :=
  forAll ls s (fun t l => t.modLeg l (fun x => { x with latchWait := false }))

/-- A quay entering OFF: reaction states that have not latched end (R745), DISARM names its phase legs on each lane (R855). -/
def State.releaseLegs (s : State) (q : QuayNo) : State :=
  forAll (s.phaseLegs q) s (fun t l => t.modLeg l (fun x => { x with react := none }))

/-- The slot mask of a quay's phase legs on a lane. -/
def State.slotMask (s : State) (ls : List LegNo) (n : LaneNo) : Byte :=
  ls.foldl (fun m l =>
    match s.laneSlot l with
    | some (n', slot) => if n' = n then m ||| (1#8 <<< slot) else m
    | none => m) 0

/-- Send a frame with the slot mask of some legs on each ATTACHED lane that carries one of them. -/
def State.sendMask (s : State) (ls : List LegNo) (mk : Byte → GwFrame) : State :=
  forAll (List.finRange 20) s (fun t n =>
    let m := s.slotMask ls n
    if m = 0 ∨ s.lane[n].st ≠ .attached then t else t.sendLane n (mk m))

/-- The ARM entries of some legs on a lane (R830, R854). -/
def State.armEntries (s : State) (ls : List LegNo) (n : LaneNo) : List ArmEntry :=
  ls.filterMap (fun l =>
    match s.laneSlot l with
    | some (n', slot) =>
      if n' = n then
        some { slot := slot, chopper := s.isChopperLeg l, high := s.isChopperLeg l && legChopSwitch s l == 1
               lossLow := gwLossState s n == 1, dead := legDeadTime s l }
      else none
    | none => none)

/-- Send ARM for some legs on each ATTACHED lane that carries one of them (R854). -/
def State.sendArm (s : State) (ls : List LegNo) : State :=
  forAll (List.finRange 20) s (fun t n =>
    let es := s.armEntries ls n
    if es.isEmpty ∨ s.lane[n].st ≠ .attached then t else t.sendLane n (.arm es))

/-! ### Leg status (R758, R812, R818) -/

/-- A leg is available to its quay (R290, R804, R840): its lane is attached and its enable pin high. -/
def State.legAvailable (s : State) (l : LegNo) : Bool :=
  !s.legEnLow l &&
    (match s.laneOf l with
     | some n => s.lane[n].st == .attached
     | none => false)

/-- The derating factor f of a leg (R812): that of its die, or the one its gate unit reports. -/
def State.legFactor (s : State) (l : LegNo) : Rat :=
  if isLocal l then s.thm.factor[dieOf l] else s.leg[l].derate

/-- The factor in effect for what starts at a time: a new one of a die acts 10 us after the end of its window (R995). -/
def State.factorInEffect (s : State) (l : LegNo) (t : Nat) : Rat :=
  if isLocal l then (if t < s.thm.factorAt + us 10 then s.thm.factorOld[dieOf l] else s.thm.factor[dieOf l]) else s.leg[l].derate

/-- `leg.i_limit_eff` at a time in mA, before rounding (R812, R995). -/
def State.iLimitEff (s : State) (l : LegNo) (t : Nat) : Rat := (legILimit s l : Rat) * s.factorInEffect l t

/-- A blanking window of the leg is open: a turn-on lies less than `leg.blank_time` back (R770). -/
def State.blankingOpen (s : State) (l : LegNo) : Bool :=
  let w := legBlankTime s l
  let within (t : Option Nat) : Bool := match t with
    | some a => decide (a ≤ s.now) && decide (s.now < a + w)
    | none => false
  s.localLeg l && (within (lastOn s.leg[l].high s.now) || within (lastOn s.leg[l].low s.now))

/-- A refresh pulse is in progress: high side off, dead time, low side on for 300 ns, dead time (R760). -/
def State.refreshing (s : State) (l : LegNo) : Bool :=
  match s.leg[l].lastRefresh with
  | some t => decide (t ≤ s.now) && decide (s.now < t + 2 * legDeadTime s l + 1920)
  | none => false

/-- The die of a local leg holds every phase-leg gate output at sink: thermal shutdown (R1000, R1001) or low VGD (R1009). -/
def State.dieHeld (s : State) (l : LegNo) : Bool := s.thm.shut[dieOf l] || s.supply.vgdHold[dieOf l]

/-- The high-side gate of a local leg is shown on (R62, R752, R764). -/
def State.gateHigh (s : State) (l : LegNo) : Bool :=
  s.localLeg l && !s.dieHeld l && !s.legEnLow l && !s.leg[l].uvlo && levelAt s.leg[l].high s.now
/-- The low-side gate of a local leg is shown on (R62, R752). -/
def State.gateLow (s : State) (l : LegNo) : Bool :=
  s.localLeg l && !s.dieHeld l && !s.legEnLow l && levelAt s.leg[l].low s.now

/-- The charge pump of a local leg runs (R756): while the owning quay is outside OFF. -/
def State.pumpRuns (s : State) (l : LegNo) : Bool :=
  s.localLeg l && (match s.legQuay l with
    | some q => s.outsideOff q
    | none => false)

/-- `leg.status` (R818). -/
def State.legStatus (s : State) (l : LegNo) : Word :=
  let x := s.leg[l]
  let b (c : Bool) (n : Nat) : Nat := if c then 2 ^ n else 0
  BitVec.ofNat 32
    (b (s.isChopperLeg l && s.legChops l) 12
     + b (!isLocal l && (match s.laneOf l with | some n => s.lane[n].st != .attached | none => true)) 11
     + b (decide (s.legFactor l < 1)) 10 + b x.uvlo 9 + b (s.refreshing l) 8 + b (s.blankingOpen l) 7 + b (s.legEnLow l) 6
     + b x.latch.isSome 5 + b (x.react.isSome && x.latch.isNone) 4 + b x.sbFresh 3
     + b (s.gateLow l) 2 + b (s.gateHigh l) 1 + b x.present 0)

/-! ### Steps of a pulse quay (R662 to R668) -/

/-- The steps emitted by a time (R412, R583). -/
def PulseGen.emittedAt (x : PulseGen) (t : Nat) : Int :=
  x.edges.foldl (fun n e => if t < e.1 then (if e.2 then n - 1 else n + 1) else n) x.emitted

/-- No step is emitted after a time: steps placed beyond it are taken back, lag is discarded, and DIR holds (R668). -/
def PulseGen.cut (x : PulseGen) (t : Nat) : PulseGen :=
  let es := x.edges.filter (fun e => decide (e.1 ≤ t))
  { x with
    emitted := x.emittedAt t, lag := 0, edges := es
    dir := if t < x.dirAt then !x.dir else x.dir, dirAt := min x.dirAt t
    stepAt := match es with
      | e :: _ => e.1
      | [] => min x.stepAt t }

/-- A quay emits no step from now on (R668). -/
def State.cutSteps (s : State) (q : QuayNo) : State :=
  s.modQuay q (fun x =>
    let p := x.pulse.cut s.now
    { x with pulse := p, kern := { x.kern with count := p.emitted } })

/-- BOLLARD_HELD of a quay (R811). -/
def State.bollardHeld (s : State) (q : QuayNo) : Bool := (s.legsOf q).any (fun l => s.leg[l].latch.isSome)

end Sys2Proof.Machine
end

