-- ==== Sys2Proof/Machine/AxisOps.lean ====
section
/-! DEFINITION. The state machine of a quay (R270): transitions with what they carry along (class-0 buffer and acceptance table,
DISARM, CHANGE messages, event entries of commands in progress); the grant (R940 to R959) and the reset of a half (R260, R943). -/

namespace Sys2Proof.Machine

/-! ### Event queue (R234 to R239) -/

/-- Status DONE (R218). -/
def stDone : Byte := 0x00
/-- Status ACCEPTED (R218). -/
def stAccepted : Byte := 0x01
/-- Status STATE_REFUSED (R218). -/
def stRefused : Byte := 0x10
/-- Status RANGE (R218). -/
def stRange : Byte := 0x11

/-- Byte 0 of a reply or event entry (R212). -/
def replyByte0 (cls : BitVec 2) (forwarded event : Bool) : Byte :=
  (cls.setWidth 8 <<< 6) ||| 0x20 ||| (if forwarded then 0x10 else 0) ||| (if event then 0x08 else 0)

/-- The 32 bytes of an event entry (R235). -/
def eventEntry (o : AcceptedOp) (status : Byte) (advice : U16) (time : Nat) (result : Nat) : EvqEntry :=
  let body := [replyByte0 o.cls o.forwarded true, o.opcode] ++ leBytes 2 o.seq.toNat ++ leBytes 2 o.target.toNat
    ++ leBytes 2 20 ++ [status, BitVec.ofNat 8 o.mbx.val] ++ leBytes 2 advice.toNat ++ leBytes 8 time ++ leBytes 8 result
  body ++ leBytes 2 (crc16 body).toNat ++ [0, 0]

/-- The queue is full (R237). -/
def Port.evqFull (p : Port) : Bool := p.evqHead + 1 == p.evqTail

/-- Write an event entry, or drop it where the queue is full (R236, R238). -/
def Port.pushEvq (p : Port) (e : EvqEntry) : Port :=
  if p.evqFull then { p with evqOvf := satInc p.evqOvf }
  else { p with evq := p.evq.set p.evqHead.toFin e, evqHead := p.evqHead + 1 }

/-- The event entry of a command that was answered ACCEPTED (R234). -/
def State.event (s : State) (o : AcceptedOp) (status : Byte) (advice : U16) (result : Nat) : State :=
  s.modPort o.port (fun p => p.pushEvq (eventEntry o status advice s.now result))

/-- The event entry of a command that may be in progress. -/
def State.eventOpt (s : State) (o : Option AcceptedOp) (status : Byte) (advice : U16) (result : Nat) : State :=
  match o with
  | some a => s.event a status advice result
  | none => s

/-- The event entries of some commands in progress, oldest first. -/
def State.eventAll (s : State) (os : List AcceptedOp) (status : Byte) (advice : U16) (result : Nat) : State :=
  forAll os s (fun t o => t.event o status advice result)

/-! ### Class-0 acceptance table (R246, R307, R309) -/

/-- Class-0 setpoints in each state (R307). -/
def judgeSet : AxisState → C0Judge
  | .armed | .catching | .running | .hold => .accept
  | _ => .refuse
/-- Class-0 STOP in each state (R307). -/
def judgeStop : AxisState → C0Judge
  | .armed | .catching | .running | .hold | .homing => .accept
  | _ => .done
/-- Class-0 QUICKSTOP in each state; note 2: a quick stop already in progress gives DONE (R307). -/
def judgeQuick : AxisState → StopKind → C0Judge
  | .armed, _ | .catching, _ | .running, _ | .hold, _ | .homing, _ => .accept
  | .stopping, .quick => .done
  | .stopping, _ => .accept
  | _, _ => .done
/-- Class-0 QUICK_RELEASE in each state; note 9 (R307). -/
def judgeRelease (enabled : Bool) : AxisState → C0Judge
  | .off | .armed | .faulted | .safe => if enabled then .done else .refuse
  | .homing => .refuse
  | _ => if enabled then .accept else .refuse

/-- The half in charge rewrites the acceptance table of a quay from its state (R246); without one nothing is written. -/
def State.rewriteTable (s : State) (q : QuayNo) : State :=
  if s.hm.grant.isNone then s
  else
    let rel := quayReleaseEnable s q == 1
    s.modQuay q (fun x => { x with c0 := { x.c0 with
      jSet := judgeSet x.core.st, jStop := judgeStop x.core.st, jQuick := judgeQuick x.core.st x.core.stop
      jRelease := judgeRelease rel x.core.st } })

/-- Zero the torque, speed and tension references of a quay (R245); the torque feedforward is no reference. -/
def State.zeroRefs (s : State) (q : QuayNo) : State :=
  if s.hm.grant.isNone then s
  else s.modQuay q (fun x => { x with c0 := { x.c0 with torque := 0, speed := 0, tension := 0 } })

/-! ### CHANGE messages (R961, R982) -/

/-- A half holds the grant. -/
def State.inCharge (s : State) (h : Side) : Bool := s.hm.grant == some h

/-- Post a change of a quay's state machine to the shadow where one is admitted; otherwise it applies without waiting. The kernels
of both halves follow from the first sample event after the acknowledgement (`eff`). -/
def State.publish (s : State) (q : QuayNo) : State :=
  match s.hm.grant with
  | some h =>
    if s.hm.admission[q] then
      s.modIh (fun c => { c with from_ := c.from_.set h (c.from_.get h ++ [.change q s.quay[q].core s.now])
                                 unacked := c.unacked.set h (c.unacked.get h ++ [s.now])
                                 changes := c.changes ++ [(q, s.now)] })
    else s.modQuay q (fun x => { x with eff := x.core, coreCopy := x.core })
  | none => s.modQuay q (fun x => { x with eff := x.core, coreCopy := x.core })

/-- Change the state machine of a quay and post the change. -/
def State.modCore (s : State) (q : QuayNo) (f : AxisCore → AxisCore) : State :=
  (s.modQuay q (fun x => { x with core := f x.core })).publish q

/-! ### Transitions -/

/-- Event entries for what is in progress on a quay and cannot go on (R234): an ARM in progress carries ARM_FAILED (R291), a START whose
catch ends otherwise no advice. -/
def State.abandon (s : State) (q : QuayNo) (arm start : Bool) : State :=
  let c := s.quay[q].core
  let s1 := if arm then s.eventOpt c.armOp stRefused 0x000E 0 else s
  let s2 := if start then s1.eventOpt c.startOp stRefused 0 0 else s1
  s2.modQuay q (fun x => { x with core := { x.core with
    armOp := if arm then none else x.core.armOp
    startOp := if start then none else x.core.startOp } })

/-- A quay whose motions run on the profile generator in every mode: a light stepper or a pulse quay (R601, R607). -/
def State.isStepped (s : State) (q : QuayNo) : Bool := s.isStepper q || s.isPulse q

/-- A motion of a quay has been ended and only comes to rest (R597). -/
def AxisCore.halt (c : AxisCore) : AxisCore := { c with motion := c.motion.map (fun m => { m with halted := true }) }

/-- Enter a state with a stop kind: the state, its time, and what a quay no longer has there. A quick stop that runs goes on in FAULTED and under
a STOP in HOLD (R609), and a release lasts through HOLD (R732, R737); the stop runs on the generator in position mode, from HOLD and HOMING, and on light steppers and pulse quays (R607, R1075). -/
def AxisCore.enter (c : AxisCore) (st : AxisState) (k : StopKind) (stepped : Bool) (now : Nat) : AxisCore :=
  let gen := stepped ||
    (match c.st with
     | .hold | .homing => true
     | .stopping | .faulted => c.byGen
     | _ => c.mode == .position)
  match st with
  | .off => { c.halt with st := st, stAt := now, mode := .none, stop := .none, homing := none, release := false, byGen := stepped, sigma := 0 }
  | .armed => { c.halt with st := st, stAt := now, mode := .none, stop := .none, homing := none, release := false, byGen := stepped, sigma := 0 }
  | .running => { c with st := st, stAt := now, stop := .none, homing := none, byGen := stepped, entries := c.entries + 1 }
  | .catching => { c with st := st, stAt := now, stop := .none, homing := none, byGen := stepped }
  | .homing => { c with st := st, stAt := now, stop := .none, byGen := true }
  | .hold => { c.halt with st := st, stAt := now, stop := k, homing := none, byGen := true }
  | .stopping => { c.halt with st := st, stAt := now, stop := if c.st = .hold ∧ c.stop = .quick then .quick else k, homing := none, byGen := gen, release := false }
  | .faulted => { c.halt with st := st, stAt := now, stop := if c.st = .stopping ∨ c.st = .hold then c.stop else .none,
                              homing := none, byGen := gen, release := false }
  | .safe => { c.halt with st := st, stAt := now, stop := .none, homing := none, byGen := gen, release := false }

/-- A running group motion that an axis leaves is ended; the first axis that leaves is the one that ended it (R659, R660). -/
def State.leaveGroup (s : State) (q : QuayNo) : State :=
  { s with groups := s.groups.map (fun g =>
      if s.quay[q].core.motionOp = some g.op && g.ended.isNone then { g with ended := some q } else g) }

/-- What a transition carries along besides the state: references (R245), the table (R246), and at OFF the release of reaction
states (R745), DISARM (R855) and the end of the open record (R902). -/
def State.afterEnter (s : State) (q : QuayNo) (st : AxisState) : State :=
  let s1 := if st = .off ∨ st = .faulted ∨ st = .safe then s.zeroRefs q else s
  let s2 := s1.rewriteTable q
  if st = .off then
    (((s2.releaseLegs q).sendMask (s2.phaseLegs q) .disarm).cutSteps q).modQuay q
      (fun x => { x with openRec := none, react := none, rampReact := false })
  else s2

/-- A transition the half in charge makes (R270); what was in progress and cannot go on ends. -/
def State.enter (s : State) (q : QuayNo) (st : AxisState) (k : StopKind := .none) : State :=
  let s0 := if st == .running || st == .catching then s else s.leaveGroup q
  let s1 := s0.abandon q (st == .faulted || st == .safe) (st != .running && st != .catching)
  let s2 := s1.modQuay q (fun x => { x with core := x.core.enter st k (s.isStepped q) s.now })
  State.syncLegs s ((s2.afterEnter q st).publish q)

/-- Changes of a quay still on the inter-half channel carry its present state machine: what was posted before a fault reaction does not
undo it (R271, R275, R962). -/
def State.refreshChanges (s : State) (q : QuayNo) : State :=
  let up (m : IhMsg) : IhMsg := match m with
    | .change p c t => if p = q then .change p s.quay[q].core t else .change p c t
    | other => other
  s.modIh (fun c => { c with from_ := ⟨c.from_.a.map up, c.from_.b.map up⟩ })

/-- A follower leaves its group until it next enters RUNNING (R570, R739). -/
def State.leaveShare (s : State) (q : QuayNo) : State :=
  if quayShareRole s q = 2 then s.modQuay q (fun x => { x with share := { x.share with left := true, following := false } }) else s

/-- A transition that a fault reaction makes: both halves have it at once (R962); a follower leaves its group (R570). -/
def State.enterFault (s : State) (q : QuayNo) (st : AxisState) : State :=
  let s1 := ((s.leaveShare q).leaveGroup q).abandon q true true
  let s2 := (s1.modQuay q (fun x => { x with core := x.core.enter st .none (s.isStepped q) s.now })).afterEnter q st
  (s2.modQuay q (fun x => { x with eff := x.core, coreCopy := x.core })).refreshChanges q

/-! ### What the legs do -/

/-- The rotor has been lost (R270 row 8): pulses are blocked from the iteration that finds it, though the change may still wait for the
shadow (R518, R519). -/
def Quay.lostRotor (x : Quay) : Bool := x.eff.st == .running && x.core.st == .catching

/-- The kernel shorts the windings in this iteration (R704); a catch that has been stopped shorts nothing (R270 row 7). -/
def Quay.shorted (x : Quay) : Bool :=
  let r := x.kern.reg
  match x.eff.st with
  | .catching => r.catchPhase == 2 && x.core.st != .off
  | .running | .stopping => (r.lossShort || r.crashPhase == 2) && !x.lostRotor
  | _ => false

/-- The legs of the quay switch under its kernel in this iteration (R270 row 7, R272, R526, R679). -/
def Quay.driving (x : Quay) : Bool :=
  match x.eff.st with
  | .running | .stopping | .hold | .homing => !x.shorted && !x.lostRotor
  | .catching => (x.kern.reg.catchPhase == 3 || x.kern.reg.catchPhase == 4) && x.core.st != .off
  | .faulted => x.rampReact
  | _ => false

/-- A leg whose pulses are blocked: every command it holds is OFF, and its gates follow now unless a higher rank holds it (R742, R748). -/
def State.blockLeg (s : State) (l : LegNo) : State :=
  let off : LegCmd := ⟨.off, none, none⟩
  let holds := s.localLeg l && (s.heldKind l).isNone
  s.modLeg l (fun x =>
    let y := { x with inForce := off, active := x.active.map (fun _ => off), standby := x.standby.map (fun _ => off) }
    let z := y.hold .off s.now s.now
    if holds then { z with high := recent z.high s.now, low := recent z.low s.now } else y)

/-- The quay enters RUNNING at this iteration: it was not in RUNNING at the one before, or left it in between (R462, R577). -/
def Quay.entersRun (x : Quay) : Bool :=
  x.eff.st == .running && (x.kern.reg.prevSt != .running || x.kern.reg.prevRun != x.eff.entries)

/-- Block the pulses of a quay at once (R270 row 7): the commands on their way to its legs are OFF as well. -/
def State.blockPulses (s : State) (q : QuayNo) : State :=
  ((forAll (s.phaseLegs q) s (fun t l => t.blockLeg l)).cutSteps q).modQuay q
    (fun x => { x with sent := x.sent.map (fun e => (e.1, ⟨.off, none, none⟩)) })

/-! ### The grant -/

/-- The commands answered ACCEPTED that a state machine has in progress. -/
def AxisCore.ops (c : AxisCore) : List AcceptedOp := [c.armOp, c.startOp, c.motionOp, c.endedOp, c.homeOp].filterMap id

/-- A state machine without the commands in progress that a list does not hold. -/
def AxisCore.keepOps (c : AxisCore) (ops : List AcceptedOp) : AxisCore :=
  let k (o : Option AcceptedOp) : Option AcceptedOp := o.filter (fun a => ops.contains a)
  { c with armOp := k c.armOp, startOp := k c.startOp, motionOp := k c.motionOp, endedOp := k c.endedOp, homeOp := k c.homeOp }

/-- A command in progress is a MOVE_GROUP, which several quays carry. -/
def State.isGroupOp (s : State) (o : AcceptedOp) : Bool := s.groups.any (fun g => g.op == o)

/-- Group motions that a change of grant loses: an axis still moves in it and the copy of the newly granted half does not hold it (R277). -/
def State.lostGroups (s : State) : List GroupMove :=
  s.groups.filter (fun g => g.axes.any (fun a => s.quay[a.1].core.ops.contains g.op && !s.quay[a.1].coreCopy.ops.contains g.op))

/-- A lost group motion is abandoned, with one event entry (R234); its other axes come to rest. -/
def State.dropGroup (s : State) (g : GroupMove) : State :=
  let s1 : State := { s with groups := s.groups.filter (fun x => x.op != g.op) }
  forAll (g.axes.map (·.1)) (s1.eventAll [g.op] stRefused 0 0) (fun t q => t.modQuay q (fun x =>
    if x.core.motionOp = some g.op then
      let c := { x.core.halt with motionOp := none }
      { x with core := c, eff := c, coreCopy := c }
    else x))

/-- The newly granted half goes on from its copy of a quay (R277, R976). A command in progress that its copy does not hold is abandoned,
one whose event entry has been written is no longer in progress: each has exactly one entry (R234), a MOVE_GROUP that of
`State.dropGroup`. DEDUCED, log entry 20. -/
def State.continueCopy (s : State) (q : QuayNo) : State :=
  let x := s.quay[q]
  let s1 := s.eventAll (x.core.ops.filter (fun o => !x.coreCopy.ops.contains o && !s.isGroupOp o)) stRefused 0 0
  s1.modQuay q (fun y =>
    let c := y.coreCopy.keepOps y.core.ops
    { y with core := c, eff := c, coreCopy := c, kern := y.kernCopy, oldCfg := none })

/-- The CMD frame for the legs of a quay on a lane (R831, R832), for an update point, with the commands as the cells execute them (R750). -/
def State.cmdFrame (s : State) (q : QuayNo) (n : LaneNo) (t : Nat) : State :=
  let es := (List.range 8).filterMap (fun slot =>
    match s.slotLeg n slot with
    | some l =>
      if s.legQuay l == some q && !s.isChopperLeg l then
        (match s.heldKind l with
         | some k => some (slot, (⟨k, none, none⟩ : LegCmd))
         | none => s.leg[l].active.map (fun c => (slot, substitute c (s.loopPeriod q) (legDeadTime s l))))
      else none
    | none => none)
  if es.isEmpty || s.lane[n].st != .attached then s
  else s.sendLane n (.cmd t (s.loopPeriod q) (s.laneEnLow n) es)

/-- Promotion at a change of grant (R49): the standby command of each leg becomes active; a leg without one keeps its previous
command. On a remote lane whose promoted instants differ, a new CMD frame follows where the update point lies 3 us ahead (R973). -/
def State.promote (s : State) : State :=
  let t := forAll allLegs s (fun t l => t.modLeg l (fun x =>
    match x.standby with
    | some c => { x with active := some c, fresh := x.sbFresh, standby := none, sbFresh := false }
    | none => { x with fresh := false }))
  forAll allQuays t (fun u q =>
    if s.nextUpdate q < s.now + us 3 then u
    else forAll (List.finRange 20) u (fun v n =>
      if (s.legsOnLane n).any (fun l => s.legQuay l == some q && s.leg[l].standby.isSome && s.leg[l].standby != s.leg[l].active)
      then v.cmdFrame q n (s.nextUpdate q) else v))

/-- A forwarded command or its reply: what stays on the channel when the grant moves (R259). -/
def IhMsg.isForward : IhMsg → Bool
  | .forward .. | .forwardReply .. => true
  | _ => false

/-- Move the grant to a half that runs Lenern (R49, R943, R958, R976, R984). -/
def State.grantTo (s : State) (h : Side) : State :=
  let moved := s.hm.everGranted
  let s1 := s.modHm (fun m => { m with
    grant := some h, everGranted := true, forcePend := false
    failovers := if moved then m.failovers + 1 else m.failovers
    lastMove := if moved then s.now else m.lastMove
    admission := Vector.replicate 12 false, synced := Vector.replicate 12 false })
  let s2 := if moved then
      s1.lostGroups.foldl State.dropGroup (forAll allQuays s1.promote State.continueCopy)
    else s1
  let s3 := forAll allQuays s2 (fun t q => t.rewriteTable q)
  let s4 := s3.modIh (fun c =>
    let keep (l : List IhMsg) := l.filter IhMsg.isForward
    { c with changes := [], from_ := ⟨keep c.from_.a, keep c.from_.b⟩
             unacked := ⟨(keep c.from_.a).map (fun _ => s.now), (keep c.from_.b).map (fun _ => s.now)⟩ })
  if moved then
    (s4.modPort .a (fun p => { p with irqRole := true })).modPort .b (fun p => { p with irqRole := true })
  else s4

/-- Neither half holds the grant any more (R943). -/
def State.grantNone (s : State) : State :=
  s.modHm (fun m => { m with grant := none, admission := Vector.replicate 12 false, synced := Vector.replicate 12 false })

/-- A half is admitted as shadow on every quay with a kernel (R952). -/
def State.admittedAll (s : State) : Bool := s.kernelQuays.all (fun q => s.hm.admission[q])

/-- The half that exactly one asserted force pin names (R952). -/
def State.forced (s : State) : Option Side :=
  match s.hm.force.a, s.hm.force.b with
  | true, false => some .a
  | false, true => some .b
  | _, _ => none

/-- Evaluate the force pins (R950, R952, R953, R955): move the grant to the forced half once it runs and is admitted on every quay
with a kernel; otherwise the force is pending. -/
def State.evalForce (s : State) : State :=
  if !s.prot.hmForce || s.hm.grant.isNone then s.modHm (fun m => { m with forcePend := s.prot.hmForce && s.hm.everGranted && s.forced.isSome })
  else
    match s.forced with
    | none => s.modHm (fun m => { m with forcePend := false })
    | some h =>
      if s.inCharge h then s.modHm (fun m => { m with forcePend := false })
      else if (s.half.get h).run && s.admittedAll then s.grantTo h
      else s.modHm (fun m => { m with forcePend := true })

/-- What a reset of the half serving a port does to that port (R233, R260, R318, R1071). -/
def Port.lose (p : Port) : Port :=
  { p with
    mbx := Vector.ofFn (fun i : Fin 32 => if i.val < 4 then p.mbx[i] else {})
    busy := p.busy &&& 0x0000000F#32, irqLost := true, staging := [], held := [] }

/-- A half enters reset (R53, R187, R233, R260, R318, R943, R955, R958); `held` keeps it there until device reset (R966). -/
def State.resetHalf (s : State) (h : Side) (held : Bool) : State :=
  let s1 := s.modHalf h (fun x =>
    { x with run := false, selfOk := false, held := x.held || held, req := false, patchOk := false, coreSync := false
             resets := x.resets + 1, resetAt := s.now, mismatchAt := [], mismatchKeys := [], roleRecAt := none, check := {} })
  let s2 := (s1.modPort h Port.lose).modIh (fun c =>
    { c with from_ := ⟨[], []⟩, unacked := ⟨[], []⟩, changes := [], waiting := c.waiting.filter (fun e => e.1.port != h), linkDown := false })
  let s3 := if s.inCharge h then
      (if (s.half.get h.other).run then s2.grantTo h.other else s2.grantNone)
    else s2.modHm (fun m => { m with admission := Vector.replicate 12 false, synced := Vector.replicate 12 false })
  let s4 := forAll allLegs s3 (fun t l => t.modLeg l (fun x => { x with standby := none, sbFresh := false }))
  if s.hm.grant.isSome then s4.evalForce else s4

/-- `half.state` (R987). -/
def State.halfState (s : State) (h : Side) : HalfState :=
  let x := s.half.get h
  if x.run then (if s.inCharge h then .inCharge else if x.coreSync then .shadow else .rejoining)
  else if x.selfOk then .rejoining
  else .reset

end Sys2Proof.Machine
end

