-- ==== Sys2Proof/Machine/Collector.lean ====
section
/-! DEFINITION. The fault collector (chapter 13): counting, escalation, merging, records, first-fault registers, reactions and
consequence windows; the events FAULT_ARRIVAL, FAULT_ORDERED, CONSEQ_WINDOW_END, ERR_PULSE_END and FABRIC_STALL. -/

namespace Sys2Proof.Machine

/-! ### Records -/

/-- Two device times lie within one coincidence window (R895, R896). -/
def coincide (a b : Nat) : Bool := decide (a ≤ b + 128) && decide (b ≤ a + 128)

/-- Change one record of the log in place (R924). -/
def Collector.modRecord (f : Collector) (no : Nat) (g : Record → Record) : Collector :=
  { f with log := f.log.map (fun r => if r.no = no then g r else r) }

/-- A record of the log by its number. -/
def Collector.record (f : Collector) (no : Nat) : Option Record := f.log.find? (fun r => r.no = no)

/-- Unacknowledged: at warning level or above and not acknowledged (R900). -/
def Record.unacked (r : Record) : Bool := decide (1 ≤ r.severity) && !r.acked

/-- Arm the trigger of trace regions that wait for a fault record at or above a level (R321). -/
def State.traceFault (s : State) (level : Nat) : State :=
  forAll (List.finRange 16) s (fun t r =>
    match t.trace[r].desc with
    | some d => if t.trace[r].armed && !t.trace[r].triggered && d.trigKind == 1 && decide (d.trigLevel ≤ level)
        then t.modTrace r (fun x => { x with triggered := true }) else t
    | none => t)

/-- Extend the ERR_N pulse for a record at or above `flt.err_level` (R930, R931). -/
def State.pulse (s : State) (level : Nat) : State :=
  if s.afterStep10 && decide (fltErrLevel s ≤ level)
  then s.modFlt (fun f => { f with pulseUntil := some (s.now + us (fltErrPulse s)) }) else s

/-- The FAULT interrupt of both ports (R209). -/
def State.faultIrq (s : State) (level : Nat) : State :=
  let g (p : Side) (t : State) : State :=
    if hostIrqFaultLevel s p ≤ level then t.modPort p (fun x => { x with irqFault := true }) else t
  g .b (g .a s)

/-- Enter a record in the first-fault registers (R926). -/
def State.enterFirst (s : State) (r : Record) : State :=
  if r.severity = 0 || r.merged || r.consequential then s
  else
    let s1 := if s.flt.devFirst.isNone then s.modFlt (fun f => { f with devFirst := some r.no }) else s
    forAll r.quays s1 (fun t q => if t.quay[q].first.isNone then t.modQuay q (fun x => { x with first := some r.no }) else t)

/-- Write a record: number, log, COINCIDENT of it and of its neighbours (R896), first-fault registers, interrupt, trace. -/
def State.writeRecord (s : State) (r : Record) : State :=
  let near := s.flt.log.any (fun x => coincide x.time r.time)
  let r' := { r with coincident := near }
  let s1 := s.modFlt (fun f => { f with
    log := r' :: f.log.map (fun x => if coincide x.time r.time then { x with coincident := true } else x)
    total := f.total + 1 })
  ((s1.enterFirst r').faultIrq r.severity).traceFault r.severity

/-- A record of a fault at a level, with its flags cleared. -/
def newRecord (s : State) (f : FaultEvent) (level : Nat) (quays : List QuayNo) : Record :=
  { no := s.flt.total, time := f.time, src := f.src, severity := level, coincident := false, consequential := false
    merged := false, escalated := false, severe := false, acked := false, ackedAt := 0, latch := false, hard := false, scope := f.scope
    reaction := 0, count := 0, ctx := f.ctx, quays := quays, ackedBy := [] }

/-! ### Counting (R898, R899) -/

/-- The counting window of a source and scope that is open at a time. -/
def State.openWindow (s : State) (f : FaultEvent) : Option CountWindow :=
  s.flt.windows.find? (fun w => w.src == f.src && w.scope == f.scope && w.isOpen &&
    decide (s.now < w.since + us (s.entry f.src).t))

/-- Event number of a fault in its counting window. -/
def State.eventNo (s : State) (f : FaultEvent) : Nat :=
  match s.openWindow f with
  | some w => w.count + 1
  | none => 1

/-- The cell that gives a quay its commutation angle (`quay.comm_cell`). -/
def State.commCell (s : State) (q : QuayNo) : Option CellNo := (s.cellsOf q)[quayCommCell s q]?

/-- Sources that a set fallback-ready line turns into notes (R728). -/
def fallbackSources : List Nat := [srcFbWire, srcSincosLost, srcSincosAmpl, srcSsiFrame, srcHallIllegal, srcCountDrift]

/-- The fault comes from the commutation cell of a quay whose fallback-ready line is set (R727, R728). -/
def State.fallbackNote (s : State) (f : FaultEvent) : Bool :=
  fallbackSources.contains f.src && f.quays.any (fun q => s.quay[q].kern.reg.ready &&
    (match s.commCell q with
     | some k => f.ctx.inst == BitVec.ofNat 8 k.val
     | none => false))

/-- The entry that counts a fault: its sealed entry, or warning level with note only at any count (R728). -/
def State.faultEntry (s : State) (f : FaultEvent) : SourceEntry :=
  let e := s.entry f.src
  if s.fallbackNote f then { e with base := 1, severe := 1, rBase := 1, rSevere := 1, latchBase := false, latchSevere := false } else e

/-- The fault is counted at the severe level: its count reaches N (R899), or R816 says so. -/
def State.countsSevere (s : State) (f : FaultEvent) : Bool :=
  f.forceSevere || decide ((s.entry f.src).n ≤ s.eventNo f)

/-- The counted level of a fault. -/
def State.countedLevel (s : State) (f : FaultEvent) : Nat :=
  if s.countsSevere f then (s.faultEntry f).severe else (s.faultEntry f).base

/-- Count a fault: its window and the event count of its source (R898, R899, R939). -/
def State.countFault (s : State) (f : FaultEvent) : State :=
  let n := s.eventNo f
  let since := match s.openWindow f with
    | some w => w.since
    | none => s.now
  let w : CountWindow := { src := f.src, scope := f.scope, since := since, count := n, isOpen := decide (n < (s.entry f.src).n) }
  s.modFlt (fun c => { c with
    windows := w :: c.windows.filter (fun x => !(x.src == f.src && x.scope == f.scope))
    events := assocSet c.events f.src ((assoc c.events f.src).getD 0 + 1) })

/-! ### Reactions (R911 to R916) -/

/-- Rank of a reaction code that acts on legs (R912). -/
def reactRank : Nat → Nat
  | 2 => 1
  | 3 => 2
  | 5 | 6 => 3
  | 4 => 4
  | _ => 0

/-- The reaction after the ASC policy of the quay (R781, R916). -/
def State.ascAllowed (s : State) (q : QuayNo) (code : Nat) : Nat :=
  let p := quayAscPolicy s q
  if code = 5 then (if p % 2 = 1 then 5 else 4) else if code = 6 then (if p / 2 % 2 = 1 then 6 else 4) else code

/-- The reaction in force after a new one on a quay (R912, R913, R779, R780). -/
def combine (old : Option Nat) (new : Nat) : Nat :=
  match old with
  | none => new
  | some o => if (o = 5 ∧ new = 6) ∨ (o = 6 ∧ new = 5) then 4 else if reactRank o < reactRank new then new else o

/-- Suspects of the records of a quay ordered within one coincidence window of a fault ordered now, itself included (R778, R897). -/
def State.suspectsFor (s : State) (f : FaultEvent) (q : QuayNo) : List Nat :=
  f.suspect :: (s.flt.suspects.filter (fun e => e.1 == q && coincide e.2.1 s.now)).map (·.2.2)

/-- The suspicion of a fault, noted for its quays at its ordering (R778, R897). -/
def State.noteSuspect (s : State) (f : FaultEvent) : State :=
  s.modFlt (fun c => { c with suspects :=
    (if f.suspect = 0 then [] else f.quays.map (fun q => (q, s.now, f.suspect))) ++ c.suspects.filter (fun e => coincide e.2.1 s.now) })

/-- ASC by suspicion resolved to code 4, 5 or 6 (R778). -/
def resolveSuspicion (xs : List Nat) : Nat :=
  if xs.all (· == 1) then 6 else if xs.all (· == 2) then 5 else 4

/-- The configured safe state of a quay. -/
def State.safeCode (s : State) (q : QuayNo) : Nat := s.ascAllowed q (fltSafeState s q.val)

/-- Put a reaction of code 2 to 6 in force on a quay (R272, R743, R912, R913). A ramp or a quick stop has legs that KEEP switching: on a quay
whose legs did not switch (`ran`) it blocks them at once. -/
def State.putReaction (s : State) (q : QuayNo) (code : Nat) (latch : Bool) (rec : Nat) (ran : Bool) : State :=
  let c := combine s.quay[q].react code
  if s.quay[q].react = some c then s
  else
    let s1 := s.modQuay q (fun x => { x with react := some c, rampReact := (c == 2 || c == 3) && ran })
    if 4 ≤ c then (s1.reactLegs q c latch (some rec)).cutSteps q else if ran then s1 else s1.blockPulses q

/-- The code a reaction of a record has on a quay: at its recorded level, after R778 and R914 to R916. -/
def State.codeOn (s : State) (f : FaultEvent) (level rx : Nat) (q : QuayNo) : Nat :=
  if rx = 9 then s.safeCode q
  else if 3 ≤ level ∧ ¬ (4 ≤ rx ∧ rx ≤ 7) then s.safeCode q
  else if level = 2 ∧ (rx = 1 ∨ rx = 8) then 4
  else if rx = 7 then s.ascAllowed q (resolveSuspicion (s.suspectsFor f q))
  else s.ascAllowed q rx

/-- Move a quay to FAULTED or SAFE for a record at a level (R889 to R891, R271), and make it the open record. -/
def State.moveQuay (s : State) (q : QuayNo) (level rec : Nat) : State :=
  let st := s.quay[q].core.st
  if level < 2 then s
  else if level = 2 then
    (if st = .faulted ∨ st = .safe then s
     else (s.enterFault q .faulted).modQuay q (fun x => { x with openRec := some rec }))
  else if st = .safe then s
  else (s.enterFault q .safe).modQuay q (fun x => { x with openRec := some rec })

/-- The half a scope byte names. -/
def scopeHalf (b : Byte) : Option Side := if b = 0xE0 then some .a else if b = 0xE1 then some .b else none

/-- Open a consequence window (R907). -/
def State.openConseq (s : State) (code : Nat) (quays : List QuayNo) (all : Bool) (rec : Nat) : State :=
  s.modFlt (fun c => { c with conseq :=
    { code := code, since := s.now, quays := quays, all := all, until_ := s.now + us (fltConseqWindow s (code - 2)), record := rec } :: c.conseq })

/-- The code a reaction puts in force on a quay, 0 where it replaces nothing (R778, R912 to R916). -/
def State.appliedCode (s : State) (f : FaultEvent) (level rx : Nat) (q : QuayNo) : Nat :=
  let c := s.codeOn f level rx q
  let n := combine s.quay[q].react c
  if 2 ≤ c ∧ c ≤ 6 ∧ s.quay[q].react ≠ some n then n else 0

/-- A record at device level, or with code 9, puts the device safe state in force (R892, R911). -/
def putsSafe (level rx : Nat) : Bool := level == 4 || rx == 9

/-- The quays a reaction acts on: those a record reacts on, and for the device safe state every quay with a kernel (R892, R907, R911). -/
def State.reactQuays (s : State) (level rx : Nat) (quays : List QuayNo) : List QuayNo := if putsSafe level rx then s.kernelQuays else quays

/-- The code of a record on a quay; on a quay that only the device safe state reaches, its configured safe state (R911). -/
def State.codeAt (s : State) (f : FaultEvent) (level rx : Nat) (quays : List QuayNo) (q : QuayNo) : Nat :=
  if putsSafe level rx && !quays.contains q then s.safeCode q else s.codeOn f level rx q

/-- What a reaction does to one quay: the state change of the record's level, SAFE for the device safe state (R270 row 17), and its code.
DESIGN CHOICE, log entry 44: a record at note or warning level with a ramp or quick stop as its reaction leaves the axis state as it is (R273)
and puts the ramp in force (R272). -/
def State.reactOn (s : State) (f : FaultEvent) (level rx : Nat) (latch : Bool) (quays : List QuayNo) (rec opens : Nat) (q : QuayNo) : State :=
  let c := s.codeAt f level rx quays q
  let t := s.moveQuay q (if putsSafe level rx then max level 3 else level) opens
  if 2 ≤ c ∧ c ≤ 6 then t.putReaction q c latch rec s.quay[q].driving else t

/-- Open the consequence windows of a reaction: one for each code over the quays it was applied on, and that of the device safe state over
every quay (R907). -/
def State.openWindows (s0 : State) (level rx : Nat) (applied : List (QuayNo × Nat)) (rec : Nat) : State :=
  let s := if putsSafe level rx then s0.openConseq 9 [] true rec else s0
  let hit (p : Nat → Bool) : List QuayNo := (applied.filter (fun e => e.2 != 0 && p e.2)).map (·.1)
  let one (t : State) (c : Nat) (qs : List QuayNo) : State := if qs.isEmpty then t else t.openConseq c qs false rec
  if rx = 9 then s
  else if rx = 7 then one s 7 (hit (fun _ => true))
  else one (one (one (one (one s 2 (hit (· == 2))) 3 (hit (· == 3))) 4 (hit (· == 4))) 5 (hit (· == 5))) 6 (hit (· == 6))

/-- The half that a reaction resets: code 8 below drive level, for the half its scope names (R911, R915). -/
def resetOf (f : FaultEvent) (level rx : Nat) : Option Side := if rx = 8 ∧ level < 3 then scopeHalf f.scope else none

/-- Apply the reaction of a record to quays, with the state change of its level, the device safe state and the consequence windows (R892, R907,
R911). `opens` is the record that a quay moved here has open. -/
def State.applyReaction (s : State) (f : FaultEvent) (level rx : Nat) (latch : Bool) (quays : List QuayNo) (rec opens : Nat) : State :=
  let s1 := forAll (s.reactQuays level rx quays) s (fun t q => t.reactOn f level rx latch quays rec opens q)
  let s2 := if putsSafe level rx then s1.modFlt (fun c => { c with devSafe := true }) else s1
  let s3 := match resetOf f level rx with
    | some h => (if (s.half.get h).run then s2.resetHalf h false else s2).openConseq 8 [] true rec
    | none => s2
  s3.openWindows level rx (quays.map (fun q => (q, s.appliedCode f level rx q))) rec

/-- The REACTION byte of a record: the code applied, 0 where none is (R922). DEDUCED, log entry 17: with several quays, that of the first on
which one is applied. -/
def State.reactionByte (s : State) (f : FaultEvent) (level rx : Nat) (quays : List QuayNo) : Nat :=
  match (if rx = 9 then s.kernelQuays else quays).find? (fun q => s.appliedCode f level rx q != 0) with
  | some q => s.appliedCode f level rx q
  | none => if rx = 1 ∨ rx = 8 ∨ rx = 9 then rx else 0

/-- A suspicion on the other side, or an unknown one, while an ASC is in force on a quay puts pulse block in force (R779, R780). -/
def State.opposeAsc (s : State) (f : FaultEvent) (latch : Bool) (rec : Nat) (q : QuayNo) : State :=
  let r := s.quay[q].react
  let same := (f.suspect == 1 && r == some 6) || (f.suspect == 2 && r == some 5)
  if (r == some 5 || r == some 6) && f.suspect != 0 && !same then s.putReaction q 4 latch rec false else s

/-! ### Merging (R903 to R906) -/

/-- A level is above the severity of the open record of a quay (R905). -/
def State.aboveOpen (s : State) (level : Nat) (q : QuayNo) : Bool :=
  match s.quay[q].openRec.bind s.flt.record with
  | some r => decide (r.severity < level)
  | none => false

/-- Merge a path-class fault, with the quays of its scope, into the open record of a quay. `above`: its level is above that of the open record
before this fault, which several quays may share. -/
def State.merge (s : State) (f : FaultEvent) (level rx : Nat) (latch severe above : Bool) (quays : List QuayNo) (q : QuayNo) : State :=
  match s.quay[q].openRec with
  | none => s
  | some o =>
    let same := match s.flt.record o with
      | some r => r.src == f.src
      | none => false
    let s1 := s.modFlt (fun c => c.modRecord o (fun r => { r with
      count := r.count + 1
      severity := max r.severity level
      ctx := if same then { r.ctx with sub := r.ctx.sub ||| f.ctx.sub } else r.ctx }))
    let no := s1.flt.total
    let reaction := if above then s1.reactionByte f level rx [q] else 0
    let s2 := s1.writeRecord { newRecord s1 f level quays with
      merged := true, severe := severe, count := o % 65536, reaction := reaction
      latch := latch && decide (4 ≤ reaction ∧ reaction ≤ 6) || !f.latched.isEmpty }
    let s3 := s2.joinLatch f.latched no
    (if above then s3.applyReaction f level rx latch [q] no o else s3).opposeAsc f latch no q

/-! ### The procedure of R910 -/

/-- The open consequence window that covers a fault which arrived at a time and whose set holds its source (R907 to R909). -/
def State.covering (s : State) (x : Staged) : Option ConseqWindow :=
  let e := s.entry x.ev.src
  if e.base = 4 then none
  else s.flt.conseq.find? (fun w =>
    decide (w.since ≤ x.arrived) && decide (x.arrived ≤ w.until_) && e.conseq.getLsbD (w.code - 2) &&
      (w.all || (!x.ev.quays.isEmpty && x.ev.quays.all (fun q => w.quays.contains q))))

/-- Unacknowledged record of the same source and scope instance (R901). -/
def State.unackedSame (s : State) (f : FaultEvent) : Bool :=
  s.flt.log.any (fun r => r.src == f.src && r.scope == f.scope && r.unacked)

/-- The quays in the scope of a record at a level (R888). -/
def State.scopeQuays (s : State) (f : FaultEvent) (level : Nat) : List QuayNo :=
  if f.scope = 0xE0 ∨ f.scope = 0xE1 ∨ (f.scope = 0xFF ∧ f.quays = []) then (if level = 4 then s.kernelQuays else []) else f.quays

/-- Process one fault as it leaves the ordering stage (R910). -/
def State.processFault (s : State) (x : Staged) : State :=
  let f := x.ev
  match s.covering x with
  | some w =>
    (s.endLatchWait f.latched).writeRecord { newRecord s f (s.entry f.src).base (s.scopeQuays f (s.entry f.src).base) with
      consequential := true, count := w.record % 65536 }
  | none =>
    let e := s.faultEntry f
    let severe := s.countsSevere f
    let counted := s.countedLevel f
    let rx := if severe then e.rSevere else e.rBase
    let latch := if severe then e.latchSevere else e.latchBase
    let n := s.eventNo f
    let esc := !isPath f.src && s.unackedSame f && decide (counted < 4)
    let level := if esc then counted + 1 else counted
    let s1 := s.countFault f
    if rx = 0 then s1.endLatchWait f.latched
    else
      let qs := s1.scopeQuays f level
      let m := if isPath f.src then qs.filter (fun q => s1.quay[q].openRec.isSome) else []
      let r := qs.filter (fun q => !m.contains q)
      let s2 := m.foldl (fun t q => t.merge f level rx latch severe (s1.aboveOpen level q) qs q) s1
      let s3 :=
        if m.isEmpty || !r.isEmpty then
          let no := s2.flt.total
          let reaction := s2.reactionByte f level rx r
          let s4 := s2.writeRecord { newRecord s2 f level qs with
            escalated := esc, severe := severe, reaction := reaction
            latch := latch && decide (4 ≤ reaction ∧ reaction ≤ 6) || !f.latched.isEmpty
            count := if isPath f.src then 0 else n }
          r.foldl (fun t q => t.opposeAsc f latch no q) ((s4.joinLatch f.latched no).applyReaction f level rx latch r no no)
        else s2
      s3.pulse level

/-- Insert a staged fault before the first one of lower counted severity; equal severities keep arrival order (R895). -/
def insertSeverity (lv : Staged → Nat) (x : Staged) : List Staged → List Staged
  | [] => [x]
  | y :: ys => if lv y < lv x then x :: y :: ys else y :: insertSeverity lv x ys

/-- The group sorted, the more severe first (R895). -/
def sortSeverity (lv : Staged → Nat) (xs : List Staged) : List Staged :=
  xs.foldl (fun acc x => insertSeverity lv x acc) []

/-! ### Events of the collector -/

/-- FAULT_ARRIVAL (R894): the i-th raised fault gets its arrival order and enters the ordering stage. -/
def execFaultArrival (i : Nat) (s : State) : Host.Outcome State Fault Refusal :=
  match s.flt.transit[i]? with
  | some e => .next (s.modFlt (fun f => { f with transit := f.transit.eraseIdx i, stage := f.stage ++ [⟨e, s.now⟩] }))
  | none => .next s

/-- FAULT_ORDERED (R895 to R917): the oldest fault leaves the stage 128 ticks after its arrival with all that coincide. -/
def execFaultOrdered (s : State) : Host.Outcome State Fault Refusal :=
  match s.flt.stage with
  | [] => .next s
  | x :: rest =>
    if s.now < x.arrived + 128 then .next s
    else
      let group := x :: rest.filter (fun y => coincide x.ev.time y.ev.time)
      let s0 := group.foldl (fun t y => t.noteSuspect y.ev)
        (s.modFlt (fun f => { f with stage := rest.filter (fun y => !coincide x.ev.time y.ev.time) }))
      .next (State.syncLegs s ((sortSeverity (fun y => s.countedLevel y.ev) group).foldl (fun t y => t.processFault y) s0))

/-- CONSEQ_WINDOW_END (R907): the i-th open window closes once its time has passed; what arrived inside it and is still in the ordering stage
is judged by it (R908). -/
def execConseqWindowEnd (i : Nat) (s : State) : Host.Outcome State Fault Refusal :=
  match s.flt.conseq[i]? with
  | some w =>
    if s.now < w.until_ ∨ s.flt.stage.any (fun x => decide (x.arrived ≤ w.until_)) then .next s
    else .next (s.modFlt (fun f => { f with conseq := f.conseq.eraseIdx i }))
  | none => .next s

/-- ERR_PULSE_END (R930, R932). -/
def execErrPulseEnd (s : State) : Host.Outcome State Fault Refusal :=
  match s.flt.pulseUntil with
  | some t => if s.now < t then .next s else .next (s.modFlt (fun f => { f with pulseUntil := none }))
  | none => .next s

/-- FABRIC_STALL (R54, R55, R917): the hard path puts the device safe state in force at once, writes the HARD record, and stops
BRK2, BRK3 and chopper legs (R795). The record does not pass the ordering stage. -/
def execFabricStall (s : State) : Host.Outcome State Fault Refusal :=
  let f := faultOf s srcFabricStall 0xFF [] {}
  let no := s.flt.total
  let esc := s.unackedSame f && decide (s.countedLevel f < 4)
  let level := if esc then s.countedLevel f + 1 else s.countedLevel f
  let s1 := (s.countFault f).writeRecord { newRecord s f level (s.scopeQuays f level) with
    hard := true, escalated := esc, severe := s.countsSevere f, reaction := s.reactionByte f level 9 [], count := s.eventNo f }
  let s2 := s1.applyReaction f level 9 false [] no no
  let s3 := ((s2.modFlt (fun c => { c with hardSafe := true })).modBrk 2 (fun b => { b with on := false })).modBrk 3 (fun b => { b with on := false })
  .next (State.syncLegs s (s3.pulse 4))

end Sys2Proof.Machine
end

