-- ==== Sys2Proof/Machine/Halves.lean ====
section
/-! DEFINITION. Halves, mastership and the inter-half channel (chapter 14), but for the forwarding of host commands. -/

namespace Sys2Proof.Machine

/-- Sub-cause bit of a check trip (R965). -/
def tripBit : TripCause → Nat
  | .engineMiss => 0
  | .engineSig => 1
  | .pilotWd => 2
  | .pilotSig => 3
  | .role => 4
  | .link => 5

/-- Context of a CHECK_TRIP or CHECK_SELFTEST record (R986). -/
def tripCtx (h : Side) (b17 sub : Byte) : Ctx := { inst := BitVec.ofNat 8 h.toNat, b17 := b17, sub := sub }

/-- The stated condition of a trip that the state shows: R970 for ROLE, R965 for LINK; the others are findings of the Check core. -/
def State.tripHolds (s : State) (h : Side) : TripCause → Bool
  | .role =>
    match (s.half.get h).roleRecAt with
    | some t => (s.half.get h).mismatchAt.any (fun m => decide (t + us 1000 ≤ m))
    | none => false
  | .link => s.ih.linkDown && !s.inCharge h && decide (s.ih.linkSince + 10 * us (halfLinkTimeout s h) ≤ s.now)
  | _ => true

/-- CHECK_TRIP (R32, R965, R970): the Check core resets its own half and raises the source with the sub-cause. -/
def execCheckTrip (h : Side) (cause : TripCause) (engine : Byte) (s : State) : Host.Outcome State Fault Refusal :=
  if (s.half.get h).run && s.tripHolds h cause then
    let b17 := if cause = .engineMiss ∨ cause = .engineSig then engine else 0xFF
    .next ((s.raiseHalf srcCheckTrip h (tripCtx h b17 (1#8 <<< tripBit cause))).resetHalf h false)
  else .next s

/-- HEARTBEAT_TIMEOUT (R967): the grant monitor places the half in reset, sub-cause bit 6. -/
def execHeartbeatTimeout (h : Side) (s : State) : Host.Outcome State Fault Refusal :=
  if (s.half.get h).run then .next ((s.raiseHalf srcCheckTrip h (tripCtx h 0xFF 0x40)).resetHalf h false) else .next s

/-- Post a message on the inter-half channel, to be acknowledged (R982, R983). -/
def State.post (s : State) (h : Side) (m : IhMsg) : State :=
  s.modIh (fun c => { c with from_ := c.from_.set h (c.from_.get h ++ [m]), unacked := c.unacked.set h (c.unacked.get h ++ [s.now]) })

/-- CHECK_SELFTEST (R966): a passed test lets a half in reset go on to rejoin, and the half in charge sends it the patch (R978);
a failed one raises the source and holds the half in reset until device reset. -/
def execCheckSelftest (h : Side) (pass : Bool) (s : State) : Host.Outcome State Fault Refusal :=
  if s.boot.stage = .inReset ∨ s.boot.stage = .halted ∨ (s.half.get h).held then .next s
  else if pass then
    if (s.half.get h).run ∨ (s.half.get h).selfOk ∨ !s.afterStep10 then .next s
    else
      let s1 := s.modHalf h (fun x => { x with selfOk := true })
      .next (if s.inCharge h.other then s1.post h.other .patch else s1)
  else
    .next ((s.raiseHalf srcCheckSelftest h (tripCtx h 0xFF 0)).resetHalf h true)

/-- The first message on its way from a half. -/
def State.headFrom (s : State) (h : Side) : Option IhMsg := (s.ih.from_.get h).head?

/-- Take the first message from a half off the channel. -/
def State.popFrom (s : State) (h : Side) : State :=
  s.modIh (fun c => { c with from_ := c.from_.set h ((c.from_.get h).drop 1) })

/-- The oldest message of a half has been acknowledged (R963, R983). -/
def State.ackFrom (s : State) (h : Side) : State :=
  s.modIh (fun c => { c with unacked := c.unacked.set h ((c.unacked.get h).drop 1), linkDown := false })

/-- IH_PATCH (R978, R979): the rejoining half has the patch and has checked it. -/
def execIhPatch (ok : Bool) (s : State) : Host.Outcome State Fault Refusal :=
  match s.hm.grant with
  | none => .next s
  | some g =>
    match s.headFrom g with
    | some .patch =>
      let s1 := (s.popFrom g).ackFrom g
      if ok then .next (s1.modHalf g.other (fun x => { x with patchOk := true }))
      else .next ((s1.raiseHalf srcCheckSelftest g.other (tripCtx g.other 0xFF 0)).resetHalf g.other true)
    | _ => .next s

/-- HALF_REJOIN (R36, R261, R944, R978, R980): Lenern starts in a half whose self-test passed and whose patch is checked, or, while
neither half holds the grant, loaded from the boot flash. -/
def execHalfRejoin (h : Side) (s : State) : Host.Outcome State Fault Refusal :=
  let x := s.half.get h
  let fromFlash := s.hm.grant.isNone && decide (s.boot.src.toNat < 2)
  if x.selfOk && !x.run && !x.held && s.afterStep10 && (x.patchOk || fromFlash) then
    let s1 := ((s.refreshHalf h).modHalf h (fun y => { y with run := true, req := true, rejoinUs := BitVec.ofNat 32 ((s.now - y.resetAt) / 6400) })).modPort h
      (fun p => { p with irqBack := true })
    let s2 := if s1.hm.grant.isNone && s1.hm.everGranted then s1.grantTo h else s1
    match s2.hm.grant with
    | some g =>
      if g = h then .next (s2.modHalf h (fun y => { y with coreSync := true })).evalForce
      else
        let s3 := forAll allQuays (s2.modHalf h (fun y => { y with coreSync := true })) (fun t q =>
          t.modQuay q (fun y => { y with coreCopy := y.core }))
        .next (forAll s3.kernelQuays s3 (fun t q => t.post g (.kstate q)))
    | none => .next s2
  else .next s

/-- IH_CHANGE (R961, R981): the shadow takes a change into its copy of the state machine and acknowledges it. -/
def execIhChange (s : State) : Host.Outcome State Fault Refusal :=
  match s.hm.grant with
  | none => .next s
  | some g =>
    match s.headFrom g with
    | some (.change q core _) =>
      .next (((s.popFrom g).modQuay q (fun x => { x with coreCopy := core })).modIh
        (fun c => { c with from_ := c.from_.set g.other (c.from_.get g.other ++ [.changeAck q]) }))
    | _ => .next s

/-- Take the first pending change of a quay off a list. -/
def dropChange (q : QuayNo) : List (QuayNo × Nat) → List (QuayNo × Nat)
  | [] => []
  | (q', t) :: rest => if q' = q then rest else (q', t) :: dropChange q rest

/-- IH_CHANGE_ACK (R961, R983): the acknowledgement reaches the half in charge; the change applies from the quay's next sample
event. -/
def execIhChangeAck (s : State) : Host.Outcome State Fault Refusal :=
  match s.hm.grant with
  | none => .next s
  | some g =>
    match s.headFrom g.other with
    | some (.changeAck q) =>
      .next (((s.popFrom g.other).ackFrom g).modIh (fun c => { c with changes := dropChange q c.changes }))
    | _ => .next s

/-- IH_KSTATE (R957, R964, R978): the kernel state of one quay reaches the shadow, which is then synchronised on it. -/
def execIhKstate (s : State) : Host.Outcome State Fault Refusal :=
  match s.hm.grant with
  | none => .next s
  | some g =>
    match s.headFrom g with
    | some (.kstate q) =>
      let s1 := ((s.popFrom g).ackFrom g).modQuay q (fun x => { x with kernCopy := x.kern, coreCopy := x.core })
      .next (s1.modHm (fun m => { m with synced := m.synced.set q true }))
    | _ => .next s

/-- IH_ALIVE_SEND (R982): a running half with no other message due sends ALIVE. -/
def execIhAliveSend (h : Side) (s : State) : Host.Outcome State Fault Refusal :=
  if (s.half.get h).run && (s.half.get h.other).run && (s.ih.from_.get h).isEmpty then .next (s.post h .alive) else .next s

/-- IH_ACK (R981, R983): a message that carries no further effect, ALIVE, is acknowledged. -/
def execIhAck (s : State) : Host.Outcome State Fault Refusal :=
  let f (h : Side) (t : State) : State :=
    match t.headFrom h with
    | some .alive => (t.popFrom h).ackFrom h
    | _ => t
  .next (f .b (f .a s))

/-- A message of a half has gone without acknowledgement for `half.link_timeout` (R963, R983). -/
def State.linkExpired (s : State) (h : Side) : Bool :=
  (s.ih.unacked.get h).any (fun t => decide (t + us (halfLinkTimeout s h) ≤ s.now))

/-- A quay loses admission; the half in charge transfers its kernel state anew (R958, R964). -/
def State.loseAdmission (s : State) (g : Side) (q : QuayNo) : State :=
  ((s.modHm (fun m => { m with admission := m.admission.set q false, synced := m.synced.set q false })).modQuay q
    (fun x => { x with eff := x.core, oldCfg := none })).post g (.kstate q)

/-- HALF_LINK (R963, R964, R983): the source is raised; changes that waited too long apply without their acknowledgement, and their
quays lose admission. -/
def execHalfLink (s : State) : Host.Outcome State Fault Refusal :=
  if (s.half.a).run && (s.half.b).run && (s.linkExpired .a || s.linkExpired .b) then
    let s1 := (s.raiseDevice srcHalfLink).modIh (fun c => { c with
      linkDown := true, linkSince := if c.linkDown then c.linkSince else s.now
      unacked := ⟨c.unacked.a.filter (fun t => decide (s.now < t + us (halfLinkTimeout s .a)))
                , c.unacked.b.filter (fun t => decide (s.now < t + us (halfLinkTimeout s .b)))⟩ })
    match s.hm.grant with
    | none => .next s1
    | some g =>
      let late := s.ih.changes.filter (fun e => decide (e.2 + us (halfLinkTimeout s g) ≤ s.now))
      let s2 := s1.modIh (fun c => { c with changes := c.changes.filter (fun e => decide (s.now < e.2 + us (halfLinkTimeout s g))) })
      .next (late.foldl (fun t e => t.loseAdmission g e.1) s2)
  else .next s

/-- MFORCE_ASSERT (R950 to R953): without FORCE it only shows in HM_STATUS (DEDUCED, log entry 20); two asserted pins raise FORCE_CONFLICT and cancel a pending force. -/
def execMforceAssert (h : Side) (s : State) : Host.Outcome State Fault Refusal :=
  let s1 := s.modHm (fun m => { m with force := m.force.set h true })
  if !s.prot.hmForce then .next s1
  else
    if s1.hm.force.a && s1.hm.force.b then .next ((s1.raiseDevice srcForceConflict).modHm (fun m => { m with forcePend := false }))
    else .next s1.evalForce

/-- MFORCE_RELEASE (R951, R954): releasing a force moves no grant; a force of the other pin becomes the one in force. -/
def execMforceRelease (h : Side) (s : State) : Host.Outcome State Fault Refusal :=
  if !s.prot.hmForce then .next (s.modHm (fun m => { m with force := m.force.set h false }))
  else .next (s.modHm (fun m => { m with force := m.force.set h false })).evalForce

end Sys2Proof.Machine
end

