-- ==== Sys2Proof/Machine/LegEvents.lean ====
section
/-! DEFINITION. Events of the legs, the gate drive, the DC link and the pins (chapters 01, 11 and 16). -/

namespace Sys2Proof.Machine

/-! ### Commands at the leg cells (R45 to R53, R747, R957 to R971) -/

/-- Largest difference of two instants. -/
def instDiff : Option Nat → Option Nat → Option Nat
  | some a, some b => some (max (a - b) (b - a))
  | none, none => some 0
  | _, _ => none

/-- Two commands diverge beyond a tolerance (R51). DEDUCED, log entry 21: different kinds, or an instant only one has, diverge. -/
def diverges (tol : Nat) (x y : LegCmd) : Bool :=
  x.kind != y.kind ||
    (match instDiff x.on y.on, instDiff x.off y.off with
     | some a, some b => decide (tol < a) || decide (tol < b)
     | _, _ => true)

/-- Compare active and standby commands once both are present for an update point (R51 to R53). -/
def State.compareLeg (s : State) (q : QuayNo) (l : LegNo) : State :=
  match s.leg[l].active, s.leg[l].standby with
  | some a, some b =>
    if s.leg[l].fresh && s.leg[l].sbFresh && !s.leg[l].compared then
      if diverges (quayShadowTolerance s q) a b then
        let n := s.leg[l].diverge + 1
        let due := decide (quayShadowCount s q ≤ n) && !s.leg[l].divergeDone
        let s1 := s.modLeg l (fun x => { x with diverge := n, divergeDone := x.divergeDone || due, compared := true })
        if due then s1.raiseQuay srcShadowDiverge q (instCtx l.val) else s1
      else s.modLeg l (fun x => { x with diverge := 0, divergeDone := false, compared := true })
    else s
  | _, _ => s

/-- Count a mismatch of a half, once per quay and update point (R968), and raise ROLE_MISMATCH at the third within 100 us (R969). -/
def State.countMismatch (s : State) (h : Side) (q : QuayNo) : State :=
  let x := s.half.get h
  let key := (q, s.nextUpdate q)
  if x.mismatchKeys.contains key then s
  else
    let recent := s.now :: x.mismatchAt.filter (fun t => decide (s.now < t + us 100))
    let third := decide (3 ≤ recent.length)
    let s1 := s.modHalf h (fun y => { y with
      mismatch := y.mismatch + 1, mismatchKeys := key :: y.mismatchKeys.filter (fun k => k.1 != q)
      mismatchAt := s.now :: y.mismatchAt, roleRecAt := if third && y.roleRecAt.isNone then some s.now else y.roleRecAt })
    if third && x.roleRecAt.isNone then s1.raiseHalf srcRoleMismatch h (instCtx h.toNat) else s1

/-- The CMD frame of a quay leaves on a lane once every phase leg of the quay on that lane has its new command (R832). -/
def State.sendCmd (s : State) (q : QuayNo) (l : LegNo) : State :=
  match s.laneOf l with
  | none => s
  | some n =>
    if (s.phaseLegs q).all (fun m => s.laneOf m != some n || s.leg[m].fresh) then s.cmdFrame q n (s.nextUpdate q) else s

/-- The command that arrives: the one the kernel computed for the leg, or another. -/
def State.arriving (s : State) (q : QuayNo) (l : LegNo) : LegCmdSource → Option LegCmd
  | .given c => some c
  | .computed => (s.quay[q].sent.find? (fun e => e.1 == l)).map (·.2)

/-- LEG_COMMAND_ARRIVAL (R46 to R53, R747, R788, R832, R957, R959, R968 to R971). A command of the half that holds the grant becomes
active whatever its CLAIM; one of the admitted other half becomes standby; any other is discarded and counted, also where its half has
been reset meanwhile (R50). -/
def execLegCommandArrival (l : LegNo) (h : Side) (claim : Claim) (src : LegCmdSource) (s : State) :
    Host.Outcome State Fault Refusal :=
  match s.legQuay l with
  | none => .next s
  | some q =>
    match s.arriving q l src with
    | none => .next s
    | some c =>
      if s.isChopperLeg l then .next s
      else if !(s.half.get h).run then
        .next (if s.inCharge h then s else s.modLeg l (fun x => { x with discards := x.discards + 1 }))
      else if s.inCharge h then
        let s1 := s.modLeg l (fun x => { x with active := some c, fresh := true })
        let s2 := if claim = .shadow then s1.countMismatch h q else s1
        .next ((s2.compareLeg q l).sendCmd q l)
      else
        let early := s.hm.everGranted && decide (s.now < s.hm.lastMove + us 20)
        let admits := claim == .shadow && s.hm.synced[q] && (s.half.get h).coreSync && s.hm.grant.isSome
        if s.hm.admission[q] || admits then
          let s1 := (s.modLeg l (fun x => { x with standby := some c, sbFresh := true })).modHm
            (fun m => { m with admission := m.admission.set q true })
          let s2 := if claim = .active then s1.countMismatch h q else s1
          .next (s2.compareLeg q l).evalForce
        else
          let s1 := s.modLeg l (fun x => { x with discards := x.discards + 1 })
          .next (if claim = .active && !early then s1.countMismatch h q else s1)

/-! ### Update points (R77 to R79, R742, R748 to R750, R816, R1078) -/

/-- What ends with an update period of a leg: its standby command, the comparison for that update point (R51, R52: a point without one ends
a run of divergences) and an abandoned turn-on (R753). -/
def Leg.endPeriod (x : Leg) : Leg :=
  { x with standby := none, sbFresh := false, abandoned := false, present := false, compared := false
           diverge := if x.compared then x.diverge else 0, divergeDone := x.compared && x.divergeDone }

/-- A leg takes its new active command at the update point. -/
def State.takeActive (s : State) (q : QuayNo) (l : LegNo) (c : LegCmd) : State :=
  let c' := substitute c (s.loopPeriod q) (legDeadTime s l)
  s.modLeg l (fun x =>
    let y := { x.endPeriod with inForce := c', fresh := false, missed := 0, present := true, shorts := if c' != c then x.shorts + 1 else x.shorts }
    if s.localLeg l && (s.heldKind l).isNone then s.executeLeg q l y s.now else y)

/-- A leg repeats its previous instants for one period (R78, R1078). -/
def State.repeatCommand (s : State) (q : QuayNo) (l : LegNo) : State :=
  s.modLeg l (fun x => if s.localLeg l then s.executeLeg q l x.endPeriod s.now else x.endPeriod)

/-- The reaction of CMD_LATE at its severe level on a leg of a quay (R79, R816), where it acts on legs. -/
def State.lateReaction (s : State) (q : QuayNo) : Option LegKind :=
  let e := s.entry srcCmdLate
  let c := s.codeOn { faultOf s srcCmdLate (BitVec.ofNat 8 q.val) [q] {} with forceSevere := true } e.severe e.rSevere q
  if 4 ≤ c ∧ c ≤ 6 then some (reactKind c) else none

/-- A leg of a quay outside OFF, decided at rank 5 or 6, without a new command: it repeats its previous instants; at the second miss the
reaction of CMD_LATE acts on it at once (R78, R79, R1078). -/
def State.missCommand (s : State) (q : QuayNo) (l : LegNo) (second : Bool) : State :=
  let s1 := (s.repeatCommand q l).modLeg l (fun x => { x with missed := x.missed + 1 })
  match s.lateReaction q with
  | some k => if second then s1.modLeg l (fun x => { x with react := some k }) else s1
  | none => s1

/-- A leg that ranks 1 to 4 hold at an update point (R1078); a turn-on abandoned in the period before is made again (R753). -/
def State.heldUpdate (s : State) (l : LegNo) (k : LegKind) : State :=
  s.modLeg l (fun x =>
    let y := { x.endPeriod with missed := 0 }
    if s.localLeg l && x.abandoned then y.hold k s.now (s.now + legDeadTime s l) else y)

/-- One leg at an update point of its quay. -/
def State.legUpdate (s : State) (q : QuayNo) (l : LegNo) : State :=
  match (if s.leg[l].fresh then s.leg[l].active else none), s.heldKind l with
  | some c, _ => s.takeActive q l c
  | none, some k => s.heldUpdate l k
  | none, none =>
    if s.outsideOff q then s.missCommand q l (decide (1 ≤ s.leg[l].missed))
    else (s.repeatCommand q l).modLeg l (fun x => { x with missed := 0 })

/-- A leg of the quay misses its command at this update point, for the second time in a row or not. -/
def State.misses (s : State) (q : QuayNo) (second : Bool) : Bool :=
  (s.phaseLegs q).any (fun l => s.outsideOff q && (s.heldKind l).isNone && !s.leg[l].fresh && decide (1 ≤ s.leg[l].missed) == second)

/-- The next multiple of the coarse step of 2.5 ns (R664). -/
def coarse (t : Nat) : Nat := (t + 15) / 16 * 16

/-- The instant of the i-th of n steps from an update point on, not before a time (R663 to R665). DEDUCED, log entry 23: an edge takes the next
coarse step. -/
def stepEdge (u period n i notBefore : Nat) : Nat := coarse (max (u + (2 * i + 1) * period / (2 * n)) notBefore)

/-- The instants of the steps that fit within the period (R663, R665, R667). -/
def placeSteps (u period n gap : Nat) : Nat → Nat → Nat → List Nat
  | 0, _, _ => []
  | fuel + 1, i, notBefore =>
    if n ≤ i then []
    else
      let e := stepEdge u period n i notBefore
      if u + period ≤ e then [] else e :: placeSteps u period n gap fuel (i + 1) (e + gap)

/-- Steps of a pulse quay over the update period that starts now (R662 to R668). -/
def State.emitSteps (s : State) (q : QuayNo) : State :=
  if !s.isPulse q then s
  else
    let x := s.quay[q]
    let st := x.core.st
    let blocked := st == .off || st == .armed || (match x.react with | some c => decide (4 ≤ c) | none => false)
    if blocked then s.cutSteps q
    else
      let todo := x.kern.count - x.pulse.emitted
      if todo = 0 then s.modQuay q (fun y => { y with pulse := { y.pulse with lag := 0 } })
      else
        let n := todo.natAbs
        let w := 16 * quayStepWidth s q
        let dir := decide (0 < todo)
        let dirAt := if dir = x.pulse.dir then x.pulse.dirAt else coarse (max s.now (x.pulse.stepAt + w + 16 * quayDirHold s q))
        let first := max (dirAt + 16 * quayDirSetup s q) (x.pulse.stepAt + 2 * w)
        let p := s.loopPeriod q
        let r := placeSteps s.now p n (2 * w) (p / (2 * w) + 1) 0 first
        let done : Int := if dir then r.length else - (r.length : Int)
        let lag := todo - done
        let s1 := s.modQuay q (fun y => { y with pulse := { y.pulse with
          emitted := y.pulse.emitted + done, lag := lag, dir := dir, dirAt := dirAt
          stepAt := r.getLastD y.pulse.stepAt
          edges := (r.reverse.map (fun t => (t, dir)) ++ y.pulse.edges).take 4096 } })
        if lag != 0 && x.pulse.lag == 0 then s1.raiseQuay srcStepOverrun q else s1

/-- UPDATE_POINT (R77 to R79, R742, R748 to R750, R770, R816, R1078; R663 to R668 for a pulse quay). -/
def execUpdatePoint (q : QuayNo) (s : State) : Host.Outcome State Fault Refusal :=
  if s.afterStep10 && s.hasKernel q && fires (s.loopPeriod q) (s.loopPhase q) s.now then
    let first := s.misses q false
    let second := s.misses q true
    let s1 := forAll (s.phaseLegs q) s (fun t l => t.legUpdate q l)
    let s2 := if second then s1.raise { faultOf s srcCmdLate (BitVec.ofNat 8 q.val) [q] {} with forceSevere := true }
      else if first then s1.raiseQuay srcCmdLate q else s1
    let s3 := if first || second then s2.modQuay q (fun x => { x with cmdLate := satInc x.cmdLate }) else s2
    .next (State.syncLegs s (s3.emitSteps q))
  else .next s

/-! ### Gate watch, bootstrap, short circuit (R752 to R785) -/

/-- Context of a record of R785. -/
def legCtx (l : LegNo) (suspect : Nat) (bits : Byte) (current : Int) (edge : Nat) : Ctx :=
  { inst := BitVec.ofNat 8 l.val, b17 := BitVec.ofNat 8 suspect, sub := bits, value := BitVec.ofInt 32 current, tail := BitVec.ofNat 64 edge }

/-- Code of a suspect switch (R785). -/
def suspectOf : Switch → Nat
  | .high => 1
  | .low => 2

/-- Raise a source with a suspect for the quay owning a leg (R777, R785). -/
def State.raiseLeg (s : State) (src : Nat) (l : LegNo) (suspect : Nat) (ctx : Ctx) (latched : List LegNo) : State :=
  match s.legQuay l with
  | some q =>
    (s.modLeg l (fun x => { x with suspect := suspect })).raise
      { faultOf s src (BitVec.ofNat 8 q.val) [q] ctx with suspect := suspect, latched := latched }
  | none => s

/-- The current of a leg at its last sample event, 0 where not measured. -/
def State.legCurrent (s : State) (l : LegNo) : Int := reportInt ((s.leg[l].current).getD 0)

/-- GATE_WATCH (R753): the other gate has not shown off in time; the pending turn-on is abandoned. `sw` is that other switch. -/
def execGateWatch (l : LegNo) (sw : Switch) (s : State) : Host.Outcome State Fault Refusal :=
  if s.localLeg l then
    let drop (es : List (Nat × Bool)) : List (Nat × Bool) := es.filter (fun e => decide (e.1 ≤ s.now) || !e.2)
    let s1 := s.modLeg l (fun x => match sw with
      | .high => { x with abandoned := true, low := drop x.low }
      | .low => { x with abandoned := true, high := drop x.high })
    .next (s1.raiseLeg srcGateWatch l (suspectOf sw) (legCtx l (suspectOf sw) 0x20 (s.legCurrent l) 0) [])
  else .next s

/-- GATE_ON_UNCOMMANDED (R754): a gate shows on while its driver has held it off; that switch is the suspect. -/
def execGateOnUncommanded (l : LegNo) (sw : Switch) (s : State) : Host.Outcome State Fault Refusal :=
  if s.localLeg l then .next (s.raiseLeg srcGateWatch l (suspectOf sw) (legCtx l (suspectOf sw) 0x20 (s.legCurrent l) 0) []) else .next s

/-- GATE_ON_TIMEOUT (R755): a driven gate has not shown on; the suspect is unknown. -/
def execGateOnTimeout (l : LegNo) (_sw : Switch) (s : State) : Host.Outcome State Fault Refusal :=
  if s.localLeg l then .next (s.raiseLeg srcGateWatch l 3 (legCtx l 3 0x20 (s.legCurrent l) 0) []) else .next s


/-- The edges of a refresh pulse that starts at a time (R760, R762): high side off, dead time, low side on for 300 ns, dead time, high side
on. A high-side turn-off that falls within the pulse ends it with the low side on, and the last turn-on is not made; any other edge within
it is taken at its end. -/
def Leg.refresh (x : Leg) (t dead : Nat) : Leg :=
  let stop := t + 2 * dead + 1920
  let past (es : List (Nat × Bool)) := es.filter (fun e => decide (e.1 ≤ t))
  let during (es : List (Nat × Bool)) (v : Bool) := es.filter (fun e => decide (t < e.1) && decide (e.1 < stop) && e.2 == v)
  let after (es : List (Nat × Bool)) := es.filter (fun e => decide (stop ≤ e.1))
  let late (es : List (Nat × Bool)) := es.map (fun e => (stop, e.2))
  if (during x.high false).isEmpty then
    { x with high := past x.high ++ (t, false) :: (stop, true) :: after x.high
             low := past x.low ++ (t + dead, true) :: (t + dead + 1920, false) :: late (during x.low true) ++ after x.low }
  else
    { x with high := past x.high ++ (t, false) :: late (during x.high true) ++ after x.high
             low := past x.low ++ (t + dead, true) :: late (during x.low false) ++ after x.low }

/-- One refresh pulse of a leg (R760 to R763). -/
def State.refreshPulse (s : State) (l : LegNo) : State :=
  let s1 := s.modLeg l (fun x => { x.refresh s.now (legDeadTime s l) with refreshes := x.refreshes + 1, lastRefresh := some s.now })
  match s.legQuay l with
  | some q => s1.raiseQuay srcBootRefresh q (instCtx l.val)
  | none => s1

/-- BOOT_REFRESH (R760, R761): at most one pulse in any 5 us. -/
def execBootRefresh (l : LegNo) (s : State) : Host.Outcome State Fault Refusal :=
  let free := match s.leg[l].lastRefresh with
    | some t => decide (t + us 5 ≤ s.now)
    | none => true
  if s.gateHigh l && free then .next (s.refreshPulse l) else .next s

/-- REFRESH_REPEAT (R761): V_boot still low with the high side on, 5 us after the start of the previous pulse. -/
def execRefreshRepeat (l : LegNo) (s : State) : Host.Outcome State Fault Refusal :=
  match s.leg[l].lastRefresh with
  | some t => if s.gateHigh l && decide (t + us 5 ≤ s.now) then .next (s.refreshPulse l) else .next s
  | none => .next s

/-- BOOT_UV (R764): the die switches the high side off and the source is raised for the owning quay. -/
def execBootUv (l : LegNo) (s : State) : Host.Outcome State Fault Refusal :=
  if s.localLeg l && !s.leg[l].uvlo then
    let s1 := s.modLeg l (fun x => { x with uvlo := true })
    .next (match s.legQuay l with
      | some q => s1.raiseQuay srcBootUv q (instCtx l.val)
      | none => s1)
  else .next s

/-- BOOT_UV_CLEAR (R764): V_boot has risen above the level plus 1.0 V; a high side that is commanded on turns on. -/
def execBootUvClear (l : LegNo) (s : State) : Host.Outcome State Fault Refusal :=
  if s.localLeg l then .next (s.modLeg l (fun x => if x.uvlo && levelAt x.high s.now then
      { x with uvlo := false, high := (s.now, true) :: x.high.filter (fun e => decide (s.now < e.1)) } else { x with uvlo := false })) else .next s

/-- The turn-on edge of a switch lies within a time before now. -/
def edgeWithin (t : Option Nat) (w now : Nat) : Bool :=
  match t with
  | some a => decide (a ≤ now) && decide (now ≤ a + w)
  | none => false

/-- The suspect of a local short and the edge that decided it: cases 2 to 5 of R777. -/
def State.shortSuspect (s : State) (l : LegNo) : Nat × Nat :=
  let x := s.leg[l]
  let w := legBlankTime s l + legScFilter s l
  let h := edgeWithin (lastOn x.high s.now) w s.now
  let lo := edgeWithin (lastOn x.low s.now) w s.now
  if h && lo then (3, 0)
  else if h then (1, (lastOn x.high s.now).getD 0)
  else if lo then (2, (lastOn x.low s.now).getD 0)
  else
    let ho := s.gateHigh l
    let loo := s.gateLow l
    if ho && !loo then (1, 0) else if loo && !ho then (2, 0) else (3, 0)

/-- A quay has an active short of a reaction in force. -/
def State.inAsc (s : State) (q : QuayNo) : Bool := s.quay[q].react == some 5 || s.quay[q].react == some 6

/-- An over-current trip on a leg of a quay under a reaction ASC: pulse block on every leg, ASC_OVERCURRENT (R782), whose entry says whether
it latches (R800) and whose record the latches wait for (R806). -/
def State.ascTrip (s : State) (q : QuayNo) (l : LegNo) (suspect : Nat) (current : Int) : State :=
  if s.inAsc q then
    let s1 := (s.modQuay q (fun x => { x with react := some 4 })).reactLegs q 4 (s.entry srcAscOvercurrent).latchBase none
    let held := (s.phaseLegs q).filter (fun m => s1.leg[m].latch.isSome)
    (forAll held s1 (fun t m => t.modLeg m (fun x => { x with latchWait := true }))).raiseLeg srcAscOvercurrent l suspect
      (legCtx l suspect 0x10 current 0) held
  else s

/-- A local short circuit (R775, R777, R782, R800): gates to sink, latch OFF, source raised with its suspect. -/
def State.shortCircuit (s : State) (l : LegNo) (suspect edge : Nat) (bits : Byte) (current : Int) : State :=
  let asc := match s.legQuay l with
    | some q => s.inAsc q
    | none => false
  let s1 := (s.latchOff l).modLeg l (fun x => x.hold .off s.now s.now)
  let s2 := s1.raiseLeg srcShortCircuit l suspect (legCtx l suspect (if asc then bits ||| 0x10 else bits) current edge) [l]
  match s.legQuay l with
  | some q => s2.ascTrip q l suspect current
  | none => s2

/-- SHORT_CIRCUIT (R769 to R777): a detector's condition held through its filter. The absolute comparator acts at once; a slope event
during blanking is latched and does not act. -/
def execShortCircuit (l : LegNo) (d : Detector) (current : Int) (s : State) : Host.Outcome State Fault Refusal :=
  if !s.localLeg l then .next s
  else
    match d with
    | .slope =>
      if s.blankingOpen l then .next (s.modLeg l (fun x => { x with slopeLatched := true }))
      else
        let r := s.shortSuspect l
        .next (State.syncLegs s (s.shortCircuit l r.1 r.2 0x01 current))
    | .absolute =>
      let r := s.shortSuspect l
      .next (State.syncLegs s (s.shortCircuit l r.1 r.2 0x02 current))

/-- The switch whose turn-on opened the latest blanking window, as suspect and edge (case 1 of R777). -/
def State.blankSuspect (s : State) (l : LegNo) : Nat × Nat :=
  match lastOn s.leg[l].high s.now, lastOn s.leg[l].low s.now with
  | some a, some b => if b ≤ a then (1, a) else (2, b)
  | some a, none => (1, a)
  | none, some b => (2, b)
  | none, none => (3, 0)

/-- BLANKING_END (R773, R774): a latched slope event is a short circuit above `leg.pb_level`, else a blanked transient. -/
def execBlankingEnd (l : LegNo) (current : Int) (s : State) : Host.Outcome State Fault Refusal :=
  if s.localLeg l && s.leg[l].slopeLatched then
    let s1 := s.modLeg l (fun x => { x with slopeLatched := false })
    if (legPbLevel s l : Int) < |current| then
      let r := s.blankSuspect l
      .next (State.syncLegs s (s1.shortCircuit l r.1 r.2 0x05 current))
    else
      let s2 := s1.modLeg l (fun x => { x with blanks := x.blanks + 1 })
      .next (match s.legQuay l with
        | some q => s2.raiseQuay srcBlankedTransient q { inst := BitVec.ofNat 8 l.val, value := BitVec.ofInt 32 current }
        | none => s2)
  else .next s

/-! ### VM monitors and choppers (R789 to R798) -/

/-- VM_OV (R789): from READY on, for every quay that owns legs on the die. -/
def execVmOv (d : DieNo) (mv : Nat) (s : State) : Host.Outcome State Fault Refusal :=
  if s.hasDies && s.isReady && decide (devVmOv s d.val < mv) then
    .next ((s.modSupply (fun x => { x with vm := x.vm.set d (mv : Rat) })).raiseDie srcVmOv d (s.dieQuays d)
      { inst := BitVec.ofNat 8 d.val, value := BitVec.ofNat 32 mv })
  else .next s

/-- VM_UV (R790): while a quay owning legs on the die is outside OFF, for those quays. -/
def execVmUv (d : DieNo) (mv : Nat) (s : State) : Host.Outcome State Fault Refusal :=
  let qs := (s.dieQuays d).filter s.outsideOff
  if s.hasDies && !qs.isEmpty && decide (mv < devVmUv s d.val) then
    .next ((s.modSupply (fun x => { x with vm := x.vm.set d (mv : Rat) })).raiseDie srcVmUv d qs
      { inst := BitVec.ofNat 8 d.val, value := BitVec.ofNat 32 mv })
  else .next s

/-- The voltage a chopper judges, in mV, where the control die knows it (R792, R794); BRK0 and BRK1 judge on their die. -/
def State.chopperMv (s : State) : ChopperRef → Option Rat
  | .brk m =>
    if m.val < 2 then none
    else
      let src := devBrkSrc s m.val
      if h : src < 16 then
        let u := match s.ownerOf 3 src with
          | .quay q => quayUBase s q
          | _ => 0
        some (s.sd[src].value * u)
      else if h : src - 16 < 20 then some (s.lane[src - 16].dcMv : Rat) else none
  | .leg l =>
    match s.laneOf l with
    | some n => some (s.lane[n].dcMv : Rat)
    | none => none

/-- On level of a chopper in mV (R793). -/
def State.chopOnMv (s : State) : ChopperRef → Nat
  | .brk m => devBrkOn s m.val
  | .leg l => legChopOn s l
/-- Off level of a chopper in mV (R793). -/
def State.chopOffMv (s : State) : ChopperRef → Nat
  | .brk m => devBrkOff s m.val
  | .leg l => legChopOff s l

/-- A chopper works (R795): enabled, from step 10 on, and none of its stops holds. A thermal shutdown of its die, the device safe state and
the reactions of the quays are no stop: BRK0 and BRK1 keep working through them (R1002, `chopperWorks_shutdown`). -/
def State.chopperWorks (s : State) : ChopperRef → Bool
  | .brk m =>
    s.afterStep10 && devBrkEnable s m.val == 1 && s.ownerOf 5 m.val != .unassigned &&
      (if m.val = 0 then s.hasDies && s.pins.enHigh[(0 : Fin 6)] && !s.supply.vgdHold[(0 : Fin 2)]
       else if m.val = 1 then s.hasDies && s.pins.enHigh[(1 : Fin 6)] && !s.supply.vgdHold[(1 : Fin 2)]
       else !s.flt.hardSafe)
  | .leg l =>
    s.afterStep10 && s.isChopperLeg l && !s.legEnLow l && s.leg[l].latch.isNone && !s.flt.hardSafe &&
      (match s.laneOf l with
       | some n => s.lane[n].st == .attached
       | none => false)

/-- One STATE frame for a change of chopping (R834). -/
def State.chopFrame (s : State) (l : LegNo) : State :=
  match s.laneSlot l with
  | some (n, slot) =>
    if s.lane[n].st = .attached then s.sendLane n (.state (s.laneEnLow n) [(slot, s.kindInForce l, true)]) else s
  | none => s

/-- Set a chopper on or off. -/
def State.setChopper (s : State) (c : ChopperRef) (on : Bool) : State :=
  match c with
  | .brk m => s.modBrk m (fun b => { b with on := on, onSince := if on then s.now else b.onSince })
  | .leg l => (s.modLeg l (fun x => { x with chopping := on })).chopFrame l

/-- A chopper is on. -/
def State.chopperOn (s : State) : ChopperRef → Bool
  | .brk m => s.brk[m].on
  | .leg l => s.leg[l].chopping

/-- CHOPPER_ON (R792, R793, R834): its voltage has reached its on level. -/
def execChopperOn (c : ChopperRef) (s : State) : Host.Outcome State Fault Refusal :=
  let reached := match s.chopperMv c with
    | some v => decide ((s.chopOnMv c : Rat) ≤ v)
    | none => true
  if s.chopperWorks c && !s.chopperOn c && reached then .next (s.setChopper c true) else .next s

/-- CHOPPER_OFF (R792, R793, R834): its voltage has fallen to its off level. -/
def execChopperOff (c : ChopperRef) (s : State) : Host.Outcome State Fault Refusal :=
  let fallen := match s.chopperMv c with
    | some v => decide (v ≤ (s.chopOffMv c : Rat))
    | none => true
  if s.chopperOn c && fallen then .next (s.setChopper c false) else .next s

/-- CHOPPER_LONG (R797): the chopper keeps working. -/
def execChopperLong (m : Fin 4) (s : State) : Host.Outcome State Fault Refusal :=
  if s.brk[m].on && devBrkMaxOn s m.val != 0 && decide (s.brk[m].onSince + us (devBrkMaxOn s m.val) ≤ s.now) then
    .next (s.raiseChopper srcChopperLong (.brk m) (instCtx m.val))
  else .next s

/-! ### Enable pins and HALT inputs (R62, R802 to R810, R1039 to R1045) -/

/-- States in which a low enable pin raises ENABLE_LOW (R804). -/
def enableLowStates : List AxisState := [.armed, .catching, .running, .stopping, .hold, .homing]

/-- Raise ENABLE_LOW for the quays of a list that are in one of those states. -/
def State.raiseEnableLow (s : State) (qs : List QuayNo) : State :=
  forAll qs s (fun t q => if enableLowStates.contains s.quay[q].core.st then t.raiseQuay srcEnableLow q else t)

/-- The pin of an enable group is connected: the balls of LEG_EN0 and LEG_EN1 belong to the pre-driver dies, which a WV-2480-C0 has not
(R2, R1024). -/
def State.hasPin (s : State) (g : GroupNo) : Bool := decide (2 ≤ g.val) || s.hasDies

/-- ENABLE_LOW (R62, R742, R795, R803, R804, R833): an enable pin goes low. -/
def execEnableLow (g : GroupNo) (s : State) : Host.Outcome State Fault Refusal :=
  if s.hasPin g && s.pins.enHigh[g] then
    let s1 := s.modPins (fun p => { p with enHigh := p.enHigh.set g false, enLowAt := p.enLowAt.set g s.now })
    let s2 := s1.raiseEnableLow (s.quaysWithLeg (fun l => s.groupOf l == some g))
    let s3 := if g.val = 0 then s2.modBrk 0 (fun b => { b with on := false })
      else if g.val = 1 then s2.modBrk 1 (fun b => { b with on := false }) else s2
    .next (State.syncLegs s s3)
  else .next s

/-- The latch of a leg may be released: every record that set or changed it carried ACKED before the falling edge (R806). -/
def State.latchReleasable (s : State) (l : LegNo) (fall : Nat) : Bool :=
  let x := s.leg[l]
  !x.latchWait && x.latchRecs.all (fun no =>
    match s.flt.record no with
    | some r => r.acked && decide (r.ackedAt < fall)
    | none => false)

/-- Release the latch of a leg: the leg is in state OFF (R809). -/
def State.unlatch (s : State) (l : LegNo) : State :=
  s.modLeg l (fun x => { x with
    latch := none, latchRecs := [], react := none, short := false, active := none, fresh := false
    standby := none, sbFresh := false, inForce := ⟨.off, none, none⟩ })

/-- ENABLE_TOGGLE (R805 to R810, R856): the pin rises again; after a low level of at least 10 us latches are released or BOLLARD_EARLY is
raised, and REARM goes to each lane of a remote group that carries a released leg. -/
def execEnableToggle (g : GroupNo) (s : State) : Host.Outcome State Fault Refusal :=
  if !s.hasPin g || s.pins.enHigh[g] then .next s
  else
    let s1 := s.modPins (fun p => { p with enHigh := p.enHigh.set g true })
    let fall := s.pins.enLowAt[g]
    if s.now < fall + us 10 then .next (State.syncLegs s s1)
    else
      let held := allLegs.filter (fun l => s.groupOf l == some g && s.leg[l].latch.isSome)
      let freed := held.filter (fun l => s.latchReleasable l fall)
      let kept := held.filter (fun l => !s.latchReleasable l fall)
      let s2 := forAll freed s1 State.unlatch
      let s3 := forAll (allQuays.filter (fun q => kept.any (fun l => s.legQuay l == some q))) s2
        (fun t q => t.raiseQuay srcBollardEarly q)
      let s4 := State.syncLegs s s3
      .next (if g.val < 2 then s4 else s4.sendMask freed .rearm)

/-- HALT_ASSERT (R1039 to R1043): phase legs are held OFF at rank 2, ENABLE_LOW as R804 states. -/
def execHaltAssert (ch : Side) (s : State) : Host.Outcome State Fault Refusal :=
  if s.pins.halt.get ch then .next s
  else
    let s1 := s.modPins (fun p => { p with halt := p.halt.set ch true })
    .next (State.syncLegs s (s1.raiseEnableLow (s.quaysWithLeg (fun l => !s.isChopperLeg l))))

/-- HALT_RELEASE (R1039, R1044): with both inputs released each leg returns to ranks 3 to 6; no latch is released, no REARM sent. -/
def execHaltRelease (ch : Side) (s : State) : Host.Outcome State Fault Refusal :=
  .next (State.syncLegs s (s.modPins (fun p => { p with halt := p.halt.set ch false })))

/-- HALT_DISC (R1045): the two HALT inputs have differed for more than 20 ms. -/
def execHaltDisc (s : State) : Host.Outcome State Fault Refusal :=
  if s.pins.halt.a != s.pins.halt.b then .next (s.modPins (fun p => { p with haltDisc := true })) else .next s

end Sys2Proof.Machine
end

