-- ==== Sys2Proof/Machine/Lanes.lean ====
section
/-! DEFINITION. Gangway lanes and internal links (chapter 12): bring-up, identity, status frames, loss. -/

namespace Sys2Proof.Machine

/-- The lane exists and may transmit: from step 10 on; internal links only with pre-driver dies (R2, R137, R825). -/
def State.laneLive (s : State) (n : LaneNo) : Bool := s.afterStep10 && (decide (n.val < 16) || s.hasDies)

/-- SEQ of a received frame: a gap is counted (R829). -/
def Lane.takeSeq (x : Lane) (seq : Byte) : Lane :=
  { x with rxSeq := some seq
           seqGaps := match x.rxSeq with
             | some p => if seq = p + 1 then x.seqGaps else x.seqGaps + 1
             | none => x.seqGaps }

/-- Enter TRAINING (R840, R841). -/
def Lane.train (x : Lane) (now : Nat) : Lane :=
  { x with st := .training, detectAt := now, rxOk := false, rs := [], identReqs := 0, downAt := none, rxSeq := none }

/-- SIGNAL_DETECT (R840, R847): a lane in DOWN trains; after GW_TRAIN_FAIL it waits 10 ms (R846). -/
def execSignalDetect (n : LaneNo) (s : State) : Host.Outcome State Fault Refusal :=
  let x := s.lane[n]
  let rest := match x.downAt with
    | some t => decide (t + us 10000 ≤ s.now)
    | none => true
  if s.laneLive n && x.st == .down && rest then .next (s.modLane n (fun y => y.train s.now)) else .next s

/-- TRAIN_RETRY (R846): training starts again 10 ms after GW_TRAIN_FAIL. -/
def execTrainRetry (n : LaneNo) (s : State) : Host.Outcome State Fault Refusal :=
  match s.lane[n].downAt with
  | some t =>
    if s.laneLive n && s.lane[n].st == .down && decide (t + us 10000 ≤ s.now) then .next (s.modLane n (fun y => y.train s.now)) else .next s
  | none => .next s

/-- RX_OK_SET (R841, R868): 32 consecutive valid training sets received; RX_OK goes out in the training sets. -/
def execRxOkSet (l : LinkRef) (s : State) : Host.Outcome State Fault Refusal :=
  match l with
  | .lane n =>
    if s.lane[n].st = .training ∧ s.lane[n].rxOk = false then
      .next (s.modLane n (fun x => { x with rxOk := true, tx := x.tx ++ [.rxOk] }))
    else .next s
  | .hawser p =>
    let x := s.hw.ports.get p
    if s.afterStep10 && !x.up && !x.rxOk then
      .next (s.modHwPort p (fun y => { y with rxOk := true, training := true, tx := y.tx ++ [.rxOk] }))
    else .next s

/-- TRAINING_COMPLETE (R841, R842, R868): RX_OK held and received; the first PING leaves. -/
def execTrainingComplete (l : LinkRef) (s : State) : Host.Outcome State Fault Refusal :=
  match l with
  | .lane n =>
    if s.lane[n].st = .training ∧ s.lane[n].rxOk = true then
      .next (s.modLane n (fun x => { x with st := .aligning, rs := [], pingAt := s.now, tx := x.tx ++ [.ping] }))
    else .next s
  | .hawser p =>
    let x := s.hw.ports.get p
    if x.training && x.rxOk then
      .next (s.modHwPort p (fun y => { y with training := false, rs := [], pingAt := s.now, tx := y.tx ++ [.ping] }))
    else .next s

/-- One-way delay of four measured pairs: the mean of r / 2, to the nearest tick (R843). -/
def delayOf (rs : List Int) : Int := (2 * rs.foldl (· + ·) 0 + 8) / 16

/-- The four values of r / 2 spread over at most 64 ticks (R843). -/
def spreadOk (rs : List Int) : Bool := rs.all (fun a => rs.all (fun b => decide (a - b ≤ 128)))

/-- GW_PONG (R829, R842 to R844): the r of the pair; after four the delay, or the four pairs again. -/
def execGwPong (n : LaneNo) (seq : Byte) (turnaround : Word) (s : State) : Host.Outcome State Fault Refusal :=
  if s.lane[n].st = .aligning then
    let s1 := s.modLane n (fun x => x.takeSeq seq)
    let rs := s.lane[n].rs ++ [(s.now : Int) - s.lane[n].pingAt - turnaround.toNat]
    if rs.length < 4 then
      .next (s1.modLane n (fun x => { x with rs := rs, pingAt := s.now, tx := x.tx ++ [.ping] }))
    else
      let d := delayOf rs
      if spreadOk rs && decide (d ≤ gwDelayMax s n) then
        .next (s1.modLane n (fun x => { x with
          st := .identifying, rs := [], delay := BitVec.ofInt 32 d, syncAt := s.now, identReqs := 1, identReqAt := s.now
          tx := x.tx ++ [.delay d.toNat, .sync s.now, .identReq] }))
      else .next (s1.modLane n (fun x => { x with rs := [], pingAt := s.now, tx := x.tx ++ [.ping] }))
  else .next s

/-- The roster entry of a lane; that of an internal link is built in (R61, R853). -/
def State.rosterOf (s : State) (n : LaneNo) : Option RosterEntry :=
  if n.val < 16 then s.prot.roster.find? (fun e => e.lane == n.val)
  else some { lane := n.val, legs := 8, unitType := 1, fwMin := 0, capsReq := 0
              serial := s.fuse.dieSerial[(if n.val < 18 then 0 else 1 : Fin 2)] }

/-- Highest owned slot of a lane plus one (R849). -/
def State.ownedSlots (s : State) (n : LaneNo) : Nat :=
  (List.range 8).foldl (fun m slot =>
    match s.slotLeg n slot with
    | some l => if s.ownerOf 1 l.val != .unassigned then slot + 1 else m
    | none => m) 0

/-- The sub-cause bits of a mismatch (R849, R850, R852); 0 is a match. -/
def State.identBits (s : State) (n : LaneNo) (i : Ident) : Nat :=
  match s.rosterOf n with
  | none => 64
  | some e =>
    (if i.unitType.toNat ≠ e.unitType then 1 else 0) + (if i.legs.toNat ≠ e.legs then 2 else 0)
    + (if i.fwLevel.toNat < e.fwMin then 4 else 0) + (if i.caps &&& e.capsReq ≠ e.capsReq then 8 else 0)
    + (if e.serial ≠ 0 ∧ i.serial ≠ e.serial then 16 else 0)
    + (if n.val < 16 ∧ i.legs.toNat < s.ownedSlots n then 32 else 0)

/-- The identity parameters of a lane (R853). -/
def Lane.identify (x : Lane) (i : Ident) : Lane :=
  { x with serial := i.serial, unitType := i.unitType, fwLevel := i.fwLevel, caps := i.caps, iLsb := i.iLsb, uLsb := i.uLsb, legs := i.legs }

/-- Context of GW_QUARANTINE (R852). -/
def quarantineCtx (n : LaneNo) (i : Ident) (bits : Nat) : Ctx :=
  { inst := BitVec.ofNat 8 n.val, b17 := i.legs, sub := BitVec.ofNat 8 bits
    value := i.fwLevel ++ i.unitType, tail := i.serial.setWidth 32 ++ i.caps }

/-- The chopper legs a lane carries. -/
def State.chopperLegsOn (s : State) (n : LaneNo) : List LegNo := (s.legsOnLane n).filter s.isChopperLeg

/-- GW_IDENT (R829, R839, R848 to R854, R861). -/
def execGwIdent (n : LaneNo) (ident : Ident) (s : State) : Host.Outcome State Fault Refusal :=
  if s.lane[n].st = .identifying then
    let bits := s.identBits n ident
    let ops := s.lane[n].attachOps
    let s1 := s.modLane n (fun x => { (x.takeSeq ident.seq).identify ident with attachOps := [] })
    if bits = 0 then
      let s2 := s1.modLane n (fun x => { x with st := .attached })
      let s3 := s2.eventAll ops stDone 0 0
      let cs := s3.chopperLegsOn n
      .next (if cs.isEmpty then s3 else s3.sendLane n (.arm (s3.armEntries cs n)))
    else
      let s2 := s1.modLane n (fun x => { x with st := .quarantined })
      .next ((s2.raiseLane srcGwQuarantine n (quarantineCtx n ident bits)).eventAll ops stRefused 0x0006 0)
  else .next s

/-- IDENT_TIMEOUT (R845): IDENT_REQ again, after three requests back to DOWN. -/
def execIdentTimeout (n : LaneNo) (s : State) : Host.Outcome State Fault Refusal :=
  let x := s.lane[n]
  if x.st = .identifying ∧ x.identReqAt + us 1000 ≤ s.now then
    if x.identReqs < 3 then
      .next (s.modLane n (fun y => { y with identReqs := y.identReqs + 1, identReqAt := s.now, tx := y.tx ++ [.identReq] }))
    else .next (s.modLane n (fun y => { y with st := .down, rxOk := false }))
  else .next s

/-- GW_TRAIN_FAIL (R846, R861): bring-up has not ended within `gw.train_timeout`; an ATTACH in progress is refused. -/
def execGwTrainFail (n : LaneNo) (s : State) : Host.Outcome State Fault Refusal :=
  let x := s.lane[n]
  let late := decide (x.detectAt + us (gwTrainTimeout s n) ≤ s.now)
  let s1 := s.modLane n (fun y => { y with attachOps := [] })
  if late && (x.st == .training || x.st == .aligning || x.st == .identifying) then
    .next (((s1.modLane n (fun y => { y with st := .down, rxOk := false, downAt := some s.now })).raiseLane srcGwTrainFail n).eventAll
      x.attachOps stRefused 0x0006 0)
  else if late && x.st == .down && !x.attachOps.isEmpty then .next (s1.eventAll x.attachOps stRefused 0x0006 0)
  else .next s

/-- GW_SYNC_SEND (R844): SYNC again every `gw.sync_period` while ATTACHED or QUARANTINED. -/
def execGwSyncSend (n : LaneNo) (s : State) : Host.Outcome State Fault Refusal :=
  let x := s.lane[n]
  if (x.st = .attached ∨ x.st = .quarantined) ∧ x.syncAt + us (gwSyncPeriod s n) ≤ s.now then
    .next (s.modLane n (fun y => { y with syncAt := s.now, tx := y.tx ++ [.sync s.now] }))
  else .next s

/-! ### Dropped winding sets (R717 to R725) -/

/-- The legs of winding set j of a quay (R65). -/
def State.setLegs (s : State) (q : QuayNo) (j : Nat) : List LegNo := ((s.phaseLegs q).drop (3 * j)).take 3

/-- The sigma-delta input that `quay.sd_map` gives the phase leg at a place among those of a quay: the first two of each three (R439, R444). -/
def State.sdPhase (s : State) (q : QuayNo) (i : Nat) : Option Nat :=
  let m := quaySdMap s q / 256 ^ (i / 3)
  if i % 3 = 0 then some (m % 16) else if i % 3 = 1 then some (m / 16 % 16) else none

/-- A winding set exists and is not dropped. -/
def State.setActive (s : State) (q : QuayNo) (j : Fin 4) : Bool :=
  decide (j.val < s.setsOf q) && !s.quay[q].kern.reg.dropped[j]

/-- States in which a set may be dropped (R717). -/
def dropStates : List AxisState := [.catching, .running, .stopping, .hold, .homing]

/-- The sets of a quay that R717 drops when the sets of a list lose their legs; none where no other set stays active. -/
def State.droppable (s : State) (q : QuayNo) (hit : Fin 4 → Bool) : List (Fin 4) :=
  let js := (List.finRange 4).filter (fun j => s.setActive q j && hit j)
  let others := (List.finRange 4).filter (fun j => s.setActive q j && !hit j)
  if quayDegradeEnable s q = 1 ∧ dropStates.contains s.quay[q].core.st ∧ others ≠ [] then js else []

/-- Drop sets of a quay in both halves' kernels and raise SET_DROPPED for each (R718, R720). -/
def State.dropSets (s : State) (q : QuayNo) (js : List (Fin 4)) : State :=
  js.foldl (fun (t : State) (j : Fin 4) =>
    (t.modQuay q (fun x => { x with
      kern := { x.kern with reg := { x.kern.reg with dropped := x.kern.reg.dropped.set j true } }
      kernCopy := { x.kernCopy with reg := { x.kernCopy.reg with dropped := x.kernCopy.reg.dropped.set j true } } })).raiseQuay
        srcSetDropped q (instCtx j.val)) s

/-! ### Status frames -/

/-- Phase current in mA of a raw field: R765 on an internal link, I_LSB on an external lane; 0x8000 is not measured (R835). -/
def State.entryCurrent (s : State) (n : LaneNo) (l : LegNo) (raw : U16) : Option Rat :=
  if n.val < 16 then (if raw = 0x8000#16 then none else some ((raw.toInt * (s.lane[n].iLsb.toNat : Int) : Int) : Rat))
  else
    let num : Rat := ((raw.toNat : Rat) - 8192) * 1800
    let den : Rat := 16384 * (legShuntGain s l : Rat) * ((legRshunt s l : Rat) / 1000000)
    some (num / den)

/-- Phase voltage in mV of a raw field (R766, R835). -/
def State.entryVolts (s : State) (n : LaneNo) (raw : U16) : Rat :=
  if n.val < 16 then ((raw.toNat * s.lane[n].uLsb.toNat : Nat) : Rat) else (raw.toNat : Rat) * 25 / 4

/-- Take the values of one entry of a status frame into its leg (R786, R787, R812, R814). -/
def State.takeEntry (s : State) (n : LaneNo) (l : LegNo) (e : StatusEntry) : State :=
  s.modLeg l (fun x => { x with
    armed := e.armed, short := e.short, supply := e.supply, overtemp := e.overtemp, trip := e.trip
    current := s.entryCurrent n l e.current, vphase := s.entryVolts n e.volts
    temp := if n.val < 16 then e.temp.toInt else x.temp, derate := (e.derate.toNat : Rat) / 255 })

/-- What a leg of an external lane raises when a flag goes from clear to set (R717, R782, R786, R798). -/
def State.entryFlags (s : State) (l : LegNo) (old : Leg) (e : StatusEntry) : State :=
  let chop := s.isChopperLeg l
  let cur := s.legCurrent l
  let s1 :=
    if e.short && !old.short then
      if chop then (s.latchOff l).raiseChopper srcChopperFault (.leg l) (instCtx l.val) [l]
      else
        let asc := match s.legQuay l with
          | some q => s.inAsc q
          | none => false
        let sp := e.suspect.toNat
        let t := (s.latchOff l).raiseLeg srcGuShort l sp (legCtx l sp (if asc then 0x18 else 0x08) cur 0) [l]
        (match s.legQuay l with
         | some q => t.ascTrip q l sp cur
         | none => t)
    else s
  let s2 := if e.supply && !old.supply then s1.raiseLeg srcGuSupply l 0 (instCtx l.val) [] else s1
  let s3 := if e.overtemp && !old.overtemp then s2.raiseLeg srcGuOvertemp l 0 (instCtx l.val) [] else s2
  if e.trip && !old.trip then
    if chop then (s3.latchOff l).raiseChopper srcChopperFault (.leg l) (instCtx l.val) [l]
    else
      match s3.legQuay l with
      | none => s3
      | some q =>
        let js := s3.droppable q (fun j => (s3.setLegs q j.val).contains l)
        let already := (List.finRange 4).any (fun j => (s3.setLegs q j.val).contains l && s3.quay[q].kern.reg.dropped[j])
        if !js.isEmpty then s3.dropSets q js
        else if already then s3
        else s3.raiseLeg srcGuTrip l 0 (instCtx l.val) []
  else s3

/-- One entry of a status frame. -/
def State.statusEntry (s : State) (n : LaneNo) (e : StatusEntry) : State :=
  match s.slotLeg n e.slot.toNat with
  | none => s
  | some l =>
    let old := s.leg[l]
    let s1 := s.takeEntry n l e
    if n.val < 16 then s1.entryFlags l old e else s1

/-- A value of a key in a list of pairs, in place of the one before. -/
def setKey {α β : Type} [DecidableEq α] (xs : List (α × β)) (k : α) (v : β) : List (α × β) := (k, v) :: xs.filter (fun e => e.1 ≠ k)

/-- An input of a quay has arrived for its open snapshot (R74): a function takes its values in. -/
def State.inputArrived (s : State) (q : QuayNo) (i : InputId) (f : Snapshot → Snapshot := id) : State :=
  s.modQuay q (fun x =>
    if x.form.isOpen then { x with form := f { x.form with missing := x.form.missing.filter (· != i) } } else x)

/-- The die whose VM serves a quay (R445). -/
def State.vmDie (s : State) (q : QuayNo) : Option DieNo := ((s.phaseLegs q).find? isLocal).map dieOf

/-- VM of the die at the other end of an internal link, where that is the VM of the quay. -/
def State.laneVm (s : State) (q : QuayNo) (n : LaneNo) (v : Rat) : Rat :=
  match s.vmDie q with
  | some d => if n.val = 16 + 2 * d.val ∨ n.val = 17 + 2 * d.val then s.supply.vm[d] else v
  | none => v

/-- The legs of a quay on a lane, the DC voltage of the lane and the VM of its die, as its status frame has brought them, taken into a
snapshot. -/
def State.takeLane (s : State) (q : QuayNo) (n : LaneNo) (x : Snapshot) : Snapshot :=
  let ls := (s.phaseLegs q).filter (fun l => s.laneOf l == some n)
  { x with legs := ls.foldl (fun m l => setKey m l s.leg[l].current) x.legs
           volts := ls.foldl (fun m l => setKey m l s.leg[l].vphase) x.volts, dc := setKey x.dc n.val (s.lane[n].dcMv : Rat)
           vm := s.laneVm q n x.vm }

/-- The quays whose sample event a status frame matches (R837); their snapshots take it in while they are open. -/
def State.sampleMatches (s : State) (n : LaneNo) (t : Word) : List QuayNo :=
  (s.laneQuays n).filter (fun q => s.quay[q].form.time != 0 && BitVec.ofNat 32 s.quay[q].form.time == t)

/-- The internal block of a die's status frame (R838). -/
def State.internalBlock (s : State) (n : LaneNo) (b : InternalBlock) : State :=
  let d : DieNo := if n.val < 18 then 0 else 1
  let s1 := s.modSupply (fun x => { x with vm := x.vm.set d (b.vm.toNat : Rat) })
  b.vboot.foldl (fun t e =>
    match t.slotLeg n e.1.toNat with
    | some l => t.modLeg l (fun x => { x with vboot := e.2.toNat })
    | none => t) s1

/-- GW_STATUS (R58, R786, R829, R835 to R838, R854, R863). -/
def execGwStatus (n : LaneNo) (frame : StatusFrame) (s : State) : Host.Outcome State Fault Refusal :=
  if s.lane[n].st = .attached then
    let qs := s.sampleMatches n frame.sampleTime
    let lost := s.lane[n].timeOk && !frame.timeOk
    let s1 := s.modLane n (fun x => x.takeSeq frame.seq)
    if qs.isEmpty then .next (s1.modLane n (fun x => { x with stray := x.stray + 1 }))
    else
      let s2 := s1.modLane n (fun x => { x with
        timeOk := frame.timeOk, dcMv := if frame.dcValid then frame.udc.toNat * x.uLsb.toNat else x.dcMv })
      let s3 := if lost then forAll ((s.laneQuays n).filter s.outsideOff) s2 (fun t q => t.raiseQuay srcGwTime q (instCtx n.val)) else s2
      let s4 := frame.entries.foldl (fun t e => t.statusEntry n e) s3
      let s5 := match frame.internal with
        | some b => if 16 ≤ n.val then s4.internalBlock n b else s4
        | none => s4
      .next (State.syncLegs s (forAll qs s5 (fun t q => t.inputArrived q (.lane n) (t.takeLane q n))))
  else .next s

/-- LANE_LOSS (R717 to R719, R725, R788, R840, R857 to R859, R862). -/
def execLaneLoss (n : LaneNo) (s : State) : Host.Outcome State Fault Refusal :=
  let x := s.lane[n]
  if x.st = .detached ∨ x.st = .down then .next s
  else
    let s1 :=
      if x.st = .attached then
        forAll ((s.laneQuays n).filter s.outsideOff) s (fun t q =>
          let js := t.droppable q (fun j => (t.setLegs q j.val).any (fun l => t.laneOf l == some n))
          if js.isEmpty then t.raiseQuay srcGwLaneLoss q (instCtx n.val) else t.dropSets q js)
      else s
    let s2 := s1.modLane n (fun y => { y with st := .down, rxOk := false, rxSeq := none, timeOk := false, losses := y.losses + 1 })
    let s3 := forAll (s.legsOnLane n) s2 (fun t l => t.modLeg l (fun y => { y with armed := false }))
    .next (s3.raiseLane srcGwLinkDown n)

/-- GW_BAD_FRAME (R828, R829): discarded; CRC failures and aborts are counted in `gw.crc_count`, and GW_CRC counts every discard. -/
def execGwBadFrame (n : LaneNo) (reason : BadFrame) (s : State) : Host.Outcome State Fault Refusal :=
  if s.laneLive n && s.lane[n].st != .down && s.lane[n].st != .detached then
    let s1 := s.modLane n (fun x => { x with crcCount := if reason = .crc ∨ reason = .abort then x.crcCount + 1 else x.crcCount })
    .next (s1.raiseLane srcGwCrc n)
  else .next s

end Sys2Proof.Machine
end

