-- ==== Sys2Proof/Machine/Thermal.lean ====
section
/-! DEFINITION. The time base but for the alignment to peers (chapter 02): delay line, reference, capture registers, event slots; the
temperature sensors, throttling and the supply monitors (chapter 15). -/

namespace Sys2Proof.Machine

/-! ### Time base -/

/-- DELAY_LINE_CAL (R84, R92): CAL_OK shows whether the calibration is within R84. -/
def execDelayLineCal (within : Bool) (s : State) : Host.Outcome State Fault Refusal :=
  if s.tb.lock then .next (s.modTb (fun t => { t with calOk := within })) else .next s

/-- REF_LOSS (R86 to R88): the coarse counter goes on with the backup oscillator; the source is raised once. -/
def execRefLoss (s : State) : Host.Outcome State Fault Refusal :=
  if s.tb.lock && !s.tb.backup then .next ((s.modTb (fun t => { t with backup := true })).raiseDevice srcRefLoss) else .next s

/-- A capture register is claimed, by `dev.capc_src` or by a probe (R94, R406). -/
def State.capClaimed (s : State) (c : Fin 32) : Bool := devCapSrc s c.val != 255

/-- CAPTURE_EDGE (R95): the stamp is device time less the filter delay, to the coarse step of 16 ticks. -/
def execCaptureEdge (c : Fin 32) (rising : Bool) (s : State) : Host.Outcome State Fault Refusal :=
  if s.capClaimed c then
    let e := devCapEdge s c.val
    let hit := if rising then e % 2 == 1 else e / 2 % 2 == 1
    let stamp := (s.now - 16 * devCapFilter s c.val) / 16 * 16
    .next (s.modTb (fun t => { t with cap := vmod t.cap c (fun x =>
      if hit then { x with level := rising, time := stamp, count := x.count + 1, overrun := x.overrun || x.fresh, fresh := true }
      else { x with level := rising }) }))
  else .next s

/-- The event slot with a number, where it is in use. -/
def State.slotAt (s : State) (n : Fin 256) : Option EventSlot := s.tb.slots.find? (fun e => e.slot == n)

/-- A slot fires (R98), and a new period or phase takes effect after that firing (R100). -/
def State.slotFired (s : State) (n : Fin 256) : State :=
  s.modTb (fun t => { t with slots := t.slots.map (fun e =>
    if e.slot = n then
      match e.next with
      | some (p, f) => { e with period := p, phase := f, next := none }
      | none => e
    else e) })

/-- A slot in use fires at the present time. -/
def State.slotFires (s : State) (n : Fin 256) : Bool :=
  match s.slotAt n with
  | some e => fires e.period e.phase s.now
  | none => false

/-- TIMED_EVENT (R98, R100 to R102): a host-defined slot fires. The manual connects no further effect to it. DESIGN CHOICE, log entry 43:
no host command claims a slot (the command list of R249 has no timed-event command, which R181 names), so that of the slots in use
those of clocks and trace regions are the only ones of the pool. -/
def execTimedEvent (slot : Fin 256) (s : State) : Host.Outcome State Fault Refusal :=
  if s.slotFires slot then .next (s.slotFired slot) else .next s

/-- SDC_RESYNC (R450): the slot of a sigma-delta clock output fires and resynchronises the divider: its rising edges lie at whole
multiples of the clock period from then on. -/
def execSdcResync (m : Fin 4) (s : State) : Host.Outcome State Fault Refusal :=
  match s.claims.find? (fun e => e.by_ == .sdClock m && e.cls == 0x10) with
  | some e => if h : e.index < 256 then (if s.slotFires ⟨e.index, h⟩ then
      .next ((s.slotFired ⟨e.index, h⟩).modTb (fun t => { t with sdc := vmod t.sdc m (fun _ => 0) })) else .next s) else .next s
  | none => .next s

/-! ### Sensor windows (R103 to R108, R989 to R1004, R1016) -/

/-- Temperature of a sensor window: invalid outside -60 to +200 degrees (R989, R991). -/
def sensorTemp (t : Int) : Option Int := if -600 ≤ t ∧ t ≤ 2000 then some t else none

/-- Speed margin in 0.01 % of a count (R103, R104); the fused minimum of a sensor is never 0. DESIGN CHOICE, log entry 44: a margin above
+327.67 %, which the 16 bits of the report cannot hold, is reported as 32,767. -/
def State.marginOf (s : State) (n : Fin 16) (count : Nat) (t : Option Int) : Int :=
  match t with
  | none => -32768
  | some _ => max (-32768) (min 32767 (reportInt ((((count : Rat) / (s.fuse.cMin[n] : Rat)) - 1) * 10000)))

/-- A margin lies below zero (R105); the sign is that of the exact value, and an invalid sensor counts as below zero (R104). -/
def State.marginBelow (s : State) (n : Fin 16) (count : Nat) (t : Option Int) : Bool := t.isNone || decide (count < s.fuse.cMin[n])

/-- A margin is at least `tb.margin_clear` (R108). -/
def State.marginClear (s : State) (n : Fin 16) (count : Nat) (t : Option Int) : Bool :=
  t.isSome && decide ((s.fuse.cMin[n] : Rat) * (10000 + tbMarginClear s) ≤ (count : Rat) * 10000)

/-- The highest valid temperature among the sensors of a list (R992). -/
def highest : List (Option Int) → Option Int
  | [] => none
  | none :: rest => highest rest
  | some a :: rest => match highest rest with
    | some b => some (max a b)
    | none => some a

/-- Temperatures of the control die's sensors. -/
def Thermal.ctl (x : Thermal) : List (Option Int) := x.temp.toList.take 16
/-- Temperatures of a pre-driver die's sensors. -/
def Thermal.die (x : Thermal) (d : DieNo) : List (Option Int) := (x.temp.toList.drop (16 + 4 * d.val)).take 4

/-- Throttle factor of a pre-driver die (R994). DESIGN CHOICE, log entry 43: with no valid sensor the factor of the window before stays. -/
def State.throttle (s : State) (d : DieNo) (t : Option Int) : Rat :=
  match t with
  | none => s.thm.factor[d]
  | some v => max 0 (min 1 (1 - ((thmThrSlope s d.val : Rat) / 100) * (((v - thmThrStart s d.val : Int) : Rat) / 10)))

/-- Share factor of the control die (R997). DESIGN CHOICE, log entry 43: with no valid sensor the factor of the window before stays. -/
def State.shareOf (s : State) (t : Option Int) : Rat :=
  match t with
  | none => s.thm.share
  | some v => if v ≤ 1150 then 1 else if v ≤ 1250 then 1 - (8 : Rat) / 100 * (((v - 1150 : Int) : Rat) / 10) else (1 : Rat) / 5

/-- The die holds its gates after a window (R1000, R1001). -/
def State.shutNow (s : State) (d : DieNo) (t : Option Int) : Bool :=
  match t with
  | none => true
  | some v => if s.thm.shut[d] then decide (thmShutdown s d.val - 150 ≤ v) else decide (thmShutdown s d.val ≤ v)

/-- A temperature as context bytes 20 to 23. -/
def tempWord (t : Option Int) : Word := BitVec.ofInt 32 (t.getD (-32768))

/-- The margins of a window: values, BOUND_VOID with its interrupt bits (R209), SPEED_MARGIN once per run, the windows of R108 (R103 to R105). -/
def State.marginWindow (s : State) (counts : Vector Nat 16) (temp : Vector (Option Int) 24) : State :=
  let t (n : Fin 16) : Option Int := temp[n.val]
  let below := (List.finRange 16).any (fun n => s.marginBelow n counts[n] (t n))
  let clear := (List.finRange 16).all (fun n => s.marginClear n counts[n] (t n))
  let s1 := s.modThm (fun x => { x with
    margin := Vector.ofFn (fun n => s.marginOf n counts[n] (t n))
    inRun := below, clearRun := if clear then x.clearRun + 1 else 0 })
  let irq (p : Side) (t : State) : State := if s.boot.boundVoid then t else t.modPort p (fun x => { x with irqBound := true })
  let s2 := if below then irq .b (irq .a (s1.modBoot (fun b => { b with boundVoid := true }))) else s1
  if below && !s.thm.inRun then s2.raiseDevice srcSpeedMargin else s2

/-- THERMAL_THROTTLE at the start of an episode (R1016): instance, sub-cause bits, temperature. -/
def State.throttleEpisode (s : State) (i : Fin 3) (bits : Byte) (t : Option Int) : State :=
  let now := bits != 0
  let s1 := s.modThm (fun x => { x with episode := x.episode.set i now })
  if now && !s.thm.episode[i] then
    let c : Ctx := { inst := BitVec.ofNat 8 i.val, sub := bits, value := tempWord t }
    if h : i.val < 2 then s1.raiseDie srcThermalThrottle ⟨i.val, h⟩ (s1.dieQuays ⟨i.val, h⟩) c
    else s1.raise (faultOf s1 srcThermalThrottle 0xFF [] c)
  else s1

/-- Shutdown of a pre-driver die (R1000, R1001, R1003). -/
def State.dieShutdown (s : State) (d : DieNo) (t : Option Int) : State :=
  let now := s.shutNow d t
  let s1 := s.modThm (fun x => { x with shut := x.shut.set d now })
  if now && !s.thm.shut[d] then
    s1.raiseDie srcThermalShutdown d (s1.dieQuays d)
      { inst := BitVec.ofNat 8 d.val, sub := if t.isNone then 2 else 1, value := tempWord t }
  else s1

/-- Control-die shutdown source (R1004): every quay with a kernel, SCOPE 0xFF. -/
def State.ctlShutdown (s : State) (t : Option Int) : State :=
  let hot := match t with
    | some v => decide (1500 ≤ v)
    | none => false
  let s1 := s.modThm (fun x => { x with ctlHot := hot })
  if hot && !s.thm.ctlHot then
    s1.raise (faultOf s1 srcThermalShutdown 0xFF s1.kernelQuays { inst := 2, sub := 1, value := tempWord t })
  else s1

/-- Factors of a window: f of both dies, effective 10 us later (R994, R995), and g (R997). -/
def State.factorWindow (s : State) (t0 t1 tc : Option Int) : State :=
  s.modThm (fun x => { x with
    factorOld := x.factor, factorAt := s.now
    factor := #v[s.throttle 0 t0, s.throttle 1 t1], share := s.shareOf tc })

/-- SENSOR_WINDOW_END: the effects of R103 to R105 and R989 to R1004 in one window; without pre-driver dies TS16 to TS23 and what
follows from them are absent (R2). -/
def execSensorWindowEnd (counts : Vector Nat 16) (temps : Vector Int 24) (s : State) : Host.Outcome State Fault Refusal :=
  if s.tb.lock then
    let seen := temps.map sensorTemp
    let temp := if s.hasDies then seen else Vector.ofFn (fun n => if n.val < 16 then seen[n] else s.thm.temp[n])
    let x : Thermal := { s.thm with temp := temp }
    let tc := highest x.ctl
    let t0 := if s.hasDies then highest (x.die 0) else some 0
    let t1 := if s.hasDies then highest (x.die 1) else some 0
    let s1 := ((s.modThm (fun y => { y with temp := temp })).marginWindow counts temp).factorWindow t0 t1 tc
    let bits (f : Rat) (bad : Bool) (b : Byte) : Byte := (if f < 1 then b else 0) ||| (if bad then 4 else 0)
    let s2 := s1.throttleEpisode 2 (bits s1.thm.share (x.ctl.any (·.isNone)) 2) tc
    let s3 :=
      if s.hasDies then
        (s2.throttleEpisode 0 (bits s2.thm.factor[0] ((x.die 0).any (·.isNone)) 1) t0).throttleEpisode 1
          (bits s2.thm.factor[1] ((x.die 1).any (·.isNone)) 1) t1
      else s2
    let s4 := s3.ctlShutdown tc
    .next (if s.hasDies then (s4.dieShutdown 0 t0).dieShutdown 1 t1 else s4)
  else .next s

/-! ### Supplies (R1005 to R1009) -/

/-- Instance of a rail (R1015). -/
def railNo : Rail → Nat
  | .vcore => 0
  | .vio33 => 1
  | .vio18 => 2
  | .vana18 => 3
  | .vgd d => 4 + d.val

/-- Set or clear the SUPPLY_STATUS bit of a rail (R1014). -/
def Supply.setRail (x : Supply) (r : Rail) (side : LowHigh) (v : Bool) : Supply :=
  match r, side with
  | .vcore, .low => { x with vcoreLow := v }
  | .vcore, .high => { x with vcoreHigh := v }
  | .vio33, _ => { x with vio33Out := v }
  | .vio18, _ => { x with vio18Out := v }
  | .vana18, _ => { x with vana18Out := v }
  | .vgd d, .low => { x with vgdLow := x.vgdLow.set d v }
  | .vgd d, .high => { x with vgdHigh := x.vgdHigh.set d v }

/-- The SUPPLY_STATUS bit of a rail. -/
def Supply.rail (x : Supply) : Rail → LowHigh → Bool
  | .vcore, .low => x.vcoreLow
  | .vcore, .high => x.vcoreHigh
  | .vio33, _ => x.vio33Out
  | .vio18, _ => x.vio18Out
  | .vana18, _ => x.vana18Out
  | .vgd d, .low => x.vgdLow[d]
  | .vgd d, .high => x.vgdHigh[d]

/-- Context of a supply record (R1015). -/
def supplyCtx (r : Rail) (side : LowHigh) (value : Int) : Ctx :=
  { inst := BitVec.ofNat 8 (railNo r), sub := match side with | .low => 1 | .high => 2, value := BitVec.ofInt 32 value }

/-- Raise the source of a rail (R1005, R1008); DEDUCED, log entry 40: a low VGD names the quays of the die that are outside OFF, a high one
every quay of the die, as VM_UV and VM_OV do. -/
def State.raiseSupply (s : State) (r : Rail) (side : LowHigh) (value : Int) : State :=
  match r with
  | .vcore => s.raiseDevice srcSupplyVcore (supplyCtx r side value)
  | .vgd d =>
    let out := (s.dieQuays d).filter s.outsideOff
    match side with
    | .low => if out.isEmpty then s else s.raiseDie srcSupplyVgd d out (supplyCtx r side value)
    | .high => if s.isReady then s.raiseDie srcSupplyVgd d (s.dieQuays d) (supplyCtx r side value) else s
  | _ => s.raiseDevice srcSupplyVio (supplyCtx r side value)

/-- SUPPLY_WARNING (R1005, R1006, R1008): the bit is set and the source raised once when the condition begins. A WV-2480-C0 has no VGD
balls (R2). -/
def execSupplyWarning (rail : Rail) (side : LowHigh) (value : Int) (s : State) : Host.Outcome State Fault Refusal :=
  if s.supply.rail rail side || (decide (4 ≤ railNo rail) && !s.hasDies) then .next s
  else .next ((s.modSupply (fun x => x.setRail rail side true)).raiseSupply rail side value)

/-- SUPPLY_WARNING_END (R1006, R1014). -/
def execSupplyWarningEnd (rail : Rail) (side : LowHigh) (s : State) : Host.Outcome State Fault Refusal :=
  .next (s.modSupply (fun x => x.setRail rail side false))

/-- VGD_HOLD (R1009): the die holds its phase gates at sink and leaves its chopper inactive (R795). -/
def execVgdHold (d : DieNo) (s : State) : Host.Outcome State Fault Refusal :=
  if s.hasDies then
    .next ((s.modSupply (fun x => { x with vgdHold := x.vgdHold.set d true })).modBrk ⟨d.val, by omega⟩ (fun b => { b with on := false }))
  else .next s

/-- VGD_HOLD_RELEASE (R1005, R1009). -/
def execVgdHoldRelease (d : DieNo) (s : State) : Host.Outcome State Fault Refusal :=
  .next (s.modSupply (fun x => { x with vgdHold := x.vgdHold.set d false }))

end Sys2Proof.Machine
end

