-- ==== Sys2Proof/Machine/Cells.lean ====
section
/-! DEFINITION. Feedback cells (chapter 06): counting, index, SSI, sine/cosine, speed measurement, compare, probe, and the delivery of a
cell to its quay; the sigma-delta inputs (R450 to R456) and the limit inputs (R611). -/

namespace Sys2Proof.Machine

/-- Ticks per second (R14). -/
def ticksPerSecond : Rat := 6400000000

/-- Counts per revolution C of a cell (R330). -/
def State.countsPerRev (s : State) (k : CellNo) : Nat :=
  match fbMode s k with
  | 1 => 4 * fbLines s k
  | 2 => 6 * fbHallPolePairs s k
  | 3 => 2 ^ fbSsiStBits s k
  | 4 => 4096 * fbLines s k
  | _ => 0

/-- A bit of a word. -/
def bit (c : Bool) (n : Nat) : Nat := if c then 2 ^ n else 0

/-- `fb.status` (R426). -/
def Cell.status (c : Cell) : Word :=
  BitVec.ofNat 32
    (bit c.emuLagF 11 + bit c.cmpDone 10 + bit c.stale 9 + bit c.ssiErr 8 + bit c.ampl 7 + bit c.wire 6 + bit c.unsure 5
     + bit c.indexRef.isSome 4 + bit (decide (c.lastDir < 0)) 3 + bit c.methodF 2 + bit c.provisional 1 + bit c.still 0)

/-- Flags of a cell that make it unfit as angle source: UNSURE, WIRE, AMPL, SSI_ERR, STALE (R514, R729). -/
def Cell.bad (c : Cell) : Bool := c.unsure || c.wire || c.ampl || c.ssiErr || c.stale

/-- A cell is in use: an unassigned one is not (R180). -/
def State.cellUsed (s : State) (k : CellNo) : Bool := s.ownerOf 2 k.val != .unassigned

/-- The stamp of an edge accepted now through a filter: to the coarse step of 2.5 ns, filter delay subtracted (R340, R408). -/
def stampOf (now filter : Nat) : Nat := (now - 16 * filter) / 16 * 16

/-- Raise a feedback source for the quay owning the cell (R427); the record names the cell. -/
def State.raiseCell (s : State) (src : Nat) (k : CellNo) (sub : Byte := 0) : State :=
  match s.cellQuay k with
  | some q => s.raiseQuay src q { inst := BitVec.ofNat 8 k.val, sub := sub }
  | none => s

/-- HOMED of a quay clears (R630). -/
def State.clearHomed (s : State) (q : QuayNo) : State :=
  if s.quay[q].core.homed then s.modCore q (fun c => { c with homed := false }) else s

/-- A cell sets UNSURE; the primary cell of a quay clears its HOMED (R630). -/
def State.setUnsure (s : State) (k : CellNo) : State :=
  let s1 := s.modCell k (fun c => { c with unsure := true })
  match s.cellQuay k with
  | some q => if s.primaryCell q = some k then s1.clearHomed q else s1
  | none => s1

/-- Drop UNSURE where a flag of an update says so. -/
def State.clearUnsure (s : State) (k : CellNo) : State := s.modCell k (fun c => { c with unsure := false })

/-! ### Restart and shift (R335, R394) -/

/-- A Hall state in which the three sensors can stand (R349). -/
def hallValid (st : BitVec 3) : Bool := st != 0 && st != 7

/-- The condition of WIRE can last from one mode to another: a pair at the same level in modes 1 and 4 (R342), a data line that stays high in
mode 3 (R343). -/
def wireLasts (old mode : Nat) : Bool := ((old == 1 || old == 4) && (mode == 1 || mode == 4)) || (old == 3 && mode == 3)

/-- The restart of a cell from one mode into another (R335, R392): counting state cleared. SSI_ERR and STALE wait for the next delivery, WIRE
and AMPL last where the new mode still has their condition, and the compare unit and emulation flags are as they are. -/
def Cell.restart (c : Cell) (old mode now : Nat) : Cell :=
  { c with
    pos := 0, sampled := 0, sampledAt := now, eventAt := now, speed := 0, still := true, provisional := false, methodF := false, unsure := false
    wire := c.wire && wireLasts old mode, ampl := c.ampl && mode == 4
    lastHall := if hallValid c.hall then some c.hall else none, lastEdge := now, lastDir := 0, period := none, winEvents := 0, win := {}
    ended := {}, atEnd := false, wasF := false, held := [], given := none
    freq := none, hist := [], centre := 0, quad := none, offset := 0, evals := [], await := none, convStart := now
    illegalHere := false, indexRef := none, ssiPrev := none, amplRun := 0, preset := none, presetNow := none
    prior := none, presetAt := none, drift := 0 }

/-- Restart a cell that was in a mode before; HOMED of the quay whose primary cell it is clears (R335, R630). -/
def State.restartCell (s : State) (was : Nat) (k : CellNo) : State :=
  let s1 := s.modCell k (fun c => c.restart was (fbMode s k) s.now)
  match s.cellQuay k with
  | some q => if s.primaryCell q = some k then s1.clearHomed q else s1
  | none => s1

/-- Shift the position of a cell: its count, its index reference and all it compares with move by the same difference (R394, R395, R626). -/
def Cell.shift (c : Cell) (d : Int) : Cell :=
  { c with
    pos := c.pos + d, sampled := c.sampled + d, offset := c.offset + d, centre := c.centre + d
    indexRef := c.indexRef.map (fun r => r + d), hist := c.hist.map (fun e => (e.1, e.2 + d))
    evals := c.evals.map (fun e => (e.1, e.2 + d)), held := c.held.map (fun h => { h with pos := h.pos + d }) }

/-- A preset ends a miscount that persisted: it goes into the index reference (R356). DEDUCED, log entry 28. -/
def Cell.endDrift (c : Cell) : Cell := { c with indexRef := c.indexRef.map (fun r => r + c.drift), drift := 0 }

/-- A preset of a value takes effect (R356, R394, R395). -/
def Cell.presetTo (c : Cell) (v : Int) : Cell := { (c.shift (v - c.pos)).endDrift with sampled := v, unsure := false }

/-- Apply a pending preset at a sample event in modes 1 and 2 (R394, R395). -/
def Cell.applyPreset (c : Cell) (now : Nat) : Cell :=
  match c.preset with
  | some v => { c.presetTo v with preset := none, presetAt := some (now, v - c.pos) }
  | none => c

/-- An edge of modes 1 and 2 stamped at or before the sample event of a preset and accepted after it: the position at that event is the value of
the preset all the same, and the difference by which the preset moved the rest is less by the edge (R393, R394). The inner value is the
position before the preset and the edge. -/
def Cell.beforePreset (c : Cell) (t : Nat) : Option Int :=
  match c.presetAt with
  | some (e, d) => if t ≤ e then some (c.pos - d) else none
  | none => none

/-- Apply the preset of the sample event whose position is delivered now, in modes 3 and 4 (R394, R395). -/
def Cell.applyPresetNow (c : Cell) : Cell :=
  match c.presetNow with
  | some v => { c.presetTo v with presetNow := none }
  | none => c

/-! ### Speed (R377 to R392) -/

/-- Magnitude of a rational. -/
def rabs (x : Rat) : Rat := if x < 0 then -x else x

/-- One more edge of a window; edges in both directions discard it (R378). -/
def EdgeWindow.add (w : EdgeWindow) (dir : Int) (t : Nat) : EdgeWindow :=
  if w.edges = 0 then { w with edges := 1, first := t, last := t, dir := dir }
  else { w with edges := w.edges + 1, last := t, bad := w.bad || w.dir != dir }

/-- The value of a frequency window (R378 to R380, R389); the inner `none` where the manual states no result. -/
def EdgeWindow.value (w : EdgeWindow) : Option (Option Rat) :=
  if w.bad || decide (w.edges < 2) then none
  else if w.last = w.first then some none
  else some (some ((w.dir : Rat) * ((w.edges - 1 : Nat) : Rat) * ticksPerSecond / ((w.last - w.first : Nat) : Rat)))

/-- A counted edge in a direction with its stamp, in modes 1 and 2 (R377, R378, R387 to R391). An edge stamped at or before the last sample
event belongs to the window that event looked at (R393). -/
def Cell.countedEdge (c : Cell) (dir : Int) (t : Nat) : Cell :=
  let reversal := !c.still && dir != c.lastDir
  let mark (w : EdgeWindow) : EdgeWindow := let v := w.add dir t; { v with bad := v.bad || reversal }
  let late := decide (t ≤ c.eventAt) && c.atEnd
  let c1 := { c with win := if late then c.win else mark c.win, ended := if late then mark c.ended else c.ended
                     lastEdge := t, edgeTime := t, lastDir := dir }
  if c.still then { c1 with still := false, provisional := true, period := none }
  else if reversal then { c1 with provisional := true, period := none, freq := none }
  else { c1 with provisional := false, period := some (t - c.lastEdge) }

/-- The speed of the period method at a time (R377, R387, R389); `none` where the manual states no result. -/
def Cell.periodSpeed (c : Cell) (t : Nat) : Option Rat :=
  if c.still || c.provisional then some 0
  else
    match c.period with
    | none => some 0
    | some p =>
      let m := max p (t - c.lastEdge)
      if m = 0 then none else some ((c.lastDir : Rat) * ticksPerSecond / (m : Rat))

/-- The speed and method of modes 1 and 2 at the last sample event (R377 to R382); `f` is the free value where the manual states no result.
At a window end the cell reports the value of the window where it was, or now is, on the frequency method. -/
def Cell.evaluate (c : Cell) (hi lo : Nat) (f : Rat) : Cell :=
  let p := (c.periodSpeed c.eventAt).getD f
  let rest := c.still || c.provisional
  if c.atEnd then
    let v := c.ended.value.map (fun x => x.getD f)
    let shown := v.getD p
    let methodF := if c.wasF then decide ((lo : Rat) ≤ rabs shown) else decide ((hi : Rat) ≤ rabs p)
    { c with freq := v, methodF := methodF && !c.still, speed := if rest then 0 else if c.wasF || methodF then shown else p }
  else { c with methodF := c.wasF && !c.still, speed := if rest then 0 else if c.wasF then c.freq.getD p else p }

/-- A sample event of modes 1 and 2: one more event of the window, and the measurement. -/
def Cell.measureEdges (c : Cell) (window hi lo : Nat) (f : Rat) : Cell :=
  let n := c.winEvents + 1
  let c1 : Cell := { c with wasF := c.methodF }
  if n < window then ({ c1 with winEvents := n, atEnd := false }).evaluate hi lo f
  else ({ c1 with winEvents := 0, ended := c.win, win := {}, atEnd := true }).evaluate hi lo f

/-- The measurement of modes 3 and 4 at a sample event with the position delivered there (R384 to R391). -/
def Cell.measureDiff (c : Cell) (t : Nat) (window band : Nat) (f : Rat) : Cell :=
  let edge := decide ((band : Int) < (c.sampled - c.centre).natAbs)
  let dir : Int := if c.centre < c.sampled then 1 else -1
  let starts := edge && (c.still || dir != c.lastDir)
  let hist := if starts then [(t, c.sampled)] else ((t, c.sampled) :: c.hist).take 65
  let c1 :=
    if edge then
      { c with centre := c.sampled, lastEdge := t, edgeTime := t, lastDir := dir, still := false, provisional := starts, hist := hist }
    else { c with hist := hist }
  let v : Rat :=
    if c1.still || c1.provisional then 0
    else
      match (c1.hist.take (window + 1)).getLast? with
      | some (tj, pj) => if t ≤ tj then f else ((c1.sampled - pj : Int) : Rat) * ticksPerSecond / ((t - tj : Nat) : Rat)
      | none => 0
  { c1 with speed := v }

/-! ### Compare unit (R396 to R405) -/

/-- One hit at a time, or k values passed at one evaluation (R400, R402 to R405). -/
def State.compareHit (s : State) (k : CellNo) (values : Nat) (t : Nat) : State :=
  s.modCell k (fun c =>
    let hits := c.cmpHits + 1
    { c with
      cmpNext := c.cmpNext + (values : Int) * fbCmpSpacing s k, cmpHits := hits, cmpSkips := c.cmpSkips + BitVec.ofNat 32 (values - 1)
      cmpLast := t, cmpDone := c.cmpDone || (decide (fbCmpCount s k ≠ 0) && decide (fbCmpCount s k ≤ hits.toNat))
      cmpUntil := if fbCmpOutput s k = 1 then some (s.now + 16 * fbCmpWidth s k) else c.cmpUntil })

/-- Compare values passed in a move from one position to another. DEDUCED, log entry 27: a value counts where the move crosses it. -/
def valuesPassed (next spacing old new : Int) : Nat :=
  if 0 < spacing then (if old < next ∧ next ≤ new then ((new - next) / spacing).toNat + 1 else 0)
  else if spacing < 0 then (if next < old ∧ new ≤ next then ((next - new) / (-spacing)).toNat + 1 else 0)
  else 0

/-- The compare unit looks at a move that took place between two times (R398, R401, R402). -/
def State.compareMove (s : State) (k : CellNo) (old new : Int) (t0 t1 : Nat) : State :=
  let c := s.cell[k]
  if fbCmpEnable s k = 1 ∧ c.cmpDone = false then
    let n := valuesPassed c.cmpNext (fbCmpSpacing s k) old new
    if n = 0 then s
    else
      let t : Int := if old = new then (t1 : Int) else (t0 : Int) + ((t1 : Int) - t0) * (c.cmpNext - old) / (new - old)
      s.compareHit k n t.toNat
  else s

/-! ### Probes (R406 to R416) -/

/-- Store a capture: all probe fields together (R413 to R416). The position is its value and its 1/65,536 fraction. -/
def State.probeStore (s : State) (q : QuayNo) (t : Nat) (falling : Bool) (pos : Int) (frac : Nat) : State :=
  s.modQuay q (fun x => { x with probe := { x.probe with
    captured := true, falling := falling, time := t, pos := pos, frac := BitVec.ofNat 16 frac, count := x.probe.count + 1 } })

/-- Store a captured rational position (R413). -/
def State.probeStoreRat (s : State) (q : QuayNo) (t : Nat) (falling : Bool) (p : Rat) : State :=
  s.probeStore q t falling p.floor ((p - p.floor) * 65536).floor.toNat

/-- The position at a time between two evaluations, newest first, by linear interpolation (R410, R411). The manual states none before the
first one: there `f`. -/
def bracket (f : Int) (t : Nat) : List (Nat × Int) → Rat
  | (t1, p1) :: (t0, p0) :: rest =>
    if t0 ≤ t then
      (if t1 ≤ t0 then (p1 : Rat) else (p0 : Rat) + ((p1 - p0 : Int) : Rat) * ((t - t0 : Nat) : Rat) / ((t1 - t0 : Nat) : Rat))
    else bracket f t ((t0, p0) :: rest)
  | [(t1, p1)] => if t1 = t then (p1 : Rat) else f
  | [] => f

/-- The evaluations a cell keeps: enough for the longest probe filter. -/
def Cell.addEval (c : Cell) (t : Nat) (pos : Int) : Cell := { c with evals := ((t, pos) :: c.evals).take 8 }

/-- Waiting probe edges of the quay whose primary cell has an evaluation at or after their time now are captured, in their order (R410, R411,
R415). -/
def State.probeResolve (s : State) (k : CellNo) : State :=
  match s.cellQuay k, s.cell[k].evals.head? with
  | some q, some (t1, _) =>
    if s.primaryCell q ≠ some k then s
    else
      let ready := s.quay[q].probe.waiting.filter (fun e => decide (e.1 ≤ t1))
      let s1 := forAll ready s (fun u e => u.probeStoreRat q e.1 e.2 (bracket (Config.freeInt s.free) e.1 s.cell[k].evals))
      s1.modQuay q (fun x => { x with probe := { x.probe with waiting := x.probe.waiting.filter (fun e => decide (t1 < e.1)) } })
  | _, _ => s

/-- The vector position of a stepper at a time (R412). -/
def StepKern.mAt (x : StepKern) (t : Nat) : Int :=
  match x.ms.find? (fun e => decide (e.1 ≤ t)) with
  | some e => e.2
  | none => x.m

/-- What a cell held at a time not after the present (R409). -/
def Cell.heldAt (c : Cell) (t : Nat) : HeldCount :=
  (c.held.find? (fun h => decide (t < h.until_))).getD
    { until_ := t + 1, pos := c.pos, lastEdge := c.lastEdge, lastDir := c.lastDir, period := c.period, moving := !c.still && !c.provisional }

/-- The probed position of modes 1 and 2 (R409). -/
def HeldCount.probed (h : HeldCount) (t : Nat) : Rat :=
  let frac : Nat := match h.period with
    | some p => if !h.moving || p == 0 then 0 else min 65535 (65536 * (t - h.lastEdge) / p)
    | none => 0
  (h.pos : Rat) + (h.lastDir : Rat) * (frac : Rat) / 65536

/-- Waiting probe edges of a counting primary cell are captured, in their order, once its filter has let through every edge stamped at or
before them (R409, R415, R416). -/
def State.probeSettle (s : State) (q : QuayNo) : State :=
  match s.primaryCell q with
  | none => s
  | some k =>
    if fbMode s k = 3 ∨ fbMode s k = 4 then s
    else
      let due (e : Nat × Bool) : Bool := decide (e.1 + 16 * fbFilter s k ≤ s.now)
      let s1 := forAll (s.quay[q].probe.waiting.filter due) s (fun u e => u.probeStoreRat q e.1 e.2 ((u.cell[k].heldAt e.1).probed e.1))
      s1.modQuay q (fun x => { x with probe := { x.probe with waiting := x.probe.waiting.filter (fun e => !due e) } })

/-- The probe of a quay as a read finds it: with every capture whose position is complete by now (R416). -/
def State.probeNow (s : State) (q : QuayNo) : Probe := (s.probeSettle q).quay[q].probe

/-- The counting cell has counted: the waiting edges of its quay's probe may now be complete. -/
def State.probeCell (s : State) (k : CellNo) : State :=
  match s.cellQuay k with
  | some q => if s.primaryCell q = some k then s.probeSettle q else s
  | none => s

/-- The ball of a quay's probe serves it: FBk_Z of its primary cell, or PRBq where the image gives it to the quay (R69, R180, R406). -/
def State.probeWired (s : State) (q : QuayNo) : Bool :=
  if quayProbeSource s q = 1 then (s.primaryCell q).isSome else s.ownerOf 6 (3 * q.val + 2) == .quay q

/-- PROBE_EDGE (R408 to R415). -/
def execProbeEdge (q : QuayNo) (rising : Bool) (s : State) : Host.Outcome State Fault Refusal :=
  let x := s.quay[q]
  let mode := quayProbeMode s q
  let matches_ := if rising then quayProbeEdge s q % 2 = 1 else 2 ≤ quayProbeEdge s q
  if s.afterStep10 && s.probeWired q && decide (mode ≠ 0) && decide matches_ && (x.probe.armed || decide (mode = 2)) then
    let t := stampOf s.now (quayProbeFilter s q)
    let s1 := s.modQuay q (fun y => { y with probe := { y.probe with armed := false } })
    match s.primaryCell q with
    | none =>
      if s.isStepper q then .next (s1.probeStore q t (!rising) (x.kern.step.mAt t) 0)
      else if s.isPulse q then .next (s1.probeStore q t (!rising) (x.pulse.emittedAt t) 0)
      else .next (s1.drawn.probeStore q t (!rising) (Config.freeInt s.free) 0)
    | some k =>
      let c := s.cell[k]
      let s2 := s1.modQuay q (fun y => { y with probe := { y.probe with waiting := y.probe.waiting ++ [(t, !rising)] } })
      .next (if fbMode s k = 3 ∨ fbMode s k = 4 then s2.probeResolve k else s2.probeSettle q)
  else .next s

/-! ### Emulation (R417 to R425) -/

/-- The emulated position for a source value: floor(S × 4 × lines / C_s) (R419). -/
def emulated (src lines : Int) (cs : Nat) : Int := if cs = 0 then 0 else (src * 4 * lines) / (cs : Int)

/-- Output of the emulation at a time: the steps due so far (R420, R421). -/
def Cell.emuNow (c : Cell) (now : Nat) : Int :=
  let n := c.emuSteps.natAbs
  let done := if c.emuPeriod = 0 then n else min n ((now - c.emuStart) * n / c.emuPeriod)
  c.emuBase + (if 0 ≤ c.emuSteps then (done : Int) else -(done : Int))

/-- The output of the emulation now shown. -/
def Cell.emuShow (c : Cell) (out : Int) : Cell := { c with emuOut := out }

/-- The emulated position E: the target, and Z with it (R419, R423). -/
def Cell.emuTarget (c : Cell) (e : Int) (lines : Nat) : Cell := { c with emuE := e, emuZ := decide (e % (4 * (lines : Int)) = 0) }

/-- The quay that a record of EMU_OVERRUN names: the owner of the cell, or the source quay for a cell of the device (R422, R427). -/
def State.emuQuay (s : State) (k : CellNo) : Option QuayNo :=
  match s.cellQuay k with
  | some q => some q
  | none => if h : fbEmuQuay s k < 12 then some ⟨fbEmuQuay s k, h⟩ else none

/-- A delivery of the source gives the emulation its E and the step count to reach: steps spaced evenly over the ticks until the next
delivery, at most one each 100 ns; the rest is lag (R420 to R422). -/
def State.emulate (s : State) (k : CellNo) (e target : Int) (period : Nat) : State :=
  let c := s.cell[k]
  let out := c.emuNow s.now
  let todo := target - out
  let n := min todo.natAbs (period / 640)
  let steps : Int := if 0 ≤ todo then n else -(n : Int)
  let lag := todo - steps
  let s1 := s.modCell k (fun c =>
    let c1 := (c.emuShow out).emuTarget e (fbEmuLines s k)
    { c1 with emuGoal := target, emuBase := out, emuSteps := steps, emuStart := s.now, emuPeriod := period, emuLag := lag, emuLagF := decide (lag ≠ 0) })
  if lag ≠ 0 ∧ c.emuLagF = false then
    (match s.emuQuay k with
     | some q => s1.raiseQuay srcEmuOverrun q (instCtx k.val)
     | none => s1)
  else s1

/-- The source delivers a stale value or none: the output holds (R425). -/
def State.emuHold (s : State) (k : CellNo) : State :=
  s.modCell k (fun c => { c with emuOut := c.emuNow s.now, emuBase := c.emuNow s.now, emuSteps := 0, emuPeriod := 0 })

/-- The period of the deliveries of a quay, 0 where there is no quay. -/
def State.cellPeriod (s : State) (k : CellNo) : Nat :=
  match s.cellQuay k with
  | some q => s.loopPeriod q
  | none => 0

/-- Emulation from the own position of a cell at its delivery (R419, R420, R425), until the next one: that of a counting cell follows a period
after the sample event, that of another cell a period after its present delivery. -/
def State.emulateOwn (s : State) (k : CellNo) (stale : Bool) : State :=
  if fbEmuSource s k ≠ 1 ∨ s.cellUsed k = false then s
  else if stale then s.emuHold k
  else
    let e := emulated (s.cell[k].sampled - fbEmuZero s k) (fbEmuLines s k) (s.countsPerRev k)
    s.emulate k e e (if fbMode s k ≤ 2 then s.cell[k].eventAt + s.cellPeriod k - s.now else s.cellPeriod k)

/-- Fold a step count of an emulation whose source is an angle into half a turn either way. -/
def foldTurn (d m : Int) : Int := if m ≤ 0 then d else let r := d % m; if 2 * r < m then r else r - m

/-- Emulation from the mechanical angle of a quay, once its iteration has formed it; a stale angle holds the output (R419, R420, R425).
DEDUCED, log entry 27: from one E to the next the target goes the short way round the turn, so that lag is kept over any number of turns
(R422). -/
def State.emulateAngle (s : State) (q : QuayNo) (stale : Bool) : State :=
  forAll (List.finRange 16) s (fun t k =>
    if fbEmuSource t k = 2 ∧ fbEmuQuay t k = q.val ∧ t.cellUsed k = true then
      if stale then t.emuHold k
      else
        let m := 4 * (fbEmuLines t k : Int)
        let e := emulated ((t.quay[q].kern.reg.thetaM - BitVec.ofNat 32 (fbEmuZero t k)).toNat : Int) (fbEmuLines t k) 4294967296
        let goal := t.cell[k].emuGoal
        t.emulate k e (goal + foldTurn (e - goal) m) (t.loopPeriod q)
    else t)

/-- EMULATION_TIMING (R420 to R423): the outputs show the steps due by now. -/
def execEmulationTiming (k : CellNo) (s : State) : Host.Outcome State Fault Refusal :=
  if fbEmuSource s k = 0 ∨ s.cellUsed k = false then .next s
  else .next (s.modCell k (fun c => c.emuShow (c.emuNow s.now)))

/-! ### What a cell delivers (R393) -/

/-- The delivery of a cell at its last sample event, all items as that event finds them. -/
def State.viewNow (s : State) (k : CellNo) : CellView :=
  let c := s.cell[k]
  { cell := k, status := c.status, pos := c.sampled, speed := c.speed, still := c.still, provisional := c.provisional, bad := c.bad
    hall := if fbMode s k = 2 then some c.hall else none, lastEdge := c.edgeTime, dir := c.lastDir, latches := c.latches, latch := c.indexLatch }

/-- What a cell delivered at its last sample event; before the first one what it shows now. -/
def State.viewOf (s : State) (k : CellNo) : CellView := s.cell[k].given.getD (s.viewNow k)

/-- A view in place of the one of the same cell. -/
def Snapshot.setView (x : Snapshot) (v : CellView) : Snapshot := { x with cells := v :: x.cells.filter (fun w => w.cell != v.cell) }

/-- Deliver: the view of the cell, in the open snapshot of its quay where that is of the same sample event. -/
def State.give (s : State) (k : CellNo) : State :=
  let v := s.viewNow k
  let s1 := s.modCell k (fun c => { c with given := some v })
  match s.cellQuay k with
  | some q => if s.quay[q].form.isOpen && s.quay[q].form.time == s.cell[k].sampledAt then
      s1.modQuay q (fun x => { x with form := x.form.setView v }) else s1
  | none => s1

/-! ### Counting (R339, R344 to R349) -/

/-- The filter has let a change of a line through: the level before has lasted its length (R339). -/
def Cell.accepts (c : Cell) (line : Fin 3) (filter now : Nat) : Bool :=
  match c.lineAt[line] with
  | some t => decide (t + 16 * filter ≤ now)
  | none => true

/-- Note an accepted change of the lines that differ. -/
def Cell.noteLines (c : Cell) (ls : List (Fin 3 × Bool)) (now : Nat) : Cell :=
  ls.foldl (fun x e => if e.2 then { x with lineAt := x.lineAt.set e.1 (some now) } else x) c

/-- A counted step of modes 1 and 2: the count, and the delivery it still belongs to with its emulation (R393, R420); compare and edge time
(R400). A delivery that came too late for its snapshot and went out stale stays as it is (R75). -/
def State.countStep (s : State) (k : CellNo) (dir : Int) : State :=
  let t := stampOf s.now (fbFilter s k)
  let c0 := s.cell[k]
  let early := c0.beforePreset t
  let c := if early.isSome then { c0.shift (-dir) with presetAt := c0.presetAt.map (fun e => (e.1, e.2 - dir)) } else c0
  let old := c.pos
  let late := decide (t ≤ c.eventAt) && !c.stale
  let before : HeldCount := { until_ := t, pos := old, lastEdge := c.lastEdge, lastDir := c.lastDir, period := c.period, moving := !c.still && !c.provisional }
  let s1 := s.modCell k (fun _ =>
    let c1 := { c.countedEdge dir t with
      pos := c.pos + dir, illegalHere := false, held := (c.held ++ [before]).filter (fun h => decide (s.now ≤ h.until_ + 20800)) }
    if late then ({ c1 with sampled := c1.sampled + dir }).evaluate (fbMethodHi s k) (fbMethodLo s k) (Config.freeRat s.free) else c1)
  let s2 := if late then (s1.give k).emulateOwn k false else s1
  let from_ := early.getD old
  (s2.compareMove k from_ (from_ + dir) t t).probeCell k

/-- An illegal transition (R345, R348). In modes 1 and 2 one stamped at or before the last sample event belongs to the delivery of that event
(R393). -/
def State.illegal (s : State) (k : CellNo) : State :=
  let s1 := ((s.modCell k (fun c => { c with illegal := c.illegal + 1, illegalHere := true })).setUnsure k).raiseCell srcIllegalEdge k
  if fbMode s k ≤ 2 ∧ stampOf s.now (fbFilter s k) ≤ s.cell[k].eventAt ∧ s.cell[k].stale = false then s1.give k else s1

/-- Place of (A, B) in the forward sequence 00, 10, 11, 01 (R344). -/
def quadPlace (a b : Bool) : Nat :=
  match a, b with
  | false, false => 0
  | true, false => 1
  | true, true => 2
  | false, true => 3

/-- A sign inverted by `fb.dir` (R344, R1074). -/
def dirSign (s : State) (k : CellNo) (d : Int) : Int := if fbDir s k = 1 then -d else d

/-- The filter lets the changes of some lines through (R339). -/
def State.linesAccept (s : State) (k : CellNo) (ls : List (Fin 3 × Bool)) : Bool :=
  ls.all (fun e => !e.2 || s.cell[k].accepts e.1 (fbFilter s k) s.now)

/-- FB_EDGE (R339, R344, R345): the levels of A and B after an accepted change. -/
def execFbEdge (k : CellNo) (a b : Bool) (s : State) : Host.Outcome State Fault Refusal :=
  let c := s.cell[k]
  let s1 := s.modCell k (fun x => { x.noteLines [(0, x.a != a), (1, x.b != b)] s.now with a := a, b := b })
  if !s.afterStep10 then .next s1
  else if fbMode s k = 4 then .next s
  else if fbMode s k ≠ 1 ∨ s.cellUsed k = false then .next s1
  else if c.a = a ∧ c.b = b then .next s
  else if !s.linesAccept k [(0, c.a != a), (1, c.b != b)] then .next s
  else if c.a ≠ a ∧ c.b ≠ b then .next (s1.illegal k)
  else
    let fwd := decide ((quadPlace c.a c.b + 1) % 4 = quadPlace a b)
    .next (s1.countStep k (dirSign s k (if fwd then 1 else -1)))

/-- Place of a valid Hall state in the sequence 1, 3, 2, 6, 4, 5 (R346). -/
def hallPlace (st : BitVec 3) : Option Nat :=
  match st.toNat with
  | 1 => some 0
  | 3 => some 1
  | 2 => some 2
  | 6 => some 3
  | 4 => some 4
  | 5 => some 5
  | _ => none

/-- The sector of a Hall state in the forward sequence that `fb.hall_order` names (R346, R436). -/
def hallSector (order : Nat) (st : BitVec 3) : Option Nat :=
  (hallPlace st).map (fun p => if order = 1 then (6 - p) % 6 else p)

/-- The lines of the Hall sensors that differ. -/
def hallLines (x y : BitVec 3) : List (Fin 3 × Bool) := (List.finRange 3).map (fun i => (i, x.getLsbD i.val != y.getLsbD i.val))

/-- HALL_CHANGE (R339, R346 to R349, R1074). -/
def execHallChange (k : CellNo) (st : BitVec 3) (s : State) : Host.Outcome State Fault Refusal :=
  let c := s.cell[k]
  let s1 := s.modCell k (fun x => { x.noteLines (hallLines x.hall st) s.now with hall := st })
  if !s.afterStep10 then .next s1
  else if fbMode s k ≠ 2 ∨ s.cellUsed k = false then .next s1
  else if c.hall = st then .next s
  else if !s.linesAccept k (hallLines c.hall st) then .next s
  else
    match hallSector (fbHallOrder s k) st with
    | none => .next ((s1.modCell k (fun x => { x with lastHall := none })).raiseCell srcHallIllegal k)
    | some p =>
      let s2 := s1.modCell k (fun x => { x with lastHall := some st })
      match c.lastHall.bind (hallSector (fbHallOrder s k)) with
      | none => .next s2
      | some p0 =>
        if (p0 + 1) % 6 = p then .next (s2.countStep k (dirSign s k 1))
        else if (p + 1) % 6 = p0 then .next (s2.countStep k (dirSign s k (-1)))
        else .next (s2.illegal k)

/-! ### Index (R350 to R357) -/

/-- The count an index latch takes: the counter's value. DEDUCED, log entry 28: in mode 4 the start of the quadrant in force. -/
def State.latchCount (s : State) (k : CellNo) : Int :=
  let c := s.cell[k]
  if fbMode s k = 4 then
    (match c.quad with
     | some n => 1024 * n + c.offset
     | none => c.pos)
  else c.pos

/-- Fold d into −C/2 to C/2 − 1 (R353). -/
def foldRev (d : Int) (c : Nat) : Int :=
  if c = 0 then d else let r := d % (c : Int); if 2 * r < (c : Int) then r else r - c

/-- INDEX_LATCH (R350 to R357): the gate condition of Z is met. -/
def execIndexLatch (k : CellNo) (s : State) : Host.Outcome State Fault Refusal :=
  let c := s.cell[k]
  let g := fbIndexGate s k
  let gate := decide (g < 4) || (c.a == decide (g % 2 = 1) && c.b == decide (g / 2 % 2 = 1))
  if s.afterStep10 && s.cellUsed k && decide (fbMode s k = 1 ∨ fbMode s k = 4) && decide (fbIndexEnable s k = 1) && gate then
    let l := s.latchCount k
    let s1 := s.modCell k (fun x => { x with indexLatch := l, latches := x.latches + 1 })
    match c.indexRef with
    | none => .next (s1.modCell k (fun x => { x with indexRef := some l }))
    | some r =>
      if c.illegalHere then .next s1
      else
        let d := foldRev (l - r) (s.countsPerRev k)
        let s2 := s1.modCell k (fun x => { x with indexDev := d })
        if fbDriftTol s k < d.natAbs then
          .next (((s2.modCell k (fun x => { x with drift := d })).setUnsure k).raiseCell srcCountDrift k)
        else .next ((s2.modCell k (fun x => { x with drift := 0 })).clearUnsure k)
  else .next s

/-! ### Line faults and standstill (R342, R386, R403) -/

/-- FB_WIRE (R342). -/
def execFbWire (k : CellNo) (s : State) : Host.Outcome State Fault Refusal :=
  if s.afterStep10 && s.cellUsed k && decide (fbMode s k = 1 ∨ fbMode s k = 4) && !s.cell[k].wire then
    .next ((s.modCell k (fun c => { c with wire := true })).raiseCell srcFbWire k)
  else .next s

/-- FB_WIRE_CLEAR (R342): the line fault of a cell in mode 1 or 4 has ended. -/
def execFbWireClear (k : CellNo) (s : State) : Host.Outcome State Fault Refusal :=
  if fbMode s k = 3 then .next s else .next (s.modCell k (fun c => { c with wire := false }))

/-- FB_STILL_TIMEOUT (R386): at a sample event `fb.t_still` after the last edge. In modes 1 and 2 the delivery of that event shows it. -/
def execFbStillTimeout (k : CellNo) (s : State) : Host.Outcome State Fault Refusal :=
  let c := s.cell[k]
  if s.afterStep10 && decide (fbMode s k ≠ 0) && decide (c.eventAt = s.now) && decide (c.lastEdge + us (fbTStill s k) ≤ s.now) && !c.still then
    let s1 := s.modCell k (fun x => { x with
      still := true, provisional := false, speed := 0, methodF := false, wasF := false, freq := none, period := none })
    .next (if fbMode s k ≤ 2 then s1.give k else s1)
  else .next s

/-- COMPARE_PULSE_END (R403, R404). -/
def execComparePulseEnd (k : CellNo) (s : State) : Host.Outcome State Fault Refusal :=
  match s.cell[k].cmpUntil with
  | some t => if s.now < t then .next s else .next (s.modCell k (fun c => { c with cmpUntil := none }))
  | none => .next s

/-! ### Delivery (R58, R393) -/

/-- The snapshot of the cell's quay has its input, where it is of the sample event the cell has delivered for (R74). -/
def State.cellArrived (s : State) (k : CellNo) : State :=
  match s.cellQuay k with
  | some q => if s.quay[q].form.time = s.cell[k].sampledAt then s.inputArrived q (.cell k) else s
  | none => s

/-- Delivery of a cell in mode 1 or 2 at a sample event. -/
def State.deliverEdges (s : State) (k : CellNo) : State :=
  let s1 := (s.modCell k (fun c =>
    let c1 := { c.applyPreset s.now with prior := c.given }
    ({ c1 with sampled := c1.pos, sampledAt := s.now, eventAt := s.now, stale := false, ssiErr := false }).measureEdges (fbFreqWindow s k)
      (fbMethodHi s k) (fbMethodLo s k) (Config.freeRat s.free))).drawn
  (s1.give k).emulateOwn k false

/-- A sample event of a cell in mode 3 or 4 starts a transfer or a conversion (R358, R368); a preset is for that event (R394). -/
def State.startConversion (s : State) (k : CellNo) : State :=
  s.modCell k (fun c => { c with
    await := some s.now, eventAt := s.now, convStart := s.now, preset := none, presetNow := c.preset.or c.presetNow })

/-- Delivery of a position of mode 3 or 4 that belongs to the sample event at t. -/
def State.deliverPosition (s : State) (k : CellNo) (t : Nat) : State :=
  let s1 := (s.modCell k (fun c =>
    let c1 := c.applyPresetNow
    ({ c1 with sampled := c1.pos, sampledAt := t, await := none, stale := false, ssiErr := c1.ssiErr && decide (fbMode s k = 3) }).measureDiff t
      (fbFreqWindow s k) (fbStillBand s k) (Config.freeRat s.free))).drawn
  ((s1.give k).emulateOwn k false).cellArrived k

/-- The previous position and speed stand for a sample event, flagged stale; the event counts for the difference method (R361, R384, R394). -/
def Cell.staleAt (c : Cell) (t : Nat) : Cell :=
  let c1 := c.applyPresetNow
  { c1 with sampledAt := t, await := none, stale := true, hist := ((t, c1.sampled) :: c1.hist).take 65 }

/-- The same of a cell in mode 1 or 2 whose filter still ran when the snapshot closed (R75): it shows the delivery before. -/
def Cell.staleEdges (c : Cell) : Cell :=
  match c.prior with
  | some v => { c with stale := true, sampled := v.pos, speed := v.speed }
  | none => { c with stale := true }

/-- Delivery of the previous position and speed, flagged stale (R361). -/
def State.deliverStale (s : State) (k : CellNo) (t : Nat) : State :=
  (((s.modCell k (fun c => c.staleAt t)).give k).emulateOwn k true).cellArrived k

/-! ### SSI (R358 to R367) -/

/-- Gray to binary (R362). -/
def grayToBinary (w : BitVec 32) : BitVec 32 :=
  let a := w ^^^ (w >>> 1)
  let b := a ^^^ (a >>> 2)
  let c := b ^^^ (b >>> 4)
  let d := c ^^^ (c >>> 8)
  d ^^^ (d >>> 16)

/-- The number of ones of a word. -/
def ones (w : BitVec 32) : Nat := (List.range 32).foldl (fun n i => if w.getLsbD i then n + 1 else n) 0

/-- The value of an SSI frame (R362, R1074). -/
def State.ssiValue (s : State) (k : CellNo) (data : BitVec 32) : Nat :=
  let n := fbSsiBits s k
  let raw := BitVec.ofNat 32 (data.toNat % 2 ^ n)
  let v := (if fbSsiCode s k = 1 then grayToBinary raw else raw).toNat
  if fbDir s k = 1 then 2 ^ n - 1 - v else v

/-- The change from the previous value, folded to a signed value (R363). -/
def ssiDelta (bits prev value : Nat) : Int := foldRev ((value : Int) - prev) (2 ^ bits)

/-- Parity of a frame holds (R359; 1 even, 2 odd). -/
def ssiParityOk (mode : Nat) (data : BitVec 32) (parity : Bool) : Bool :=
  let n := ones data + (if parity then 1 else 0)
  match mode with
  | 1 => n % 2 == 0
  | 2 => n % 2 == 1
  | _ => true

/-- Ticks from the first falling clock edge to the rising edge after the last bit, rounded up (R359, R365). -/
def State.ssiTicks (s : State) (k : CellNo) : Nat :=
  let bits := fbSsiBits s k + 1 + (if fbSsiParity s k = 0 then 0 else 1)
  if fbSsiClock s k = 0 then 0 else (bits * 6400000000 + fbSsiClock s k - 1) / fbSsiClock s k

/-- SSI_FRAME_END (R343, R358 to R364, R1074), once the clock has run through the frame. -/
def execSsiFrameEnd (k : CellNo) (frame : SsiFrame) (s : State) : Host.Outcome State Fault Refusal :=
  let c := s.cell[k]
  match c.await with
  | none => .next s
  | some t =>
    if fbMode s k ≠ 3 ∨ s.now < t + s.ssiTicks k then .next s
    else
      let n := fbSsiBits s k
      let mask := BitVec.ofNat 32 (2 ^ n - 1)
      let par := fbSsiParity s k
      let data := frame.data &&& mask
      let high := frame.ready && data == mask && (decide (par = 0) || frame.parity) && frame.tail
      let v := s.ssiValue k data
      let jump := match c.ssiPrev with
        | some p => decide (fbSsiMaxStep s k < (ssiDelta n p v).natAbs)
        | none => false
      let fail : Option Byte :=
        if !frame.ready then some 1 else if !ssiParityOk par data frame.parity then some 2
        else if frame.tail then some 4 else if jump then some 8 else none
      if high then
        .next (((s.modCell k (fun x => { x with wire := true, ssiErr := true })).raiseCell srcFbWire k).deliverStale k t)
      else
        match fail with
        | some sub => .next (((s.modCell k (fun x => { x with ssiErr := true, wire := false })).raiseCell srcSsiFrame k sub).deliverStale k t)
        | none =>
          let pos := match c.ssiPrev with
            | some p => c.pos + ssiDelta n p v
            | none => (v : Int)
          let s1 := s.modCell k (fun x => { x with ssiErr := false, wire := false, pos := pos, ssiPrev := some v })
          let s2 := match c.evals.head? with
            | some (t0, p0) => s1.compareMove k p0 pos t0 t
            | none => s1
          .next (((s2.modCell k (fun x => x.addEval t pos)).probeResolve k).deliverPosition k t)

/-! ### Sine/cosine (R368 to R376) -/

/-- The quadrant of the signs of sine and cosine, in the sense in which the fine angle increases (R370, R1074). -/
def signQuadrant (inverted a b : Bool) : Nat :=
  match (if inverted then !a else a), b with
  | true, true => 0
  | true, false => 1
  | false, false => 2
  | false, true => 3

/-- QUADRANT_CHANGE (R370, R345): the sign comparators after an accepted change. -/
def execQuadrantChange (k : CellNo) (a b : Bool) (s : State) : Host.Outcome State Fault Refusal :=
  let c := s.cell[k]
  let s1 := s.modCell k (fun x => { x.noteLines [(0, x.a != a), (1, x.b != b)] s.now with a := a, b := b })
  if !s.afterStep10 then .next s1
  else if fbMode s k = 1 then .next s
  else if fbMode s k ≠ 4 ∨ s.cellUsed k = false then .next s1
  else if c.a = a ∧ c.b = b then .next s
  else if !s.linesAccept k [(0, c.a != a), (1, c.b != b)] then .next s
  else if c.a ≠ a ∧ c.b ≠ b then .next (s1.illegal k)
  else
    let inv := decide (fbDir s k = 1)
    let d : Int := if (signQuadrant inv c.a c.b + 1) % 4 = signQuadrant inv a b then 1 else -1
    .next (s1.modCell k (fun x => { x with quad := x.quad.map (fun n => n + d), illegalHere := false }))

/-- Microvolts of a code of the sine/cosine ADCs: their full scale of 2 V (R1057) over 16 bits (R368). DEDUCED, log entry 12. -/
def sincosLsb : Rat := 2000000 / 65536

/-- The amplitude of a conversion against its band, and `fb.ampl` (R373, R374): the source is raised once while it stays outside. -/
def State.amplitude (s : State) (k : CellNo) (sin cos : BitVec 16) : State :=
  let sq : Rat := ((sin.toInt * sin.toInt + cos.toInt * cos.toInt : Int) : Rat) * sincosLsb * sincosLsb
  let lo := 500 * (fbAmplMin s k : Rat)
  let hi := 500 * (fbAmplMax s k : Rat)
  let out := decide (sq < lo * lo) || decide (hi * hi < sq)
  let run := if out then s.cell[k].amplRun + 1 else 0
  let bad := out && (s.cell[k].ampl || decide (fbAmplCount s k ≤ run))
  let s1 := s.modCell k (fun x => { x with amplVal := BitVec.ofInt 16 (reportInt (sqrtQ sq / 500)), amplRun := run, ampl := bad })
  if bad && !s.cell[k].ampl then s1.raiseCell srcSincosAmpl k else s1

/-- The fine angle of a conversion, 4,096 steps a signal period (R369, R1074). -/
def State.fineAngle (s : State) (k : CellNo) (sin cos : BitVec 16) : Nat :=
  (atan2Turn (if fbDir s k = 1 then -(sin.toInt : Rat) else (sin.toInt : Rat)) (cos.toInt : Rat) >>> 20).toNat

/-- The start of the conversion that completes now: the one of a sample event, else the last of the sequence of one each 500 ns (R368). -/
def Cell.convTime (c : Cell) (now : Nat) : Nat := c.await.getD (c.convStart + (now - c.convStart) / 3200 * 3200)

/-- SINCOS_CONVERSION (R368 to R374, R376, R401, R410): the codes of sine and cosine. A conversion of the sequence completes once. -/
def execSincosConversion (k : CellNo) (sin cos : BitVec 16) (s : State) : Host.Outcome State Fault Refusal :=
  let c := s.cell[k]
  let t := c.convTime s.now
  let again := match c.evals.head? with
    | some (t0, _) => decide (t ≤ t0)
    | none => false
  if !(s.afterStep10 && s.cellUsed k && decide (fbMode s k = 4)) || (again && c.await.isNone) then .next s
  else
    let s0 := s.amplitude k sin cos
    let fine := s.fineAngle k sin cos
    let fq : Int := fine / 1024
    let n := c.quad.getD fq
    let diff := (fq - n) % 4
    let n' := if diff = 1 then n + 1 else if diff = 3 then n - 1 else n
    if diff = 2 then
      let s1 := (s0.setUnsure k).raiseCell srcSincosLost k
      .next (if c.await.isSome then s1.deliverPosition k t else s1)
    else
      let pos := (n' / 4) * 4096 + fine + c.offset
      let s1 := s0.modCell k (fun x => { x with quad := some n', pos := pos })
      let s2 := if diff = 0 then s1 else s1.raiseCell srcSincosSync k
      let s3 := match c.evals.head? with
        | some (t0, p0) => s2.compareMove k p0 pos t0 t
        | none => s2
      let s4 := (s3.modCell k (fun x => x.addEval t pos)).probeResolve k
      .next (if c.await.isSome then s4.deliverPosition k t else s4)

/-! ### Sigma-delta and limit inputs -/

/-- The quay that owns a sigma-delta input (R69, R449). -/
def State.sdQuay (s : State) (n : Fin 16) : Option QuayNo :=
  match s.ownerOf 3 n.val with
  | .quay q => some q
  | _ => none

/-- Running sums of a bit stream: one integrator (R451). -/
def sincIntegrate (xs : List Int) : List Int := xs.foldl (fun acc x => acc ++ [acc.getLastD 0 + x]) [0]

/-- One comb: differences of values N apart (R451). -/
def comb (n : Nat) (xs : List Int) : List Int := List.zipWith (fun a b => b - a) xs (xs.drop n)

/-- The raw value of a sinc3 filter of decimation N over a window of 3N − 2 bits: three integrators and three combs (R451). -/
def sinc3 (n : Nat) (bits : List Bool) : Int :=
  (comb n (comb n (comb n (sincIntegrate (sincIntegrate (sincIntegrate (bits.map (fun b => if b then 1 else 0)))))))).headD 0

/-- Ticks of a clock period of a sigma-delta clock output: 400 MHz over its divider (R450). -/
def State.sdPeriod (s : State) (m : Nat) : Nat := 16 * devSdcDiv s m

/-- The last time at or before t at which a clock rises that has a period and rises at some time. -/
def lastRise (period : Nat) (phase : Int) (t : Nat) : Nat := if period = 0 then t else t - (((t : Int) - phase) % period).toNat

/-- The window of an input for a sample event (R452): the times of its first and last bit. DEDUCED, log entry 26: of two middle bits the
earlier one is meant, and of two bits equally near the event the earlier one. -/
def State.sdWindow (s : State) (n : Fin 16) (t : Nat) : Nat × Nat :=
  let m := devSdClock s n.val
  let p := s.sdPeriod m
  let phase := if h : m < 4 then s.tb.sdc[m] else 0
  let len := 3 * devSdDecim s n.val - 3
  let last :=
    if devSdAlign s n.val = 0 then lastRise p phase t
    else lastRise p phase (t + (p - 1) / 2) + (len - len / 2) * p
  (last - len * p, last)

/-- A sample event of the quay that owns an input: its window is placed (R452). -/
def State.placeWindow (s : State) (n : Fin 16) : State :=
  let w := s.sdWindow n s.now
  s.modSd n (fun y => { y with await := some s.now, first := w.1, last := w.2 })

/-- The value of an input in pu (R455). -/
def State.sdConvert (s : State) (n : Fin 16) (raw : Int) : Rat :=
  let d : Rat := devSdDecim s n.val
  (2 * (raw : Rat) / (d * d * d) - 1) * devSdGain s n.val - devSdOffset s n.val

/-- SD_VALUE_READY (R180, R451 to R455): the window of an input has been clocked in; its value belongs to the sample event of its quay. A
window of an input of the device ends with the last bit clocked. -/
def execSdValueReady (n : Fin 16) (bits : List Bool) (s : State) : Host.Outcome State Fault Refusal :=
  if s.afterStep10 && decide (devSdClock s n.val ≠ 255) && decide (bits.length = 3 * devSdDecim s n.val - 2) then
    let raw := sinc3 (devSdDecim s n.val) bits
    let v := s.sdConvert n raw
    match s.ownerOf 3 n.val with
    | .quay q =>
      match s.sd[n].await with
      | some t =>
        if s.now < s.sd[n].last then .next s
        else
          let s1 := s.modSd n (fun y => { y with raw := raw, value := v, at_ := t, await := none })
          .next (if s.quay[q].form.time = t then s1.inputArrived q (.sd n) (fun x => { x with sdv := setKey x.sdv n.val v }) else s1)
      | none => .next s
    | .unassigned => .next s
    | _ =>
      let w := s.sdWindow n s.now
      .next (s.modSd n (fun y => { y with raw := raw, value := v, at_ := s.now, first := w.1, last := w.2 }))
  else .next s

/-- SD_OVERRANGE (R456). -/
def execSdOverrange (n : Fin 16) (s : State) : Host.Outcome State Fault Refusal :=
  if s.afterStep10 && decide (devSdClock s n.val ≠ 255) && s.ownerOf 3 n.val != .unassigned then
    let s1 := s.modSd n (fun y => { y with ovr := true })
    match s.sdQuay n with
    | some q => .next (s1.raiseQuay srcSdOverrange q (instCtx n.val))
    | none => .next s1
  else .next s

/-- A limit input of a quay is active (R611): it has stayed at the level that `quay.lim_active` names for `quay.lim_filter`. -/
def State.limitActive (s : State) (q : QuayNo) (side : LimitSide) : Bool :=
  let x : LimitLevel := match side with
    | .positive => s.quay[q].limP
    | .negative => s.quay[q].limN
  let bit : Nat := match side with
    | .positive => 0
    | .negative => 1
  s.ownerOf 6 (3 * q.val + bit) == .quay q && x.level == (quayLimActive s q).testBit bit && decide (x.since + us (quayLimFilter s q) ≤ s.now)

/-- LIMIT_INPUT_CHANGE (R611): an input of the quay shows a level, at which it has stayed since a time. Whether it is active follows from
`quay.lim_active` and `quay.lim_filter` in force. -/
def execLimitInputChange (q : QuayNo) (side : LimitSide) (shown : LimitLevel) (s : State) : Host.Outcome State Fault Refusal :=
  .next (s.modQuay q (fun x => match side with
    | .positive => { x with limP := shown }
    | .negative => { x with limN := shown }))

end Sys2Proof.Machine
end

