-- ==== Sys2Proof/Machine/Flags.lean ====
section
/-! DEFINITION. Status words: quay status mirrors (R328), probes (R429), and the codes of enumerations. -/

namespace Sys2Proof.Machine

/-- Codes of axis states (R263). -/
def AxisState.code : AxisState → Nat
  | .off => 0
  | .armed => 1
  | .catching => 2
  | .running => 3
  | .stopping => 4
  | .hold => 5
  | .homing => 6
  | .faulted => 7
  | .safe => 8

/-- Codes of modes in the mirror (R328). -/
def Mode.code : Mode → Nat
  | .none => 0
  | .torque => 1
  | .speed => 2
  | .tension => 3
  | .position => 4

/-- Codes of leg kinds (R819, R830). -/
def legKindCode : LegKind → Nat
  | .off => 0
  | .switch => 1
  | .holdLow => 2
  | .holdHigh => 3

/-- Codes of lane states (R840). -/
def LaneState.code : LaneState → Nat
  | .down => 0
  | .training => 1
  | .aligning => 2
  | .identifying => 3
  | .attached => 4
  | .quarantined => 5
  | .detached => 6

/-- Codes of half states (R987). -/
def HalfState.code : HalfState → Nat
  | .reset => 0
  | .selfTest => 1
  | .rejoining => 2
  | .shadow => 3
  | .inCharge => 4

/-- Codes of `hw.mode` (R869). -/
def HwMode.code : HwMode → Nat
  | .alone => 0
  | .line => 1
  | .ring => 2

/-- `quay.probe_state` (R429): a probe in single mode shows its capture once all of it is there (R416). -/
def State.probeState (s : State) (q : QuayNo) : Nat :=
  let p := s.probeNow q
  (if quayProbeMode s q = 0 then 0 else if p.captured && !p.armed && (p.waiting.isEmpty || quayProbeMode s q == 2) then 2 else 1) + bit p.falling 7

/-- A motion of a quay is in progress: MOVING (R328, R596). DESIGN CHOICE, log entry 44: a motion that a STOP, a HOLD, a limit or a reaction has
ended is in progress until it has come to rest. -/
def State.moving (s : State) (q : QuayNo) : Bool :=
  match s.quay[q].core.motion with
  | some m => !(m.group && s.quay[q].kern.gen.inPos)
  | none => false

/-- A class-0 request flag is pending: C0_FLAG (R328). -/
def C0Buffer.flag (c : C0Buffer) : Bool := c.quick || c.stop || c.release

/-- Active winding sets, a bit per set (R328, R720). -/
def State.activeSets (s : State) (q : QuayNo) : Nat :=
  (List.finRange 4).foldl (fun n j => n + bit (s.setActive q j) j.val) 0

/-- A quay is a member of a share group (R557): of the quays with an FOC kernel, to which sharing belongs (R525). -/
def State.isMember (s : State) (q : QuayNo) : Bool :=
  quayShaftGroup s q != 0 && (quayShareRole s q == 1 || quayShareRole s q == 2) && s.hasKernel q && !s.isStepped q

/-- A member has no contributing partner (R574): its group is misformed, its master's last share value does not contribute, or no follower of a
master contributes. -/
def State.noPartner (s : State) (q : QuayNo) : Bool :=
  let x := s.quay[q].share
  x.config ||
    (if quayShareRole s q = 2 then !x.value.any (fun v => v.contributing)
     else x.followers.all (fun f => !f.inK && !(f.stat.contributing && decide (f.missing < quayShareLossCount s q))))

/-- The word at 0x014 of a quay status mirror (R328); STAND_ALONE is that of R574. -/
def State.mirrorFlags (s : State) (q : QuayNo) : Nat :=
  let x := s.quay[q]
  let c := s.primaryCell q
  bit (match c with | some k => s.cell[k].still | none => false) 0
  + bit (match c with | some k => s.cell[k].provisional | none => false) 1
  + bit (s.moving q) 2 + bit x.kern.gen.inPos 3 + bit x.core.homed 4 + bit x.kern.reg.voltLimit 5 + bit x.kern.reg.torqueLim 6
  + bit x.kern.reg.sensorless 7 + bit ((List.finRange 4).any (fun j => x.kern.reg.dropped[j])) 8 + bit (s.isMember q && (x.share.alone || s.noPartner q)) 9
  + bit (s.bollardHeld q) 10 + bit x.c0.flag 11 + 65536 * s.activeSets q

end Sys2Proof.Machine
end

