-- ==== Sys2Proof/Machine/Views.lean ====
section
/-! DEFINITION. What a read-only parameter shows (access RO and BO of the parameter tables), and the reading of any parameter address
(R312, R1069). -/

namespace Sys2Proof.Machine

/-! ### The quay's counts (R583, R584) -/

/-- C_q of a quay (R583). -/
def State.countsPerRevQ (s : State) (q : QuayNo) : Nat :=
  match s.primaryCell q with
  | some k => s.countsPerRev k
  | none => if s.isStepper q then 256 * quayFullSteps s q else if s.isPulse q then quayStepsPerRev s q else 0

/-- Counts/s of 1 pu of speed (R584). -/
def State.countsPerPu (s : State) (q : QuayNo) : Rat := (s.countsPerRevQ q : Rat) * (quayNBase s q : Rat) / 60

/-- The position of a quay (R336, R583): that of its primary cell at the last sample event, its microstep count or its step count. -/
def State.position (s : State) (q : QuayNo) : Int :=
  match s.primaryCell q with
  | some k => s.cell[k].sampled
  | none => if s.isStepper q then s.quay[q].kern.step.m else if s.isPulse q then s.quay[q].pulse.emittedAt s.now else 0

/-- A quay has a position: a primary cell, a light stepper or a pulse quay (R620). -/
def State.hasPosition (s : State) (q : QuayNo) : Bool := (s.primaryCell q).isSome || s.isStepped q

/-- Profile position as a whole count (R587). -/
def State.profilePos (s : State) (q : QuayNo) : Int := (s.quay[q].kern.gen.pos + 1 / 2).floor

/-- A speed in counts/s as pu (R584). -/
def State.toPu (s : State) (q : QuayNo) (v : Rat) : Rat := if s.countsPerPu q = 0 then 0 else v / s.countsPerPu q

/-! ### Engine share (R119, R120) -/

/-- Worst-case iteration time of a kernel in ticks (R119). -/
def kernelTicks : Nat → Nat
  | 1 => 16000
  | 2 => 38400
  | 3 => 11520
  | 4 => 5120
  | _ => 0

/-- The share of a quay under R120. -/
def State.engineShare (s : State) (q : QuayNo) : Rat :=
  (kernelTicks (s.kernel q) : Rat) * ((quayCarrierFreq s q * quayLoopPerCarrier s q : Nat) : Rat) / ticksPerSecond

/-! ### Read-only values -/

/-- The capture register a probe claimed, 255 = none (R406, R429). -/
def State.probeCapture (s : State) (q : QuayNo) : Nat :=
  match s.claims.find? (fun c => c.cls == 0x12 && c.by_ == .probe q) with
  | some c => c.index
  | none => 255

/-- Contributing followers of a master (R582). -/
def State.shareMembers (s : State) (q : QuayNo) : Nat := (s.quay[q].share.followers.filter (·.inK)).length

/-- Read-only parameters of a quay, as raw values of their own type. `quay.event_slot` of a quay that owns no slot reads 0: DESIGN CHOICE, log
entry 43. -/
def State.quayView (s : State) (q : QuayNo) (base : Nat) : Int :=
  let x := s.quay[q]
  let r := x.kern.reg
  match base with
  | 0x023 => ((s.eventSlotOf q).getD 0 : Nat)
  | 0x024 => (s.kernel q : Nat)
  | 0x025 => reportInt (1000 * s.engineShare q)
  | 0x055 => (s.probeCapture q : Nat)
  | 0x056 => ((s.probeNow q).time : Nat)
  | 0x058 => (s.probeNow q).pos
  | 0x05A => (s.probeNow q).frac.toNat
  | 0x05B => (s.probeNow q).count.toNat
  | 0x05C => (s.probeState q : Nat)
  | 0x066 => (max 1 (s.setsOf q) : Nat)
  | 0x0B0 => (reportQ24 r.nUg).toInt
  | 0x0B1 => r.adv.toNat
  | 0x0B2 => (reportQ24 r.residual).toInt
  | 0x0B3 => r.pllErr.toNat
  | 0x0B4 => r.encOffset.toNat
  | 0x11B => (r.tensionState : Nat)
  | 0x11C => (reportQ24 r.tension).toInt
  | 0x11D => (reportQ24 r.lHat).toInt
  | 0x11E => (reportQ24 r.nHat).toInt
  | 0x11F => (reportQ24 r.demand).toInt
  | 0x125 => (reportQ24 x.share.k).toInt
  | 0x126 => (s.shareMembers q : Nat)
  | 0x137 => (s.countsPerRevQ q : Nat)
  | 0x138 => s.profilePos q
  | 0x13A => (reportQ24 (s.toPu q x.kern.gen.vel)).toInt
  | 0x144 => (bit (s.limitActive q .positive) 0 + bit (s.limitActive q .negative) 1 : Nat)
  | 0x17A => (reportQ24 x.kern.step.load).toInt
  | 0x17B => x.kern.step.angle.toNat
  | 0x17C => (reportQ24 x.kern.step.current).toInt
  | 0x17D => x.kern.step.slips.toNat
  | 0x17E => (x.kern.step.level : Nat)
  | 0x184 => x.pulse.lag
  | 0x1A8 => (r.catchPhase : Nat)
  | 0x1A9 => (r.crashPhase : Nat)
  | 0x1AA => (bit x.core.release 0 : Nat)
  | 0x1AB => r.obsOffset.toNat
  | 0x1AC => (reportQ24 r.wsb).toInt
  | _ => 0

/-- Read-only parameters of a leg. -/
def State.legView (s : State) (l : LegNo) (base : Nat) : Int :=
  let x := s.leg[l]
  match base with
  | 0x020 => (s.legStatus l).toNat
  | 0x021 => (legKindCode (s.kindInForce l) : Nat)
  | 0x022 => s.legCurrent l
  | 0x023 => reportInt x.vphase
  | 0x024 => (x.vboot : Nat)
  | 0x025 => if isLocal l then ((s.thm.temp[(if l.val < 16 then 16 + l.val / 4 else 20 + (l.val - 16) / 4)]?.join).getD (-32768)) else x.temp
  | 0x026 => reportInt (s.iLimitEff l s.now)
  | 0x027 => (x.suspect : Nat)
  | 0x028 => x.discards.toNat
  | 0x029 => x.refreshes.toNat
  | 0x02A => x.blanks.toNat
  | 0x02B => x.shorts.toNat
  | _ => 0

/-- Read-only parameters of a feedback cell. -/
def State.cellView (s : State) (k : CellNo) (base : Nat) : Int :=
  let c := s.cell[k]
  match base with
  | 0x003 => (s.countsPerRev k : Nat)
  | 0x040 => c.sampled
  | 0x042 => (c.speed + 1 / 2).floor
  | 0x043 => c.status.toNat
  | 0x044 => c.indexLatch
  | 0x046 => c.indexDev
  | 0x047 => c.amplVal.toNat
  | 0x048 => c.cmpNext
  | 0x04A => c.cmpHits.toNat
  | 0x04B => c.cmpSkips.toNat
  | 0x04C => (c.cmpLast : Nat)
  | 0x04E => c.emuLag
  | 0x04F => c.illegal.toNat
  | 0x050 => (c.edgeTime : Nat)
  | _ => 0

/-- Read-only parameters of a lane. -/
def State.laneView (s : State) (n : LaneNo) (base : Nat) : Int :=
  let x := s.lane[n]
  match base with
  | 0x000 => (x.st.code : Nat)
  | 0x001 => x.serial.toNat
  | 0x003 => x.unitType.toNat
  | 0x004 => x.fwLevel.toNat
  | 0x005 => x.caps.toNat
  | 0x006 => x.iLsb.toNat
  | 0x007 => x.uLsb.toNat
  | 0x008 => x.delay.toNat
  | 0x020 => x.crcCount.toNat
  | 0x021 => x.seqGaps.toNat
  | 0x022 => x.stray.toNat
  | 0x023 => x.losses.toNat
  | _ => 0

/-- Parameters of a half, of the device, of the Hawser block, of the thermal block and the time base that are RO or BO. -/
def State.halfView (s : State) (h : Side) (base : Nat) : Int :=
  let x := s.half.get h
  match base with
  | 0x000 => ((s.halfState h).code : Nat)
  | 0x005 => x.mismatch.toNat
  | 0x006 => x.resets.toNat
  | 0x007 => x.rejoinUs.toNat
  | _ => 0

/-- Bits of the ring's members (R875): the device itself and the members. -/
def State.memberBits (s : State) : Nat := s.hw.memberSet.foldl (fun m d => m ||| 2 ^ (d % 8)) 0

/-- The Hawser block (R884). -/
def State.hawserView (s : State) (base : Nat) : Int :=
  match base with
  | 0x000 => s.prot.hwAddress.toNat
  | 0x001 => s.prot.hwTimePrio.toNat
  | 0x006 => (s.hw.mode.code : Nat)
  | 0x007 => (s.memberBits : Nat)
  | 0x008 => (s.hw.master : Nat)
  | 0x009 => s.hw.offset
  | 0x00A => (bit s.hw.aligned 0 : Nat)
  | 0x00B => s.hw.ports.a.delay.toNat
  | 0x00C => s.hw.ports.b.delay.toNat
  | _ => 0

/-- The fault block (R939): instance and index. -/
def State.faultView (s : State) (inst src : Nat) : Int :=
  let e := s.entry src
  match inst with
  | 0 => 128
  | 1 => (e.base : Nat)
  | 2 => (e.severe : Nat)
  | 3 => (e.n : Nat)
  | 4 => (e.t : Nat)
  | 5 => (e.rBase : Nat)
  | 6 => (e.rSevere : Nat)
  | 7 => (bit e.latchBase 0 + bit e.latchSevere 1 + 256 * e.conseq.toNat : Nat)
  | _ => ((assoc s.flt.events src).getD 0).toNat

/-- A read-only value: kind, instance, base of its row and position within the row. -/
def State.viewInt (s : State) (kind inst base i : Nat) : Int :=
  match kind with
  | 0 =>
    if base = 0x206 then (if h : i < 16 then (reportQ24 s.sd[i].value).toInt else 0)
    else if base = 0x405 then (if h : i < 4 then (bit s.brk[i].on 0 : Nat) else 0)
    else if base = 0x500 then (s.prot.hmPolicy : Nat)
    else if base = 0x501 then (bit s.prot.hmForce 0 : Nat)
    else if base = 0x502 then (s.prot.hmPrefWait : Nat) else 0
  | 1 => s.halfView (if inst = 0 then .a else .b) base
  | 2 => if h : inst < 12 then s.quayView ⟨inst, h⟩ base else 0
  | 3 => if h : inst < 80 then s.legView ⟨inst, h⟩ base else 0
  | 4 => if h : inst < 16 then s.cellView ⟨inst, h⟩ base else 0
  | 5 => if h : inst < 20 then s.laneView ⟨inst, h⟩ base else 0
  | 6 => s.hawserView base
  | 7 => s.faultView inst i
  | 8 =>
    if base = 0 then ((s.thm.temp[i]?.join).getD (-32768))
    else if base = 0x50 then (if h : i < 2 then reportInt (1000 * s.thm.factor[i]) else 0)
    else reportInt (1000 * s.thm.share)
  | 9 => if h : i < 16 then s.thm.margin[i] else 0
  | _ => 0

/-! ### Reading an address (R312, R1069) -/

/-- Access of a row that software cannot write: RO or BO. -/
def PRow.readOnly (r : PRow) : Bool := r.acc == .ro || r.acc == .bo

/-- The word an address reads as, `none` where no template defines it (R312). A write-only parameter reads as 0. -/
def State.readParam (s : State) (a : Nat) : Option Word :=
  match findRow a with
  | none => none
  | some (r, i, h) =>
    if r.acc == .wo then some 0
    else if r.readOnly then
      let v := s.viewInt (a / 0x100000) (a / 0x1000 % 256) r.base i
      some (BitVec.ofInt 32 (if h then v / 4294967296 else v))
    else some (s.stored a)

/-! ### Quay status mirrors (R263, R328) -/

/-- The low 32 bits of a signed value, as bytes. -/
def bytes32 (v : Int) : List Byte := leBytes 4 (v % 4294967296).toNat
/-- The low 64 bits of a signed value, as bytes. -/
def bytes64 (v : Int) : List Byte := leBytes 8 (v % 18446744073709551616).toNat

/-- The highest of some temperatures; a quay without legs shows 0. -/
def maxTemp : List Int → Int
  | [] => 0
  | x :: xs => xs.foldl max x

/-- The word at 0x018: the quay's first-fault register (R328, R926). -/
def State.firstWord (s : State) (q : QuayNo) : Int :=
  match s.quay[q].first.bind s.flt.record with
  | some r => ((r.src % 4096 + 4096 * r.severity + 65536 * r.reaction : Nat) : Int)
  | none => 0

/-- A torque limit in force as Q2.14 (R328). -/
def limitWord (x : Rat) : Int := reportInt (x * 16384) % 65536

/-- The torque limits of stage 5 (R529, R623). -/
def State.torqueLimits (s : State) (q : QuayNo) : Rat × Rat :=
  match s.quay[q].eff.homing with
  | some hm => if hm.method = 4 ∨ hm.method = 5 then (quayHomeLimit s q, quayHomeLimit s q) else (quayTorqueLimitPos s q, quayTorqueLimitNeg s q)
  | none => (quayTorqueLimitPos s q, quayTorqueLimitNeg s q)

/-- The target shown at 0x028 (R328). DESIGN CHOICE, log entry 44: a motion keeps its target until rest; with no motion, and during a jog, the
target shown is 0. -/
def State.targetShown (s : State) (q : QuayNo) : Int :=
  match s.quay[q].core.motion with
  | some m => m.target
  | none => 0

/-- The contents of a mirror from 0x004 to 0x05F (R263, R328). -/
def State.mirrorBody (s : State) (q : QuayNo) : List Byte :=
  let x := s.quay[q]
  let r := x.kern.reg
  let mode := if x.share.following then (match x.share.value with | some v => v.mode.toNat | none => x.core.mode.code) else x.core.mode.code
  bytes32 x.core.st.code ++ bytes64 x.snap.time
    ++ bytes32 (mode + 256 * s.kernel q) ++ bytes32 (s.mirrorFlags q) ++ bytes32 (s.firstWord q) ++ bytes32 0
    ++ bytes64 (s.position q) ++ bytes64 (s.targetShown q)
    ++ bytes32 (reportQ24 r.n).toInt ++ bytes32 (reportQ24 r.torque).toInt ++ bytes32 (reportQ24 r.iMeas.d).toInt
    ++ bytes32 (reportQ24 r.iMeas.q).toInt ++ bytes32 (reportQ24 r.udc).toInt ++ bytes32 r.thetaE.toNat
    ++ bytes32 (reportQ24 r.reference).toInt ++ bytes32 (limitWord (s.torqueLimits q).1 + 65536 * limitWord (s.torqueLimits q).2)
    ++ bytes32 (maxTemp ((s.legsOf q).map (fun l => s.legView l 0x025)) % 65536)
    ++ bytes32 (x.cmdLate.toNat + 65536 * x.inputLate.toNat) ++ bytes64 x.core.stAt

/-- A byte of a quay status mirror (R263, R328): MIRROR_SEQ, the refreshed contents, zero from 0x060 on. -/
def State.mirrorByte (s : State) (q : QuayNo) (off : Nat) : Byte :=
  if off < 4 then BitVec.ofNat 8 (s.quay[q].mirrorSeq.toNat / 256 ^ off) else s.quay[q].mirror.getD (off - 4) 0

/-- A word of a mirror. -/
def State.mirrorWord (s : State) (q : QuayNo) (off : Nat) : Word :=
  BitVec.ofNat 32 (leNat ((List.range 4).map (fun i => s.mirrorByte q (off + i))))

/-- MIRROR_REFRESH (R263, R319, R328, R337): by the half in charge, for a quay with a kernel. -/
def execMirrorRefresh (q : QuayNo) (s : State) : Host.Outcome State Fault Refusal :=
  if s.hm.grant.isSome && s.hasKernel q then
    .next (s.modQuay q (fun x => { x with mirror := s.mirrorBody q, mirrorSeq := x.mirrorSeq + 2 }))
  else .next s

end Sys2Proof.Machine
end

