-- ==== Sys2Proof/Machine/Snapshots.lean ====
section
/-! DEFINITION. Sample events and input snapshots (R44, R58, R74 to R77, R439 to R448, R765 to R767, R960), trace capture (R321 to R327). -/

namespace Sys2Proof.Machine

/-! ### Trace capture (R321 to R326, R999) -/

/-- The value of a trace signal: a parameter, or a mirror word where bit [31] is set (R321, R324). -/
def State.signal (s : State) (w : Word) : Word :=
  if w.msb then
    let off := w.toNat % 2147483648 - 0xB000
    if h : off / 1024 < 12 then s.mirrorWord ⟨off / 1024, h⟩ (off % 1024) else 0
  else (s.readParam w.toNat).getD 0

/-- The type in which a signal is compared (R321) and whether a second word follows it: of its parameter, or of its field of the mirror
(R328). The high word of a 64-bit value, named alone, is compared by itself; a word of no such type is U32. DESIGN CHOICE, log entry 43. -/
def signalType (w : Word) : PType × Bool :=
  if w.msb then
    let off := (w.toNat % 2147483648 - 0xB000) % 1024
    if [0x20, 0x24, 0x28, 0x2C].contains off then (.s64, off % 8 == 0)
    else if [0x08, 0x0C, 0x58, 0x5C].contains off then (.u64, off % 8 == 0)
    else if off = 0x50 then (.s16, false)
    else if 0x30 ≤ off ∧ off < 0x4C ∧ off ≠ 0x44 then (.q24, false)
    else (.u32, false)
  else
    match findRow w.toNat with
    | some (r, _, h) => (r.ty, r.ty.words == 2 && !h)
    | none => (.u32, false)

/-- One word as an integer of a type. -/
def PType.int (ty : PType) (v : Word) : Int :=
  match ty with
  | .u8 | .u16 | .u32 | .u64 => v.toNat
  | .s16 | .q14 => (v.setWidth 16).toInt
  | .s32 | .q24 | .s64 => v.toInt

/-- The present value of a signal in its type. -/
def State.signalInt (s : State) (w : Word) : Int :=
  let t := signalType w
  if t.2 then (s.signal w).toNat + 4294967296 * t.1.int (s.signal (w + (if w.msb then 4 else 1))) else t.1.int (s.signal w)

/-- Records that a region holds (R324). -/
def TraceDesc.capacity (d : TraceDesc) : Nat := 65536 / (8 + 4 * d.signals.length)

/-- The first signal passes the trigger value (R321, kinds 2 and 3). -/
def TraceDesc.crosses (d : TraceDesc) (prev cur : Option Int) : Bool :=
  match d.signals.head?, prev, cur with
  | some sig, some a, some b =>
    let v := (signalType sig).1.int d.trigValue
    (d.trigKind == 2 && decide (a < v ∧ v ≤ b)) || (d.trigKind == 3 && decide (v < a ∧ b ≤ v))
  | _, _, _ => false

/-- One capture instant of a region (R321, R324). -/
def State.capture (s : State) (r : Fin 16) : State :=
  let x := s.trace[r]
  match x.desc with
  | none => s
  | some d =>
    if !x.armed || x.stopped || x.invalid then s
    else
      let vals := d.signals.map s.signal
      let first := d.signals.head?.map s.signalInt
      let trig := x.triggered || d.crosses x.prevFirst first
      let cap := d.capacity
      let recs := x.recs ++ [{ time := s.now, values := vals }]
      let keep := if trig then cap else cap * d.pre / 100
      let recs' := recs.drop (recs.length - keep)
      let full := trig && !d.ring && decide (cap ≤ recs.length)
      s.modTrace r (fun y => { y with
        recs := if full then recs.take cap else recs', triggered := trig, prevFirst := first
        stopped := full, armed := !full })

/-- TRACE_CAPTURE (R324, R998, R999): a region with a capture period, at the firing of its slot; without a share the record is skipped. -/
def execTraceCapture (r : Fin 16) (share : Bool) (s : State) : Host.Outcome State Fault Refusal :=
  match s.trace[r].desc, s.trace[r].slot with
  | some d, some sl =>
    if s.slotFires sl then .next (State.slotFired (if d.period ≠ 0 ∧ share = true then s.capture r else s) sl) else .next s
  | _, _ => .next s

/-- Regions paced by the sample events of a quay; below a share factor of 1 an instant may find no share (R998, R999). -/
def State.captureAtSample (s : State) (q : QuayNo) : State :=
  forAll (List.finRange 16) s (fun t r =>
    match t.trace[r].desc with
    | some d =>
      if d.period = 0 ∧ d.quay = q.val then
        (if t.thm.share = 1 then t.capture r else if Config.freeBit t.free then t.drawn.capture r else t.drawn)
      else t
    | none => t)

/-! ### Sample events -/

/-- The quay's event slot fires now (R77, R98). -/
def State.quayFires (s : State) (q : QuayNo) : Bool :=
  s.afterStep10 && s.hasKernel q && fires (s.loopPeriod q) (s.loopPhase q) s.now

/-- A commit's period and phase take over after this firing (R100). -/
def Quay.slotFiring (x : Quay) (now : Nat) : Quay :=
  { x with slotOld := match x.slotOld with
      | some (p, f, none) => some (p, f, some now)
      | some (p, f, some t) => if t < now then none else some (p, f, some t)
      | none => none }

/-- The time between two sample events of a follower's master (R566): of a master here its loop period, else as its last two share values show it.
DEDUCED, log entry 25. -/
def State.masterPeriod (s : State) (q : QuayNo) : Nat :=
  let x := s.quay[q].share
  match allQuays.find? (fun m => s.isMember m && quayShareRole s m == 1 && quayShaftGroup s m == quayShaftGroup s q) with
  | some m => s.loopPeriod m
  | none =>
    match x.value, x.prior with
    | some v, some p =>
      let n := (v.sequence - p.sequence).toNat
      if n = 0 then s.loopPeriod q else (v.sampleTime.toNat - p.sampleTime.toNat) / n
    | _, _ => s.loopPeriod q

/-- The share value of the master's latest sample event up to 64 ticks after a time has not reached the follower (R566). -/
def State.shareDue (s : State) (q : QuayNo) (t : Nat) : Bool :=
  s.isMember q && quayShareRole s q == 2 && s.quay[q].share.value.any (fun v => decide (v.sampleTime.toNat + s.masterPeriod q ≤ t + 64))

/-- Inputs a snapshot of a quay waits for (R74, R566): attached lanes of its phase legs (a lane that is not attached sends nothing), its
sigma-delta inputs, its cells in modes 3 and 4, and the share value of a follower where that of its master's latest sample event has not come. -/
def State.awaited (s : State) (q : QuayNo) : List InputId :=
  ((List.finRange 20).filter (fun n => s.lane[n].st == .attached && (s.phaseLegs q).any (fun l => s.laneOf l == some n))).map .lane
  ++ ((List.finRange 16).filter (fun n => s.sdQuay n == some q && devSdClock s n.val != 255)).map .sd
  ++ ((s.cellsOf q).filter (fun k => fbMode s k == 3 || fbMode s k == 4)).map .cell
  ++ (if s.shareDue q s.now then [.share] else [])

/-- The open snapshot of a quay waits for the status frame of a lane. -/
def State.awaitsLane (s : State) (q : QuayNo) (n : Option LaneNo) : Bool :=
  match n with
  | some m => s.quay[q].form.missing.contains (.lane m)
  | none => false

/-- The current of a local leg in mA from its ADC code (R765). -/
def State.adcCurrent (s : State) (l : LegNo) (code : BitVec 14) : Rat :=
  ((code.toNat : Rat) - 8192) * 1800 / (16384 * (legShuntGain s l : Rat) * ((legRshunt s l : Rat) / 1000000))

/-- Take the conversions of the local legs (R765, R766). A snapshot that waits for the status frame of a leg's link takes them with that frame
(R58, R75), any other one at once. -/
def State.takeSamples (s : State) (q : QuayNo) (legs : List LegSample) : State :=
  legs.foldl (fun t e =>
    if isLocal e.leg && t.legQuay e.leg == some q then
      let i := t.adcCurrent e.leg e.code
      let t1 := t.modLeg e.leg (fun x => { x with current := some i, vphase := (e.volts.toNat : Rat) * 25 / 4 })
      if t.awaitsLane q (t.laneOf e.leg) then t1
      else t1.modQuay q (fun x => { x with form := { x.form with
        legs := setKey x.form.legs e.leg (some i), volts := setKey x.form.volts e.leg ((e.volts.toNat : Rat) * 25 / 4) } })
    else t) s

/-- Take the conversion of VM, of the die and of the open snapshot (R445, R767); a snapshot that waits for a link of the die takes it with the
status frame (R75). -/
def State.takeVm (s : State) (q : QuayNo) (vm : BitVec 14) : State :=
  match s.vmDie q with
  | some d =>
    let v : Rat := (vm.toNat : Rat) * 25 / 4
    let s1 := s.modSupply (fun y => { y with vm := y.vm.set d v })
    if (s.phaseLegs q).any (fun l => isLocal l && s.awaitsLane q (s.laneOf l)) then s1
    else s1.modQuay q (fun x => { x with form := { x.form with vm := v } })
  | none => s

/-- Cells at a sample event of their quay: counting cells deliver, SSI transfers and conversions start (R332, R358, R368). -/
def State.sampleCells (s : State) (q : QuayNo) : State :=
  forAll (s.cellsOf q) s (fun t k =>
    let m := fbMode t k
    if m = 1 ∨ m = 2 then t.deliverEdges k else if m = 3 ∨ m = 4 then t.startConversion k else t)

/-- Sigma-delta inputs at a sample event of their quay: their windows are placed (R452). -/
def State.sampleSd (s : State) (q : QuayNo) : State :=
  forAll ((List.finRange 16).filter (fun n => s.sdQuay n == some q && devSdClock s n.val != 255)) s State.placeWindow

/-- Open the snapshot of a sample event. What arrived before stays in it as the values of missing inputs (R75); the class-0 buffer is captured
(R114, R244). DEDUCED, log entry 43: at the sample event. -/
def State.openSnapshot (s : State) (q : QuayNo) : State :=
  s.modQuay q (fun x => { x with form := { x.form with
    isOpen := true, complete := false, time := s.now, missing := s.awaited q, stale := []
    torque := q14 x.c0.torque, speed := q14 x.c0.speed, tension := q14 x.c0.tension, ff := q14 x.c0.ff
    quick := x.c0.quick, stop := x.c0.stop, release := x.c0.release } })

/-- SAMPLE_EVENT (R77, R98, R100, R114, R269, R332, R358, R368, R393, R439 to R447, R452, R765 to R767, R961). -/
def execSampleEvent (q : QuayNo) (legs : List LegSample) (vm : BitVec 14) (s : State) : Host.Outcome State Fault Refusal :=
  if s.quayFires q then
    let waits := s.ih.changes.any (fun c => c.1 == q)
    let s1 := (s.modQuay q (fun x => { x.slotFiring s.now with
      eff := if waits then x.eff else x.core, oldCfg := if waits then x.oldCfg else none })).openSnapshot q
    .next ((((((s1.sampleCells q).sampleSd q).takeSamples q legs).takeVm q vm)).captureAtSample q)
  else .next s

/-! ### Closing a snapshot (R74, R75, R960) -/

/-- A sigma-delta value of a snapshot by the number of its input. -/
def Snapshot.sdValue (x : Snapshot) (n : Nat) : Rat := (x.sdv.lookup n).getD 0

/-- The offset of a leg. -/
def Quay.offsetOf (x : Quay) (l : LegNo) : Rat :=
  match x.offsets.find? (fun o => o.1 == l) with
  | some o => o.2
  | none => 0

/-- Current of a measured phase leg in pu of I_base before its offset (R439, R444), as the snapshot has it: of its leg, or of the sigma-delta
map, which measures the first two phases of each winding set. -/
def State.measuredPu (s : State) (q : QuayNo) (x : Snapshot) (l : LegNo) : Option Rat :=
  if quayISource s q = 1 then (((s.phaseLegs q).findIdx? (· == l)).bind (s.sdPhase q)).map x.sdValue
  else ((x.legs.lookup l).join).map (fun c => c / (quayIBase s q : Rat))

/-- The three legs of the winding set of a phase leg, where the quay has such sets (R432). -/
def State.setMates (s : State) (q : QuayNo) (l : LegNo) : List LegNo :=
  let ls := s.phaseLegs q
  match ls.findIdx? (· == l) with
  | some i => if ls.length % 3 = 0 then (ls.drop (i / 3 * 3)).take 3 else [l]
  | none => []

/-- The corrected current of a phase leg: measured less its offset (R447), or the negative sum of the two measured phases of its set (R444). -/
def State.phaseCurrent (s : State) (q : QuayNo) (x : Snapshot) (l : LegNo) : Option Rat :=
  let cor (m : LegNo) : Option Rat := (s.measuredPu q x m).map (fun i => i - s.quay[q].offsetOf m)
  match cor l with
  | some i => some i
  | none =>
    match ((s.setMates q l).filter (· != l)).map cor with
    | [some a, some b] => some (-(a + b))
    | _ => none

/-- The DC-link voltage of a quay in pu of U_base (R445), as the snapshot has it. -/
def State.udcOf (s : State) (q : QuayNo) (x : Snapshot) : Rat :=
  let base : Rat := quayUBase s q
  match quayUdcSource s q with
  | 0 => x.vm / base
  | 1 => (((s.setLegs q 0).head?.bind s.laneOf).bind (fun n => x.dc.lookup n.val)).getD 0 / base
  | 2 => x.sdValue (quayUdcSd s q)
  | _ => quayUdcFixed s q

/-- One more sample of the offset average of a leg; the average once all samples are there (R447). -/
def offsetStep (n : Nat) (acc : List (LegNo × Rat × Nat)) (l : LegNo) (x : Rat) : List (LegNo × Rat × Nat) :=
  match acc.find? (fun e => e.1 == l) with
  | none => acc ++ [(l, x, 1)]
  | some (_, sum, k) => if n ≤ k then acc else acc.map (fun e => if e.1 == l then (l, sum + x, k + 1) else e)

/-- An ARM in progress is abandoned (R291, R448). -/
def State.abandonArm (s : State) (q : QuayNo) : State :=
  (s.eventOpt s.quay[q].core.armOp stRefused 0x000E 0).modCore q (fun c => { c with armOp := none })

/-- Average the current offsets of the measured phases during ARM, with pulses blocked (R447, R448; log entry 24). An offset beyond
`quay.offset_max` abandons the ARM. -/
def State.averageOffsets (s : State) (q : QuayNo) : State :=
  let x := s.quay[q]
  if x.core.armOp.isNone then s
  else
    let n := quayOffsetSamples s q
    let sums := (s.phaseLegs q).foldl (fun acc l =>
      match s.measuredPu q x.form l with
      | some i => offsetStep n acc l i
      | none => acc) x.offSum
    let done := (sums.filter (fun e => decide (n ≤ e.2.2))).map (fun e => (e.1, e.2.1 / (n : Rat)))
    let fresh := done.filter (fun e => !(x.offsets.any (fun o => o.1 == e.1)))
    let bad := fresh.any (fun e => decide (quayOffsetMax s q < rabs e.2))
    let s1 := s.modQuay q (fun y => { y with offSum := sums, offsets := y.offsets ++ fresh })
    if bad then (s1.raiseQuay srcCurrentOffset q).abandonArm q else s1

/-- A phase is measured (R439, R444): the first two of each winding set by a sigma-delta map, else a leg whose die or gate unit reports a
current. -/
def State.isMeasured (s : State) (q : QuayNo) (l : LegNo) : Bool :=
  if quayISource s q = 1 then
    (match (s.phaseLegs q).findIdx? (· == l) with
     | some i => decide (i % 3 < 2)
     | none => false)
  else s.leg[l].current.isSome

/-- The offsets of an ARM are complete: each measured phase has its average (R447). -/
def State.offsetsDone (s : State) (q : QuayNo) : Bool :=
  (s.phaseLegs q).all (fun l => !s.isMeasured q l || s.quay[q].offsets.any (fun o => o.1 == l))

/-- The share value that a snapshot with a sample event takes: that of the master's latest sample event not after it by more than 64 ticks
(R566). -/
def Share.valueFor (x : Share) (t : Nat) : Option HwShare :=
  match x.value with
  | some v => if v.sampleTime.toNat ≤ t + 64 then some v else x.prior
  | none => none

/-- Form the snapshot of a quay once for both halves (R44, R960), with the inputs that are stale. -/
def State.formSnapshot (s : State) (q : QuayNo) (stale : List InputId) : State :=
  let s0 := s.averageOffsets q
  let x := s0.quay[q]
  s0.modQuay q (fun y => { y with
    form := { y.form with
      isOpen := false, complete := true, missing := [], stale := stale, closedAt := s.now
      currents := (s0.phaseLegs q).map (fun l => (l, s0.phaseCurrent q x.form l))
      udc := s0.udcOf q x.form, sdTension := x.form.sdValue (quayTensionSd s0 q)
      cells := (s0.cellsOf q).map (fun k => (x.form.cells.find? (fun v => v.cell == k)).getD (s0.viewOf k))
      limP := s0.limitActive q .positive, limN := s0.limitActive q .negative
      share := x.share.valueFor x.form.time } })

/-! ### The two quays of an engine (R42, R76, R463) -/

/-- The other quay of the engine of a quay (R42). -/
def partnerOf (q : QuayNo) : QuayNo := if q.val % 2 = 0 then q + 1 else q - 1

/-- The engine runs the partner first: its snapshot completed before, or at the same time and it has the even number (R76). -/
def State.afterPartner (s : State) (q : QuayNo) : Bool :=
  let x := s.quay[q].snap
  let p := s.quay[partnerOf q].snap
  p.complete && (decide (p.closedAt < x.closedAt) || (p.closedAt == x.closedAt && q.val % 2 == 1))

/-- An engine takes the formed snapshot of a quay once it has none of that quay left, and starts the iteration once its turn has come: it
runs on the parameters in force then, or on those of before a commit that the shadow has not acknowledged (R463, R961). -/
def State.startIteration (s : State) (q : QuayNo) : State :=
  let s1 := if s.quay[q].form.complete && !s.quay[q].snap.complete then
      s.modQuay q (fun x => { x with snap := x.form, form := { x.form with complete := false }, iterAt := some x.form.closedAt })
    else s
  if s1.quay[q].snap.complete && s1.quay[q].cfg.isNone && !s1.afterPartner q then s1.modQuay q (fun x => { x with cfg := some (x.oldCfg.getD s1.working) }) else s1

/-- Close the snapshot of a quay and hand it to its engine (R74, R76). -/
def State.closeSnapshot (s : State) (q : QuayNo) (stale : List InputId) : State := (s.formSnapshot q stale).startIteration q

/-- The counting cells of a quay that may still take in edges stamped at or before the sample event: their filter has not run since (R393). -/
def State.filtering (s : State) (q : QuayNo) : List CellNo :=
  (s.cellsOf q).filter (fun k => (fbMode s k == 1 || fbMode s k == 2) && decide (s.now < s.quay[q].form.time + 16 * fbFilter s k))

/-- SNAPSHOT_COMPLETE (R74): every input of the open snapshot has arrived. -/
def execSnapshotComplete (q : QuayNo) (s : State) : Host.Outcome State Fault Refusal :=
  if s.quay[q].form.isOpen && s.quay[q].form.missing.isEmpty && (s.filtering q).isEmpty then .next (s.closeSnapshot q []) else .next s

/-- Cells whose input is missing show STALE, and their transfer no longer belongs to a snapshot (R75, R426). -/
def State.staleCells (s : State) (t : Nat) (is : List InputId) : State :=
  is.foldl (fun u i =>
    match i with
    | .cell k => ((u.modCell k (fun c => if fbMode s k ≤ 2 then c.staleEdges else c.staleAt t)).give k).emulateOwn k true
    | _ => u) s

/-- INPUT_DEADLINE (R74, R75): the snapshot closes with the previous values of what is missing, a counting cell whose filter still runs among
it; INPUT_LATE counts. -/
def execInputDeadline (q : QuayNo) (s : State) : Host.Outcome State Fault Refusal :=
  let x := s.quay[q].form
  let missing := x.missing ++ (s.filtering q).map .cell
  if x.isOpen && !missing.isEmpty && decide (100 * x.time + quayInputDeadline s q * s.loopPeriod q ≤ 100 * s.now) then
    let s1 := (s.staleCells x.time missing).modQuay q (fun y => { y with inputLate := satInc y.inputLate })
    .next ((s1.closeSnapshot q missing).raiseQuay srcInputLate q)
  else .next s

end Sys2Proof.Machine
end

