-- ==== Sys2Proof/Machine/Profile.lean ====
section
/-! DEFINITION. The profile generator (R587 to R605), stop ramps on it (R606, R607), group motions (R654 to R661) and the end of motions
(R595 to R597). Positions in counts, times in seconds. Log entry 23. -/

namespace Sys2Proof.Machine

/-- Seconds of a number of ticks. -/
def secs (ticks : Nat) : Rat := (ticks : Rat) / ticksPerSecond

/-- The update period of a quay in seconds. -/
def State.periodS (s : State) (q : QuayNo) : Rat := secs (s.loopPeriod q)

/-- A point of a profile. -/
structure Point where
  p : Rat
  v : Rat
  a : Rat
  deriving DecidableEq, Repr

/-- Sign of a rational. -/
def rsgn (x : Rat) : Rat := if 0 < x then 1 else if x < 0 then -1 else 0

/-- Bring the speed to zero at a deceleration; the place where it reaches zero is exact (R606, R607). -/
def brakeStep (x : Point) (d h : Rat) : Point :=
  let u := rabs x.v
  let s := rsgn x.v
  if d ≤ 0 then ⟨x.p, 0, 0⟩
  else if u ≤ d * h then ⟨x.p + s * u * u / (2 * d), 0, 0⟩
  else ⟨x.p + s * (u - d * h / 2) * h, x.v - s * d * h, -s * d⟩

/-- Move the speed toward a given one: up at the acceleration, down or through zero at the deceleration (R538, R598). -/
def speedStep (x : Point) (w a d h : Rat) : Point :=
  let same := decide (0 ≤ x.v * w)
  if x.v = w then ⟨x.p + w * h, w, 0⟩
  else if same && decide (rabs x.v < rabs w) then
    let s := rsgn w
    let v := s * min (rabs w) (rabs x.v + a * h)
    ⟨x.p + (x.v + v) / 2 * h, v, s * a⟩
  else
    let s := rsgn x.v
    let goal := if same then rabs w else 0
    let v := s * max goal (rabs x.v - d * h)
    ⟨x.p + (x.v + v) / 2 * h, v, -s * d⟩

/-- The speed u1 after a period from u leaves room to stop within x at the deceleration. -/
def canStop (x u u1 d h : Rat) : Bool := decide (u1 * u1 ≤ 2 * d * (x - (u + u1) / 2 * h))

/-- The largest speed between two from which the target can still be met, to a number of halvings (R592). -/
def searchSpeed (x u d h : Rat) : Nat → Rat → Rat → Rat
  | 0, lo, _ => lo
  | n + 1, lo, hi =>
    let m := (lo + hi) / 2
    if canStop x u m d h then searchSpeed x u d h n m hi else searchSpeed x u d h n lo m

/-- One period of a trapezoidal profile toward a target that lies ahead (R588, R591, R592, R594, R604, R605). -/
def trapStep (x : Point) (target : Rat) (l : Limits) (h : Rat) : Point :=
  let s := if x.v = 0 then rsgn (target - x.p) else rsgn x.v
  let dist := s * (target - x.p)
  let u := rabs x.v
  if dist ≤ 0 ∨ h ≤ 0 then ⟨target, 0, 0⟩
  else if 2 * dist * (l.a + l.d) ≤ l.a * l.d * h * h ∧ u = 0 then ⟨target, 0, 0⟩
  else
    let top := if u ≤ l.v then min l.v (u + l.a * h) else max l.v (u - l.d * h)
    let go (u1 : Rat) : Point := ⟨x.p + s * (u + u1) / 2 * h, s * u1, s * (u1 - u) / h⟩
    if canStop dist u top l.d h then go top
    else if canStop dist u (min u top) l.d h then go (searchSpeed dist u l.d h 12 (min u top) top)
    else
      let d := u * u / (2 * dist)
      if u ≤ d * h then ⟨target, 0, 0⟩ else ⟨x.p + s * (u - d * h / 2) * h, s * (u - d * h), -s * d⟩

/-- A point after a period under a constant jerk. -/
def jerkGo (x : Point) (b h : Rat) : Point :=
  ⟨x.p + x.v * h + x.a * h * h / 2 + b * h * h * h / 6, x.v + x.a * h + b * h * h / 2, x.a + b * h⟩

/-- The speed that is reached when the acceleration has been taken to zero under a jerk. -/
def levelSpeed (x : Point) (j : Rat) : Rat := x.v + x.a * rabs x.a / (2 * j)

/-- The distance in which a forward speed without acceleration comes to rest under a deceleration and a jerk. -/
def restDistance (v d j : Rat) : Rat := if d * d ≤ v * j then v / 2 * (v / d + d / j) else v * sqrtQ (v / j)

/-- The distance in which a point with a forward speed comes to rest under a deceleration and a jerk. -/
def stopDistance (x : Point) (d j : Rat) : Rat :=
  let v0 := x.v + x.a * x.a / (2 * j)
  let t := rabs x.a / j
  if 0 ≤ x.a then x.v * t + x.a * t * t / 3 + restDistance v0 d j else restDistance v0 d j - (v0 * t - j * t * t * t / 6)

/-- A point some time later on its way to rest from a forward speed under a deceleration and a jerk: the acceleration falls to the largest
deceleration it reaches, stays there, and rises to zero (R589). -/
def stopAt (x : Point) (d j t : Rat) : Point :=
  let v0 := x.v + x.a * x.a / (2 * j)
  let peak := if d * d ≤ v0 * j then d else sqrtQ (v0 * j)
  let t1 := max 0 ((x.a + peak) / j)
  let t2 := if d * d ≤ v0 * j then (v0 - d * d / j) / d else 0
  let y1 := jerkGo x (-j) (min t t1)
  let y2 := jerkGo y1 0 (min (max 0 (t - t1)) t2)
  let rest := max 0 (t - t1 - t2)
  let t3 := -y2.a / j
  if t3 ≤ rest then { jerkGo y2 j t3 with v := 0, a := 0 } else jerkGo y2 j rest

/-- The largest jerk between two that fits, to a number of halvings; the lower one where none does. -/
def searchJerk (fits : Rat → Bool) : Nat → Rat → Rat → Rat
  | 0, lo, _ => lo
  | n + 1, lo, hi =>
    let m := (lo + hi) / 2
    if fits m then searchJerk fits n m hi else searchJerk fits n lo m

/-- The largest jerk up to a limit that fits and keeps the acceleration between two bounds. -/
def chooseJerk (fits : Rat → Bool) (a low top j h : Rat) : Rat :=
  let lo := max (-j) (min j ((low - a) / h))
  let hi := max lo (min j ((top - a) / h))
  if fits hi then hi else searchJerk fits 12 lo hi

/-- Move the speed toward a given one under a jerk limit, without passing it (R589, R598): the acceleration ends with the change, and has come
down to its limit for a growing speed where the speed passes zero. -/
def jerkSpeed (x : Point) (w : Rat) (l : Limits) (h : Rat) : Point :=
  if h ≤ 0 ∨ l.j ≤ 0 ∨ (rabs x.a ≤ l.j * h ∧ rabs (w - x.v) ≤ l.j * h * h) then ⟨x.p + (x.v + w) / 2 * h, w, 0⟩
  else
    let s : Rat := if levelSpeed x l.j ≤ w then 1 else -1
    let y : Point := ⟨0, s * x.v, s * x.a⟩
    let top := if 0 ≤ y.v then l.a else l.d
    let fits (b : Rat) : Bool :=
      let z := jerkGo y b h
      decide (levelSpeed z l.j ≤ s * w) && decide (z.a ≤ l.a ∨ z.v < 0 ∧ z.a * z.a - l.a * l.a ≤ 2 * l.j * (-z.v))
    let z := jerkGo y (chooseJerk fits y.a (y.a - l.j * h) top l.j h) h
    ⟨x.p + s * z.p, s * z.v, s * z.a⟩

/-- A jerk-limited stop (R589, R606). -/
def jerkStop (x : Point) (l : Limits) (h : Rat) : Point := jerkSpeed x 0 { l with a := l.d } h

/-- The longest time up to a limit that fits, to a number of halvings; the lower one where none does. -/
def searchTime (fits : Rat → Bool) : Nat → Rat → Rat → Rat
  | 0, lo, _ => lo
  | n + 1, lo, hi =>
    let m := (lo + hi) / 2
    if fits m then searchTime fits n m hi else searchTime fits n lo m

/-- The smallest factor on deceleration and jerk, from 1 on, with which a stop fits: by doubling up to a number of times (R605). -/
def stopFactor (fits : Rat → Bool) : Nat → Rat → Option Rat
  | 0, _ => none
  | n + 1, k =>
    if fits k then some (if k ≤ 1 then 1 else k - searchTime (fun m => fits (k - m)) 12 0 (k / 2)) else stopFactor fits n (2 * k)

/-- One period of a jerk-limited profile toward a target that lies ahead: toward the speed limit for as long as it can still stop at the target,
then on the way to rest (R589, R591, R592, R594, R604); with the smallest deceleration and jerk that stop it there where those in force do not
(R605). What is left of the way within a period from rest ends the motion. DEDUCED, log entry 23. -/
def jerkStep (x : Point) (target : Rat) (l : Limits) (h : Rat) : Point :=
  let s := if x.v = 0 then rsgn (target - x.p) else rsgn x.v
  let y : Point := ⟨0, s * x.v, s * x.a⟩
  let dist := s * (target - x.p)
  let near := l.j * h * h * h / 32
  let fits (z : Point) (k : Rat) : Bool := decide (z.p + stopDistance z (k * l.d) (k * l.j) ≤ dist + (if z.p = 0 then near else 0))
  if dist ≤ 0 ∨ h ≤ 0 ∨ l.j ≤ 0 ∨ l.d ≤ 0 ∨ (dist ≤ near ∧ y.v = 0 ∧ y.a = 0) then ⟨target, 0, 0⟩
  else
    let go (t : Rat) : Point := if t = 0 then y else jerkSpeed y l.v l t
    let z :=
      if fits y 1 then
        let t := if fits (go h) 1 then h else searchTime (fun u => fits (go u) 1) 12 0 h
        if t = h then go h else stopAt (go t) l.d l.j (h - t)
      else
        match stopFactor (fits y) 24 1 with
        | some k => stopAt y (k * l.d) (k * l.j) h
        | none => ⟨dist, 0, 0⟩
    if dist ≤ z.p ∨ (dist - z.p ≤ near ∧ z.v = 0) then ⟨target, 0, 0⟩
    else if z.v ≤ 0 then ⟨x.p + s * max 0 z.p, 0, 0⟩
    else ⟨x.p + s * z.p, s * z.v, s * z.a⟩

/-- One period toward a target. -/
def targetStep (x : Point) (target : Rat) (l : Limits) (h : Rat) : Point :=
  if l.jerk then jerkStep x target l h else trapStep x target l h

/-- A speed in counts/s as the generator of a quay takes it: a light stepper makes at most 256 counts in an update period (R640). -/
def State.speedCap (s : State) (q : QuayNo) (v : Rat) : Rat :=
  let h := s.periodS q
  if s.isStepper q ∧ 0 < h then max (-(256 / h)) (min (256 / h) v) else v

/-- The limits of a quay's motions (R584, R588, R589, R640). -/
def State.limits (s : State) (q : QuayNo) : Limits :=
  let c := s.countsPerPu q
  { v := s.speedCap q (quayProfileSpeed s q * c)
    a := quayProfileAccel s q * c, d := quayProfileDecel s q * c, j := quayProfileJerk s q * c, jerk := quayProfileKind s q = 1 }

/-- The point of a generator. -/
def ProfileGen.point (g : ProfileGen) : Point := ⟨g.pos, g.vel, g.acc⟩
/-- The generator at a point. -/
def ProfileGen.at (g : ProfileGen) (x : Point) : ProfileGen := { g with pos := x.p, vel := x.v, acc := x.a }

/-- Change the generator of a quay. -/
def State.modGen (s : State) (q : QuayNo) (f : ProfileGen → ProfileGen) : State :=
  s.modQuay q (fun x => { x with kern := { x.kern with gen := f x.kern.gen } })

/-- The deceleration of a stop of a kind, in pu/s (R606). -/
def State.stopDecel (s : State) (q : QuayNo) (k : StopKind) : Rat :=
  match k with
  | .quick => quayQuickstopDecel s q
  | _ => quayProfileDecel s q

/-- The stop kind in force: that of the state, a quick-stop reaction, or the ramp (R606, R609). -/
def Quay.stopKind (x : Quay) : StopKind :=
  if x.eff.stop = .quick ∨ (x.eff.st = .faulted ∧ x.react = some 3) then .quick else .ramp

/-! ### Group motions (R654 to R661) -/

/-- The group motion a quay is an axis of, by the command in progress. -/
def State.groupOfQuay (s : State) (q : QuayNo) : Option GroupMove :=
  s.groups.find? (fun g => s.quay[q].core.motionOp = some g.op && g.axes.any (fun e => e.1 == q))

/-- The smallest of some values. -/
def minRat : List Rat → Rat
  | [] => 0
  | x :: xs => xs.foldl min x

/-- The limits of an axis in a group motion: those of its last update point (R658). -/
def State.axisLimits (s : State) (g : GroupMove) (q : QuayNo) : Limits := (g.lims.lookup q).getD (s.limits q)

/-- The limits of the path parameter (R656). -/
def State.pathLimits (s : State) (g : GroupMove) : Limits :=
  let xs := g.axes.filter (fun e => e.2.2 != 0)
  let f (k : Limits → Rat) : Rat := minRat (xs.map (fun e => k (s.axisLimits g e.1) / ((e.2.2.natAbs : Nat) : Rat)))
  { v := f (·.v), a := f (·.a), d := f (·.d), j := f (·.j), jerk := xs.all (fun e => (s.axisLimits g e.1).jerk) }

/-- The latest point of the path up to a time; its start before all (R657). -/
def GroupMove.pointBefore (g : GroupMove) (t : Nat) : PathPoint :=
  (g.points.find? (fun e => decide (e.at_ ≤ t))).getD { at_ := g.t0, path := 0, vel := 0, acc := 0 }

/-- The path parameter at a time, from a point before it (R657, R659). -/
def State.pathAt (s : State) (g : GroupMove) (b : PathPoint) (t : Nat) : PathPoint :=
  if t ≤ b.at_ then b
  else
    let h := secs (t - b.at_)
    let x : Point := ⟨b.path, b.vel, b.acc⟩
    let l := s.pathLimits g
    let y := if g.ended.isSome then brakeStep x l.d h
      else if g.axes.all (fun e => e.2.2 == 0) then ⟨1, 0, 0⟩
      else targetStep x 1 l h
    { at_ := t, path := y.p, vel := y.v, acc := y.a }

/-- The speed of the path at its latest point (R659). -/
def GroupMove.speed (g : GroupMove) : Rat := (g.points.head?.map (·.vel)).getD 0

/-- An axis on the path (R655). -/
def axisPoint (y : PathPoint) (start delta : Int) : Point :=
  ⟨((start + ((delta : Rat) * y.path + 1 / 2).floor : Int) : Rat), (delta : Rat) * y.vel, (delta : Rat) * y.acc⟩

/-- A group motion in place of the one of its command. -/
def State.setGroup (s : State) (g : GroupMove) : State :=
  { s with groups := s.groups.map (fun x => if x.op = g.op then g else x) }

/-- An axis before t0: it comes to rest from what its generator holds, and where it is then is its start (R590, R655); the target of a relative
axis lies its distance from there. -/
def State.groupWait (s : State) (q : QuayNo) (g : GroupMove) : State :=
  let l := s.limits q
  let x := s.quay[q].kern.gen.point
  let y := if l.jerk then jerkStop x l (s.periodS q) else brakeStep x l.d (s.periodS q)
  let p := (y.p + 1 / 2).floor
  let s1 := (s.modGen q (fun z => z.at y)).setGroup { g with axes := g.axes.map (fun e =>
    if e.1 = q then (q, p, if g.relative then e.2.2 else e.2.1 + e.2.2 - p) else e) }
  if g.relative then
    let goal (m : Motion) : Motion := match g.axes.find? (fun e => e.1 == q) with
      | some e => { m with target := p + e.2.2 }
      | none => m
    s1.modQuay q (fun z => { z with
      core := { z.core with motion := z.core.motion.map goal }, coreCopy := { z.coreCopy with motion := z.coreCopy.motion.map goal } })
  else s1

/-- Evaluate an axis of a group motion at its next update point: the path follows the limits of the axis from there on (R655, R657, R658). -/
def State.groupStep (s : State) (q : QuayNo) (g : GroupMove) : State :=
  let t := s.nextUpdate q
  if t ≤ g.t0 then s.groupWait q g
  else
    let y := s.pathAt g (g.pointBefore t) t
    let g' : GroupMove := { g with
      points := if g.points.all (fun e => decide (e.at_ < t)) then (y :: g.points).take 24 else g.points
      lims := (q, s.limits q) :: g.lims.filter (fun e => e.1 != q) }
    match g.axes.find? (fun e => e.1 == q) with
    | some (_, start, delta) => (s.setGroup g').modGen q (fun z => z.at (axisPoint y start delta))
    | none => s.setGroup g'

/-- An axis of a group has nothing more to do: arrived, at rest on the path of an ended group, or off it. -/
def State.axisDone (s : State) (g : GroupMove) (q : QuayNo) : Bool :=
  s.quay[q].core.motionOp != some g.op || s.quay[q].kern.gen.inPos || (g.ended.isSome && decide (g.speed = 0) && s.quay[q].kern.gen.vel == 0)

/-- A group motion ends once every axis is done: one event entry (R660, R661). -/
def State.finishGroups (s : State) : State :=
  let ended := s.groups.filter (fun g => g.axes.all (fun e => s.axisDone g e.1))
  ended.foldl (fun t g =>
    let t1 := match g.ended with
      | some q => t.event g.op stRefused 0 q.val
      | none => t.event g.op stDone 0 0
    let t2 := g.axes.foldl (fun u e =>
      if u.quay[e.1].core.motionOp = some g.op then u.modCore e.1 (fun c => { c with motionOp := none, motion := none }) else u) t1
    { t2 with groups := t2.groups.filter (fun x => x.op != g.op) }) s

/-! ### Motions of one quay -/

/-- The start of a motion at its first update point: a relative target is resolved, an earlier ended motion gets its entry, and the turn is
judged (R590, R591, R593, R597). -/
def State.startMotion (s : State) (q : QuayNo) (m : Motion) : State :=
  let g := s.quay[q].kern.gen
  let l := s.limits q
  let target : Int := match m.rel with
    | some d => (g.pos + 1 / 2).floor + d
    | none => m.target
  let s0 := s.eventOpt s.quay[q].core.endedOp stRefused 0 (s.position q % 18446744073709551616).toNat
  let sg := rsgn g.vel
  let room := sg * ((target : Rat) - g.pos)
  let short := if l.jerk && decide (0 < l.j) && decide (0 < l.d) then decide (room < stopDistance ⟨0, sg * g.vel, sg * g.acc⟩ l.d l.j)
    else decide (2 * l.d * room < g.vel * g.vel)
  let turn := m.jog.isNone && decide (g.vel ≠ 0) && short
  (s0.modGen q (fun x => { x with inPos := false })).modCore q (fun c => { c with
    endedOp := none, motion := some { m with target := target, rel := none, started := true, turn := turn } })

/-- One period of the motion of a quay in RUNNING in position mode (R590 to R600, R604, R605); without one it comes to rest (R588). A stop that
still waits for the shadow does not act yet (R961). -/
def State.motionStep (s : State) (q : QuayNo) : State :=
  match s.quay[q].core.motion with
  | none =>
    let l := s.limits q
    s.modGen q (fun g => g.at (if l.jerk then jerkStop g.point l (s.periodS q) else brakeStep g.point l.d (s.periodS q)))
  | some m0 =>
    let s0 := if m0.started then s else s.startMotion q m0
    let m := match s0.quay[q].core.motion with
      | some m => m
      | none => m0
    let halted := m.halted && s0.quay[q].core.st == .running
    let g := s0.quay[q].kern.gen
    let l := s0.limits q
    let h := s0.periodS q
    match s0.groupOfQuay q with
    | some gr => s0.groupStep q gr
    | none =>
      match m.jog with
      | some w =>
        let v := max (-l.v) (min l.v (w * s0.countsPerPu q))
        let y := if halted then (if l.jerk then jerkStop g.point l h else brakeStep g.point l.d h) else if l.jerk then jerkSpeed g.point v l h else speedStep g.point v l.a l.d h
        let s1 := s0.modGen q (fun x => x.at y)
        if (halted || decide (w = 0)) && decide (y.v = 0) then s1.modCore q (fun c => { c with motion := none }) else s1
      | none =>
        if halted then s0.modGen q (fun x => x.at (if l.jerk then jerkStop g.point l h else brakeStep g.point l.d h))
        else if m.turn then
          let y := if l.jerk then jerkStop g.point l h else brakeStep g.point l.d h
          let s1 := s0.modGen q (fun x => x.at y)
          if y.v = 0 then s1.modCore q (fun c => { c with motion := c.motion.map (fun z => { z with turn := false }) }) else s1
        else s0.modGen q (fun x => x.at (targetStep g.point m.target l h))

/-- A stop on the generator at the deceleration of its kind: a ramp in the profile kind in force, a quick stop trapezoidal (R606, R607). -/
def State.genStop (s : State) (q : QuayNo) : State :=
  let l := s.limits q
  let k := s.quay[q].stopKind
  s.modGen q (fun g => g.at (
    if l.jerk && k != .quick then jerkStop g.point l (s.periodS q)
    else brakeStep g.point (s.stopDecel q k * s.countsPerPu q) (s.periodS q)))

/-- v_p becomes zero at once (R606, R625). -/
def State.genZero (s : State) (q : QuayNo) : State := s.modGen q (fun g => { g with vel := 0, acc := 0 })

/-! ### Arrival and the end of motions (R595 to R597, R661, R1077) -/

/-- The quay is at rest: v_p = 0 where the generator governs it, else the absolute speed below `quay.stop_speed`. -/
def State.atRest (s : State) (q : QuayNo) : Bool :=
  let x := s.quay[q]
  let gen := s.isStepped q || x.core.byGen || (x.core.st == .running && x.core.mode == .position)
  if gen && (x.core.st == .running || x.core.st == .hold || x.core.st == .stopping || (x.core.st == .faulted && x.rampReact)) then x.kern.gen.vel == 0
  else if (s.primaryCell q).isNone && s.isStepped q then true
  else decide (rabs x.kern.reg.n < quayStopSpeed s q)

/-- The position of a quay as the 64-bit result of an event entry. -/
def State.positionResult (s : State) (q : QuayNo) : Nat := (s.position q % 18446744073709551616).toNat

/-- At rest, an ended motion and a homing without reference write their event entries (R597, R1077). -/
def State.settle (s : State) (q : QuayNo) : State :=
  let c := s.quay[q].core
  if !s.atRest q then s
  else
    let inGroup := (s.groupOfQuay q).isSome
    let halted := match c.motion with
      | some m => m.halted
      | none => false
    let s1 := if halted then
        (if inGroup then s else s.eventOpt c.motionOp stRefused 0 (s.positionResult q)).modCore q (fun x => { x with motion := none, motionOp := none })
      else s
    let s2 := if c.endedOp.isSome && c.st != .running then
        (s1.eventOpt c.endedOp stRefused 0 (s.positionResult q)).modCore q (fun x => { x with endedOp := none })
      else s1
    let s3 := if c.homeOp.isSome && c.st != .homing && c.homing.isNone then
        (s2.eventOpt c.homeOp stRefused 0 (s.positionResult q)).modCore q (fun x => { x with homeOp := none })
      else s2
    s3.finishGroups

/-- |p − target| lies within `quay.in_pos_window` (R595). -/
def State.inWindow (s : State) (q : QuayNo) (target : Int) : Bool :=
  decide ((s.position q - target).natAbs ≤ quayInPosWindow s q)

/-- Track since when the position has stayed within the arrival window (R595). -/
def State.trackArrival (s : State) (q : QuayNo) : State :=
  match s.quay[q].core.motion with
  | some m =>
    let inside := m.jog.isNone && m.started && s.inWindow q m.target
    s.modQuay q (fun x => { x with kern := { x.kern with reg := { x.kern.reg with
      inPosSince := if inside then (match x.kern.reg.inPosSince with | some t => some t | none => some x.snap.time) else none } } })
  | none => s.modQuay q (fun x => { x with kern := { x.kern with reg := { x.kern.reg with inPosSince := none } } })

/-- The quay has arrived at the target of its motion (R595). -/
def State.arrived (s : State) (q : QuayNo) (m : Motion) : Bool :=
  let x := s.quay[q]
  m.started && !m.halted && m.jog.isNone && x.kern.gen.pos == (m.target : Rat) && x.kern.gen.vel == 0 &&
    ((s.primaryCell q).isNone ||
      (match x.kern.reg.inPosSince with
       | some t => decide (t + us (quayInPosTime s q) ≤ s.now)
       | none => false))

/-- MOVE_ARRIVAL (R595, R596, R661). -/
def execMoveArrival (q : QuayNo) (s : State) : Host.Outcome State Fault Refusal :=
  match s.quay[q].core.motion with
  | some m =>
    if s.quay[q].core.st = .running ∧ s.arrived q m = true then
      let s1 := s.modGen q (fun g => { g with inPos := true })
      if (s.groupOfQuay q).isSome then .next s1.finishGroups
      else .next ((s1.eventOpt s1.quay[q].core.motionOp stDone 0 (s1.positionResult q)).modCore q
        (fun c => { c with motion := none, motionOp := none }))
    else .next s
  | none => .next s

end Sys2Proof.Machine
end

