-- ==== Sys2Proof/Machine/Currents.lean ====
section
/-! DEFINITION. The current layer of FOC quays (chapter 07): angles, acquisition, references, regulators, voltage limit, phase advance,
modulation and switching instants; block commutation and brushed DC. Quantities in pu. -/

namespace Sys2Proof.Machine

/-! ### Frames and angles (R430 to R438) -/

/-- Square root of 3. -/
def sqrt3 : Rat := sqrtQ 3

/-- Electrical turns per second of 1 pu of speed (R430). -/
def State.elecHz (s : State) (q : QuayNo) : Rat := (quayPolePairs s q : Rat) * (quayNBase s q : Rat) / 60

/-- ω_base in rad/s (R430). -/
def State.omegaBase (s : State) (q : QuayNo) : Rat := twoPi * s.elecHz q

/-- Nearest integer. -/
def nearest (x : Rat) : Int := (x + 1 / 2).floor

/-- A number of turns as an angle (R21). -/
def turns (x : Rat) : Word := BitVec.ofInt 32 (nearest (x * 4294967296))

/-- The view of a cell in a snapshot. -/
def Snapshot.view (p : Snapshot) (k : CellNo) : Option CellView := p.cells.find? (fun v => v.cell == k)

/-- The view of the commutation cell of a quay (R433). -/
def State.commView (s : State) (q : QuayNo) : Option CellView := (s.commCell q).bind s.quay[q].snap.view
/-- The view of the primary cell of a quay. -/
def State.primaryView (s : State) (q : QuayNo) : Option CellView := (s.primaryCell q).bind s.quay[q].snap.view

/-- θ_m of a quay with an encoder (R435). -/
def State.encoderMech (s : State) (q : QuayNo) (v : CellView) : Word :=
  let c := s.countsPerRev v.cell
  if c = 0 then 0 else BitVec.ofInt 32 (((v.pos - quayAngleZero s q) % (c : Int)) * 4294967296 / (c : Int))

/-- θ_e from an encoder (R434). -/
def State.encoderAngle (s : State) (q : QuayNo) (v : CellView) : Word :=
  BitVec.ofNat 32 (quayPolePairs s q) * s.encoderMech q v + BitVec.ofNat 32 (quayElecOffset s q)

/-- A sixth of a turn times a number of half sectors (30 degrees each). -/
def halfSectors (n : Int) : Rat := (n : Rat) / 12

/-- θ_e from Hall feedback (R436, R437). -/
def State.hallAngle (s : State) (q : QuayNo) (v : CellView) : Word :=
  match v.hall.bind (hallSector (fbHallOrder s v.cell)) with
  | none => s.quay[q].kern.reg.thetaE
  | some sec =>
    let centre : Rat := (quayHallOffset s q : Rat) / 4294967296 + halfSectors (2 * sec)
    if v.still || v.provisional then turns centre
    else
      let c : Rat := s.countsPerRev v.cell
      let travel := if c = 0 then 0 else v.speed * (quayPolePairs s q : Rat) / c * secs (s.quay[q].snap.time - v.lastEdge)
      turns (centre + max (halfSectors (-1)) (min (halfSectors 1) (-(v.dir : Rat) * halfSectors 1 + travel)))

/-- θ_e from the cell that `quay.angle_source` names: encoder or Hall. -/
def State.cellAngle (s : State) (q : QuayNo) : Word :=
  match s.commView q with
  | some v => if quayAngleSource s q = 2 then s.hallAngle q v else s.encoderAngle q v
  | none => s.quay[q].kern.reg.thetaE

/-! ### Phase currents (R431, R444, R479) -/

/-- The legs U, V, W of a winding set (R432). -/
def State.setPhases (s : State) (q : QuayNo) (j : Nat) : List LegNo :=
  match s.setLegs q j with
  | [u, v, w] => if quayPhaseOrder s q = 1 then [u, w, v] else [u, v, w]
  | ls => ls

/-- The current of a leg in a snapshot. -/
def Snapshot.current (p : Snapshot) (l : LegNo) : Option Rat := (p.currents.find? (fun e => e.1 == l)).bind (·.2)

/-- The three phase currents of a set: a phase that is not measured is the negative sum of the other two (R444). -/
def State.setCurrents (s : State) (q : QuayNo) (j : Nat) : Rat × Rat × Rat :=
  match (s.setPhases q j).map s.quay[q].snap.current with
  | [some a, some b, some c] => (a, b, c)
  | [some a, some b, none] => (a, b, -(a + b))
  | [some a, none, some c] => (a, -(a + c), c)
  | [none, some b, some c] => (-(b + c), b, c)
  | _ => (Config.freeRat (s.free + 8 * j), Config.freeRat (s.free + 8 * j + 1), Config.freeRat (s.free + 8 * j + 2))

/-- The two-phase voltages of a stationary vector as those of three phases (R431). -/
def phasesOf (u : Rat × Rat) : Rat × Rat × Rat := (u.1, -u.1 / 2 + sqrt3 / 2 * u.2, -u.1 / 2 - sqrt3 / 2 * u.2)

/-- A current input of the snapshot is stale (R446): a lane of phase legs, or a sigma-delta input of the current map. -/
def State.staleCurrent (s : State) (q : QuayNo) : Bool :=
  s.quay[q].snap.stale.any (fun i =>
    match i with
    | .lane n => quayISource s q == 0 && (s.phaseLegs q).any (fun l => s.laneOf l == some n)
    | .sd n => quayISource s q == 1 && (List.range (s.phaseLegs q).length).any (fun j => s.sdPhase q j == some n.val)
    | _ => false)

/-- Clarke and Park transformation at an angle (R431). -/
def toFrame (i : Rat × Rat × Rat) (th : Word) : Dq :=
  let al := (2 * i.1 - i.2.1 - i.2.2) / 3
  let be := (i.2.1 - i.2.2) / sqrt3
  let c := cosTurn th
  let n := sinTurn th
  { d := al * c + be * n, q := be * c - al * n }

/-- Sum and difference of vectors, and a multiple. -/
def Dq.add (x y : Dq) : Dq := ⟨x.d + y.d, x.q + y.q⟩
/-- Difference of vectors. -/
def Dq.sub (x y : Dq) : Dq := ⟨x.d - y.d, x.q - y.q⟩
/-- Multiple of a vector. -/
def Dq.mul (k : Rat) (x : Dq) : Dq := ⟨k * x.d, k * x.q⟩
/-- Square of a vector's magnitude. -/
def Dq.sq (x : Dq) : Rat := x.d * x.d + x.q * x.q
/-- A vector turned by an angle. -/
def Dq.turn (x : Dq) (th : Word) : Dq :=
  ⟨x.d * cosTurn th - x.q * sinTurn th, x.d * sinTurn th + x.q * cosTurn th⟩

/-- The shift of a winding set (R479). -/
def State.setShift (s : State) (q : QuayNo) (j : Nat) : Word := if j = 0 then 0 else BitVec.ofNat 32 (quaySetShift s q (j - 1))

/-- The active sets of a quay (R480, R720). -/
def State.sets (s : State) (q : QuayNo) : List (Fin 4) := (List.finRange 4).filter (s.setActive q)

/-- The d and q currents of a set at θ_e (R479). -/
def State.setDq (s : State) (q : QuayNo) (th : Word) (j : Nat) : Dq := toFrame (s.setCurrents q j) (th - s.setShift q j)

/-- The mean of the d and q currents of the active sets (R480). -/
def State.meanDq (s : State) (q : QuayNo) (th : Word) : Dq :=
  let js := s.sets q
  let sum := js.foldl (fun (a : Dq) j => a.add (s.setDq q th j.val)) {}
  if js.isEmpty then {} else sum.mul (1 / (js.length : Rat))

/-! ### Phase advance (R469, R470) -/

/-- γ in turns by linear interpolation between the points of the table (R470). -/
def advanceTurns (w : Rat) : List (Rat × Rat) → Rat
  | [] => 0
  | [(_, a)] => a
  | (s0, a0) :: (s1, a1) :: rest =>
    if w ≤ s0 then a0
    else if w < s1 then a0 + (a1 - a0) * (w - s0) / (s1 - s0)
    else advanceTurns w ((s1, a1) :: rest)

/-- γ of a quay at a speed (R469, R470, R474). -/
def State.advance (s : State) (q : QuayNo) (n : Rat) : Word :=
  turns (advanceTurns (rabs n) ((List.range (tabAdvCount s q)).map (fun i => (tabAdvSpeed s q i, (tabAdvAngle s q i : Rat) / 4294967296))))

/-! ### Current references (R457, R458, R475, R482, R813) -/

/-- The current limit of a quay's sets: `quay.i_max` and the smallest effective leg limit (R458, R813). -/
def State.currentLimit (s : State) (q : QuayNo) : Rat :=
  (s.sets q).foldl (fun m j => (s.setLegs q j.val).foldl (fun m' l => min m' (s.iLimitEff l (s.quay[q].iterAt.getD s.now) / (quayIBase s q : Rat))) m) (quayIMax s q)

/-- A quotient, a free value where the divisor is zero. -/
def quot (a b f : Rat) : Rat := if b = 0 then f else a / b

/-- The factor S / S_a (R482). -/
def State.setFactor (s : State) (q : QuayNo) : Rat :=
  let n := (s.sets q).length
  if n = 0 then 1 else (s.setsOf q : Rat) / (n : Rat)

/-- References of a PMSM or BLDC machine for a torque: the vector and whether the limit acted (R457, R458, R482). -/
def State.magnetRefs (s : State) (q : QuayNo) (t : Rat) (adv : Word) (f : Rat) : Dq × Bool :=
  let is := quot t (quayKt s q * cosTurn adv) f * s.setFactor q
  let lim := s.currentLimit q
  let is' := max (-lim) (min lim is)
  (⟨-(rabs is') * sinTurn adv, is' * cosTurn adv⟩, decide (is' ≠ is))

/-- References of an induction machine (R472, R475, R482). -/
def State.inductionRefs (s : State) (q : QuayNo) (t psi : Rat) (adv : Word) (f : Rat) : Dq × Bool :=
  let k := s.setFactor q
  let id := quot (quayImFluxNom s q * cosTurn adv) (quayLm s q) f * k
  let iq := if t = 0 then 0 else quot (t * quayImFluxNom s q) (quayKt s q * psi) f * k
  let lim := s.currentLimit q
  let room := sqrtQ (max 0 (lim * lim - id * id))
  if id * id + iq * iq ≤ lim * lim then (⟨id, iq⟩, false) else (⟨id, max (-room) (min room iq)⟩, true)

/-! ### Regulators (R460 to R466, R478, R480, R481) -/

/-- An integrator's step that does not grow in magnitude where its component is reduced (R466). -/
def integrate (old step : Rat) (reduced : Bool) : Rat :=
  let new := old + step
  if reduced && decide (rabs old < rabs new) then old else new

/-- Feedforward of the mean axis (R461, R478). -/
def State.feedforward (s : State) (q : QuayNo) (i : Dq) (w psi : Rat) : Dq :=
  if quayDecouple s q = 0 then {}
  else
    let rs := quayRs s q
    if s.machine q = 2 then
      let l := quayLd s q - quot (quayLm s q * quayLm s q) (quayLr s q) 0
      ⟨rs * i.d - w * l * i.q, rs * i.q + w * l * i.d + w * quot (quayLm s q) (quayLr s q) 0 * psi⟩
    else
      let lq := if s.machine q = 4 then quayLd s q else quayLq s q
      ⟨rs * i.d - w * lq * i.q, rs * i.q + w * quayLd s q * i.d + w * quayPsiPm s q⟩

/-- The voltage limit on a vector (R465): the limited vector and which components were reduced. -/
def limitVector (u : Dq) (lim : Rat) : Dq × Bool × Bool :=
  if u.sq ≤ lim * lim then (u, false, false)
  else
    let d := max (-lim) (min lim u.d)
    let q := rsgn u.q * min (rabs u.q) (sqrtQ (max 0 (lim * lim - d * d)))
    (⟨d, q⟩, decide (d ≠ u.d), decide (q ≠ u.q))

/-- u_lim of R464. -/
def State.voltLimitOf (s : State) (q : QuayNo) : Rat := (quayModLimit s q : Rat) / 1000 * s.quay[q].snap.udc / sqrt3

/-- What the regulators of an iteration answer: the registers and the limited voltage of each active set. -/
structure Regulated where
  reg  : Regs
  sets : List (Fin 4 × Dq)

/-- The regulators of a quay for current references (R460 to R467, R480, R481, R484); with several sets the mean integrator does not grow while
any of them is reduced (R481). `first`: the first iteration after entry, feedforward
alone (R462); `freeze`: a current input is stale (R446). -/
def State.regulate (s : State) (q : QuayNo) (r : Regs) (ref : Dq) (w : Rat) (first freeze : Bool) : Regulated :=
  let h := s.periodS q
  let i := s.meanDq q r.thetaE
  let kp := quayIKp s q
  let ki : Rat := (quayIKi s q : Rat) / 1000
  let e := ref.sub i
  let ff := s.feedforward q i w r.psiR
  let raw : Dq := if first then ff else (((e.mul kp).add r.iInt).add (e.mul (ki * h))).add ff
  let multi := decide (1 < (s.sets q).length)
  let bkp := quayBalKp s q
  let bki : Rat := (quayBalKi s q : Rat) / 1000
  let lim := s.voltLimitOf q
  let perSet := (s.sets q).map (fun j =>
    let df := (s.setDq q r.thetaE j.val).sub i
    let ib := r.balInt[j]
    let lw := w * quayLSigmaSet s q
    let b : Dq := if !multi || first then {} else ⟨-(bkp + bki * h) * df.d + ib.d - lw * df.q, -(bkp + bki * h) * df.q + ib.q + lw * df.d⟩
    let v := limitVector (raw.add b) lim
    (j, df, v))
  let anyD := perSet.any (fun e => e.2.2.2.1)
  let anyQ := perSet.any (fun e => e.2.2.2.2)
  let hold := first || freeze
  let stopD := if multi then anyD || anyQ else anyD
  let stopQ := if multi then anyD || anyQ else anyQ
  let iInt : Dq := if hold then r.iInt else ⟨integrate r.iInt.d (ki * h * e.d) stopD, integrate r.iInt.q (ki * h * e.q) stopQ⟩
  let bal := perSet.foldl (fun (b : Vector Dq 4) e =>
    if hold || !multi then b
    else b.set e.1 ⟨integrate b[e.1].d (-(bki * h * e.2.1.d)) e.2.2.2.1, integrate b[e.1].q (-(bki * h * e.2.1.q)) e.2.2.2.2⟩) r.balInt
  let imb := (List.finRange 4).foldl (fun (m : Vector Nat 4) j =>
    let high := multi && perSet.any (fun e => e.1 == j && decide (quayBalWarn s q * quayBalWarn s q < e.2.1.sq))
    m.set j (if high then r.imbRun[j] + 1 else 0)) r.imbRun
  let outs := if freeze then (s.sets q).map (fun j => (j, r.uSets[j])) else perSet.map (fun e => (e.1, e.2.2.1))
  let red := !freeze && (anyD || anyQ)
  { reg := { r with iInt := iInt, balInt := bal, iMeas := i, uCmd := if freeze then r.uCmd else raw, voltLimit := red
                    uSets := outs.foldl (fun v e => v.set e.1 e.2) r.uSets
                    vlimRun := if red then r.vlimRun + 1 else 0, imbRun := imb }
    sets := outs }

/-! ### Modulation (R442, R486 to R491) -/

/-- Carrier period in ticks that goes with the quay's update period. -/
def State.carrierTicks (s : State) (q : QuayNo) : Nat := s.loopPeriod q * quayLoopPerCarrier s q

/-- The three duties of a set (R442, R486, R487). -/
def State.duties (s : State) (q : QuayNo) (u : Rat × Rat × Rat) (f : Rat) : List Rat :=
  let hi := max u.1 (max u.2.1 u.2.2)
  let lo := min u.1 (min u.2.1 u.2.2)
  let u0 := if quayModulation s q = 0 then -(hi + lo) / 2 else 0
  let ds := [u.1, u.2.1, u.2.2].map (fun x => quot (x + u0) s.quay[q].snap.udc f + 1 / 2)
  let low := quayShuntPlace s q == 0 && !s.isHeavy q && quayISource s q == 0
  let top : Rat := 1 - quot (quayShuntMinWindow s q : Rat) (s.carrierTicks q : Rat) 0
  let shift := if low then max 0 (min (ds.foldl max 0 - top) (ds.foldl min 1)) else 0
  ds.map (fun d => max 0 (min 1 (d - shift)))

/-- The update point the commands of this iteration are for is a carrier valley (R126, R489). -/
def State.atValley (s : State) (q : QuayNo) : Bool :=
  quayLoopPerCarrier s q != 2 || (s.loopPeriod q != 0 && ((s.nextUpdate q - s.loopPhase q) / s.loopPeriod q % 2 == 0) != s.carrierFlip q)

/-- Movement of an ideal edge by dead-time compensation, in ticks (R490). -/
def State.deadComp (s : State) (q : QuayNo) (l : LegNo) : Rat :=
  let t := quayDtcTime s q
  let dead : Rat := if t = 0xFFFF then (legDeadTime s l : Rat) else t
  let i := (s.quay[q].snap.current l).getD 0
  rsgn i * min (quot (rabs i) (quayDtcBand s q) 1) 1 * dead / 2

/-- An instant within a period. -/
def instant (x : Rat) (period : Nat) : Nat := (max 0 (min (period : Int) (nearest x))).toNat

/-- The command of a leg for a duty (R488 to R491). DEDUCED, log entry 29: with two loops per carrier period the on-interval of the carrier
period is twice that of the half. -/
def State.legCommand (s : State) (q : QuayNo) (l : LegNo) (d : Rat) : LegCmd :=
  let c := s.deadComp q l
  let p := s.loopPeriod q
  let mp := quayMinPulse s q
  if quayLoopPerCarrier s q = 2 then
    if s.atValley q then
      let on := instant ((1 - d) * p - c) p
      if 2 * (p - on) < mp then ⟨.holdLow, none, none⟩ else if 2 * on < mp then ⟨.holdHigh, none, none⟩ else ⟨.switch, some on, none⟩
    else
      let off := instant (d * p + c) p
      if 2 * off < mp then ⟨.holdLow, none, none⟩ else if 2 * (p - off) < mp then ⟨.holdHigh, none, none⟩ else ⟨.switch, none, some off⟩
  else
    let on := instant ((1 - d) * p / 2 - c) p
    let off := instant ((1 + d) * p / 2 + c) p
    let wide : Int := (off : Int) - on
    if wide < mp ∨ wide ≤ 0 then ⟨.holdLow, none, none⟩ else if p - wide < mp then ⟨.holdHigh, none, none⟩ else ⟨.switch, some on, some off⟩

/-- Commands of one kind for some legs (R493). -/
def allLegsAs (ls : List LegNo) (k : LegKind) : List (LegNo × LegCmd) := ls.map (fun l => (l, ⟨k, none, none⟩))

/-- Commands for the legs of dropped sets (R721). -/
def State.droppedCommands (s : State) (q : QuayNo) : List (LegNo × LegCmd) :=
  let js := (List.finRange 4).filter (fun j => s.quay[q].kern.reg.dropped[j])
  js.foldl (fun acc j => acc ++ allLegsAs (s.setLegs q j.val) (if quayDegradeSetState s q = 1 then .holdLow else .off)) []

/-- The vector of each active set in the stationary frame (R468, R479): the limited vector at θ_e with the delay compensation; with a stale
current input the vector last applied, turned by ω_e × T_u (R446). -/
def State.stationary (s : State) (q : QuayNo) (r : Regs) (w : Rat) (freeze : Bool) (us : List (Fin 4 × Dq)) : List (Fin 4 × Dq) :=
  let lead : Word := if quayDelayComp s q = 1 then turns (w * s.elecHz q * 3 / 2 * s.periodS q) else 0
  us.map (fun e => (e.1,
    if freeze then r.uStat[e.1].turn (turns (w * s.elecHz q * s.periodS q)) else e.2.turn (r.thetaE - s.setShift q e.1.val + lead)))

/-- Commands for a stationary voltage vector of each active set (R486 to R491). -/
def State.vectorCommands (s : State) (q : QuayNo) (us : List (Fin 4 × Dq)) : List (LegNo × LegCmd) :=
  us.foldl (fun acc e =>
    let ds := s.duties q (phasesOf (e.2.d, e.2.q)) (Config.freeRat (s.free + 40 + e.1.val))
    acc ++ ((s.setPhases q e.1.val).zip ds).map (fun p => (p.1, s.legCommand q p.1 p.2))) (s.droppedCommands q)

/-! ### Block commutation and brushed DC (R473, R494 to R499) -/

/-- Roles of legs in block commutation (R494). -/
inductive BlockRole where
  | pwm
  | low
  | open_
  deriving DecidableEq, Repr

/-- Roles of U, V and W in a sector (R494). -/
def blockRoles : Nat → List BlockRole
  | 0 => [.pwm, .low, .open_]
  | 1 => [.pwm, .open_, .low]
  | 2 => [.open_, .pwm, .low]
  | 3 => [.low, .pwm, .open_]
  | 4 => [.low, .open_, .pwm]
  | _ => [.open_, .low, .pwm]

/-- Roles with P and L exchanged for negative torque (R495). -/
def BlockRole.swap : BlockRole → BlockRole
  | .pwm => .low
  | .low => .pwm
  | .open_ => .open_

/-- The commutation sector of an angle (R494). -/
def blockSector (th : Word) : Nat := th.toNat * 6 / 4294967296

/-- The command of a leg by its role (R494); where `quay.bldc_pwm` = 0 the low side of the PWM leg stays off, by its leg cell while it switches
and by OFF where an interval is too short (R491, R497, R750). -/
def State.blockCommand (s : State) (q : QuayNo) (l : LegNo) (d : Rat) : BlockRole → LegCmd
  | .pwm =>
    let c := s.legCommand q l d
    if quayBldcPwm s q = 0 ∧ (substitute c (s.loopPeriod q) (legDeadTime s l)).kind = .holdLow then ⟨.off, none, none⟩ else c
  | .low => ⟨.holdLow, none, none⟩
  | .open_ => ⟨.off, none, none⟩

/-- The share of the current of current-frequency mode in the reference during its handover (R505). -/
def Regs.ifShare (r : Regs) : Rat := if !r.ifMode then 0 else if r.handover = 0 then 1 else (r.handover : Rat) / 32

/-- Block commutation of an iteration for a torque (R473, R494 to R497): registers and commands. In current-frequency mode the current of R504
goes through the legs of the frame's sector. -/
def State.blockStep (s : State) (q : QuayNo) (r : Regs) (t w : Rat) (first freeze : Bool) : Regs × List (LegNo × LegCmd) :=
  let adv := s.advance q w
  let th := if w < 0 then r.thetaE - adv else if 0 < w then r.thetaE + adv else r.thetaE
  let own := quot t (quayKt s q) 0
  let is := r.ifShare * (r.ifSign * quayIfCurrent s q) + (1 - r.ifShare) * own
  let neg := decide (is < 0)
  let roles := (blockRoles (blockSector th)).map (fun x => if neg then x.swap else x)
  let legs := s.setPhases q 0
  let lim := s.currentLimit q
  let is' := max (-lim) (min lim is)
  let lowLeg := ((legs.zip roles).find? (fun e => e.2 == .low)).map (·.1)
  let meas := match lowLeg.bind s.quay[q].snap.current with
    | some i => if neg then i else -i
    | none => 0
  let h := s.periodS q
  let ki : Rat := (quayIKi s q : Rat) / 1000
  let e := is' - meas
  let sgn : Rat := if neg then -1 else 1
  let top : Rat := (quayModLimit s q : Rat) / 1000
  let raw := if freeze then r.uCmd.q else if first then 0 else sgn * (quayIKp s q * e + r.iInt.q + ki * h * e)
  let d := max 0 (min top (quot raw s.quay[q].snap.udc (Config.freeRat (s.free + 44))))
  let reduced := decide (top < quot raw s.quay[q].snap.udc 0)
  ({ r with iInt := if first || freeze then r.iInt else ⟨0, integrate r.iInt.q (ki * h * e) reduced⟩, iMeas := ⟨0, meas⟩
            uCmd := ⟨0, raw⟩, adv := adv, voltLimit := reduced, vlimRun := if reduced then r.vlimRun + 1 else 0, torqueLim := r.torqueLim || decide (is' ≠ is) },
   (legs.zip roles).map (fun e => (e.1, s.blockCommand q e.1 d e.2)))

/-- Brushed DC of an iteration for a torque (R499), with the feedforward of R461 in its one axis while `quay.decouple` is 1 (DEDUCED, log entry
29): registers and commands. -/
def State.brushedStep (s : State) (q : QuayNo) (r : Regs) (t : Rat) (first freeze : Bool) : Regs × List (LegNo × LegCmd) :=
  let legs := s.phaseLegs q
  let meas := (legs.head?.bind s.quay[q].snap.current).getD 0
  let lim := s.currentLimit q
  let is := quot t (quayKt s q) 0
  let is' := max (-lim) (min lim is)
  let e := is' - meas
  let h := s.periodS q
  let ki : Rat := (quayIKi s q : Rat) / 1000
  let ff := if quayDecouple s q = 1 then quayRs s q * meas + r.n * quayPsiPm s q else 0
  let raw := if freeze then r.uCmd.q else if first then ff else quayIKp s q * e + r.iInt.q + ki * h * e + ff
  let top := (quayModLimit s q : Rat) / 1000 * s.quay[q].snap.udc
  let u := max (-top) (min top raw)
  let half := quot u (2 * s.quay[q].snap.udc) (Config.freeRat (s.free + 44))
  let reduced := decide (u ≠ raw)
  ({ r with iInt := if first || freeze then r.iInt else ⟨0, integrate r.iInt.q (ki * h * e) reduced⟩, iMeas := ⟨0, meas⟩, uCmd := ⟨0, u⟩
            voltLimit := reduced, vlimRun := if reduced then r.vlimRun + 1 else 0, torqueLim := r.torqueLim || decide (is' ≠ is) },
   (legs.zip [1 / 2 + half, 1 / 2 - half]).map (fun e => (e.1, s.legCommand q e.1 (max 0 (min 1 e.2)))))

/-! ### Induction machine flux (R475 to R477) -/

/-- Slip frequency in pu (R476). -/
def State.slipOf (s : State) (q : QuayNo) (iq psi f : Rat) : Rat := quot (quot (quayRr s q) (quayLr s q) 0 * quayLm s q * iq) psi f

/-- One period of the current model of the rotor flux and of the slip angle (R476). -/
def State.fluxStep (s : State) (q : QuayNo) (r : Regs) : Regs :=
  let h := s.periodS q
  let dpsi := s.omegaBase q * quot (quayRr s q) (quayLr s q) 0 * (quayLm s q * r.iMeas.d - r.psiR)
  let w := if r.iMeas.q = 0 then 0 else s.slipOf q r.iMeas.q r.psiR (Config.freeRat (s.free + 45))
  { r with psiR := r.psiR + h * dpsi, slip := r.slip + w * s.elecHz q * h }

end Sys2Proof.Machine
end

