-- ==== Sys2Proof/Machine/Torque.lean ====
section
/-! DEFINITION. From reference to torque (chapter 08): speed loop, load observer, speed clamp, tension mode, share split, rate limit and torque
limits. Quantities in pu, times in seconds. -/

namespace Sys2Proof.Machine

/-- Change the registers of a quay's kernel. -/
def State.modReg (s : State) (q : QuayNo) (f : Regs → Regs) : State :=
  s.modQuay q (fun x => { x with kern := { x.kern with reg := f x.kern.reg } })

/-- A filtered value after one period: a first-order filter of a time constant in microseconds; without one the value itself (R532, R549). -/
def filtered (old x : Rat) (tau : Nat) (h : Rat) : Rat :=
  if tau = 0 then x else old + filterGain ((tau : Rat) / 1000000) h * (x - old)

/-- One step of a ramp toward a goal: growing magnitude of the same sign at one rate, a smaller magnitude or across zero at the other
(R538). -/
def rampTo (cur goal up down : Rat) : Rat :=
  if 0 ≤ cur * goal ∧ rabs cur ≤ rabs goal then rsgn goal * min (rabs goal) (rabs cur + up)
  else if 0 ≤ cur * goal then rsgn cur * max (rabs goal) (rabs cur - down)
  else rsgn cur * max (-(rabs goal)) (rabs cur - down)

/-- What stage 1 and 2 work on: a speed reference to ramp toward, a speed reference that is already ramped with its acceleration (R602), a
torque reference (R540), tension mode, a given torque target that skips the speed loop (R688, R706), or G of a master (R568). -/
inductive Drive where
  | speed (goal : Rat)
  | position (ref acc : Rat)
  | torque (t : Rat)
  | tension
  | target (t : Rat)
  | follow (g : Rat)
  deriving DecidableEq, Repr

/-- The speed the loops use (R532, R533). -/
def Regs.loopSpeed (r : Regs) (riding : Bool) : Rat := if riding then r.nHat else r.nf

/-- The primary cell's speed is provisional and the quay is not sensorless (R533). -/
def State.riding (s : State) (q : QuayNo) (r : Regs) : Bool :=
  !r.sensorless &&
    (match s.primaryView q with
     | some v => v.still || v.provisional
     | none => false)

/-- K of a quay over its share ratio (R526, R565). -/
def State.kRatio (s : State) (q : QuayNo) : Rat :=
  if quayShareRole s q = 1 ∧ s.quay[q].share.k ≠ 0 then quot s.quay[q].share.k (quayShareRatio s q) 1 else 1

/-- The load observer (R533, R536). Its gains put both poles of n − n̂ at 1 − g, the pole of a first-order filter of that bandwidth. -/
def State.loadObserver (s : State) (q : QuayNo) (r : Regs) (riding : Bool) : Regs :=
  let h := s.periodS q
  let j := quayInertia s q
  let g := filterGain (quayLobsBw s q : Rat) h
  let dApp := r.tStar * s.kRatio q
  let err := if riding then 0 else r.n - r.nHat
  { r with nHat := r.nHat + h * quot (dApp + r.lHat) j 0 + 2 * g * err, lHat := r.lHat + quot (g * g * j) h 0 * err }

/-- The terms of T_ff (R535, R552): speed mode's class-0 feedforward, acceleration, load, tension. -/
def State.torqueFf (s : State) (q : QuayNo) (r : Regs) (ff acc tens : Rat) : Rat :=
  ff + (if quayAccelFf s q = 1 then quayInertia s q * acc else 0) + (if quayLobsFf s q = 1 then -r.lHat else 0) + tens

/-- Integral gain of the speed loop and the speed clamp over one period; their integrators are frozen while a current input is stale (R446). -/
def State.speedKi (s : State) (q : QuayNo) : Rat :=
  if s.staleCurrent q then 0 else (quaySpeedKi s q : Rat) / 1000 * s.periodS q

/-- The speed loop for a ramped reference (R534, R539, R542): registers with the new integrator, and D. With a preset it yields the given D (R544). -/
def State.speedLoop (s : State) (q : QuayNo) (r : Regs) (nRef tff : Rat) (riding : Bool) (preset : Option Rat) : Regs × Rat :=
  let kp : Rat := (quaySpeedKp s q : Rat) / 1000
  let ki := s.speedKi q
  let e := nRef - quayDroop s q * r.tStar - r.loopSpeed riding
  let x := s.quay[q]
  let judged := x.eff.st == .running && (x.eff.mode == .speed || x.eff.mode == .tension)
  let errLong := judged && decide (quaySpeedErrMax s q < rabs e)
  let r1 := { r with nRef := nRef
                     errSince := if errLong then (match r.errSince with | some t => some t | none => some x.snap.time) else none }
  match preset with
  | some d => ({ r1 with integ := d - kp * e - tff }, d)
  | none => ({ r1 with integ := r.integ + ki * e }, kp * e + r.integ + ki * e + tff)

/-- The speed clamp of torque mode and of a release (R535, R540, R734): at speed zero the positive one. Where it did not act, its integrator is
where the torque reference and the feedforward leave it, so that it acts from the limit on without a step. -/
def State.speedClamp (s : State) (q : QuayNo) (r : Regs) (t limit : Rat) (riding : Bool) : Regs × Rat :=
  let kp : Rat := (quaySpeedKp s q : Rat) / 1000
  let ki := s.speedKi q
  let n := r.loopSpeed riding
  let ref := if n < 0 then -limit else limit
  let e := ref - n
  let tff := s.torqueFf q r 0 0 0
  let int := if r.clampOn then r.clampInt else t - tff
  let out := kp * e + int + ki * e + tff
  let acts := if n < 0 then decide (t < out) else decide (out < t)
  if acts then ({ r with clampInt := int + ki * e, clampOn := true }, out) else ({ r with clampInt := t - tff, clampOn := false }, t)

/-- Since when a condition has held, by the sample time of the snapshot. -/
def since (cond : Bool) (old : Option Nat) (t : Nat) : Option Nat := if cond then (match old with | some a => some a | none => some t) else none

/-- Measured tension (R549) and the conditions of the sub-states, which last only in STAND of tension mode, and of TENSION_HIGH (R550, R551,
R555). -/
def State.tensionMeas (s : State) (q : QuayNo) (r : Regs) : Regs :=
  let x := s.quay[q]
  let p := x.snap
  let stands := x.driving && x.eff.st == .running && x.eff.mode == .tension && r.tensionState == 0
  let raw := if quayTensionSource s q = 1 then p.sdTension else quot (-r.lHat) (quayTensionGain s q) 0
  let f := filtered r.tension raw (quayTensionFilter s q) (s.periodS q)
  let fr := max 0 p.tension
  { r with
    tension := f
    renderSince := since (stands && decide (fr * (1 + quayRenderBand s q) < f)) r.renderSince p.time
    recoverSince := since (stands && decide (f < fr * (1 - quayRecoverBand s q))) r.recoverSince p.time
    tensSince := since (decide (quayTensionMax s q < f)) r.tensSince p.time }

/-- The sub-state changes that no dwell delays (R551). The changes out of STAND come with TENSION_DWELL_EXPIRY. -/
def State.tensionState (s : State) (q : QuayNo) (r : Regs) : Nat :=
  let fr := max 0 s.quay[q].snap.tension
  if r.tensionState = 1 ∧ r.tension ≤ fr then 0
  else if r.tensionState = 2 ∧ fr ≤ r.tension then 0
  else r.tensionState

/-- The speed reference of a sub-state (R551). -/
def State.tensionSpeed (s : State) (q : QuayNo) : Nat → Rat
  | 1 => -(quayRenderSpeed s q)
  | 2 => quayRecoverSpeed s q
  | _ => 0

/-- Position-loop reference (R602): the ramped speed and its acceleration in pu. -/
def State.positionDrive (s : State) (q : QuayNo) : Drive :=
  let g := s.quay[q].kern.gen
  let p : Rat := match s.primaryView q with
    | some v => v.pos
    | none => s.position q
  let lim := quaySpeedLimit s q
  .position (max (-lim) (min lim (s.toPu q (g.vel + quayPosKp s q * (g.pos - p))))) (s.toPu q g.acc)

/-- Stages 1 and 2: registers and D (R526, R534 to R540, R552, R553). -/
def State.demandOf (s : State) (q : QuayNo) (r0 : Regs) (d : Drive) (preset : Option Rat) : Regs × Rat :=
  let r := { r0 with clampOn := false }
  let h := s.periodS q
  let riding := s.riding q r
  let lim := quaySpeedLimit s q
  let rampGo (goal : Rat) : Rat := rampTo r.nRef (max (-lim) (min lim goal)) (quayProfileAccel s q * h) (quayProfileDecel s q * h)
  let slope (n : Rat) : Rat := quot (n - r.nRef) h 0
  match d with
  | .speed goal =>
    let n := rampGo goal
    let ff := if s.quay[q].eff.mode = .speed then s.quay[q].snap.ff else 0
    let o := s.speedLoop q r n (s.torqueFf q r ff (slope n) 0) riding preset
    ({ o.1 with reference := n }, o.2)
  | .position ref acc =>
    let o := s.speedLoop q r ref (s.torqueFf q r 0 acc 0) riding preset
    ({ o.1 with reference := ref, nAcc := acc }, o.2)
  | .torque t =>
    let o := s.speedClamp q r0 t lim riding
    ({ o.1 with reference := t, errSince := none }, o.2)
  | .tension =>
    let fr := max 0 s.quay[q].snap.tension
    let st := s.tensionState q r
    let n := rampGo (s.tensionSpeed q st)
    let o := s.speedLoop q { r with tensionState := st } n (s.torqueFf q r 0 (slope n) (fr * quayTensionGain s q)) riding preset
    let top := fr * (1 + quayRenderBand s q) * quayTensionGain s q
    ({ o.1 with reference := fr }, if st = 2 then min o.2 top else o.2)
  | .target t => ({ r with integ := 0, errSince := none }, t * s.kRatio q)
  | .follow g => ({ r with errSince := none, reference := g }, g * quayShareRatio s q * s.kRatio q)

/-- The integrator does not grow in magnitude in a direction in which stage 4 or 5 reduced the torque of the quay, or of a contributing
follower (R531). -/
def holdInteg (old new : Rat) (pos neg : Bool) : Rat :=
  if (pos && decide (old < new) && decide (0 < new)) || (neg && decide (new < old) && decide (new < 0)) then old else new

/-- Stages 3 to 5 (R526 to R531, R733, R738): the torque T* from D, with the rate and the limits in force; an integrator that was preset in this
iteration stays as it was set (R544). -/
def State.torqueStages (s : State) (q : QuayNo) (old : Regs) (o : Regs × Rat) (preset : Bool) (rate limPos limNeg : Rat) : Regs :=
  let ta := o.2 / s.kRatio q
  let step := rate * s.periodS q
  let tb := max (old.tStar - step) (min (old.tStar + step) ta)
  let t := max (-limNeg) (min limPos tb)
  let pos := decide (tb < ta) || decide (t < tb)
  let neg := decide (ta < tb) || decide (tb < t)
  let fp := pos || (s.quay[q].share.followers.any (fun f => f.inK && f.stat.reducedPos))
  let fn := neg || (s.quay[q].share.followers.any (fun f => f.inK && f.stat.reducedNeg))
  { o.1 with demand := o.2, tStar := t, reducedPos := pos, reducedNeg := neg, torqueLim := pos || neg
             integ := if preset then o.1.integ else holdInteg old.integ o.1.integ fp fn
             clampInt := if old.clampOn && o.1.clampOn then holdInteg old.clampInt o.1.clampInt fp fn else o.1.clampInt }

/-- The rate of stage 4 (R528, R733, R738). -/
def State.torqueRateOf (s : State) (q : QuayNo) : Rat :=
  let x := s.quay[q]
  let rel := x.eff.release || (x.share.following && (match x.snap.share with | some v => v.release | none => false))
  if rel then (quayReleaseRate s q : Rat) / 1000 else (quayTorqueRate s q : Rat) / 1000

/-- Stages 1 to 5 for a drive; a release replaces it by a torque target of zero under its speed clamp (R733 to R735). -/
def State.torqueStep (s : State) (q : QuayNo) (r : Regs) (d : Drive) (preset : Option Rat) : Regs :=
  let lim := s.torqueLimits q
  let o := if s.quay[q].eff.release && s.quay[q].eff.st != .catching
    then s.speedClamp q { r with integ := 0, errSince := none } 0 (quayReleaseSpeedMax s q) (s.riding q r)
    else if s.quay[q].eff.release then ({ r with integ := 0, clampOn := false }, 0)
    else s.demandOf q r d preset
  s.torqueStages q r o (preset.isSome && !s.quay[q].eff.release) (s.torqueRateOf q) lim.1 lim.2

/-- SPEED_ERROR (R542): an error beyond `quay.speed_err_max` has persisted for `quay.speed_err_time`, once for each run. -/
def execSpeedError (q : QuayNo) (s : State) : Host.Outcome State Fault Refusal :=
  let x := s.quay[q]
  match x.kern.reg.errSince with
  | some t =>
    if t + us (quaySpeedErrTime s q) ≤ s.now ∧ x.core.st = .running ∧ (x.core.mode = .speed ∨ x.core.mode = .tension) ∧ x.share.following = false
        ∧ t ≠ 0 then
      .next ((s.modReg q (fun r => { r with errSince := some 0 })).raiseQuay srcSpeedError q)
    else .next s
  | none => .next s

/-- TENSION_DWELL_EXPIRY (R551): F has stayed beyond a level for `quay.tension_dwell` while the drum stands. -/
def execTensionDwellExpiry (q : QuayNo) (s : State) : Host.Outcome State Fault Refusal :=
  let x := s.quay[q]
  let r := x.kern.reg
  let dwell := us (quayTensionDwell s q)
  let held (o : Option Nat) : Bool := match o with
    | some t => decide (t + dwell ≤ s.now)
    | none => false
  if x.core.st = .running ∧ x.core.mode = .tension ∧ r.tensionState = 0 ∧ x.core.release = false ∧ x.share.following = false then
    if held r.renderSince then .next (s.modReg q (fun y => { y with tensionState := 1 }))
    else if held r.recoverSince then .next (s.modReg q (fun y => { y with tensionState := 2 }))
    else .next s
  else .next s

/-- TENSION_HIGH (R555): F above `quay.tension_max` for `quay.tension_dwell`, once for each run. -/
def execTensionHigh (q : QuayNo) (s : State) : Host.Outcome State Fault Refusal :=
  match s.quay[q].kern.reg.tensSince with
  | some t =>
    if t + us (quayTensionDwell s q) ≤ s.now ∧ t ≠ 0 then
      .next ((s.modReg q (fun r => { r with tensSince := some 0 })).raiseQuay srcTensionHigh q)
    else .next s
  | none => .next s

end Sys2Proof.Machine
end

