-- ==== Sys2Proof/Machine/Sharing.lean ====
section
/-! DEFINITION. Hawser addresses and the sending of frames (R8, R865 to R869); load sharing inside an iteration: share values, statuses, K,
joining, leaving and losing partners (R556 to R578). Log entry 25. -/

namespace Sys2Proof.Machine

/-! ### Addresses and frames -/

/-- The device field of a Hawser address (R8). -/
def deviceField (a : Word) : Nat := a.toNat / 512 % 8
/-- The shaft-group field of a Hawser address (R8). -/
def shaftField (a : Word) : Nat := a.toNat / 262144 % 64

/-- The Hawser address of a quay (R8, R867). -/
def State.quayAddress (s : State) (q : QuayNo) : Word :=
  s.prot.hwAddress ||| BitVec.ofNat 32 (32 * q.val) ||| BitVec.ofNat 32 (262144 * quayShaftGroup s q)

/-- The next SEQ of an originator and TYPE (R865). -/
def State.nextSeq (s : State) (src : Word) (ty : Nat) : Byte :=
  match s.hw.seqs.find? (fun e => e.1 == src && e.2.1 == ty) with
  | some (_, _, n) => n + 1
  | none => 0

/-- Ports an originated frame leaves on (R869). -/
def State.originPorts (s : State) : List Side :=
  match s.hw.mode with
  | .alone => []
  | .line => [Side.a, Side.b].filter (fun p => (s.hw.ports.get p).up)
  | .ring => [.b]

/-- Hand a frame to the transmitter of a Hawser port. -/
def State.hwSend (s : State) (p : Side) (f : HwFrame) : State := s.modHwPort p (fun x => { x with tx := x.tx ++ [f] })

/-- Originate a frame of a TYPE with TTL 8 (R865, R866, R869). -/
def State.originate (s : State) (src : Word) (ty : Nat) (mk : HwHeader → HwFrame) : State :=
  if s.originPorts.isEmpty then s
  else
    let n := s.nextSeq src ty
    let s1 := s.modHw (fun x => { x with seqs := (src, ty, n) :: x.seqs.filter (fun e => !(e.1 == src && e.2.1 == ty)) })
    forAll s.originPorts s1 (fun t p => t.hwSend p (mk ⟨8, n, src⟩))

/-! ### Share values and statuses (R562 to R567) -/

/-- The legs of a quay switch under its kernel in a state of R564. -/
def Quay.drives (x : Quay) : Bool :=
  match x.core.st with
  | .running | .stopping | .hold | .homing => !x.shorted
  | .faulted => x.rampReact
  | _ => false

/-- A member contributes (R564): a follower only while it has not left the group. DEDUCED, log entry 25: nor while it runs stand-alone. -/
def State.contributes (s : State) (q : QuayNo) : Bool :=
  let x := s.quay[q]
  x.drives && (quayShareRole s q != 2 || (!x.share.left && !x.share.alone))

/-- A share value reaches a follower: it is kept, and an open snapshot has what it waits for once it is that of the master's latest sample event
(R566). -/
def State.takeShare (s : State) (q : QuayNo) (src : Word) (v : HwShare) : State :=
  let s1 := s.modQuay q (fun x => { x with share := { x.share with value := some v, prior := x.share.value, sender := src } })
  if s1.shareDue q s.quay[q].form.time then s1 else s1.inputArrived q .share

/-- A status reaches a master (R567, R573, R578). -/
def State.takeStat (s : State) (q : QuayNo) (src : Word) (st : HwShareStat) : State :=
  s.modQuay q (fun x =>
    let fs := x.share.followers
    let f : Follower := match fs.find? (fun e => e.addr == src) with
      | some e => { e with stat := st, fresh := true }
      | none => { addr := src, stat := st, fresh := true, missing := 0, inK := false }
    { x with share := { x.share with followers := f :: fs.filter (fun e => e.addr != src) } })

/-- Followers of a shaft group on this device. -/
def State.localFollowers (s : State) (g : Nat) : List QuayNo :=
  allQuays.filter (fun q => s.isMember q && quayShareRole s q == 2 && decide (quayShaftGroup s q = g))
/-- Masters of a shaft group on this device. -/
def State.localMasters (s : State) (g : Nat) : List QuayNo :=
  allQuays.filter (fun q => s.isMember q && quayShareRole s q == 1 && decide (quayShaftGroup s q = g))

/-- The share value of a master (R562, R571, R738). -/
def State.shareValue (s : State) (q : QuayNo) : HwShare :=
  let x := s.quay[q]
  let r := x.kern.reg
  { sampleTime := BitVec.ofNat 64 x.snap.time, sequence := x.share.seq, axisState := BitVec.ofNat 5 x.core.st.code
    release := x.core.release, stopDone := x.core.st == .off && x.share.stopDone, contributing := s.contributes q
    mode := BitVec.ofNat 8 x.core.mode.code, subState := BitVec.ofNat 8 r.tensionState
    g := reportQ24 (quot r.demand x.share.k 0), nRefEff := reportQ24 r.nRef, n := reportQ24 r.n
    fStar := reportQ24 (max 0 x.snap.tension), f := reportQ24 r.tension }

/-- A master sends its share value (R562). -/
def State.sendShare (s : State) (q : QuayNo) : State :=
  let s1 := s.modQuay q (fun x => { x with share := { x.share with seq := x.share.seq + 1 } })
  let v := s1.shareValue q
  let s2 := forAll (s.localFollowers (quayShaftGroup s q)) s1 (fun t f => t.takeShare f (s.quayAddress q) v)
  s2.originate (s.quayAddress q) 0x20 (fun h => .share h v)

/-- A follower returns its status (R563). -/
def State.sendStat (s : State) (q : QuayNo) : State :=
  let x := s.quay[q]
  let r := x.kern.reg
  let applied : Dword := match x.snap.share with
    | some v => v.sampleTime
    | none => 0
  let st : HwShareStat := {
    sampleTime := BitVec.ofNat 64 x.snap.time, appliedTime := applied, axisState := BitVec.ofNat 5 x.core.st.code
    release := x.core.release, stopDone := false, contributing := s.contributes q, reducedPos := r.reducedPos, reducedNeg := r.reducedNeg
    tStar := reportQ24 r.tStar, shareRatio := s.stored (quayAddr q 0x122), tBase := s.stored (quayAddr q 0x65) }
  let s1 := forAll (s.localMasters (quayShaftGroup s q)) s (fun t m => t.takeStat m (s.quayAddress q) st)
  s1.originate (s.quayAddress q) 0x21 (fun h => .shareStat h st)

/-! ### Stopping, leaving and losing partners (R570 to R578) -/

/-- A quay without feedback: no cell, and neither a light stepper nor a pulse quay (R299, R574). -/
def State.noFeedback (s : State) (q : QuayNo) : Bool := (s.primaryCell q).isNone && !s.isStepped q

/-- Enter STOPPING with a kind (R270 row 9), from RUNNING, HOLD or HOMING. -/
def State.enterStopping (s : State) (q : QuayNo) (k : StopKind) : State := (s.leaveShare q).enter q .stopping k

/-- The action of a member that has lost its partners (R574): hold, stop, or go on alone; a follower that holds or stops leaves its group as by the
command (R570). -/
def State.standAlone (s : State) (q : QuayNo) : State :=
  let s1 := s.modQuay q (fun x => { x with share := { x.share with alone := true, following := false } })
  if s.quay[q].core.st ≠ .running then s1
  else
    match quayStandaloneMode s q with
    | 1 => if s.noFeedback q then s1.enterStopping q .ramp else (s1.leaveShare q).enter q .hold .ramp
    | 2 => s1.enterStopping q .ramp
    | _ => s1

/-- The mode a mode code names. -/
def modeOf (c : Nat) : Mode :=
  match c with
  | 1 => .torque
  | 2 => .speed
  | 3 => .tension
  | 4 => .position
  | _ => .none

/-- A follower goes on without its master (R574, R575), in the master's last mode; its next iteration takes the master's last references, those
after it its own. DEDUCED, log entry 25. -/
def State.goAlone (s : State) (q : QuayNo) : State :=
  let s1 := s.standAlone q
  match s.quay[q].share.value with
  | some v =>
    if s1.quay[q].core.st = .running then
      let m := modeOf v.mode.toNat
      (s1.modCore q (fun c => { c with mode := m })).modQuay q (fun x => { x with
        eff := { x.eff with mode := m }, share := { x.share with takeover := some v } })
    else s1
  | none => s1

/-- The iteration in which a follower takes over from its master (R575): the master's last references, sub-state and torque; a profile generator
starts at the position with the master's speed reference. -/
def State.takeOver (s : State) (q : QuayNo) : State :=
  match s.quay[q].share.takeover with
  | none => s
  | some v =>
    let s0 := s.modQuay q (fun x => { x with share := { x.share with takeover := none } })
    if s.quay[q].eff.st ≠ .running ∨ s.quay[q].core.st ≠ .running then s0
    else
      let m := modeOf v.mode.toNat
      let n := q24 v.nRefEff
      let d := q24 v.g * quayShareRatio s q
      let s1 := s0.modQuay q (fun x => { x with snap := { x.snap with speed := n, tension := q24 v.fStar, torque := d, ff := 0 } })
      let s2 := if m = .position then s1.modGen q (fun _ => { pos := s.position q, vel := n * s.countsPerPu q, acc := 0, inPos := false }) else s1
      s2.modReg q (fun r => { r with
        nRef := n, tensionState := v.subState.toNat, lHat := -(q24 v.f) * quayTensionGain s q, prevMode := m, presetD := some d })

/-- A follower loses its master (R572, R574). -/
def State.loseMaster (s : State) (q : QuayNo) : State := (s.raiseQuay srcShareLost q).goAlone q

/-- The last share value of a master that is gone no longer counts. -/
def State.dropShare (s : State) (q : QuayNo) : State :=
  s.modQuay q (fun x => { x with share := { x.share with value := none, prior := none, staleRun := 0 } })

/-- What a follower finds in its snapshot (R568, R571, R572, R577). -/
def State.followStep (s0 : State) (q : QuayNo) : State :=
  let stale := if s0.quay[q].snap.stale.contains .share then s0.quay[q].share.staleRun + 1 else 0
  let gone := decide (quayShareLossCount s0 q ≤ stale)
  let s := s0.modQuay q (fun y => { y with share := { y.share with staleRun := stale } })
  let x := s.quay[q]
  if x.core.st ≠ .running then
    let s1 := s.modQuay q (fun y => { y with share := { y.share with following := false, alone := false } })
    if gone then s1.dropShare q else s1
  else
    let good := match x.snap.share with
      | some v => v.contributing
      | none => false
    if x.entersRun then
      s.modQuay q (fun y => { y with share := { y.share with
        left := false, following := good && !y.share.config, alone := !(good && !y.share.config) } })
    else if !x.share.following then (if gone then s.dropShare q else s)
    else
      let done := match x.snap.share with
        | some v => v.stopDone
        | none => false
      if done then (s.modQuay q (fun y => { y with share := { y.share with following := false } })).enter q .stopping .ramp
      else if gone then (s.loseMaster q).dropShare q
      else if !good then s.loseMaster q
      else s

/-- One follower at a master's iteration (R567, R573, R578): its missing count, and whether it is in K and lost now. `last` is the sample
event of the iteration before, for which a status must have come. -/
def Follower.tick (f : Follower) (limit last : Nat) (admission : Bool) : Follower × Bool :=
  let miss := if last ≤ f.stat.appliedTime.toNat then 0 else f.missing + 1
  let lost := f.inK && (decide (limit ≤ miss) || (f.fresh && !f.stat.contributing))
  let joins := f.fresh && f.stat.contributing && admission
  ({ f with missing := miss, fresh := false, inK := !lost && (f.inK || joins) }, lost)

/-- K of a master (R565). -/
def State.kOf (s : State) (q : QuayNo) : Rat :=
  (s.quay[q].share.followers.filter (·.inK)).foldl
    (fun k f => k + q24 f.stat.shareRatio * quot (f.stat.tBase.toNat : Rat) (quayTBase s q : Rat) 0) (quayShareRatio s q)

/-- A master's followers at its iteration (R565, R567, R573 to R578). -/
def State.masterStep (s : State) (q : QuayNo) : State :=
  let x := s.quay[q]
  let admission := (!x.share.left || x.entersRun) && !x.share.config
  let ticks := x.share.followers.map (fun f => f.tick (quayShareLossCount s q) x.share.lastSample admission)
  let lost := (ticks.filter (·.2)).length
  let s1 := s.modQuay q (fun y => { y with share := { y.share with
    followers := ticks.map (·.1), lastSample := y.snap.time, left := (if y.entersRun then y.share.config else y.share.left || y.share.config) && y.core.st == .running
    stopDone := y.core.st == .off && (y.share.stopDone || y.kern.reg.prevSt == .stopping) } })
  let s2 := (List.range lost).foldl (fun (t : State) _ => t.raiseQuay srcShareLost q) s1
  let none_ := s2.quay[q].share.followers.all (fun f => !f.inK)
  let s3 := if decide (0 < lost) && none_ then
      (s2.standAlone q).modQuay q (fun y => { y with share := { y.share with left := true } })
    else s2.modQuay q (fun y => { y with share := { y.share with alone := none_ } })
  s3.modQuay q (fun y => { y with share := { y.share with k := s3.kOf q } })

/-- The share work at the start of an iteration. -/
def State.shareStep (s : State) (q : QuayNo) : State :=
  if !s.isMember q then s else if quayShareRole s q = 1 then s.masterStep q else (s.followStep q).takeOver q

/-- The share work at the end of an iteration (R562, R563). -/
def State.shareSend (s : State) (q : QuayNo) : State :=
  if !s.isMember q then s else if quayShareRole s q = 1 then s.sendShare q else s.sendStat q

end Sys2Proof.Machine
end

