-- ==== Sys2Proof/Machine/Observer.lean ====
section
/-! DEFINITION. The observers of a quay (R500 to R503): the voltages and currents they take, back-EMF, rotor flux, phase-locked loop, residual and
lock indicator. What the manual leaves open in them is a function of `Config` of the quantities the rules name (log entry 26). -/

namespace Sys2Proof.Machine

/-- The quay runs on its observer: by `quay.angle_source`, or because it has no feedback cell (R67, R433). A brushed DC quay has its speed
without one (R499), a light stepper and a pulse quay their counts. -/
def State.onObserver (s : State) (q : QuayNo) : Bool :=
  !s.isStepped q && s.machine q != 5 && (quayAngleSource s q == 1 || (s.primaryCell q).isNone)

/-- The observer supplies θ_e (R67, R433, R516, R729). -/
def State.usesObserver (s : State) (q : QuayNo) (r : Regs) : Bool := (s.onObserver q && !r.encSwitch) || r.fallback

/-- A quay whose voltages are sensed: in ARMED and CATCHING (R269, R502, R682). -/
def Quay.sensesVolts (x : Quay) : Bool := x.eff.st == .armed || x.eff.st == .catching

/-- A phase voltage of a leg as the snapshot has it, in pu (R502, R766). -/
def State.phaseVolt (s : State) (q : QuayNo) (l : LegNo) : Rat := (s.quay[q].snap.volts.lookup l).getD 0 / (quayUBase s q : Rat)

/-- The phase voltages that the observers take, in pu (R502): sensed on the legs in ARMED and CATCHING, commanded otherwise. -/
def State.observerVolts (s : State) (q : QuayNo) (r : Regs) : List Rat :=
  if s.quay[q].sensesVolts then (s.phaseLegs q).map (s.phaseVolt q)
  else (s.sets q).flatMap (fun j => match phasesOf (r.uStat[j].d, r.uStat[j].q) with | (a, b, c) => [a, b, c])

/-- The voltage of a winding set in the stationary frame of the machine (R431, R479, R502). -/
def State.setVolt (s : State) (q : QuayNo) (r : Regs) (j : Fin 4) : Dq :=
  if s.quay[q].sensesVolts then
    (match (s.setPhases q j.val).map (s.phaseVolt q) with
     | [a, b, c] => toFrame (a, b, c) (-(s.setShift q j.val))
     | _ => {})
  else r.uStat[j].turn (s.setShift q j.val)

/-- The mean voltage of the active sets in the stationary frame. -/
def State.observerU (s : State) (q : QuayNo) (r : Regs) : Dq :=
  let js := s.sets q
  if js.isEmpty then {} else (js.foldl (fun (a : Dq) j => a.add (s.setVolt q r j)) {}).mul (1 / (js.length : Rat))

/-- A vector as a pair. -/
def Dq.pair (x : Dq) : Rat × Rat := (x.d, x.q)

/-- Back-EMF and current estimates after a period (R500). -/
def State.emfStep (s : State) (q : QuayNo) (r : Regs) (u i : Dq) : Dq × Dq :=
  let o := Config.emfObserver (quayObsGain s q) [quayRs s q, quayLd s q, quayLq s q, s.omegaBase q * s.periodS q]
    [r.obsEmf.pair, r.obsCur.pair, u.pair, i.pair]
  (⟨o.1.1, o.1.2⟩, ⟨o.2.1, o.2.2⟩)

/-- The share of the current model in the flux estimate: none from twice `quay.obs_min_speed` on (R501). -/
def State.fluxShare (s : State) (q : QuayNo) (n : Rat) : Rat :=
  let top := 2 * quayObsMinSpeed s q
  if top ≤ rabs n then 0 else between 0 1 (Config.fluxBlend (quot (rabs n) top 0))

/-- Rotor flux of an induction machine after a period (R501): the voltage model, blended with the current model of R476 turned by the observer
speed. -/
def State.fluxObserve (s : State) (q : QuayNo) (r : Regs) (u i : Dq) : Dq :=
  let wh := s.omegaBase q * s.periodS q
  let lm := quayLm s q
  let lr := quayLr s q
  let leak := quayLd s q - quot (lm * lm) lr 0
  let volt := (((u.sub (i.mul (quayRs s q))).mul wh).sub ((i.sub r.obsLast).mul leak)).mul (quot lr lm 0)
  let turn : Dq := ⟨-(r.obsFlux.q), r.obsFlux.d⟩
  let cur := ((((i.mul lm).sub r.obsFlux).mul (quot (quayRr s q) lr 0)).add (turn.mul r.obsSpeed)).mul wh
  let k := s.fluxShare q r.obsSpeed
  r.obsFlux.add ((volt.mul (1 - k)).add (cur.mul k))

/-- The angle that the phase-locked loop tracks (R500, R501): that of the rotor flux of an induction machine; elsewhere a quarter turn behind the
back-EMF in the direction of rotation. -/
def State.trackedAngle (s : State) (q : QuayNo) (emf flux : Dq) (n : Rat) : Word :=
  if s.machine q = 2 then atan2Turn flux.q flux.d
  else atan2Turn emf.q emf.d - (if n < 0 then 0xC0000000#32 else 0x40000000#32)

/-- One period of the observers (R500 to R503): estimates, angle and speed, residual and lock indicator, back-EMF amplitude (R683). -/
def State.observerStep (s : State) (q : QuayNo) (r : Regs) : Regs :=
  let h := s.periodS q
  let u := s.observerU q r
  let i := s.meanDq q 0
  let o := s.emfStep q r u i
  let flux := if s.machine q = 2 then s.fluxObserve q r u i else {}
  let ahead := r.obsAngle + turns (r.obsSpeed * s.elecHz q * h)
  let err := s.trackedAngle q o.1 flux r.obsSpeed - ahead
  let e : Rat := (err.toInt : Rat) / 4294967296
  let g := Config.pllGains (quayPllBw s q : Rat) h
  let slow := filterGain (quayPllBw s q : Rat) h * (((err - r.pllErr).toInt : Int) : Rat)
  { r with
    obsEmf := o.1, obsCur := o.2, obsFlux := flux, obsLast := i, obsVolts := s.observerVolts q r
    obsAngle := ahead + turns (g.1 * e), obsSpeed := r.obsSpeed + g.2 * e
    residual := sqrtQ (i.sub o.2).sq, pllErr := r.pllErr + BitVec.ofInt 32 slow.floor, emf := sqrtQ o.1.sq }

end Sys2Proof.Machine
end

