-- ==== Sys2Proof/Machine/Catch.lean ====
section
/-! DEFINITION. Speed and angle of a quay, loss of its observer (R503 to R520), sensorless start and fallback (R504 to R508, R726 to R731),
the catch sequence (R672 to R698), winding shorts (R700 to R704) and crash stops (R705 to R716). -/

namespace Sys2Proof.Machine

/-! ### Speed and angle (R433, R508, R532, R702) -/

/-- Magnitude of an angle error. -/
def angleMag (a : Word) : Nat := a.toInt.natAbs

/-- The armature voltage of a brushed DC quay in pu (R269, R499, R687). -/
def State.armatureVolts (s : State) (q : QuayNo) (r : Regs) : Rat :=
  if s.quay[q].sensesVolts then
    (match s.observerVolts q r with
     | a :: b :: _ => a - b
     | _ => 0)
  else r.uCmd.q

/-- The armature current of a brushed DC quay in pu, as the snapshot has it (R499). -/
def State.armatureCurrent (s : State) (q : QuayNo) : Rat := ((s.phaseLegs q).head?.bind s.quay[q].snap.current).getD 0

/-- A magnet machine: PMSM, BLDC or brushed DC (R704). -/
def State.isMagnet (s : State) (q : QuayNo) : Bool := s.machine q != 2

/-- The speed of a quay in pu (R67, R269, R338, R499, R508, R517, R532, R586, R702). -/
def State.speedOf (s : State) (q : QuayNo) (r : Regs) (e : Estimates) : Rat :=
  if s.isStepped q && (s.primaryCell q).isNone then s.toPu q s.quay[q].kern.gen.vel
  else if s.quay[q].shorted && ((s.primaryCell q).isNone || r.lossShort) then e.currentFreq
  else if r.ifMode then r.ifFreq
  else if s.usesObserver q r && !s.quay[q].shorted then r.obsSpeed
  else
    match s.primaryView q with
    | some v => quot (v.speed * 60) ((s.countsPerRev v.cell : Rat) * (quayNBase s q : Rat)) 0
    | none =>
      if s.machine q = 5 then
        quot (s.armatureVolts q r - quayRs s q * s.armatureCurrent q) (quayPsiPm s q) (Config.freeRat (s.free + 46))
      else r.obsSpeed

/-- θ_e of an iteration (R433 to R437, R476, R504, R505, R515, R729). -/
def State.angleOf (s : State) (q : QuayNo) (r : Regs) : Word :=
  if r.ifMode then
    (if r.handover = 0 then r.ifAngle
     else r.obsAngle + turns ((r.handDiff.toInt : Rat) / 4294967296 * ((r.handover - 1 : Nat) : Rat) / 32))
  else if r.fallback then r.obsAngle - r.obsOffset
  else if s.usesObserver q r then r.obsAngle
  else
    let base := s.cellAngle q + (if r.encSwitch then r.encOffset else 0)
    if s.machine q = 2 then base + turns r.slip else base

/-- θ_m of a quay (R435): of its encoder, whatever supplies θ_e, or the integral of the observer speed since it last entered RUNNING; of a brushed
DC quay without a cell that of its speed. -/
def State.mechOf (s : State) (q : QuayNo) (r : Regs) (n : Rat) (entry : Bool) : Word :=
  match s.commView q with
  | some v => s.encoderMech q v
  | none =>
    let v := if s.machine q = 5 then n else r.obsSpeed
    if entry then 0 else r.thetaM + turns (v * (quayNBase s q : Rat) / 60 * s.periodS q)

/-- A run counter. -/
def run (cond : Bool) (n : Nat) : Nat := if cond then n + 1 else 0

/-- The mean of angles that lie within half a turn of the first (R513, R726), to the nearest word. -/
def angleMean (ds : List Word) : Word :=
  match ds with
  | [] => 0
  | d :: _ =>
    let sum := ds.foldl (fun (a : Int) x => a + (x - d).toInt) 0
    d + BitVec.ofInt 32 ((2 * sum + ds.length) / (2 * ds.length))

/-- The observers in an iteration, with the offsets and runs judged on them (R503, R512, R513, R726); an offset is that of an encoder, not of
Hall feedback, over the last 64 iterations. -/
def State.observe (s : State) (q : QuayNo) (old : Regs) : Regs :=
  let r := s.observerStep q old
  let lock := decide (angleMag r.pllErr ≤ quayPllErrMax s q)
  let resid := decide (quayObsResidMax s q < r.residual)
  let diff := r.obsAngle - s.cellAngle q
  let hasCell := match s.commView q with
    | some v => fbMode s v.cell != 2
    | none => false
  let obs := s.usesObserver q r
  let track := hasCell && obs && !r.ifMode
  let back := hasCell && !obs && quayEncFallback s q == 1
  let encDiffs := if track then (diff :: r.encDiffs).take 64 else if r.encSwitch then r.encDiffs else []
  let obsDiffs := if back then (diff :: r.obsDiffs).take 64 else if r.fallback then r.obsDiffs else []
  { r with
    lockRun := run lock r.lockRun, okRun := run (lock && !resid) r.okRun
    residRun := run resid r.residRun, lossSpeed := if resid && r.residRun != 0 then r.lossSpeed else old.obsSpeed
    nBefore := old.obsSpeed
    encDiffs := encDiffs, encOffset := if track then angleMean encDiffs else r.encOffset
    obsDiffs := obsDiffs, obsOffset := if back then angleMean obsDiffs else r.obsOffset }

/-- The fallback-ready line (R727). -/
def State.fallbackReady (s : State) (q : QuayNo) (r : Regs) : Bool :=
  let x := s.quay[q]
  quayEncFallback s q == 1 && x.eff.st == .running && (x.eff.mode == .torque || x.eff.mode == .speed || x.eff.mode == .tension)
    && (s.machine q == 1 || s.machine q == 2 || s.machine q == 4) && !s.usesObserver q r
    && decide (quayObsLossCount s q ≤ r.okRun) && decide (quayObsMinSpeed s q ≤ rabs r.obsSpeed) && decide (64 ≤ r.obsDiffs.length)

/-- Integrators, those of balancing too, re-projected into a new frame so that the stationary voltage vectors stay (R515, R729). -/
def Regs.reproject (r : Regs) (new : Word) : Regs :=
  { r with iInt := r.iInt.turn (r.thetaE - new), balInt := r.balInt.map (fun v => v.turn (r.thetaE - new)), thetaE := new }

/-- Sensorless fallback at a bad cell while the line is set (R729). -/
def State.fallBack (s : State) (q : QuayNo) : State :=
  let r := s.quay[q].kern.reg
  let bad := match s.commView q with
    | some v => v.bad
    | none => false
  if r.ready && bad && !r.fallback && s.quay[q].eff.st == .running then
    (s.modReg q (fun y => { (y.reproject (y.obsAngle - y.obsOffset)) with fallback := true, ready := false })).raiseQuay srcEncFallback q
  else s

/-- n_ug (R512). -/
def State.nUg (s : State) (q : QuayNo) : Rat := quot s.quay[q].snap.udc (sqrt3 * quayPsiPm s q) (Config.freeRat (s.free + 47))

/-- Measurements at the start of an iteration: observers, angle, speed, filtered speed, DC link, n_ug of the snapshot. -/
def State.senseStep (s : State) (q : QuayNo) (e : Estimates) : State :=
  let s1 := if s.isStepped q then s else (s.modReg q (fun r => s.observe q r)).fallBack q
  let x := s1.quay[q]
  let r := x.kern.reg
  let n := s1.speedOf q r e
  s1.modReg q (fun _ => { r with
    thetaE := s1.angleOf q r, thetaM := s1.mechOf q r n x.entersRun, n := n, nf := filtered r.nf n (quaySpeedFilter s1 q) (s1.periodS q)
    udc := x.snap.udc, nUg := if s1.isStepped q then r.nUg else s1.nUg q
    sensorless := r.ifMode || s1.usesObserver q r, ready := s1.fallbackReady q r })

/-! ### Loss of the rotor (R509 to R520) -/

/-- Enter CATCHING from RUNNING with pulses blocked (R270 row 8). -/
def State.recatch (s : State) (q : QuayNo) : State :=
  (s.modReg q (fun r => { r with lossShort := false, ifMode := false, handover := 0, catchPhase := 0 })).enter q .catching

/-- Judge a loss (R509, R510) and act on it (R511 to R519). -/
def State.lossStep (s : State) (q : QuayNo) : State :=
  let x := s.quay[q]
  let r := x.kern.reg
  if x.eff.st ≠ .running ∨ x.core.st ≠ .running then s
  else if r.lossShort then
    (if rabs r.n < 9 / 10 * r.lossUg then s.recatch q else s)
  else
    let judged := s.usesObserver q r && !r.ifMode && decide (quayObsMinSpeed s q ≤ rabs r.obsSpeed)
    let pll := decide (quayPllErrMax s q < angleMag r.pllErr)
    if judged && (decide (quayObsLossCount s q ≤ r.residRun) || pll) then
      let n := if decide (quayObsLossCount s q ≤ r.residRun) then r.lossSpeed else r.nBefore
      let nug := r.nUg
      let s1 := (s.raiseQuay srcObserverLoss q).modReg q (fun y => { y with lossUg := nug, residRun := 0 })
      let healthy := !r.fallback && decide (64 ≤ r.encDiffs.length) && (match s.commView q with
        | some v => !v.bad
        | none => false)
      if healthy then s1.modReg q (fun y => { (y.reproject (s.cellAngle q + y.encOffset)) with encSwitch := true, sensorless := false })
      else if s.isMagnet q && decide (nug ≤ rabs n) then s1.modReg q (fun y => { y with lossShort := true })
      else s1.recatch q
    else s

/-! ### Current-frequency mode (R504 to R507, R681) -/

/-- The direction of current-frequency mode: σ or the direction of the speed after a catch (R681), the sign of the reference otherwise (R504): in
a follower that of G (R568), in position mode, HOLD and HOMING that of the position loop, none in a stop on the speed loop. -/
def State.ifDirection (s : State) (q : QuayNo) (r : Regs) : Rat :=
  let x := s.quay[q]
  let loop : Rat := match s.positionDrive q with
    | .position ref _ => ref
    | _ => 0
  match x.eff.st with
  | .running =>
    if r.ifStart then (if x.eff.sigma = 0 then rsgn r.ifFreq else (x.eff.sigma : Rat))
    else if x.share.following then rsgn (match x.snap.share with | some v => q24 v.g | none => 0)
    else
      match x.eff.mode with
      | .torque => rsgn x.snap.torque
      | .speed => rsgn x.snap.speed
      | .tension => rsgn (s.tensionSpeed q r.tensionState)
      | _ => rsgn loop
  | .hold | .homing => rsgn loop
  | _ => if x.eff.byGen then rsgn loop else 0

/-- One iteration of current-frequency mode, of its handover, and the return to it (R504, R505, R507; log entry 31). -/
def State.ifStep (s : State) (q : QuayNo) : State :=
  let x := s.quay[q]
  let r := x.kern.reg
  let h := s.periodS q
  let driven := x.eff.st = .running ∨ x.eff.st = .stopping ∨ x.eff.st = .hold ∨ x.eff.st = .homing ∨ (x.eff.st = .faulted ∧ x.rampReact = true)
  let dir := s.ifDirection q r
  if ¬ driven ∨ x.lostRotor = true ∨ (s.usesObserver q r = false ∧ r.ifMode = false) ∨ s.machine q = 5 ∨ s.isStepped q = true then s
  else
    let entry := x.entersRun
    let low := if entry then decide (rabs (if r.prevSt = .catching then r.caught else r.obsSpeed) < quayObsMinSpeed s q)
      else decide (rabs r.obsSpeed < 4 / 5 * quayObsMinSpeed s q)
    if !r.ifMode then
      if low && !r.lossShort then
        s.modReg q (fun y => { y with ifMode := true, ifStart := entry && y.prevSt == .catching, ifFreq := y.obsSpeed, ifAngle := y.obsAngle
                                      ifSign := if dir ≠ 0 then dir else if y.obsSpeed < 0 then -1 else 1
                                      thetaE := y.obsAngle, n := y.obsSpeed, ifSince := none, handover := 0, sensorless := true })
      else s
    else if r.handover ≠ 0 then
      s.modReg q (fun y => { y with handover := y.handover - 1, ifMode := y.handover != 1, ifSince := none })
    else
      let goal := dir * quayObsHandover s q
      let f := rampTo r.ifFreq goal (quayIfAccel s q * h) (quayIfAccel s q * h)
      let reached := decide (quayObsHandover s q ≤ rabs f)
      let a := r.ifAngle + turns (f * s.elecHz q * h)
      if reached && decide (quayObsLossCount s q ≤ r.lockRun) then
        s.modReg q (fun y => { y with ifFreq := f, ifAngle := a, handover := 32, handDiff := r.ifAngle - r.obsAngle })
      else s.modReg q (fun y => { y with ifFreq := f, ifAngle := a, ifSign := if dir ≠ 0 then dir else y.ifSign, ifSince := since reached y.ifSince x.snap.time })

/-- IF_TIMEOUT (R506): no handover within `quay.if_timeout` after the handover frequency was reached. -/
def execIfTimeout (q : QuayNo) (s : State) : Host.Outcome State Fault Refusal :=
  let r := s.quay[q].kern.reg
  match r.ifSince with
  | some t =>
    if s.quay[q].core.st = .running ∧ r.ifMode = true ∧ r.handover = 0 ∧ t + us (quayIfTimeout s q) ≤ s.now then
      .next ((s.raiseQuay srcObserverLoss q).recatch q)
    else .next s
  | none => .next s

/-! ### The catch sequence (R672 to R698) -/

/-- The catch of a quay has no position sensor: its machine runs on its observer, or is brushed DC without a cell (R678). -/
def State.sensorlessCatch (s : State) (q : QuayNo) : Bool :=
  if s.machine q = 5 then (s.primaryCell q).isNone else s.onObserver q

/-- The machine turns backward (R676). -/
def backward (sigma : Int) (n : Rat) : Bool := decide (sigma ≠ 0) && decide (rsgn n = -(sigma : Rat))

/-- The first phase of a catch (R678); 0 where it completes at once. -/
def State.firstPhase (s : State) (q : QuayNo) (n : Rat) : Nat :=
  let back := backward s.quay[q].eff.sigma n
  let far := decide (quayCatchLimit s q < rabs n)
  let sl := s.sensorlessCatch q
  if s.machine q = 2 then (if sl then 3 else if back then 4 else 0)
  else if sl then (if back && far then 2 else 1)
  else if back then (if far then 2 else 4) else 0

/-- The catch completes: RUNNING, and the event entry of START (R298, R680); `caught` is the speed it completes with (R681). -/
def State.catchDone (s : State) (q : QuayNo) : State :=
  let s1 := (s.eventOpt s.quay[q].core.startOp stDone 0 3).modCore q (fun c => { c with startOp := none })
  (s1.modReg q (fun r => { r with catchPhase := 0, caught := r.n })).enter q .running

/-- The catch is refused: back to ARMED (R695, R698). -/
def State.catchRefused (s : State) (q : QuayNo) : State :=
  let s1 := (s.eventOpt s.quay[q].core.startOp stRefused 0x0001 0).modCore q (fun c => { c with startOp := none })
  (s1.modReg q (fun r => { r with catchPhase := 0 })).enter q .armed

/-- Enter a phase. -/
def State.enterPhase (s : State) (q : QuayNo) (p : Nat) : State :=
  if p = 0 then s.catchDone q
  else s.modReg q (fun r => { r with
    catchPhase := p, windowAt := s.now
    iInt := if p = 4 then {} else r.iInt, balInt := if p = 4 then Vector.replicate 4 {} else r.balInt
    searchSign := if p = 3 then (if s.quay[q].eff.sigma = 0 then 1 else s.quay[q].eff.sigma) else r.searchSign
    searchSecond := if p = 3 then false else r.searchSecond
    searchFreq := if p = 3 then (if s.quay[q].eff.sigma = 0 then 1 else (s.quay[q].eff.sigma : Rat)) * quaySpeedLimit s q else r.searchFreq
    searchUq := if p = 3 then 0 else r.searchUq })

/-- The machine is taken as standing (R684, R696). -/
def State.takenStanding (s : State) (q : QuayNo) : State := (s.modReg q (fun r => { r with n := 0 })).enterPhase q 0

/-- After OBSERVE the machine turns forward, stands, or is driven through zero (R678, R683, R684). -/
def State.observed (s : State) (q : QuayNo) (n : Rat) (standing : Bool) : State :=
  if standing then s.takenStanding q else if backward s.quay[q].eff.sigma n then s.enterPhase q 4 else s.enterPhase q 0

/-- One step of the search (R691 to R696): `uq` is the q-axis voltage of the search frame. -/
def State.searchStep (s : State) (q : QuayNo) : State :=
  let r := s.quay[q].kern.reg
  let uq := r.uCmd.q
  let matched := decide (r.searchUq * uq < 0)
  let f := rampTo r.searchFreq 0 0 (quaySearchRate s q * s.periodS q)
  if matched then
    let s1 := s.modReg q (fun y => { y with n := r.searchFreq, fluxUp := false })
    if r.searchSecond && decide (s.quay[q].eff.sigma ≠ 0) then s1.catchRefused q else s1.enterPhase q 0
  else if rabs f ≤ quayCatchDetect s q then
    if r.searchSecond then s.takenStanding q
    else s.modReg q (fun y => { y with searchSecond := true, searchSign := -y.searchSign, searchUq := 0
                                       searchFreq := -((y.searchSign : Rat) * quaySpeedLimit s q) })
  else s.modReg q (fun y => { y with searchFreq := f, searchUq := if uq = 0 then y.searchUq else uq, ifAngle := y.ifAngle + turns (f * s.elecHz q * s.periodS q) })

/-- The catch sequence at an iteration in CATCHING (R678 to R696); in its first iteration after RUNNING pulses are only blocked (R517 to R519). -/
def State.catchStep (s : State) (q : QuayNo) : State :=
  let x := s.quay[q]
  let r := x.kern.reg
  if x.eff.st ≠ .catching ∨ x.core.st ≠ .catching then s
  else if r.prevSt = .running then s
  else if r.catchPhase = 0 then s.enterPhase q (s.firstPhase q r.n)
  else
    match r.catchPhase with
    | 1 =>
      let locked := decide (quayObsLossCount s q ≤ r.lockRun) && decide (quayCatchEmfMin s q ≤ r.emf)
      if decide (s.nUg q ≤ rabs r.n) && locked && s.machine q != 5 then s.observed q r.n false else s
    | 2 => if rabs r.n < quayCatchLimit s q then s.enterPhase q (if s.sensorlessCatch q then 1 else 4) else s
    | 3 => s.searchStep q
    | 4 =>
      let done := if s.sensorlessCatch q then decide (rabs r.n < quayObsMinSpeed s q)
        else decide (rsgn r.n = (x.eff.sigma : Rat)) || decide (rabs r.n < quayStopSpeed s q)
      if done then s.catchDone q else s
    | _ => s

/-- OBSERVE_WINDOW_END (R683 to R685, R687). -/
def execObserveWindowEnd (q : QuayNo) (s : State) : Host.Outcome State Fault Refusal :=
  let x := s.quay[q]
  let r := x.kern.reg
  if x.core.st = .catching ∧ r.catchPhase = 1 ∧ r.windowAt + us (quayCatchWindow s q) ≤ s.now then
    if s.machine q = 5 then
      let s1 := s.modReg q (fun y => { y with n := quot (s.armatureVolts q y) (quayPsiPm s q) (Config.freeRat s.free) })
      .next (s1.drawn.observed q s1.quay[q].kern.reg.n false)
    else if r.emf < quayCatchEmfMin s q then .next (s.observed q r.n true)
    else if quayObsLossCount s q ≤ r.lockRun then .next (s.observed q r.n false)
    else .next (s.modReg q (fun y => { y with windowAt := s.now }))
  else .next s

/-- CATCH_TIMEOUT (R697). -/
def execCatchTimeout (q : QuayNo) (s : State) : Host.Outcome State Fault Refusal :=
  let x := s.quay[q]
  if x.core.st = .catching ∧ x.core.stAt + us (quayCatchTimeout s q) ≤ s.now ∧ x.kern.reg.stallSince ≠ some x.core.stAt then
    .next ((s.modReg q (fun r => { r with stallSince := some x.core.stAt })).raiseQuay srcCatchTimeout q)
  else .next s

/-! ### Crash stops (R705 to R716) -/

/-- The speed reference has the sign opposite to n (R705). -/
def opposed (ref n : Rat) : Bool := decide (ref * n < 0)

/-- Phases of a crash stop at an iteration in RUNNING (R705 to R715). -/
def State.crashStep (s : State) (q : QuayNo) : State :=
  let x := s.quay[q]
  let r := x.kern.reg
  let ref := x.snap.speed
  let mode := quayCrashMode s q
  let set (p : Nat) : State := s.modReg q (fun y => { y with crashPhase := p, udcRun := 0 })
  let resume : State := s.modReg q (fun y => { y with crashPhase := 0, nRef := y.n, udcRun := 0, prevMode := .none })
  if x.eff.st ≠ .running then (if x.eff.st = .stopping ∧ r.crashPhase = 2 then s else if r.crashPhase = 0 then s else set 0)
  else
    match r.crashPhase with
    | 0 =>
      if mode ≠ 0 ∧ x.eff.mode = .speed ∧ x.eff.release = false ∧ s.isStepped q = false ∧ x.share.following = false ∧ opposed ref r.n = true ∧ quayCrashSpeed s q ≤ rabs r.n then
        set (if mode = 2 then 2 else 1)
      else s
    | 1 =>
      let high := decide (quayCrashUdcHard s q ≤ x.snap.udc)
      let n := if high then r.udcRun + 1 else 0
      if 0 < ref * r.n then resume
      else if rabs r.n < quayCrashThroughSpeed s q then set 3
      else if s.isMagnet q && decide (quayCrashUdcCount s q ≤ n) then (set 2).raiseQuay srcCrashShort q
      else s.modReg q (fun y => { y with udcRun := n })
    | 2 =>
      if 0 < ref * r.n then resume
      else if rabs r.n < quayCrashThroughSpeed s q then (set 3).modReg q (fun y => { y with iInt := {}, balInt := Vector.replicate 4 {} })
      else s
    | _ =>
      let done := if s.usesObserver q r then decide (rabs r.n < quayObsMinSpeed s q) else decide (rsgn r.n = rsgn ref)
      if done then resume else s

/-- The torque target of REGEN and THROUGH (R706, R708). -/
def State.crashTarget (s : State) (q : QuayNo) (r : Regs) : Rat :=
  let x := s.quay[q]
  if r.crashPhase = 3 then rsgn x.snap.speed * quayCrashTorque s q
  else
    let soft := quayCrashUdcSoft s q
    let hard := quayCrashUdcHard s q
    let u := x.snap.udc
    let k := if u ≤ soft then 1 else if hard ≤ u then 0 else quot (hard - u) (hard - soft) 0
    rsgn r.n * quayCrashTorque s q * (-k)

/-! ### Winding shorts (R700 to R703) -/

/-- The current vector an iteration measures while the current layer does not run (R459, R480). -/
def State.idleCurrents (s : State) (q : QuayNo) (th : Word) : Dq :=
  match s.machine q with
  | 3 => {}
  | 5 => ⟨0, s.armatureCurrent q⟩
  | _ => s.meanDq q th

/-- An iteration under a winding short: currents judged, T* as with pulses blocked, no vector reduced and no speed error formed (R459, R467, R520,
R542, R701, R703). -/
def State.shortStep (s : State) (q : QuayNo) : State :=
  let i := s.quay[q].snap.currents.foldl (fun m e => max m (rabs (e.2.getD 0))) 0
  let n := run (decide (quayWsbIMax s q < i)) s.quay[q].kern.reg.wsbRun
  let s1 := s.modReg q (fun r => { r with wsb := i, wsbRun := n, tStar := 0, integ := 0, clampInt := 0, clampOn := false, torqueLim := r.lossShort
                                          reducedPos := false, reducedNeg := false, iMeas := s.idleCurrents q r.thetaE, errSince := none
                                          voltLimit := false, vlimRun := 0, vlimDone := false, imbRun := Vector.replicate 4 0, nHat := r.n
                                          uStat := Vector.replicate 4 {} })
  if n = 2 then s1.raiseQuay srcWsbOvercurrent q else s1

end Sys2Proof.Machine
end

