-- ==== Sys2Proof/Machine/Homing.lean ====
section
/-! DEFINITION. The profile generator under a quay's state (R587, R601, R606, R607, R1075), limit stops (R611 to R619), the homing sequence
(R620 to R630) and the reference shift (R626). -/

namespace Sys2Proof.Machine

/-! ### Positions -/

/-- Change the homing run of a quay, in the copy of its state machine too: both halves follow a run by the same snapshots (R277, R960). -/
def State.modHoming (s : State) (q : QuayNo) (f : Homing → Homing) : State :=
  s.modQuay q (fun x => { x with
    core := { x.core with homing := x.core.homing.map f }, coreCopy := { x.coreCopy with homing := x.coreCopy.homing.map f } })

/-- The step or microstep count that goes with a profile position (R583, R585). -/
def State.stepTarget (s : State) (q : QuayNo) (p : Rat) : Int :=
  nearest (if (s.primaryCell q).isSome then quayStepRatio s q * p else p)

/-- Shift every position of a quay by the same difference (R626): p, also in a snapshot under way, p_p, the primary cell as by a preset, and the
step counts that go with p_p, those of a while ago too (R412). DEDUCED, log entry 11. -/
def State.shiftPosition (s : State) (q : QuayNo) (d : Int) : State :=
  let s1 := match s.primaryCell q with
    | some k => s.modCell k (fun c => { c.shift d with unsure := false })
    | none => s
  let g := s.quay[q].kern.gen
  let e := s.stepTarget q (g.pos + d) - s.stepTarget q g.pos
  let moved (v : CellView) : CellView := if some v.cell = s.primaryCell q then { v with pos := v.pos + d } else v
  (s1.modQuay q (fun x => { x with
    kern := { x.kern with gen := { x.kern.gen with pos := x.kern.gen.pos + d }
                          step := { x.kern.step with m := x.kern.step.m + e, ms := x.kern.step.ms.map (fun y => (y.1, y.2 + e)) }
                          count := x.kern.count + e }
    pulse := { x.pulse with emitted := x.pulse.emitted + e }
    snap := { x.snap with cells := x.snap.cells.map moved }, form := { x.form with cells := x.form.cells.map moved } })).modHoming q (fun h => { h with lastPos := h.lastPos + d })

/-! ### The generator (R587, R601, R1075) -/

/-- The profile generator governs the quay: position mode, HOLD, HOMING, stops from these, and light steppers and pulse quays. -/
def Quay.genRuns (x : Quay) (stepped : Bool) : Bool :=
  match x.eff.st with
  | .running => stepped || x.eff.mode == .position
  | .hold | .homing => true
  | .stopping => x.eff.byGen
  | .faulted => x.rampReact && x.eff.byGen
  | _ => false

/-- It governed the quay in its previous iteration. -/
def Quay.genRan (x : Quay) (stepped : Bool) : Bool :=
  match x.kern.reg.prevSt with
  | .running => stepped || x.kern.reg.prevMode == .position
  | .hold | .homing => true
  | .stopping | .faulted => x.eff.byGen
  | _ => false

/-- Where the generator begins to govern the quay it starts at the position, at rest or at the measured speed (R1075). -/
def State.genStart (s : State) (q : QuayNo) : State :=
  let x := s.quay[q]
  let st := s.isStepped q
  if x.genRuns st && !x.genRan st then
    let moving := (x.kern.reg.prevSt == .running && x.eff.stop != .none) || x.kern.reg.prevSt == .catching
    s.modGen q (fun _ => { pos := s.position q, vel := if moving then x.kern.reg.n * s.countsPerPu q else 0, acc := 0, inPos := false })
  else s

/-- Speed mode of a light stepper or pulse quay: v_p is the ramped reference and p_p integrates it (R538, R601, R640). -/
def State.speedGen (s : State) (q : QuayNo) : State :=
  let h := s.periodS q
  let g := s.quay[q].kern.gen
  let lim := quaySpeedLimit s q
  let goal := max (-lim) (min lim s.quay[q].snap.speed)
  let n := rampTo (s.toPu q g.vel) goal (quayProfileAccel s q * h) (quayProfileDecel s q * h)
  let v := s.speedCap q (n * s.countsPerPu q)
  (s.modGen q (fun y => { y with pos := y.pos + (y.vel + v) / 2 * h, vel := v, acc := 0 })).modReg q (fun r => { r with nRef := n, reference := n })

/-! ### Limit stops (R613 to R618, R1075, R1076) -/

/-- Direction of travel (R614). -/
def State.travelDir (s : State) (q : QuayNo) : Rat :=
  let x := s.quay[q]
  if x.genRuns (s.isStepped q) then rsgn x.kern.gen.vel else rsgn x.kern.reg.n

/-- The direction of a motion that has not started (R617). -/
def State.motionDir (s : State) (q : QuayNo) : Rat :=
  match s.quay[q].core.motion with
  | some m =>
    if m.started || m.halted then 0
    else match m.jog with
      | some w => rsgn w
      | none => match m.rel with
        | some d => rsgn d
        | none => rsgn ((m.target : Rat) - s.quay[q].kern.gen.pos)
  | none => 0

/-- The limit mode that acts on a direction of travel: 0 none, 1 hard, 2 ramped (R613). -/
def State.limitActs (s : State) (q : QuayNo) (dir : Rat) : Nat :=
  let p := s.quay[q].snap
  if 0 < dir ∧ p.limP = true then quayLimpMode s q else if dir < 0 ∧ p.limN = true then quayLimnMode s q else 0

/-- A hard limit acts on the present travel. -/
def State.hardLimit (s : State) (q : QuayNo) : Bool := s.limitActs q (s.travelDir q) == 1

/-- LIMIT_BOTH (R618): both limit inputs are active and a mode is not 0, once for each run of that. -/
def State.limitBoth (s : State) (q : QuayNo) : State :=
  let both := s.quay[q].snap.limP && s.quay[q].snap.limN && decide (quayLimpMode s q ≠ 0 ∨ quayLimnMode s q ≠ 0)
  let s1 := s.modReg q (fun r => { r with limBoth := both })
  if both && !s.quay[q].kern.reg.limBoth then s1.raiseQuay srcLimitBoth q else s1

/-- Limit inputs of an iteration (R613 to R618, R1075, R1076): in RUNNING a limit acts each time, in the other states once for each run in which
it acts. In HOMING the switches act under R621 and R622 instead. -/
def State.limitStep (s0 : State) (q : QuayNo) : State :=
  let s := s0.limitBoth q
  let x := s.quay[q]
  let st := x.core.st
  let acts := st = .running ∨ st = .hold ∨ st = .stopping ∨ (st = .faulted ∧ x.rampReact = true)
  let a := s.limitActs q (s.travelDir q)
  let b := s.limitActs q (s.motionDir q)
  let m := if st = .running ∧ b ≠ 0 then 1 else a
  if acts ∧ m ≠ 0 then
    if x.kern.reg.limHeld = true ∧ st ≠ .running then s
    else
      let s1 := (s.raiseQuay srcLimitStop q).modReg q (fun r => { r with limHeld := true })
      if st = .running then (if m = 1 then (s1.enter q .hold .none).genZero q else s1.enter q .hold .quick)
      else if m = 1 then (s1.genZero q).modReg q (fun r => { r with nRef := 0, nAcc := 0 })
      else s1.modCore q (fun c => { c with stop := .quick })
  else s.modReg q (fun r => { r with limHeld := false })

/-! ### Homing (R620 to R629) -/

/-- The end of the sequence: HOMED, HOLD, and the event entry of HOME (R628). -/
def State.homeDone (s : State) (q : QuayNo) : State :=
  let s1 := s.eventOpt s.quay[q].core.homeOp stDone 0 (s.positionResult q)
  (s1.modQuay q (fun x => { x with core := { x.core with homeOp := none, homed := true } })).enter q .hold .ramp

/-- The homing motion has come to its end; the sequence ends with this iteration, once its step counts are in force (R628). -/
def State.homeReached (s : State) (q : QuayNo) : State := s.modHoming q (fun h => { h with phase := 4 })

/-- The end of an iteration in which a homing motion has come to its end (R628). -/
def State.homeEnd (s : State) (q : QuayNo) : State :=
  if s.quay[q].core.st = .homing ∧ s.quay[q].core.homing.any (fun h => h.phase == 4) = true then s.homeDone q else s

/-- The reference point is taken (R625 to R627). -/
def State.homeReference (s : State) (q : QuayNo) (hm : Homing) (ref : Int) : State :=
  let s1 := s.shiftPosition q (hm.homePos - ref)
  if hm.method = 4 ∨ hm.method = 5 then (s1.genZero q).modHoming q (fun h => { h with phase := 2 }) else s1.homeReached q

/-- One period of a homing motion at a speed in pu. -/
def State.homeSpeedStep (s : State) (q : QuayNo) (w : Rat) : State :=
  let l := s.limits q
  let h := s.periodS q
  let v := s.speedCap q (w * s.countsPerPu q)
  s.modGen q (fun g => g.at (if l.jerk then jerkSpeed g.point v l h else speedStep g.point v l.a l.d h))

/-- The other switch, active in the direction of travel (R621, R622). -/
def homeBlocked (method : Nat) (limP limN : Bool) (v : Rat) : Bool :=
  (method != 2 && limP && decide (0 < v)) || (method != 1 && limN && decide (v < 0))

/-- Seek, creep and back-off of a homing run (R620, R627). -/
def State.homePhase (s : State) (q : QuayNo) (hm : Homing) : State :=
  let x := s.quay[q]
  let v := quayHomeSpeed s q
  let c := quayHomeCreep s q
  match hm.phase, hm.method with
  | 0, 0 => s.homeReference q hm (s.position q)
  | 0, 1 => if x.snap.limN then (s.homeSpeedStep q c).modHoming q (fun h => { h with phase := 1 }) else s.homeSpeedStep q (-v)
  | 0, 2 => if x.snap.limP then (s.homeSpeedStep q (-c)).modHoming q (fun h => { h with phase := 1 }) else s.homeSpeedStep q v
  | 0, 3 =>
    match s.primaryView q with
    | some w => if hm.latches < w.latches then s.homeReference q hm w.latch else s.homeSpeedStep q c
    | none => s.genZero q
  | 0, 4 => s.homeSpeedStep q (-v)
  | 0, 5 => s.homeSpeedStep q v
  | 1, 1 => if x.snap.limN then s.homeSpeedStep q c else s.homeReference q hm (s.position q)
  | 1, 2 => if x.snap.limP then s.homeSpeedStep q (-c) else s.homeReference q hm (s.position q)
  | 2, m =>
    let back : Int := quayHomeBackoff s q
    let target : Int := if m = 4 then hm.homePos + back else hm.homePos - back
    let l := { s.limits q with v := s.speedCap q (v * s.countsPerPu q) }
    let s1 := s.modGen q (fun g => g.at (targetStep g.point target l (s.periodS q)))
    if s1.quay[q].kern.gen.pos = (target : Rat) ∧ s1.quay[q].kern.gen.vel = 0 then s1.homeReached q else s1
  | _, _ => s.genZero q

/-- One iteration of a homing run (R620 to R629). -/
def State.homingStep (s : State) (q : QuayNo) : State :=
  let x := s.quay[q]
  match x.core.homing with
  | none => s.genStop q
  | some hm =>
    let p := s.position q
    let gone := hm.travel + ((p - hm.lastPos).natAbs : Int)
    let far := decide (hm.phase ≤ 1 ∧ hm.travel ≤ quayHomeMaxTravel s q ∧ (quayHomeMaxTravel s q : Int) < gone)
    let hm1 := { hm with travel := gone, lastPos := p }
    let s1 := s.modHoming q (fun _ => hm1)
    let s2 := if far then s1.raiseQuay srcHomeFail q else s1
    if hm.phase ≠ 3 ∧ homeBlocked hm.method x.snap.limP x.snap.limN x.kern.gen.vel = true then
      ((s2.genZero q).modHoming q (fun h => { h with phase := 3 })).raiseQuay srcHomeFail q
    else s2.homePhase q hm1

/-- The homing run waits for a stall (R620). -/
def Quay.seeksStall (x : Quay) : Bool :=
  match x.core.homing with
  | some h => h.phase == 0 && (h.method == 4 || h.method == 5) && x.core.st == .homing
  | none => false

/-- A stall is declared (R620, R625, R630, R653): in HOMING the reference of methods 4 and 5, elsewhere source STALL. -/
def State.declareStall (s : State) (q : QuayNo) : State :=
  let x := s.quay[q]
  match x.core.homing with
  | some h =>
    if x.seeksStall then s.homeReference q h (s.profilePos q)
    else if x.core.st = .homing then s
    else (s.raiseQuay srcStall q).modCore q (fun c => { c with homed := false })
  | none =>
    if x.core.st = .homing then s else (s.raiseQuay srcStall q).modCore q (fun c => { c with homed := false })

/-- HOME_STALL_DETECT (R623): TORQUE_LIMITED and |n| below `quay.home_stall_speed` have held for `quay.home_stall_time`. -/
def execHomeStallDetect (q : QuayNo) (s : State) : Host.Outcome State Fault Refusal :=
  let x := s.quay[q]
  match x.kern.reg.stallSince with
  | some t =>
    if x.seeksStall = true ∧ s.isStepped q = false ∧ t + us (quayHomeStallTime s q) ≤ s.now then
      .next ((s.declareStall q).modReg q (fun r => { r with stallSince := none }))
    else .next s
  | none => .next s

/-- One period of the generator under the state of the quay (R587, R590 to R610, R1075); where it does not govern the quay it stands. -/
def State.genStep (s : State) (q : QuayNo) : State :=
  let x := s.quay[q]
  if !x.genRuns (s.isStepped q) then s.genZero q
  else
    match x.eff.st with
    | .running => if x.eff.mode = .position then s.motionStep q else s.speedGen q
    | .hold => if x.eff.stop = .none then s.genZero q else s.genStop q
    | .homing => s.homingStep q
    | _ => s.genStop q

end Sys2Proof.Machine
end

