-- ==== Sys2Proof/Machine/Stepper.lean ====
section
/-! DEFINITION. The stepper kernel (R631 to R653): microstep levels, current modes, coil currents, Ibex; the timed events of a stepper; the
commanded step count of a pulse quay (R583, R585). -/

namespace Sys2Proof.Machine

/-! ### Vector positions and levels (R632 to R639) -/

/-- The last vector position of a level at or below a position (R634). -/
def gridFloor (level : Nat) (x : Rat) : Int :=
  if level = 8 then 128 + 256 * ((x - 128) / 256).floor else (2 ^ level : Int) * (x / ((2 ^ level : Int) : Rat)).floor

/-- The first vector position of a level at or above a position. -/
def gridCeil (level : Nat) (x : Rat) : Int :=
  if level = 8 then 128 + 256 * ((x - 128) / 256).ceil else (2 ^ level : Int) * (x / ((2 ^ level : Int) : Rat)).ceil

/-- A count is a vector position of a level. -/
def onGrid (level : Nat) (m : Int) : Bool := if level = 8 then decide ((m - 128) % 256 = 0) else decide (m % (2 ^ level : Int) = 0)

/-- The last vector position of a level that a position has reached or passed in the direction of travel (R635): the one it had while the
position lies beside it, as after a reversal. -/
def vectorPos (level : Nat) (old : Int) (x v : Rat) : Int :=
  if old = gridFloor level x ∨ old = gridCeil level x then
    (if gridFloor level x = gridCeil level x then gridFloor level x else old)
  else if 0 < v ∨ (v = 0 ∧ (old : Rat) ≤ x) then gridFloor level x else gridCeil level x

/-- The level due at a speed in full steps/s (R636 to R638). -/
def State.dueLevel (s : State) (q : QuayNo) (k : Nat) (f : Rat) : Nat :=
  let top := tabMsFloor s q
  if k < 8 ∧ k < top ∧ (tabMsThr s q k : Rat) ≤ f then k + 1
  else if k ≠ 0 ∧ (top < k ∨ f < (tabMsThr s q (k - 1) : Rat) * (1 - (tabMsHyst s q : Rat) / 1000)) then k - 1
  else k

/-- Level and vector position of an update point (R635 to R639). -/
def State.microstep (s : State) (q : QuayNo) (t : StepKern) (x v : Rat) : StepKern :=
  let m := vectorPos t.level t.m x v
  let due := s.dueLevel q t.level (rabs v / 256)
  if due ≠ t.level ∧ onGrid due m = true ∧ onGrid t.level m = true then { t with level := due, m := vectorPos due m x v }
  else { t with m := m }

/-! ### Current and Ibex (R645 to R652) -/

/-- The largest coil current in force: `quay.i_run`, or `quay.home_limit` in homing methods 4 and 5 (R624). -/
def State.coilLimit (s : State) (q : QuayNo) : Rat :=
  match s.quay[q].eff.homing with
  | some h => if h.method = 4 ∨ h.method = 5 then quayHomeLimit s q else quayIRun s q
  | none => quayIRun s q

/-- δ passed through 180 degrees (R652). -/
def passedHalf (old new : Word) : Bool :=
  old.msb != new.msb && decide (0x40000000 ≤ angleMag old) && decide (0x40000000 ≤ angleMag new)

/-- The coil voltages that the winding model of `quay.rs` and `quay.lq` predicts for the commanded currents of a kernel at a speed (R647). -/
def State.windingVolts (s : State) (q : QuayNo) (t : StepKern) (v : Rat) : Dq :=
  (Dq.mk (quayRs s q * t.current) (v * quayLq s q * t.current)).turn (BitVec.ofInt 32 (t.m * 4194304))

/-- λ below `quay.ibex_emf_speed` (R647): the coil voltages in force beside those of the winding model; how they compare is free. -/
def State.voltLoad (s : State) (q : QuayNo) (t : StepKern) (v : Rat) : Rat := Config.loadFraction (t.uA, t.uB) (s.windingVolts q t v).pair

/-- Ibex and the coil current of an iteration, for a speed in pu (R645 to R650, R652); `old` is the kernel of the iteration before. -/
def State.ibexStep (s : State) (q : QuayNo) (old t : StepKern) (e : Estimates) (v : Rat) : StepKern :=
  if v = 0 then
    { t with current := if t.held then quayHoldCurrent s q else t.current, stallRun := 0
             load := if quayIbexEnable s q = 0 ∨ t.held = true then t.load else s.voltLoad q old v }
  else if quayIbexEnable s q = 0 then { t with held := false, current := s.coilLimit q, stallRun := 0 }
  else
    let high := decide (quayIbexEmfSpeed s q ≤ rabs v)
    let load := if high then sinTurn e.ibexAngle else s.voltLoad q old v
    let step := quayIbexSlew s q * s.periodS q
    let i := if quayIbexRaiseLvl s q < load then t.current + step else if load < quayIbexLowerLvl s q then t.current - step else t.current
    let stall := high && decide ((quayIbexStallAngle s q : Int) < e.ibexAngle.toInt)
    { t with
      held := false, load := load, angle := if high then e.ibexAngle else t.angle
      current := min (s.coilLimit q) (max (quayIMin s q) i), stallRun := run stall t.stallRun
      slips := if high && passedHalf t.angle e.ibexAngle then t.slips + 4 else t.slips }

/-! ### Coils (R631, R641 to R644) -/

/-- Voltage of a coil in strong mode: PI regulator and its limit (R499, R642). -/
def coilPi (kp kih top i ref int : Rat) (freeze : Bool) : Rat × Rat × Bool :=
  let e := ref - i
  let raw := kp * e + int + kih * e
  let u := max (-top) (min top raw)
  (u, if freeze then int else integrate int (kih * e) (decide (u ≠ raw)), decide (u ≠ raw))

/-- The legs of the two coils (R631). -/
def State.coilLegs (s : State) (q : QuayNo) : List LegNo × List LegNo := ((s.phaseLegs q).take 2, ((s.phaseLegs q).drop 2).take 2)

/-- Commands of a coil for a voltage (R499). -/
def State.coilCommands (s : State) (q : QuayNo) (ls : List LegNo) (u f : Rat) : List (LegNo × LegCmd) :=
  let half := quot u (2 * s.quay[q].snap.udc) f
  (ls.zip [1 / 2 + half, 1 / 2 - half]).map (fun e => (e.1, s.legCommand q e.1 (max 0 (min 1 e.2))))

/-- The voltage of quiet mode in the frame of the commanded vector (R643): what `quay.rs`, `quay.lq` and `quay.psi_pm` need for the commanded
current at a speed, with the rotor in line with the vector. DEDUCED, log entry 26. -/
def State.quietVolts (s : State) (q : QuayNo) (i v : Rat) : Dq := ⟨quayRs s q * i, v * (quayLq s q * i + quayPsiPm s q)⟩

/-- Coil voltages of an iteration: mode, regulators or quiet voltages, what a change of mode or a stale current input carries over (R446,
R641 to R644). Answers the kernel and whether a voltage was reduced. -/
def State.coilStep (s : State) (q : QuayNo) (t : StepKern) (v : Rat) (first freeze : Bool) : StepKern × Bool :=
  let h := s.periodS q
  let p := s.quay[q].snap
  let quiet := quayQuietSpeed s q
  let strong := if t.strong then !decide (rabs v < quiet * (1 - (quayModeHyst s q : Rat) / 1000)) else decide (quiet ≤ rabs v)
  let changed := strong != t.strong && !first
  let th : Word := BitVec.ofInt 32 (t.m * 4194304)
  let ia := t.current * cosTurn th
  let ib := t.current * sinTurn th
  let meas (ls : List LegNo) : Rat := (ls.head?.bind p.current).getD 0
  let top := (quayModLimit s q : Rat) / 1000 * p.udc
  let kih : Rat := (quayIKi s q : Rat) / 1000 * h
  if freeze then
    let d := turns (v * s.countsPerPu q * h / 1024)
    ({ t with uA := t.uA * cosTurn d - t.uB * sinTurn d, uB := t.uA * sinTurn d + t.uB * cosTurn d }, false)
  else if strong then
    let ints : Rat × Rat := if changed then (t.uA, t.uB) else if first then (0, 0) else (t.intA, t.intB)
    let a := coilPi (quayIKp s q) kih top (meas (s.coilLegs q).1) ia ints.1 false
    let b := coilPi (quayIKp s q) kih top (meas (s.coilLegs q).2) ib ints.2 false
    ({ t with strong := true, quiet := 0, uA := if changed then t.uA else a.1, uB := if changed then t.uB else b.1, intA := a.2.1, intB := b.2.1 }, a.2.2 || b.2.2)
  else
    let w := s.quietVolts q t.current v
    let amp := sqrtQ w.sq + t.quiet
    let at_ := th + (if w.d = 0 ∧ w.q = 0 then 0 else atan2Turn w.q w.d)
    let i : Dq := ⟨meas (s.coilLegs q).1, meas (s.coilLegs q).2⟩
    let wa := amp * cosTurn at_
    let wb := amp * sinTurn at_
    let a := max (-top) (min top wa)
    let b := max (-top) (min top wb)
    ({ t with strong := false, quiet := t.quiet + Config.quietGain (quayQuietBw s q : Rat) h * (t.current - sqrtQ i.sq), uA := if changed then t.uA else a, uB := if changed then t.uB else b, intA := 0, intB := 0 },
     decide (a ≠ wa) || decide (b ≠ wb))

/-! ### The kernels -/

/-- The speed of a stepped quay in pu of its profile. -/
def State.genPu (s : State) (q : QuayNo) : Rat := s.toPu q s.quay[q].kern.gen.vel

/-- Change the stepper kernel of a quay. -/
def State.modStep (s : State) (q : QuayNo) (f : StepKern → StepKern) : State :=
  s.modQuay q (fun x => { x with kern := { x.kern with step := f x.kern.step } })

/-- A light stepper's iteration while its legs switch: the kernel, the indicators and the commands (R631 to R653). The vector position acts
from the coming update point on (R412). -/
def State.stepperStep (s : State) (q : QuayNo) (e : Estimates) (first freeze : Bool) : State × List (LegNo × LegCmd) :=
  let x := s.quay[q]
  let g := x.kern.gen
  let scale : Rat := if (s.primaryCell q).isSome then quayStepRatio s q else 1
  let v := s.genPu q
  let t1 := s.microstep q x.kern.step (if (s.primaryCell q).isSome then ((s.stepTarget q g.pos : Int) : Rat) else g.pos) (g.vel * scale)
  let t2 := s.ibexStep q x.kern.step t1 e v
  let c0 := s.coilStep q t2 v first freeze
  let c := ({ c0.1 with ms := (s.nextUpdate q, c0.1.m) :: c0.1.ms.take 7 }, c0.2)
  let low := !c.1.held && decide (rabs v < quayIbexEmfSpeed s q) && quayIbexEnable s q == 1
  let sat := low && decide (c.1.current = s.coilLimit q) && decide (quayIbexRaiseLvl s q < c.1.load)
  let s1 := (s.modStep q (fun _ => c.1)).modReg q (fun r => { r with
    voltLimit := c.2, vlimRun := run c.2 r.vlimRun
    vZeroSince := since (decide (v = 0)) r.vZeroSince x.snap.time, satSince := since sat r.satSince x.snap.time })
  let on := decide (c.1.stallRun ≠ 0)
  let stall := on && decide (quayIbexStallCount s q ≤ c.1.stallRun)
  let s2 := s1.modStep q (fun y => { y with stalled := on && (y.stalled || stall) })
  let s3 := if stall && !c.1.stalled then s2.declareStall q else s2
  let ls := s.coilLegs q
  (s3, s.coilCommands q ls.1 c.1.uA (Config.freeRat (s.free + 42)) ++ s.coilCommands q ls.2 c.1.uB (Config.freeRat (s.free + 43)))

/-- A pulse quay's iteration: the commanded step count (R583, R585). -/
def State.pulseStep (s : State) (q : QuayNo) : State :=
  s.modQuay q (fun x => { x with kern := { x.kern with count := s.stepTarget q x.kern.gen.pos } })

/-- HOLD_DELAY_EXPIRY (R645). -/
def execHoldDelayExpiry (q : QuayNo) (s : State) : Host.Outcome State Fault Refusal :=
  let x := s.quay[q]
  match x.kern.reg.vZeroSince with
  | some t =>
    if s.isStepper q = true ∧ x.kern.gen.vel = 0 ∧ t + us (quayHoldDelay s q) ≤ s.now then
      .next (s.modStep q (fun y => { y with held := true, current := quayHoldCurrent s q }))
    else .next s
  | none => .next s

/-- IBEX_SATURATION_STALL (R620, R651, R653). -/
def execIbexSaturationStall (q : QuayNo) (s : State) : Host.Outcome State Fault Refusal :=
  match s.quay[q].kern.reg.satSince with
  | some t =>
    if s.isStepper q = true ∧ t ≠ 0 ∧ t + us (quayIbexSatTime s q) ≤ s.now then
      .next ((s.modReg q (fun r => { r with satSince := some 0 })).declareStall q)
    else .next s
  | none => .next s

end Sys2Proof.Machine
end

