-- ==== Sys2Proof/Machine/Kernel.lean ====
section
/-! DEFINITION. One iteration of a quay (R34, R45, R526): class-0 flags, limits, sharing, torque, current layer and commands, in the order of
R619. -/

namespace Sys2Proof.Machine

/-! ### Stops and releases (R244, R270, R276, R307, R609, R732, R737) -/

/-- STOP or QUICKSTOP applied to a quay in its state (R270 rows 2, 7 and 9; R609). -/
def State.applyStop (s : State) (q : QuayNo) (k : StopKind) : State :=
  match s.quay[q].core.st with
  | .armed => s.enter q .off
  | .catching => (s.enter q .off).blockPulses q
  | .running | .hold | .homing => s.enterStopping q k
  | .stopping =>
    if k = .quick ∧ s.quay[q].core.stop ≠ .quick then (s.modCore q (fun c => { c with stop := .quick, release := false })).rewriteTable q else s
  | _ => s

/-- QUICK_RELEASE applied to a quay (R732, R739). -/
def State.applyRelease (s : State) (q : QuayNo) : State :=
  match s.quay[q].core.st with
  | .catching | .running | .stopping | .hold =>
    if quayReleaseEnable s q = 1 then (s.leaveShare q).modCore q (fun c => { c with release := true }) else s
  | _ => s

/-- The class-0 request flags of the snapshot are applied first and cleared (R244, R276). DEDUCED, log entry 18. -/
def State.applyFlags (s : State) (q : QuayNo) : State :=
  let p := s.quay[q].snap
  let s1 := if p.quick then s.applyStop q .quick else s
  let s2 := if p.stop then s1.applyStop q .ramp else s1
  let s3 := if p.release then s2.applyRelease q else s2
  s3.modQuay q (fun x => { x with c0 := { x.c0 with
    quick := x.c0.quick && !p.quick, stop := x.c0.stop && !p.stop, release := x.c0.release && !p.release } })

/-! ### What the legs do -/

/-- A state in which the legs switched before. -/
def drove : AxisState → Bool
  | .running | .stopping | .hold | .homing | .faulted | .catching => true
  | _ => false

/-- The first iteration after entry: feedforward alone (R462). -/
def Quay.firstIter (x : Quay) : Bool :=
  match x.eff.st with
  | .running => x.entersRun
  | .catching => false
  | _ => !drove x.kern.reg.prevSt

/-- Registers of an iteration in which the kernel drives no torque (R462, R527, R540); the load observer starts again from the measured speed. -/
def Regs.blocked (r : Regs) (off : Bool) : Regs :=
  { r with
    tStar := 0, integ := 0, clampInt := 0, clampOn := false, demand := 0, reference := 0, nRef := 0, iInt := {}, balInt := Vector.replicate 4 {}
    uCmd := {}, uSets := Vector.replicate 4 {}, uStat := Vector.replicate 4 {}, voltLimit := false, torqueLim := false, vlimRun := 0, vlimDone := false, imbRun := Vector.replicate 4 0
    reducedPos := false, reducedNeg := false, fluxUp := false, ifMode := false, handover := 0
    ifSince := none, wsbRun := 0, errSince := none, nHat := r.n
    dropped := if off then Vector.replicate 4 false else r.dropped }

/-! ### Field-oriented control -/

/-- The stop ramp on the speed loop (R606, R608, R609): a ramp in the profile kind in force, a quick stop linear. -/
def State.stopDrive (s : State) (q : QuayNo) (r : Regs) : Drive :=
  let h := s.periodS q
  let k := s.quay[q].stopKind
  if quayProfileKind s q = 1 ∧ k ≠ .quick then
    let y := jerkStop ⟨0, r.nRef, r.nAcc⟩ { v := 0, a := quayProfileAccel s q, d := quayProfileDecel s q, j := quayProfileJerk s q, jerk := true } h
    .position y.v y.a
  else
    let d := s.stopDecel q k * h
    let n := rampTo r.nRef 0 d d
    .position n (quot (n - r.nRef) h 0)

/-- The drive of an iteration (R526, R568, R602, R608, R688, R706). -/
def State.driveOf (s : State) (q : QuayNo) (r : Regs) : Drive :=
  let x := s.quay[q]
  match x.eff.st with
  | .catching => .target ((x.eff.sigma : Rat) * quayCatchTorque s q)
  | .running =>
    if x.share.following then .follow (match x.snap.share with | some v => q24 v.g | none => 0)
    else if r.crashPhase = 1 ∨ r.crashPhase = 3 then .target (s.crashTarget q r)
    else
      match x.eff.mode with
      | .torque => .torque x.snap.torque
      | .speed => .speed x.snap.speed
      | .tension => .tension
      | _ => s.positionDrive q
  | .hold | .homing => s.positionDrive q
  | _ => if x.eff.byGen then s.positionDrive q else s.stopDrive q r

/-- Registers and preset at the first iteration of a speed loop (R544, R575, R608, R712). -/
def State.entryRegs (s : State) (q : QuayNo) (r : Regs) : Regs × Option Rat :=
  let x := s.quay[q]
  let d := some (r.presetD.getD (r.tStar * s.kRatio q))
  let changed := r.prevMode != x.eff.mode
  let loops := x.eff.mode == .speed || x.eff.mode == .tension
  let enters := x.entersRun
  match x.eff.st with
  | .running =>
    let r1 := { r with iInt := if enters then {} else r.iInt
                       balInt := if enters then Vector.replicate 4 {} else r.balInt
                       tensionState := if x.eff.mode = .tension ∧ (enters = true ∨ changed = true) then 0 else r.tensionState }
    if enters = true ∧ (r.prevSt = .hold ∨ r.prevSt = .running) then ({ r1 with nRef := r.n }, none)
    else if r.presetD.isSome then ({ r1 with presetD := none }, d)
    else if enters = true ∨ (changed = true ∧ loops = true) then ({ r1 with nRef := r.n }, d)
    else (r1, none)
  | .stopping | .faulted =>
    if x.eff.byGen then (r, none)
    else if (r.prevSt != .stopping && r.prevSt != .faulted) || changed then ({ r with nRef := if s.hardLimit q then 0 else r.n, nAcc := 0 }, d)
    else (r, none)
  | _ => (r, none)

/-- Torque waits for 90 % of the flux reference of an induction machine (R472, R477, R688); the integrator waits with it, as it was preset (R544). -/
def State.fluxGate (s : State) (q : QuayNo) (old r : Regs) (preset : Bool) : Regs :=
  if s.machine q = 2 then
    let up := r.fluxUp || decide (9 / 10 * (quayImFluxNom s q * cosTurn (s.advance q r.n)) ≤ r.psiR)
    if up then { r with fluxUp := true } else { r with tStar := 0, integ := if preset then r.integ else old.integ, torqueLim := true }
  else r

/-- Current references for T*, with those of current-frequency mode and of its handover (R457, R475, R504, R505). -/
def State.currentRefs (s : State) (q : QuayNo) (r : Regs) : Dq × Bool × Word :=
  let adv := s.advance q r.n
  let f := Config.freeRat s.free
  let a := if s.machine q = 2 then s.inductionRefs q r.tStar r.psiR adv f else s.magnetRefs q r.tStar adv f
  if !r.ifMode then (a.1, a.2, adv)
  else
    let v : Dq := ⟨if s.machine q = 2 then a.1.d else 0, r.ifSign * quayIfCurrent s q⟩
    let k := r.ifShare
    ((v.mul k).add (a.1.mul (1 - k)), a.2, adv)

/-- Electrical speed in pu of ω_base: with the slip of an induction machine on its encoder (R476). -/
def State.elecSpeed (s : State) (q : QuayNo) (r : Regs) : Rat :=
  if s.machine q = 2 ∧ s.usesObserver q r = false ∧ r.iMeas.q ≠ 0 then r.n + s.slipOf q r.iMeas.q r.psiR (Config.freeRat (s.free + 45)) else r.n

/-- The torque of the machine in pu (R459, R483). -/
def State.torqueEstimate (s : State) (q : QuayNo) (r : Regs) : Rat :=
  let k := if s.setsOf q = 0 then 1 else ((s.sets q).length : Rat) / (s.setsOf q : Rat)
  let base := quayKt s q * r.iMeas.q
  match s.machine q with
  | 2 => base * k * quot r.psiR (quayImFluxNom s q) 0
  | 3 | 5 => base
  | _ => base * k

/-- The flux of an induction machine after an iteration, whatever its legs do: the current model, or the observer's (R476, R501). -/
def State.fluxAfter (s : State) (q : QuayNo) (r : Regs) : Regs :=
  if s.machine q = 2 then (if s.usesObserver q r then { r with psiR := sqrtQ r.obsFlux.sq } else s.fluxStep q r) else r

/-- The current layer for a vector reference: regulators and commands; a stale current input repeats the rotated vector (R446). -/
def State.vectorStep (s : State) (q : QuayNo) (r : Regs) (ref : Dq) (w : Rat) (first freeze : Bool) : Regs × List (LegNo × LegCmd) :=
  let o := s.regulate q r ref w first freeze
  let us := s.stationary q o.reg w freeze o.sets
  ({ o.reg with uStat := us.foldl (fun v e => v.set e.1 e.2) o.reg.uStat }, s.vectorCommands q us)

/-- An iteration with the legs under a torque (R457 to R499, R526). -/
def State.torqueIter (s : State) (q : QuayNo) (freeze : Bool) : Regs × List (LegNo × LegCmd) :=
  let x := s.quay[q]
  let r0 := x.kern.reg
  let a := s.entryRegs q r0
  let first := x.firstIter
  let r1 := s.torqueStep q a.1 (s.driveOf q a.1) a.2
  let r2 := s.fluxGate q r0 r1 a.2.isSome
  match s.machine q with
  | 3 => s.blockStep q r2 r2.tStar r2.n first freeze
  | 5 => s.brushedStep q r2 r2.tStar first freeze
  | _ =>
    let c := s.currentRefs q r2
    s.vectorStep q { r2 with torqueLim := r2.torqueLim || c.2.1, adv := c.2.2 } c.1 (s.elecSpeed q r2) first freeze

/-- An iteration of the search (R526, R691): the stages run on a torque target of zero. -/
def State.searchIter (s : State) (q : QuayNo) (freeze : Bool) : Regs × List (LegNo × LegCmd) :=
  let r := { s.torqueStep q s.quay[q].kern.reg (.target 0) none with thetaE := s.quay[q].kern.reg.ifAngle }
  s.vectorStep q r ⟨quaySearchCurrent s q, 0⟩ r.searchFreq false freeze

/-- VOLTAGE_LIMIT (R467): once for a run of reduced voltages. -/
def State.voltMonitor (s : State) (q : QuayNo) : State :=
  let r := s.quay[q].kern.reg
  let due := r.voltLimit && decide (quayVlimCount s q ≤ r.vlimRun)
  let s1 := s.modReg q (fun y => { y with vlimDone := y.voltLimit && (y.vlimDone || due) })
  if due && !r.vlimDone then s1.raiseQuay srcVoltageLimit q else s1

/-- SET_IMBALANCE (R484): once for each difference current whose run has come to 8 iterations. -/
def State.balanceMonitor (s : State) (q : QuayNo) : State :=
  forAll ((List.finRange 4).filter (fun j => s.quay[q].kern.reg.imbRun[j] == 8)) s (fun t _ => t.raiseQuay srcSetImbalance q)

/-- What every iteration of an FOC quay measures besides: the load observer while its legs switch under its kernel (R536), the tension (R549). -/
def State.loadStep (s : State) (q : QuayNo) : State :=
  s.modReg q (fun r => s.tensionMeas q (if s.quay[q].driving then s.loadObserver q r (s.riding q r) else r))

/-- The control of an FOC, block-commutated or brushed quay: registers and commands of this iteration. -/
def State.focControl (s0 : State) (q : QuayNo) : State × List (LegNo × LegCmd) :=
  let s := s0.loadStep q
  let x := s.quay[q]
  let freeze := s.staleCurrent q
  if x.shorted then
    ((s.shortStep q).modReg q (fun r => s.fluxAfter q r), allLegsAs (s.phaseLegs q) .holdLow)
  else if !x.driving then
    (s.modReg q (fun r => s.fluxAfter q { r.blocked (x.eff.st == .off) with
      iMeas := s.idleCurrents q r.thetaE }), allLegsAs (s.phaseLegs q) .off)
  else
    let o := if x.eff.st = .catching ∧ x.kern.reg.catchPhase = 3 then s.searchIter q freeze else s.torqueIter q freeze
    (((s.modReg q (fun _ => s.fluxAfter q o.1)).voltMonitor q).balanceMonitor q, o.2)

/-- The control of a light stepper or pulse quay; the reference in force is the speed of its generator (R328). -/
def State.stepControl (s : State) (q : QuayNo) (e : Estimates) : State × List (LegNo × LegCmd) :=
  let x := s.quay[q]
  if s.isPulse q then
    (if x.driving then (s.pulseStep q).modReg q (fun r => { r with reference := s.genPu q }) else s.modReg q (fun r => { r with reference := 0 }), [])
  else if !x.driving then
    ((s.modReg q (fun r => { r.blocked (x.eff.st == .off) with vZeroSince := none, satSince := none })).modStep q
      (fun t => { t with held := false, stallRun := 0, strong := false, intA := 0, intB := 0, uA := 0, uB := 0, quiet := 0 }), allLegsAs (s.phaseLegs q) .off)
  else
    let o := (s.modReg q (fun r => { r with reference := s.genPu q })).stepperStep q e x.firstIter (s.staleCurrent q)
    (o.1.voltMonitor q, o.2)

/-! ### Monitors and bookkeeping -/

/-- The iteration takes longer than its kernel may (R119); the time runs from its start, when the engine was free (R76). -/
def State.iterLate (s : State) (q : QuayNo) : Bool :=
  s.quay[q].iterAt.any (fun t => decide (kernelTicks (s.kernel q) < s.now - max t (max s.quay[q].ranAt s.quay[partnerOf q].ranAt)))

/-- ENGINE_OVERRUN (R76, R119, R123). -/
def State.overrun (s : State) (q : QuayNo) : State := if s.iterLate q then s.raiseQuay srcEngineOverrun q else s

/-- OVERSPEED of an FOC quay, on the filtered speed (R525, R532, R541), and FOLLOW_ERROR (R603), which a follower does not show (R568), each once
for a run. -/
def State.speedMonitors (s : State) (q : QuayNo) : State :=
  let x := s.quay[q]
  let r := x.kern.reg
  let fast := run (!s.isStepped q && decide (quayOverspeed s q < rabs r.nf)) r.overRun
  let judged := (x.eff.st == .running && x.eff.mode == .position && !x.share.following) || x.eff.st == .hold || x.eff.st == .homing
  let err : Bool := match s.primaryView q with
    | some v => judged && decide ((quayFollowErrMax s q : Rat) < rabs (x.kern.gen.pos - v.pos))
    | none => false
  let late := run err r.followRun
  let s1 := s.modReg q (fun y => { y with overRun := fast, followRun := late })
  let s2 := if fast = 2 then s1.raiseQuay srcOverspeed q else s1
  if late = 2 then s2.raiseQuay srcFollowError q else s2

/-- Angle sources that last until the quay leaves RUNNING (R516, R730), and what a quay outside a stop or a catch no longer holds. -/
def State.leaveRun (s : State) (q : QuayNo) : State :=
  let st := s.quay[q].eff.st
  s.modReg q (fun r => { r with
    encSwitch := r.encSwitch && st == .running, fallback := r.fallback && st == .running
    lossShort := r.lossShort && (st == .running || st == .stopping), catchPhase := if st = .catching then r.catchPhase else 0 })

/-- Times since when the quay stands (R270 row 13) and meets the stall conditions of homing (R623). -/
def State.dwells (s : State) (q : QuayNo) : State :=
  let x := s.quay[q]
  let still := (x.core.st == .stopping || (x.core.st == .faulted && x.rampReact)) && decide (rabs x.kern.reg.n < quayStopSpeed s q)
  let stall := x.seeksStall && x.kern.reg.torqueLim && decide (rabs x.kern.reg.n < quayHomeStallSpeed s q)
  s.modReg q (fun r => { r with
    stillSince := since still r.stillSince x.snap.time
    stallSince := if x.core.st = .catching then r.stallSince else since stall r.stallSince x.snap.time })

/-- What closes an iteration: the torque shown, arrival, rest, the copy of the kernel state, emulation, sharing (R419, R459, R562, R563, R595,
R597, R963). -/
def State.closeIter (s : State) (q : QuayNo) (cmds : List (LegNo × LegCmd)) : State :=
  let x := s.quay[q]
  let r := x.kern.reg
  let n := if s.isStepped q && (s.primaryCell q).isNone then s.genPu q else r.n
  let s1 := s.modReg q (fun y => { y with
    n := n, torque := if s.isStepped q then 0 else s.torqueEstimate q r, prevSt := x.eff.st, prevRun := x.eff.entries
    prevMode := if x.eff.release then .none else x.eff.mode })
  let staleAngle := match s.commCell q with
    | some k => x.snap.stale.contains (.cell k) || (match x.snap.view k with | some v => v.status.getLsbD 9 | none => false)
    | none => false
  let s2 := ((((s1.speedMonitors q).dwells q).trackArrival q).settle q).emulateAngle q staleAngle
  let s3 := s2.modQuay q (fun y => { y with
    sent := cmds, ranAt := s.now, iterAt := none, cfg := none, snap := { y.snap with complete := false }
    kernCopy := if s.hm.synced[q] then y.kern else y.kernCopy })
  { s3.shareSend q with free := s.free + 64 }

/-- One iteration of a quay on its snapshot, with the parameters it started with (R463); what it answers keeps the parameters in force. -/
def State.iterate (s0 : State) (q : QuayNo) (e : Estimates) : State :=
    let s : State := { s0 with params := s0.quay[q].cfg.getD s0.params }
    let s1 := (s.leaveRun q).senseStep q e
    let s2 := ((s1.applyFlags q).limitStep q).shareStep q
    let stepped := s.isStepped q
    let s3 := if stepped then s2 else ((((s2.lossStep q).catchStep q).ifStep q).crashStep q)
    let s4 := (s3.genStart q).genStep q
    let o := if stepped then s4.stepControl q e else s4.focControl q
    { (o.1.homeEnd q).closeIter q o.2 with params := s0.params }

/-- What the Check cores of the running halves note of an iteration (R34, R965): whether it took longer than its kernel may, and the signature
records of its engine and of the Pilot. -/
def State.noteIteration (s : State) (q : QuayNo) (late : Bool) : State :=
  let f (x : Half) : Half :=
    if x.run then
      { x with check := { x.check with
          missed := x.check.missed.set q (if late then x.check.missed[q] + 1 else 0)
          sigs := (x.check.sigs.setIfInBounds (q.val / 2) (Config.signature (q.val / 2) s.free)).set 6 (Config.signature 6 s.free) } }
    else x
  (s.modHalf .a f).modHalf .b f

/-- ITERATION_COMPLETE (R34, R45, R76, R123, R526): the engine of the half in charge finishes an iteration of a quay on its snapshot, and starts
what waits. The acceptance table of class 0 follows the state (R246). -/
def execIterationComplete (q : QuayNo) (e : Estimates) (s : State) : Host.Outcome State Fault Refusal :=
  if s.quay[q].snap.complete && s.hm.grant.isSome && s.hasKernel q && !s.afterPartner q then
    .next ((((((s.overrun q).iterate q e).noteIteration q (s.iterLate q)).rewriteTable q).startIteration q).startIteration (partnerOf q))
  else .next s

end Sys2Proof.Machine
end

