-- ==== Sys2Proof/Machine/AxisEvents.lean ====
section
/-! DEFINITION. The timed transitions of a quay: ARM completes or is abandoned, the quay reaches standstill. -/

namespace Sys2Proof.Machine

/-- Every remote leg of a quay reports ARMED (R270 row 1, R854); the charge of the local bootstraps (R759) is what the event says. -/
def State.remoteArmed (s : State) (q : QuayNo) : Bool := (s.legsOf q).all (fun l => isLocal l || s.leg[l].armed)

/-- ARM_COMPLETE (R234, R246, R270 row 1, R447, R759): the offsets of the current inputs have been averaged. -/
def execArmComplete (q : QuayNo) (s : State) : Host.Outcome State Fault Refusal :=
  let c := s.quay[q].core
  if c.st = .off ∧ c.armOp.isSome = true ∧ s.remoteArmed q = true ∧ s.offsetsDone q = true ∧ s.hm.grant.isSome = true then
    let s1 := s.eventOpt c.armOp stDone 0 0
    .next ((s1.modQuay q (fun x => { x with core := { x.core with armOp := none } })).enter q .armed)
  else .next s

/-- ARM_TIMEOUT (R291): the ARM is abandoned and the quay stays in OFF. -/
def execArmTimeout (q : QuayNo) (s : State) : Host.Outcome State Fault Refusal :=
  let c := s.quay[q].core
  if c.armOp.isSome = true ∧ c.armAt + us (quayArmTimeout s q) ≤ s.now ∧ s.hm.grant.isSome = true then .next (s.abandonArm q) else .next s

/-- A ramp reaction ends at standstill with the legs blocked (R272, R746). -/
def State.rampEnds (s : State) (q : QuayNo) : State :=
  let s1 := s.modQuay q (fun x => { x with react := some 4, rampReact := false })
  State.syncLegs s ((s1.reactLegs q 4 false none).cutSteps q)

/-- STOP_DWELL_EXPIRY (R270 row 13, R272, R571, R745, R746, R855): standstill has lasted for `quay.stop_dwell`. -/
def execStopDwellExpiry (q : QuayNo) (s : State) : Host.Outcome State Fault Refusal :=
  let x := s.quay[q]
  match x.kern.reg.stillSince with
  | some t =>
    if t + us (quayStopDwell s q) ≤ s.now ∧ s.hm.grant.isSome = true then
      (if x.core.st = .stopping then .next ((s.settle q).enter q .off)
       else if x.core.st = .faulted ∧ x.rampReact = true then .next ((s.settle q).rampEnds q)
       else .next s)
    else .next s
  | none => .next s

end Sys2Proof.Machine
end

