-- ==== Sys2Proof/Machine/Hawser.lean ====
section
/-! DEFINITION. The Hawser ring (R865 to R881): ports, frames and their forwarding, membership, time alignment; the forming of share
groups (R557 to R560, R572, R573). -/

namespace Sys2Proof.Machine

/-! ### Share groups (R557 to R560) -/

/-- Device field of this device. -/
def State.ownDevice (s : State) : Nat := deviceField s.prot.hwAddress

/-- A Hawser address lies on another device. -/
def State.foreign (s : State) (a : Word) : Bool := a != 0 && deviceField a != s.ownDevice

/-- Members of a shaft group on this device. -/
def State.groupMembers (s : State) (g : Nat) : List QuayNo := allQuays.filter (fun q => s.isMember q && quayShaftGroup s q == g)

/-- Masters of a shaft group on other devices, as their share values showed them. DEDUCED, log entry 25. -/
def State.foreignMasters (s : State) (g : Nat) : List Word :=
  ((s.groupMembers g).map (fun q => s.quay[q].share.sender)).foldl
    (fun acc a => if s.foreign a && s.hw.memberSet.contains (deviceField a) && !acc.contains a then acc ++ [a] else acc) []

/-- A group without exactly one master, or whose members here differ in n_base (R559). A master sends in each of its iterations (R562), so that one
on another device has been heard unless its device has only just shown itself (`heard` is false). -/
def State.misformed (s : State) (heard : Bool) (g : Nat) : Bool :=
  let ms := s.groupMembers g
  let masters := (s.localMasters g).length + (s.foreignMasters g).length
  let others := s.hw.memberSet.any (· != s.ownDevice)
  decide (1 < masters) || (masters == 0 && (heard || !others)) ||
    (match ms with
     | q :: rest => rest.any (fun r => quayNBase s r != quayNBase s q)
     | [] => false)

/-- A member of a misformed group runs stand-alone (R559, R574); a master in RUNNING takes no follower until it has left it (R576). -/
def State.splitMember (s : State) (q : QuayNo) : State :=
  let s1 := s.modQuay q (fun x => { x with share := { x.share with config := true } })
  if s.quay[q].core.st ≠ .running then s1
  else if quayShareRole s q = 2 then (if s.quay[q].share.alone then s1 else s1.goAlone q)
  else
    let s2 := if s.quay[q].share.alone then s1 else s1.standAlone q
    s2.modQuay q (fun x => { x with share := { x.share with left := true, followers := x.share.followers.map (fun f => { f with inK := false }) } })

/-- Form one group (R559): a misformed one raises SHARE_CONFIG on its quays here. -/
def State.formGroup (s : State) (heard : Bool) (g : Nat) : State :=
  let ms := s.groupMembers g
  if ms.isEmpty then s
  else if s.misformed heard g then
    forAll ms (forAll ms s State.splitMember) (fun t r => t.raiseQuay srcShareConfig r)
  else forAll ms s (fun t r => t.modQuay r (fun x => { x with share := { x.share with config := false } }))

/-- Form the groups of this device (R559). -/
def State.formGroups (s : State) (heard : Bool) : State := forAll ((List.range 64).drop 1) s (fun t g => t.formGroup heard g)

/-- A device has left the ring: a follower whose master it held, or a master whose followers it held, has lost them (R572, R573). -/
def State.loseDevices (s : State) (gone : List Nat) (q : QuayNo) : State :=
  let x := s.quay[q]
  let away (a : Word) := s.foreign a && gone.contains (deviceField a)
  if !s.isMember q then s
  else if quayShareRole s q = 2 then (if !away x.share.sender then s else if x.share.following then (s.loseMaster q).dropShare q else s.dropShare q)
  else
    let lost := (x.share.followers.filter (fun f => f.inK && away f.addr)).length
    let s1 := s.modQuay q (fun y => { y with share := { y.share with followers := y.share.followers.filter (fun f => !away f.addr) } })
    let s2 := (List.range lost).foldl (fun (t : State) _ => t.raiseQuay srcShareLost q) s1
    if decide (0 < lost) && s2.quay[q].share.followers.all (fun f => !f.inK) then
      (s2.standAlone q).modQuay q (fun y => { y with share := { y.share with left := true } })
    else s2

/-! ### Membership (R872 to R877) -/

/-- The device that is time master: the member of lowest priority value, then of lowest device field (R877). -/
def State.electMaster (s : State) : Nat :=
  let cands := (s.prot.hwTimePrio.toNat, s.ownDevice) ::
    (s.hw.members.filter (fun m => s.hw.memberSet.contains m.device)).map (fun m => (m.prio.toNat, m.device))
  (cands.foldl (fun best c => if c.1 < best.1 ∨ (c.1 = best.1 ∧ c.2 < best.2) then c else best) (s.prot.hwTimePrio.toNat, s.ownDevice)).2

/-- Take the devices heard as the membership; a change raises HW_RING_CHANGE and forms the groups anew (R559, R875, R877). -/
def State.formMembership (s : State) (heard : Bool) : State :=
  let now := s.ownDevice :: ((List.range 8).filter (fun d => d != s.ownDevice && s.hw.members.any (fun m => m.device == d)))
  let gone := s.hw.memberSet.filter (fun d => !now.contains d)
  let same := gone.isEmpty && now.all s.hw.memberSet.contains
  let s1 := s.modHw (fun h => { h with memberSet := now })
  let s2 := s1.modHw (fun h => { h with master := s1.electMaster })
  if same then s2
  else (forAll allQuays (s2.raiseDevice srcHwRingChange) (fun t q => t.loseDevices gone q)).formGroups heard

/-- This device's DISC (R866). -/
def State.discPayload (s : State) : HwDisc :=
  { serial := s.fuse.serial, h0Up := s.hw.ports.a.up, h1Up := s.hw.ports.b.up, timePrio := s.prot.hwTimePrio
    mode := BitVec.ofNat 8 s.hw.mode.code }

/-- Send DISC (R872). -/
def State.sendDisc (s : State) : State :=
  (s.originate s.prot.hwAddress 0x10 (fun h => .disc h s.discPayload)).modHw (fun h => { h with lastDisc := s.now })

/-- Both own ports are up and every member's latest DISC shows both of its own up (R874). -/
def State.ringWhole (s : State) : Bool :=
  s.hw.ports.a.up && s.hw.ports.b.up && s.hw.members.all (fun m => m.h0Up && m.h1Up)

/-- Track since when the ring has been whole (R874). -/
def State.trackWhole (s : State) : State :=
  let w := s.ringWhole
  s.modHw (fun h => { h with wholeSince := if w then some (h.wholeSince.getD s.now) else none })

/-- Membership is formed from the DISC frames of the coming window (R875); a ring is judged whole from its start on. -/
def State.openWindowHw (s : State) : State :=
  (s.modHw (fun h => { h with members := [], windowAt := some (s.now + us (hwMemberWindow s)), wholeSince := none })).trackWhole

/-- Enter a mode; a change sends DISC at once (R872). -/
def State.setHwMode (s : State) (m : HwMode) : State :=
  if s.hw.mode = m then s else (s.modHw (fun h => { h with mode := m })).sendDisc

/-- LINE where a port is up, else ALONE. -/
def State.lineOrAlone (s : State) : HwMode := if s.hw.ports.a.up || s.hw.ports.b.up then .line else .alone

/-- HW_PORT_UP (R868, R872, R875): the port has trained and its delay is measured. -/
def execHwPortUp (p : Side) (s : State) : Host.Outcome State Fault Refusal :=
  let x := s.hw.ports.get p
  if s.afterStep10 && !x.up && !x.training && x.rxOk && x.rs.length == 4 then
    let s1 := s.modHwPort p (fun y => { y with up := true })
    .next ((s1.modHw (fun h => { h with mode := if h.mode = .alone then .line else h.mode })).openWindowHw.sendDisc)
  else .next s

/-- HW_PORT_LOSS (R826, R872, R873, R875). -/
def execHwPortLoss (p : Side) (s : State) : Host.Outcome State Fault Refusal :=
  let x := s.hw.ports.get p
  let s1 := s.modHwPort p (fun y => { y with up := false, rxOk := false, training := false, rs := [] })
  if x.up then
    let s2 := s1.modHw (fun h => { h with mode := s1.lineOrAlone })
    let s3 := if (s2.hw.ports.get p.other).up then s2.originate s2.prot.hwAddress 0x11 (fun h => .topo h true p) else s2
    .next s3.openWindowHw.sendDisc
  else .next s1

/-- HW_DISC_SEND (R872). -/
def execHwDiscSend (s : State) : Host.Outcome State Fault Refusal :=
  if s.hw.mode ≠ .alone ∧ s.hw.lastDisc + us (hwDiscPeriod s) ≤ s.now then .next s.sendDisc else .next s

/-- MEMBER_WINDOW_END (R874, R875): membership is formed; a ring that has been whole for the window is RING again, one that became whole later
is judged again. -/
def execMemberWindowEnd (s : State) : Host.Outcome State Fault Refusal :=
  match s.hw.windowAt with
  | some t =>
    if s.now < t then .next s
    else
      let s1 := (s.modHw (fun h => { h with windowAt := none })).formMembership true
      let s2 := match s1.hw.wholeSince with
        | some u => if s1.now < u + us (hwMemberWindow s1) then s1.modHw (fun h => { h with windowAt := some (u + us (hwMemberWindow s1)) }) else s1
        | none => s1
      .next (s2.setHwMode (if s2.ringWhole && s2.hw.windowAt.isNone then .ring else s2.lineOrAlone))
  | none => .next s

/-- DISC_EXPIRY (R875): no DISC of a member for three periods. -/
def execDiscExpiry (device : BitVec 3) (s : State) : Host.Outcome State Fault Refusal :=
  let old (m : Member) := m.device == device.toNat && decide (m.at_ + 3 * us (hwDiscPeriod s) ≤ s.now)
  if s.hw.members.any old then .next ((s.modHw (fun h => { h with members := h.members.filter (fun m => !old m) })).trackWhole.formMembership true)
  else .next s

/-! ### Receipt and forwarding (R869 to R871) -/

/-- The device part of a Hawser address: vessel, machinery system, drive and device (R8). -/
def devicePart (a : Word) : Nat := a.toNat / 16777216 * 16777216 + a.toNat / 512 % 512 * 512
/-- Vessel, machinery system and drive of a Hawser address. -/
def drivePart (a : Word) : Nat := a.toNat / 16777216 * 16777216 + a.toNat / 4096 % 64 * 4096

/-- What becomes of a received frame: dropped, consumed, or consumed and forwarded with its new TTL. -/
inductive Receipt where
  | drop
  | consume
  | forward (ttl : Byte)
  deriving DecidableEq, Repr

/-- A received frame (R869 to R871). -/
def State.receipt (s : State) (p : Side) (ty : Nat) (h : HwHeader) : Receipt :=
  let dup := s.hw.recent.any (fun e => e.1 == h.src && e.2.1 == ty && e.2.2.1 == h.seq && decide (s.now < e.2.2.2 + us 1000))
  if s.hw.mode = .alone ∨ (s.hw.ports.get p).up = false ∨ devicePart h.src = devicePart s.prot.hwAddress ∨ dup = true then .drop
  else
    let open_ := s.hw.mode == .ring || (s.hw.ports.get p.other).up
    if h.ttl.toNat ≤ 1 ∨ open_ = false then .consume else .forward (h.ttl - 1)

/-- Remember a frame for R871. -/
def State.noteFrame (s : State) (ty : Nat) (h : HwHeader) : State :=
  s.modHw (fun x => { x with recent := (h.src, ty, h.seq, s.now) :: x.recent.filter (fun e => decide (s.now < e.2.2.2 + us 1000)) })

/-- Consume a frame and forward it where R869 says so. -/
def State.receive (s : State) (p : Side) (ty : Nat) (h : HwHeader) (mk : HwHeader → HwFrame) (f : State → State) : State :=
  match s.receipt p ty h with
  | .drop => s
  | .consume => f (s.noteFrame ty h)
  | .forward ttl => (f (s.noteFrame ty h)).hwSend p.other (mk { h with ttl := ttl })

/-- A DISC that names another hierarchy, or this device's field with another serial (R876). -/
def State.discConflict (s : State) (h : HwHeader) (d : HwDisc) : Bool :=
  drivePart h.src != drivePart s.prot.hwAddress || (deviceField h.src == s.ownDevice && d.serial != s.fuse.serial)

/-- Raise HW_ID_CONFLICT once for each sender (R876). -/
def State.raiseConflict (s : State) (h : HwHeader) (d : HwDisc) : State :=
  if s.hw.conflicts.contains (h.src, d.serial) then s
  else (s.modHw (fun x => { x with conflicts := (h.src, d.serial) :: x.conflicts })).raiseDevice srcHwIdConflict

/-- Take a DISC into membership (R874, R875). -/
def State.takeDisc (s : State) (h : HwHeader) (d : HwDisc) : State :=
  let m : Member := { device := deviceField h.src, serial := d.serial, h0Up := d.h0Up, h1Up := d.h1Up, prio := d.timePrio, at_ := s.now }
  let s1 := (s.modHw (fun x => { x with members := m :: x.members.filter (fun y => y.device != m.device) })).trackWhole
  if s1.hw.windowAt.isSome then s1
  else
    let s2 := s1.formMembership false
    if s2.hw.mode = .line ∧ s2.ringWhole = true then
      s2.modHw (fun x => { x with windowAt := some (x.wholeSince.getD s2.now + us (hwMemberWindow s2)) })
    else s2

/-- HW_DISC (R869 to R871, R874 to R876). -/
def execHwDisc (p : Side) (hdr : HwHeader) (disc : HwDisc) (s : State) : Host.Outcome State Fault Refusal :=
  if s.hw.mode = .alone ∨ (s.hw.ports.get p).up = false then .next s
  else if s.discConflict hdr disc then
    .next ((s.raiseConflict hdr disc).receive p 0x10 hdr (fun h => .disc h disc) id)
  else .next (s.receive p 0x10 hdr (fun h => .disc h disc) (fun t => t.takeDisc hdr disc))

/-- HW_TOPO (R869 to R873, R875): LINE at once. -/
def execHwTopo (p : Side) (hdr : HwHeader) (lost : Bool) (port : Side) (s : State) : Host.Outcome State Fault Refusal :=
  .next (s.receive p 0x11 hdr (fun h => .topo h lost port) (fun t => (t.setHwMode .line).openWindowHw))

/-! ### Time alignment (R877 to R880) -/

/-- HW_TIME_SEND (R877). -/
def execHwTimeSend (s : State) : Host.Outcome State Fault Refusal :=
  if s.hw.mode ≠ .alone ∧ s.hw.master = s.ownDevice ∧ s.hw.lastSent + us (hwTimePeriod s) ≤ s.now then
    .next ((s.originate s.prot.hwAddress 0x12 (fun h => .time h (BitVec.ofNat 64 s.now) 0)).modHw (fun h => { h with lastSent := s.now }))
  else .next s

/-- Alignment ends (R880): the source is raised and no correction goes on. -/
def State.loseAlignment (s : State) : State :=
  (((s.modHw (fun h => { h with aligned := false })).modTb (fun t => { t with slewing := false, slewRate := 0, slewLeft := 0 }))).raiseDevice srcHwAlignLost

/-- Correct device time by an offset (R18, R89 to R91): a step forward while every quay is in OFF, else a slew at `tb.slew_limit`. -/
def State.correct (s : State) (off : Int) : State :=
  if 0 < off ∧ allQuays.all (fun q => !s.outsideOff q) = true then
    s.modTb (fun t => { t.displaced off with slewing := false, slewRate := 0, slewLeft := 0, slewAcc := 0 })
  else
    s.modTb (fun t => { t with slewing := decide (off ≠ 0), slewLeft := off, slewAcc := if off = 0 then 0 else t.slewAcc
                               slewRate := if off = 0 then 0 else if 0 < off then (tbSlewLimit s : Int) else -(tbSlewLimit s : Int) })

/-- Take the master's time (R879, R880). -/
def State.takeTime (s : State) (p : Side) (stamp : Dword) (corr : Word) : State :=
  let off : Int := (stamp.toNat + corr.toNat + (s.hw.ports.get p).delay.toNat : Nat) - (s.now : Int)
  let s1 := s.modHw (fun h => { h with offset := off, lastTime := s.now })
  if (hwAlignLost s : Int) < off.natAbs then
    (if s.hw.aligned then s1.loseAlignment else s1.correct off)
  else (s1.modHw (fun h => { h with aligned := h.aligned || decide (off.natAbs ≤ 6) })).correct off

/-- HW_TIME (R869 to R871, R878 to R880). The residence time added on forwarding is a free value. -/
def execHwTime (p : Side) (hdr : HwHeader) (stamp : Dword) (correction : Word) (s : State) : Host.Outcome State Fault Refusal :=
  let onward := correction + (s.hw.ports.get p).delay + Config.freeWord s.free
  .next (s.receive p 0x12 hdr (fun h => .time h stamp onward)
    (fun t => if deviceField hdr.src = t.hw.master then t.drawn.takeTime p stamp correction else t.drawn))

/-- HW_ALIGN_LOST (R880): no TIME frame for ten periods. -/
def execHwAlignLost (s : State) : Host.Outcome State Fault Refusal :=
  if s.hw.aligned = true ∧ s.hw.lastTime + 10 * us (hwTimePeriod s) ≤ s.now then .next s.loseAlignment else .next s

/-- HW_PING (R868): answered with PONG; its turnaround is a free value. -/
def execHwPing (p : Side) (s : State) : Host.Outcome State Fault Refusal :=
  if s.afterStep10 then .next (s.drawn.hwSend p (.pong (Config.freeWord s.free))) else .next s

/-- HW_PONG (R842, R843, R868): the r of the pair; after four the delay, or the four pairs again. -/
def execHwPong (p : Side) (turnaround : Word) (s : State) : Host.Outcome State Fault Refusal :=
  let x := s.hw.ports.get p
  if !x.up && !x.training && x.rxOk && decide (x.rs.length < 4) then
    let rs := x.rs ++ [(s.now : Int) - x.pingAt - turnaround.toNat]
    if rs.length < 4 then .next (s.modHwPort p (fun y => { y with rs := rs, pingAt := s.now, tx := y.tx ++ [.ping] }))
    else if spreadOk rs then .next (s.modHwPort p (fun y => { y with rs := rs, delay := BitVec.ofInt 32 (delayOf rs) }))
    else .next (s.modHwPort p (fun y => { y with rs := [], pingAt := s.now, tx := y.tx ++ [.ping] }))
  else .next s

/-! ### Share frames (R562 to R567) -/

/-- HW_SHARE (R559, R566, R869 to R871): to the followers of its shaft group; where it shows
a group well or badly formed that was held for the other, the group is formed anew. -/
def execHwShare (p : Side) (hdr : HwHeader) (share : HwShare) (s : State) : Host.Outcome State Fault Refusal :=
  let g := shaftField hdr.src
  .next (s.receive p 0x20 hdr (fun h => .share h share) (fun t =>
    let t1 := forAll (if g = 0 then [] else t.localFollowers g) t (fun u q => u.takeShare q hdr.src share)
    let t2 := forAll (if g = 0 then [] else t.localMasters g) t1 (fun u q =>
      u.modQuay q (fun x => { x with share := { x.share with sender := hdr.src } }))
    if g = 0 || (t2.misformed true g == (t2.groupMembers g).any (fun q => t2.quay[q].share.config)) then t2 else t2.formGroup true g))

/-- HW_SHARE_STAT (R567, R869 to R871): to the master of its shaft group. -/
def execHwShareStat (p : Side) (hdr : HwHeader) (stat : HwShareStat) (s : State) : Host.Outcome State Fault Refusal :=
  let g := shaftField hdr.src
  .next (s.receive p 0x21 hdr (fun h => .shareStat h stat) (fun t =>
    forAll (if g = 0 then [] else t.localMasters g) t (fun u q => u.takeStat q hdr.src stat)))

/-- HW_BAD_FRAME (R828): discarded and counted. -/
def execHwBadFrame (p : Side) (_reason : BadFrame) (s : State) : Host.Outcome State Fault Refusal :=
  if (s.hw.ports.get p).up then .next (s.raiseDevice srcHwCrc (instCtx p.toNat)) else .next s

end Sys2Proof.Machine
end

