-- ==== Sys2Proof/Machine/Crypto.lean ====
section
/-! DEFINITION. SHA-256 and ECDSA on P-256, by which the boot ROM verifies an image (R161 to R163). The algorithms and constants are those of
the published standards that the manual names: PRESUMED, log entry 33. -/

namespace Sys2Proof.Machine

/-! ### SHA-256 -/

/-- The round constants. -/
def shaK : List Word :=
  [0x428A2F98, 0x71374491, 0xB5C0FBCF, 0xE9B5DBA5, 0x3956C25B, 0x59F111F1, 0x923F82A4, 0xAB1C5ED5] ++
  [0xD807AA98, 0x12835B01, 0x243185BE, 0x550C7DC3, 0x72BE5D74, 0x80DEB1FE, 0x9BDC06A7, 0xC19BF174] ++
  [0xE49B69C1, 0xEFBE4786, 0x0FC19DC6, 0x240CA1CC, 0x2DE92C6F, 0x4A7484AA, 0x5CB0A9DC, 0x76F988DA] ++
  [0x983E5152, 0xA831C66D, 0xB00327C8, 0xBF597FC7, 0xC6E00BF3, 0xD5A79147, 0x06CA6351, 0x14292967] ++
  [0x27B70A85, 0x2E1B2138, 0x4D2C6DFC, 0x53380D13, 0x650A7354, 0x766A0ABB, 0x81C2C92E, 0x92722C85] ++
  [0xA2BFE8A1, 0xA81A664B, 0xC24B8B70, 0xC76C51A3, 0xD192E819, 0xD6990624, 0xF40E3585, 0x106AA070] ++
  [0x19A4C116, 0x1E376C08, 0x2748774C, 0x34B0BCB5, 0x391C0CB3, 0x4ED8AA4A, 0x5B9CCA4F, 0x682E6FF3] ++
  [0x748F82EE, 0x78A5636F, 0x84C87814, 0x8CC70208, 0x90BEFFFA, 0xA4506CEB, 0xBEF9A3F7, 0xC67178F2]

/-- The eight working words. -/
structure Sha8 where
  a : Word
  b : Word
  c : Word
  d : Word
  e : Word
  f : Word
  g : Word
  h : Word
  deriving DecidableEq, Repr

/-- The initial hash value. -/
def shaInit : Sha8 :=
  ⟨0x6A09E667, 0xBB67AE85, 0x3C6EF372, 0xA54FF53A, 0x510E527F, 0x9B05688C, 0x1F83D9AB, 0x5BE0CD19⟩

/-- Rotate right. -/
def rotr (x : Word) (n : Nat) : Word := (x >>> n) ||| (x <<< (32 - n))

/-- One round. -/
def shaRound (s : Sha8) (kw : Word × Word) : Sha8 :=
  let t1 := s.h + (rotr s.e 6 ^^^ rotr s.e 11 ^^^ rotr s.e 25) + ((s.e &&& s.f) ^^^ (~~~s.e &&& s.g)) + kw.1 + kw.2
  let t2 := (rotr s.a 2 ^^^ rotr s.a 13 ^^^ rotr s.a 22) + ((s.a &&& s.b) ^^^ (s.a &&& s.c) ^^^ (s.b &&& s.c))
  ⟨t1 + t2, s.a, s.b, s.c, s.d + t1, s.e, s.f, s.g⟩

/-- One more word of the message schedule, newest first. -/
def shaExtend (ws : List Word) : List Word :=
  let x := ws.getD 14 0
  let y := ws.getD 1 0
  ((rotr y 17 ^^^ rotr y 19 ^^^ (y >>> 10)) + ws.getD 6 0 + (rotr x 7 ^^^ rotr x 18 ^^^ (x >>> 3)) + ws.getD 15 0) :: ws

/-- A big-endian word of four bytes. -/
def beWord (bs : List Byte) : Word := BitVec.ofNat 32 (bs.foldl (fun n b => 256 * n + b.toNat) 0)

/-- One block of 64 bytes. -/
def shaBlock (s : Sha8) (bs : List Byte) : Sha8 :=
  let w0 := (List.range 16).map (fun i => beWord ((bs.drop (4 * i)).take 4))
  let ws := (Nat.repeat shaExtend 48 w0.reverse).reverse
  let r := (shaK.zip ws).foldl shaRound s
  ⟨s.a + r.a, s.b + r.b, s.c + r.c, s.d + r.d, s.e + r.e, s.f + r.f, s.g + r.g, s.h + r.h⟩

/-- Padding to whole blocks. -/
def shaPad (bs : List Byte) : List Byte :=
  bs ++ [0x80] ++ List.replicate ((119 - bs.length % 64) % 64) 0 ++ (leBytes 8 (8 * bs.length)).reverse

/-- SHA-256 of some bytes: the first digest byte is the most significant. -/
def sha256 (bs : List Byte) : BitVec 256 :=
  let m := shaPad bs
  let s := (List.range (m.length / 64)).foldl (fun s i => shaBlock s ((m.drop (64 * i)).take 64)) shaInit
  s.a ++ s.b ++ s.c ++ s.d ++ s.e ++ s.f ++ s.g ++ s.h

/-! ### ECDSA on P-256 -/

/-- The field prime. -/
def p256P : Nat := 0xFFFFFFFF00000001000000000000000000000000FFFFFFFFFFFFFFFFFFFFFFFF
/-- The group order. -/
def p256N : Nat := 0xFFFFFFFF00000000FFFFFFFFFFFFFFFFBCE6FAADA7179E84F3B9CAC2FC632551
/-- The constant term of the curve. -/
def p256B : Nat := 0x5AC635D8AA3A93E7B3EBBD55769886BC651D06B0CC53B0F63BCE3C3E27D2604B
/-- The base point. -/
def p256G : Nat × Nat :=
  (0x6B17D1F2E12C4247F8BCE6E563A440F277037D812DEB33A0F4A13945D898C296,
   0x4FE342E2FE1A7F9B8EE7EB4A7C0F9E162BCE33576B315ECECBB6406837BF51F5)

/-- The bits of a number below 2^256, most significant first. -/
def bits256 (k : Nat) : List Bool := (List.range 256).reverse.map k.testBit

/-- Power modulo a number. -/
def modPow (b e m : Nat) : Nat := (bits256 e).foldl (fun x t => if t then x * x % m * b % m else x * x % m) 1

/-- Inverse modulo a prime. -/
def modInv (x m : Nat) : Nat := modPow (x % m) (m - 2) m

/-- Difference modulo a number. -/
def modSub (x y m : Nat) : Nat := (x + m - y % m) % m

/-- The point that a slope gives with two points. -/
def slopePoint (l x1 y1 x2 : Nat) : Nat × Nat :=
  let x := modSub (l * l) (x1 + x2) p256P
  (x, modSub (l * modSub x1 x p256P) y1 p256P)

/-- Sum of two points; none is the point at infinity. -/
def pointAdd : Option (Nat × Nat) → Option (Nat × Nat) → Option (Nat × Nat)
  | none, q => q
  | p, none => p
  | some (x1, y1), some (x2, y2) =>
    if x1 = x2 then
      (if (y1 + y2) % p256P = 0 then none
       else some (slopePoint (modSub (3 * x1 * x1) 3 p256P * modInv (2 * y1) p256P % p256P) x1 y1 x1))
    else some (slopePoint (modSub y2 y1 p256P * modInv (modSub x2 x1 p256P) p256P % p256P) x1 y1 x2)

/-- Multiple of a point. -/
def pointMul (k : Nat) (q : Nat × Nat) : Option (Nat × Nat) :=
  (bits256 k).foldl (fun a t => if t then pointAdd (pointAdd a a) (some q) else pointAdd a a) none

/-- A point of the curve. -/
def onCurve (q : Nat × Nat) : Bool :=
  decide (q.1 < p256P) && decide (q.2 < p256P) && decide (q.2 * q.2 % p256P = modSub (q.1 * q.1 * q.1 + p256B) (3 * q.1) p256P)

/-- The signature (r, s) of a digest verifies with a public key. -/
def ecdsaVerify (z r s : Nat) (q : Nat × Nat) : Bool :=
  let w := modInv s p256N
  decide (0 < r ∧ r < p256N ∧ 0 < s ∧ s < p256N) && onCurve q &&
    (match pointAdd (pointMul (z * w % p256N) p256G) (pointMul (r * w % p256N) q) with
     | some (x, _) => decide (x % p256N = r)
     | none => false)

end Sys2Proof.Machine
end

