-- ==== Sys2Proof/Machine/Validate.lean ====
section
/-! DEFINITION. What a configuration must meet as a whole, at a commit (R183, R1070) and in an image (R165): conditions between
parameters, run locks (R310, R311), pool claims (R71, R72, R181, R182), the engine budget (R120), and what an applied commit starts. -/

namespace Sys2Proof.Machine

/-! ### Conditions between parameters -/

/-- A condition between parameters: the addresses it joins, whether the configuration breaks it, and the parameter of which it is a range that
depends on the others (R1070). -/
structure CrossRule where
  addrs  : List Nat
  broken : Bool
  range  : Option Nat := none

/-- The range of a parameter that depends on other addresses, and whether its value lies outside. -/
def rangeRule (a : Nat) (more : List Nat) (broken : Bool) : CrossRule := { addrs := a :: more, broken := broken, range := some a }

/-- A condition that joins addresses, none of which has a range of its own there. -/
def joinRule (addrs : List Nat) (broken : Bool) : CrossRule := { addrs := addrs, broken := broken }

/-- Sample events per second of a quay's parameters. -/
def State.paramRate (s : State) (q : QuayNo) : Nat := quayCarrierFreq s q * quayLoopPerCarrier s q

/-- Light: a kernel whose legs are local (R63). -/
def State.isLight (s : State) (q : QuayNo) : Bool := s.hasKernel q && !s.isPulse q && !s.isHeavy q

/-- Range of the carrier frequency by kind, in Hz (R124, R127). -/
def State.carrierRange (s : State) (q : QuayNo) : Nat × Nat :=
  if !s.hasKernel q then (500, 100000)
  else if s.isPulse q then (1000, 20000) else if s.isHeavy q then (500, 20000) else (1000, 100000)

/-- The words at some addresses rise strictly as unsigned numbers: one condition for each two of them that follow each other, which `more`
addresses decide too. -/
def State.rising (s : State) (as more : List Nat) : List CrossRule :=
  (as.zip as.tail).map (fun e => joinRule (more ++ [e.1, e.2]) (decide ((s.stored e.2).toNat ≤ (s.stored e.1).toNat)))

/-- Conditions of a quay (R124, R125, R127, R441, R443, R469, R508, R612, R671, R699, R710, R721). -/
def State.quayRules (s : State) (q : QuayNo) : List CrossRule :=
  let c := quayAddr q 0x20
  let lp := quayAddr q 0x21
  let mc := quayAddr q 0x60
  let cr := s.carrierRange q
  let foc := s.kernel q == 1 || s.kernel q == 2
  let im := s.machine q == 2
  let advs := (List.range (tabAdvCount s q)).map (fun i => tabAddr 0 q (1 + i))
  let mss := (List.range 8).map (fun i => tabAddr 16 q (1 + i))
  [ rangeRule c [mc] (decide (quayCarrierFreq s q < cr.1) || decide (cr.2 < quayCarrierFreq s q))
  , joinRule [c, lp] (decide (100000 < s.paramRate q))
  , rangeRule lp [mc] (s.isPulse q && quayLoopPerCarrier s q != 1)
  , joinRule [lp, quayAddr q 0x8D, mc] (s.isLight q && quayShuntPlace s q == 0 && quayLoopPerCarrier s q == 2)
  , joinRule [quayAddr q 0x8E, quayAddr q 0x86, c]
      (decide ((1000 - quayModLimit s q) * 6400000000 < quayShuntMinWindow s q * quayCarrierFreq s q * 1000))
  , joinRule [quayAddr q 0xAE, quayAddr q 0xA8] (decide (quayObsHandover s q ≤ quayObsMinSpeed s q))
  , rangeRule (quayAddr q 0x140) [mc] (foc && (s.primaryCell q).isNone && quayLimpMode s q != 0)
  , rangeRule (quayAddr q 0x141) [mc] (foc && (s.primaryCell q).isNone && quayLimnMode s q != 0)
  , joinRule [quayAddr q 0x190, quayAddr q 0x191] (decide (quayCatchLimit s q ≤ quayCatchDetect s q))
  , rangeRule (quayAddr q 0x199) [mc] (im && quayCrashMode s q == 2)
  , joinRule [quayAddr q 0x19C, quayAddr q 0x19D] (decide (quayCrashUdcHard s q ≤ quayCrashUdcSoft s q))
  , rangeRule (quayAddr q 0x1A1) [mc] (im && quayDegradeSetState s q == 1) ] ++ s.rising advs [tabAddr 0 q 0] ++ s.rising mss []

/-- One master for each shaft group of the device (R558). -/
def State.masterRules (s : State) : List CrossRule :=
  allQuays.flatMap (fun q => (allQuays.filter (fun p => p.val < q.val)).map (fun p =>
    joinRule [quayAddr p 0x120, quayAddr p 0x121, quayAddr q 0x120, quayAddr q 0x121]
      (quayShareRole s p == 1 && quayShareRole s q == 1 && quayShaftGroup s p == quayShaftGroup s q && quayShaftGroup s q != 0)))

/-- Conditions of a feedback cell (R331, R333, R365 to R367, R383, R428). -/
def State.cellRules (s : State) (k : CellNo) : List CrossRule :=
  let a := cellAddr k
  let ssi := fbMode s k == 3
  let bits := fbSsiBits s k + 1 + (if fbSsiParity s k = 0 then 0 else 1)
  let clk := fbSsiClock s k
  let frame := match s.cellQuay k with
    | some q =>
      let keys := [a 0, a 0x10, a 0x11, a 0x14, quayAddr q 0x20, quayAddr q 0x21]
      [ joinRule (keys ++ [quayAddr q 0x10]) (ssi && decide (quayInputDeadline s q * clk < bits * 100 * s.paramRate q))
      , joinRule (keys ++ [a 0x15]) (ssi && decide (clk * 1000000 < (bits * 1000000 + fbSsiMonoflop s k * clk) * s.paramRate q)) ]
    | none => []
  [ rangeRule (a 0) [] (fbMode s k == 4 && decide (8 ≤ k.val))
  , rangeRule (a 0) [] (s.ownerOf 2 k.val == .device && fbMode s k != 0)
  , rangeRule (a 1) [a 0] (fbMode s k == 4 && decide (65536 < fbLines s k))
  , joinRule [a 0xB, a 0xA] (decide (fbMethodHi s k ≤ fbMethodLo s k))
  , joinRule [a 0x12, a 0x11] (decide (fbSsiBits s k < fbSsiStBits s k))
  , rangeRule (a 0x23) [] (fbCmpSpacing s k == 0) ] ++ frame

/-- The window of a centred sigma-delta input against the deadline of its quay (R454). -/
def State.sdRules (s : State) (n : Fin 16) : List CrossRule :=
  match s.ownerOf 3 n.val with
  | .quay q =>
    let m := devSdClock s n.val
    let b := 0x200 + 16 * n.val
    let div := devSdcDiv s m
    [ joinRule [b, b + 1, b + 2, 0x300 + m, quayAddr q 0x10, quayAddr q 0x20, quayAddr q 0x21]
        (decide (m < 4) && div != 0 && devSdAlign s n.val == 1 &&
          decide (quayInputDeadline s q * 64000000 < (24 * devSdDecim s n.val * div + 9600) * s.paramRate q)) ]
  | _ => []

/-- Conditions of a leg (R68, R799). -/
def State.legRules (s : State) (l : LegNo) : List CrossRule :=
  [ rangeRule (legAddr l 0) [] (isLocal l && s.isChopperLeg l)
  , joinRule [legAddr l 0xE, legAddr l 0xF] (decide (legChopOn s l ≤ legChopOff s l)) ]

/-- Conditions of a chopper output and of its die (R792, R799, R820, R996). On a WV-2480-C0 those of the dies do not count (R176). -/
def State.brkRules (s : State) (m : Fin 4) : List CrossRule :=
  let b := 0x400 + 16 * m.val
  let d := m.val
  if m.val < 2 then
    (if s.fuse.pkgC0 then [] else
      [ joinRule [b + 1, b + 2] (decide (devBrkOn s d ≤ devBrkOff s d))
      , joinRule [b + 1, 0x450 + d] (decide (devVmOv s d ≤ devBrkOn s d))
      , rangeRule (b + 3) [] (devBrkSrc s d != 255)
      , joinRule [addr 8 0 (0x20 + d), addr 8 0 (0x30 + d), addr 8 0 (0x40 + d)]
          (decide (thmShutdown s d * thmThrSlope s d < thmThrStart s d * thmThrSlope s d + 1000)) ])
  else
    [ joinRule [b + 1, b + 2] (decide (devBrkOn s d ≤ devBrkOff s d))
    , rangeRule (b + 3) [] (decide (31 < devBrkSrc s d)) ]

/-- All conditions between parameters. -/
def State.crossRules (s : State) : List CrossRule :=
  allQuays.flatMap s.quayRules ++ s.masterRules ++ (List.finRange 16).flatMap s.cellRules ++ (List.finRange 16).flatMap s.sdRules
    ++ allLegs.flatMap s.legRules ++ (List.finRange 4).flatMap s.brkRules

/-- A quay number of an index. -/
def quayOfNat (n : Nat) : Option QuayNo := if h : n < 12 then some ⟨n, h⟩ else none
/-- A cell number of an index. -/
def cellOfNat (n : Nat) : Option CellNo := if h : n < 16 then some ⟨n, h⟩ else none
/-- A chopper output of an index. -/
def brkOfNat (n : Nat) : Option (Fin 4) := if h : n < 4 then some ⟨n, h⟩ else none

/-- The conditions among which a range of a parameter stands. -/
def State.rulesAt (s : State) (a : Nat) : List CrossRule :=
  let inst := a / 0x1000 % 256
  match a / 0x100000 with
  | 0 => if a % 0x1000 / 0x100 = 4 then ((brkOfNat (a % 0x100 / 16)).map s.brkRules).getD [] else []
  | 2 => ((quayOfNat inst).map s.quayRules).getD []
  | 3 => ((legOfNat inst).map s.legRules).getD []
  | 4 => ((cellOfNat inst).map s.cellRules).getD []
  | _ => []

/-- A value of a parameter lies in the range that holds for it in a configuration, of which the value itself may not be part (R1070). -/
def State.fits (t : State) (a : Nat) (v : Word) : Bool :=
  t.stored a == v || !((t.setParam a v).rulesAt a).any (fun r => r.broken && r.range == some a)

/-! ### Run locks (R310, R311, R449) -/

/-- The quays a list of candidates names, or every quay with a kernel where there is none (R311). -/
def State.orAll (s : State) (qs : List QuayNo) : List QuayNo := if qs.isEmpty then s.kernelQuays else qs

/-- The owning quays of a parameter (R311, R449). -/
def State.lockQuays (s : State) (a : Nat) : List QuayNo :=
  let inst := a / 0x1000 % 256
  let idx := a % 0x1000
  match a / 0x100000 with
  | 2 | 12 => (quayOfAddr a).toList
  | 3 => s.orAll ((legOfNat inst).bind s.legQuay).toList
  | 4 => s.orAll ((cellOfNat inst).bind s.cellQuay).toList
  | 5 => s.orAll ((laneOfNat inst).toList.flatMap s.laneQuays)
  | 0 =>
    if 0x200 ≤ idx ∧ idx < 0x300 then
      s.orAll (match s.ownerOf 3 ((idx - 0x200) / 16) with
        | .quay q => [q]
        | _ => [])
    else if 0x300 ≤ idx ∧ idx < 0x304 then
      s.orAll (allQuays.filter (fun q => (List.range 16).any (fun n => s.ownerOf 3 n == .quay q && devSdClock s n == idx - 0x300)))
    else s.kernelQuays
  | _ => s.kernelQuays

/-- Every owning quay is in OFF or ARMED (R310). -/
def State.unlocked (s : State) (a : Nat) : Bool :=
  (s.lockQuays a).all (fun q => s.quay[q].core.st == .off || s.quay[q].core.st == .armed)

/-! ### Pool claims (R71, R181) -/

/-- What a function needs of the pool: its claimant, a resource class, and the index where only one will do. -/
structure Demand where
  who   : Claimant
  cls   : Nat
  fixed : Option Nat

/-- Function code of a multi-function ball in use (R182). -/
def ballCode : Claimant → Nat → Nat
  | .compare _, _ => 2
  | .emulation _, i => if i % 3 = 2 then 1 else 2
  | .ssi _, _ => 1
  | _, _ => 0

/-- The claims that the parameters ask for (R94 to R97, R181, R182, R210, R330, R396, R406, R417, R450). -/
def State.demands (s : State) : List Demand :=
  (List.finRange 32).flatMap (fun c =>
    if devCapSrc s c.val = 255 then [] else [⟨.capture c, 0x12, some c.val⟩, ⟨.capture c, 0x14, some (devCapSrc s c.val)⟩])
  ++ [Side.a, Side.b].flatMap (fun p => if hostIrqGpio s p = 255 then [] else [⟨.hostIrq p, 0x14, some (hostIrqGpio s p)⟩])
  ++ (List.finRange 4).flatMap (fun m => if devSdcDiv s m.val = 0 then [] else [⟨.sdClock m, 0x10, none⟩])
  ++ (List.finRange 16).flatMap (fun k =>
    (if fbCmpEnable s k = 0 then [] else
      ⟨.compare k, 0x11, some k.val⟩ :: (if fbCmpOutput s k = 1 then [⟨.compare k, 0x15, some (3 * k.val + 2)⟩] else []))
    ++ (if fbEmuSource s k = 0 then [] else
      [⟨.emulation k, 0x15, some (3 * k.val)⟩, ⟨.emulation k, 0x15, some (3 * k.val + 1)⟩, ⟨.emulation k, 0x10, none⟩]
        ++ (if fbEmuZ s k = 1 then [⟨.emulation k, 0x15, some (3 * k.val + 2)⟩] else []))
    ++ (if fbMode s k = 3 then [⟨.ssi k, 0x15, some (3 * k.val)⟩, ⟨.ssi k, 0x15, some (3 * k.val + 1)⟩] else []))
  ++ allQuays.flatMap (fun q => if quayProbeMode s q = 0 then [] else [⟨.probe q, 0x12, none⟩])

/-- The owner for whom a claimant acts. -/
def State.claimantOwner (s : State) : Claimant → Owner
  | .probe q => .quay q
  | .compare k | .emulation k | .ssi k => s.ownerOf 2 k.val
  | _ => .device

/-- Number of resources of a poolable class (R179). -/
def poolSize : Nat → Nat
  | 0x10 => 256
  | 0x11 => 16
  | 0x12 => 32
  | 0x13 => 16
  | 0x14 => 32
  | 0x15 => 48
  | _ => 0

/-- The argument of the entry of a resource. -/
def State.argOf (s : State) (cls index : Nat) : Nat :=
  match s.prot.owners.find? (fun e => e.cls == cls && e.index == index) with
  | some e => e.arg
  | none => 0

/-- A claimant may take a resource beside the claims already made: it is pool and unclaimed, or its own owner's (R71, R72, R180); a
ball that the table gives a function serves no other (R182). DESIGN CHOICE, log entry 44: TRACE_CONFIG acts for the device, so that a trace
region or an event slot whose entry names the device serves it too (R322). -/
def State.claimable (s : State) (acc : List PoolClaim) (who : Claimant) (cls i : Nat) : Bool :=
  (s.ownerOf cls i == .pool || s.ownerOf cls i == s.claimantOwner who && s.ownerOf cls i != .unassigned)
    && !acc.any (fun c => c.cls == cls && c.index == i)
    && (cls != 0x15 || s.argOf cls i == 0 || s.argOf cls i == ballCode who i)

/-- The resource that a claimant holds of a class. -/
def holding (claims : List PoolClaim) (who : Claimant) (cls : Nat) : Option Nat :=
  (claims.find? (fun c => c.by_ == who && c.cls == cls)).map (·.index)

/-- Meet one demand: the fixed resource; else the one held; else the lowest free of the pool. -/
def State.meet (s : State) (held : List PoolClaim) (acc : List PoolClaim) (d : Demand) : Option (List PoolClaim) :=
  let free (i : Nat) := s.claimable acc d.who d.cls i
  let pick : Option Nat := match d.fixed with
    | some i => if free i then some i else none
    | none =>
      match (holding held d.who d.cls).filter free with
      | some i => some i
      | none => (List.range (poolSize d.cls)).find? (fun i => s.ownerOf d.cls i == .pool && free i)
  pick.map (fun i => acc ++ [⟨d.cls, i, d.who⟩])

/-- Meet demands in order. -/
def State.meetAll (s : State) (held : List PoolClaim) (acc : Option (List PoolClaim)) (ds : List Demand) : Option (List PoolClaim) :=
  ds.foldl (fun r d => r.bind (fun a => s.meet held a d)) acc

/-- Order in which demands are met: claims already held, then single resources, then those any of the pool meets. -/
def demandRank (held : List PoolClaim) (d : Demand) : Nat :=
  match d.fixed with
  | some i => if held.any (fun c => c.by_ == d.who && c.cls == d.cls && c.index == i) then 0 else 1
  | none => if (holding held d.who d.cls).isSome then 0 else 2

/-- A claim of a trace region or of its event slot, or of a host-defined timed event (R102): a commit leaves it as it is. -/
def PoolClaim.lasts (c : PoolClaim) : Bool :=
  match c.by_ with
  | .trace _ | .timed _ => true
  | _ => false

/-- The cell whose ball FBk_Z a quay's probe claims (R406). -/
def State.probeBall (s : State) (q : QuayNo) : Option CellNo :=
  if quayProbeMode s q != 0 && quayProbeSource s q == 1 then s.primaryCell q else none

/-- A combination that R182 refuses on a cell: SSI mode with emulation (R418), a probe on the Z ball whose index is enabled (R407). A ball
FBk_Z that no primary cell gives, or that the cell needs for Hall input 3, cannot be claimed either (R72, R406). -/
def State.badCombination (s : State) : Bool :=
  (List.finRange 16).any (fun k => fbMode s k == 3 && fbEmuSource s k != 0)
  || allQuays.any (fun q => quayProbeMode s q != 0 && quayProbeSource s q == 1 &&
    (match s.probeBall q with
     | some k => fbIndexEnable s k == 1 || fbMode s k == 2
     | none => true))

/-- The claims of a configuration, `none` where it must be refused with OWNERSHIP (R72, R181, R182). -/
def State.resolveClaims (s : State) : Option (List PoolClaim) :=
  if s.badCombination then none
  else
    let ds := s.demands
    let keep := s.claims.filter (·.lasts)
    let part (n : Nat) := ds.filter (fun d => demandRank s.claims d == n)
    s.meetAll s.claims (s.meetAll s.claims (s.meetAll s.claims (some keep) (part 0)) (part 1)) (part 2)

/-- Addresses whose value decides a claim or a combination of R182. -/
def isClaimAddr (a : Nat) : Bool :=
  let idx := a % 0x1000
  match a / 0x100000 with
  | 0 => decide (0x600 ≤ idx ∧ idx < 0x620) || decide (0x300 ≤ idx ∧ idx < 0x304)
  | 2 => idx == 0x50 || idx == 0x51
  | 4 => [0x00, 0x06, 0x20, 0x26, 0x30, 0x34].contains idx
  | 10 => idx == 0
  | _ => false

/-! ### Engine budget (R119 to R122) -/

/-- The lower quay of the first engine whose shares exceed 0.70. -/
def State.overBudget (s : State) : Option QuayNo :=
  allQuays.find? (fun q => q.val % 2 == 0 &&
    decide ((7 : Rat) / 10 < s.engineShare q + (match quayOfNat (q.val + 1) with
      | some r => s.engineShare r
      | none => 0)))

/-- Addresses that decide the budget. -/
def isBudgetAddr (a : Nat) : Bool := a / 0x100000 == 2 && (a % 0x1000 == 0x20 || a % 0x1000 == 0x21)

/-! ### What an applied configuration starts -/

/-- The event slots in use of the pool after the claims of a configuration: a sigma-delta clock resynchronises every 2^16 of its periods
(R450); slots of trace regions and of timed events stay. -/
def State.refreshSlots (s : State) : State :=
  let own := s.claims.filterMap (fun c =>
    match c.by_ with
    | .sdClock m => if h : c.index < 256 then some (⟨⟨c.index, h⟩, 1048576 * devSdcDiv s m.val, 0, none⟩ : EventSlot) else none
    | _ => none)
  let keep := s.tb.slots.filter (fun e => s.claims.any (fun c => c.cls == 0x10 && c.index == e.slot.val && c.lasts))
  let merged := own.map (fun e =>
    match s.tb.slots.find? (fun o => o.slot == e.slot && o.period != e.period && o.period != 0) with
    | some o => { o with next := some (e.period, e.phase) }
    | none => e)
  s.modTb (fun t => { t with slots := keep ++ merged })

/-- A parameter differs between two states. -/
def changed (old new : State) (a : Nat) : Bool := old.stored a != new.stored a

/-- What an applied commit starts on a feedback cell: restart (R335), preset (R394), compare unit (R396), emulation (R424). -/
def State.startCell (old s : State) (staged : Nat → Bool) (k : CellNo) : State :=
  let a := cellAddr k
  let s1 := if [0, 1, 2, 0x12].any (fun i => changed old s (a i)) then s.restartCell (fbMode old k) k else s
  let s2 := if staged (a 0x52) || staged (a 0x53) then s1.modCell k (fun c => { c with preset := some (fbPosPreset s k) }) else s1
  let s3 := if staged (a 0x20) && fbCmpEnable s k == 1 then
      s2.modCell k (fun c => { c with cmpNext := fbCmpStart s k, cmpHits := 0, cmpSkips := 0, cmpDone := false })
    else if staged (a 0x24) && fbCmpEnable s k == 1 then
      s2.modCell k (fun c => { c with cmpDone := c.cmpDone || (fbCmpCount s k != 0 && decide (fbCmpCount s k ≤ c.cmpHits.toNat)) })
    else s2
  if changed old s (a 0x30) && fbEmuSource s k != 0 then
    let e := if fbEmuSource s k = 1 then emulated (s3.cell[k].sampled - fbEmuZero s k) (fbEmuLines s k) (s.countsPerRev k)
      else match quayOfNat (fbEmuQuay s k) with
        | some q => emulated ((s.quay[q].kern.reg.thetaM - BitVec.ofNat 32 (fbEmuZero s k)).toNat : Int) (fbEmuLines s k) 4294967296
        | none => 0
    s3.modCell k (fun c => { (c.emuShow e).emuTarget e (fbEmuLines s k) with emuGoal := e, emuBase := e, emuSteps := 0, emuStart := s.now, emuPeriod := 0, emuLag := 0, emuLagF := false })
  else s3

/-- What an applied commit starts on a quay: its slot's new period (R100) and the probe (R406, R414). -/
def State.startQuay (old s : State) (staged : Nat → Bool) (q : QuayNo) : State :=
  let s1 := if [0x20, 0x21, 0x22].any (fun i => changed old s (quayAddr q i)) then
      s.modQuay q (fun x => { x with slotOld := match x.slotOld with
        | some (p, f, none) => some (p, f, none)
        | _ => some (old.loopPeriod q, old.loopPhase q, none) })
    else s
  if changed old s (quayAddr q 0x50) then
    s1.modQuay q (fun x => { x with probe := { x.probe with armed := quayProbeMode s q != 0, captured := false, waiting := [], count := 0 } })
  else if staged (quayAddr q 0x54) && quayProbeMode s q != 0 then
    s1.modQuay q (fun x => { x with probe := { x.probe with armed := true } })
  else s1

/-- What an applied configuration starts, for the addresses it wrote: cells, quays, capture registers claimed anew (R96), and sigma-delta
clocks with a new divider, whose phase is a free value until their slot fires (R450; log entry 3). -/
def State.startConfig (old s : State) (staged : Nat → Bool) : State :=
  let s1 := forAll (List.finRange 16) s (fun t k => State.startCell old t staged k)
  let s2 := forAll allQuays s1 (fun t q => State.startQuay old t staged q)
  let s3 := forAll (List.finRange 32) s2 (fun t c =>
    if changed old s (0x600 + c.val) && devCapSrc s c.val != 255 then
      t.modTb (fun b => { b with cap := vmod b.cap c (fun x => { x with count := 0, level := false }) })
    else t)
  let s4 := forAll (List.finRange 4) s3 (fun t m =>
    if changed old s (0x300 + m.val) then (t.modTb (fun b => { b with sdc := vmod b.sdc m (fun _ => Config.freeInt t.free) })).drawn else t)
  s4.refreshSlots

end Sys2Proof.Machine
end

