-- ==== Sys2Proof/Machine/Image.lean ====
section
/-! DEFINITION. Barfold images (chapter 03): header, directory, sections, the thirteen checks of R165 with cause and detail (R166),
and the configuration an accepted image gives. -/

namespace Sys2Proof.Machine

/-! ### Layout (R152 to R156) -/

/-- A directory entry (R153). -/
structure ImgSection where
  ty    : Nat
  flags : Nat
  off   : Nat
  len   : Nat
  crc   : Nat
  deriving DecidableEq, Repr

/-- LENGTH of an image header. -/
def imgLength (img : List Byte) : Nat := field img 8 4
/-- SECTIONS of an image header. -/
def imgCount (img : List Byte) : Nat := field img 12 2
/-- The bytes from an offset on. -/
def slice (bs : List Byte) (off n : Nat) : List Byte := (bs.drop off).take n
/-- All bytes of a list are zero. -/
def allZero (bs : List Byte) : Bool := bs.all (· == 0)

/-- The directory. -/
def imgDir (img : List Byte) : List ImgSection :=
  (List.range (imgCount img)).map (fun i =>
    let e := slice img (0x40 + 16 * i) 16
    ⟨field e 0 2, field e 2 2, field e 4 4, field e 8 4, field e 12 4⟩)

/-- The bytes of a section. -/
def ImgSection.bytes (img : List Byte) (x : ImgSection) : List Byte := slice img x.off x.len

/-- The bytes of the section of a type; empty where there is none. -/
def imgSec (img : List Byte) (ty : Nat) : List Byte :=
  match (imgDir img).find? (fun x => x.ty == ty) with
  | some x => x.bytes img
  | none => []

/-- Section types of R156; the first nine and the roster are required. -/
def requiredTypes : List Nat := [0x01, 0x02, 0x03, 0x04, 0x05, 0x06, 0x07, 0x08, 0x10, 0x12]
/-- All section types of R156. -/
def knownTypes : List Nat := requiredTypes ++ [0x11, 0x20, 0x30]

/-- A check that failed: cause and detail (R166). -/
abbrev Halt := Nat × Nat

/-- The first of some failures. -/
def firstFail : List (Option Halt) → Option Halt
  | [] => none
  | some h :: _ => some h
  | none :: rest => firstFail rest

/-- Check 2 (R152): magic, format, zero bytes, header CRC. -/
def checkHeader (img : List Byte) : Option Halt :=
  if img.take 4 = [0x57, 0x56, 0x42, 0x49] ∧ field img 4 2 = 1 ∧ img.getD 15 0 = 0 ∧ allZero (slice img 0x18 36)
      ∧ (crc32 (img.take 0x3C)).toNat = field img 0x3C 4 then none
  else some (0x02, 0)

/-- Index of the first directory entry that breaks R154 or R155, given the end of what stands before. -/
def badEntry (length : Nat) : Nat → Nat → List ImgSection → Option Nat
  | _, _, [] => none
  | i, prev, x :: rest =>
    if x.off % 64 ≠ 0 ∨ x.off < prev ∨ length < x.off + x.len + 128 ∨ 2 ≤ x.flags then some i
    else badEntry length (i + 1) (x.off + x.len) rest

/-- Check 3 (R152 to R155): LENGTH, SECTIONS and the directory. -/
def checkLayout (img : List Byte) : Option Halt :=
  let n := imgCount img
  let len := imgLength img
  if n = 0 ∨ 64 < n ∨ 0x200000 < len ∨ len < 0x40 + 16 * n + 128 then some (0x03, 0xFFFF)
  else (badEntry len 0 (0x40 + 16 * n) (imgDir img)).map (fun i => (0x03, i))

/-- Check 4 (R153): the CRC-32 of every section. -/
def checkCrc (img : List Byte) : Option Halt :=
  ((imgDir img).findIdx? (fun x => (crc32 (x.bytes img)).toNat != x.crc)).map (fun i => (0x04, i))

/-- The number of big-endian bytes. -/
def beNat (bs : List Byte) : Nat := bs.foldl (fun n b => 256 * n + b.toNat) 0

/-- Check 5 (R163): KEY_SLOT fused, not revoked, and the hash of the key equal. -/
def checkKey (f : Fuses) (img : List Byte) : Option Halt :=
  let k := field img 14 1
  let ok := if h : k < 4 then f.key[k] == some (sha256 (slice img (imgLength img - 64) 64)) && !f.revoked[k] else false
  if ok then none else some (0x05, k)

/-- The image digest (R162). -/
def imgDigest (img : List Byte) : BitVec 256 := sha256 (img.take (imgLength img - 128))

/-- Check 6 (R161, R162): the signature. -/
def checkSignature (img : List Byte) : Option Halt :=
  let b (i : Nat) := beNat (slice img (imgLength img - 128 + 32 * i) 32)
  if ecdsaVerify (imgDigest img).toNat (b 0) (b 1) (b 2, b 3) then none else some (0x06, 0)

/-- Check 7 (R156, R157): required sections, repeated ones, unknown critical ones. Where several stand at once HALT_DETAIL names the first in
this order and, of one kind, in the order of the list: DESIGN CHOICE, log entry 43. -/
def checkSections (img : List Byte) : Option Halt :=
  let tys := (imgDir img).map (·.ty)
  firstFail
    [ (requiredTypes.find? (fun t => !tys.contains t)).map (fun t => (0x07, 0x8000 + t))
    , (knownTypes.find? (fun t => decide (1 < tys.count t))).map (fun t => (0x07, 0x8000 + t))
    , ((imgDir img).findIdx? (fun x => !knownTypes.contains x.ty && x.flags % 2 == 1)).map (fun i => (0x07, i)) ]

/-- Check 8 (R152): the behaviour level. -/
def checkLevel (img : List Byte) : Option Halt := if field img 6 1 = 1 then none else some (0x08, field img 6 1)

/-! ### Ownership (R177 to R182) -/

/-- A raw ownership entry (R177). -/
structure RawEntry where
  cls   : Nat
  kind  : Nat
  owner : Nat
  arg   : Nat
  index : Nat
  whole : Bool
  deriving DecidableEq, Repr

/-- The raw entries of the ownership section. -/
def rawEntries (img : List Byte) : List RawEntry :=
  let sec := imgSec img 0x03
  (List.range ((sec.length + 7) / 8)).map (fun i =>
    let e := slice sec (8 * i) 8
    ⟨field e 0 1, field e 1 1, field e 2 1, field e 3 1, field e 4 2, e.length == 8 && field e 6 2 == 0⟩)

/-- The owner an entry names. -/
def RawEntry.ownerOf (e : RawEntry) : Owner :=
  match e.kind with
  | 1 => match quayOfNat e.owner with
    | some q => .quay q
    | none => .unassigned
  | 2 => .device
  | 3 => .pool
  | _ => .unassigned

/-- The ownership table of an image. -/
def imgOwners (img : List Byte) : List Ownership := (rawEntries img).map (fun e => ⟨e.cls, e.index, e.ownerOf, e.arg⟩)

/-- Number of resources of a class (R179). -/
def classSize (c : Nat) : Nat :=
  match c with
  | 1 => 80
  | 2 | 3 => 16
  | 4 => 96
  | 5 => 4
  | 6 => 36
  | _ => poolSize c

/-- The lanes with a roster entry. -/
def rosterLanes (img : List Byte) : List Nat :=
  let sec := imgSec img 0x12
  (List.range (sec.length / 32)).map (fun i => field (slice sec (32 * i) 32) 0 1)

/-- An entry names an owner: a quay or the device. -/
def RawEntry.owns (e : RawEntry) : Bool := e.kind == 1 || e.kind == 2

/-- Breach of one entry alone (R68, R69, R177 to R179, R851). DESIGN CHOICE, log entry 44: a local leg that an entry gives to the device is a
breach; R68 names the device as owner of remote chopper legs only, and no rule says what a local leg of the device would be. -/
def RawEntry.malformed (lanes : List Nat) (e : RawEntry) : Bool :=
  !e.whole || decide (classSize e.cls ≤ e.index) || decide (3 < e.kind)
    || (if e.kind = 1 then decide (12 ≤ e.owner) else e.owner != 0)
    || (e.kind == 3 && decide (e.cls < 0x10))
    || (if e.cls = 4 then decide (e.arg < 32) || decide (79 < e.arg) else if e.cls = 0x15 then decide (2 < e.arg) else e.arg != 0)
    || (e.cls == 4 && e.owns && !lanes.contains (e.index / 6))
    || (e.cls == 1 && e.kind == 2 && decide (e.index < 32))
    || (e.cls == 6 && !(e.kind == 0 || (e.kind == 1 && e.owner == e.index / 3)))

/-- Breach of an entry against the others (R66, R72, R73): a resource or the leg of a slot named by an earlier entry, a slot whose leg has
another owner, a third cell of a quay. DEDUCED, log entry 34. -/
def RawEntry.clashes (before all : List RawEntry) (e : RawEntry) : Bool :=
  before.any (fun x => x.cls == e.cls && x.index == e.index)
    || (e.cls == 4 && before.any (fun x => x.cls == 4 && x.arg == e.arg))
    || (e.cls == 2 && e.kind == 1 && decide (2 ≤ (before.filter (fun x => x.cls == 2 && x.kind == 1 && x.owner == e.owner)).length))
    || (e.cls == 4 && e.owns && !all.any (fun x => x.cls == 1 && x.index == e.arg && x.kind == e.kind && x.owner == e.owner))

/-- An entry gives a ball the SSI function of its cell (R182). -/
def RawEntry.ssiBall (e : RawEntry) : Bool := e.cls == 0x15 && e.index % 3 != 2 && e.arg == 1
/-- An entry gives a ball an emulation output of its cell (R182). -/
def RawEntry.emuBall (e : RawEntry) : Bool := e.cls == 0x15 && e.arg == (if e.index % 3 = 2 then 1 else 2)

/-- An entry takes part in a combination refused on one cell (R182): SSI mode with an emulation output. -/
def ballClash (all : List RawEntry) (e : RawEntry) : Bool :=
  all.any (fun x => x.index / 3 == e.index / 3 && ((e.ssiBall && x.emuBall) || (e.emuBall && x.ssiBall)))

/-- Index of the first entry that breaks R66, R72, R73, R177, R179, R182 or R851 (R166). -/
def badOwner (lanes : List Nat) (all : List RawEntry) : Option Nat :=
  (List.range all.length).find? (fun i =>
    match all[i]? with
    | some e => e.malformed lanes || e.clashes (all.take i) all || ballClash all e
    | none => false)

/-- Check 9 (R4, R152): PART, and the dies' resources on a WV-2480-C0. DESIGN CHOICE, log entry 44: a PART that does not match is reported before
any owner, and of several owners the first in the table (R166). -/
def checkPart (f : Fuses) (img : List Byte) : Option Halt :=
  let part := field img 7 1
  if 2 < part ∨ (part = 1 ∧ f.pkgC0 = true) ∨ (part = 2 ∧ f.pkgC0 = false) then some (0x09, 0xFFFF)
  else if f.pkgC0 then
    ((rawEntries img).find? (fun e => e.owns && ((e.cls == 1 && decide (e.index < 32)) || (e.cls == 5 && decide (e.index < 2))))).map
      (fun e => (0x09, if e.kind = 1 then e.owner else 0xFF))
  else none

/-! ### The configuration of an image -/

/-- The records of the parameter section: address word and value (R158). -/
def imgRecords (img : List Byte) : List (Nat × Word) :=
  let sec := imgSec img 0x10
  (List.range (sec.length / 8)).map (fun i =>
    let e := slice sec (8 * i) 8
    (field e 0 4, BitVec.ofNat 32 (field e 4 4)))

/-- A field of a protection section: offset, size, the parameter it sets, and whether a WV-2480-C0 leaves it unused. -/
structure SecField where
  off  : Nat
  size : Nat
  addr : Nat
  die  : Bool

/-- Fields of the ASC-policies section (R173). -/
def ascFields : List SecField :=
  allQuays.flatMap (fun q => [⟨16 * q.val, 1, quayAddr q 0x1B1, false⟩, ⟨16 * q.val + 1, 1, addr 7 0 (0x20 + q.val), false⟩])

/-- Fields of a local leg in the trip-levels section (R174). -/
def legFields (n : Nat) : List SecField :=
  [(0, 2, 2), (2, 2, 3), (4, 4, 4), (8, 1, 5), (10, 2, 9), (12, 4, 6), (16, 4, 7), (20, 4, 8), (24, 2, 0xB)].map
    (fun e => ⟨0x80 + 28 * n + e.1, e.2.1, addr 3 n e.2.2, true⟩)

/-- Fields of a chopper in the trip-levels section (R174). -/
def brkFields (m : Nat) : List SecField :=
  [(0, 1, 0), (1, 1, 3), (4, 4, 1), (8, 4, 2)].map
    (fun e => ⟨0x20 + 16 * m + e.1, e.2.1, addr 0 0 (0x400 + 16 * m + e.2.2), decide (m < 2)⟩)

/-- Fields of the trip-levels section (R174). -/
def tripFields : List SecField :=
  [⟨0x00, 4, addr 0 0 0x450, true⟩, ⟨0x04, 4, addr 0 0 0x451, true⟩, ⟨0x08, 4, addr 0 0 0x460, true⟩, ⟨0x0C, 4, addr 0 0 0x461, true⟩,
   ⟨0x10, 2, addr 8 0 0x20, true⟩, ⟨0x12, 2, addr 8 0 0x21, true⟩, ⟨0x14, 1, addr 8 0 0x30, true⟩, ⟨0x15, 1, addr 8 0 0x31, true⟩,
   ⟨0x16, 2, addr 8 0 0x40, true⟩, ⟨0x18, 2, addr 8 0 0x41, true⟩]
  ++ (List.range 4).flatMap brkFields ++ (List.range 32).flatMap legFields

/-- The word a field sets, in the form of R1069. -/
def SecField.word (sec : List Byte) (x : SecField) : Word :=
  let v := field sec x.off x.size
  match findRow x.addr with
  | some (r, _, _) =>
    if (r.ty == .s16 || r.ty == .q14) && decide (32768 ≤ v) then BitVec.ofInt 32 ((v : Int) - 65536) else BitVec.ofNat 32 v
  | none => BitVec.ofNat 32 v

/-- The fields in use on a device. -/
def usedFields (f : Fuses) (xs : List SecField) : List SecField := xs.filter (fun x => !(f.pkgC0 && x.die))

/-- The parameters that the ASC-policies section of an image sets (R173). -/
def ascWrites (img : List Byte) : List (Nat × Word) := ascFields.map (fun x => (x.addr, x.word (imgSec img 0x04)))
/-- The parameters that the trip-levels section of an image sets (R174). -/
def tripWrites (f : Fuses) (img : List Byte) : List (Nat × Word) :=
  (usedFields f tripFields).map (fun x => (x.addr, x.word (imgSec img 0x05)))
/-- The parameters that the protection sections of an image set. -/
def sectionWrites (f : Fuses) (img : List Byte) : List (Nat × Word) := ascWrites img ++ tripWrites f img

/-- The values of the table section that fit a table parameter; log entry 32. -/
def tableWrites (img : List Byte) : List (Nat × Word) :=
  if (imgDir img).any (fun x => x.ty == 0x11) then
    (Config.imageTables (imgSec img 0x11)).filter (fun e =>
      e.1 / 0x100000 == 12 && (match findRow e.1 with
        | some (r, _, _) => r.inRange e.2
        | none => false))
  else []

/-- All parameter writes of an image in the order in which the later wins: of two records of one parameter the later, and a record over a
value of the table section. DESIGN CHOICE, log entry 43. -/
def imgWrites (f : Fuses) (img : List Byte) : List (Nat × Word) := tableWrites img ++ sectionWrites f img ++ imgRecords img

/-- The entry of a source in the reaction and counting sections (R918, R919). -/
def imgSource (img : List Byte) (src : Nat) : SourceEntry :=
  let r := slice (imgSec img 0x01) (4 * src) 4
  let c := slice (imgSec img 0x02) (8 * src) 8
  { src := src, base := field c 0 1, severe := field c 1 1, n := field c 2 1, t := field c 4 4
    rBase := field r 0 1, rSevere := field r 1 1, latchBase := field r 2 1 % 2 == 1, latchSevere := field r 2 1 / 2 % 2 == 1
    conseq := r.getD 3 0 }

/-- The roster (R848). -/
def imgRoster (img : List Byte) : List RosterEntry :=
  let sec := imgSec img 0x12
  (List.range (sec.length / 32)).map (fun i =>
    let e := slice sec (32 * i) 32
    ⟨field e 0 1, field e 1 1, field e 2 2, field e 4 2, BitVec.ofNat 32 (field e 8 4), BitVec.ofNat 64 (field e 16 8)⟩)

/-- The protection set of an image beside its parameters (R169, R867, R918, R947). -/
def imgProt (img : List Byte) : Prot :=
  let hm := imgSec img 0x06
  let hw := imgSec img 0x07
  { sources := (trafficSources ++ pathSources).map (imgSource img)
    owners := imgOwners img, roster := imgRoster img
    hmPolicy := field hm 0 1, hmForce := field hm 1 1 == 1, hmPrefWait := field hm 2 2
    hwAddress := BitVec.ofNat 32 (field hw 0 4), hwTimePrio := hw.getD 4 0 }

/-- The state with the configuration of an image in place of its own. -/
def State.withImage (s : State) (img : List Byte) : State :=
  { s with prot := imgProt img, claims := [],
           params := (imgWrites s.fuse img).foldl (fun m e => assocSet m e.1 e.2) [] }

/-! ### Assembly (R63 to R68, R1073) -/

/-- All legs of a list lie on one die. -/
def oneDie (ls : List LegNo) : Bool := ls.all (fun l => decide (l.val < 16)) || ls.all (fun l => decide (16 ≤ l.val ∧ l.val < 32))

/-- The three legs of each winding set lie on one lane (R65). -/
def State.setsWhole (s : State) (q : QuayNo) : Bool :=
  (List.range (s.setsOf q)).all (fun j =>
    match (s.setLegs q j).map s.laneOf with
    | some n :: rest => rest.all (· == some n)
    | _ => false)

/-- The phase legs of a quay match the row of R65 for its machine. -/
def State.rowOk (s : State) (q : QuayNo) : Bool :=
  let ls := s.phaseLegs q
  let n := ls.length
  let heavy := ls.all (fun l => !isLocal l) && (n == 3 || n == 6 || n == 9 || n == 12) && s.setsWhole q
  match s.machine q with
  | 1 => (n == 3 && oneDie ls) || heavy
  | 2 => heavy
  | 3 | 4 => n == 3 && oneDie ls
  | 5 => n == 2 && oneDie ls
  | 6 => n == 4 && oneDie ls
  | 7 => n == 0 && (s.owned q 0x14).length == 2
  | _ => false

/-- A quay's assembly (R64 to R66, R1073). -/
def State.assemblyOk (s : State) (q : QuayNo) : Bool :=
  if s.machine q = 0 then !s.prot.owners.any (fun e => e.owner == .quay q)
  else s.rowOk q && ((s.legsOf q).all isLocal || (s.legsOf q).all (fun l => !isLocal l))
    && decide ((s.cellsOf q).length ≤ 2) && (s.owned q 0x10).length == 1

/-- Check 10 (R73, R177 to R182, R851, R1073): the table, then the quays, then the pool claims of the parameters (log entry 34). -/
def checkOwnership (s : State) (img : List Byte) : Option Halt :=
  let c := s.withImage img
  firstFail
    [ (badOwner (rosterLanes img) (rawEntries img)).map (fun i => (0x0A, i))
    , (allQuays.find? (fun q => !c.assemblyOk q)).map (fun q => (0x0A, 0xFF00 + q.val))
    , if c.resolveClaims.isNone then some (0x0A, 0xFFFF) else none ]

/-- Check 11 (R120, R122). -/
def checkBudget (s : State) (img : List Byte) : Option Halt := ((s.withImage img).overBudget).map (fun q => (0x0B, q.val))

/-! ### Check 12 (R158, R173 to R176, R867, R918 to R921, R947, R1072) -/

/-- One item of check 12: its detail, the parameters it sets with their values, and whether it fails by itself. -/
structure Item where
  detail : Nat
  sets   : List (Nat × Word)
  bad    : Bool

/-- The items of the parameter section. What is left of a section whose length is no multiple of 8 is an item that fails after the last whole
record: DESIGN CHOICE, log entry 43. -/
def recordItems (img : List Byte) : List Item :=
  let rs := imgRecords img
  let full := (List.range rs.length).map (fun i =>
    let e := rs.getD i (0, 0)
    let bad := decide (0x1000000 ≤ e.1) || (match findRow e.1 with
      | some (r, _, _) => r.readOnly || !r.inRange e.2
      | none => true)
    (⟨min i 0x7FFF, [e], bad⟩ : Item))
  if (imgSec img 0x10).length % 8 = 0 then full else full ++ [⟨min rs.length 0x7FFF, [], true⟩]

/-- Sources that no consequence set may hold (R920). -/
def noConsequence : List Nat :=
  [srcShortCircuit, srcGuShort, srcGateWatch, srcAscOvercurrent, srcWsbOvercurrent, srcVmOv, srcChopperFault]

/-- The entry of a source in the reaction section fails by itself (R920, R921). -/
def badReaction (sec : List Byte) (src : Nat) : Bool :=
  let r := slice sec (4 * src) 4
  if isAssigned src then
    decide (9 < field r 0 1) || decide (9 < field r 1 1) || decide (4 ≤ field r 2 1) || (noConsequence.contains src && field r 3 1 != 0)
  else !allZero r

/-- The entry of a source in the counting section fails by itself (R920, R921). -/
def badCounting (sec : List Byte) (src : Nat) : Bool :=
  let c := slice sec (8 * src) 8
  if isAssigned src then
    decide (4 < field c 0 1) || decide (4 < field c 1 1) || decide (field c 1 1 < field c 0 1) || field c 2 1 == 0 || field c 3 1 != 0
      || field c 4 4 == 0 || decide (60000000 < field c 4 4)
  else !allZero c

/-- Reaction none at axis level or above (R920): a condition between the two entries of a source. -/
def reactionNone (img : List Byte) (src : Nat) : Bool :=
  let e := imgSource img src
  isAssigned src && ((e.rBase == 0 && decide (2 ≤ e.base)) || (e.rSevere == 0 && decide (2 ≤ e.severe)))

/-- The items of the reaction or counting section; `later` says that the other of the two stands before it. -/
def sourceItems (img : List Byte) (dir : Nat) (counting later : Bool) : List Item :=
  let sec := imgSec img (if counting then 0x02 else 0x01)
  if sec.length ≠ (if counting then 24576 else 12288) then [⟨0xC000 + dir, [], true⟩]
  else (List.range 3072).map (fun src =>
    ⟨0x8000 + src, [], (if counting then badCounting sec src else badReaction sec src) || (later && reactionNone img src)⟩)

/-- A field lies outside the range of the parameter it sets. -/
def fieldBad (sec : List Byte) (x : SecField) : Bool :=
  match findRow x.addr with
  | some (r, _, _) => !r.inRange (x.word sec)
  | none => true

/-- Bytes of the trip-levels section marked zero in a device of either code (R174, R176). -/
def tripZeros (f : Fuses) : List (Nat × Nat) :=
  [(0x1A, 6), (0x60, 32), (0x42, 2), (0x4C, 4), (0x52, 2), (0x5C, 4)]
  ++ (if f.pkgC0 then [] else [(0x22, 2), (0x2C, 4), (0x32, 2), (0x3C, 4)]
    ++ (List.range 32).flatMap (fun n => [(0x80 + 28 * n + 9, 1), (0x80 + 28 * n + 26, 2)]))

/-- A roster entry fails (R848). -/
def badRoster (lanes : List Nat) (e : List Byte) : Bool :=
  decide (15 < field e 0 1) || !allZero (slice e 6 2) || !allZero (slice e 12 4) || !allZero (slice e 24 8)
    || decide (1 < lanes.count (field e 0 1))

/-- A section other than those of records and sources fails by itself. -/
def badSection (f : Fuses) (img : List Byte) (ty : Nat) : Bool :=
  let sec := imgSec img ty
  match ty with
  | 0x04 => sec.length != 192 || ascFields.any (fieldBad sec)
      || (List.range 12).any (fun q => !allZero (slice sec (16 * q + 2) 14))
  | 0x05 => sec.length != 1024 || (usedFields f tripFields).any (fieldBad sec)
      || (tripZeros f).any (fun e => !allZero (slice sec e.1 e.2))
  | 0x06 => sec.length != 16 || decide (3 < field sec 0 1) || decide (1 < field sec 1 1) || decide (50 < field sec 2 2)
      || !allZero (sec.drop 4)
  | 0x07 => sec.length != 16 || field sec 0 4 % 512 != 0 || field sec 0 4 / 262144 % 64 != 0 || !allZero (sec.drop 5)
  | 0x08 => sec.length != 16 || decide (3 < field sec 0 1) || !allZero (sec.drop 1)
  | 0x12 => sec.length % 32 != 0 || (List.range (sec.length / 32)).any (fun i => badRoster (rosterLanes img) (slice sec (32 * i) 32))
  | 0x20 => decide (sec.length < 4) || decide (262144 < sec.length)
  | _ => false

/-- The items of one section of the directory. -/
def sectionItems (f : Fuses) (img : List Byte) (i ty : Nat) : List Item :=
  let before (t : Nat) := ((imgDir img).take i).any (fun x => x.ty == t)
  match ty with
  | 0x10 => recordItems img
  | 0x01 => sourceItems img i false (before 0x02)
  | 0x02 => sourceItems img i true (before 0x01)
  | 0x04 => [⟨0xC000 + i, ascWrites img, badSection f img ty⟩]
  | 0x05 => [⟨0xC000 + i, tripWrites f img, badSection f img ty⟩]
  | 0x11 => [⟨0xC000 + i, tableWrites img, badSection f img ty⟩]
  | _ => [⟨0xC000 + i, [], badSection f img ty⟩]

/-- All items in the order of R1072. -/
def imgItems (f : Fuses) (img : List Byte) : List Item :=
  (List.range (imgDir img).length).flatMap (fun i => sectionItems f img i ((imgDir img).getD i ⟨0, 0, 0, 0, 0⟩).ty)

/-- The place of the item that gives a parameter its value: the first that sets it to the value and after which no item sets it to
another. -/
def setterOf (items : List Item) (a : Nat) (v : Word) : Option Nat :=
  (List.range items.length).find? (fun i =>
    match items.drop i with
    | x :: rest => x.sets.contains (a, v) && rest.all (fun y => y.sets.all (fun e => e.1 != a || e.2 == v))
    | [] => false)

/-- The place at which a broken condition fails: that of the later of the items it joins (R1072). -/
def breakPlace (items : List Item) (c : State) (r : CrossRule) : Option Nat :=
  (r.addrs.filterMap (fun a => setterOf items a (c.stored a))).max?

/-- A record and a protection section set one parameter to different values (R176): one of the two items before an item conflicts with it. -/
def conflicts (before : List Item) (x : Item) : Bool :=
  x.sets.any (fun e => e.1 / 0x100000 != 12 && before.any (fun y =>
    (decide (0xC000 ≤ y.detail) != decide (0xC000 ≤ x.detail)) && y.sets.any (fun d => d.1 == e.1 && d.2 != e.2)))

/-- Check 12: the first failing item (R1072). -/
def checkParams (s : State) (img : List Byte) : Option Halt :=
  let items := imgItems s.fuse img
  let c := s.withImage img
  let late := (c.crossRules.filter (·.broken)).filterMap (breakPlace items c)
    ++ (List.range items.length).filter (fun i => ((items[i]?).map (conflicts (items.take i))).getD false)
  ((List.range items.length).find? (fun i => ((items[i]?).map (·.bad)).getD false || late.contains i)).map
    (fun i => (0x0C, ((items[i]?).map (·.detail)).getD 0))

/-- Check 13 (R160): the mask-ROM revision of the patch. -/
def checkPatch (f : Fuses) (img : List Byte) : Option Halt :=
  if (imgDir img).any (fun x => x.ty == 0x20) then
    let r := field (imgSec img 0x20) 0 4
    if r = f.romRev.toNat then none else some (0x0D, r % 65536)
  else none

/-- The checks of R165 on an image that was read; `none` where it passes. -/
def State.checkImage (s : State) (img : List Byte) : Option Halt :=
  firstFail
    [ checkHeader img, checkLayout img, checkCrc img, checkKey s.fuse img, checkSignature img, checkSections img, checkLevel img
    , checkPart s.fuse img, checkOwnership s img, checkBudget s img, checkParams s img, checkPatch s.fuse img ]

/-! ### Where an image comes from (R129 to R132, R150) -/

/-- Start of a flash slot (R130). -/
def slotBase (slot : Bool) : Nat := if slot then 0x1000000 else 0

/-- The bytes of a flash slot, as many as its header claims and at most 2 MB. -/
def State.slotImage (s : State) (slot : Bool) : List Byte :=
  let head := readCells erased s.flash (slotBase slot) 64
  readCells erased s.flash (slotBase slot) (max 64 (min (imgLength head) 0x200000))

/-- The verdict on a flash slot (R132, R165). -/
def State.checkSlot (s : State) (slot answers : Bool) : Option Halt :=
  if answers then s.checkImage (s.slotImage slot) else some (0x01, if slot then 1 else 0)

/-- The downloaded image. -/
def State.dlImage (s : State) : List Byte := readCells 0 s.dl.image 0 s.dl.next

end Sys2Proof.Machine
end

