-- ==== Sys2Proof/Machine/Boot.lean ====
section
/-! DEFINITION. Reset and start-up (R129 to R151, R941 to R950, R1010, R1012): the events from power good to READY, download and
fuse commands. The steps of R137 that no event separates follow each other at once; log entry 35. -/

namespace Sys2Proof.Machine

/-! ### Reset (R88, R142, R145, R168, R171, R1010, R1012) -/

/-- The device in reset: every register at its reset value; fuses, flash, RESET_CAUSE, pin levels and the queue stay. -/
def State.deviceReset (s : State) : State :=
  { fuse := s.fuse, flash := s.flash, pins := s.pins, free := s.free, pending := s.pending
    supply := { cause := s.supply.cause }
    boot := { powerGood := s.boot.powerGood, rstN := s.boot.rstN, bootsel := s.boot.bootsel, mpref := s.boot.mpref }
    hm := { force := s.hm.force }
    cell := s.cell.map (fun c => { a := c.a, b := c.b, hall := c.hall })
    quay := s.quay.map (fun q => { limP := q.limP, limN := q.limN }) }

/-- The device leaves reset: the boot sequence starts at step 1 (R129, R137, R1010). -/
def State.leaveReset (s : State) : State := s.modBoot (fun b => { b with stage := .lockWait, phase := 0 })

/-- POWER_GOOD (R129, R946, R1010): with RST_N high already, this moment counts as its rising edge, at which BOOTSEL1:0 and MPREF are
sampled anew; the event does not tell their levels, which are free values (log entry 10). -/
def execPowerGood (s : State) : Host.Outcome State Fault Refusal :=
  if s.boot.powerGood then .next s
  else
    let s1 := s.modBoot (fun b => { b with powerGood := true })
    .next (if s.boot.rstN then
        (s1.modBoot (fun b => { b with bootsel := (Config.freeWord s.free).setWidth 2, mpref := Config.freeBit s.free })).leaveReset.drawn
      else s1)

/-- BROWN_OUT (R1012, R1014): as an assertion of RST_N; `below` names the rails in the order of R1010. All four together clear RESET_CAUSE. -/
def execBrownOut (below : BitVec 4) (s : State) : Host.Outcome State Fault Refusal :=
  if below = 0 then .next s
  else
    let cause : BitVec 5 := if below = 15 then 0 else s.supply.cause ||| (below.setWidth 5 <<< 1)
    .next (((s.modSupply (fun x => { x with cause := cause })).modBoot (fun b => { b with powerGood := false })).deviceReset)

/-- RST_N_ASSERT (R145, R168, R171, R1014). -/
def execRstNAssert (s : State) : Host.Outcome State Fault Refusal :=
  if s.boot.rstN then
    .next (((s.modSupply (fun x => { x with cause := x.cause ||| 1 })).modBoot (fun b => { b with rstN := false })).deviceReset)
  else .next s

/-- RST_N_RELEASE (R129, R946): BOOTSEL1:0 and MPREF are sampled. -/
def execRstNRelease (bootsel : BitVec 2) (mpref : Bool) (s : State) : Host.Outcome State Fault Refusal :=
  if s.boot.rstN then .next s
  else
    let s1 := s.modBoot (fun b => { b with rstN := true, bootsel := bootsel, mpref := mpref })
    .next (if s.boot.powerGood then s1.leaveReset else s1)

/-! ### BOOT_HALT (R166 to R168) -/

/-- Stop in BOOT_HALT with a cause and detail; JTAG offers policy 1 (R189). -/
def State.bootHalt (s : State) (h : Halt) : State :=
  let s1 := s.modBoot (fun b => { b with
    stage := .halted, phase := 0xF, debugPolicy := 1, haltCause := BitVec.ofNat 8 h.1, haltDetail := BitVec.ofNat 16 h.2 })
  let s2 := (s1.modHm (fun m => { m with grant := none })).modHw (fun w => { w with mode := .alone, ports := ⟨{}, {}⟩ })
  State.syncLegs s { s2 with
    lane := s2.lane.map (fun x => { x with st := .down, rxOk := false, tx := [] })
    brk := s2.brk.map (fun b => { b with on := false })
    half := ⟨{ s2.half.a with run := false }, { s2.half.b with run := false }⟩ }

/-- TB_NO_LOCK (R85, R137). -/
def execTbNoLock (s : State) : Host.Outcome State Fault Refusal :=
  if s.boot.stage = .lockWait then .next (s.bootHalt (0x11, 0)) else .next s

/-- Start the download through a port (R129, R147). -/
def State.startDownload (s : State) (p : Side) : State :=
  (s.modDl (fun d => { d with active := true, wait := true })).modBoot (fun b => { b with src := if p = .a then 2 else 3, half := ⟨.nothing, .nothing⟩ })

/-- TIME_BASE_LOCK (R17, R85, R137): device time starts at zero. -/
def execTimeBaseLock (s : State) : Host.Outcome State Fault Refusal :=
  if s.boot.stage = .lockWait then
    let s1 := (s.modTb (fun t => { t with lock := true, now := 0 })).modBoot (fun b => { b with stage := .imageRead, phase := 1 })
    .next (if s.boot.bootsel = 1 then s1.startDownload .a else if s.boot.bootsel = 2 then s1.startDownload .b else s1)
  else .next s

/-! ### Download and fuses (R146 to R151, R164) -/

/-- The download port. -/
def State.dlPort (s : State) : Option Side := if s.dl.active then (if s.boot.src = 2 then some .a else some .b) else none

/-- The port that BOOTSEL1:0 selects for a download takes writes of its download registers once the device has left reset (R129, R146, R151). -/
def State.dlSelected (s : State) (p : Side) : Bool :=
  s.boot.stage != .inReset && (match p with
    | .a => s.boot.bootsel == 1 || s.boot.bootsel == 3
    | .b => s.boot.bootsel == 2)

/-- A byte of the download buffer, which lies over the buffers of MB4 to MB11 (R147, R208). -/
def Port.dlByte (p : Port) (i : Nat) : Byte :=
  if h : i / 512 + 4 < 32 then
    let m := p.mbx[i / 512 + 4]
    if i % 512 < 256 then readCell 0 m.req (i % 512) else readCell 0 m.rep (i % 512 - 256)
  else 0

/-- A write of DL_CTRL with DL_GO = 1 (R147 to R151). DESIGN CHOICE, log entry 44: while DL_WAIT is 0 the chunk is ignored and DL_SEQ_ERR
stays as it is (R148). -/
def State.takeChunk (s : State) (p : Side) (len : BitVec 13) : State :=
  let s1 := if s.dlSelected p then s.modPort p (fun x => { x with dlLen := len }) else s
  if s.dlPort = some p ∧ s.boot.stage = .imageRead ∧ s.dl.wait = true then
    let x := s.port.get p
    if x.dlOffset.toNat ≠ s.dl.next ∨ len = 0 ∨ 4096 < len.toNat then s1.modDl (fun d => { d with seqErr := true, wait := true })
    else
      let bytes := (List.range len.toNat).map x.dlByte
      let image := writeCells 0 s.dl.image s.dl.next bytes
      let next := s.dl.next + len.toNat
      let done := decide (12 ≤ next) && decide (imgLength (readCells 0 image 0 12) ≤ next)
      (s1.modDl (fun d => { d with image := image, next := next, done := done, wait := !done })).modBoot
        (fun b => { b with phase := if done then 2 else b.phase })
  else s1

/-- DOWNLOAD_CHUNK (R147 to R151): the chunk in the download buffer is accepted, or refused with DL_SEQ_ERR. -/
def execDownloadChunk (p : Side) (len : BitVec 13) (s : State) : Host.Outcome State Fault Refusal := .next (s.takeChunk p len)

/-- A fuse slot holds a key that is not revoked. -/
def Fuses.keyGood (f : Fuses) (k : Fin 4) : Bool := f.key[k].isSome && !f.revoked[k]

/-- The fuses after a fuse command (R164). -/
def Fuses.apply (f : Fuses) (c : FuseCmd) (signer : Option (Fin 4)) : Fuses :=
  let signed := match signer with
    | some k => f.keyGood k
    | none => false
  match c with
  | .program k h =>
    if f.key[k].isNone && (f.key.toList.all Option.isNone || signed) then { f with key := f.key.set k (some h) } else f
  | .revoke k => if signed && signer != some k then { f with revoked := f.revoked.set k true } else f

/-- FUSE_COMMAND (R164): in download mode. -/
def execFuseCommand (cmd : FuseCmd) (signer : Option (Fin 4)) (s : State) : Host.Outcome State Fault Refusal :=
  if s.dl.active && s.boot.stage == .imageRead then .next { s with fuse := s.fuse.apply cmd signer } else .next s

/-! ### Steps 7 to 10 (R137, R159, R170, R171, R335, R948 to R950) -/

/-- The preferred half (R946, R947, R950). -/
def State.preferred (s : State) : Option Side :=
  let policy := match s.prot.hmPolicy with
    | 0 => some (if s.boot.mpref then Side.b else Side.a)
    | 1 => some .a
    | 2 => some .b
    | _ => none
  if s.prot.hmForce then (match s.forced with
    | some h => some h
    | none => policy)
  else policy

/-- The first grant after reset (R941, R948); the other running half is brought to the same state as shadow (R957). -/
def State.grantFirst (s : State) (h : Side) : State :=
  let s1 := (s.grantTo h).modBoot (fun b => { b with prefWaitAt := none })
  let s2 := if (s.half.get h.other).run then
      forAll s1.kernelQuays (s1.modHalf h.other (fun x => { x with coreSync := true })) (fun t q => t.post h (.kstate q))
    else s1
  s2.evalForce

/-- Answer the requests for the grant (R945, R948, R949). -/
def State.decideGrant (s : State) : State :=
  let wait (t : State) := t.modBoot (fun b => { b with prefWaitAt := some (s.now + us (1000 * s.prot.hmPrefWait)) })
  match s.preferred with
  | some h =>
    if (s.half.get h).run && (s.half.get h).req then s.grantFirst h
    else if !(s.half.get h).run && (s.half.get h.other).run then s.grantFirst h.other
    else wait s
  | none =>
    match s.half.a.req, s.half.b.req with
    | true, true => s.drawn.grantFirst (if Config.freeBit s.free then .a else .b)
    | true, false => s.grantFirst .a
    | false, true => s.grantFirst .b
    | false, false => wait s

/-- The boot registers of an accepted image: seal, source, header fields, debug policy; discovery begins (R130, R137, R171). -/
def State.sealRegs (s : State) (src : BitVec 2) (img : List Byte) : State :=
  let d := imgDigest img
  let policy : Nat := field (imgSec img 0x08) 0 1
  s.modBoot (fun b => { b with
    sealed := true, src := src, imgBl := BitVec.ofNat 8 (field img 6 1), imgFormat := BitVec.ofNat 16 (field img 4 2)
    imgSeq := BitVec.ofNat 32 (field img 16 4)
    imgDigest := BitVec.ofNat 32 (leNat ((List.range 4).map (fun i => d.extractLsb' (248 - 8 * i) 8)))
    debugPolicy := if policy = 3 ∧ s.fuse.debugLock = true then 2 else BitVec.ofNat 2 policy
    patchCrc := ((imgDir img).find? (fun x => x.ty == 0x20)).map (fun x => BitVec.ofNat 32 x.crc)
    stage := .discovery, phase := 5, step10At := s.now })

/-- Lenern starts in a half that passed (R36, R133, R948). -/
def State.startHalf (s : State) (h : Side) (req : Bool) : State :=
  match s.boot.half.get h with
  | .passed _ _ => (s.refreshHalf h).modHalf h (fun x => { x with run := true, selfOk := true, patchOk := true, req := req })
  | _ => s

/-- What the configuration of an image starts: cells, quays, slots, and this device as the only member of its ring. -/
def State.startAll (s : State) (img : List Byte) : State :=
  let s1 := forAll (List.finRange 16) s (fun t k => t.restartCell 0 k)
  let s2 := State.startConfig { s1 with params := [] } s1 (fun a => (imgRecords img).any (fun r => r.1 == a))
  (forAll allQuays s2 (fun t q => t.modQuay q (fun x => { x with slotOld := none }))).modHw (fun h => { h with
    memberSet := [s.ownDevice], master := s.ownDevice })

/-- Steps 7 to 10 with an accepted image: protection set and parameters, seal, claims, Lenern in the halves that passed, force pins that are
both asserted (R953), the grant, discovery. -/
def State.seal (s : State) (src : BitVec 2) (img : List Byte) (reqA reqB : Bool) : State :=
  let s1 := (s.withImage img).sealRegs src img
  let s2 : State := { s1 with claims := s1.resolveClaims.getD [] }
  let s3 := ((s2.startHalf .a reqA).startHalf .b reqB).startAll img
  (if s3.prot.hmForce && s3.hm.force.a && s3.hm.force.b then s3.raiseDevice srcForceConflict else s3).decideGrant

/-- What a half finds when it reads and checks its image (R129 to R132, R165): the slot and image it accepts, or the failure of the last
image tried. `answers0` and `answers1` say whether the flash answers for slot 0 and slot 1. -/
def State.readImage (s : State) (answers0 answers1 : Bool) : Halt ⊕ (Bool × List Byte) :=
  if s.dl.active then
    (match s.checkImage s.dlImage with
     | none => .inr (false, s.dlImage)
     | some h => .inl h)
  else
    match s.checkSlot false answers0 with
    | none => .inr (false, s.slotImage false)
    | some _ =>
      match s.checkSlot true answers1 with
      | none => .inr (true, s.slotImage true)
      | some h => .inl h

/-- BOOT_SRC of an accepted image (R146). -/
def State.srcOf (s : State) (slot : Bool) : BitVec 2 := if s.dl.active then s.boot.src else if slot then 1 else 0

/-- HALF_DIGEST_READY (R133, R134, R136, R165): a half presents its digest or its failure; with every presenting half passed and the
digests equal, the set is sealed. DESIGN CHOICE, log entry 44: BOOT_SRC keeps 0 where no flash image passed (R146). -/
def execHalfDigestReady (h : Side) (answers0 answers1 : Bool) (reqA reqB : Bool) (s : State) : Host.Outcome State Fault Refusal :=
  if s.boot.stage = .imageRead ∧ (s.half.get h).held = false ∧ s.boot.half.get h = .nothing ∧ (s.dl.active = true → s.dl.done = true) then
    match s.readImage answers0 answers1 with
    | .inl f =>
      if s.boot.bootsel = 3 ∧ s.dl.active = false then .next (s.startDownload .a)
      else .next ((s.modBoot (fun b => { b with half := b.half.set h (.failed (BitVec.ofNat 8 f.1) (BitVec.ofNat 16 f.2)) })).bootHalt f)
    | .inr (slot, img) =>
      let d := imgDigest img
      let s1 := s.modBoot (fun b => { b with half := b.half.set h (.passed slot d), phase := 2, src := s.srcOf slot })
      match s.boot.half.get h.other with
      | .passed _ d' => if d = d' then .next (s1.seal (s.srcOf slot) img reqA reqB) else .next (s1.bootHalt (0x10, 0))
      | _ => .next (s1.modBoot (fun b => { b with digestAt := s.now }))
  else .next s

/-- The image a half has accepted. -/
def State.acceptedImage (s : State) (slot : Bool) : List Byte := if s.dl.active then s.dlImage else s.slotImage slot

/-- HALF_BOOT_FAIL (R133, R135, R949): 50 ms after the other half's digest the half is held in reset and the boot goes on. DESIGN CHOICE, log
entry 44: that half has not run since the device left reset, so that this is no reset of it for R260, and PORT_LOST stays 0. -/
def execHalfBootFail (h : Side) (s : State) : Host.Outcome State Fault Refusal :=
  match s.boot.half.get h, s.boot.half.get h.other with
  | .nothing, .passed slot _ =>
    if s.boot.stage = .imageRead ∧ s.boot.digestAt + us 50000 ≤ s.now then
      let s1 := (s.modHalf h (fun x => { x with held := true, run := false })).raiseHalf srcHalfBootFail h
      .next (s1.seal (s.srcOf slot) (s.acceptedImage slot) (h != .a) (h != .b))
    else .next s
  | _, _ => .next s

/-- PREF_WAIT_EXPIRY (R28, R945, R948): the other half has requested and the preferred one has not. Where neither has, the first to request
is granted: the other half than the preferred one, or without a preference either (a free value). -/
def execPrefWaitExpiry (s : State) : Host.Outcome State Fault Refusal :=
  match s.boot.prefWaitAt with
  | some t =>
    if s.afterStep10 ∧ s.hm.grant = none ∧ s.hm.everGranted = false ∧ t ≤ s.now then
      let can (h : Side) : Bool := (s.half.get h).run && ((s.half.get h).req || !(s.half.get h.other).req || !(s.half.get h.other).run)
      match s.preferred with
      | some p => if can p.other then .next (s.grantFirst p.other) else if can p then .next (s.grantFirst p) else .next s
      | none =>
        if can .a && can .b then .next (s.drawn.grantFirst (if Config.freeBit s.free then .a else .b))
        else if can .a then .next (s.grantFirst .a) else if can .b then .next (s.grantFirst .b) else .next s
    else .next s
  | none => .next s

/-! ### Discovery and READY (R138 to R143, R190, R559) -/

/-- Every roster entry and every built-in pre-driver entry has matched (R138). -/
def State.allMatched (s : State) : Bool :=
  (List.finRange 20).all (fun n =>
    let wanted := if n.val < 16 then (s.rosterOf n).isSome else s.hasDies
    !wanted || s.lane[n].st == .attached)

/-- The first internal link that has not trained (R141). -/
def State.untrained (s : State) : Option (Fin 20) :=
  (List.finRange 20).find? (fun n => decide (16 ≤ n.val) && (s.lane[n].st == .down || s.lane[n].st == .training))

/-- Set READY (R143, R190, R559). -/
def State.becomeReady (s : State) : State :=
  let s1 := (s.modBoot (fun b => { b with stage := .ready, phase := 6, commitCount := 0 })).formGroups false
  if s1.boot.debugPolicy = 3 then
    let irq (p : Side) (t : State) := t.modPort p (fun x => { x with irqBound := true })
    (irq .b (irq .a (s1.modBoot (fun b => { b with debugOpen := true, boundVoid := true })))).raiseDevice srcDebugOpen
  else s1

/-- DISCOVERY_END (R138 to R141). -/
def execDiscoveryEnd (s : State) : Host.Outcome State Fault Refusal :=
  if s.boot.stage = .discovery ∧ (s.allMatched = true ∨ s.boot.step10At + us (devDiscoveryWindow s) ≤ s.now) then
    match s.untrained with
    | some n => if s.hasDies then .next (s.bootHalt (0x12, n.val - 16)) else .next s.becomeReady
    | none => .next s.becomeReady
  else .next s

end Sys2Proof.Machine
end

