-- ==== Sys2Proof/Machine/Operands.lean ====
section
/-! DEFINITION. Messages of the host ports (R208, R211 to R220, R240, R242, R281 to R283): their bytes, the checks every request passes
before its command is judged, and the fields of the payloads. -/

namespace Sys2Proof.Machine

/-! ### Classes and sizes (R208, R211, R213) -/

/-- The class of a mailbox (R208). -/
def mbxClass (m : MbxNo) : BitVec 2 := if m.val < 4 then 0 else if m.val < 12 then 1 else if m.val < 24 then 2 else 3
/-- Bytes of the trailer of a class (R211). -/
def trailerLen (cls : BitVec 2) : Nat := if cls = 3 then 4 else 2
/-- Highest payload length of a class (R213). -/
def maxLen (cls : BitVec 2) : Nat := if cls = 0 then 6 else if cls = 3 then 4084 else 246
/-- Bytes of a request or reply buffer of a class (R208). -/
def bufSize (cls : BitVec 2) : Nat := if cls = 0 then 16 else if cls = 3 then 4096 else 256
/-- The trailer of a message of a class (R211, R214 to R216). -/
def trailer (cls : BitVec 2) (body : List Byte) : List Byte :=
  if cls = 3 then leBytes 4 (crc32 body).toNat else leBytes 2 (crc16 body).toNat

/-! ### Bytes of a message as the host writes it (R211, R212) -/

/-- The bytes of a request. -/
def reqBytes (opcode : Byte) (r : Req) : List Byte :=
  [r.byte0, opcode] ++ leBytes 2 r.seq.toNat ++ leBytes 2 r.target.toNat ++ leBytes 2 r.length.toNat ++ r.payload ++ r.trailer

/-- The 16 bytes of a class-0 message (R240, R242). -/
def c0Bytes (opcode : Byte) (m : C0Msg) : List Byte :=
  [m.byte0, opcode] ++ leBytes 2 m.seq.toNat ++ leBytes 2 m.target.toNat ++ leBytes 2 m.length.toNat
    ++ leBytes 2 m.valA.toNat ++ leBytes 2 m.valB.toNat ++ leBytes 2 m.valC.toNat ++ leBytes 2 m.crc.toNat

/-- A class-0 message read from 16 bytes. -/
def c0Parse (bs : List Byte) : C0Msg :=
  { byte0 := bs.getD 0 0, seq := BitVec.ofNat 16 (field bs 2 2), target := BitVec.ofNat 16 (field bs 4 2)
    length := BitVec.ofNat 16 (field bs 6 2), valA := BitVec.ofNat 16 (field bs 8 2), valB := BitVec.ofNat 16 (field bs 10 2)
    valC := BitVec.ofNat 16 (field bs 12 2), crc := BitVec.ofNat 16 (field bs 14 2) }

/-! ### A request as the Pilot reads it from its buffer (R219) -/

/-- A request read from a buffer: its message, the header fields that are checked, whether its trailer is right. -/
structure RawReq where
  msg    : Msg
  length : Nat
  crcOk  : Bool
  deriving DecidableEq, Repr

/-- Read the request in the buffer of a mailbox. A trailer that would lie beyond the buffer is wrong. -/
def State.readRequest (s : State) (p : Side) (m : MbxNo) : RawReq :=
  let cls := mbxClass m
  let cells := (s.port.get p).mbx[m].req
  let hdr := readCells 0 cells 0 8
  let len := field hdr 6 2
  let tl := trailerLen cls
  let n := min len (bufSize cls - 8 - tl)
  let bs := readCells 0 cells 0 (8 + n + tl)
  { msg := { port := p, mbx := m, byte0 := hdr.getD 0 0, opcode := hdr.getD 1 0, seq := BitVec.ofNat 16 (field hdr 2 2)
             target := BitVec.ofNat 16 (field hdr 4 2), payload := (bs.drop 8).take n }
    length := len
    crcOk := decide (len = n) && bs.drop (8 + n) == trailer cls (bs.take (8 + n)) }

/-! ### Targets (R212, R219, R248, R283) -/

/-- A target that a command of this device can have. -/
inductive Target where
  | device
  | quay (q : QuayNo)
  | lane (n : LaneNo)
  deriving DecidableEq, Repr

/-- Decode TARGET; `none` where a reserved bit is set, or kind or instance is none a command can name. Lanes are G0 to G15. DEDUCED,
log entry 37. -/
def targetOf (t : U16) : Option Target :=
  let kind := t.toNat / 4096
  let inst := t.toNat % 256
  if t.toNat / 256 % 16 ≠ 0 then none
  else if kind = 0 ∧ inst = 0 then some .device
  else if h : kind = 2 ∧ inst < 12 then some (.quay ⟨inst, h.2⟩)
  else if h : kind = 5 ∧ inst < 16 then some (.lane ⟨inst, by omega⟩)
  else none

/-! ### Opcodes (R281) -/

/-- The class an opcode is defined for. -/
def opcodeClass (op : Byte) : Option (BitVec 2) :=
  let n := op.toNat
  if 0x20 ≤ n ∧ n ≤ 0x2F then some 1
  else if (0x40 ≤ n ∧ n ≤ 0x44) ∨ (0x48 ≤ n ∧ n ≤ 0x4A) then some 2
  else if n = 0x60 ∨ n = 0x61 then some 3
  else none

/-- The target is one that the opcode allows (R281, R283); a quay must have a kernel (R268). -/
def State.targetOk (s : State) (op : Byte) (t : Option Target) : Bool :=
  let n := op.toNat
  match t with
  | none => false
  | some .device => n == 0x23 || n == 0x24 || n == 0x27 || n == 0x2D || decide (0x40 ≤ n)
  | some (.quay q) => decide (n ≤ 0x2D) && n != 0x27 && s.hasKernel q
  | some (.lane _) => n == 0x2E || n == 0x2F

/-- Bytes of a payload that the table states as zero (R281). -/
def zeros (bs : List Byte) (off n : Nat) : Bool := field bs off n == 0

/-- A trace descriptor of n signals with its fields in range (R321). -/
def descOk (bs : List Byte) : Bool :=
  let b (i : Nat) := (bs.getD i 0).toNat
  let n := b 2
  decide (1 ≤ n ∧ n ≤ 8) && bs.length == 16 + 4 * n && decide (b 0 ≤ 15 ∧ b 1 ≤ 1 ∧ b 3 ≤ 3 ∧ b 4 ≤ 4 ∧ b 5 ≤ 100 ∧ b 6 ≤ 11 ∧ b 7 = 0)
    && (field bs 8 4 == 0 || decide (6400 ≤ field bs 8 4))

/-- The payload has the length its opcode defines, its counts and enumerated bytes are in range, and its zero bytes are zero (R281, R282,
R321); of a PARAM_STAGE only the count and the length (R314). A non-zero reserved byte gives RANGE: DEDUCED, log entry 37. -/
def payloadOk (op : Byte) (bs : List Byte) : Bool :=
  let len := bs.length
  let b (i : Nat) := (bs.getD i 0).toNat
  match op.toNat with
  | 0x22 => len == 4 && zeros bs 1 1 && (b 0 != 3 || zeros bs 2 2)
  | 0x26 => len == 12 && decide (b 8 ≤ 1) && zeros bs 9 3
  | 0x27 => decide (1 ≤ b 0 ∧ b 0 ≤ 4 ∧ b 1 ≤ 1) && zeros bs 2 2 && len == 4 + 16 * b 0
      && (List.range (b 0)).all (fun i => zeros bs (4 + 16 * i + 1) 7)
  | 0x28 => len == 4 && zeros bs 2 2
  | 0x29 => len == 12 && zeros bs 1 3
  | 0x2A | 0x2C | 0x44 => len == 4
  | 0x2B => len == 8
  | 0x40 => decide (1 ≤ b 0 ∧ b 0 ≤ 56) && zeros bs 1 3 && len == 4 + 4 * b 0
  | 0x41 => decide (1 ≤ b 0 ∧ b 0 ≤ 30) && len == 4 + 8 * b 0
  | 0x48 => descOk bs
  | 0x49 | 0x4A => len == 4 && zeros bs 1 3 && decide (b 0 ≤ 15)
  | 0x60 => len == 10 && zeros bs 1 3 && decide (b 0 ≤ 15) && decide (1 ≤ field bs 8 2 ∧ field bs 8 2 ≤ 4076)
  | 0x61 => decide (9 ≤ len ∧ len ≤ 4080) && decide (b 0 ≤ 1 ∧ b 1 ≤ 1) && zeros bs 2 2
  | _ => len == 0

/-- Status CRC (R218). -/
def stCrc : Byte := 0x16
/-- Status OWNERSHIP (R218). -/
def stOwnership : Byte := 0x12
/-- Status SEALED (R218). -/
def stSealed : Byte := 0x13
/-- Status UNKNOWN_OPCODE (R218). -/
def stUnknown : Byte := 0x14
/-- Status BUSY (R218). -/
def stBusy : Byte := 0x15
/-- Status NOT_IN_CHARGE (R218). -/
def stNotInCharge : Byte := 0x17
/-- Status CAUSE_PRESENT (R218). -/
def stCause : Byte := 0x18
/-- Status BUDGET (R218). -/
def stBudget : Byte := 0x19
/-- Status PORT_DISABLED (R218). -/
def stDisabled : Byte := 0x1A

/-- The checks of R219 after the CRC: CLASS and LENGTH, OPCODE, TARGET, and the payload (R281 to R283). The first failing one gives the
status. -/
def State.checkRequest (s : State) (r : RawReq) : Option Byte :=
  let cls := mbxClass r.msg.mbx
  if r.msg.byte0.extractLsb' 6 2 ≠ cls ∨ maxLen cls < r.length then some stRange
  else if opcodeClass r.msg.opcode ≠ some cls then some stUnknown
  else if !s.targetOk r.msg.opcode (targetOf r.msg.target) then some stRange
  else if !payloadOk r.msg.opcode r.msg.payload then some stRange
  else none

/-- RETRY of a request (R212). -/
def Msg.retry (m : Msg) : Bool := m.byte0.getLsbD 2

/-- Signed reading of the low `n` bytes of a field. -/
def sfield (bs : List Byte) (off n : Nat) : Int :=
  let v := field bs off n
  if 2 ^ (8 * n - 1) ≤ v then (v : Int) - 2 ^ (8 * n) else v

/-- What identifies an accepted command in its event entry (R234, R235). -/
def Msg.op (m : Msg) (forwarded : Bool) : AcceptedOp :=
  { port := m.port, mbx := m.mbx, cls := mbxClass m.mbx, opcode := m.opcode, seq := m.seq, target := m.target, forwarded := forwarded }

/-! ### Replies (R216, R217, R220) -/

/-- DONE with result data. -/
def doneWith (data : List Byte) : Result := ⟨stDone, 0, data⟩
/-- DONE without result data. -/
def doneR : Result := doneWith []
/-- ACCEPTED with result data. -/
def acceptedWith (data : List Byte) : Result := ⟨stAccepted, 0, data⟩
/-- A refusal of a status without advice. -/
def refusal (status : Byte) : Result := ⟨status, 0, []⟩
/-- STATE_REFUSED with an advice (R280). -/
def refused (advice : U16) : Result := ⟨stRefused, advice, []⟩
/-- RANGE with advice MODE_UNSUPPORTED (R280). -/
def unsupported : Result := ⟨stRange, 0x0007, []⟩

/-- The bytes of a reply: CLASS of the mailbox, OPCODE, SEQ and TARGET as received, the result block and the result data. -/
def replyBytes (m : Msg) (r : Result) (forwarded : Bool) : List Byte :=
  let cls := mbxClass m.mbx
  let payload := [r.status, 0] ++ leBytes 2 r.advice.toNat ++ r.data
  let body := [replyByte0 cls forwarded false, m.opcode] ++ leBytes 2 m.seq.toNat ++ leBytes 2 m.target.toNat
    ++ leBytes 2 payload.length ++ payload
  body ++ trailer cls body

end Sys2Proof.Machine
end

