-- ==== Sys2Proof/Machine/Acks.lean ====
section
/-! DEFINITION. Causes that are present (R784, R886, R986, R1006, R1015) and ACK_FAULT (R107, R284, R285, R301 to R303, R892, R928, R934 to
R936). -/

namespace Sys2Proof.Machine

/-! ### Causes (R886) -/

/-- The speed of a quay in pu: of its primary cell, else v_p of a light stepper or pulse quay, else the one its iterations find (R672, R673,
R702, R784). -/
def State.quaySpeed (s : State) (q : QuayNo) : Rat :=
  match s.primaryCell q with
  | some k => s.toPu q s.cell[k].speed
  | none => if s.isStepped q then s.genPu q else s.quay[q].kern.reg.n

/-- A condition on the instance that context byte 16 names as a cell. -/
def State.cellBy (s : State) (r : Record) (f : Cell → Bool) : Bool :=
  match cellOfNat r.ctx.inst.toNat with
  | some k => f s.cell[k]
  | none => false

/-- A condition on the leg that context byte 16 names. -/
def State.legBy (s : State) (r : Record) (f : Leg → Bool) : Bool :=
  match legOfNat r.ctx.inst.toNat with
  | some l => f s.leg[l]
  | none => false

/-- A condition on the lane that context byte 16 names. -/
def State.laneBy (s : State) (r : Record) (f : Lane → Bool) : Bool :=
  match laneOfNat r.ctx.inst.toNat with
  | some n => f s.lane[n]
  | none => false

/-- The half of a record of half scope. -/
def State.halfBy (s : State) (r : Record) (f : Half → Bool) : Bool :=
  match scopeHalf r.scope with
  | some h => f (s.half.get h)
  | none => false

/-- A condition on the quay of a record of quay scope. -/
def quayBy (r : Record) (f : QuayNo → Bool) : Bool := if h : r.scope.toNat < 12 then f ⟨r.scope.toNat, h⟩ else false

/-- The die that context byte 16 names. -/
def dieBy (r : Record) (f : DieNo → Bool) : Bool :=
  if h : r.ctx.inst.toNat < 2 then f ⟨r.ctx.inst.toNat, h⟩ else false

/-- Cause of THERMAL_THROTTLE (R1015): f or g below 1, or a sensor invalid. -/
def State.throttleCause (s : State) (r : Record) : Bool :=
  if r.ctx.inst = 2 then decide (s.thm.share < 1) || s.thm.ctl.any (·.isNone)
  else dieBy r (fun d => decide (s.thm.factor[d] < 1) || (s.thm.die d).any (·.isNone))

/-- Cause of THERMAL_SHUTDOWN (R1015). -/
def State.shutdownCause (s : State) (r : Record) : Bool :=
  if r.ctx.inst = 2 then (match highest s.thm.ctl with
    | some v => decide (1350 ≤ v)
    | none => false)
  else dieBy r (fun d => match highest (s.thm.die d) with
    | some v => decide (thmShutdown s d.val - 150 ≤ v)
    | none => true)

/-- Cause of a supply source: the rail stays outside its warning band (R1006, R1015). -/
def State.supplyCause (s : State) (r : Record) : Bool :=
  let x := s.supply
  match r.ctx.inst.toNat with
  | 0 => x.vcoreLow || x.vcoreHigh
  | 1 => x.vio33Out
  | 2 => x.vio18Out
  | 3 => x.vana18Out
  | 4 => x.vgdLow[0] || x.vgdHigh[0]
  | 5 => x.vgdLow[1] || x.vgdHigh[1]
  | _ => false

/-- Cause of a chopper that stays on too long: it is on (R886). -/
def State.chopperCause (s : State) (r : Record) : Bool :=
  let n := r.scope.toNat
  if h : 0x70 ≤ n ∧ n < 0x74 then s.chopperOn (.brk ⟨n - 0x70, by omega⟩)
  else if h : 0x80 ≤ n ∧ n < 0xB0 then s.chopperOn (.leg ⟨n - 0x80 + 32, by omega⟩)
  else false

/-- Sources whose cause lasts until device reset (R886). -/
def lastingSources : List Nat := [srcFabricStall, srcRefLoss, srcEccParam, srcDebugOpen, srcHalfBootFail]
/-- Sources of a short (R784). -/
def shortSources : List Nat := [srcShortCircuit, srcGuShort, srcGateWatch, srcAscOvercurrent]

/-- Causes of device and half scope (R886, R986). -/
def State.deviceCause (s : State) (r : Record) : Bool :=
  if r.src = srcSpeedMargin then decide (s.thm.clearRun < 10)
  else if r.src = srcEccHalf ∨ r.src = srcCheckTrip then s.halfBy r (fun h => !h.run)
  else if r.src = srcCheckSelftest then s.halfBy r (fun h => h.held)
  else if r.src = srcRoleMismatch then s.halfBy r (fun h => h.mismatchAt.any (fun t => decide (s.now ≤ t + us 100)))
  else if r.src = srcForceConflict then s.hm.force.a && s.hm.force.b
  else if r.src = srcHalfLink then s.ih.linkDown
  else if r.src = srcHwAlignLost then !s.hw.aligned
  else if r.src = srcThermalThrottle then s.throttleCause r
  else if r.src = srcThermalShutdown then s.shutdownCause r
  else if r.src = srcSupplyVcore ∨ r.src = srcSupplyVio ∨ r.src = srcSupplyVgd then s.supplyCause r
  else if r.src = srcVmOv then dieBy r (fun d => decide ((devVmOv s d.val : Rat) < s.supply.vm[d]))
  else if r.src = srcVmUv then dieBy r (fun d => decide (s.supply.vm[d] < (devVmUv s d.val : Rat)))
  else if r.src = srcChopperLong then s.chopperCause r
  else if r.src = srcGwQuarantine then s.laneBy r (fun n => n.st == .quarantined)
  else false

/-- Causes of quay scope (R886). -/
def State.quayCause (s : State) (r : Record) : Bool :=
  if r.src = srcCountDrift ∨ r.src = srcSincosLost then s.cellBy r (fun c => c.unsure)
  else if r.src = srcHallIllegal then s.cellBy r (fun c => c.hall == 0 || c.hall == 7)
  else if r.src = srcFbWire then s.cellBy r (fun c => c.wire)
  else if r.src = srcSsiFrame then s.cellBy r (fun c => c.ssiErr)
  else if r.src = srcSincosAmpl then s.cellBy r (fun c => c.ampl)
  else if r.src = srcEmuOverrun then s.cellBy r (fun c => c.emuLagF)
  else if r.src = srcOverspeed then quayBy r (fun q => decide (quayOverspeed s q < rabs s.quay[q].kern.reg.nf))
  else if r.src = srcTensionHigh then quayBy r (fun q => decide (quayTensionMax s q < s.quay[q].kern.reg.tension))
  else if r.src = srcLimitBoth then quayBy r (fun q => s.limitActive q .positive && s.limitActive q .negative)
  else if shortSources.contains r.src then quayBy r (fun q => decide (quayStopSpeed s q ≤ rabs (s.quaySpeed q)))
  else if r.src = srcBootUv then s.legBy r (fun l => l.uvlo)
  else if r.src = srcGuSupply then s.legBy r (fun l => l.supply)
  else if r.src = srcGuOvertemp then s.legBy r (fun l => l.overtemp)
  else if r.src = srcGuTrip then s.legBy r (fun l => l.trip)
  else if r.src = srcEnableLow then quayBy r (fun q => (s.legsOf q).any (fun l => s.legEnLow l || (s.haltOn && !s.isChopperLeg l)))
  else if r.src = srcGwLaneLoss then s.laneBy r (fun n => n.st != .attached)
  else if r.src = srcGwTime then s.laneBy r (fun n => !n.timeOk)
  else false

/-- The cause of a record is present (R886). -/
def State.causePresent (s : State) (r : Record) : Bool := lastingSources.contains r.src || s.deviceCause r || s.quayCause r

/-! ### Acknowledging records (R900, R935, R936) -/

/-- Records that only an ACK_FAULT to the device acknowledges: at device level, of half, lane or device scope, and of die or chopper scope
without a quay (R285, R934, R936). -/
def Record.deviceOnly (r : Record) : Bool :=
  let n := r.scope.toNat
  let many := n == 0x40 || n == 0x41 || decide (0x70 ≤ n ∧ n < 0xB0)
  r.severity == 4 || (decide (12 ≤ n) && (!many || r.quays.isEmpty))

/-- A record after an acknowledgement of one of its quays (R935). -/
def Record.ackQuay (r : Record) (q : QuayNo) (now : Nat) : Record :=
  if r.unacked && !r.deviceOnly && r.quays.contains q then
    let by_ := if r.ackedBy.contains q then r.ackedBy else q :: r.ackedBy
    if r.quays.all (fun p => by_.contains p) then { r with ackedBy := by_, acked := true, ackedAt := now } else { r with ackedBy := by_ }
  else r

/-- Acknowledge a quay: its records, its first-fault register, and from FAULTED or SAFE the transition to OFF (R270 row 18, R302, R745, R855,
R902, R928). -/
def State.ackOne (s : State) (q : QuayNo) : State :=
  let s1 := (s.modFlt (fun f => { f with log := f.log.map (fun r => r.ackQuay q s.now) })).modQuay q (fun x => { x with first := none })
  if s.quay[q].core.st = .faulted ∨ s.quay[q].core.st = .safe then s1.enter q .off else s1

/-- An ACK_FAULT cannot release a quay from FAULTED or SAFE: the cause of its open record or of a merged unacknowledged record is present, a
ramp reaction has not reached standstill, or the device safe state is in force (R301, R934). -/
def State.ackBlocked (s : State) (q : QuayNo) : Bool :=
  let x := s.quay[q]
  (x.core.st == .faulted || x.core.st == .safe) &&
    (s.flt.devSafe || x.rampReact
      || s.flt.log.any (fun r => r.unacked && r.quays.contains q && (x.openRec == some r.no || r.merged) && s.causePresent r))

/-- Quays of a list left in FAULTED or SAFE. -/
def State.leftMask (s : State) (qs : List QuayNo) : Nat :=
  qs.foldl (fun n q => n + bit (s.quay[q].core.st == .faulted || s.quay[q].core.st == .safe) q.val) 0

/-- The answer of ACK_FAULT (R281). -/
def ackResult (ok : Bool) (mask : Nat) : Result := ⟨if ok then stDone else stCause, 0, leBytes 2 mask⟩

/-- ACK_FAULT to a quay (R301, R302, R934, R935): in another state than FAULTED and SAFE it acknowledges, also while the device safe state is in
force. DEDUCED, log entry 37: the mask tells of that quay. -/
def State.ackQuay (s : State) (q : QuayNo) : State × Result :=
  if s.ackBlocked q then (s, ackResult false (s.leftMask [q]))
  else
    let t := s.ackOne q
    (t, ackResult true (t.leftMask [q]))

/-- BOUND_VOID clears when SPEED_MARGIN is acknowledged, but for debug policy 3 (R107, R190); the device safe state ends with its last record
(R892). -/
def State.afterDeviceAck (s : State) (margin : Bool) : State :=
  let s1 := if margin && !s.boot.debugOpen then s.modBoot (fun b => { b with boundVoid := false }) else s
  if s1.flt.log.any (fun r => r.unacked && r.severity == 4) then s1 else s1.modFlt (fun f => { f with devSafe := false })

/-- ACK_FAULT to the device (R284, R285, R928, R934 to R936): the records that only it acknowledges, where their causes are gone; then each
quay with a kernel on its own. -/
def State.ackDevice (s : State) : State × Result :=
  let go (r : Record) : Bool := r.unacked && r.deviceOnly && !s.causePresent r
  let margin := s.flt.log.any (fun r => go r && r.src == srcSpeedMargin)
  let s1 := (s.modFlt (fun f => { f with log := f.log.map (fun r => if go r then { r with acked := true, ackedAt := s.now } else r) })).afterDeviceAck
    margin
  let blocked := s1.kernelQuays.filter s1.ackBlocked
  let s2 := forAll (s1.kernelQuays.filter (fun q => !blocked.contains q)) s1 State.ackOne
  let ok := blocked.isEmpty && !s2.flt.log.any Record.unacked
  (if ok then s2.modFlt (fun f => { f with devFirst := none }) else s2, ackResult ok (s2.leftMask s2.kernelQuays))

end Sys2Proof.Machine
end

