-- ==== Sys2Proof/Machine/Commands.lean ====
section
/-! DEFINITION. The class-1 commands of a quay, of the device and of a lane as the half in charge applies them (R270 to R307): each answers
the state after it and the result. -/

namespace Sys2Proof.Machine

/-! ### ARM and DISARM (R287 to R291) -/

/-- Dies that carry legs of a quay (R291). -/
def State.diesOf (s : State) (q : QuayNo) : List DieNo :=
  [(0 : DieNo), 1].filter (fun d => (s.legsOf q).any (fun l => isLocal l && dieOf l == d))

/-- VM below `dev.vm_uv_d` at an ARM: the source is raised, for the quays of R790. DEDUCED, log entry 37. -/
def State.armVm (s : State) (d : DieNo) : State :=
  s.raiseDie srcVmUv d ((s.dieQuays d).filter s.outsideOff)
    { inst := BitVec.ofNat 8 d.val, value := BitVec.ofInt 32 (reportInt s.supply.vm[d]) }

/-- VGD below 9.5 V at an ARM: the source is raised; the voltage is a free value (R1008, R1015). -/
def State.armVgd (s : State) (d : DieNo) : State :=
  s.drawn.raiseDie srcSupplyVgd d ((s.dieQuays d).filter s.outsideOff)
    { inst := BitVec.ofNat 8 (4 + d.val), sub := 1, value := Config.freeWord s.free }

/-- An ARM is taken: counts since ARM start, dropped sets rejoin, the offsets are averaged anew (R328, R447, R724). -/
def Quay.arming (x : Quay) (op : AcceptedOp) (now : Nat) : Quay :=
  { x with
    inputLate := 0, cmdLate := 0, offSum := [], offsets := []
    core := { x.core with armOp := some op, armAt := now }
    kern := { x.kern with reg := { x.kern.reg with dropped := Vector.replicate 4 false } } }

/-- ARM is accepted (R291, R447, R854): with a low VM or VGD it is abandoned at once, else the gate units are armed. -/
def State.startArm (s : State) (q : QuayNo) (op : AcceptedOp) : State :=
  let s1 := (s.modQuay q (fun x => x.arming op s.now)).publish q
  let lowVm := (s.diesOf q).filter (fun d => decide (s.supply.vm[d] < (devVmUv s d.val : Rat)))
  let lowVgd := (s.diesOf q).filter (fun d => s.supply.vgdLow[d])
  if lowVm.isEmpty && lowVgd.isEmpty then s1.sendArm (s.phaseLegs q)
  else (forAll lowVgd (forAll lowVm s1 State.armVm) State.armVgd).abandonArm q

/-- ARM (R287, R289 to R291, R307). -/
def State.doArm (s : State) (q : QuayNo) (op : AcceptedOp) : State × Result :=
  let c := s.quay[q].core
  match c.st with
  | .off =>
    if c.armOp.isSome then (s, refusal stBusy)
    else if s.bollardHeld q then (s, refused 0x0005)
    else if !(s.legsOf q).all s.legAvailable then (s, refused 0x0006)
    else (s.startArm q op, acceptedWith [])
  | .armed => (s, doneR)
  | _ => (s, refused 0)

/-- DISARM (R307). -/
def State.doDisarm (s : State) (q : QuayNo) : State × Result :=
  match s.quay[q].core.st with
  | .off => (s, doneR)
  | .armed => (s.enter q .off, doneR)
  | _ => (s, refused 0)

/-! ### START (R292 to R299, R672 to R677) -/

/-- The mode a START names (R281). -/
def startMode : Nat → Mode
  | 0 => .torque
  | 1 => .speed
  | 2 => .tension
  | 3 => .position
  | _ => .none

/-- The table of R292, and R299. -/
def State.modeAllowed (s : State) (q : QuayNo) : Mode → Bool
  | .torque => !s.isStepped q
  | .speed => true
  | .tension => !s.isStepped q && s.isHeavy q && quayTensionEnable s q == 1
  | .position => !s.noFeedback q
  | .none => false

/-- The absolute speed of a quay in ARMED exceeds the catch-detect threshold (R270 rows 3, 4 and 11, R672 to R674). -/
def State.turning (s : State) (q : QuayNo) : Bool :=
  if s.isStepped q then false
  else if s.machine q == 2 && (s.primaryCell q).isNone then true
  else decide (quayCatchDetect s q < rabs (s.quaySpeed q))

/-- Write the initial reference of START into the class-0 buffer of its mode (R297); a speed it gives is not fed by SET_SPEED_TORQUE, so its
feedforward ends (R535; DEDUCED, log entry 37). -/
def State.writeRef (s : State) (q : QuayNo) (m : Mode) (v : U16) : State :=
  s.modQuay q (fun x => { x with c0 := match m with
    | .torque => { x.c0 with torque := v }
    | .speed => { x.c0 with speed := v, ff := 0 }
    | .tension => { x.c0 with tension := v }
    | _ => x.c0 })

/-- The catch direction of a START (R675). -/
def catchDir (m : Mode) (v : U16) : Int :=
  match m with
  | .torque | .speed => if v = 0 then 0 else if v.msb then -1 else 1
  | _ => 0

/-- START applied from ARMED or HOLD into a state. -/
def State.startIn (s : State) (q : QuayNo) (m : Mode) (v : U16) (op : Option AcceptedOp) (st : AxisState) : State :=
  ((s.writeRef q m v).modQuay q (fun x => { x with core := { x.core with mode := m, sigma := catchDir m v, startOp := op } })).enter q st

/-- The result data of START: the new state (R281). -/
def startData (st : AxisState) : List Byte := [BitVec.ofNat 8 st.code, 0, 0, 0]

/-- START (R281, R292 to R298, R307). -/
def State.doStart (s : State) (q : QuayNo) (bs : List Byte) (op : AcceptedOp) : State × Result :=
  let m := startMode (bs.getD 0 0).toNat
  let v := BitVec.ofNat 16 (field bs 2 2)
  let c := s.quay[q].core
  if !s.modeAllowed q m then (s, unsupported)
  else
    match c.st with
    | .armed =>
      if s.turning q then (s.startIn q m v (some op) .catching, acceptedWith (startData .catching))
      else (s.startIn q m v none .running, doneWith (startData .running))
    | .hold => (s.startIn q m v none .running, doneWith (startData .running))
    | .running =>
      if c.mode = m then (s, doneWith (startData .running))
      else if c.mode = .position ∨ m = .position then (s, refused 0x0008)
      else ((s.writeRef q m v).modCore q (fun x => { x with mode := m }), doneWith (startData .running))
    | _ => (s, refused 0)

/-! ### Stops and HOLD (R284, R299, R307) -/

/-- STOP and QUICKSTOP to a quay (R307, R609). -/
def State.doStop (s : State) (q : QuayNo) (k : StopKind) : State × Result := (s.applyStop q k, doneR)

/-- STOP and QUICKSTOP to the device (R284). -/
def State.doStopAll (s : State) (k : StopKind) : State × Result := (forAll s.kernelQuays s (fun t q => t.applyStop q k), doneR)

/-- HOLD (R299, R307, R570, R1075). -/
def State.doHold (s : State) (q : QuayNo) : State × Result :=
  if s.noFeedback q then (s, unsupported)
  else
    match s.quay[q].core.st with
    | .armed => if s.turning q then (s, refused 0x0004) else ((s.leaveShare q).enter q .hold .none, doneR)
    | .running => ((s.leaveShare q).enter q .hold .ramp, doneR)
    | .hold => (s, doneR)
    | _ => (s, refused 0)

/-! ### Motions (R287, R300, R307, R590, R593, R597, R599, R600, R654, R657) -/

/-- A motion of the quay is in progress; one that has been ended and comes to rest is none (R597). -/
def AxisCore.inMotion (c : AxisCore) : Bool :=
  match c.motion with
  | some m => !m.halted
  | none => false

/-- A jog of the quay runs. -/
def AxisCore.inJog (c : AxisCore) : Bool :=
  c.inMotion && (match c.motion with
    | some m => m.jog.isSome
    | none => false)

/-- An accepted command of an opcode is in progress as the motion of the quay (R287). -/
def AxisCore.busyWith (c : AxisCore) (opcode : Byte) : Bool :=
  c.inMotion && (match c.motionOp with
    | some o => o.opcode == opcode
    | none => false)

/-- The judgement of MOVE and MOVE_GROUP on a quay (R280, R287, R307 note 4, R600): `none` where it is accepted. -/
def State.judgeMove (s : State) (q : QuayNo) (opcode : Byte) (absolute : Bool) : Option Result :=
  let c := s.quay[q].core
  if c.busyWith opcode then some (refusal stBusy)
  else if c.st ≠ .running ∧ c.st ≠ .hold then some (refused 0)
  else if c.st = .running ∧ c.mode ≠ .position then some (refused 0x0008)
  else if c.st = .running ∧ c.inMotion = true then some (refused 0x0002)
  else if absolute && quayRequireHomed s q == 1 && !c.homed then some (refused 0x000B)
  else none

/-- A value lies in the signed 64-bit range (R593). -/
def inS64 (v : Int) : Bool := decide (-9223372036854775808 ≤ v ∧ v < 9223372036854775808)

/-- Give a quay a new motion in position mode; from HOLD it enters RUNNING. An ended motion that has not come to rest keeps its event entry
(R590, R597). -/
def State.putMotion (s : State) (q : QuayNo) (m : Motion) (op : Option AcceptedOp) : State :=
  let c := s.quay[q].core
  let ended := match c.motion with
    | some x => if x.halted && !x.group then c.motionOp else none
    | none => none
  let s0 := if ended.isSome then s.eventOpt c.endedOp stRefused 0 (s.positionResult q) else s
  let f (x : AxisCore) : AxisCore :=
    { x with motion := some m, motionOp := op, mode := .position, endedOp := if ended.isSome then ended else x.endedOp }
  if c.st = .hold then (s0.modQuay q (fun x => { x with core := f x.core })).enter q .running else s0.modCore q f

/-- MOVE (R281, R307, R593). -/
def State.doMove (s : State) (q : QuayNo) (bs : List Byte) (op : AcceptedOp) : State × Result :=
  let v := sfield bs 0 8
  let relative := bs.getD 8 0 == 1
  let target := if relative then s.profilePos q + v else v
  match s.judgeMove q 0x26 (!relative) with
  | some r => (s, r)
  | none =>
    if !inS64 target then (s, refusal stRange)
    else (s.putMotion q { target := target, rel := if relative then some v else none, jog := none, group := false, halted := false
                          started := false, turn := false } (some op), acceptedWith [])

/-- An axis of a MOVE_GROUP payload: its quay and position (R281). -/
def groupAxis (bs : List Byte) (i : Nat) : Option (QuayNo × Int) :=
  (quayOfNat (bs.getD (4 + 16 * i) 0).toNat).map (fun q => (q, sfield bs (4 + 16 * i + 8) 8))

/-- The axes of a payload in its order (R281). -/
def groupAxes (bs : List Byte) : List (Option (QuayNo × Int)) := (List.range (bs.getD 0 0).toNat).map (groupAxis bs)

/-- The target of an axis of a group. -/
def State.groupTarget (s : State) (relative : Bool) (e : QuayNo × Int) : Int := if relative then s.profilePos e.1 + e.2 else e.2

/-- The refusal of one axis of a MOVE_GROUP: RANGE where it names no quay with a kernel, a quay that an axis before it names, or a target
beyond the position range (R268, R593, R654), else that of the quay (R286). -/
def State.judgeAxis (s : State) (relative : Bool) (before : List (Option (QuayNo × Int))) : Option (QuayNo × Int) → Option Result
  | none => some (refusal stRange)
  | some e =>
    if !s.hasKernel e.1 || (before.filterMap id).any (fun x => x.1 == e.1) then some (refusal stRange)
    else
      match s.judgeMove e.1 0x27 (!relative) with
      | some r => some r
      | none => if inS64 (s.groupTarget relative e) then none else some (refusal stRange)

/-- The refusal of the first refused axis in payload order (R286); the axes before the one judged come first. -/
def State.judgeGroup (s : State) (relative : Bool) : List (Option (QuayNo × Int)) → List (Option (QuayNo × Int)) → Option Result
  | _, [] => none
  | before, e :: rest =>
    match s.judgeAxis relative before e with
    | some r => some r
    | none => s.judgeGroup relative (before ++ [e]) rest

/-- MOVE_GROUP (R281, R286, R593, R654 to R657): all axes or none. -/
def State.doMoveGroup (s : State) (bs : List Byte) (op : AcceptedOp) : State × Result :=
  let relative := bs.getD 1 0 == 1
  match s.judgeGroup relative [] (groupAxes bs) with
  | some r => (s, r)
  | none =>
    let xs := (groupAxes bs).filterMap id
    let period := xs.foldl (fun m e => max m (s.loopPeriod e.1)) 0
    let axes := xs.map (fun e => (e.1, s.profilePos e.1, s.groupTarget relative e - s.profilePos e.1))
    let s1 := xs.foldl (fun t e => t.putMotion e.1
      { target := s.groupTarget relative e, rel := none, jog := none, group := true, halted := false, started := false, turn := false }
      (some op)) s
    ({ s1 with groups := s1.groups ++ [{ op := op, axes := axes, relative := relative, t0 := s.now + period, points := [], lims := [], ended := none }] }
    , acceptedWith [])

/-- JOG (R281, R300, R307, R599, R600). -/
def State.doJog (s : State) (q : QuayNo) (bs : List Byte) : State × Result :=
  let c := s.quay[q].core
  let w := q14 (BitVec.ofNat 16 (field bs 0 2))
  let jog : Motion := { target := 0, rel := none, jog := some w, group := false, halted := false, started := false, turn := false }
  match c.st with
  | .running =>
    if c.mode ≠ .position then (s, refused 0x0008)
    else if c.inJog then (s.modCore q (fun x => { x with motion := x.motion.map (fun m => { m with jog := some w }) }), doneR)
    else if c.inMotion then (s, refused 0x0002)
    else (s.putMotion q jog none, doneR)
  | .hold => (s.putMotion q jog none, doneR)
  | _ => (s, refused 0)

/-! ### HOME (R281, R307, R620) -/

/-- The limit input of a quay is its own (R179 class 6). -/
def State.ownsLimit (s : State) (q : QuayNo) (i : Nat) : Bool := s.ownerOf 6 (3 * q.val + i) == .quay q

/-- A homing method is available on a quay (R620). -/
def State.methodAllowed (s : State) (q : QuayNo) (method : Nat) : Bool :=
  s.hasPosition q &&
    (match method with
     | 0 => true
     | 1 => s.ownsLimit q 1
     | 2 => s.ownsLimit q 0
     | 3 => (match s.primaryCell q with
       | some k => fbIndexEnable s k == 1
       | none => false)
     | 4 | 5 => if s.isStepper q then quayIbexEnable s q == 1 else !s.isPulse q && (s.primaryCell q).isSome
     | _ => false)

/-- HOME (R281, R287, R307, R620 to R629). -/
def State.doHome (s : State) (q : QuayNo) (bs : List Byte) (op : AcceptedOp) : State × Result :=
  let method := (bs.getD 0 0).toNat
  let c := s.quay[q].core
  if !s.methodAllowed q method then (s, unsupported)
  else if c.homeOp.isSome && c.st == .homing then (s, refusal stBusy)
  else
    match c.st with
    | .armed =>
      if quayHomingEnable s q ≠ 1 then (s, refused 0x0003)
      else
        let run : Homing := { method := method, homePos := sfield bs 4 8, phase := 0, lastPos := s.position q, travel := 0
                              latches := match s.primaryCell q with
                                | some k => s.cell[k].latches
                                | none => 0 }
        let s1 := s.eventOpt c.homeOp stRefused 0 (s.positionResult q)
        ((s1.modQuay q (fun x => { x with core := { x.core with homing := some run, homeOp := some op } })).enter q .homing, acceptedWith [])
    | .homing => (s, doneR)
    | _ => (s, refused 0)

/-! ### DETACH and ATTACH (R304, R305, R840, R859 to R862) -/

/-- DETACH of a lane (R304, R305, R859 to R861). -/
def State.doDetach (s : State) (n : LaneNo) : State × Result :=
  if s.lane[n].st = .detached then (s, doneR)
  else if (s.laneQuays n).any s.outsideOff then (s, refused 0x000C)
  else
    let s1 := if s.lane[n].st = .attached then s.sendLane n .bye else s
    let s2 := s1.eventAll s.lane[n].attachOps stRefused 0 0
    let s3 := s2.modLane n (fun x => { x with st := .detached, rxOk := false, rxSeq := none, timeOk := false, attachOps := [] })
    (forAll (s.legsOnLane n) s3 (fun t l => t.modLeg l (fun y => { y with armed := false })), doneR)

/-- ATTACH of a lane (R305, R861); the time of R861 runs from the command where no bring-up is in progress. -/
def State.doAttach (s : State) (n : LaneNo) (op : AcceptedOp) : State × Result :=
  match s.lane[n].st with
  | .attached => (s, doneR)
  | .detached | .down =>
    (s.modLane n (fun x => { x with st := .down, detectAt := s.now, attachOps := x.attachOps ++ [op] }), acceptedWith [])
  | .quarantined =>
    (s.modLane n (fun x => { x with st := .identifying, detectAt := s.now, identReqs := 1, identReqAt := s.now, tx := x.tx ++ [.identReq]
                                    attachOps := x.attachOps ++ [op] }), acceptedWith [])
  | _ => (s.modLane n (fun x => { x with attachOps := x.attachOps ++ [op] }), acceptedWith [])

end Sys2Proof.Machine
end

