-- ==== Sys2Proof/Machine/Window.lean ====
section
/-! DEFINITION. What a read of a host window shows (R7, R92, R96, R146, R207, R209, R235, R263, R922, R929, R985, R1014, R1046), and the
output pins that follow from the same state (R210, R932, R933, R941). -/

namespace Sys2Proof.Machine

/-! ### Pins -/

/-- ERR_N is low: before step 10, in BOOT_HALT, during a pulse, or by ERR_PIN_HOLD (R142, R167, R930, R932). -/
def State.errLow (s : State) : Bool := !s.afterStep10 || s.flt.pulseUntil.isSome || s.flt.errHold
/-- SAFE_N is low: before READY, and while a quay is in SAFE or the device safe state is in force (R142, R143, R167, R933). -/
def State.safeLow (s : State) : Bool := !s.isReady || s.flt.devSafe || allQuays.any (fun q => s.quay[q].core.st == .safe)
/-- MSTAT_A and MSTAT_B (R941). -/
def State.mstat (s : State) (h : Side) : Bool := s.inCharge h

/-- The pending bits of HOST_IRQ_STATUS (R209). -/
def Port.irqBits (p : Port) : Nat :=
  bit (p.done &&& p.irqEn != 0) 0 + bit (p.evqHead != p.evqTail) 1 + bit p.irqFault 2 + bit p.irqRole 3 + bit p.irqLost 4
    + bit p.irqBack 5 + bit p.irqBound 6

/-- The interrupt output of a port is driven low (R210). -/
def Port.irqLow (p : Port) : Bool := BitVec.ofNat 7 p.irqBits &&& p.hostIrqEn != 0

/-! ### Fault records as the mirror shows them (R922) -/

/-- FLAGS of a record. -/
def Record.flags (r : Record) : Nat :=
  bit r.coincident 0 + bit r.consequential 1 + bit r.merged 2 + bit r.escalated 3 + bit r.severe 4 + bit r.acked 5 + bit r.latch 6 + bit r.hard 7

/-- The 32 bytes of a record. -/
def Record.bytes (r : Record) : List Byte :=
  leBytes 8 r.time ++ leBytes 2 r.src ++ [BitVec.ofNat 8 r.severity, BitVec.ofNat 8 r.flags, r.scope, BitVec.ofNat 8 r.reaction]
    ++ leBytes 2 r.count ++ [r.ctx.inst, r.ctx.b17, r.ctx.sub, 0] ++ leBytes 4 r.ctx.value.toNat ++ leBytes 8 r.ctx.tail.toNat

/-- A byte of a record that may be absent. -/
def State.recordByte (s : State) (no : Option Nat) (i : Nat) : Byte :=
  match no.bind s.flt.record with
  | some r => r.bytes.getD i 0
  | none => 0

/-- The number of the record that a log index holds: the latest one written there (R923). -/
def State.logRecord (s : State) (index : Nat) : Option Nat :=
  if s.flt.total ≤ index then none else some (s.flt.total - 1 - (s.flt.total - 1 - index) % 256)

/-! ### Registers -/

/-- DEV_STATUS (R146). -/
def State.devStatus (s : State) : Nat :=
  4096 * s.boot.src.toNat + bit s.boot.debugOpen 11 + bit s.half.b.run 10 + bit s.half.a.run 9 + bit (s.inCharge .b) 8
    + bit s.boot.boundVoid 7 + bit s.boot.sealed 6 + bit (s.boot.stage == .halted) 5 + bit s.isReady 4 + s.boot.phase.toNat

/-- DL_STATUS of a port (R146); of the port that is not the download port every bit reads 0. -/
def State.dlStatus (s : State) (p : Side) : Nat :=
  if s.dlPort = some p then bit s.dl.done 3 + bit s.dl.seqErr 2 + bit true 1 + bit s.dl.wait 0 else 0

/-- HM_STATUS (R985). -/
def State.hmStatus (s : State) : Nat :=
  bit s.hm.forcePend 8 + bit s.hm.force.b 7 + bit s.hm.force.a 6 + bit s.boot.mpref 5 + bit s.half.b.req 4 + bit s.half.a.req 3
    + bit s.hm.grant.isNone 2 + bit (s.inCharge .b) 1 + bit (s.inCharge .a) 0

/-- A mask with a bit for each quay that meets a condition. -/
def quayMask (f : QuayNo → Bool) : Nat := allQuays.foldl (fun n q => n + bit (f q) q.val) 0

/-- SUPPLY_STATUS (R1014). -/
def State.supplyStatus (s : State) : Nat :=
  let x := s.supply
  bit x.vgdHigh[1] 11 + bit x.vgdLow[1] 10 + bit x.vgdHigh[0] 9 + bit x.vgdLow[0] 8 + bit x.vana18Out 7 + bit x.vio18Out 6 + bit x.vio33Out 5
    + bit x.vcoreHigh 4 + bit x.vcoreLow 3 + bit s.thm.shut[1] 2 + bit s.thm.shut[0] 1 + bit (decide (s.thm.share < 1)) 0

/-- PIN_STATUS (R1046). -/
def State.pinStatus (s : State) : Nat :=
  let x := s.pins
  bit x.haltDisc 10 + bit x.halt.b 9 + bit x.halt.a 8 + bit x.enHigh[5] 7 + bit x.enHigh[4] 6 + bit x.enHigh[3] 5 + bit x.enHigh[2] 4
    + bit x.enHigh[1] 3 + bit x.enHigh[0] 2 + s.boot.bootsel.toNat

/-- FLT_STATUS (R929). -/
def State.fltStatus (s : State) : Nat :=
  1048576 * quayMask (fun q => s.quay[q].core.st == .safe) + 256 * quayMask (fun q => s.quay[q].core.st == .faulted)
    + bit s.flt.hardSafe 5 + bit s.flt.devSafe 4 + bit (s.flt.log.any (fun r => r.unacked && r.severity == 4)) 3
    + bit s.safeLow 2 + bit s.errLow 1 + bit s.flt.pulseUntil.isSome 0

/-- TB_STATUS (R92). -/
def State.tbStatus (s : State) : Nat :=
  bit s.tb.backup 4 + bit s.tb.slewing 3 + bit s.tb.calOk 2 + bit (tbRefSource s == 1) 1 + bit s.tb.lock 0

/-- Index of the control-die sensor with the lowest margin (R92). DESIGN CHOICE, log entry 44: the margins compared are those reported, and of
equal ones the lowest index counts. -/
def State.marginMin (s : State) : Fin 16 := (List.finRange 16).foldl (fun m n => if s.thm.margin[n] < s.thm.margin[m] then n else m) 0

/-- A signed value as 16 bits. -/
def bits16 (v : Int) : Nat := (v % 65536).toNat

/-- A word of a capture register (R96). -/
def State.captureWord (s : State) (p : Side) (c : Fin 32) (off : Nat) : Nat :=
  let x := s.tb.cap[c]
  match off with
  | 0 => x.time
  | 4 => (s.tb.capHi.get p)[c].toNat
  | 8 => x.count.toNat
  | _ => bit (s.capClaimed c) 3 + bit x.level 2 + bit x.overrun 1 + bit x.fresh 0

/-- The word at an aligned offset of the register regions 0x0000–0x05FF, 0x8000–0x801F and 0xA000–0xAFFF; 0 where no map assigns one
(R206). -/
def State.regNat (s : State) (p : Side) (a : Nat) : Nat :=
  let x := s.port.get p
  match a with
  | 0x0000 => 0x248000B0
  | 0x0004 => bit s.fuse.pkgC0 0
  | 0x0100 => s.devStatus
  | 0x0104 => 65536 * s.boot.haltDetail.toNat + s.boot.haltCause.toNat
  | 0x0108 => 65536 * s.boot.imgBl.toNat + s.boot.imgFormat.toNat
  | 0x010C => s.boot.imgSeq.toNat
  | 0x0110 => s.boot.imgDigest.toNat
  | 0x0114 => s.boot.commitCount.toNat
  | 0x0118 => s.boot.c0Drop.toNat
  | 0x0120 => x.dlLen.toNat
  | 0x0124 => x.dlOffset.toNat
  | 0x0128 => s.dlStatus p
  | 0x0140 => s.hmStatus
  | 0x0144 => quayMask (fun q => s.hm.admission[q])
  | 0x0148 => s.hm.failovers.toNat
  | 0x014C => s.hm.lastMove
  | 0x0150 => s.hm.lastMove / 4294967296
  | 0x0160 => s.supplyStatus
  | 0x0164 => s.supply.cause.toNat
  | 0x0170 => s.pinStatus
  | 0x0404 => x.done.toNat
  | 0x0408 => x.busy.toNat
  | 0x040C => x.irqEn.toNat
  | 0x0410 => x.irqBits
  | 0x0414 => x.hostIrqEn.toNat
  | 0x0418 => x.mbx3Sel.toNat
  | 0x041C => x.spiErr.toNat
  | 0x0420 => x.evqHead.toNat
  | 0x0424 => x.evqTail.toNat
  | 0x0428 => x.evqOvf.toNat
  | 0x042C => 65536 * x.c0Refused.toNat + x.c0Accepted.toNat
  | 0x8000 => bit s.flt.errHold 0
  | 0x8004 => s.fltStatus
  | 0x8008 => s.flt.total % 256
  | 0x800C => s.flt.total
  | 0x8010 => bit x.logPage 0
  | 0xA000 => s.now
  | 0xA004 => (s.tb.devHi.get p).toNat
  | 0xA008 => s.tbStatus
  | 0xA00C => bits16 s.tb.slewRate
  | 0xA010 => 65536 * s.marginMin.val + bits16 s.thm.margin[s.marginMin]
  | _ => if h : 0xA100 ≤ a ∧ (a - 0xA100) / 16 < 32 then s.captureWord p ⟨(a - 0xA100) / 16, h.2⟩ (a % 16) else 0

/-! ### Buffers -/

/-- A place in the mailbox windows: mailbox, whether it is in the reply buffer, offset in the buffer (R208). -/
structure BufAt where
  mbx   : MbxNo
  reply : Bool
  off   : Nat
  deriving DecidableEq, Repr

/-- The buffer byte at an offset of the window, for the class-3 mailbox selected (R207, R208). -/
def bufAt (sel : BitVec 3) (a : Nat) : Option BufAt :=
  if h : 0x1000 ≤ a ∧ a < 0x2000 then some ⟨⟨4 + (a - 0x1000) / 512, by omega⟩, decide (256 ≤ a % 512), a % 256⟩
  else if h : 0x2000 ≤ a ∧ a < 0x2080 then some ⟨⟨(a - 0x2000) / 32, by omega⟩, decide (16 ≤ a % 32), a % 16⟩
  else if h : 0x3000 ≤ a ∧ a < 0x4800 then some ⟨⟨12 + (a - 0x3000) / 512, by omega⟩, decide (256 ≤ a % 512), a % 256⟩
  else if 0x6000 ≤ a ∧ a < 0x8000 then some ⟨⟨24 + sel.toNat, by omega⟩, decide (0x7000 ≤ a), a % 4096⟩
  else none

/-- The buffers of classes 1 to 3 of a port are reachable: their half is not in reset (R1071); during boot they take a download (R147). -/
def State.buffersOpen (s : State) (p : Side) : Bool := (s.half.get p).run || !s.afterStep10

/-- A byte of a mailbox buffer. -/
def Port.bufByte (x : Port) (b : BufAt) : Byte := readCell 0 (if b.reply then x.mbx[b.mbx].rep else x.mbx[b.mbx].req) b.off

/-- The device ignores every transaction of its host ports: RST_N low or internal reset (R146). -/
def State.portsDead (s : State) : Bool := s.boot.stage == .inReset

/-- The byte a read of the window of a port returns (R205 to R207); nothing while the ports are dead (R146). -/
def State.winByte (s : State) (p : Side) (a : Nat) : Option Byte :=
  let x := s.port.get p
  if s.portsDead then none
  else some (
    if 0x1000 ≤ a ∧ a < 0x8000 then
      (match bufAt x.mbx3Sel a with
       | some b => if b.mbx.val < 4 || s.buffersOpen p then x.bufByte b else 0
       | none => 0)
    else if 0x0600 ≤ a ∧ a < 0x0800 then (x.evq.getD ((a - 0x600) / 32) []).getD (a % 32) 0
    else if 0x8020 ≤ a ∧ a < 0x8040 then s.recordByte s.flt.devFirst (a % 32)
    else if h : 0x8040 ≤ a ∧ (a - 0x8040) / 32 < 12 then s.recordByte s.quay[(a - 0x8040) / 32].first (a % 32)
    else if 0x9000 ≤ a ∧ a < 0xA000 then s.recordByte (s.logRecord ((if x.logPage then 128 else 0) + (a - 0x9000) / 32)) (a % 32)
    else if h : 0xB000 ≤ a ∧ (a - 0xB000) / 1024 < 12 then s.mirrorByte ⟨(a - 0xB000) / 1024, h.2⟩ ((a - 0xB000) % 1024)
    else BitVec.ofNat 8 (s.regNat p (a - a % 4) / 256 ^ (a % 4)))

end Sys2Proof.Machine
end

