-- ==== Sys2Proof/Machine/Configure.lean ====
section
/-! DEFINITION. The parameter, trace and flash commands (R121, R183 to R186, R281, R288, R306, R310 to R327): each answers the state after it
and the result. -/

namespace Sys2Proof.Machine

/-! ### Commits (R183 to R186, R310, R311, R315, R1069, R1070) -/

/-- A staged entry: address and value. -/
abbrev Staging := List (Word × Word)

/-- A staged address belongs to the protection set: access RWS or BO (R169, R172, R183). -/
def sealedAddr (a : Nat) : Bool :=
  match findRow a with
  | some (r, _, _) => r.acc == .rws || r.acc == .bo
  | none => false

/-- A staged entry names a writable parameter and holds a value of its range in the form of R1069. -/
def entryInRange (a : Nat) (v : Word) : Bool :=
  match findRow a with
  | some (r, _, _) => (r.acc == .rw || r.acc == .wo) && r.inRange v
  | none => false

/-- A word of `fb.pos_preset`: a commit of it presets the position whatever the value written before (R394). -/
def isPreset (a : Nat) : Bool := a / 0x100000 == 4 && (a % 0x1000 == 0x52 || a % 0x1000 == 0x53)

/-- The commit changes a run-locked parameter, or presets a position, whose owning quays are not all in OFF or ARMED (R310, R311). -/
def State.lockedChange (s t : State) (a : Nat) : Bool :=
  match findRow a with
  | some (r, _, _) => r.lock && (changed s t a || isPreset a) && !s.unlocked a
  | none => false

/-- The configuration with all staged entries; of equal addresses the entry staged last takes effect (R315). -/
def State.withEntries (s : State) (es : Staging) : State := es.foldl (fun u e => u.setParam e.1.toNat e.2) s

/-- The first staged entry that meets a condition. -/
def firstEntry (es : Staging) (f : Nat → Word → Bool) : Option Nat := es.findIdx? (fun e => f e.1.toNat e.2)

/-- The first staged entry of some addresses that a broken condition joins. -/
def touching (es : Staging) (as : List Nat) : Option Nat := firstEntry es (fun a _ => as.contains a)

/-- The last staged entry of an address. -/
def lastOf (es : Staging) (a : Nat) : Option Nat := (List.range es.length).reverse.find? (fun i => (es[i]?).any (fun e => e.1.toNat == a))

/-- The staged entry at which a broken condition fails: the value that lies outside its range where that is staged, else the first of the
entries it joins. -/
def CrossRule.failsAt (r : CrossRule) (es : Staging) : Option Nat := (r.range.bind (lastOf es)).or (touching es r.addrs)

/-- The RANGE check: every staged value in the range that holds for it, then the conditions between parameters that touch a staged entry,
all against the configuration that the commit leaves (R1070). -/
def State.rangeFail (t : State) (es : Staging) : Option Nat :=
  match firstEntry es (fun a v => !entryInRange a v) with
  | some i => some i
  | none =>
    let alone := (firstEntry es (fun a v => !t.fits a v)).toList
    (alone ++ (t.crossRules.filter (·.broken)).filterMap (fun r => r.failsAt es)).min?

/-- The claims after a commit, `none` where they fail (R72, R181). -/
def State.claimsAfter (t : State) (es : Staging) : Option (List PoolClaim) :=
  if es.any (fun e => isClaimAddr e.1.toNat) then t.resolveClaims else some t.claims

/-- The first staged entry that decides the budget of an engine over it (R121). -/
def State.budgetFail (t : State) (es : Staging) : Option Nat :=
  if es.any (fun e => isBudgetAddr e.1.toNat) then
    (t.overBudget).map (fun q =>
      (touching es ([q.val, q.val + 1].flatMap (fun n => [addr 2 n 0x20, addr 2 n 0x21]))).getD 0)
  else none

/-- The checks of a commit in the order of R183: status, advice and failing entry of the first that fails, or the claims it leaves. -/
def State.judgeCommit (s : State) (es : Staging) : (Byte × U16 × Nat) ⊕ List PoolClaim :=
  let t := s.withEntries es
  match firstEntry es (fun a _ => sealedAddr a) with
  | some i => .inl (stSealed, 0, i)
  | none =>
    match t.rangeFail es with
    | some i => .inl (stRange, 0, i)
    | none =>
      match firstEntry es (fun a _ => s.lockedChange t a) with
      | some i => .inl (stRefused, 0x0009, i)
      | none =>
        match t.claimsAfter es with
        | none => .inl (stOwnership, 0, (firstEntry es (fun a _ => isClaimAddr a)).getD 0)
        | some cs =>
          match t.budgetFail es with
          | some i => .inl (stBudget, 0, i)
          | none => .inr cs

/-- A refused commit: its notes (R172, R184). -/
def State.commitNotes (s : State) (status : Byte) : State :=
  (if status = stSealed then s.raiseDevice srcSealWrite else s).raiseDevice srcConfigRefused

/-- The table stores of the halves that run follow a commit before it takes effect (R36). -/
def State.refreshHalves (s : State) : State :=
  forAll [Side.a, Side.b] s (fun t h => if (t.half.get h).run then t.refreshHalf h else t)

/-- A parameter or table of a quay: a change of it affects the computation of the quay (R961). -/
def ofQuay (q : QuayNo) (a : Nat) : Bool :=
  (a / 0x100000 == 2 && a / 0x1000 % 256 == q.val) || (a / 0x100000 == 12 && a / 0x1000 % 16 == q.val)

/-- Post a commit to the shadow for each quay it concerns on which one is admitted: the iterations keep the parameters of before until the first
sample event after the acknowledgement (R961). -/
def State.postCommit (t : State) (s : State) (es : Staging) : State :=
  forAll (s.kernelQuays.filter (fun q => s.hm.grant.isSome && s.hm.admission[q] && es.any (fun e => ofQuay q e.1.toNat))) t (fun u q =>
    (u.modQuay q (fun x => { x with oldCfg := some (x.oldCfg.getD s.working) })).publish q)

/-- An applied commit (R36, R181, R186, R961): parameters, claims, COMMIT_COUNT, and what the new configuration starts. -/
def State.applyCommit (s : State) (es : Staging) (cs : List PoolClaim) : State :=
  ((State.startConfig s { (s.withEntries es).refreshHalves with claims := cs } (fun a => es.any (fun e => e.1.toNat == a))).postCommit s es).modBoot
    (fun b => { b with commitCount := b.commitCount + 1 })

/-- A commit of some entries (R183 to R186). -/
def State.commitEntries (s : State) (es : Staging) : State × Byte × U16 × Nat :=
  match s.judgeCommit es with
  | .inl (status, advice, i) => (s.commitNotes status, status, advice, i)
  | .inr cs => (s.applyCommit es cs, stDone, 0, 0xFFFF)

/-- COMMIT of the entries it carries (R281, R316, R317). -/
def State.doCommit (s : State) (es : Staging) : State × Result :=
  match s.commitEntries es with
  | (t, status, advice, i) => (t, ⟨status, advice, leBytes 2 i⟩)

/-- A command that is a commit of its own (R288). -/
def State.ownCommit (s : State) (es : Staging) : State × Result :=
  match s.commitEntries es with
  | (t, status, advice, _) => (t, ⟨status, advice, []⟩)

/-- A 32-bit field of a payload. -/
def word32 (bs : List Byte) (off : Nat) : Word := BitVec.ofNat 32 (field bs off 4)

/-- SET_SPEED (R281, R288). -/
def State.doSetSpeed (s : State) (q : QuayNo) (bs : List Byte) : State × Result :=
  s.ownCommit [(BitVec.ofNat 32 (quayAddr q 0x40), word32 bs 0)]

/-- SET_ACCEL (R281, R288). -/
def State.doSetAccel (s : State) (q : QuayNo) (bs : List Byte) : State × Result :=
  s.ownCommit [(BitVec.ofNat 32 (quayAddr q 0x41), word32 bs 0), (BitVec.ofNat 32 (quayAddr q 0x42), word32 bs 4)]

/-- SET_TORQUE_LIMIT (R281, R288): each limit in the form of R1069. -/
def State.doSetTorqueLimit (s : State) (q : QuayNo) (bs : List Byte) : State × Result :=
  let limit (off : Nat) : Word := (BitVec.ofNat 16 (field bs off 2)).signExtend 32
  s.ownCommit [(BitVec.ofNat 32 (quayAddr q 0x43), limit 0), (BitVec.ofNat 32 (quayAddr q 0x44), limit 2)]

/-! ### PARAM_READ, PARAM_STAGE, PARAM_INFO (R26, R281, R312 to R314, R320, R1069) -/

/-- An address of an unassigned block kind (R25, R26). One of more than 24 bits names no block kind and is defined by no template. -/
def noKind (a : Nat) : Bool := [0xB, 0xD, 0xE, 0xF].contains (a / 0x100000)

/-- The addresses of a PARAM_READ payload. -/
def readAddrs (bs : List Byte) : List Nat := (List.range (bs.getD 0 0).toNat).map (fun i => field bs (4 + 4 * i) 4)

/-- The undefined mask of R312. -/
def undefinedMask (vs : List (Option Word)) : Nat :=
  vs.foldr (fun v n => 2 * n + bit v.isNone 0) 0

/-- PARAM_READ (R281, R312). -/
def State.doParamRead (s : State) (bs : List Byte) : Result :=
  let as := readAddrs bs
  if as.any noKind then refusal stRange
  else
    let vs := as.map s.readParam
    doneWith ([bs.getD 0 0, 0, 0, 0] ++ vs.flatMap (fun v => leBytes 4 (v.getD 0).toNat) ++ leBytes 8 (undefinedMask vs))

/-- The entries of a PARAM_STAGE payload. -/
def stageEntries (bs : List Byte) : Staging :=
  (List.range (bs.getD 0 0).toNat).map (fun i => (word32 bs (4 + 8 * i), word32 bs (8 + 8 * i)))

/-- PARAM_STAGE (R281, R313, R314, R317): the area of the port that received it. -/
def State.doParamStage (s : State) (p : Side) (bs : List Byte) : State × Result :=
  let area := (s.port.get p).staging ++ stageEntries bs
  if 256 < area.length then (s, ⟨stRange, 0x000A, []⟩)
  else (s.modPort p (fun x => { x with staging := area }), doneWith (leBytes 2 area.length))

/-- STAGE_CLEAR (R281). -/
def State.doStageClear (s : State) (p : Side) : State × Result := (s.modPort p (fun x => { x with staging := [] }), doneR)

/-- Access codes of R320. -/
def accCode : PAcc → Nat
  | .ro => 0
  | .rw => 1
  | .rws => 2
  | .bo => 3
  | .wo => 4

/-- Parameters whose enable claims a pool resource (R181). -/
def claimsOnEnable (a : Nat) : Bool :=
  let idx := a % 0x1000
  match a / 0x100000 with
  | 0 => decide (0x600 ≤ idx ∧ idx < 0x620) || decide (0x300 ≤ idx ∧ idx < 0x304)
  | 2 => idx == 0x50
  | 4 => [0x20, 0x26, 0x30, 0x34].contains idx
  | 10 => idx == 0
  | _ => false

/-- The lowest and highest legal raw value of a row; a row of single values only has an empty range. -/
def PRow.limits (r : PRow) : Int × Int :=
  if r.lo ≤ r.hi then (r.vals.foldl min r.lo, r.vals.foldl max r.hi) else (r.vals.foldl min (r.vals.headD 0), r.vals.foldl max (r.vals.headD 0))

/-- The bounds of a parameter where those of its row depend on the quay, cell, leg or output it belongs to (R68, R124, R127, R331, R333, R820). -/
def State.limitsAt (s : State) (a : Nat) (r : PRow) : Int × Int :=
  let inst := a / 0x1000 % 256
  match r.kind, r.base with
  | 2, 0x020 =>
    match quayOfAddr a with
    | some q => (((s.carrierRange q).1 : Nat), ((s.carrierRange q).2 : Nat))
    | none => r.limits
  | 4, 0x000 => (0, if 8 ≤ inst then 3 else 4)
  | 4, 0x001 =>
    match cellOfNat inst with
    | some k => (1, if fbMode s k = 4 then 65536 else 16777216)
    | none => r.limits
  | 3, 0x000 => (0, if inst < 32 then 0 else 1)
  | 0, 0x403 => if a % 0x1000 < 0x420 then (255, 255) else (0, 31)
  | _, _ => r.limits

/-- The default of R320: of what the assembly or the image gives, what it gives. -/
def State.defaultAt (s : State) (a : Nat) (r : PRow) (i : Nat) : Int :=
  if r.acc == .bo || (r.kind == 2 && [0x023, 0x024, 0x066].contains r.base) then s.viewInt (a / 0x100000) (a / 0x1000 % 256) r.base i
  else rowDefault s a r i

/-- The descriptor of an address (R320); all zero where no template defines it. -/
def State.descriptor (s : State) (a : Nat) : List Byte :=
  match findRow a with
  | none => List.replicate 28 0
  | some (r, i, _) =>
    let flags := bit r.lock 0 + bit (s.boot.sealed && sealedAddr a) 1 + bit (claimsOnEnable a) 2
    [BitVec.ofNat 8 r.info, BitVec.ofNat 8 (accCode r.acc), BitVec.ofNat 8 flags, 0]
      ++ bytes64 (s.limitsAt a r).1 ++ bytes64 (s.limitsAt a r).2 ++ bytes64 (s.defaultAt a r i)

/-- PARAM_INFO (R281, R320). -/
def State.doParamInfo (s : State) (bs : List Byte) : Result :=
  let a := field bs 0 4
  if noKind a then refusal stRange else doneWith (s.descriptor a)

/-! ### Trace commands (R102, R181, R321 to R327) -/

/-- A trace region of a payload byte; a payload that passed its checks names one. -/
def regionOf (bs : List Byte) : Fin 16 := ⟨(bs.getD 0 0).toNat % 16, by omega⟩

/-- The descriptor of a TRACE_CONFIG payload (R321). -/
def traceDesc (bs : List Byte) : TraceDesc :=
  let b (i : Nat) := (bs.getD i 0).toNat
  { ring := b 1 == 1, trigKind := b 3, trigLevel := b 4, pre := b 5, quay := b 6, period := field bs 8 4
    trigValue := word32 bs 12, signals := (List.range (b 2)).map (fun i => word32 bs (16 + 4 * i)) }

/-- A signal that names a block kind of R26 or a word of a quay status mirror. -/
def signalOk (w : Word) : Bool :=
  if w.msb then
    let off := w.toNat % 2147483648
    decide (0xB000 ≤ off ∧ off < 0xE000 ∧ off % 4 = 0)
  else !noKind w.toNat

/-- A claim of a trace region or of its event slot. -/
def PoolClaim.ofRegion (c : PoolClaim) (r : Fin 16) : Bool := c.by_ == .trace r

/-- The lowest event slot of the pool that a region may claim beside some claims. -/
def State.freeSlot (s : State) (claims : List PoolClaim) (r : Fin 16) : Option (Fin 256) :=
  (List.finRange 256).find? (fun i => s.claimable claims (.trace r) 0x10 i.val)

/-- Start the event slot of a region. Its phase is a free value. -/
def State.startSlot (s : State) (claims : List PoolClaim) (r : Fin 16) (i : Fin 256) (period : Nat) : State :=
  let phase := (Config.freeInt s.free).toNat % period
  let s1 := s.drawn.modTb (fun t => { t with slots := t.slots.filter (fun e => e.slot != i) ++ [⟨i, period, phase, none⟩] })
  let s2 : State := { s1 with claims := claims ++ [⟨0x10, i.val, .trace r⟩] }
  s2.modTrace r (fun x => { x with slot := some i })

/-- Release the event slot of a region (R181, R325). -/
def State.releaseSlot (s : State) (r : Fin 16) : State :=
  let s1 : State := { s with claims := s.claims.filter (fun c => !(c.ofRegion r && c.cls == 0x10)) }
  let s2 := match s.trace[r].slot with
    | some i => s1.modTb (fun t => { t with slots := t.slots.filter (fun e => e.slot != i) })
    | none => s1
  s2.modTrace r (fun x => { x with slot := none })

/-- Put a descriptor into a region: no record, not armed, valid again. -/
def TraceRegion.configured (d : TraceDesc) : TraceRegion := { desc := some d }

/-- TRACE_CONFIG (R281, R321 to R323): claims are made as a whole or not at all (R72). -/
def State.doTraceConfig (s : State) (bs : List Byte) : State × Result :=
  let r := regionOf bs
  let d := traceDesc bs
  if d.signals.any (fun w => !signalOk w) then (s, refusal stRange)
  else if s.trace[r].armed then (s, refusal stBusy)
  else
    let others := s.claims.filter (fun c => !c.ofRegion r)
    if !s.claimable others (.trace r) 0x13 r.val then (s, refusal stOwnership)
    else
      let claims : List PoolClaim := others ++ [⟨0x13, r.val, .trace r⟩]
      let t := (s.releaseSlot r).modTrace r (fun _ => .configured d)
      if d.period = 0 then ({ t with claims := claims }, doneR)
      else
        match s.freeSlot claims r with
        | some i => (t.startSlot claims r i d.period, doneR)
        | none => (s, refusal stOwnership)

/-- TRACE_ARM (R281, R321, R325): a region that is armed already stays as it is; its slot is claimed anew where a TRACE_STOP released it. -/
def State.doTraceArm (s : State) (bs : List Byte) : State × Result :=
  let r := regionOf bs
  let x := s.trace[r]
  match x.desc with
  | none => (s, refusal stRange)
  | some d =>
    let arm (t : State) : State := t.modTrace r (fun y => { y with
      armed := true, stopped := false, triggered := d.trigKind == 0, recs := [], prevFirst := none })
    if x.armed then (s, doneR)
    else if d.period = 0 ∨ x.slot.isSome then (arm s, doneR)
    else
      match s.freeSlot s.claims r with
      | some i => (arm (s.startSlot s.claims r i d.period), doneR)
      | none => (s, refusal stOwnership)

/-- The bytes of a record (R324). -/
def TraceRec.bytes (x : TraceRec) : List Byte := leBytes 8 x.time ++ x.values.flatMap (fun v => leBytes 4 v.toNat)
/-- The captured data of a region, oldest record first (R324, R326). -/
def TraceRegion.data (x : TraceRegion) : List Byte := x.recs.flatMap TraceRec.bytes

/-- TRACE_STOP (R281, R325). -/
def State.doTraceStop (s : State) (bs : List Byte) : State × Result :=
  let r := regionOf bs
  ((s.releaseSlot r).modTrace r (fun x => { x with armed := false, stopped := true }), doneWith (leBytes 4 s.trace[r].data.length))

/-- TRACE_READ (R281, R326, R327). -/
def State.doTraceRead (s : State) (bs : List Byte) : Result :=
  let x := s.trace[regionOf bs]
  if x.invalid then refusal stRange
  else doneWith (leBytes 4 (field bs 4 4) ++ (x.data.drop (field bs 4 4)).take (field bs 8 2))

/-! ### FLASH_WRITE (R130, R281, R306) -/

/-- Erase the 4 KB sectors that a range of the flash touches. -/
def eraseSectors (m : List Host.Cell) (x n : Nat) : List Host.Cell :=
  m.filter (fun e => decide (e.1 < x / 4096 * 4096) || decide ((x + n - 1) / 4096 * 4096 + 4096 ≤ e.1))

/-- Program bytes into the flash: an erased byte takes the value written (log entry 6). -/
def programFlash (m : List Host.Cell) (x : Nat) : List Byte → List Host.Cell
  | [] => m
  | v :: rest =>
    let old := readCell erased m x
    programFlash (writeCell erased m x (if old = erased then v else Config.flashProgram old v)) (x + 1) rest

/-- FLASH_WRITE (R281, R306); a write past the 16 MB of a slot is out of range (R130). -/
def State.doFlashWrite (s : State) (bs : List Byte) : State × Result :=
  let slot := bs.getD 0 0 == 1
  let off := field bs 4 4
  let data := bs.drop 8
  if s.boot.src = (if slot then 1 else 0) then (s, refused 0x000D)
  else if 0x1000000 < off + data.length then (s, refusal stRange)
  else
    let x := slotBase slot + off
    let m := if bs.getD 1 0 == 1 then eraseSectors s.flash x data.length else s.flash
    ({ s with flash := programFlash m x data }, doneR)

end Sys2Proof.Machine
end

