-- ==== Sys2Proof/Machine/Host.lean ====
section
/-! DEFINITION. The mailboxes of classes 1 to 3 (R207 to R233, R255 to R262, R276, R278, R281): request, doorbell, judgement, forwarding and
reply. -/

namespace Sys2Proof.Machine

/-! ### Errors and bits of a port (R209) -/

/-- Set a bit of SPI_ERR: 0 PARTIAL, 1 ABORT, 2 C0_FRAME, 3 BUF_BUSY, 4 DB_BUSY, 5 DB_DOWN. -/
def State.spiError (s : State) (p : Side) (n : Nat) : State := s.modPort p (fun x => { x with spiErr := x.spiErr ||| (1#6 <<< n) })

/-- The bit of a mailbox. -/
def mbxBit (m : MbxNo) : Word := 1#32 <<< m.val

/-- A mailbox holds a request that has not been answered. -/
def Port.isBusy (x : Port) (m : MbxNo) : Bool := x.busy &&& mbxBit m != 0

/-- Change a mailbox of a port. -/
def State.modMbx (s : State) (p : Side) (m : MbxNo) (f : Mailbox → Mailbox) : State :=
  s.modPort p (fun x => { x with mbx := vmod x.mbx m f })

/-! ### Replies (R223, R226, R230) -/

/-- Write a reply into its buffer, set DONE and clear BUSY. -/
def State.answer (s : State) (p : Side) (m : MbxNo) (bytes : List Byte) : State :=
  (s.modMbx p m (fun x => { x with rep := writeCells 0 x.rep 0 bytes })).modPort p
    (fun x => { x with done := x.done ||| mbxBit m, busy := x.busy &&& ~~~ mbxBit m })

/-- Answer a request and keep its sequence number and reply. -/
def State.finish (s : State) (m : Msg) (r : Result) (forwarded : Bool) : State :=
  let bytes := replyBytes m r forwarded
  (s.modMbx m.port m.mbx (fun x => { x with kept := some (m.seq, bytes) })).answer m.port m.mbx bytes

/-! ### Commands as the half in charge applies them (R276, R278, R281, R284) -/

/-- What goes before a command to a quay whose snapshot has formed: the class-0 request flags that the snapshot carries, once (R244, R276), then
the limit inputs (R619). -/
def State.flagsFirst (s : State) (q : QuayNo) : State :=
  if s.quay[q].snap.complete then
    ((s.applyFlags q).modQuay q (fun x => { x with snap := { x.snap with quick := false, stop := false, release := false } })).limitStep q
  else s

/-- The quays that a command to the device is taken for: those of a MOVE_GROUP, those whose parameters a COMMIT sets, every quay for a stop
or an acknowledgement (R276, R284, R311). -/
def State.namedQuays (s : State) (m : Msg) (staging : Staging) : List QuayNo :=
  if m.opcode = 0x27 then (((groupAxes m.payload).filterMap id).map (·.1)).filter s.hasKernel
  else if m.opcode = 0x42 then allQuays.filter (fun q => staging.any (fun e => (s.lockQuays e.1.toNat).contains q))
  else if m.opcode = 0x23 ∨ m.opcode = 0x24 ∨ m.opcode = 0x2D then s.kernelQuays else []

/-- A state-changing command to a quay. -/
def State.quayCommand (s : State) (q : QuayNo) (m : Msg) (op : AcceptedOp) : State × Result :=
  let bs := m.payload
  match m.opcode.toNat with
  | 0x20 => s.doArm q op
  | 0x21 => s.doDisarm q
  | 0x22 => s.doStart q bs op
  | 0x23 => s.doStop q .ramp
  | 0x24 => s.doStop q .quick
  | 0x25 => s.doHold q
  | 0x26 => s.doMove q bs op
  | 0x28 => s.doJog q bs
  | 0x29 => s.doHome q bs op
  | 0x2A => s.doSetSpeed q bs
  | 0x2B => s.doSetAccel q bs
  | 0x2C => s.doSetTorqueLimit q bs
  | 0x2D => s.ackQuay q
  | _ => (s, refusal stRange)

/-- A state-changing command to the device; `staging` is the area a COMMIT carries. -/
def State.deviceCommand (s : State) (m : Msg) (op : AcceptedOp) (staging : Staging) : State × Result :=
  let bs := m.payload
  match m.opcode.toNat with
  | 0x23 => s.doStopAll .ramp
  | 0x24 => s.doStopAll .quick
  | 0x27 => s.doMoveGroup bs op
  | 0x2D => s.ackDevice
  | 0x42 => s.doCommit staging
  | 0x48 => s.doTraceConfig bs
  | 0x49 => s.doTraceArm bs
  | 0x4A => s.doTraceStop bs
  | 0x61 => s.doFlashWrite bs
  | _ => (s, refusal stRange)

/-- A state-changing command to a lane. -/
def State.laneCommand (s : State) (n : LaneNo) (m : Msg) (op : AcceptedOp) : State × Result :=
  if m.opcode = 0x2E then s.doDetach n else s.doAttach n op

/-- The note of a command refused with STATE_REFUSED (R278). -/
def State.noteRefusal (s : State) (t : Option Target) (status : Byte) : State :=
  if status = stRefused then
    (match t with
     | some (.quay q) => s.raiseQuay srcCmdRefused q
     | _ => s.raiseDevice srcCmdRefused)
  else s

/-- Apply a command that has passed its checks. -/
def State.perform (s : State) (m : Msg) (staging : Staging) (forwarded : Bool) : State × Result :=
  let op := m.op forwarded
  let t := targetOf m.target
  let o := match t with
    | some (.quay q) => (s.flagsFirst q).quayCommand q m op
    | some (.lane n) => s.laneCommand n m op
    | _ => (forAll (s.namedQuays m staging) s State.flagsFirst).deviceCommand m op staging
  (o.1.noteRefusal t o.2.status, o.2)

/-! ### Serving a request (R219, R220, R227 to R233, R255 to R257, R316) -/

/-- The half in charge applies a command, another serving half forwards it, and without a running half in charge it is refused. -/
def State.carryOut (s : State) (m : Msg) : State :=
  let staging := (s.port.get m.port).staging
  let s1 := if m.opcode = 0x42 then s.modPort m.port (fun x => { x with staging := [] }) else s
  if s1.inCharge m.port then
    let o := s1.perform m staging false
    o.1.finish m o.2 false
  else if s1.inCharge m.port.other && (s1.half.get m.port.other).run then
    (s1.post m.port (.forward m staging s1.now)).modIh (fun c => { c with waiting := c.waiting ++ [(m, s1.now)] })
  else s1.finish m (refusal stNotInCharge) false

/-- A request that has passed its checks: what only reads, and the staging area of the port, is the serving half's. -/
def State.route (s : State) (m : Msg) : State :=
  match m.opcode.toNat with
  | 0x40 => s.finish m (s.doParamRead m.payload) false
  | 0x41 =>
    let o := s.doParamStage m.port m.payload
    o.1.finish m o.2 false
  | 0x43 =>
    let o := s.doStageClear m.port
    o.1.finish m o.2 false
  | 0x44 => s.finish m (s.doParamInfo m.payload) false
  | 0x60 => s.finish m (s.doTraceRead m.payload) false
  | _ => s.carryOut m

/-- The kept reply of a repetition (R231). -/
def State.keptReply (s : State) (m : Msg) : Option (List Byte) :=
  match (s.port.get m.port).mbx[m.mbx].kept with
  | some (seq, bytes) => if m.retry && seq == m.seq then some bytes else none
  | none => none

/-- Two requests came through one port in one class for one target (R228). -/
def Msg.inLine (m n : Msg) : Bool := m.port == n.port && mbxClass m.mbx == mbxClass n.mbx && m.target == n.target

/-- The serving half sends a command on to the half in charge (R256): on the channel it stays behind the commands sent before it. -/
def State.sendsOn (s : State) (m : Msg) : Bool :=
  !([0x40, 0x41, 0x43, 0x44, 0x60].contains m.opcode.toNat) && !s.inCharge m.port && s.inCharge m.port.other

/-- A command of the same port, class and target is on its way from a half to the other (R228). -/
def State.inLineFrom (s : State) (h : Side) (m : Msg) : Bool :=
  (s.ih.from_.get h).any (fun x => match x with
    | .forward n _ _ => n.inLine m
    | _ => false)

/-- An earlier request of the same port, class and target has not been executed, and this one would overtake it (R228): on the channel it
stays behind the earlier one, unless a change of grant has turned that one back. -/
def State.mustWait (s : State) (m : Msg) : Bool :=
  (s.ih.waiting.any (fun e => e.1.inLine m) && (!s.sendsOn m || s.inLineFrom m.port.other m)) || (s.port.get m.port).held.any (fun n => (s.readRequest m.port n).msg.inLine m)

/-- A COMMIT that is refused before it is judged empties the staging area too (R316). -/
def State.refuseCommit (s : State) (m : Msg) : State :=
  if m.opcode = 0x42 ∧ mbxClass m.mbx = 2 then s.modPort m.port (fun x => { x with staging := [] }) else s

/-- The Pilot takes the request of a rung mailbox, or holds it behind an earlier one (R228). -/
def State.serve (s : State) (p : Side) (m : MbxNo) : State :=
  let r := s.readRequest p m
  if !r.crcOk then s.finish r.msg (refusal stCrc) false
  else
    match s.keptReply r.msg with
    | some bytes => s.answer p m bytes
    | none =>
      if s.mustWait r.msg then s.modPort p (fun x => { x with held := x.held ++ [m] })
      else
        match s.checkRequest r with
        | some st => (s.refuseCommit r.msg).finish r.msg (refusal st) false
        | none => s.route r.msg

/-- An earlier request of a port has been executed or given up: those held behind it are taken in their order (R228). -/
def State.serveHeld (s : State) (p : Side) : State :=
  forAll (s.port.get p).held (s.modPort p (fun x => { x with held := [] })) (fun t m => t.serve p m)

/-! ### Doorbells and request buffers (R144, R221, R222, R224, R225, R260, R1071) -/

/-- Ring one mailbox. -/
def State.ring (s : State) (p : Side) (m : MbxNo) : State :=
  if s.portsDead then s
  else if !(s.half.get p).run then s.spiError p 5
  else if !s.isReady then s
  else if (s.port.get p).isBusy m then s.spiError p 4
  else (s.modPort p (fun x => { x with busy := x.busy ||| mbxBit m, done := x.done &&& ~~~ mbxBit m })).serve p m

/-- A write of MBX_DOORBELL: mailboxes rung by one write are taken in ascending number (R227). -/
def State.doorbell (s : State) (p : Side) (mask : Word) : State :=
  forAll ((List.finRange 32).filter (fun m => decide (4 ≤ m.val) && (mask &&& mbxBit m != 0))) s (fun t m => t.ring p m)

/-- Write bytes into the request buffer of a mailbox of class 1 to 3, from its first byte on. -/
def State.putRequest (s : State) (p : Side) (m : MbxNo) (bytes : List Byte) : State :=
  if s.portsDead || !s.buffersOpen p then s
  else if (s.port.get p).isBusy m then s.spiError p 3
  else s.modMbx p m (fun x => { x with req := writeCells 0 x.req 0 (bytes.take (bufSize (mbxClass m))) })

/-- A host sends a message of class 1 to 3: MBX3_SEL for class 3, the request buffer, the doorbell (R221). -/
def State.exchange (s : State) (opcode : Byte) (p : Side) (m : MbxNo) (r : Req) : State :=
  if m.val < 4 then s
  else
    let s1 := if 24 ≤ m.val ∧ s.portsDead = false then s.modPort p (fun x => { x with mbx3Sel := BitVec.ofNat 3 (m.val - 24) }) else s
    (s1.putRequest p m (reqBytes opcode r)).ring p m

/-! ### Forwarded commands (R256 to R259, R982) -/

/-- A message on the channel reaches the other half and is acknowledged. -/
def State.takeFrom (s : State) (h : Side) : State := (s.popFrom h).ackFrom h

/-- A forwarded command reaches a half: it is applied in charge, goes on to a newly granted half, or is refused (R256, R257, R259). In charge
it follows an earlier one that this half sent back before the grant came here (R228). -/
def State.takeForward (s : State) (h : Side) (m : Msg) (staging : Staging) (at_ : Nat) : State :=
  if s.inCharge h && s.inLineFrom h m then s.post h (.forward m staging at_)
  else if s.inCharge h then
    let o := s.perform m staging (decide (m.port ≠ h))
    if m.port = h then
      (if s.ih.waiting.any (fun e => e.1 == m) then
        ((o.1.modIh (fun c => { c with waiting := c.waiting.filter (fun e => e.1 != m) })).finish m o.2 false).serveHeld m.port
      else o.1)
    else o.1.post h (.forwardReply m o.2)
  else if s.inCharge h.other && (s.half.get h.other).run then s.post h (.forward m staging at_)
  else s

/-- IH_FORWARD: a forwarded command at the head of the channel of one half reaches the other. -/
def execIhForward (s : State) : Host.Outcome State Fault Refusal :=
  match s.headFrom .a, s.headFrom .b with
  | some (.forward m staging t), _ => .next ((s.takeFrom .a).takeForward .b m staging t)
  | _, some (.forward m staging t) => .next ((s.takeFrom .b).takeForward .a m staging t)
  | _, _ => .next s

/-- A reply to a forwarded command reaches the half whose port it came through; one that comes too late is dropped (R256 to R258). -/
def State.takeReply (s : State) (m : Msg) (r : Result) : State :=
  if s.ih.waiting.any (fun e => e.1 == m) then
    ((s.modIh (fun c => { c with waiting := c.waiting.filter (fun e => e.1 != m) })).finish m r true).serveHeld m.port
  else s

/-- IH_FORWARD_REPLY. -/
def execIhForwardReply (s : State) : Host.Outcome State Fault Refusal :=
  match s.headFrom .a, s.headFrom .b with
  | some (.forwardReply m r), _ => .next ((s.takeFrom .a).takeReply m r)
  | _, some (.forwardReply m r) => .next ((s.takeFrom .b).takeReply m r)
  | _, _ => .next s

/-- A forwarded command has waited for `host.fwd_timeout`, or no half in charge runs (R257). -/
def State.forwardExpired (s : State) (e : Msg × Nat) : Bool :=
  let h := e.1.port.other
  decide (e.2 + us (hostFwdTimeout s e.1.port) ≤ s.now) || !(s.half.get h).run

/-- FORWARD_TIMEOUT (R257, R258): the receiving half answers NOT_IN_CHARGE. -/
def execForwardTimeout (s : State) : Host.Outcome State Fault Refusal :=
  match s.ih.waiting.find? s.forwardExpired with
  | some e =>
    .next (((s.modIh (fun c => { c with waiting := c.waiting.filter (fun x => x.1 != e.1) })).finish e.1 (refusal stNotInCharge) false).serveHeld
      e.1.port)
  | none => .next s

/-! ### The commands as a host sends them (R221, R281) -/

/-- ARM (R270, R287 to R291, R307). -/
def execArm (p : Side) (mbx : MbxNo) (r : Req) (s : State) : Host.Outcome State Fault Refusal :=
  .next (s.exchange 0x20 p mbx r)
/-- DISARM (R270, R307). -/
def execDisarm (p : Side) (mbx : MbxNo) (r : Req) (s : State) : Host.Outcome State Fault Refusal :=
  .next (s.exchange 0x21 p mbx r)
/-- START (R270, R292 to R298, R307). -/
def execStart (p : Side) (mbx : MbxNo) (r : Req) (s : State) : Host.Outcome State Fault Refusal :=
  .next (s.exchange 0x22 p mbx r)
/-- STOP (R270, R284, R307). -/
def execStop (p : Side) (mbx : MbxNo) (r : Req) (s : State) : Host.Outcome State Fault Refusal :=
  .next (s.exchange 0x23 p mbx r)
/-- QUICKSTOP (R270, R284, R307, R609). -/
def execQuickstop (p : Side) (mbx : MbxNo) (r : Req) (s : State) : Host.Outcome State Fault Refusal :=
  .next (s.exchange 0x24 p mbx r)
/-- HOLD (R270, R299, R307). -/
def execHold (p : Side) (mbx : MbxNo) (r : Req) (s : State) : Host.Outcome State Fault Refusal :=
  .next (s.exchange 0x25 p mbx r)
/-- MOVE (R287, R307, R590 to R600). -/
def execMove (p : Side) (mbx : MbxNo) (r : Req) (s : State) : Host.Outcome State Fault Refusal :=
  .next (s.exchange 0x26 p mbx r)
/-- MOVE_GROUP (R286, R287, R654 to R661). -/
def execMoveGroup (p : Side) (mbx : MbxNo) (r : Req) (s : State) : Host.Outcome State Fault Refusal :=
  .next (s.exchange 0x27 p mbx r)
/-- JOG (R300, R307, R599). -/
def execJog (p : Side) (mbx : MbxNo) (r : Req) (s : State) : Host.Outcome State Fault Refusal :=
  .next (s.exchange 0x28 p mbx r)
/-- HOME (R287, R307, R620). -/
def execHome (p : Side) (mbx : MbxNo) (r : Req) (s : State) : Host.Outcome State Fault Refusal :=
  .next (s.exchange 0x29 p mbx r)
/-- SET_SPEED (R288). -/
def execSetSpeed (p : Side) (mbx : MbxNo) (r : Req) (s : State) : Host.Outcome State Fault Refusal :=
  .next (s.exchange 0x2A p mbx r)
/-- SET_ACCEL (R288). -/
def execSetAccel (p : Side) (mbx : MbxNo) (r : Req) (s : State) : Host.Outcome State Fault Refusal :=
  .next (s.exchange 0x2B p mbx r)
/-- SET_TORQUE_LIMIT (R288). -/
def execSetTorqueLimit (p : Side) (mbx : MbxNo) (r : Req) (s : State) : Host.Outcome State Fault Refusal :=
  .next (s.exchange 0x2C p mbx r)
/-- ACK_FAULT (R284, R285, R301 to R303, R934 to R936). -/
def execAckFault (p : Side) (mbx : MbxNo) (r : Req) (s : State) : Host.Outcome State Fault Refusal :=
  .next (s.exchange 0x2D p mbx r)
/-- DETACH (R304, R305, R859). -/
def execDetach (p : Side) (mbx : MbxNo) (r : Req) (s : State) : Host.Outcome State Fault Refusal :=
  .next (s.exchange 0x2E p mbx r)
/-- ATTACH (R305, R861). -/
def execAttach (p : Side) (mbx : MbxNo) (r : Req) (s : State) : Host.Outcome State Fault Refusal :=
  .next (s.exchange 0x2F p mbx r)
/-- PARAM_READ (R255, R312). -/
def execParamRead (p : Side) (mbx : MbxNo) (r : Req) (s : State) : Host.Outcome State Fault Refusal :=
  .next (s.exchange 0x40 p mbx r)
/-- PARAM_STAGE (R313, R314, R317). -/
def execParamStage (p : Side) (mbx : MbxNo) (r : Req) (s : State) : Host.Outcome State Fault Refusal :=
  .next (s.exchange 0x41 p mbx r)
/-- COMMIT (R183 to R186, R315 to R317). -/
def execCommit (p : Side) (mbx : MbxNo) (r : Req) (s : State) : Host.Outcome State Fault Refusal :=
  .next (s.exchange 0x42 p mbx r)
/-- STAGE_CLEAR (R281). -/
def execStageClear (p : Side) (mbx : MbxNo) (r : Req) (s : State) : Host.Outcome State Fault Refusal :=
  .next (s.exchange 0x43 p mbx r)
/-- PARAM_INFO (R255, R320). -/
def execParamInfo (p : Side) (mbx : MbxNo) (r : Req) (s : State) : Host.Outcome State Fault Refusal :=
  .next (s.exchange 0x44 p mbx r)
/-- TRACE_CONFIG (R321 to R323). -/
def execTraceConfig (p : Side) (mbx : MbxNo) (r : Req) (s : State) : Host.Outcome State Fault Refusal :=
  .next (s.exchange 0x48 p mbx r)
/-- TRACE_ARM (R321, R325). -/
def execTraceArm (p : Side) (mbx : MbxNo) (r : Req) (s : State) : Host.Outcome State Fault Refusal :=
  .next (s.exchange 0x49 p mbx r)
/-- TRACE_STOP (R325). -/
def execTraceStop (p : Side) (mbx : MbxNo) (r : Req) (s : State) : Host.Outcome State Fault Refusal :=
  .next (s.exchange 0x4A p mbx r)
/-- TRACE_READ (R255, R326, R327). -/
def execTraceRead (p : Side) (mbx : MbxNo) (r : Req) (s : State) : Host.Outcome State Fault Refusal :=
  .next (s.exchange 0x60 p mbx r)
/-- FLASH_WRITE (R306). -/
def execFlashWrite (p : Side) (mbx : MbxNo) (r : Req) (s : State) : Host.Outcome State Fault Refusal :=
  .next (s.exchange 0x61 p mbx r)

end Sys2Proof.Machine
end

