-- ==== Sys2Proof/Machine/ClassZero.lean ====
section
/-! DEFINITION. Class-0 messages (R144, R204, R219, R240 to R254): the decoder in the front end of a port. -/

namespace Sys2Proof.Machine

/-- The class-0 opcodes (R242). -/
def c0Opcode (op : Byte) : Bool := [0x01, 0x02, 0x03, 0x04, 0x10, 0x11, 0x12].contains op.toNat

/-- The quays a class-0 message targets (R248): `none` where it is refused with RANGE. -/
def State.c0Targets (s : State) (op : Byte) (t : U16) : Option (List QuayNo) :=
  match targetOf t with
  | some .device => if op = 0x10 ∨ op = 0x11 then some s.kernelQuays else none
  | some (.quay q) => if s.hasKernel q then some [q] else none
  | _ => none

/-- What the acceptance table of a quay answers (R246). -/
def C0Buffer.judge (c : C0Buffer) (op : Byte) : C0Judge :=
  if op = 0x10 then c.jQuick else if op = 0x11 then c.jStop else if op = 0x12 then c.jRelease else c.jSet

/-- What an accepted message writes into the buffer of a quay (R242, R243). The feedforward is that of SET_SPEED_TORQUE; a speed that another
opcode gives ends it (R535; DEDUCED, log entry 37). -/
def C0Buffer.take (c : C0Buffer) (op : Byte) (m : C0Msg) : C0Buffer :=
  match op.toNat with
  | 0x01 => { c with torque := m.valA }
  | 0x02 => { c with speed := m.valA, ff := 0 }
  | 0x03 => { c with tension := m.valA }
  | 0x04 => { c with speed := m.valA, ff := m.valB }
  | 0x10 => { c with quick := true }
  | 0x11 => { c with stop := true }
  | 0x12 => { c with release := true }
  | _ => c

/-- The checks of R219 in their order: the refusal, or the quays the message targets. -/
def State.c0Check (s : State) (p : Side) (op : Byte) (m : C0Msg) : Byte ⊕ List QuayNo :=
  if m.crc ≠ crc16 ((c0Bytes op m).take 14) then .inl stCrc
  else if hostC0Enable s p = 0 then .inl stDisabled
  else if m.byte0.extractLsb' 6 2 ≠ 0 ∨ m.length ≠ 6 then .inl stRange
  else if !c0Opcode op then .inl stUnknown
  else
    match s.c0Targets op m.target with
    | none => .inl stRange
    | some qs => if qs.any (fun q => s.quay[q].c0.judge op == .refuse) then .inl stRefused else .inr qs

/-- The reply of a class-0 message (R220, R250): the grant time is zero where it was refused. -/
def c0Reply (op : Byte) (m : C0Msg) (status : Byte) (time : Nat) : List Byte :=
  let body := [replyByte0 0 false false, op] ++ leBytes 2 m.seq.toNat ++ leBytes 2 m.target.toNat ++ leBytes 2 6
    ++ [status, 0] ++ leBytes 4 (if status = stDone then time else 0)
  body ++ leBytes 2 (crc16 body).toNat

/-- A class-0 mailbox as one of the 32 of its port. -/
def c0Mbx (mb : Fin 4) : MbxNo := ⟨mb.val, by omega⟩

/-- Write the reply of a class-0 message, set DONE and count (R250). -/
def State.c0Answer (s : State) (p : Side) (mb : Fin 4) (op : Byte) (m : C0Msg) (status : Byte) : State :=
  (s.modMbx p (c0Mbx mb) (fun x => { x with rep := writeCells 0 x.rep 0 (c0Reply op m status s.now) })).modPort p (fun x => { x with
    done := x.done ||| mbxBit (c0Mbx mb)
    c0Accepted := if status = stDone then x.c0Accepted + 1 else x.c0Accepted
    c0Refused := if status = stDone then x.c0Refused else satInc x.c0Refused })

/-- A class-0 message whose 16 bytes have been written in one transaction (R144, R219, R240 to R254, R278). The path is open from step 10 on, at which
the set is sealed, until reset, in BOOT_HALT too (R252). -/
def State.classZero (s : State) (p : Side) (mb : Fin 4) (op : Byte) (m : C0Msg) : State :=
  if s.portsDead then s
  else if !s.boot.sealed then s.modBoot (fun b => { b with c0Drop := satInc b.c0Drop })
  else
    let s1 := s.modMbx p (c0Mbx mb) (fun x => { x with req := writeCells 0 x.req 0 (c0Bytes op m) })
    match s1.c0Check p op m with
    | .inl status => (s1.c0Answer p mb op m status).noteRefusal (targetOf m.target) status
    | .inr qs =>
      (forAll (qs.filter (fun q => s1.quay[q].c0.judge op == .accept)) s1
        (fun t q => t.modQuay q (fun x => { x with c0 := x.c0.take op m }))).c0Answer p mb op m stDone

/-- SET_TORQUE (R242 to R254). -/
def execSetTorque (p : Side) (mb : Fin 4) (m : C0Msg) (s : State) : Host.Outcome State Fault Refusal := .next (s.classZero p mb 0x01 m)
/-- SET_SPEED of class 0 (R242 to R254). -/
def execC0SetSpeed (p : Side) (mb : Fin 4) (m : C0Msg) (s : State) : Host.Outcome State Fault Refusal := .next (s.classZero p mb 0x02 m)
/-- SET_TENSION (R242 to R254). -/
def execSetTension (p : Side) (mb : Fin 4) (m : C0Msg) (s : State) : Host.Outcome State Fault Refusal := .next (s.classZero p mb 0x03 m)
/-- SET_SPEED_TORQUE (R242 to R254). -/
def execSetSpeedTorque (p : Side) (mb : Fin 4) (m : C0Msg) (s : State) : Host.Outcome State Fault Refusal :=
  .next (s.classZero p mb 0x04 m)
/-- QUICKSTOP of class 0 (R242 to R252). -/
def execC0Quickstop (p : Side) (mb : Fin 4) (m : C0Msg) (s : State) : Host.Outcome State Fault Refusal := .next (s.classZero p mb 0x10 m)
/-- STOP of class 0 (R242 to R252). -/
def execC0Stop (p : Side) (mb : Fin 4) (m : C0Msg) (s : State) : Host.Outcome State Fault Refusal := .next (s.classZero p mb 0x11 m)
/-- QUICK_RELEASE (R242 to R252). -/
def execQuickRelease (p : Side) (mb : Fin 4) (m : C0Msg) (s : State) : Host.Outcome State Fault Refusal := .next (s.classZero p mb 0x12 m)

/-- A class-0 request buffer is written in any other way (R241). -/
def State.c0Discard (s : State) (p : Side) : State := (s.spiError p 2).modPort p (fun x => { x with c0Refused := satInc x.c0Refused })

/-- C0_FRAME (R204, R241). -/
def execC0Frame (p : Side) (_mb : Fin 4) (s : State) : Host.Outcome State Fault Refusal :=
  if s.portsDead then .next s else .next (s.c0Discard p)

end Sys2Proof.Machine
end

