-- ==== Sys2Proof/Machine/Registers.lean ====
section
/-! DEFINITION. Register writes and reads with effect through a host window (R12, R92, R96, R146, R151, R201 to R206, R209, R239 to R241, R929,
R1014, R1046, R1071), and the scrubber (R37 to R41). -/

namespace Sys2Proof.Machine

/-! ### Single registers -/

/-- A write of EVQ_TAIL: a value that would pass EVQ_HEAD has no effect (R239). -/
def Port.moveTail (x : Port) (v : BitVec 4) : Port := if v - x.evqTail ≤ x.evqHead - x.evqTail then { x with evqTail := v } else x

/-- W1C bits of HOST_IRQ_STATUS (R209). -/
def Port.clearIrq (x : Port) (v : Word) : Port :=
  { x with
    irqFault := x.irqFault && !v.getLsbD 2, irqRole := x.irqRole && !v.getLsbD 3, irqLost := x.irqLost && !v.getLsbD 4
    irqBack := x.irqBack && !v.getLsbD 5, irqBound := x.irqBound && !v.getLsbD 6 }

/-- W1C bits of a capture register, common to both windows (R96). -/
def Capture.clear (c : Capture) (v : Word) : Capture :=
  { c with fresh := c.fresh && !v.getLsbD 0, overrun := c.overrun && !v.getLsbD 1 }

/-- A write of DL_CTRL through the download port (R146 to R148). -/
def State.writeDlCtrl (s : State) (p : Side) (v : Word) : State :=
  let len := v.setWidth 13
  let s1 := s.modPort p (fun x => { x with dlLen := len })
  if v.getLsbD 16 then s1.takeChunk p len else s1

/-- A whole word written to a register (R12, R202); offsets that no map assigns, and read-only fields, keep what they hold (R206). -/
def State.writeReg (s : State) (p : Side) (a : Nat) (v : Word) : State :=
  match a with
  | 0x0120 => if s.dlSelected p then s.writeDlCtrl p v else s
  | 0x0124 => if s.dlSelected p then s.modPort p (fun x => { x with dlOffset := v }) else s
  | 0x0128 => if s.dlPort = some p then s.modDl (fun d => { d with seqErr := d.seqErr && !v.getLsbD 2 }) else s
  | 0x0164 => s.modSupply (fun x => { x with cause := x.cause &&& ~~~ v.setWidth 5 })
  | 0x0170 => s.modPins (fun x => { x with haltDisc := x.haltDisc && !v.getLsbD 10 })
  | 0x0400 => s.doorbell p v
  | 0x0404 => s.modPort p (fun x => { x with done := x.done &&& ~~~ v })
  | 0x040C => s.modPort p (fun x => { x with irqEn := v })
  | 0x0410 => s.modPort p (fun x => x.clearIrq v)
  | 0x0414 => s.modPort p (fun x => { x with hostIrqEn := v.setWidth 7 })
  | 0x0418 => s.modPort p (fun x => { x with mbx3Sel := v.setWidth 3 })
  | 0x041C => s.modPort p (fun x => { x with spiErr := x.spiErr &&& ~~~ v.setWidth 6 })
  | 0x0424 => s.modPort p (fun x => x.moveTail (v.setWidth 4))
  | 0x8000 => s.modFlt (fun f => { f with errHold := v.getLsbD 0 })
  | 0x8010 => s.modPort p (fun x => { x with logPage := v.getLsbD 0 })
  | _ =>
    if h : 0xA10C ≤ a ∧ a % 16 = 12 ∧ (a - 0xA10C) / 16 < 32 then
      s.modTb (fun t => { t with cap := vmod t.cap ⟨(a - 0xA10C) / 16, h.2.2⟩ (fun c => c.clear v) })
    else s

/-! ### Transactions (R201 to R204, R240, R241) -/

/-- The class-0 mailbox in whose request buffer an offset lies (R208). -/
def c0ReqAt (a : Nat) : Option (Fin 4) :=
  if h : 0x2000 ≤ a ∧ a < 0x2080 then (if a % 32 < 16 then some ⟨(a - 0x2000) / 32, by omega⟩ else none) else none

/-- The regions of whole words (R202). -/
def wordRegion (a : Nat) : Bool := decide (a < 0x1000) || decide (0x8000 ≤ a)

/-- A byte written in the mailbox data windows, outside the class-0 request buffers (R203, R225, R1071). -/
def State.writeBufByte (s : State) (p : Side) (a : Nat) (v : Byte) : State :=
  match bufAt (s.port.get p).mbx3Sel a with
  | none => s
  | some b =>
    if b.mbx.val < 4 then (if b.reply then s.modMbx p b.mbx (fun x => { x with rep := writeCell 0 x.rep b.off v }) else s)
    else if !s.buffersOpen p then s
    else if b.reply then s.modMbx p b.mbx (fun x => { x with rep := writeCell 0 x.rep b.off v })
    else if (s.port.get p).isBusy b.mbx then s.spiError p 3
    else s.modMbx p b.mbx (fun x => { x with req := writeCell 0 x.req b.off v })

/-- The bytes of a transaction from an offset on: words, buffer bytes; an incomplete word is discarded with SPI_ERR.PARTIAL (R202, R203). -/
def State.writeBytes (s : State) (p : Side) (a : Nat) : List Byte → State
  | [] => s
  | b0 :: b1 :: b2 :: b3 :: rest =>
    if wordRegion a then
      (if a % 4 = 0 then (s.writeReg p a (BitVec.ofNat 32 (leNat [b0, b1, b2, b3]))).writeBytes p ((a + 4) % 65536) rest
       else (s.spiError p 0).writeBytes p ((a + 1) % 65536) (b1 :: b2 :: b3 :: rest))
    else (s.writeBufByte p a b0).writeBytes p ((a + 1) % 65536) (b1 :: b2 :: b3 :: rest)
  | b0 :: rest =>
    (if wordRegion a then s.spiError p 0 else s.writeBufByte p a b0).writeBytes p ((a + 1) % 65536) rest

/-- The class-0 request buffers that a transaction of some bytes from an offset on touches. -/
def c0Touched (a n : Nat) : List (Fin 4) :=
  (List.finRange 4).filter (fun m => (List.range n).any (fun i => c0ReqAt ((a + i) % 65536) == some m))

/-- A byte left incomplete at an offset (R204). -/
def State.abortAt (s : State) (p : Side) (a : Nat) : State :=
  let s1 := s.spiError p 1
  if wordRegion a then s1.spiError p 0 else s1

/-- The instructions of a write on one, two and four lines (R200). -/
def isWriteInstruction (i : Byte) : Bool := i == 0x00 || i == 0x10 || i == 0x20
/-- The instructions of a read on one, two and four lines (R200). -/
def isReadInstruction (i : Byte) : Bool := i == 0x80 || i == 0x90 || i == 0xA0

/-- A read of DEVTIME_LO latches DEVTIME_HI for its port (R92). -/
def State.latchDevTime (s : State) (p : Side) : State :=
  s.modTb (fun t => { t with devHi := t.devHi.set p (BitVec.ofNat 32 (t.now / 4294967296)) })

/-- A read of CAP_TIME_LO latches CAP_TIME_HI of the register for its port (R96). -/
def State.latchCapTime (s : State) (p : Side) (c : Fin 32) : State :=
  s.modTb (fun t => { t with capHi := t.capHi.set p ((t.capHi.get p).set c (BitVec.ofNat 32 (t.cap[c].time / 4294967296))) })

/-- What the transfer of the byte at an offset latches: a register word is sampled with its first byte (R92, R96, R205). -/
def State.readEffect (s : State) (p : Side) (a : Nat) : State :=
  if a = 0xA000 then s.latchDevTime p
  else if h : 0xA100 ≤ a ∧ a % 16 = 0 ∧ (a - 0xA100) / 16 < 32 then s.latchCapTime p ⟨(a - 0xA100) / 16, h.2.2⟩
  else s

/-- The bytes of a read transaction from an offset on, and the state after it (R199, R201, R205). -/
def State.readBytes (s : State) (p : Side) (a : Nat) : Nat → List (Option Byte) × State
  | 0 => ([], s)
  | n + 1 =>
    let s1 := s.readEffect p a
    let r := s1.readBytes p ((a + 1) % 65536) n
    (s1.winByte p a :: r.1, r.2)

/-- What a transaction with an instruction byte returns: the bytes of a read, and of any other instruction nothing (R200). -/
def State.returned (s : State) (p : Side) (addr : PortAddr) (n : Nat) : List (Option Byte) :=
  if isReadInstruction addr.instr then (s.readBytes p addr.at_.toNat n).1 else List.replicate n none

/-- REGISTER_WRITE (R201 to R204, R240, R241): one write transaction of complete bytes, with or without a byte left incomplete at its end. -/
def State.transaction (s : State) (p : Side) (a : Nat) (data : List Byte) (incomplete : Bool) : State :=
  let n := data.length + (if incomplete then 1 else 0)
  let abort (t : State) : State := if incomplete then t.abortAt p ((a + data.length) % 65536) else t
  if s.portsDead || n == 0 then s
  else
    match c0ReqAt a with
    | some mb =>
      if a % 32 = 0 ∧ data.length = 16 then abort (s.classZero p mb (data.getD 1 0) (c0Parse data)) else abort (s.c0Discard p)
    | none => abort ((c0Touched a n).foldl (fun t _ => t.c0Discard p) (s.writeBytes p a data))

/-- REGISTER_WRITE (R199 to R205): a transaction with its instruction, address and data. A read instruction reads as many bytes, whose
latches it takes, and with an instruction that R200 does not list the port ignores the transaction. -/
def execRegisterWrite (p : Side) (addr : PortAddr) (data : List Byte) (incomplete : Bool) (s : State) :
    Host.Outcome State Fault Refusal :=
  if isWriteInstruction addr.instr then .next (s.transaction p addr.at_.toNat data incomplete)
  else if isReadInstruction addr.instr && !s.portsDead then .next (s.readBytes p addr.at_.toNat data.length).2
  else .next s

/-- EVQ_TAIL_WRITE (R236, R239). -/
def execEvqTailWrite (p : Side) (v : BitVec 4) (s : State) : Host.Outcome State Fault Refusal :=
  if s.portsDead then .next s else .next (s.modPort p (fun x => x.moveTail v))

/-- ERR_PIN_HOLD_WRITE (R929, R932). -/
def execErrPinHoldWrite (_p : Side) (level : Bool) (s : State) : Host.Outcome State Fault Refusal :=
  if s.portsDead then .next s else .next (s.modFlt (fun f => { f with errHold := level }))

/-- DEVTIME_LO_READ (R92): the read latches DEVTIME_HI for its port. -/
def execDevtimeLoRead (p : Side) (s : State) : Host.Outcome State Fault Refusal :=
  if s.portsDead then .next s
  else .next (s.latchDevTime p)

/-- CAP_TIME_LO_READ (R96): the read latches CAP_TIME_HI of the register for its port. -/
def execCapTimeLoRead (p : Side) (c : Fin 32) (s : State) : Host.Outcome State Fault Refusal :=
  if s.portsDead then .next s
  else .next (s.latchCapTime p c)

/-! ### The scrubber (R37 to R41) -/

/-- What one finding of a scrub pass does. -/
def State.scrubbed (s : State) : ScrubFinding → State
  | .single => s.raiseDevice srcEccCorr
  | .doubleHalf h => s.raiseHalf srcEccHalf h
  | .doubleTrace r => (s.modTrace r (fun x => { x with invalid := true })).raiseDevice srcEccTrace
  | .doubleParam => s.raiseDevice srcEccParam

/-- SCRUB_PASS (R37 to R41). -/
def execScrubPass (findings : List ScrubFinding) (s : State) : Host.Outcome State Fault Refusal :=
  if s.portsDead then .next s else .next (forAll findings s State.scrubbed)

end Sys2Proof.Machine
end

