-- ==== Sys2Proof/Machine/Dispatch.lean ====
section
/-! DEFINITION. One arm per command: each calls its meaning. -/

namespace Sys2Proof.Machine

/-- The effect of a command on everything but the queue. -/
def exec (i : Instr) (s : State) : Host.Outcome State Fault Refusal :=
  match i with
  | .powerGood => Sys2Proof.Machine.execPowerGood s
  | .brownOut below => Sys2Proof.Machine.execBrownOut below s
  | .rstNAssert => Sys2Proof.Machine.execRstNAssert s
  | .rstNRelease bootsel mpref => Sys2Proof.Machine.execRstNRelease bootsel mpref s
  | .timeBaseLock => Sys2Proof.Machine.execTimeBaseLock s
  | .tbNoLock => Sys2Proof.Machine.execTbNoLock s
  | .halfDigestReady h answers0 answers1 reqA reqB => Sys2Proof.Machine.execHalfDigestReady h answers0 answers1 reqA reqB s
  | .halfBootFail h => Sys2Proof.Machine.execHalfBootFail h s
  | .prefWaitExpiry => Sys2Proof.Machine.execPrefWaitExpiry s
  | .discoveryEnd => Sys2Proof.Machine.execDiscoveryEnd s
  | .downloadChunk p len => Sys2Proof.Machine.execDownloadChunk p len s
  | .fuseCommand cmd signer => Sys2Proof.Machine.execFuseCommand cmd signer s
  | .delayLineCal within => Sys2Proof.Machine.execDelayLineCal within s
  | .refLoss => Sys2Proof.Machine.execRefLoss s
  | .sensorWindowEnd counts temps => Sys2Proof.Machine.execSensorWindowEnd counts temps s
  | .captureEdge c rising => Sys2Proof.Machine.execCaptureEdge c rising s
  | .sampleEvent q legs vm => Sys2Proof.Machine.execSampleEvent q legs vm s
  | .updatePoint q => Sys2Proof.Machine.execUpdatePoint q s
  | .traceCapture r share => Sys2Proof.Machine.execTraceCapture r share s
  | .sdcResync m => Sys2Proof.Machine.execSdcResync m s
  | .emulationTiming k => Sys2Proof.Machine.execEmulationTiming k s
  | .timedEvent slot => Sys2Proof.Machine.execTimedEvent slot s
  | .snapshotComplete q => Sys2Proof.Machine.execSnapshotComplete q s
  | .inputDeadline q => Sys2Proof.Machine.execInputDeadline q s
  | .iterationComplete q e => Sys2Proof.Machine.execIterationComplete q e s
  | .legCommandArrival l h claim src => Sys2Proof.Machine.execLegCommandArrival l h claim src s
  | .gateWatch l sw => Sys2Proof.Machine.execGateWatch l sw s
  | .gateOnUncommanded l sw => Sys2Proof.Machine.execGateOnUncommanded l sw s
  | .gateOnTimeout l sw => Sys2Proof.Machine.execGateOnTimeout l sw s
  | .bootRefresh l => Sys2Proof.Machine.execBootRefresh l s
  | .refreshRepeat l => Sys2Proof.Machine.execRefreshRepeat l s
  | .bootUv l => Sys2Proof.Machine.execBootUv l s
  | .bootUvClear l => Sys2Proof.Machine.execBootUvClear l s
  | .shortCircuit l d current => Sys2Proof.Machine.execShortCircuit l d current s
  | .blankingEnd l current => Sys2Proof.Machine.execBlankingEnd l current s
  | .vmOv d mv => Sys2Proof.Machine.execVmOv d mv s
  | .vmUv d mv => Sys2Proof.Machine.execVmUv d mv s
  | .chopperOn c => Sys2Proof.Machine.execChopperOn c s
  | .chopperOff c => Sys2Proof.Machine.execChopperOff c s
  | .chopperLong m => Sys2Proof.Machine.execChopperLong m s
  | .enableLow g => Sys2Proof.Machine.execEnableLow g s
  | .enableToggle g => Sys2Proof.Machine.execEnableToggle g s
  | .haltAssert ch => Sys2Proof.Machine.execHaltAssert ch s
  | .haltRelease ch => Sys2Proof.Machine.execHaltRelease ch s
  | .haltDisc => Sys2Proof.Machine.execHaltDisc s
  | .fbEdge k a b => Sys2Proof.Machine.execFbEdge k a b s
  | .hallChange k st => Sys2Proof.Machine.execHallChange k st s
  | .indexLatch k => Sys2Proof.Machine.execIndexLatch k s
  | .fbWire k => Sys2Proof.Machine.execFbWire k s
  | .ssiFrameEnd k frame => Sys2Proof.Machine.execSsiFrameEnd k frame s
  | .sincosConversion k sin cos => Sys2Proof.Machine.execSincosConversion k sin cos s
  | .quadrantChange k a b => Sys2Proof.Machine.execQuadrantChange k a b s
  | .fbStillTimeout k => Sys2Proof.Machine.execFbStillTimeout k s
  | .comparePulseEnd k => Sys2Proof.Machine.execComparePulseEnd k s
  | .probeEdge q rising => Sys2Proof.Machine.execProbeEdge q rising s
  | .sdValueReady n raw => Sys2Proof.Machine.execSdValueReady n raw s
  | .sdOverrange n => Sys2Proof.Machine.execSdOverrange n s
  | .limitInputChange q side shown => Sys2Proof.Machine.execLimitInputChange q side shown s
  | .armComplete q => Sys2Proof.Machine.execArmComplete q s
  | .armTimeout q => Sys2Proof.Machine.execArmTimeout q s
  | .stopDwellExpiry q => Sys2Proof.Machine.execStopDwellExpiry q s
  | .moveArrival q => Sys2Proof.Machine.execMoveArrival q s
  | .holdDelayExpiry q => Sys2Proof.Machine.execHoldDelayExpiry q s
  | .catchTimeout q => Sys2Proof.Machine.execCatchTimeout q s
  | .observeWindowEnd q => Sys2Proof.Machine.execObserveWindowEnd q s
  | .ifTimeout q => Sys2Proof.Machine.execIfTimeout q s
  | .speedError q => Sys2Proof.Machine.execSpeedError q s
  | .tensionDwellExpiry q => Sys2Proof.Machine.execTensionDwellExpiry q s
  | .tensionHigh q => Sys2Proof.Machine.execTensionHigh q s
  | .ibexSaturationStall q => Sys2Proof.Machine.execIbexSaturationStall q s
  | .homeStallDetect q => Sys2Proof.Machine.execHomeStallDetect q s
  | .mirrorRefresh q => Sys2Proof.Machine.execMirrorRefresh q s
  | .signalDetect n => Sys2Proof.Machine.execSignalDetect n s
  | .trainingComplete l => Sys2Proof.Machine.execTrainingComplete l s
  | .gwPong n seq turnaround => Sys2Proof.Machine.execGwPong n seq turnaround s
  | .gwIdent n ident => Sys2Proof.Machine.execGwIdent n ident s
  | .identTimeout n => Sys2Proof.Machine.execIdentTimeout n s
  | .gwTrainFail n => Sys2Proof.Machine.execGwTrainFail n s
  | .trainRetry n => Sys2Proof.Machine.execTrainRetry n s
  | .gwSyncSend n => Sys2Proof.Machine.execGwSyncSend n s
  | .gwStatus n frame => Sys2Proof.Machine.execGwStatus n frame s
  | .laneLoss n => Sys2Proof.Machine.execLaneLoss n s
  | .gwBadFrame n reason => Sys2Proof.Machine.execGwBadFrame n reason s
  | .hwPortUp p => Sys2Proof.Machine.execHwPortUp p s
  | .hwPortLoss p => Sys2Proof.Machine.execHwPortLoss p s
  | .hwDiscSend => Sys2Proof.Machine.execHwDiscSend s
  | .hwDisc p hdr disc => Sys2Proof.Machine.execHwDisc p hdr disc s
  | .hwTopo p hdr lost port => Sys2Proof.Machine.execHwTopo p hdr lost port s
  | .hwTimeSend => Sys2Proof.Machine.execHwTimeSend s
  | .hwTime p hdr stamp correction => Sys2Proof.Machine.execHwTime p hdr stamp correction s
  | .hwAlignLost => Sys2Proof.Machine.execHwAlignLost s
  | .hwPing p => Sys2Proof.Machine.execHwPing p s
  | .hwPong p turnaround => Sys2Proof.Machine.execHwPong p turnaround s
  | .hwShare p hdr share => Sys2Proof.Machine.execHwShare p hdr share s
  | .hwShareStat p hdr stat => Sys2Proof.Machine.execHwShareStat p hdr stat s
  | .memberWindowEnd => Sys2Proof.Machine.execMemberWindowEnd s
  | .hwBadFrame p reason => Sys2Proof.Machine.execHwBadFrame p reason s
  | .faultArrival place => Sys2Proof.Machine.execFaultArrival place s
  | .faultOrdered => Sys2Proof.Machine.execFaultOrdered s
  | .conseqWindowEnd window => Sys2Proof.Machine.execConseqWindowEnd window s
  | .errPulseEnd => Sys2Proof.Machine.execErrPulseEnd s
  | .fabricStall => Sys2Proof.Machine.execFabricStall s
  | .scrubPass findings => Sys2Proof.Machine.execScrubPass findings s
  | .checkTrip h cause engine => Sys2Proof.Machine.execCheckTrip h cause engine s
  | .heartbeatTimeout h => Sys2Proof.Machine.execHeartbeatTimeout h s
  | .checkSelftest h pass => Sys2Proof.Machine.execCheckSelftest h pass s
  | .halfRejoin h => Sys2Proof.Machine.execHalfRejoin h s
  | .ihChange => Sys2Proof.Machine.execIhChange s
  | .ihChangeAck => Sys2Proof.Machine.execIhChangeAck s
  | .ihForward => Sys2Proof.Machine.execIhForward s
  | .ihForwardReply => Sys2Proof.Machine.execIhForwardReply s
  | .ihKstate => Sys2Proof.Machine.execIhKstate s
  | .ihPatch ok => Sys2Proof.Machine.execIhPatch ok s
  | .ihAliveSend h => Sys2Proof.Machine.execIhAliveSend h s
  | .halfLink => Sys2Proof.Machine.execHalfLink s
  | .forwardTimeout => Sys2Proof.Machine.execForwardTimeout s
  | .mforceAssert h => Sys2Proof.Machine.execMforceAssert h s
  | .mforceRelease h => Sys2Proof.Machine.execMforceRelease h s
  | .supplyWarning rail side value => Sys2Proof.Machine.execSupplyWarning rail side value s
  | .vgdHold d => Sys2Proof.Machine.execVgdHold d s
  | .vgdHoldRelease d => Sys2Proof.Machine.execVgdHoldRelease d s
  | .arm p mbx r => Sys2Proof.Machine.execArm p mbx r s
  | .disarm p mbx r => Sys2Proof.Machine.execDisarm p mbx r s
  | .start p mbx r => Sys2Proof.Machine.execStart p mbx r s
  | .stop p mbx r => Sys2Proof.Machine.execStop p mbx r s
  | .quickstop p mbx r => Sys2Proof.Machine.execQuickstop p mbx r s
  | .hold p mbx r => Sys2Proof.Machine.execHold p mbx r s
  | .move p mbx r => Sys2Proof.Machine.execMove p mbx r s
  | .moveGroup p mbx r => Sys2Proof.Machine.execMoveGroup p mbx r s
  | .jog p mbx r => Sys2Proof.Machine.execJog p mbx r s
  | .home p mbx r => Sys2Proof.Machine.execHome p mbx r s
  | .setSpeed p mbx r => Sys2Proof.Machine.execSetSpeed p mbx r s
  | .setAccel p mbx r => Sys2Proof.Machine.execSetAccel p mbx r s
  | .setTorqueLimit p mbx r => Sys2Proof.Machine.execSetTorqueLimit p mbx r s
  | .ackFault p mbx r => Sys2Proof.Machine.execAckFault p mbx r s
  | .detach p mbx r => Sys2Proof.Machine.execDetach p mbx r s
  | .attach p mbx r => Sys2Proof.Machine.execAttach p mbx r s
  | .paramRead p mbx r => Sys2Proof.Machine.execParamRead p mbx r s
  | .paramStage p mbx r => Sys2Proof.Machine.execParamStage p mbx r s
  | .commit p mbx r => Sys2Proof.Machine.execCommit p mbx r s
  | .stageClear p mbx r => Sys2Proof.Machine.execStageClear p mbx r s
  | .paramInfo p mbx r => Sys2Proof.Machine.execParamInfo p mbx r s
  | .traceConfig p mbx r => Sys2Proof.Machine.execTraceConfig p mbx r s
  | .traceArm p mbx r => Sys2Proof.Machine.execTraceArm p mbx r s
  | .traceStop p mbx r => Sys2Proof.Machine.execTraceStop p mbx r s
  | .traceRead p mbx r => Sys2Proof.Machine.execTraceRead p mbx r s
  | .flashWrite p mbx r => Sys2Proof.Machine.execFlashWrite p mbx r s
  | .setTorque p mb m => Sys2Proof.Machine.execSetTorque p mb m s
  | .c0SetSpeed p mb m => Sys2Proof.Machine.execC0SetSpeed p mb m s
  | .setTension p mb m => Sys2Proof.Machine.execSetTension p mb m s
  | .setSpeedTorque p mb m => Sys2Proof.Machine.execSetSpeedTorque p mb m s
  | .c0Quickstop p mb m => Sys2Proof.Machine.execC0Quickstop p mb m s
  | .c0Stop p mb m => Sys2Proof.Machine.execC0Stop p mb m s
  | .quickRelease p mb m => Sys2Proof.Machine.execQuickRelease p mb m s
  | .c0Frame p mb => Sys2Proof.Machine.execC0Frame p mb s
  | .devtimeLoRead p => Sys2Proof.Machine.execDevtimeLoRead p s
  | .capTimeLoRead p c => Sys2Proof.Machine.execCapTimeLoRead p c s
  | .evqTailWrite p v => Sys2Proof.Machine.execEvqTailWrite p v s
  | .errPinHoldWrite p level => Sys2Proof.Machine.execErrPinHoldWrite p level s
  | .registerWrite p addr data incomplete => Sys2Proof.Machine.execRegisterWrite p addr data incomplete s
  | .discExpiry device => Sys2Proof.Machine.execDiscExpiry device s
  | .rxOkSet l => Sys2Proof.Machine.execRxOkSet l s
  | .fbWireClear k => Sys2Proof.Machine.execFbWireClear k s
  | .supplyWarningEnd rail side => Sys2Proof.Machine.execSupplyWarningEnd rail side s
  | .ihAck => Sys2Proof.Machine.execIhAck s

end Sys2Proof.Machine
end

