-- ==== Sys2Proof/Machine/Step.lean ====
section
/-! DEFINITION. One step: the command at the front of the queue, or a tick of device time on an empty queue. -/

namespace Sys2Proof.Machine

/-- Put a command at the front of the queue. -/
def State.push (s : State) (i : Instr) : State := { s with pending := i :: s.pending }

/-- One step. DESIGN CHOICE, log entry 2: on an empty queue one tick of device time passes while the time base is locked. -/
def step (s : State) : Host.Outcome State Fault Refusal :=
  match s.pending with
  | [] => .next (if s.tb.lock then s.modTb TimeBase.tick else s)
  | i :: rest => exec i { s with pending := rest }

/-- The command a word spells at the front of the queue; no word spells one. -/
def State.withFetchWord (s : State) (nbits w : Nat) : State :=
  match decodeTableWord nbits w with
  | some i => s.push i
  | none => s

end Sys2Proof.Machine
end

