-- ==== Sys2Proof/Safety.lean ====
section
/-! DEFINITION. What a safe state of the device is, in the terms the claims use. -/

namespace Sys2Proof.Machine

/-- The part of the state that few commands change: fuses, flash, download, protection set, parameters, pool claims, queue, boot stage, seal,
boot source and reset lines. -/
structure Base where
  fuse    : Fuses
  flash   : List Host.Cell
  dl      : Download
  prot    : Prot
  params  : List (Nat × Word)
  claims  : List PoolClaim
  pending : List Instr
  stage   : BootStage
  sealed  : Bool
  src     : BitVec 2
  power   : Bool
  rstN    : Bool

/-- That part of a state. -/
def State.base (s : State) : Base :=
  ⟨s.fuse, s.flash, s.dl, s.prot, s.params, s.claims, s.pending, s.boot.stage, s.boot.sealed, s.boot.src, s.boot.powerGood,
   s.boot.rstN⟩

/-- No resource of the pool is claimed twice (R72). -/
def ClaimsApart (cs : List PoolClaim) : Prop := cs.Pairwise (fun c d => ¬ (c.cls = d.cls ∧ c.index = d.index))

/-- The flash and the download image hold their bytes in canonical form. -/
def State.Canonical (s : State) : Prop := cellsWf erased s.flash = true ∧ cellsWf 0 s.dl.image = true

/-- Reset lines, boot stage and seal agree (R129, R137, R145, R171): the device is in internal reset exactly while a supply is bad or RST_N is
low; the protection set is sealed from discovery on and not before. -/
structure State.BootInv (s : State) : Prop where
  reset    : s.boot.stage = .inReset ↔ ¬ (s.boot.powerGood = true ∧ s.boot.rstN = true)
  sealed   : s.boot.stage = .discovery ∨ s.boot.stage = .ready → s.boot.sealed = true
  unsealed : s.boot.stage = .inReset ∨ s.boot.stage = .lockWait ∨ s.boot.stage = .imageRead → s.boot.sealed = false

/-- Protection set and sealed parameters of `t` are those of `s` (R171, R172). -/
def SealKept (s t : State) : Prop :=
  t.prot = s.prot ∧ ∀ a, sealedAddr a = true → assoc t.params a = assoc s.params a

/-- Every key and every revocation in the fuses of `s` is in those of `t` (R164). -/
def FusesKept (s t : State) : Prop :=
  (∀ k : Fin 4, ∀ h, s.fuse.key[k] = some h → t.fuse.key[k] = some h) ∧ ∀ k : Fin 4, s.fuse.revoked[k] = true → t.fuse.revoked[k] = true

/-- Commands that reset the device, boot it or blow fuses. -/
def bootCommand : Instr → Bool
  | .powerGood | .brownOut _ | .rstNAssert | .rstNRelease .. | .timeBaseLock | .tbNoLock | .fuseCommand .. | .halfDigestReady ..
  | .halfBootFail .. | .discoveryEnd => true
  | _ => false

/-- Going from `s` to `t`, one fault of a source is handed to the collector, with the present time and a scope byte. -/
def Raised (s t : State) (src : Nat) (scope : Byte) : Prop :=
  ∃ e : FaultEvent, t.flt = { s.flt with transit := s.flt.transit ++ [e] } ∧ e.src = src ∧ e.time = s.now ∧ e.scope = scope

/-! ### Requests of the hosts -/

/-- Opcode, port, mailbox and request of a command that a host sends as a message of class 1 to 3 (R281). -/
def hostRequest : Instr → Option (Byte × Side × MbxNo × Req)
  | .arm p m r => some (0x20, p, m, r)
  | .disarm p m r => some (0x21, p, m, r)
  | .start p m r => some (0x22, p, m, r)
  | .stop p m r => some (0x23, p, m, r)
  | .quickstop p m r => some (0x24, p, m, r)
  | .hold p m r => some (0x25, p, m, r)
  | .move p m r => some (0x26, p, m, r)
  | .moveGroup p m r => some (0x27, p, m, r)
  | .jog p m r => some (0x28, p, m, r)
  | .home p m r => some (0x29, p, m, r)
  | .setSpeed p m r => some (0x2A, p, m, r)
  | .setAccel p m r => some (0x2B, p, m, r)
  | .setTorqueLimit p m r => some (0x2C, p, m, r)
  | .ackFault p m r => some (0x2D, p, m, r)
  | .detach p m r => some (0x2E, p, m, r)
  | .attach p m r => some (0x2F, p, m, r)
  | .paramRead p m r => some (0x40, p, m, r)
  | .paramStage p m r => some (0x41, p, m, r)
  | .commit p m r => some (0x42, p, m, r)
  | .stageClear p m r => some (0x43, p, m, r)
  | .paramInfo p m r => some (0x44, p, m, r)
  | .traceConfig p m r => some (0x48, p, m, r)
  | .traceArm p m r => some (0x49, p, m, r)
  | .traceStop p m r => some (0x4A, p, m, r)
  | .traceRead p m r => some (0x60, p, m, r)
  | .flashWrite p m r => some (0x61, p, m, r)
  | _ => none

/-- Opcode, port, mailbox and message of a class-0 command (R242). -/
def c0Command : Instr → Option (Byte × Side × Fin 4 × C0Msg)
  | .setTorque p mb m => some (0x01, p, mb, m)
  | .c0SetSpeed p mb m => some (0x02, p, mb, m)
  | .setTension p mb m => some (0x03, p, mb, m)
  | .setSpeedTorque p mb m => some (0x04, p, mb, m)
  | .c0Quickstop p mb m => some (0x10, p, mb, m)
  | .c0Stop p mb m => some (0x11, p, mb, m)
  | .quickRelease p mb m => some (0x12, p, mb, m)
  | _ => none

/-- `s` with a request in the buffer of an idle mailbox, MBX3_SEL on it for class 3, and its doorbell rung: BUSY set, DONE cleared
(R221, R222). -/
def State.rung (s : State) (opcode : Byte) (p : Side) (m : MbxNo) (r : Req) : State :=
  s.modPort p (fun x => { x with
    mbx3Sel := if 24 ≤ m.val then BitVec.ofNat 3 (m.val - 24) else x.mbx3Sel
    mbx := x.mbx.set m { x.mbx[m] with req := writeCells 0 x.mbx[m].req 0 ((reqBytes opcode r).take (bufSize (mbxClass m))) }
    busy := x.busy ||| mbxBit m, done := x.done &&& ~~~ mbxBit m })

/-- A mailbox of class 1 to 3 takes a request: READY is set, the half that serves the port runs, the mailbox is idle. -/
structure Rings (s : State) (p : Side) (m : MbxNo) : Prop where
  cls   : 4 ≤ m.val
  run   : (s.half.get p).run = true
  ready : s.isReady = true
  idle  : (s.port.get p).busy &&& mbxBit m = 0

/-- The request sent is read as `msg`, no repetition of one answered before, stands behind no earlier one (R228), and passes the checks of R219 that every command has. -/
structure Passes (s : State) (opcode : Byte) (p : Side) (m : MbxNo) (r : Req) (msg : Msg) : Prop where
  rings : Rings s p m
  read  : ((s.rung opcode p m r).readRequest p m).msg = msg
  crc   : ((s.rung opcode p m r).readRequest p m).crcOk = true
  op    : msg.opcode = opcode
  fresh : (s.rung opcode p m r).keptReply msg = none
  first : (s.rung opcode p m r).mustWait msg = false
  valid : (s.rung opcode p m r).checkRequest ((s.rung opcode p m r).readRequest p m) = none

/-- The reply to a request is in its buffer and kept, DONE is set and BUSY cleared (R223, R230). -/
structure Answered (t : State) (msg : Msg) (r : Result) (forwarded : Bool) : Prop where
  kept : (t.port.get msg.port).mbx[msg.mbx].kept = some (msg.seq, replyBytes msg r forwarded)
  rep  : ∃ old, (t.port.get msg.port).mbx[msg.mbx].rep = writeCells 0 old 0 (replyBytes msg r forwarded)
  done : (t.port.get msg.port).done &&& mbxBit msg.mbx ≠ 0
  busy : (t.port.get msg.port).busy &&& mbxBit msg.mbx = 0

/-- Going from `s` to `t`, half `h` enters reset: it runs nothing any more, the requests in its mailboxes are lost, and the grant, if it
had it, is the other half's where that one runs, and no half's otherwise (R187, R260, R943). -/
structure HalfLost (s t : State) (h : Side) : Prop where
  run    : (t.half.get h).run = false
  resets : (t.half.get h).resets = (s.half.get h).resets + 1
  since  : (t.half.get h).resetAt = s.now
  other  : t.half.get h.other = s.half.get h.other
  lost   : (t.port.get h).irqLost = true ∧ (t.port.get h).staging = [] ∧ (t.port.get h).busy &&& 0xFFFFFFF0#32 = 0
  grant  : t.hm.grant = if s.hm.grant = some h then (if (s.half.get h.other).run = true then some h.other else none) else s.hm.grant
  moves  : t.hm.failovers = if s.hm.grant = some h ∧ (s.half.get h.other).run = true ∧ s.hm.everGranted = true then s.hm.failovers + 1
                            else s.hm.failovers
  base   : t.base = s.base

/-- What the device keeps in every state a run reaches. -/
structure State.Inv (s : State) : Prop where
  boot      : s.BootInv
  claims    : ClaimsApart s.claims
  canonical : s.Canonical

end Sys2Proof.Machine
end

