-- ==== Sys2Proof/Certificates/Slice0/Obligations.lean ====
section
/-! DEFINITION. The statements for the provers. -/

open Sys2Proof Sys2Proof.Machine

/-! ### Queue, answers, invariants -/

/-- A step takes the command at the front of the queue and runs it with the queue's rest. -/
def Obligations.StepRunsFront : Prop :=
  (
  ∀ (c : Instr) (rest : List Instr) (s : State), step { s with pending := c :: rest } = exec c { s with pending := rest })

/-- On an empty queue one tick passes where the time base is locked: device time counts it. Of a correction that goes on, a fine step is carried out
whenever the slew rate has made up one tick of the oscillator: one to insert is a value of device time of its own, the sigma-delta clocks keeping
their edges, so that device time takes every value; one to remove is a tick that device time does not count, so that it never decreases (R18, R85,
R89, R91, R92, R98, R450). With its last fine step the correction ends; nothing else changes. Without lock nothing changes. The model's choice, log
entries 2 and 14 (the opcode table has no row for a tick; device time stays at the end of its 64 bits). -/
def Obligations.StepIdle : Prop :=
  (
  (∀ s : State, s.pending = [] → s.tb.lock = false → step s = .next s) ∧
  (∀ s : State, s.pending = [] → s.tb.lock = true → s.now = lastTime → step s = .next s) ∧
  (∀ s : State, s.pending = [] → s.tb.lock = true → s.now < lastTime →
    let acc : Nat := s.tb.slewAcc + s.tb.slewRate.natAbs
    let inserts : Prop := 0 < s.tb.slewLeft ∧ 10000000 ≤ s.tb.slewAcc
    let removes : Prop := s.tb.slewLeft < 0 ∧ 10000000 ≤ acc
    (¬ inserts → ¬ removes → step s = .next { s with tb := { s.tb with
      now := s.now + 1, slewAcc := if s.tb.slewLeft = 0 then s.tb.slewAcc else acc } }) ∧
    (inserts → s.tb.slewLeft ≠ 1 → step s = .next { s with tb := { s.tb with
      now := s.now + 1, sdc := s.tb.sdc.map (· + 1), slewLeft := s.tb.slewLeft - 1, slewAcc := s.tb.slewAcc - 10000000 } }) ∧
    (inserts → s.tb.slewLeft = 1 → step s = .next { s with tb := { s.tb with
      now := s.now + 1, sdc := s.tb.sdc.map (· + 1), slewLeft := 0, slewAcc := 0, slewing := false, slewRate := 0 } }) ∧
    (removes → s.tb.slewLeft ≠ -1 → step s = .next { s with tb := { s.tb with
      sdc := s.tb.sdc.map (· - 1), slewLeft := s.tb.slewLeft + 1, slewAcc := acc - 10000000 } }) ∧
    (removes → s.tb.slewLeft = -1 → step s = .next { s with tb := { s.tb with
      sdc := s.tb.sdc.map (· - 1), slewLeft := 0, slewAcc := 0, slewing := false, slewRate := 0 } })))

/-- Every command is answered with a next state, in every state, and leaves the queue as it is: no command of the opcode table ends a run. -/
def Obligations.EveryCommandAnswers : Prop :=
  (
  ∀ (c : Instr) (s : State), ∃ t, exec c s = .next t ∧ t.pending = s.pending)

/-- Every step keeps the invariant: reset lines, boot stage and seal agree (R129, R137, R145, R171), no pool resource is claimed twice (R72), flash
and download image stay canonical lists of cells. -/
def Obligations.InvKept : Prop :=
  (
  ∀ s t : State, s.Inv → step s = .next t → t.Inv)

/-- The invariant holds after reset. -/
def Obligations.ResetInv : Prop :=
  State.reset.Inv

/-- While the protection set is sealed, a command either ends in device reset or leaves the seal, the protection set and every parameter of access
RWS or BO as they are (R171, R172). -/
def Obligations.SealLasts : Prop :=
  (
  ∀ (c : Instr) (s t : State), s.BootInv → s.boot.sealed = true → exec c s = .next t →
    t.boot.stage = .inReset ∨ (t.boot.sealed = true ∧ SealKept s t))

/-- R164: a key slot is programmed only by a fuse command that names it while it is blank, and either all four slots are blank or a fused, unrevoked
slot has signed; a revoke bit is set only by a fuse command that names it, signed with another fused, unrevoked slot. No other command changes a
fuse. -/
def Obligations.FusesChangeOnly : Prop :=
  (
  ∀ (c : Instr) (s t : State), exec c s = .next t →
    (∀ k : Fin 4, t.fuse.key[k] ≠ s.fuse.key[k] → s.fuse.key[k] = none ∧ ∃ h signer,
      c = .fuseCommand (.program k h) signer ∧ t.fuse.key[k] = some h ∧
        ((∀ j : Fin 4, s.fuse.key[j] = none) ∨ ∃ j, signer = some j ∧ s.fuse.key[j] ≠ none ∧ s.fuse.revoked[j] = false)) ∧
    (∀ k : Fin 4, t.fuse.revoked[k] ≠ s.fuse.revoked[k] → t.fuse.revoked[k] = true ∧ ∃ j,
      c = .fuseCommand (.revoke k) (some j) ∧ j ≠ k ∧ s.fuse.key[j] ≠ none ∧ s.fuse.revoked[j] = false) ∧
    t.fuse = { s.fuse with key := t.fuse.key, revoked := t.fuse.revoked })

/-- Only a command that resets, boots or fuses the device, a message of class 1 to 3, a register write, a download chunk, or a forwarded command,
its reply or its timeout changes a parameter, a pool claim, the flash, the download, a fuse, the protection set, the seal, the boot stage, its source
or a reset line; every other command leaves them, and the queue, as they are. -/
def Obligations.ConfigurationKept : Prop :=
  (
  ∀ (c : Instr) (s t : State), bootCommand c = false → hostRequest c = none → (∀ p a d x, c ≠ .registerWrite p a d x) →
    (∀ p n, c ≠ .downloadChunk p n) → c ≠ .ihForward → c ≠ .ihForwardReply → c ≠ .forwardTimeout → exec c s = .next t → t.base = s.base)

/-! ### Reset and start-up -/

/-- POWER_GOOD and RST_N_RELEASE (R129, R137, R946, R1010): the device leaves internal reset at the later of the two, with BOOT_PHASE 0; the boot
straps are sampled at this moment (at POWER_GOOD with RST_N high their levels are free values, log entry 10); without a change of the level nothing
changes. RST_N_ASSERT and BROWN_OUT (R145, R168, R171, R1012, R1014):
everything takes the value it has after reset but fuses, flash, pin levels (limit inputs and cell lines among them), force pins, straps, RESET_CAUSE,
queue and the counter of free values; the cause is added, and all four rails together clear RESET_CAUSE. -/
def Obligations.ResetLines : Prop :=
  (
  (∀ s : State, s.boot.powerGood = false →
    (s.boot.rstN = true → ∃ (bs : BitVec 2) (mp : Bool) (t : State), exec .powerGood s = .next t ∧
      t.boot = { s.boot with powerGood := true, bootsel := bs, mpref := mp, stage := .lockWait, phase := 0 } ∧
      t = { s with boot := t.boot, free := t.free }) ∧
    (s.boot.rstN = false → exec .powerGood s = .next { s with boot := { s.boot with powerGood := true } })) ∧
  (∀ (bs : BitVec 2) (mp : Bool) (s : State), s.boot.rstN = false → exec (.rstNRelease bs mp) s = .next { s with boot :=
    if s.boot.powerGood = true then { s.boot with rstN := true, bootsel := bs, mpref := mp, stage := .lockWait, phase := 0 }
    else { s.boot with rstN := true, bootsel := bs, mpref := mp } }) ∧
  (∀ (bs : BitVec 2) (mp : Bool) (s : State), (s.boot.powerGood = true → exec .powerGood s = .next s) ∧
    (s.boot.rstN = true → exec (.rstNRelease bs mp) s = .next s)) ∧
  (
  let cleared (s : State) (power rstN : Bool) (cause : BitVec 5) : State := { State.reset with
    fuse := s.fuse, flash := s.flash, pins := s.pins, free := s.free, pending := s.pending
    supply := { State.reset.supply with cause := cause }, hm := { State.reset.hm with force := s.hm.force }
    boot := { State.reset.boot with powerGood := power, rstN := rstN, bootsel := s.boot.bootsel, mpref := s.boot.mpref }
    cell := s.cell.map (fun c => { ({} : Cell) with a := c.a, b := c.b, hall := c.hall })
    quay := s.quay.map (fun q => { ({} : Quay) with limP := q.limP, limN := q.limN }) }
  (∀ s : State, s.boot.rstN = true → exec .rstNAssert s = .next (cleared s s.boot.powerGood false (s.supply.cause ||| 1))) ∧
  (∀ s : State, s.boot.rstN = false → exec .rstNAssert s = .next s) ∧
  (∀ (below : BitVec 4) (s : State), below ≠ 0 → exec (.brownOut below) s = .next (cleared s false s.boot.rstN
    (if below = 15 then 0 else s.supply.cause ||| (below.setWidth 5 <<< (1 : Nat))))) ∧
  (∀ s : State, exec (.brownOut 0) s = .next s)))

/-- TIME_BASE_LOCK (R17, R85, R129, R137): device time starts at zero and BOOT_PHASE becomes 1, with the download port selected where BOOTSEL says
so. TB_NO_LOCK (R137, R166, R189): the boot stops with cause 0x11 and detail 0; no half runs or is in charge, the debug policy is 1, the seal stays.
DISCOVERY_END (R138 to R141, R143, R190): READY with BOOT_PHASE 6 and a commit count of zero once everything has matched or the window has passed,
with DEBUG_OPEN, BOUND_VOID and their fault under debug policy 3; with pre-driver dies an untrained internal link stops the boot with cause 0x12 and
its number. Becoming READY leaves fuses, flash, download, protection set, parameters, claims, queue, seal, boot source and reset lines. A halt changes
boot registers, grant, halves, Hawser ring, lanes, choppers and legs alone. Each of the three events changes nothing in another boot stage. -/
def Obligations.BootEnds : Prop :=
  (
  (∀ s : State, s.boot.stage = .lockWait → exec .timeBaseLock s = .next { s with
    tb := { s.tb with lock := true, now := 0 }
    dl := if s.boot.bootsel = 1 ∨ s.boot.bootsel = 2 then { s.dl with active := true, wait := true } else s.dl
    boot := if s.boot.bootsel = 1 then { s.boot with stage := .imageRead, phase := 1, src := 2, half := ⟨.nothing, .nothing⟩ }
            else if s.boot.bootsel = 2 then { s.boot with stage := .imageRead, phase := 1, src := 3, half := ⟨.nothing, .nothing⟩ }
            else { s.boot with stage := .imageRead, phase := 1 } }) ∧
  (∀ s : State, s.boot.stage ≠ .lockWait → exec .timeBaseLock s = .next s ∧ exec .tbNoLock s = .next s) ∧
  (∀ s : State, s.boot.stage ≠ .discovery → exec .discoveryEnd s = .next s)) ∧
  (
  let halts (s t : State) (cause : Byte) (detail : BitVec 16) : Prop :=
    t.boot = { s.boot with stage := .halted, phase := 0xF, haltCause := cause, haltDetail := detail, debugPolicy := 1 } ∧
    t.hm = { s.hm with grant := none } ∧ t.half = ⟨{ s.half.a with run := false }, { s.half.b with run := false }⟩ ∧
    t.hw = { s.hw with mode := .alone, ports := ⟨{}, {}⟩ } ∧ (∀ m : Fin 4, t.brk[m] = { s.brk[m] with on := false }) ∧
    t = { s with boot := t.boot, hm := t.hm, half := t.half, hw := t.hw, lane := t.lane, brk := t.brk, leg := t.leg }
  (∀ s : State, s.boot.stage = .lockWait → ∃ t, exec .tbNoLock s = .next t ∧ halts s t 0x11 0) ∧
  (∀ s : State, s.boot.stage = .discovery → (s.allMatched = true ∨ s.boot.step10At + 6400 * devDiscoveryWindow s ≤ s.now) →
    ((s.hasDies = false ∨ ∀ n : LaneNo, 16 ≤ n.val → s.lane[n].st ≠ .down ∧ s.lane[n].st ≠ .training) →
      ∃ t, exec .discoveryEnd s = .next t ∧ t.base = { s.base with stage := .ready } ∧
        (s.boot.debugPolicy ≠ 3 → t.boot = { s.boot with stage := .ready, phase := 6, commitCount := 0 }) ∧
        (s.boot.debugPolicy = 3 → (∀ p, (t.port.get p).irqBound = true) ∧ (∃ e ∈ t.flt.transit, e.src = srcDebugOpen ∧ e.scope = 0xFF) ∧
          t.boot = { s.boot with stage := .ready, phase := 6, commitCount := 0, debugOpen := true, boundVoid := true })) ∧
    (∀ n : LaneNo, s.hasDies = true → s.untrained = some n → ∃ t, exec .discoveryEnd s = .next t ∧
      halts s t 0x12 (BitVec.ofNat 16 (n.val - 16)))) ∧
  (∀ s : State, s.boot.stage = .discovery → s.allMatched = false → s.now < s.boot.step10At + 6400 * devDiscoveryWindow s →
    exec .discoveryEnd s = .next s))

/-- HALF_DIGEST_READY (R129, R133, R134, R136, R137, R166, R171). An image that fails: with BOOTSEL 3 and no download yet, download through port A
begins, else the boot stops with the cause and detail of the check, seal, set, fuses and flash as they were. A good image: while the other half has
presented nothing, the set is not sealed; with equal digests the image is sealed as the protection set and discovery begins; with unequal ones the
boot stops with cause 0x10. In another boot stage, of a half held or done, and before a download is complete, nothing changes. HALF_BOOT_FAIL (R133,
R135): 50 ms after the other half's digest the silent half is held in reset, HALF_BOOT_FAIL goes to the collector, and the other half's image is
sealed; earlier, in another boot stage, or for a half that has presented anything, nothing changes. -/
def Obligations.ImagesJudged : Prop :=
  ((
  ∀ (h : Side) (a0 a1 ra rb : Bool) (s : State), s.boot.stage = .imageRead → (s.half.get h).held = false →
    s.boot.half.get h = .nothing → (s.dl.active = true → s.dl.done = true) →
    (∀ c d : Nat, s.readImage a0 a1 = .inl (c, d) →
      (s.boot.bootsel = 3 → s.dl.active = false → exec (.halfDigestReady h a0 a1 ra rb) s = .next { s with
        dl := { s.dl with active := true, wait := true }, boot := { s.boot with src := 2, half := ⟨.nothing, .nothing⟩ } }) ∧
      (s.boot.bootsel ≠ 3 ∨ s.dl.active = true → ∃ t, exec (.halfDigestReady h a0 a1 ra rb) s = .next t ∧ t.boot.stage = .halted ∧
        t.boot.haltCause = BitVec.ofNat 8 c ∧ t.boot.haltDetail = BitVec.ofNat 16 d ∧ t.boot.sealed = s.boot.sealed ∧ t.prot = s.prot ∧
        t.fuse = s.fuse ∧ t.flash = s.flash)) ∧
    (∀ (slot : Bool) (img : List Byte), s.readImage a0 a1 = .inr (slot, img) →
      ((∀ b d, s.boot.half.get h.other ≠ .passed b d) →
        exec (.halfDigestReady h a0 a1 ra rb) s = .next { s with boot := { s.boot with
          half := s.boot.half.set h (.passed slot (imgDigest img)), phase := 2, src := s.srcOf slot, digestAt := s.now } }) ∧
      (∀ b, s.boot.half.get h.other = .passed b (imgDigest img) → ∃ t, exec (.halfDigestReady h a0 a1 ra rb) s = .next t ∧
        t.boot.sealed = true ∧ t.boot.stage = .discovery ∧ t.boot.src = s.srcOf slot ∧ t.prot = imgProt img ∧ t.fuse = s.fuse ∧ t.flash = s.flash) ∧
      (∀ b d, s.boot.half.get h.other = .passed b d → d ≠ imgDigest img → ∃ t, exec (.halfDigestReady h a0 a1 ra rb) s = .next t ∧
        t.boot.stage = .halted ∧ t.boot.haltCause = 0x10 ∧ t.boot.haltDetail = 0 ∧ t.boot.sealed = s.boot.sealed ∧ t.prot = s.prot ∧
        t.fuse = s.fuse ∧ t.flash = s.flash))) ∧
  (∀ (h : Side) (a0 a1 ra rb : Bool) (s : State), ¬ (s.boot.stage = .imageRead ∧ (s.half.get h).held = false ∧ s.boot.half.get h = .nothing ∧
    (s.dl.active = true → s.dl.done = true)) → exec (.halfDigestReady h a0 a1 ra rb) s = .next s)) ∧
  ((
  ∀ (h : Side) (slot : Bool) (d : BitVec 256) (s : State), s.boot.stage = .imageRead → s.boot.half.get h = .nothing →
    s.boot.half.get h.other = .passed slot d → s.boot.digestAt + 320000000 ≤ s.now →
    ∃ t, exec (.halfBootFail h) s = .next t ∧ (t.half.get h).held = true ∧ (t.half.get h).run = false ∧ t.boot.sealed = true ∧
      t.boot.stage = .discovery ∧ t.prot = imgProt (s.acceptedImage slot) ∧ (∃ e ∈ t.flt.transit, e.src = srcHalfBootFail)) ∧
  (∀ (h : Side) (s : State), ¬ (s.boot.stage = .imageRead ∧ s.boot.half.get h = .nothing ∧ (∃ slot d, s.boot.half.get h.other = .passed slot d) ∧
    s.boot.digestAt + 320000000 ≤ s.now) → exec (.halfBootFail h) s = .next s))

/-- DOWNLOAD_CHUNK (R146 to R150): a chunk that continues the image is taken, and DL_WAIT shows 1 until the header's length is reached; one that
does not, or of a length outside 1 to 4,096, changes nothing of the image and sets DL_SEQ_ERR; a port that waits for no chunk takes at most DL_LEN.
FUSE_COMMAND in download mode (R164): a program command of a blank slot, signed or with all slots blank, fuses the key, a revoke command signed with
another good slot sets the bit; any other, or outside download mode, changes nothing. -/
def Obligations.DownloadMode : Prop :=
  (
  let written (s : State) (p : Side) (len : BitVec 13) : State :=
    { s with port := if s.dlSelected p = true then s.port.set p { s.port.get p with dlLen := len } else s.port }
  (∀ (p : Side) (len : BitVec 13) (s : State), s.dlPort = some p → s.boot.stage = .imageRead → s.dl.wait = true →
    ((s.port.get p).dlOffset.toNat = s.dl.next → 1 ≤ len.toNat → len.toNat ≤ 4096 → ∃ t, exec (.downloadChunk p len) s = .next t ∧
      t.dl.next = s.dl.next + len.toNat ∧ t.dl.wait = !t.dl.done ∧
      t.dl.image = writeCells 0 s.dl.image s.dl.next ((List.range len.toNat).map (fun i => (s.port.get p).dlByte i)) ∧
      (t.dl.done = true ↔ 12 ≤ t.dl.next ∧ imgLength (readCells 0 t.dl.image 0 12) ≤ t.dl.next) ∧
      t = { written s p len with
        dl := { s.dl with next := t.dl.next, wait := t.dl.wait, image := t.dl.image, done := t.dl.done }
        boot := { s.boot with phase := if t.dl.done = true then 2 else s.boot.phase } }) ∧
    ((s.port.get p).dlOffset.toNat ≠ s.dl.next ∨ len = 0 ∨ 4096 < len.toNat →
      exec (.downloadChunk p len) s = .next { written s p len with dl := { s.dl with seqErr := true, wait := true } })) ∧
  (∀ (p : Side) (len : BitVec 13) (s : State), ¬ (s.dlPort = some p ∧ s.boot.stage = .imageRead ∧ s.dl.wait = true) →
    exec (.downloadChunk p len) s = .next (written s p len))) ∧
  (
  let good (s : State) (j : Fin 4) : Prop := s.fuse.key[j] ≠ none ∧ s.fuse.revoked[j] = false
  (∀ (k j : Fin 4) (h : BitVec 256) (s : State), s.dl.active = true → s.boot.stage = .imageRead → s.fuse.key[k] = none → good s j →
    exec (.fuseCommand (.program k h) (some j)) s = .next { s with fuse := { s.fuse with key := s.fuse.key.set k (some h) } }) ∧
  (∀ (k : Fin 4) (h : BitVec 256) (signer : Option (Fin 4)) (s : State), s.dl.active = true → s.boot.stage = .imageRead →
    s.fuse.key = Vector.replicate 4 none →
    exec (.fuseCommand (.program k h) signer) s = .next { s with fuse := { s.fuse with key := s.fuse.key.set k (some h) } }) ∧
  (∀ (k j : Fin 4) (s : State), s.dl.active = true → s.boot.stage = .imageRead → j ≠ k → good s j →
    exec (.fuseCommand (.revoke k) (some j)) s = .next { s with fuse := { s.fuse with revoked := s.fuse.revoked.set k true } }) ∧
  (∀ (k : Fin 4) (h : BitVec 256) (signer : Option (Fin 4)) (s : State), s.fuse.key[k] ≠ none →
    exec (.fuseCommand (.program k h) signer) s = .next s) ∧
  (∀ (k : Fin 4) (h : BitVec 256) (signer : Option (Fin 4)) (s : State), (∃ j : Fin 4, s.fuse.key[j] ≠ none) →
    (∀ j, signer = some j → ¬ good s j) → exec (.fuseCommand (.program k h) signer) s = .next s) ∧
  (∀ (k : Fin 4) (signer : Option (Fin 4)) (s : State), (∀ j, signer = some j → j = k ∨ ¬ good s j) →
    exec (.fuseCommand (.revoke k) signer) s = .next s) ∧
  (∀ (c : FuseCmd) (signer : Option (Fin 4)) (s : State), s.dl.active = false ∨ s.boot.stage ≠ .imageRead →
    exec (.fuseCommand c signer) s = .next s))

/-! ### Time base, captures, slots, sensors, supplies -/

/-- R98: a slot of period P and phase φ below P fires at exactly the device times t for which t - φ is a multiple of P. -/
def Obligations.SlotFiresAt : Prop :=
  (
  ∀ P φ t : Nat, φ < P → (fires P φ t = true ↔ ((t : Int) - (φ : Int)) % (P : Int) = 0))

/-- DELAY_LINE_CAL and REF_LOSS (R84, R86 to R88, R92): with the time base locked CAL_OK shows the calibration; a lost reference sets
TB_STATUS.BACKUP and raises REF_LOSS at device scope, once. CAPTURE_EDGE (R94, R95): an edge that `dev.capc_edge` selects is stamped with device time
less the filter delay, down to the coarse step of 16 ticks, counted and marked NEW, with OVERRUN where the stamp before was not read; another edge
moves LEVEL alone. Nothing else changes, and nothing at all without lock or of a register that nothing claims. -/
def Obligations.TimeBaseEvents : Prop :=
  (
  (∀ (w : Bool) (s : State), exec (.delayLineCal w) s = .next (if s.tb.lock = true then { s with tb := { s.tb with calOk := w } } else s)) ∧
  (∀ s : State, s.tb.lock = true → s.tb.backup = false → ∃ t, exec .refLoss s = .next t ∧
    t.tb = { s.tb with backup := true } ∧ Raised s t srcRefLoss 0xFF ∧ t = { s with tb := t.tb, flt := t.flt }) ∧
  (∀ s : State, s.tb.lock = false ∨ s.tb.backup = true → exec .refLoss s = .next s)) ∧
  (
  (∀ (c : Fin 32) (rising : Bool) (s : State), devCapSrc s c.val ≠ 255 → 1 ≤ devCapEdge s c.val → devCapEdge s c.val ≤ 3 →
    ∃ t, exec (.captureEdge c rising) s = .next t ∧
      (devCapEdge s c.val = 3 ∨ devCapEdge s c.val = (if rising = true then 1 else 2) → t.tb.cap[c] = { s.tb.cap[c] with
        level := rising, time := (s.now - 16 * devCapFilter s c.val) / 16 * 16, count := s.tb.cap[c].count + 1,
        overrun := s.tb.cap[c].overrun || s.tb.cap[c].fresh, fresh := true }) ∧
      (devCapEdge s c.val = (if rising = true then 2 else 1) → t.tb.cap[c] = { s.tb.cap[c] with level := rising }) ∧
      (∀ d : Fin 32, d ≠ c → t.tb.cap[d] = s.tb.cap[d]) ∧ t = { s with tb := { s.tb with cap := t.tb.cap } }) ∧
  (∀ (c : Fin 32) (rising : Bool) (s : State), devCapSrc s c.val = 255 → exec (.captureEdge c rising) s = .next s))

/-- TIMED_EVENT, SDC_RESYNC and TRACE_CAPTURE (R98, R100, R102, R324, R450, R998, R999) at the firing of their slot: a new period and phase of that
slot, where a commit left one, takes over; a resynchronised clock has its edges at whole multiples of its period; a triggered region with room, a
period and a share takes one record of the present device time and its signals; without a share the record is skipped. Nothing else changes, and
nothing at all while the slot does not fire. -/
def Obligations.SlotsFire : Prop :=
  (
  (∀ (n : Fin 256) (s : State), exec (.timedEvent n) s = .next (if s.slotFires n = true then s.slotFired n else s)) ∧
  (∀ (m : Fin 4) (n : Fin 256) (s : State), s.claims.find? (fun e => e.by_ == .sdClock m && e.cls == 0x10) = some ⟨0x10, n.val, .sdClock m⟩ →
    (s.slotFires n = true → ∃ t, exec (.sdcResync m) s = .next t ∧ t.tb.sdc[m] = 0 ∧ (∀ k : Fin 4, k ≠ m → t.tb.sdc[k] = s.tb.sdc[k]) ∧
      t = { s with tb := { (s.slotFired n).tb with sdc := t.tb.sdc } }) ∧
    (s.slotFires n = false → exec (.sdcResync m) s = .next s)) ∧
  (∀ (r : Fin 16) (n : Fin 256) (d : TraceDesc) (share : Bool) (s : State), s.trace[r].desc = some d → s.trace[r].slot = some n →
    (s.slotFires n = false → exec (.traceCapture r share) s = .next s) ∧
    (s.slotFires n = true → share = false → exec (.traceCapture r share) s = .next (s.slotFired n)) ∧
    (s.slotFires n = true → share = true → d.period ≠ 0 → s.trace[r].armed = true → s.trace[r].stopped = false → s.trace[r].invalid = false →
      s.trace[r].triggered = true → s.trace[r].recs.length + 1 < d.capacity →
      ∃ t, exec (.traceCapture r share) s = .next t ∧ t.trace[r].recs = s.trace[r].recs ++ [{ time := s.now, values := d.signals.map s.signal }] ∧
        t.trace[r].armed = true ∧ (∀ k : Fin 16, k ≠ r → t.trace[k] = s.trace[k]) ∧ t = { s with trace := t.trace, tb := (s.slotFired n).tb })) ∧
  (∀ (n : Fin 256) (s : State), s.slotFired n = { s with tb := { s.tb with slots := (s.slotFired n).tb.slots } } ∧
    ∀ e ∈ s.tb.slots, (e.slot ≠ n ∨ e.next = none → e ∈ (s.slotFired n).tb.slots) ∧
      ∀ p f, e.slot = n → e.next = some (p, f) → { e with period := p, phase := f, next := none } ∈ (s.slotFired n).tb.slots))

/-- SENSOR_WINDOW_END (R2, R103 to R105, R209, R989 to R997): a temperature outside -60 to +200 degrees is invalid; the margin of a valid sensor of
the control die is its count over its fused minimum less one, in 0.01 %, within 16 bits, that of an invalid one -32,768; a margin below zero sets
BOUND_VOID, with its interrupt bits where it was not set; the throttle factor of each pre-driver die follows the highest valid temperature on it, the
old one stays beside it with the time; without pre-driver dies TS16 to TS23 stay as they are. The share factor is 1 up to 115 degrees of the highest
valid sensor of the control die, falls by 0.08 per K up to 125 degrees, and is 0.2 above. Only the thermal block, BOUND_VOID, its interrupt bits and
faults on their way change; without lock nothing does. The rounding of a margin between two values is the model's (log entry 13). -/
def Obligations.SensorWindows : Prop :=
  (
  (∀ (counts : Vector Nat 16) (temps : Vector Int 24) (s : State), s.tb.lock = true →
    let valid (n : Fin 24) : Prop := -600 ≤ temps[n] ∧ temps[n] ≤ 2000
    ∃ t, exec (.sensorWindowEnd counts temps) s = .next t ∧
      (∀ n : Fin 24, (s.hasDies = true ∨ n.val < 16 → t.thm.temp[n] = if valid n then some temps[n] else none) ∧
        (s.hasDies = false → 16 ≤ n.val → t.thm.temp[n] = s.thm.temp[n])) ∧
      (∀ n : Fin 16, t.thm.margin[n] = if valid (n.castLE (by decide)) then
        max (-32768) (min 32767 (reportInt (((counts[n] : Rat) / (s.fuse.cMin[n] : Rat) - 1) * 10000))) else -32768) ∧
      (t.boot.boundVoid = true ↔ s.boot.boundVoid = true ∨ ∃ n : Fin 16, ¬ valid (n.castLE (by decide)) ∨ counts[n] < s.fuse.cMin[n]) ∧
      (∀ p, t.port.get p = { s.port.get p with
        irqBound := (s.port.get p).irqBound || (t.boot.boundVoid && !s.boot.boundVoid) }) ∧
      (s.hasDies = true → ∀ (d : DieNo) (v : Int), (∃ n : Fin 24, valid n ∧ temps[n] = v ∧ 16 + 4 * d.val ≤ n.val ∧ n.val < 20 + 4 * d.val) →
        (∀ n : Fin 24, valid n → 16 + 4 * d.val ≤ n.val → n.val < 20 + 4 * d.val → temps[n] ≤ v) →
        t.thm.factor[d] = max 0 (min 1 (1 - ((thmThrSlope s d.val : Rat) / 100) * (((v - thmThrStart s d.val : Int) : Rat) / 10)))) ∧
      t.thm.factorOld = s.thm.factor ∧ t.thm.factorAt = s.now ∧
      t = { s with thm := t.thm, boot := { s.boot with boundVoid := t.boot.boundVoid }, port := t.port
                   flt := { s.flt with transit := t.flt.transit } }) ∧
  (∀ (counts : Vector Nat 16) (temps : Vector Int 24) (s : State), s.tb.lock = false → exec (.sensorWindowEnd counts temps) s = .next s)) ∧
  (
  ∀ (counts : Vector Nat 16) (temps : Vector Int 24) (s : State) (v : Int), s.tb.lock = true →
    (∃ n : Fin 24, n.val < 16 ∧ temps[n] = v ∧ -600 ≤ v ∧ v ≤ 2000) → (∀ n : Fin 24, n.val < 16 → temps[n] ≤ 2000 → temps[n] ≤ v) →
    ∃ t, exec (.sensorWindowEnd counts temps) s = .next t ∧
      (t.thm.share = if v ≤ 1150 then 1 else if v ≤ 1250 then 1 - (8 : Rat) / 100 * (((v : Rat) - 1150) / 10) else (2 : Rat) / 10))

/-- SUPPLY_WARNING (R2, R1005 to R1008, R1014): a warning that begins sets its SUPPLY_STATUS bit and raises its source once; a low VGD names the quays
of the die outside OFF and is not raised without one, a high VGD every quay of the die, from READY on (log entry 40). SUPPLY_WARNING_END clears the
bit. VGD_HOLD and VGD_HOLD_RELEASE (R1009): a held die leaves its chopper off. Nothing else changes; and nothing at all where the bit is set
already, or of a VGD or its hold without pre-driver dies. -/
def Obligations.Supplies : Prop :=
  (
  (∀ (rail : Rail) (side : LowHigh) (v : Int) (s : State), s.supply.rail rail side = true ∨ (s.hasDies = false ∧ ∃ d, rail = .vgd d) →
    exec (.supplyWarning rail side v) s = .next s) ∧
  (∀ (side : LowHigh) (v : Int) (s : State), s.supply.rail .vcore side = false → ∃ t, exec (.supplyWarning .vcore side v) s = .next t ∧
    t.supply.rail .vcore side = true ∧ Raised s t srcSupplyVcore 0xFF ∧ t = { s with supply := s.supply.setRail .vcore side true, flt := t.flt }) ∧
  (∀ (rail : Rail) (side : LowHigh) (v : Int) (s : State), rail = .vio33 ∨ rail = .vio18 ∨ rail = .vana18 → s.supply.rail rail side = false →
    ∃ t, exec (.supplyWarning rail side v) s = .next t ∧ t.supply.rail rail side = true ∧ Raised s t srcSupplyVio 0xFF ∧
      t = { s with supply := s.supply.setRail rail side true, flt := t.flt }) ∧
  (∀ (d : DieNo) (side : LowHigh) (v : Int) (s : State), s.hasDies = true → s.supply.rail (.vgd d) side = false →
    ∃ t, exec (.supplyWarning (.vgd d) side v) s = .next t ∧ t.supply.rail (.vgd d) side = true ∧
      (let quays := if side = .low then (s.dieQuays d).filter (fun q => s.quay[q].core.st != .off) else s.dieQuays d
       (side = .low ∧ quays ≠ [] ∨ side = .high ∧ s.boot.stage = .ready → Raised s t srcSupplyVgd (0x40 + BitVec.ofNat 8 d.val) ∧
         ∃ e, t.flt.transit = s.flt.transit ++ [e] ∧ e.quays = quays) ∧
       (side = .low ∧ quays = [] ∨ side = .high ∧ s.boot.stage ≠ .ready → t.flt = s.flt)) ∧
      t = { s with supply := s.supply.setRail (.vgd d) side true, flt := t.flt }) ∧
  (∀ (rail : Rail) (side : LowHigh) (s : State), exec (.supplyWarningEnd rail side) s = .next { s with supply := s.supply.setRail rail side false }) ∧
  (∀ (rail : Rail) (side : LowHigh) (s : State), (s.supply.setRail rail side false).rail rail side = false) ∧
  (∀ (d : DieNo) (s : State), s.hasDies = true → ∃ t, exec (.vgdHold d) s = .next t ∧
    t.supply = { s.supply with vgdHold := s.supply.vgdHold.set d true } ∧ t.brk[d.val] = { s.brk[d.val] with on := false } ∧
    (∀ m : Fin 4, m.val ≠ d.val → t.brk[m] = s.brk[m]) ∧ t = { s with supply := t.supply, brk := t.brk }) ∧
  (∀ (d : DieNo) (s : State), s.hasDies = false → exec (.vgdHold d) s = .next s) ∧
  (∀ (d : DieNo) (s : State), exec (.vgdHoldRelease d) s = .next { s with supply := { s.supply with vgdHold := s.supply.vgdHold.set d false } }))

/-! ### Sampling, snapshots, update points -/

/-- SAMPLE_EVENT at a firing of the quay's slot (R74, R77, R114, R332, R358, R368, R452, R765 to R767): the snapshot opens with the present time and
waits for every input the quay awaits; it holds the references and request flags of the class-0 buffer (at the sample event by log entry 43); a local
leg of the quay has the current and phase voltage of its last conversion, in the snapshot too, and the die that serves the quay its VM, where the
snapshot does not wait for the status frame of their link (R58, R75); cells in modes
3 and 4 start a transfer or conversion, sigma-delta inputs have their window placed. The snapshot the engine runs, the state machine, other quays,
other legs, and all but quay, cells, sigma-delta inputs, legs, VM, faults on their way, traces and the counter of free values stay as they are;
without a firing everything does. -/
def Obligations.SampleEvents : Prop :=
  (
  (∀ (q : QuayNo) (legs : List LegSample) (vm : BitVec 14) (s : State), s.quayFires q = true →
    ∃ t, exec (.sampleEvent q legs vm) s = .next t ∧
      t.quay[q].form.isOpen = true ∧ t.quay[q].form.complete = false ∧ t.quay[q].form.time = s.now ∧ t.quay[q].form.missing = s.awaited q ∧
      t.quay[q].form.stale = [] ∧
      t.quay[q].form.torque = q14 s.quay[q].c0.torque ∧ t.quay[q].form.speed = q14 s.quay[q].c0.speed ∧
      t.quay[q].form.tension = q14 s.quay[q].c0.tension ∧ t.quay[q].form.ff = q14 s.quay[q].c0.ff ∧ t.quay[q].form.quick = s.quay[q].c0.quick ∧
      t.quay[q].form.stop = s.quay[q].c0.stop ∧ t.quay[q].form.release = s.quay[q].c0.release ∧ t.quay[q].c0 = s.quay[q].c0 ∧ t.quay[q].snap = s.quay[q].snap ∧ t.quay[q].core = s.quay[q].core ∧
      (∀ (l : LegNo) (code volts : BitVec 14) (pre : List LegSample), legs = pre ++ [⟨l, code, volts⟩] → l.val < 32 → s.legQuay l = some q →
        t.leg[l].current = some (((code.toNat : Rat) - 8192) * 1800 / (16384 * (legShuntGain s l : Rat) * ((legRshunt s l : Rat) / 1000000))) ∧
        t.leg[l].vphase = (volts.toNat : Rat) * 25 / 4 ∧
        ((∀ n, s.laneOf l = some n → InputId.lane n ∉ s.awaited q) →
          t.quay[q].form.legs.lookup l = some t.leg[l].current ∧ t.quay[q].form.volts.lookup l = some t.leg[l].vphase) ∧
        (∀ n, s.laneOf l = some n → InputId.lane n ∈ s.awaited q →
          t.quay[q].form.legs.lookup l = s.quay[q].form.legs.lookup l ∧ t.quay[q].form.volts.lookup l = s.quay[q].form.volts.lookup l)) ∧
      (∀ l : LegNo, (∀ e ∈ legs, e.leg ≠ l) ∨ 32 ≤ l.val ∨ s.legQuay l ≠ some q → t.leg[l] = s.leg[l]) ∧
      (∀ d, s.vmDie q = some d → t.supply = { s.supply with vm := s.supply.vm.set d ((vm.toNat : Rat) * 25 / 4) } ∧
        ((∀ l ∈ s.phaseLegs q, ∀ n, l.val < 32 → s.laneOf l = some n → InputId.lane n ∉ s.awaited q) →
          t.quay[q].form.vm = (vm.toNat : Rat) * 25 / 4) ∧
        (∀ l ∈ s.phaseLegs q, ∀ n, l.val < 32 → s.laneOf l = some n → InputId.lane n ∈ s.awaited q → t.quay[q].form.vm = s.quay[q].form.vm)) ∧
      (s.vmDie q = none → t.supply = s.supply) ∧
      (∀ k ∈ s.cellsOf q, fbMode s k = 3 ∨ fbMode s k = 4 → t.cell[k].await = some s.now) ∧ (∀ k : CellNo, k ∉ s.cellsOf q → t.cell[k] = s.cell[k]) ∧
      (∀ n : Fin 16, t.sd[n] = if s.sdQuay n = some q ∧ devSdClock s n.val ≠ 255 then
        { s.sd[n] with await := some s.now, first := (s.sdWindow n s.now).1, last := (s.sdWindow n s.now).2 } else s.sd[n]) ∧
      (∀ r : QuayNo, r ≠ q → t.quay[r] = s.quay[r]) ∧
      t = { s with quay := t.quay, cell := t.cell, sd := t.sd, leg := t.leg, supply := t.supply, flt := t.flt, trace := t.trace, free := t.free }) ∧
  (∀ (q : QuayNo) (legs : List LegSample) (vm : BitVec 14) (s : State), s.quayFires q = false → exec (.sampleEvent q legs vm) s = .next s))

/-- SNAPSHOT_COMPLETE and INPUT_DEADLINE (R74 to R76, R393): with every input there and the filter of no counting cell still running
from the sample event, or at the deadline without that, the snapshot closes; an engine with no other snapshot of the quay takes it, otherwise it waits. What is missing at the
deadline, a cell whose filter still runs included, is named stale, INPUT_LATE is counted (a counter that stops at 65,535) and raised. Quays that none of the missing cells belongs to stay as
they are. ITERATION_COMPLETE (R45, R76), where the partner quay does not go first: the snapshot is used up, or the next one that was formed is taken.
All three leave fuses, flash, download, protection set, parameters, pool claims, queue, boot stage, seal, source and reset lines. MIRROR_REFRESH and
EMULATION_TIMING (R263, R420): the mirror of the quay shows its present contents with MIRROR_SEQ two further; the emulation shows the steps due by now;
nothing else changes. Each changes nothing where its condition does not hold. -/
def Obligations.SnapshotsClose : Prop :=
  (
  let taken (s t : State) (q : QuayNo) (stale : List InputId) : Prop :=
    t.quay[q].form.isOpen = false ∧ t.base = s.base ∧
    (s.quay[q].snap.complete = false → t.quay[q].snap.complete = true ∧ t.quay[q].snap.stale = stale ∧ t.quay[q].form.complete = false ∧
      t.quay[q].snap.time = s.quay[q].form.time ∧ t.quay[q].snap.closedAt = s.now ∧ t.quay[q].iterAt = some s.now ∧
      t.quay[q].snap.torque = s.quay[q].form.torque ∧ t.quay[q].snap.speed = s.quay[q].form.speed ∧
      t.quay[q].snap.tension = s.quay[q].form.tension ∧ t.quay[q].snap.ff = s.quay[q].form.ff ∧ t.quay[q].snap.quick = s.quay[q].form.quick ∧
      t.quay[q].snap.stop = s.quay[q].form.stop ∧ t.quay[q].snap.release = s.quay[q].form.release) ∧
    (s.quay[q].snap.complete = true → t.quay[q].snap = s.quay[q].snap ∧ t.quay[q].iterAt = s.quay[q].iterAt ∧ t.quay[q].form.complete = true ∧
      t.quay[q].form.stale = stale ∧ t.quay[q].form.closedAt = s.now)
  (∀ (q : QuayNo) (s : State), s.quay[q].form.isOpen = true → s.quay[q].form.missing = [] → s.filtering q = [] →
    ∃ t, exec (.snapshotComplete q) s = .next t ∧ taken s t q [] ∧ (∀ r : QuayNo, r ≠ q → t.quay[r] = s.quay[r])) ∧
  (∀ (q : QuayNo) (s : State), s.quay[q].form.isOpen = false ∨ s.quay[q].form.missing ≠ [] ∨ s.filtering q ≠ [] →
    exec (.snapshotComplete q) s = .next s) ∧
  (∀ (q : QuayNo) (s : State), s.quay[q].form.isOpen = true → s.quay[q].form.missing ≠ [] ∨ s.filtering q ≠ [] →
    100 * s.quay[q].form.time + quayInputDeadline s q * s.loopPeriod q ≤ 100 * s.now →
    ∃ t, exec (.inputDeadline q) s = .next t ∧ taken s t q (s.quay[q].form.missing ++ (s.filtering q).map InputId.cell) ∧
      t.quay[q].inputLate = (if s.quay[q].inputLate = 0xFFFF#16 then 0xFFFF#16 else s.quay[q].inputLate + 1) ∧
      (∃ e ∈ t.flt.transit, e.src = srcInputLate ∧ e.quays = [q] ∧ e.time = s.now) ∧
      (∀ k : CellNo, InputId.cell k ∈ s.quay[q].form.missing ∨ k ∈ s.filtering q →
        t.cell[k].stale = true ∧ (3 ≤ fbMode s k → t.cell[k].await = none)) ∧
      (∀ r : QuayNo, r ≠ q → (∀ k : CellNo, InputId.cell k ∈ s.quay[q].form.missing → s.cellQuay k ≠ some r) → t.quay[r] = s.quay[r])) ∧
  (∀ (q : QuayNo) (s : State), s.quay[q].form.isOpen = false ∨ (s.quay[q].form.missing = [] ∧ s.filtering q = []) ∨
    100 * s.now < 100 * s.quay[q].form.time + quayInputDeadline s q * s.loopPeriod q → exec (.inputDeadline q) s = .next s)) ∧
  (
  (∀ (q : QuayNo) (e : Estimates) (s : State), s.quay[q].snap.complete = true → s.hm.grant ≠ none → s.hasKernel q = true →
    s.afterPartner q = false → ∃ t, exec (.iterationComplete q e) s = .next t ∧ t.quay[q].snap.complete = s.quay[q].form.complete ∧
      t.quay[q].form.complete = false ∧ t.quay[q].iterAt = (if s.quay[q].form.complete = true then some s.quay[q].form.closedAt else none) ∧
      t.quay[q].ranAt = s.now ∧ t.base = s.base) ∧
  (∀ (q : QuayNo) (e : Estimates) (s : State), s.quay[q].snap.complete = false ∨ s.hm.grant = none ∨ s.hasKernel q = false ∨
    s.afterPartner q = true → exec (.iterationComplete q e) s = .next s)) ∧
  (
  (∀ (q : QuayNo) (s : State), s.hm.grant ≠ none → s.hasKernel q = true → ∃ t, exec (.mirrorRefresh q) s = .next t ∧
    t.quay[q] = { s.quay[q] with mirror := s.mirrorBody q, mirrorSeq := s.quay[q].mirrorSeq + 2 } ∧
    (∀ r : QuayNo, r ≠ q → t.quay[r] = s.quay[r]) ∧ t = { s with quay := t.quay }) ∧
  (∀ (q : QuayNo) (s : State), s.hm.grant = none ∨ s.hasKernel q = false → exec (.mirrorRefresh q) s = .next s) ∧
  (∀ (k : CellNo) (s : State), fbEmuSource s k ≠ 0 → s.cellUsed k = true → ∃ t, exec (.emulationTiming k) s = .next t ∧
    t.cell[k] = { s.cell[k] with emuOut := s.cell[k].emuNow s.now } ∧ (∀ j : CellNo, j ≠ k → t.cell[j] = s.cell[j]) ∧
    t = { s with cell := t.cell }) ∧
  (∀ (k : CellNo) (s : State), fbEmuSource s k = 0 ∨ s.cellUsed k = false → exec (.emulationTiming k) s = .next s))

/-- UPDATE_POINT at a firing of the quay's slot (R77 to R79, R742, R748, R750, R1078): a phase leg with a new command has it in force, HOLD_LOW or
HOLD_HIGH in its place where an on- or off-interval is shorter than the dead time, and no miss; one that nothing holds and that has none repeats its
previous command, and counts a miss outside OFF, where at the second miss in a row the reaction of CMD_LATE acts on it; one that is held keeps its
command and has no miss. A local leg that nothing holds executes the command in force from this update point on. Misses are raised as CMD_LATE and
counted once a quay. Legs that are no phase legs of the quay, other quays, and all but legs, lanes, the quay's step pulses and miss count, and faults
on their way stay as they are; without a firing, before step 10 and of a quay with no kernel everything does. -/
def Obligations.UpdatePoints : Prop :=
  (
  (∀ (q : QuayNo) (s : State), s.afterStep10 = true → s.hasKernel q = true → fires (s.loopPeriod q) (s.loopPhase q) s.now = true →
    let late (l : LegNo) : Prop := l ∈ s.phaseLegs q ∧ s.leg[l].fresh = false ∧ s.quay[q].core.st ≠ .off ∧ s.heldKind l = none
    let runs (t : State) (l : LegNo) (c : LegCmd) : Prop := s.localLeg l = true →
      t.leg[l].high = (s.executeLeg q l { s.leg[l] with inForce := c } s.now).high ∧
      t.leg[l].low = (s.executeLeg q l { s.leg[l] with inForce := c } s.now).low
    ∃ t, exec (.updatePoint q) s = .next t ∧
      (∀ (l : LegNo) (c : LegCmd), l ∈ s.phaseLegs q → s.leg[l].active = some c → s.leg[l].fresh = true →
        t.leg[l].inForce = substitute c (s.loopPeriod q) (legDeadTime s l) ∧ t.leg[l].missed = 0 ∧ t.leg[l].present = true ∧
        t.leg[l].fresh = false ∧ t.leg[l].active = some c ∧ (s.heldKind l = none → runs t l t.leg[l].inForce)) ∧
      (∀ l : LegNo, late l → t.leg[l].inForce = s.leg[l].inForce ∧ t.leg[l].missed = s.leg[l].missed + 1 ∧ t.leg[l].present = false ∧
        (s.leg[l].missed = 0 → t.leg[l].react = s.leg[l].react ∧ runs t l s.leg[l].inForce) ∧
        (∀ k, s.leg[l].missed ≠ 0 → s.lateReaction q = some k → t.leg[l].react = some k)) ∧
      (∀ l : LegNo, l ∈ s.phaseLegs q → s.leg[l].fresh = false → s.quay[q].core.st = .off ∨ s.heldKind l ≠ none →
        t.leg[l].inForce = s.leg[l].inForce ∧ t.leg[l].missed = 0 ∧ t.leg[l].present = false ∧
        (s.heldKind l = none → runs t l s.leg[l].inForce)) ∧
      ((∃ l, late l) → (∃ e ∈ t.flt.transit, e.src = srcCmdLate ∧ e.quays = [q]) ∧ t.quay[q].cmdLate = satInc s.quay[q].cmdLate) ∧
      ((∀ l, ¬ late l) → t.quay[q].cmdLate = s.quay[q].cmdLate) ∧
      (s.isPulse q = false → t.quay[q] = { s.quay[q] with cmdLate := t.quay[q].cmdLate }) ∧
      (∀ l : LegNo, l ∉ s.phaseLegs q → t.leg[l] = s.leg[l]) ∧ (∀ r : QuayNo, r ≠ q → t.quay[r] = s.quay[r]) ∧
      t = { s with quay := t.quay, leg := t.leg, lane := t.lane, flt := { s.flt with transit := t.flt.transit } }) ∧
  (∀ (q : QuayNo) (s : State), s.afterStep10 = false ∨ s.hasKernel q = false ∨ fires (s.loopPeriod q) (s.loopPhase q) s.now = false →
    exec (.updatePoint q) s = .next s))

/-! ### Legs, choppers, pins -/

/-- LEG_COMMAND_ARRIVAL (R46 to R50, R957, R959, R968, R970) of a phase leg of a quay, whether the kernel computed the command or it is another: from
the half in charge it becomes the leg's active command, whatever its claim; from the other half where that is admitted, or is admitted by this command,
it becomes the standby command and force pins are judged again (with no force pins in the policy nothing follows); any other is discarded and counted,
also where its half runs no more. A claim that does not match is counted for its half, once per quay and update point. Other legs stay as they are;
nothing changes for a leg of no quay, a chopper leg, or with no command. -/
def Obligations.LegCommandsArrive : Prop :=
  (
  (∀ (l : LegNo) (q : QuayNo) (h : Side) (claim : Claim) (src : LegCmdSource) (c : LegCmd) (s : State), s.legQuay l = some q →
    s.isChopperLeg l = false → s.arriving q l src = some c →
    let others (t : State) : Prop := ∀ k : LegNo, k ≠ l → t.leg[k] = s.leg[k]
    let counts (t : State) : Prop := ¬ (s.half.get h).mismatchKeys.contains (q, s.nextUpdate q) = true →
      (t.half.get h).mismatch = (s.half.get h).mismatch + 1
    let admitted : Prop := s.hm.admission[q] = true ∨
      (claim = .shadow ∧ s.hm.synced[q] = true ∧ (s.half.get h).coreSync = true ∧ s.hm.grant ≠ none)
    ((s.half.get h).run = true → s.hm.grant = some h → ∃ t, exec (.legCommandArrival l h claim src) s = .next t ∧
      t.leg[l] = { s.leg[l] with
        active := some c, fresh := true, diverge := t.leg[l].diverge, divergeDone := t.leg[l].divergeDone, compared := t.leg[l].compared } ∧ others t ∧
      (claim = .active → t.half = s.half) ∧ (claim = .shadow → counts t) ∧
      t = { s with leg := t.leg, half := t.half, lane := t.lane, flt := { s.flt with transit := t.flt.transit } }) ∧
    ((s.half.get h).run = true → s.hm.grant ≠ some h → admitted → ∃ u, exec (.legCommandArrival l h claim src) s = .next u.evalForce ∧
      (s.prot.hmForce = false → u.evalForce = { u with hm := { u.hm with forcePend := false } }) ∧
      u.leg[l] = { s.leg[l] with
        standby := some c, sbFresh := true, diverge := u.leg[l].diverge, divergeDone := u.leg[l].divergeDone, compared := u.leg[l].compared } ∧ others u ∧
      (claim = .shadow → u.half = s.half) ∧ (claim = .active → counts u) ∧
      u = { s with leg := u.leg, half := u.half, hm := { s.hm with admission := s.hm.admission.set q true }
                   flt := { s.flt with transit := u.flt.transit } }) ∧
    ((s.half.get h).run = true → s.hm.grant ≠ some h → ¬ admitted → ∃ t, exec (.legCommandArrival l h claim src) s = .next t ∧
      t.leg[l] = { s.leg[l] with discards := s.leg[l].discards + 1 } ∧ others t ∧ (claim = .shadow → t.half = s.half) ∧
      (claim = .active → s.hm.everGranted = false ∨ s.hm.lastMove + 128000 ≤ s.now → counts t) ∧
      t = { s with leg := t.leg, half := t.half, flt := { s.flt with transit := t.flt.transit } }) ∧
    ((s.half.get h).run = false → s.hm.grant ≠ some h → ∃ t, exec (.legCommandArrival l h claim src) s = .next t ∧
      t.leg[l] = { s.leg[l] with discards := s.leg[l].discards + 1 } ∧ others t ∧ t = { s with leg := t.leg }) ∧
    ((s.half.get h).run = false → s.hm.grant = some h → exec (.legCommandArrival l h claim src) s = .next s)) ∧
  (∀ (l : LegNo) (h : Side) (claim : Claim) (src : LegCmdSource) (s : State), s.legQuay l = none ∨ s.isChopperLeg l = true ∨
    (∀ q, s.legQuay l = some q → s.arriving q l src = none) → exec (.legCommandArrival l h claim src) s = .next s))

/-- GATE_WATCH, GATE_ON_UNCOMMANDED and GATE_ON_TIMEOUT on a leg of a pre-driver die (R753 to R755, R785): at GATE_WATCH the turn-ons of the other
switch that have not happened are abandoned; of a leg that a quay owns GATE_WATCH is raised for the quay with its suspect (high 1, low 2, unknown 3),
which the leg shows. Other legs and all but legs and faults on their way stay, and everything does for a leg that no pre-driver die has. -/
def Obligations.GateEvents : Prop :=
  (
  (∀ (l : LegNo) (sw : Switch) (s : State), l.val < 32 → s.hasDies = true →
    let n : Nat := match sw with | .high => 1 | .low => 2
    let drop (es : List (Nat × Bool)) : List (Nat × Bool) := es.filter (fun e => decide (e.1 ≤ s.now) || !e.2)
    let dropped : Leg := match sw with
      | .high => { s.leg[l] with abandoned := true, low := drop s.leg[l].low }
      | .low => { s.leg[l] with abandoned := true, high := drop s.leg[l].high }
    let shows (t : State) (x : Leg) (suspect : Nat) : Prop :=
      (∀ q, s.legQuay l = some q → t.leg[l] = { x with suspect := suspect } ∧
        ∃ e, t.flt = { s.flt with transit := s.flt.transit ++ [e] } ∧ e.src = srcGateWatch ∧ e.quays = [q] ∧ e.suspect = suspect ∧ e.time = s.now) ∧
      (s.legQuay l = none → t.leg[l] = x ∧ t.flt = s.flt) ∧
      (∀ k : LegNo, k ≠ l → t.leg[k] = s.leg[k]) ∧ t = { s with leg := t.leg, flt := t.flt }
    (∃ t, exec (.gateWatch l sw) s = .next t ∧ shows t dropped n) ∧
    (∃ t, exec (.gateOnUncommanded l sw) s = .next t ∧ shows t s.leg[l] n) ∧
    (∃ t, exec (.gateOnTimeout l sw) s = .next t ∧ shows t s.leg[l] 3)) ∧
  (∀ (l : LegNo) (sw : Switch) (s : State), 32 ≤ l.val ∨ s.hasDies = false →
    exec (.gateWatch l sw) s = .next s ∧ exec (.gateOnUncommanded l sw) s = .next s ∧ exec (.gateOnTimeout l sw) s = .next s))

/-- BOOT_REFRESH and REFRESH_REPEAT of a leg whose high side is on (R760, R761): at most once in 5 us a refresh pulse, counted and raised: the high side
is off for it, the low side on for 300 ns after a dead time; where no turn-off of the high side falls within it the low side goes off and the high side
is on again a dead time later. BOOT_UV and BOOT_UV_CLEAR of a leg of a pre-driver die (R764): the under-voltage is shown, the high side is off and
BOOT_UV is raised, once; it is cleared when the voltage is back, and a high side commanded on turns on. A source is raised for the quay that owns the
leg. Other legs and all but legs and faults on their way stay; without its condition each changes nothing. -/
def Obligations.BootstrapEvents : Prop :=
  (
  let raises (s t : State) (l : LegNo) (src : Nat) : Prop :=
    (∀ q, s.legQuay l = some q → Raised s t src (BitVec.ofNat 8 q.val)) ∧ (s.legQuay l = none → t.flt = s.flt)
  (∀ (l : LegNo) (s : State),
    let stop := s.now + 2 * legDeadTime s l + 1920
    let pulse (t : State) : Prop :=
      raises s t l srcBootRefresh ∧
      t.leg[l] = { s.leg[l] with refreshes := s.leg[l].refreshes + 1, lastRefresh := some s.now, high := t.leg[l].high, low := t.leg[l].low } ∧
      (∀ u, s.now ≤ u → u < stop → levelAt t.leg[l].high u = false) ∧
      (∀ u, s.now + legDeadTime s l ≤ u → u < s.now + legDeadTime s l + 1920 → levelAt t.leg[l].low u = true) ∧
      ((∀ e ∈ s.leg[l].high, e.2 = false → e.1 ≤ s.now ∨ stop < e.1) → 0 < legDeadTime s l →
        levelAt t.leg[l].low (s.now + legDeadTime s l + 1920) = false ∧ levelAt t.leg[l].high stop = true) ∧
      (∀ k : LegNo, k ≠ l → t.leg[k] = s.leg[k]) ∧ t = { s with leg := t.leg, flt := t.flt }
    (s.gateHigh l = true → (∀ u, s.leg[l].lastRefresh = some u → u + 32000 ≤ s.now) → ∃ t, exec (.bootRefresh l) s = .next t ∧ pulse t) ∧
    (∀ u, s.gateHigh l = true → s.leg[l].lastRefresh = some u → u + 32000 ≤ s.now → ∃ t, exec (.refreshRepeat l) s = .next t ∧ pulse t) ∧
    (∀ u, s.leg[l].lastRefresh = some u → s.now < u + 32000 → exec (.bootRefresh l) s = .next s ∧ exec (.refreshRepeat l) s = .next s) ∧
    (s.gateHigh l = false → exec (.bootRefresh l) s = .next s ∧ exec (.refreshRepeat l) s = .next s) ∧
    (s.leg[l].lastRefresh = none → exec (.refreshRepeat l) s = .next s)) ∧
  (∀ (l : LegNo) (s : State), l.val < 32 → s.hasDies = true →
    (s.leg[l].uvlo = false → ∃ t, exec (.bootUv l) s = .next t ∧ raises s t l srcBootUv ∧ t.leg[l] = { s.leg[l] with uvlo := true } ∧
      t.gateHigh l = false ∧ (∀ k : LegNo, k ≠ l → t.leg[k] = s.leg[k]) ∧ t = { s with leg := t.leg, flt := t.flt }) ∧
    (∃ t, exec (.bootUvClear l) s = .next t ∧
      t.leg[l] = { s.leg[l] with
        uvlo := false
        high := if s.leg[l].uvlo = true ∧ levelAt s.leg[l].high s.now = true then
          (s.now, true) :: s.leg[l].high.filter (fun e => decide (s.now < e.1)) else s.leg[l].high } ∧
      (∀ k : LegNo, k ≠ l → t.leg[k] = s.leg[k]) ∧ t = { s with leg := t.leg })) ∧
  (∀ (l : LegNo) (s : State), (s.leg[l].uvlo = true → exec (.bootUv l) s = .next s) ∧
    (32 ≤ l.val ∨ s.hasDies = false → exec (.bootUv l) s = .next s ∧ exec (.bootUvClear l) s = .next s)))

/-- SHORT_CIRCUIT and BLANKING_END on a leg of a pre-driver die (R769 to R777): the absolute comparator, a slope event outside blanking, and at the end
of blanking a latched slope event above `leg.pb_level` sink both gates, set the Bollard latch in state OFF and raise SHORT_CIRCUIT for the quay that
owns the leg, with the suspect the leg then shows; a slope event during blanking is only latched; at or below the level it is counted and raised as
BLANKED_TRANSIENT. R782: where the quay is under an active short of a reaction, such a trip also puts every phase leg of the quay in pulse block and
raises ASC_OVERCURRENT. Without an active short other legs, and all but legs, lanes and faults on their way, stay as they are. A leg that no
pre-driver die has changes nothing, nor does BLANKING_END without a latched event. -/
def Obligations.ShortCircuits : Prop :=
  (
  (∀ (l : LegNo) (i : Int) (s : State), l.val < 32 → s.hasDies = true → (∀ q, s.legQuay l = some q → s.quay[q].react ≠ some 5 ∧ s.quay[q].react ≠ some 6) →
    let raises (t : State) (src : Nat) : Prop :=
      (∀ q, s.legQuay l = some q → Raised s t src (BitVec.ofNat 8 q.val)) ∧ (s.legQuay l = none → t.flt = s.flt)
    let acts (t : State) (suspect : Nat) (slope : Bool) : Prop :=
      t.leg[l] = { s.leg[l] with
        latch := some .off, latchWait := true, slopeLatched := slope, high := t.leg[l].high, low := t.leg[l].low
        suspect := if s.legQuay l = none then s.leg[l].suspect else suspect } ∧
      (∀ u, s.now ≤ u → levelAt t.leg[l].high u = false ∧ levelAt t.leg[l].low u = false) ∧
      raises t srcShortCircuit ∧ (∀ k : LegNo, k ≠ l → t.leg[k] = s.leg[k]) ∧ t = { s with leg := t.leg, lane := t.lane, flt := t.flt }
    (∃ t, exec (.shortCircuit l .absolute i) s = .next t ∧ acts t (s.shortSuspect l).1 s.leg[l].slopeLatched) ∧
    (s.blankingOpen l = false → ∃ t, exec (.shortCircuit l .slope i) s = .next t ∧ acts t (s.shortSuspect l).1 s.leg[l].slopeLatched) ∧
    (s.leg[l].slopeLatched = true → (legPbLevel s l : Int) < |i| → ∃ t, exec (.blankingEnd l i) s = .next t ∧ acts t (s.blankSuspect l).1 false) ∧
    (s.leg[l].slopeLatched = true → |i| ≤ (legPbLevel s l : Int) → ∃ t, exec (.blankingEnd l i) s = .next t ∧
      t.leg[l] = { s.leg[l] with slopeLatched := false, blanks := s.leg[l].blanks + 1 } ∧ raises t srcBlankedTransient ∧
      (∀ k : LegNo, k ≠ l → t.leg[k] = s.leg[k]) ∧ t = { s with leg := t.leg, flt := t.flt })) ∧
  (∀ (l : LegNo) (i : Int) (s : State), s.blankingOpen l = true → ∃ t, exec (.shortCircuit l .slope i) s = .next t ∧
    t.leg[l] = { s.leg[l] with slopeLatched := true } ∧ (∀ k : LegNo, k ≠ l → t.leg[k] = s.leg[k]) ∧ t = { s with leg := t.leg }) ∧
  (∀ (l : LegNo) (d : Detector) (i : Int) (s : State), (32 ≤ l.val ∨ s.hasDies = false →
      exec (.shortCircuit l d i) s = .next s ∧ exec (.blankingEnd l i) s = .next s) ∧
    (s.leg[l].slopeLatched = false → exec (.blankingEnd l i) s = .next s))) ∧
  (
  ∀ (l : LegNo) (q : QuayNo) (i : Int) (s : State), l.val < 32 → s.hasDies = true → s.legQuay l = some q →
    s.quay[q].react = some 5 ∨ s.quay[q].react = some 6 →
    let trips (t : State) : Prop :=
      t.quay[q].react = some 4 ∧ t.leg[l].latch = some .off ∧ (∀ k ∈ s.phaseLegs q, t.heldKind k = some .off) ∧
      (∃ e ∈ t.flt.transit, e.src = srcAscOvercurrent ∧ e.quays = [q] ∧ e.time = s.now) ∧
      (∃ e ∈ t.flt.transit, e.src = srcShortCircuit ∧ e.quays = [q] ∧ e.time = s.now) ∧
      t = { s with quay := t.quay, leg := t.leg, lane := t.lane, flt := t.flt }
    (∃ t, exec (.shortCircuit l .absolute i) s = .next t ∧ trips t) ∧
    (s.blankingOpen l = false → ∃ t, exec (.shortCircuit l .slope i) s = .next t ∧ trips t) ∧
    (s.leg[l].slopeLatched = true → (legPbLevel s l : Int) < |i| → ∃ t, exec (.blankingEnd l i) s = .next t ∧ trips t))

/-- VM_OV, VM_UV, CHOPPER_ON, CHOPPER_OFF and CHOPPER_LONG (R789, R790, R792, R793, R797): the VM of the die is known and its source raised (VM_OV
above its level from READY on, VM_UV below its level while a quay with legs on the die is outside OFF); a chopper that works turns on at its on level
and off at its off level, BRK0 and BRK1 as their die judges; one that is on too long goes on working and raises CHOPPER_LONG. Nothing else changes, and
without its condition each changes nothing. -/
def Obligations.DcLink : Prop :=
  (
  (∀ (d : DieNo) (mv : Nat) (s : State), s.hasDies = true → s.boot.stage = .ready → devVmOv s d.val < mv → ∃ t, exec (.vmOv d mv) s = .next t ∧
    t.supply = { s.supply with vm := s.supply.vm.set d (mv : Rat) } ∧ Raised s t srcVmOv (0x40 + BitVec.ofNat 8 d.val) ∧
    t = { s with supply := t.supply, flt := t.flt }) ∧
  (∀ (d : DieNo) (mv : Nat) (q : QuayNo) (s : State), s.hasDies = true → q ∈ s.dieQuays d → s.quay[q].core.st ≠ .off → mv < devVmUv s d.val →
    ∃ t, exec (.vmUv d mv) s = .next t ∧ t.supply = { s.supply with vm := s.supply.vm.set d (mv : Rat) } ∧
      Raised s t srcVmUv (0x40 + BitVec.ofNat 8 d.val) ∧ t = { s with supply := t.supply, flt := t.flt }) ∧
  (∀ (m : Fin 4) (s : State), s.chopperWorks (.brk m) = true → s.brk[m].on = false →
    (∀ v, s.chopperMv (.brk m) = some v → (devBrkOn s m.val : Rat) ≤ v) → ∃ t, exec (.chopperOn (.brk m)) s = .next t ∧
      t.brk[m] = { on := true, onSince := s.now } ∧ (∀ j : Fin 4, j ≠ m → t.brk[j] = s.brk[j]) ∧ t = { s with brk := t.brk }) ∧
  (∀ (l : LegNo) (s : State), s.chopperWorks (.leg l) = true → s.leg[l].chopping = false →
    (∀ v, s.chopperMv (.leg l) = some v → (legChopOn s l : Rat) ≤ v) → ∃ t, exec (.chopperOn (.leg l)) s = .next t ∧ t.leg[l] = { s.leg[l] with chopping := true } ∧
      (∀ k : LegNo, k ≠ l → t.leg[k] = s.leg[k]) ∧ t = { s with leg := t.leg, lane := t.lane }) ∧
  (∀ (m : Fin 4) (s : State), s.brk[m].on = true → (∀ v, s.chopperMv (.brk m) = some v → v ≤ (devBrkOff s m.val : Rat)) →
    ∃ t, exec (.chopperOff (.brk m)) s = .next t ∧ t.brk[m] = { s.brk[m] with on := false } ∧
      (∀ j : Fin 4, j ≠ m → t.brk[j] = s.brk[j]) ∧ t = { s with brk := t.brk }) ∧
  (∀ (l : LegNo) (s : State), s.leg[l].chopping = true → (∀ v, s.chopperMv (.leg l) = some v → v ≤ (legChopOff s l : Rat)) →
    ∃ t, exec (.chopperOff (.leg l)) s = .next t ∧ t.leg[l] = { s.leg[l] with chopping := false } ∧
      (∀ k : LegNo, k ≠ l → t.leg[k] = s.leg[k]) ∧ t = { s with leg := t.leg, lane := t.lane }) ∧
  (∀ (m : Fin 4) (s : State), s.brk[m].on = true → devBrkMaxOn s m.val ≠ 0 → s.brk[m].onSince + 6400 * devBrkMaxOn s m.val ≤ s.now →
    ∃ t, exec (.chopperLong m) s = .next t ∧ Raised s t srcChopperLong (0x70 + BitVec.ofNat 8 m.val) ∧ t = { s with flt := t.flt }) ∧
  (∀ (d : DieNo) (mv : Nat) (s : State), (s.hasDies = false ∨ s.boot.stage ≠ .ready ∨ mv ≤ devVmOv s d.val → exec (.vmOv d mv) s = .next s) ∧
    (s.hasDies = false ∨ (∀ q ∈ s.dieQuays d, s.quay[q].core.st = .off) ∨ devVmUv s d.val ≤ mv → exec (.vmUv d mv) s = .next s)) ∧
  (∀ (c : ChopperRef) (s : State),
    (s.chopperWorks c = false ∨ s.chopperOn c = true ∨ (∃ v, s.chopperMv c = some v ∧ v < (s.chopOnMv c : Rat)) → exec (.chopperOn c) s = .next s) ∧
    (s.chopperOn c = false ∨ (∃ v, s.chopperMv c = some v ∧ (s.chopOffMv c : Rat) < v) → exec (.chopperOff c) s = .next s)) ∧
  (∀ (m : Fin 4) (s : State), s.brk[m].on = false ∨ devBrkMaxOn s m.val = 0 ∨ s.now < s.brk[m].onSince + 6400 * devBrkMaxOn s m.val →
    exec (.chopperLong m) s = .next s))

/-- ENABLE_LOW, HALT_ASSERT, HALT_RELEASE and HALT_DISC (R62, R742, R795, R804, R1040 to R1045): a low enable pin holds every leg of its group OFF with
no gate on, an asserted HALT input every phase leg; each raises ENABLE_LOW for the quays concerned that are in ARMED, CATCHING, RUNNING, STOPPING, HOLD
or HOMING; no latch changes; two HALT inputs that differ set HALT_DISC. ENABLE_TOGGLE (R805 to R809): a low level below 10 us releases no latch; after
a longer one the latch of each leg of the group is released exactly when every record that set or changed it was acknowledged before the falling edge,
and BOLLARD_EARLY is raised for the quay of a leg whose latch stays. Each leaves all but pins, legs, lanes, choppers (ENABLE_LOW alone) and faults on
their way; a pin or input at its level already changes nothing, nor do
LEG_EN0 and LEG_EN1 without pre-driver dies (R2, R1024). -/
def Obligations.PinsHold : Prop :=
  (
  let active (s : State) (q : QuayNo) : Prop := s.quay[q].core.st ≠ .off ∧ s.quay[q].core.st ≠ .faulted ∧ s.quay[q].core.st ≠ .safe
  let raised (s t : State) (q : QuayNo) : Prop := ∃ e ∈ t.flt.transit, e.src = srcEnableLow ∧ e.quays = [q] ∧ e.time = s.now
  let latches (s t : State) : Prop := ∀ l : LegNo, t.leg[l].latch = s.leg[l].latch
  (∀ (g : GroupNo) (s : State), 2 ≤ g.val ∨ s.hasDies = true → s.pins.enHigh[g] = true → ∃ t, exec (.enableLow g) s = .next t ∧
    t.pins = { s.pins with enHigh := s.pins.enHigh.set g false, enLowAt := s.pins.enLowAt.set g s.now } ∧
    (∀ l : LegNo, s.groupOf l = some g → t.heldKind l = some .off ∧ t.gateHigh l = false ∧ t.gateLow l = false) ∧
    (∀ (q : QuayNo) (l : LegNo), l ∈ s.legsOf q → s.groupOf l = some g → active s q → raised s t q) ∧
    (∀ m : Fin 4, t.brk[m] = (if m.val < 2 ∧ m.val = g.val then { s.brk[m] with on := false } else s.brk[m])) ∧ latches s t ∧
    t = { s with pins := t.pins, leg := t.leg, lane := t.lane, brk := t.brk, flt := { s.flt with transit := t.flt.transit } }) ∧
  (∀ (ch : Side) (s : State), s.pins.halt.get ch = false → ∃ t, exec (.haltAssert ch) s = .next t ∧
    t.pins = { s.pins with halt := s.pins.halt.set ch true } ∧ (∀ l : LegNo, s.isChopperLeg l = false → t.heldKind l = some .off) ∧
    (∀ q : QuayNo, s.phaseLegs q ≠ [] → active s q → raised s t q) ∧ latches s t ∧
    t = { s with pins := t.pins, leg := t.leg, lane := t.lane, flt := { s.flt with transit := t.flt.transit } }) ∧
  (∀ (ch : Side) (s : State), ∃ t, exec (.haltRelease ch) s = .next t ∧ t.pins = { s.pins with halt := s.pins.halt.set ch false } ∧ latches s t ∧
    t = { s with pins := t.pins, leg := t.leg, lane := t.lane }) ∧
  (∀ s : State, exec .haltDisc s = .next (if s.pins.halt.a = s.pins.halt.b then s else { s with pins := { s.pins with haltDisc := true } })) ∧
  (∀ (g : GroupNo) (ch : Side) (s : State),
    (g.val < 2 → s.hasDies = false → exec (.enableLow g) s = .next s ∧ exec (.enableToggle g) s = .next s) ∧
    (s.pins.enHigh[g] = false → exec (.enableLow g) s = .next s) ∧
    (s.pins.enHigh[g] = true → exec (.enableToggle g) s = .next s) ∧ (s.pins.halt.get ch = true → exec (.haltAssert ch) s = .next s))) ∧
  (
  ∀ (g : GroupNo) (s : State), 2 ≤ g.val ∨ s.hasDies = true → s.pins.enHigh[g] = false → ∃ t, exec (.enableToggle g) s = .next t ∧
    t.pins = { s.pins with enHigh := s.pins.enHigh.set g true } ∧
    (s.now < s.pins.enLowAt[g] + 64000 → ∀ l : LegNo, t.leg[l].latch = s.leg[l].latch) ∧
    (s.pins.enLowAt[g] + 64000 ≤ s.now → ∀ l : LegNo, (s.groupOf l ≠ some g → t.leg[l].latch = s.leg[l].latch) ∧
      (s.groupOf l = some g → s.leg[l].latch ≠ none →
        let good : Prop := s.leg[l].latchWait = false ∧
          ∀ no ∈ s.leg[l].latchRecs, ∃ r, s.flt.record no = some r ∧ r.acked = true ∧ r.ackedAt < s.pins.enLowAt[g]
        (good → t.leg[l].latch = none ∧ t.leg[l].inForce.kind = .off) ∧
        (¬ good → t.leg[l].latch = s.leg[l].latch ∧
          ∀ q, s.legQuay l = some q → ∃ e ∈ t.flt.transit, e.src = srcBollardEarly ∧ e.quays = [q] ∧ e.time = s.now))) ∧
    t = { s with pins := t.pins, leg := t.leg, lane := t.lane, flt := { s.flt with transit := t.flt.transit } })

/-! ### Feedback cells, sigma-delta and limit inputs -/

/-- FB_EDGE in mode 1 of a cell in use, where the filter lets the changes through (R339, R344, R345, R393, R394, R409): a single change of A or B counts one
step, up in the sense in which (A, B) runs 00, 10, 11, 01 and down in the other, the sense inverted by `fb.dir` = 1; a change of both leaves the count,
is counted as illegal, sets UNSURE and raises ILLEGAL_EDGE for the quay that owns the cell. Other cells and quays stay, and of the quay a counted step
changes at most what its open snapshot and its probe hold of the cell. An edge stamped at or before the sample event of a preset leaves the position,
which that event took from the preset. An emulation of the cell may raise EMU_OVERRUN. No change, and one that the filter rejects, change nothing; before step 10, in
mode 0, 2 or 3, and of an unused cell in mode 1 the levels alone are noted, in mode 4 nothing is. -/
def Obligations.QuadratureCounts : Prop :=
  (
  let lines (s : State) (k : CellNo) (a b : Bool) : List (Fin 3 × Bool) := [(0, s.cell[k].a != a), (1, s.cell[k].b != b)]
  (∀ (k : CellNo) (a b : Bool) (s : State), s.afterStep10 = true → fbMode s k = 1 → s.cellUsed k = true → s.linesAccept k (lines s k a b) = true →
    ((s.cell[k].a ≠ a ∧ s.cell[k].b = b) ∨ (s.cell[k].a = a ∧ s.cell[k].b ≠ b) → ∃ t, exec (.fbEdge k a b) s = .next t ∧
      let early : Prop := ∃ e d, s.cell[k].presetAt = some (e, d) ∧ (s.now - 16 * fbFilter s k) / 16 * 16 ≤ e
      (¬ early → t.cell[k].pos = s.cell[k].pos + (if (if s.cell[k].b = b then a ≠ b else a = b) ↔ fbDir s k ≠ 1 then 1 else -1)) ∧
      (early → t.cell[k].pos = s.cell[k].pos) ∧
      t.cell[k].a = a ∧ t.cell[k].b = b ∧ t.cell[k].illegal = s.cell[k].illegal ∧ (∀ j : CellNo, j ≠ k → t.cell[j] = s.cell[j]) ∧
      (∀ r : QuayNo, t.quay[r] = { s.quay[r] with form := t.quay[r].form, probe := t.quay[r].probe }) ∧
      (∀ r : QuayNo, s.cellQuay k ≠ some r → t.quay[r] = s.quay[r]) ∧ (fbEmuSource s k ≠ 1 → t.flt = s.flt) ∧
      t = { s with cell := t.cell, quay := t.quay, flt := { s.flt with transit := t.flt.transit } }) ∧
    (s.cell[k].a ≠ a ∧ s.cell[k].b ≠ b → ∃ t, exec (.fbEdge k a b) s = .next t ∧ t.cell[k].pos = s.cell[k].pos ∧
      t.cell[k].a = a ∧ t.cell[k].b = b ∧ t.cell[k].illegal = s.cell[k].illegal + 1 ∧ t.cell[k].unsure = true ∧
      (∀ q, s.cellQuay k = some q → Raised s t srcIllegalEdge (BitVec.ofNat 8 q.val)) ∧ (∀ j : CellNo, j ≠ k → t.cell[j] = s.cell[j]) ∧
      t = { s with cell := t.cell, quay := t.quay, ih := t.ih, flt := t.flt })) ∧
  (∀ (k : CellNo) (a b : Bool) (s : State), s.afterStep10 = true → fbMode s k = 1 → s.cellUsed k = true →
    (s.cell[k].a = a ∧ s.cell[k].b = b) ∨ s.linesAccept k (lines s k a b) = false → exec (.fbEdge k a b) s = .next s) ∧
  (∀ (k : CellNo) (a b : Bool) (s : State), s.afterStep10 = true → fbMode s k = 4 → exec (.fbEdge k a b) s = .next s) ∧
  (∀ (k : CellNo) (a b : Bool) (s : State), s.afterStep10 = false ∨ (fbMode s k ≠ 1 ∧ fbMode s k ≠ 4) ∨ (fbMode s k = 1 ∧ s.cellUsed k = false) →
    ∃ t, exec (.fbEdge k a b) s = .next t ∧ t.cell[k] = { s.cell[k] with a := a, b := b, lineAt := t.cell[k].lineAt } ∧
      (∀ j : CellNo, j ≠ k → t.cell[j] = s.cell[j]) ∧ t = { s with cell := t.cell }))

/-- The Hall sequence (R346): with `fb.hall_order` 0 forward 1, 3, 2, 6, 4, 5; with 1 the reverse; 0 and 7 have no place in it. HALL_CHANGE in mode 2
of a cell in use, where the filter lets the change through (R339, R346 to R349): a change to the next state of the forward sequence counts one step, to
the previous one a step back (inverted by `fb.dir` = 1); between states that are not adjacent it is an illegal transition; state 0 or 7 raises
HALL_ILLEGAL and leaves the count; the first valid state after it is taken without counting. A source is raised for the quay that owns the cell; of the
quay a counted step changes at most what its open snapshot and its probe hold of the cell; one stamped at or before the sample event of a preset
leaves the position (R394); an emulation of the cell may raise EMU_OVERRUN. No change, and one that the filter rejects, change nothing;
before step 10, in another mode and of an unused cell the state alone is noted. -/
def Obligations.HallCounts : Prop :=
  (
  ([1, 3, 2, 6, 4, 5].map (fun n => hallSector 0 (BitVec.ofNat 3 n)) = [some 0, some 1, some 2, some 3, some 4, some 5]) ∧
  ([1, 5, 4, 6, 2, 3].map (fun n => hallSector 1 (BitVec.ofNat 3 n)) = [some 0, some 1, some 2, some 3, some 4, some 5]) ∧
  ∀ o, hallSector o 0 = none ∧ hallSector o 7 = none) ∧
  (
  (∀ (k : CellNo) (st : BitVec 3) (s : State), s.afterStep10 = true → fbMode s k = 2 → s.cellUsed k = true → s.cell[k].hall ≠ st →
    s.linesAccept k (hallLines s.cell[k].hall st) = true →
    let early : Prop := ∃ e d, s.cell[k].presetAt = some (e, d) ∧ (s.now - 16 * fbFilter s k) / 16 * 16 ≤ e
    let counts (t : State) (d : Int) : Prop :=
      (¬ early → t.cell[k].pos = s.cell[k].pos + d) ∧ (early → t.cell[k].pos = s.cell[k].pos) ∧ t.cell[k].hall = st ∧ t.cell[k].lastHall = some st ∧ (∀ j : CellNo, j ≠ k → t.cell[j] = s.cell[j]) ∧
      (∀ r : QuayNo, t.quay[r] = { s.quay[r] with form := t.quay[r].form, probe := t.quay[r].probe }) ∧
      (∀ r : QuayNo, s.cellQuay k ≠ some r → t.quay[r] = s.quay[r]) ∧ (fbEmuSource s k ≠ 1 → t.flt = s.flt) ∧
      t = { s with cell := t.cell, quay := t.quay, flt := { s.flt with transit := t.flt.transit } }
    (∀ p0 p : Nat, s.cell[k].lastHall.bind (hallSector (fbHallOrder s k)) = some p0 → hallSector (fbHallOrder s k) st = some p →
      ((p0 + 1) % 6 = p → ∃ t, exec (.hallChange k st) s = .next t ∧ counts t (if fbDir s k = 1 then -1 else 1)) ∧
      ((p + 1) % 6 = p0 → ∃ t, exec (.hallChange k st) s = .next t ∧ counts t (if fbDir s k = 1 then 1 else -1)) ∧
      ((p0 + 1) % 6 ≠ p → (p + 1) % 6 ≠ p0 → ∃ t, exec (.hallChange k st) s = .next t ∧ t.cell[k].pos = s.cell[k].pos ∧ t.cell[k].hall = st ∧
        t.cell[k].illegal = s.cell[k].illegal + 1 ∧ t.cell[k].unsure = true ∧
        (∀ q, s.cellQuay k = some q → Raised s t srcIllegalEdge (BitVec.ofNat 8 q.val)) ∧ (∀ j : CellNo, j ≠ k → t.cell[j] = s.cell[j]) ∧
        t = { s with cell := t.cell, quay := t.quay, ih := t.ih, flt := t.flt })) ∧
    (st = 0 ∨ st = 7 → ∃ t, exec (.hallChange k st) s = .next t ∧
      t.cell[k] = { s.cell[k] with hall := st, lastHall := none, lineAt := t.cell[k].lineAt } ∧
      (∀ q, s.cellQuay k = some q → Raised s t srcHallIllegal (BitVec.ofNat 8 q.val)) ∧ (s.cellQuay k = none → t.flt = s.flt) ∧
      (∀ j : CellNo, j ≠ k → t.cell[j] = s.cell[j]) ∧ t = { s with cell := t.cell, flt := t.flt }) ∧
    (st ≠ 0 → st ≠ 7 → s.cell[k].lastHall.bind (hallSector (fbHallOrder s k)) = none → ∃ t, exec (.hallChange k st) s = .next t ∧
      t.cell[k] = { s.cell[k] with hall := st, lastHall := some st, lineAt := t.cell[k].lineAt } ∧
      (∀ j : CellNo, j ≠ k → t.cell[j] = s.cell[j]) ∧ t = { s with cell := t.cell })) ∧
  (∀ (k : CellNo) (st : BitVec 3) (s : State), s.afterStep10 = true → fbMode s k = 2 → s.cellUsed k = true →
    s.cell[k].hall = st ∨ s.linesAccept k (hallLines s.cell[k].hall st) = false → exec (.hallChange k st) s = .next s) ∧
  (∀ (k : CellNo) (st : BitVec 3) (s : State), s.afterStep10 = false ∨ fbMode s k ≠ 2 ∨ s.cellUsed k = false →
    ∃ t, exec (.hallChange k st) s = .next t ∧ t.cell[k] = { s.cell[k] with hall := st, lineAt := t.cell[k].lineAt } ∧
      (∀ j : CellNo, j ≠ k → t.cell[j] = s.cell[j]) ∧ t = { s with cell := t.cell }))

/-- INDEX_LATCH in modes 1 and 4 of a cell in use with the index enabled, where the gate condition on the levels of A and B holds (R350 to R357): the count is latched
(in mode 4 the start of the quadrant in force, log entry 28); the first latch is the reference; a later one is compared with it modulo C, folded to
half a revolution either way: beyond `fb.drift_tol` it raises COUNT_DRIFT for the quay that owns the cell and sets UNSURE, else it clears UNSURE; the
reference stays; after an illegal transition in the revolution nothing is compared. In another mode, disabled, before step 10 and without the gate
condition or of an unused cell nothing changes. -/
def Obligations.IndexLatches : Prop :=
  (
  (let gate (s : State) (k : CellNo) : Prop := fbIndexGate s k < 4 ∨
     (s.cell[k].a = decide (fbIndexGate s k % 2 = 1) ∧ s.cell[k].b = decide (fbIndexGate s k / 2 % 2 = 1))
   let runs (s : State) (k : CellNo) : Prop := s.afterStep10 = true ∧ s.cellUsed k = true ∧ (fbMode s k = 1 ∨ fbMode s k = 4) ∧ fbIndexEnable s k = 1 ∧ gate s k
   (∀ (k : CellNo) (s : State), runs s k →
    let l : Int := s.latchCount k
    (fbMode s k = 1 → l = s.cell[k].pos) ∧
    (s.cell[k].indexRef = none → ∃ t, exec (.indexLatch k) s = .next t ∧
      t.cell[k] = { s.cell[k] with indexLatch := l, latches := s.cell[k].latches + 1, indexRef := some l } ∧
      (∀ j : CellNo, j ≠ k → t.cell[j] = s.cell[j]) ∧ t = { s with cell := t.cell }) ∧
    (∀ r : Int, s.cell[k].indexRef = some r → s.cell[k].illegalHere = true → ∃ t, exec (.indexLatch k) s = .next t ∧
      t.cell[k] = { s.cell[k] with indexLatch := l, latches := s.cell[k].latches + 1 } ∧
      (∀ j : CellNo, j ≠ k → t.cell[j] = s.cell[j]) ∧ t = { s with cell := t.cell }) ∧
    (∀ r d : Int, s.cell[k].indexRef = some r → s.cell[k].illegalHere = false → 0 < s.countsPerRev k →
      (∃ m : Int, l - r = d + m * s.countsPerRev k) → -(s.countsPerRev k : Int) ≤ 2 * d → 2 * d < s.countsPerRev k →
      (d.natAbs ≤ fbDriftTol s k → ∃ t, exec (.indexLatch k) s = .next t ∧
        t.cell[k] = { s.cell[k] with indexLatch := l, latches := s.cell[k].latches + 1, indexDev := d, unsure := false, drift := 0 } ∧
        (∀ j : CellNo, j ≠ k → t.cell[j] = s.cell[j]) ∧ t = { s with cell := t.cell }) ∧
      (fbDriftTol s k < d.natAbs → ∃ t, exec (.indexLatch k) s = .next t ∧
        t.cell[k] = { s.cell[k] with indexLatch := l, latches := s.cell[k].latches + 1, indexDev := d, unsure := true, drift := d } ∧
        (∀ q, s.cellQuay k = some q → Raised s t srcCountDrift (BitVec.ofNat 8 q.val)) ∧ (∀ j : CellNo, j ≠ k → t.cell[j] = s.cell[j]) ∧
        t = { s with cell := t.cell, quay := t.quay, ih := t.ih, flt := t.flt }))) ∧
   (∀ (k : CellNo) (s : State), ¬ runs s k → exec (.indexLatch k) s = .next s)))

/-- FB_WIRE, FB_WIRE_CLEAR, FB_STILL_TIMEOUT and COMPARE_PULSE_END (R342, R386, R403): a line fault of a cell in use sets WIRE and raises FB_WIRE, once, and clears with
its cause; at a sample event `fb.t_still` after the last edge the cell stands still with speed 0, which in modes 1 and 2 the delivery of that event
shows; the compare pulse ends at its time. SSI_FRAME_END once the clock has run through the frame (R343, R358 to R364): a good frame's value is the
position at the first one and its folded change is added at a later one, delivered with the time of its sample event; a frame with no ready line, a
wrong parity, a line low no more after it, or too large a step sets SSI_ERR and raises SSI_FRAME with that cause, one whose line is high throughout
sets WIRE and SSI_ERR and raises FB_WIRE; either leaves position and speed, flagged stale. A source is raised for the quay that owns the cell. Other
cells stay, and each changes nothing without its condition. -/
def Obligations.CellFlags : Prop :=
  (
  (∀ (k : CellNo) (s : State), s.afterStep10 = true → s.cellUsed k = true → fbMode s k = 1 ∨ fbMode s k = 4 → s.cell[k].wire = false →
    ∃ t, exec (.fbWire k) s = .next t ∧ t.cell[k] = { s.cell[k] with wire := true } ∧
      (∀ q, s.cellQuay k = some q → Raised s t srcFbWire (BitVec.ofNat 8 q.val)) ∧ (s.cellQuay k = none → t.flt = s.flt) ∧
      (∀ j : CellNo, j ≠ k → t.cell[j] = s.cell[j]) ∧ t = { s with cell := t.cell, flt := t.flt }) ∧
  (∀ (k : CellNo) (s : State), s.afterStep10 = false ∨ s.cellUsed k = false ∨ (fbMode s k ≠ 1 ∧ fbMode s k ≠ 4) ∨ s.cell[k].wire = true →
    exec (.fbWire k) s = .next s) ∧
  (∀ (k : CellNo) (s : State), fbMode s k ≠ 3 → ∃ t, exec (.fbWireClear k) s = .next t ∧ t.cell[k] = { s.cell[k] with wire := false } ∧
    (∀ j : CellNo, j ≠ k → t.cell[j] = s.cell[j]) ∧ t = { s with cell := t.cell }) ∧
  (∀ (k : CellNo) (s : State), fbMode s k = 3 → exec (.fbWireClear k) s = .next s) ∧
  (∀ (k : CellNo) (s : State), s.afterStep10 = true → fbMode s k ≠ 0 → s.cell[k].eventAt = s.now → s.cell[k].still = false →
    s.cell[k].lastEdge + 6400 * fbTStill s k ≤ s.now → ∃ t, exec (.fbStillTimeout k) s = .next t ∧
      t.cell[k] = { s.cell[k] with
        still := true, provisional := false, speed := 0, methodF := false, wasF := false, freq := none, period := none, given := t.cell[k].given } ∧
      (3 ≤ fbMode s k → t.cell[k].given = s.cell[k].given ∧ t.quay = s.quay) ∧
      (fbMode s k ≤ 2 → ∃ v, t.cell[k].given = some v ∧ v.still = true ∧ v.speed = 0 ∧ v.pos = s.cell[k].sampled) ∧
      (∀ r : QuayNo, t.quay[r] = { s.quay[r] with form := t.quay[r].form }) ∧ (∀ r : QuayNo, s.cellQuay k ≠ some r → t.quay[r] = s.quay[r]) ∧
      (∀ j : CellNo, j ≠ k → t.cell[j] = s.cell[j]) ∧ t = { s with cell := t.cell, quay := t.quay }) ∧
  (∀ (k : CellNo) (s : State), s.afterStep10 = false ∨ fbMode s k = 0 ∨ s.cell[k].eventAt ≠ s.now ∨ s.cell[k].still = true ∨
    s.now < s.cell[k].lastEdge + 6400 * fbTStill s k → exec (.fbStillTimeout k) s = .next s) ∧
  (∀ (k : CellNo) (u : Nat) (s : State), s.cell[k].cmpUntil = some u → u ≤ s.now → ∃ t, exec (.comparePulseEnd k) s = .next t ∧
    t.cell[k] = { s.cell[k] with cmpUntil := none } ∧ (∀ j : CellNo, j ≠ k → t.cell[j] = s.cell[j]) ∧ t = { s with cell := t.cell }) ∧
  (∀ (k : CellNo) (s : State), (∀ u, s.cell[k].cmpUntil = some u → s.now < u) → exec (.comparePulseEnd k) s = .next s)) ∧
  (
  (∀ (k : CellNo) (f : SsiFrame) (u : Nat) (s : State), fbMode s k = 3 → s.cell[k].await = some u → u + s.ssiTicks k ≤ s.now →
    s.cell[k].presetNow = none →
    let mask : BitVec 32 := BitVec.ofNat 32 (2 ^ fbSsiBits s k - 1)
    let v : Nat := s.ssiValue k (f.data &&& mask)
    let parity : Bool := ssiParityOk (fbSsiParity s k) (f.data &&& mask) f.parity
    let jump : Prop := ∃ p, s.cell[k].ssiPrev = some p ∧ fbSsiMaxStep s k < (ssiDelta (fbSsiBits s k) p v).natAbs
    let high : Prop := f.ready = true ∧ f.data &&& mask = mask ∧ (fbSsiParity s k = 0 ∨ f.parity = true) ∧ f.tail = true
    let others (t : State) : Prop := ∀ j : CellNo, j ≠ k → t.cell[j] = s.cell[j]
    let stale (t : State) : Prop :=
      t.cell[k].pos = s.cell[k].pos ∧ t.cell[k].sampled = s.cell[k].sampled ∧ t.cell[k].speed = s.cell[k].speed ∧ t.cell[k].ssiErr = true ∧
      t.cell[k].stale = true ∧ t.cell[k].ssiPrev = s.cell[k].ssiPrev ∧ t.cell[k].await = none ∧ others t
    (fbSsiCode s k ≠ 1 → fbDir s k ≠ 1 → v = f.data.toNat % 2 ^ fbSsiBits s k) ∧
    (f.ready = true → parity = true → f.tail = false → ¬ jump → ∃ t, exec (.ssiFrameEnd k f) s = .next t ∧
      t.cell[k].pos = (match s.cell[k].ssiPrev with | some p => s.cell[k].pos + ssiDelta (fbSsiBits s k) p v | none => (v : Int)) ∧
      t.cell[k].sampled = t.cell[k].pos ∧ t.cell[k].sampledAt = u ∧ t.cell[k].await = none ∧ t.cell[k].ssiErr = false ∧ t.cell[k].stale = false ∧
      t.cell[k].wire = false ∧ t.cell[k].ssiPrev = some v ∧ others t) ∧
    (∀ sub : Byte, ¬ high → (f.ready = false ∧ sub = 1) ∨ (f.ready = true ∧ parity = false ∧ sub = 2) ∨
        (f.ready = true ∧ parity = true ∧ f.tail = true ∧ sub = 4) ∨ (f.ready = true ∧ parity = true ∧ f.tail = false ∧ jump ∧ sub = 8) →
      ∃ t, exec (.ssiFrameEnd k f) s = .next t ∧ stale t ∧ t.cell[k].wire = false ∧
        ∀ q, s.cellQuay k = some q → ∃ e ∈ t.flt.transit, e.src = srcSsiFrame ∧ e.quays = [q] ∧ e.ctx.sub = sub) ∧
    (high → ∃ t, exec (.ssiFrameEnd k f) s = .next t ∧ stale t ∧ t.cell[k].wire = true ∧
      ∀ q, s.cellQuay k = some q → ∃ e ∈ t.flt.transit, e.src = srcFbWire ∧ e.quays = [q])) ∧
  (∀ (k : CellNo) (f : SsiFrame) (s : State), fbMode s k ≠ 3 ∨ (∀ u, s.cell[k].await = some u → s.now < u + s.ssiTicks k) →
    exec (.ssiFrameEnd k f) s = .next s))

/-- QUADRANT_CHANGE in mode 4 of a cell in use, where the filter lets the changes through (R339, R345, R370, R1074): one comparator that changes counts
a quadrant, inverted by `fb.dir` = 1; both at once are illegal. SINCOS_CONVERSION (R368 to R372): a conversion whose quadrant agrees has the position
(quadrant count div 4) × 4,096 + fine angle (and the offset of a preset), one that is one off corrects the count and raises SINCOS_SYNC, one that is
two off leaves the position, sets UNSURE and raises SINCOS_LOST; the first after a restart takes the quadrant of its fine angle; the conversion of a
sample event is delivered with its time. A source is raised for the quay that owns the cell; other cells stay. The fine angle, below 4,096, comes
from the arc tangent of log entry 12. A change that the filter rejects, none at all, a conversion of the sequence that has completed before, another
mode and an unused cell change nothing or, of the comparators, their levels alone. -/
def Obligations.SineCosine : Prop :=
  (
  let lines (s : State) (k : CellNo) (a b : Bool) : List (Fin 3 × Bool) := [(0, s.cell[k].a != a), (1, s.cell[k].b != b)]
  let others (s t : State) (k : CellNo) : Prop := ∀ j : CellNo, j ≠ k → t.cell[j] = s.cell[j]
  (∀ (k : CellNo) (a b : Bool) (s : State), s.afterStep10 = true → fbMode s k = 4 → s.cellUsed k = true → s.linesAccept k (lines s k a b) = true →
    ((s.cell[k].a ≠ a ∧ s.cell[k].b = b) ∨ (s.cell[k].a = a ∧ s.cell[k].b ≠ b) → ∃ t, exec (.quadrantChange k a b) s = .next t ∧
      t.cell[k] = { s.cell[k] with
        a := a, b := b, illegalHere := false, lineAt := t.cell[k].lineAt
        quad := s.cell[k].quad.map (fun n => n + (if (if s.cell[k].b = b then a ≠ b else a = b) ↔ fbDir s k ≠ 1 then -1 else 1)) } ∧
      others s t k ∧ t = { s with cell := t.cell }) ∧
    (s.cell[k].a ≠ a ∧ s.cell[k].b ≠ b → ∃ t, exec (.quadrantChange k a b) s = .next t ∧ t.cell[k].quad = s.cell[k].quad ∧
      t.cell[k].a = a ∧ t.cell[k].b = b ∧ t.cell[k].illegal = s.cell[k].illegal + 1 ∧ t.cell[k].unsure = true ∧
      (∀ q, s.cellQuay k = some q → Raised s t srcIllegalEdge (BitVec.ofNat 8 q.val)) ∧ others s t k ∧
      t = { s with cell := t.cell, quay := t.quay, ih := t.ih, flt := t.flt })) ∧
  (∀ (k : CellNo) (a b : Bool) (s : State), s.afterStep10 = true → fbMode s k = 4 → s.cellUsed k = true →
    (s.cell[k].a = a ∧ s.cell[k].b = b) ∨ s.linesAccept k (lines s k a b) = false → exec (.quadrantChange k a b) s = .next s) ∧
  (∀ (k : CellNo) (a b : Bool) (s : State), s.afterStep10 = true → fbMode s k = 1 → exec (.quadrantChange k a b) s = .next s) ∧
  (∀ (k : CellNo) (a b : Bool) (s : State), s.afterStep10 = false ∨ (fbMode s k ≠ 1 ∧ fbMode s k ≠ 4) ∨ (fbMode s k = 4 ∧ s.cellUsed k = false) →
    ∃ t, exec (.quadrantChange k a b) s = .next t ∧ t.cell[k] = { s.cell[k] with a := a, b := b, lineAt := t.cell[k].lineAt } ∧
      others s t k ∧ t = { s with cell := t.cell }) ∧
  (∀ (k : CellNo) (x y : BitVec 16) (s : State), s.afterStep10 = true → s.cellUsed k = true → fbMode s k = 4 →
    s.cell[k].await ≠ none ∨ (∀ e ∈ s.cell[k].evals.head?, e.1 < s.cell[k].convTime s.now) → (s.cell[k].await ≠ none → s.cell[k].presetNow = none) →
    let fine : Nat := s.fineAngle k x y
    let n : Int := s.cell[k].quad.getD ((fine / 1024 : Nat) : Int)
    let raises (t : State) (src : Nat) : Prop := ∀ q, s.cellQuay k = some q → ∃ e ∈ t.flt.transit, e.src = src ∧ e.quays = [q]
    fine < 4096 ∧ ∃ t, exec (.sincosConversion k x y) s = .next t ∧ others s t k ∧
      (∀ u, s.cell[k].await = some u → t.cell[k].await = none ∧ t.cell[k].sampledAt = u ∧ t.cell[k].sampled = t.cell[k].pos) ∧
      (((fine / 1024 : Nat) : Int) % 4 = n % 4 → t.cell[k].quad = some n ∧ t.cell[k].pos = n / 4 * 4096 + fine + s.cell[k].offset) ∧
      (((fine / 1024 : Nat) : Int) % 4 = (n + 1) % 4 → t.cell[k].quad = some (n + 1) ∧ t.cell[k].pos = (n + 1) / 4 * 4096 + fine + s.cell[k].offset ∧
        raises t srcSincosSync) ∧
      (((fine / 1024 : Nat) : Int) % 4 = (n - 1) % 4 → t.cell[k].quad = some (n - 1) ∧ t.cell[k].pos = (n - 1) / 4 * 4096 + fine + s.cell[k].offset ∧
        raises t srcSincosSync) ∧
      (((fine / 1024 : Nat) : Int) % 4 = (n + 2) % 4 → t.cell[k].pos = s.cell[k].pos ∧ t.cell[k].unsure = true ∧ raises t srcSincosLost)) ∧
  (∀ (k : CellNo) (x y : BitVec 16) (s : State), s.afterStep10 = false ∨ s.cellUsed k = false ∨ fbMode s k ≠ 4 ∨
    (s.cell[k].await = none ∧ ∃ e ∈ s.cell[k].evals.head?, s.cell[k].convTime s.now ≤ e.1) → exec (.sincosConversion k x y) s = .next s))

/-- PROBE_EDGE of a probe that is armed or continuous, wired, at an edge it selects (R406 to R415): the time is the stamp to the coarse step less its
filter delay; a cell that counts edges gives, once its filter has let through every edge up to that time, the count held at that time, with the
fraction of the edge period in its direction, 0 at standstill; a
cell in mode 3 or 4 is waited for unless it has an evaluation from that time on; without a cell a stepper gives its vector position and a pulse quay
its step count. The probe is then disarmed; nothing but the quay's probe (and, of a quay with none of these, the counter of free values) changes; any
other edge changes nothing. SD_VALUE_READY, SD_OVERRANGE and LIMIT_INPUT_CHANGE (R180, R451 to R456, R611): the sinc3 value r of a whole window is
delivered as (2r / N³ - 1) × gain - offset, for its sample event, whose snapshot has it; an over-range is flagged and raised; a limit input
shows its level, and is active where the quay owns it and it has stayed at the level that `quay.lim_active` names for `quay.lim_filter`. An
unassigned sigma-delta input changes nothing. -/
def Obligations.ProbesCapture : Prop :=
  (
  let selects (s : State) (q : QuayNo) (rising : Bool) : Prop :=
    s.afterStep10 = true ∧ s.probeWired q = true ∧ quayProbeMode s q ≠ 0 ∧ (s.quay[q].probe.armed = true ∨ quayProbeMode s q = 2) ∧
      (if rising = true then quayProbeEdge s q % 2 = 1 else 2 ≤ quayProbeEdge s q)
  (∀ (q : QuayNo) (rising : Bool) (s : State), ¬ selects s q rising → exec (.probeEdge q rising) s = .next s) ∧
  (∀ (q : QuayNo) (rising : Bool) (s : State), selects s q rising →
    let time : Nat := (s.now - 16 * quayProbeFilter s q) / 16 * 16
    let captures (t : State) (pos : Int) (frac : Nat) : Prop :=
      t.quay[q].probe = { s.quay[q].probe with
        captured := true, armed := false, falling := !rising, time := time, pos := pos, frac := BitVec.ofNat 16 frac
        count := s.quay[q].probe.count + 1 }
    let only (t : State) : Prop := t.quay[q] = { s.quay[q] with probe := t.quay[q].probe } ∧ (∀ r : QuayNo, r ≠ q → t.quay[r] = s.quay[r]) ∧
      t = { s with quay := t.quay, free := t.free }
    (∀ k, s.primaryCell q = some k → fbMode s k ≠ 3 → fbMode s k ≠ 4 →
      let h := s.cell[k].heldAt time
      ((∀ x ∈ s.cell[k].held, x.until_ ≤ time) → h.pos = s.cell[k].pos ∧ h.lastEdge = s.cell[k].lastEdge ∧ h.lastDir = s.cell[k].lastDir ∧
        h.period = s.cell[k].period ∧ (h.moving = true ↔ s.cell[k].still = false ∧ s.cell[k].provisional = false)) ∧
      ∃ t, exec (.probeEdge q rising) s = .next t ∧ only t ∧ t.free = s.free ∧ t.quay[q].probe.armed = false ∧
        (s.quay[q].probe.waiting = [] → s.now < time + 16 * fbFilter s k →
          t.quay[q].probe = { s.quay[q].probe with armed := false, waiting := [(time, !rising)] }) ∧
        (s.quay[q].probe.waiting = [] → time + 16 * fbFilter s k ≤ s.now →
        (h.moving = false ∨ h.period = none ∨ h.period = some 0 → captures t h.pos 0) ∧
        (∀ T, h.moving = true → h.period = some T → 0 < T →
          let f : Nat := min 65535 (65536 * (time - h.lastEdge) / T)
          (h.lastDir = 1 → captures t h.pos f) ∧ (h.lastDir = -1 → 0 < f → captures t (h.pos - 1) (65536 - f)) ∧
          (h.lastDir = -1 → f = 0 → captures t h.pos 0)))) ∧
    (∀ k, s.primaryCell q = some k → fbMode s k = 3 ∨ fbMode s k = 4 → s.quay[q].probe.waiting = [] →
      ∃ t, exec (.probeEdge q rising) s = .next t ∧ only t ∧ t.free = s.free ∧ t.quay[q].probe.armed = false ∧
        ((∀ e ∈ s.cell[k].evals.head?, e.1 < time) → t.quay[q].probe = { s.quay[q].probe with armed := false, waiting := [(time, !rising)] }) ∧
        ((∃ e ∈ s.cell[k].evals.head?, time ≤ e.1) → t.quay[q].probe.waiting = [] ∧ t.quay[q].probe.captured = true ∧
          t.quay[q].probe.time = time ∧ t.quay[q].probe.falling = !rising ∧ t.quay[q].probe.count = s.quay[q].probe.count + 1)) ∧
    (s.primaryCell q = none → ∃ t, exec (.probeEdge q rising) s = .next t ∧ only t ∧
      (s.isStepper q = true → captures t (s.quay[q].kern.step.mAt time) 0) ∧
      (s.isStepper q = false → s.isPulse q = true → captures t (s.quay[q].pulse.emittedAt time) 0) ∧
      (s.isStepper q = false → s.isPulse q = false → ∃ p, captures t p 0)))) ∧
  (
  (∀ (n : Fin 16) (bits : List Bool) (q : QuayNo) (u : Nat) (s : State), s.afterStep10 = true → devSdClock s n.val ≠ 255 →
    bits.length = 3 * devSdDecim s n.val - 2 → s.ownerOf 3 n.val = .quay q → s.sd[n].await = some u → s.sd[n].last ≤ s.now →
    let r : Int := sinc3 (devSdDecim s n.val) bits
    ∃ t, exec (.sdValueReady n bits) s = .next t ∧
      t.sd[n] = { s.sd[n] with
        value := (2 * (r : Rat) / (devSdDecim s n.val : Rat) ^ 3 - 1) * devSdGain s n.val - devSdOffset s n.val, raw := r, at_ := u, await := none } ∧
      (s.quay[q].form.time = u → s.quay[q].form.isOpen = true →
        t.quay[q].form.missing = s.quay[q].form.missing.filter (· != .sd n) ∧ t.quay[q].form.sdv.lookup n.val = some t.sd[n].value) ∧
      (s.quay[q].form.time ≠ u ∨ s.quay[q].form.isOpen = false → t.quay = s.quay) ∧
      t.quay[q] = { s.quay[q] with form := t.quay[q].form } ∧ (∀ r : QuayNo, r ≠ q → t.quay[r] = s.quay[r]) ∧
      (∀ m : Fin 16, m ≠ n → t.sd[m] = s.sd[m]) ∧ t = { s with sd := t.sd, quay := t.quay }) ∧
  (∀ (n : Fin 16) (bits : List Bool) (s : State), s.afterStep10 = false ∨ devSdClock s n.val = 255 ∨
    bits.length ≠ 3 * devSdDecim s n.val - 2 ∨ s.ownerOf 3 n.val = .unassigned ∨
    (∃ q, s.ownerOf 3 n.val = .quay q ∧ ∀ u, s.sd[n].await = some u → s.now < s.sd[n].last) → exec (.sdValueReady n bits) s = .next s) ∧
  (∀ (n : Fin 16) (s : State), s.afterStep10 = true → devSdClock s n.val ≠ 255 → s.ownerOf 3 n.val ≠ .unassigned →
    ∃ t, exec (.sdOverrange n) s = .next t ∧ t.sd[n] = { s.sd[n] with ovr := true } ∧ (∀ m : Fin 16, m ≠ n → t.sd[m] = s.sd[m]) ∧
      (∀ q, s.ownerOf 3 n.val = .quay q → Raised s t srcSdOverrange (BitVec.ofNat 8 q.val)) ∧ t = { s with sd := t.sd, flt := t.flt }) ∧
  (∀ (n : Fin 16) (s : State), s.afterStep10 = false ∨ devSdClock s n.val = 255 ∨ s.ownerOf 3 n.val = .unassigned →
    exec (.sdOverrange n) s = .next s) ∧
  (∀ (q : QuayNo) (side : LimitSide) (shown : LimitLevel) (s : State), ∃ t, exec (.limitInputChange q side shown) s = .next t ∧
    t.quay[q] = (match side with | .positive => { s.quay[q] with limP := shown } | .negative => { s.quay[q] with limN := shown }) ∧
    (s.ownerOf 6 (3 * q.val + (match side with | .positive => 0 | .negative => 1)) = .quay q → (t.limitActive q side = true ↔
      (shown.level = true ↔ quayLimActive s q / (match side with | .positive => 1 | .negative => 2) % 2 = 1) ∧
      shown.since + 6400 * quayLimFilter s q ≤ s.now)) ∧
    (s.ownerOf 6 (3 * q.val + (match side with | .positive => 0 | .negative => 1)) ≠ .quay q → t.limitActive q side = false) ∧
    (∀ r : QuayNo, r ≠ q → t.quay[r] = s.quay[r]) ∧ t = { s with quay := t.quay }))

/-! ### Timed events of a quay -/

/-- ARM_COMPLETE (R234, R270, R447): of an ARM in OFF, with every remote leg the quay owns armed and the current offsets averaged, the quay goes to
ARMED and the ARM's event entry says DONE. ARM_TIMEOUT (R291): an ARM that has taken `quay.arm_timeout` is abandoned with STATE_REFUSED and advice
ARM_FAILED. Other quays stay as they are. STOP_DWELL_EXPIRY (R270, R272, R745, R746, R855): after `quay.stop_dwell` at standstill a stopping quay is in
OFF with no mode, its reaction ended, its phase legs released and named to the gate units by DISARM; a ramp reaction of a FAULTED quay ends with its
phase legs blocked. Without a half in charge, or without its condition, each changes nothing. -/
def Obligations.ArmsAndStopsEnd : Prop :=
  (
  (∀ (q : QuayNo) (op : AcceptedOp) (s : State), s.quay[q].core.armOp = some op → s.hm.grant ≠ none →
    (s.quay[q].core.st = .off → (∀ l ∈ s.legsOf q, 32 ≤ l.val → s.leg[l].armed = true) → s.offsetsDone q = true →
      ∃ t, exec (.armComplete q) s = .next t ∧ t.quay[q].core.st = .armed ∧ t.quay[q].core.stAt = s.now ∧ t.quay[q].core.armOp = none ∧
        (s.quay[q].core.startOp = none → t.port = s.port.set op.port ((s.port.get op.port).pushEvq (eventEntry op stDone 0 s.now 0))) ∧
        (∀ r : QuayNo, r ≠ q → t.quay[r] = s.quay[r]) ∧
        t = { s with quay := t.quay, port := t.port, ih := t.ih, groups := t.groups, leg := t.leg, lane := t.lane }) ∧
    (s.quay[q].core.armAt + 6400 * quayArmTimeout s q ≤ s.now → ∃ t, exec (.armTimeout q) s = .next t ∧
      t.quay[q].core = { s.quay[q].core with armOp := none } ∧
      t.port = s.port.set op.port ((s.port.get op.port).pushEvq (eventEntry op stRefused 0x000E s.now 0)) ∧
      (∀ r : QuayNo, r ≠ q → t.quay[r] = s.quay[r]) ∧ t = { s with quay := t.quay, port := t.port, ih := t.ih })) ∧
  (∀ (q : QuayNo) (s : State),
    (s.quay[q].core.st ≠ .off ∨ s.quay[q].core.armOp = none ∨ (∃ l ∈ s.legsOf q, 32 ≤ l.val ∧ s.leg[l].armed = false) ∨ s.offsetsDone q = false ∨
      s.hm.grant = none → exec (.armComplete q) s = .next s) ∧
    (s.quay[q].core.armOp = none ∨ s.now < s.quay[q].core.armAt + 6400 * quayArmTimeout s q ∨ s.hm.grant = none →
      exec (.armTimeout q) s = .next s))) ∧
  (
  (∀ (q : QuayNo) (u : Nat) (s : State), s.quay[q].kern.reg.stillSince = some u → u + 6400 * quayStopDwell s q ≤ s.now → s.hm.grant ≠ none →
    (s.quay[q].core.st = .stopping → ∃ t, exec (.stopDwellExpiry q) s = .next t ∧ t.quay[q].core.st = .off ∧ t.quay[q].core.mode = .none ∧
      t.quay[q].core.stAt = s.now ∧ t.quay[q].react = none ∧ t.quay[q].openRec = none ∧ (∀ l ∈ s.phaseLegs q, t.leg[l].react = none) ∧
      (∀ n : LaneNo, s.lane[n].st = .attached → s.slotMask (s.phaseLegs q) n ≠ 0 → GwFrame.disarm (s.slotMask (s.phaseLegs q) n) ∈ t.lane[n].tx)) ∧
    (s.quay[q].core.st = .faulted → s.quay[q].rampReact = true → ∃ t, exec (.stopDwellExpiry q) s = .next t ∧ t.quay[q].core.st = .faulted ∧
      t.quay[q].react = some 4 ∧ t.quay[q].rampReact = false ∧ ∀ l ∈ s.phaseLegs q, t.leg[l].react = some .off)) ∧
  (∀ (q : QuayNo) (s : State), s.quay[q].kern.reg.stillSince = none ∨ s.hm.grant = none ∨
    (∃ u, s.quay[q].kern.reg.stillSince = some u ∧ s.now < u + 6400 * quayStopDwell s q) ∨
    (s.quay[q].core.st ≠ .stopping ∧ (s.quay[q].core.st ≠ .faulted ∨ s.quay[q].rampReact = false)) → exec (.stopDwellExpiry q) s = .next s))

/-- MOVE_ARRIVAL (R595, R596, R660, R661) of a motion that has arrived in RUNNING: IN_POSITION is set; of a motion outside a group the motion is over,
the MOVE's event entry says DONE with the final position, the quay stays in RUNNING and other quays stay as they are; an axis of a group motion keeps
its motion while another axis of every group in progress is not done. Without an arrival nothing changes. -/
def Obligations.MovesArrive : Prop :=
  (
  (∀ (q : QuayNo) (m : Motion) (s : State), s.quay[q].core.st = .running → s.quay[q].core.motion = some m → s.arrived q m = true →
    let here : State := s.modGen q (fun g => { g with inPos := true })
    (∀ op, s.quay[q].core.motionOp = some op → s.groupOfQuay q = none →
      ∃ t, exec (.moveArrival q) s = .next t ∧ t.quay[q].core = { s.quay[q].core with motion := none, motionOp := none } ∧
        t.quay[q].kern = { s.quay[q].kern with gen := { s.quay[q].kern.gen with inPos := true } } ∧
        t.port = s.port.set op.port ((s.port.get op.port).pushEvq (eventEntry op stDone 0 s.now (s.position q % 18446744073709551616).toNat)) ∧
        (∀ r : QuayNo, r ≠ q → t.quay[r] = s.quay[r]) ∧ t = { s with quay := t.quay, port := t.port, ih := t.ih }) ∧
    (s.groupOfQuay q ≠ none → (∀ g ∈ s.groups, ∃ e ∈ g.axes, here.axisDone g e.1 = false) →
      ∃ t, exec (.moveArrival q) s = .next t ∧ t.quay[q] = { s.quay[q] with
          kern := { s.quay[q].kern with gen := { s.quay[q].kern.gen with inPos := true } } } ∧
        (∀ r : QuayNo, r ≠ q → t.quay[r] = s.quay[r]) ∧ t = { s with quay := t.quay })) ∧
  (∀ (q : QuayNo) (s : State), s.quay[q].core.st ≠ .running ∨ (∀ m, s.quay[q].core.motion = some m → s.arrived q m = false) →
    exec (.moveArrival q) s = .next s))

/-- The timed monitors of a quay (R542, R551, R555, R645, R651, R653, R697): HOLD_DELAY_EXPIRY, CATCH_TIMEOUT, SPEED_ERROR, TENSION_DWELL_EXPIRY,
TENSION_HIGH and IBEX_SATURATION_STALL, each with its condition. Each raises its source once for the quay, or changes the registers its rule names;
outside HOMING a stall of a light stepper clears HOMED, in the seek of homing methods 4 and 5 it is the reference. OBSERVE_WINDOW_END, IF_TIMEOUT and
HOME_STALL_DETECT (R506, R623, R625, R683 to R687): a machine taken as standing, or locked and turning forward, completes its catch, and START's event
entry is written; one turning backward is driven through zero; without lock a further window starts; a handover that does not come raises OBSERVER_LOSS
and the quay catches; a stall is the reference of homing methods 4 and 5, with the generator at zero speed. -/
def Obligations.QuayMonitors : Prop :=
  (
  ∀ (q : QuayNo) (s : State),
    let reg := s.quay[q].kern.reg
    let others (t : State) : Prop := ∀ r : QuayNo, r ≠ q → t.quay[r] = s.quay[r]
    let raises (t : State) (src : Nat) (r : Regs) : Prop :=
      t.quay[q] = { s.quay[q] with kern := { s.quay[q].kern with reg := r } } ∧ others t ∧ Raised s t src (BitVec.ofNat 8 q.val) ∧
      t = { s with quay := t.quay, flt := t.flt }
    (∀ u, reg.vZeroSince = some u → s.isStepper q = true → s.quay[q].kern.gen.vel = 0 → u + 6400 * quayHoldDelay s q ≤ s.now →
      ∃ t, exec (.holdDelayExpiry q) s = .next t ∧ t.quay[q] = { s.quay[q] with kern := { s.quay[q].kern with
        step := { s.quay[q].kern.step with held := true, current := quayHoldCurrent s q } } } ∧ others t ∧ t = { s with quay := t.quay }) ∧
    (s.quay[q].core.st = .catching → s.quay[q].core.stAt + 6400 * quayCatchTimeout s q ≤ s.now → reg.stallSince = none →
      ∃ t, exec (.catchTimeout q) s = .next t ∧ raises t srcCatchTimeout { reg with stallSince := some s.quay[q].core.stAt }) ∧
    (∀ u, reg.errSince = some u → u ≠ 0 → u + 6400 * quaySpeedErrTime s q ≤ s.now → s.quay[q].core.st = .running →
      s.quay[q].core.mode = .speed ∨ s.quay[q].core.mode = .tension → s.quay[q].share.following = false →
      ∃ t, exec (.speedError q) s = .next t ∧ raises t srcSpeedError { reg with errSince := some 0 }) ∧
    (∀ u, reg.tensSince = some u → u ≠ 0 → u + 6400 * quayTensionDwell s q ≤ s.now →
      ∃ t, exec (.tensionHigh q) s = .next t ∧ raises t srcTensionHigh { reg with tensSince := some 0 }) ∧
    (s.quay[q].core.st = .running → s.quay[q].core.mode = .tension → reg.tensionState = 0 → s.quay[q].core.release = false →
      s.quay[q].share.following = false →
      (∀ u, reg.renderSince = some u → u + 6400 * quayTensionDwell s q ≤ s.now → ∃ t, exec (.tensionDwellExpiry q) s = .next t ∧
        t.quay[q] = { s.quay[q] with kern := { s.quay[q].kern with reg := { reg with tensionState := 1 } } } ∧ others t ∧ t = { s with quay := t.quay }) ∧
      (∀ u, (∀ v, reg.renderSince = some v → s.now < v + 6400 * quayTensionDwell s q) → reg.recoverSince = some u → u + 6400 * quayTensionDwell s q ≤ s.now →
        ∃ t, exec (.tensionDwellExpiry q) s = .next t ∧
        t.quay[q] = { s.quay[q] with kern := { s.quay[q].kern with reg := { reg with tensionState := 2 } } } ∧ others t ∧ t = { s with quay := t.quay })) ∧
    (∀ u, reg.satSince = some u → u ≠ 0 → s.isStepper q = true → u + 6400 * quayIbexSatTime s q ≤ s.now →
      (s.quay[q].core.st ≠ .homing → ∃ t, exec (.ibexSaturationStall q) s = .next t ∧ Raised s t srcStall (BitVec.ofNat 8 q.val) ∧
        t.quay[q].core = { s.quay[q].core with homed := false } ∧ t.quay[q].kern.reg = { reg with satSince := some 0 } ∧ others t ∧
        t = { s with quay := t.quay, ih := t.ih, flt := t.flt }) ∧
      (∀ h, s.quay[q].core.st = .homing → s.quay[q].core.homing = some h → h.phase = 0 → h.method = 4 ∨ h.method = 5 →
        ∃ t, exec (.ibexSaturationStall q) s = .next t ∧ t.quay[q].core.st = .homing ∧ (∃ h', t.quay[q].core.homing = some h' ∧ h'.phase = 2 ∧
          h'.method = h.method ∧ h'.homePos = h.homePos) ∧ t.quay[q].kern.gen.vel = 0 ∧ t.quay[q].kern.reg.satSince = some 0 ∧ others t ∧
          t.flt = s.flt))) ∧
  (
  (∀ (q : QuayNo) (s : State), s.quay[q].core.st = .catching → s.quay[q].kern.reg.catchPhase = 1 →
    s.quay[q].kern.reg.windowAt + 6400 * quayCatchWindow s q ≤ s.now →
    let reg := s.quay[q].kern.reg
    let others (t : State) : Prop := ∀ r : QuayNo, r ≠ q → t.quay[r] = s.quay[r]
    let completes (t : State) : Prop :=
      t.quay[q].core.st = .running ∧ t.quay[q].core.startOp = none ∧ t.quay[q].core.mode = s.quay[q].core.mode ∧
      (∀ op, s.quay[q].core.startOp = some op → t.port = s.port.set op.port ((s.port.get op.port).pushEvq (eventEntry op stDone 0 s.now 3))) ∧ others t
    let turns (t : State) : Prop := t.quay[q].core = s.quay[q].core ∧ t.quay[q].kern.reg.catchPhase = 4 ∧ t.quay[q].kern.reg.windowAt = s.now ∧ others t
    (s.machine q ≠ 5 → reg.emf < quayCatchEmfMin s q → ∃ t, exec (.observeWindowEnd q) s = .next t ∧ completes t) ∧
    (s.machine q ≠ 5 → quayCatchEmfMin s q ≤ reg.emf → quayObsLossCount s q ≤ reg.lockRun → ∃ t, exec (.observeWindowEnd q) s = .next t ∧
      (backward s.quay[q].eff.sigma reg.n = false → completes t) ∧ (backward s.quay[q].eff.sigma reg.n = true → turns t)) ∧
    (s.machine q ≠ 5 → quayCatchEmfMin s q ≤ reg.emf → reg.lockRun < quayObsLossCount s q → ∃ t, exec (.observeWindowEnd q) s = .next t ∧
      t.quay[q].kern.reg = { reg with windowAt := s.now } ∧ t.quay[q].core = s.quay[q].core ∧ others t ∧ t = { s with quay := t.quay }) ∧
    (s.machine q = 5 → ∃ (n : Rat) (t : State), exec (.observeWindowEnd q) s = .next t ∧
      (quayPsiPm s q ≠ 0 → n = s.armatureVolts q reg / quayPsiPm s q) ∧
      (backward s.quay[q].eff.sigma n = false → completes t) ∧ (backward s.quay[q].eff.sigma n = true → turns t))) ∧
  (∀ (q : QuayNo) (u : Nat) (s : State), s.quay[q].kern.reg.ifSince = some u → s.quay[q].core.st = .running → s.quay[q].kern.reg.ifMode = true →
    s.quay[q].kern.reg.handover = 0 → u + 6400 * quayIfTimeout s q ≤ s.now → ∃ t, exec (.ifTimeout q) s = .next t ∧
      t.quay[q].core.st = .catching ∧ t.quay[q].core.stAt = s.now ∧ t.quay[q].kern.reg.ifMode = false ∧
      Raised s t srcObserverLoss (BitVec.ofNat 8 q.val) ∧ ∀ r : QuayNo, r ≠ q → t.quay[r] = s.quay[r]) ∧
  (∀ (q : QuayNo) (u : Nat) (h : Homing) (s : State), s.quay[q].kern.reg.stallSince = some u → s.quay[q].core.st = .homing →
    s.quay[q].core.homing = some h → h.phase = 0 → h.method = 4 ∨ h.method = 5 → s.isStepped q = false → u + 6400 * quayHomeStallTime s q ≤ s.now →
    ∃ t, exec (.homeStallDetect q) s = .next t ∧ t.quay[q].core.st = .homing ∧ (∃ h', t.quay[q].core.homing = some h' ∧ h'.phase = 2 ∧
      h'.method = h.method ∧ h'.homePos = h.homePos) ∧ t.quay[q].kern.gen.vel = 0 ∧ t.quay[q].kern.reg.stallSince = none ∧ t.flt = s.flt ∧
      t.quay[q].kern.gen.pos = s.quay[q].kern.gen.pos + (h.homePos - s.profilePos q : Int) ∧ ∀ r : QuayNo, r ≠ q → t.quay[r] = s.quay[r]))

/-! ### Gangway lanes, internal links, Hawser ring -/

/-- SIGNAL_DETECT, TRAIN_RETRY, RX_OK_SET and TRAINING_COMPLETE (R840 to R842, R846, R868): a lane in DOWN that may transmit trains, 10 ms after a
failed training at the earliest; RX_OK goes out once it holds; with RX_OK held and received the lane aligns with a PING; a Hawser port likewise.
GW_PONG (R829, R842 to R844): a gap of SEQ is counted; each pair gives r; before the fourth another PING leaves; at the fourth, with values of r / 2
within 64 ticks of each other and a mean within `gw.delay_max`, the lane identifies its partner, with DELAY, SYNC and IDENT_REQ sent; otherwise the
four pairs start again. Nothing else changes, and nothing at all in another state of the lane or port. -/
def Obligations.LanesTrain : Prop :=
  (
  (∀ (n : LaneNo) (s : State),
    let trains : State := { s with lane := s.lane.set n { s.lane[n] with
      st := .training, detectAt := s.now, rxOk := false, rs := [], identReqs := 0, downAt := none, rxSeq := none } }
    let open_ : Prop := s.laneLive n = true ∧ s.lane[n].st = .down
    (open_ → s.lane[n].downAt = none → exec (.signalDetect n) s = .next trains ∧ exec (.trainRetry n) s = .next s) ∧
    (∀ u, open_ → s.lane[n].downAt = some u → u + 64000000 ≤ s.now →
      exec (.signalDetect n) s = .next trains ∧ exec (.trainRetry n) s = .next trains) ∧
    (∀ u, s.lane[n].downAt = some u → s.now < u + 64000000 → exec (.signalDetect n) s = .next s ∧ exec (.trainRetry n) s = .next s) ∧
    (¬ open_ → exec (.signalDetect n) s = .next s ∧ exec (.trainRetry n) s = .next s)) ∧
  (∀ (n : LaneNo) (s : State),
    exec (.rxOkSet (.lane n)) s = .next (if s.lane[n].st = .training ∧ s.lane[n].rxOk = false then
      { s with lane := s.lane.set n { s.lane[n] with rxOk := true, tx := s.lane[n].tx ++ [.rxOk] } } else s) ∧
    exec (.trainingComplete (.lane n)) s = .next (if s.lane[n].st = .training ∧ s.lane[n].rxOk = true then
      { s with lane := s.lane.set n { s.lane[n] with st := .aligning, rs := [], pingAt := s.now, tx := s.lane[n].tx ++ [.ping] } } else s)) ∧
  (∀ (p : Side) (s : State),
    let x := s.hw.ports.get p
    exec (.rxOkSet (.hawser p)) s = .next (if s.afterStep10 = true ∧ x.up = false ∧ x.rxOk = false then
      { s with hw := { s.hw with ports := s.hw.ports.set p { x with rxOk := true, training := true, tx := x.tx ++ [.rxOk] } } } else s) ∧
    exec (.trainingComplete (.hawser p)) s = .next (if x.training = true ∧ x.rxOk = true then
      { s with hw := { s.hw with ports := s.hw.ports.set p { x with training := false, rs := [], pingAt := s.now, tx := x.tx ++ [.ping] } } }
      else s)) ∧
  (∀ (n : LaneNo) (seq : Byte) (w : Word) (s : State),
    let x := s.lane[n]
    let gaps : Word := match x.rxSeq with
      | some p => if seq = p + 1 then x.seqGaps else x.seqGaps + 1
      | none => x.seqGaps
    let rs : List Int := x.rs ++ [(s.now : Int) - x.pingAt - w.toNat]
    let close : Prop := (∀ a ∈ rs, ∀ b ∈ rs, a - b ≤ 128) ∧ delayOf rs ≤ gwDelayMax s n
    let ends (t : Lane) : Prop := exec (.gwPong n seq w) s = .next { s with lane := s.lane.set n { t with rxSeq := some seq, seqGaps := gaps } }
    (x.st ≠ .aligning → exec (.gwPong n seq w) s = .next s) ∧
    (x.st = .aligning → x.rs.length < 3 → ends { x with rs := rs, pingAt := s.now, tx := x.tx ++ [.ping] }) ∧
    (x.st = .aligning → 3 ≤ x.rs.length → close → ends { x with
      st := .identifying, rs := [], delay := BitVec.ofInt 32 (delayOf rs), identReqs := 1, identReqAt := s.now, syncAt := s.now
      tx := x.tx ++ [.delay (delayOf rs).toNat, .sync s.now, .identReq] }) ∧
    (x.st = .aligning → 3 ≤ x.rs.length → ¬ close → ends { x with rs := [], pingAt := s.now, tx := x.tx ++ [.ping] })))

/-- GW_IDENT (R845, R848 to R853, R861): a partner that matches its roster entry is ATTACHED, and ATTACH commands that wait for it are DONE; one that
does not, or that has no entry, is QUARANTINED, GW_QUARANTINE is raised, and such commands are refused; its identity is kept either way. IDENT_TIMEOUT:
without an answer IDENT_REQ is repeated, three times in all, and then the lane is DOWN. GW_TRAIN_FAIL (R846): bring-up that takes longer than
`gw.train_timeout` puts the lane DOWN and raises GW_TRAIN_FAIL; ATTACH commands that wait are refused, also on a lane that is DOWN by then. In
every other case nothing changes. -/
def Obligations.LanesIdentify : Prop :=
  (
  (∀ (n : LaneNo) (i : Ident) (s : State),
    let fits : Prop := ∃ e, s.rosterOf n = some e ∧ i.unitType.toNat = e.unitType ∧ i.legs.toNat = e.legs ∧ e.fwMin ≤ i.fwLevel.toNat ∧
      i.caps &&& e.capsReq = e.capsReq ∧ (e.serial = 0 ∨ i.serial = e.serial) ∧ (n.val < 16 → s.ownedSlots n ≤ i.legs.toNat)
    (s.lane[n].st ≠ .identifying → exec (.gwIdent n i) s = .next s) ∧
    (s.lane[n].st = .identifying → ∃ t, exec (.gwIdent n i) s = .next t ∧ t.lane[n].serial = i.serial ∧ t.lane[n].unitType = i.unitType ∧
      t.lane[n].legs = i.legs ∧ t.lane[n].caps = i.caps ∧ t.lane[n].fwLevel = i.fwLevel ∧ t.lane[n].iLsb = i.iLsb ∧ t.lane[n].uLsb = i.uLsb ∧
      t.lane[n].attachOps = [] ∧ (∀ m : LaneNo, m ≠ n → t.lane[m] = s.lane[m]) ∧
      (fits → t.lane[n].st = .attached ∧ t.flt = s.flt ∧ t.port = (s.eventAll s.lane[n].attachOps 0x00 0 0).port) ∧
      (¬ fits → t.lane[n].st = .quarantined ∧ t.lane[n].tx = s.lane[n].tx ∧ Raised s t srcGwQuarantine (laneScope n) ∧
        t.port = (s.eventAll s.lane[n].attachOps 0x10 0x0006 0).port) ∧
      t = { s with lane := t.lane, port := t.port, flt := t.flt })) ∧
  (∀ (n : LaneNo) (s : State),
    let due : Prop := s.lane[n].st = .identifying ∧ s.lane[n].identReqAt + 6400000 ≤ s.now
    exec (.identTimeout n) s = .next (if due then { s with lane := s.lane.set n (if s.lane[n].identReqs < 3 then { s.lane[n] with
        identReqs := s.lane[n].identReqs + 1, identReqAt := s.now, tx := s.lane[n].tx ++ [.identReq] }
      else { s.lane[n] with st := .down, rxOk := false }) } else s)) ∧
  (∀ (n : LaneNo) (s : State),
    let late : Prop := s.lane[n].detectAt + 6400 * gwTrainTimeout s n ≤ s.now
    let busy : Prop := s.lane[n].st = .training ∨ s.lane[n].st = .aligning ∨ s.lane[n].st = .identifying
    (late → busy → ∃ t, exec (.gwTrainFail n) s = .next t ∧
      t.lane = s.lane.set n { s.lane[n] with st := .down, rxOk := false, downAt := some s.now, attachOps := [] } ∧
      Raised s t srcGwTrainFail (laneScope n) ∧ t.port = (s.eventAll s.lane[n].attachOps 0x10 0x0006 0).port ∧
      t = { s with lane := t.lane, port := t.port, flt := t.flt }) ∧
    (late → s.lane[n].st = .down → s.lane[n].attachOps ≠ [] → exec (.gwTrainFail n) s = .next { s with
      lane := s.lane.set n { s.lane[n] with attachOps := [] }, port := (s.eventAll s.lane[n].attachOps 0x10 0x0006 0).port }) ∧
    (¬ late ∨ ¬ busy ∧ ¬ (s.lane[n].st = .down ∧ s.lane[n].attachOps ≠ []) → exec (.gwTrainFail n) s = .next s)))

/-- GW_SYNC_SEND (R844): SYNC leaves an ATTACHED or QUARANTINED lane every `gw.sync_period`. GW_BAD_FRAME (R828, R829): a discarded frame is raised as
GW_CRC and, for a CRC failure or an abort, counted in `gw.crc_count`. LANE_LOSS (R717 to R720, R788, R857, R862): a lost lane is DOWN, its legs are no
longer armed, and GW_LINK_DOWN is raised; for each quay with legs on it that is outside OFF, where the lane was ATTACHED, the winding sets that R717
lets go are dropped, with SET_DROPPED for each, or, with none of them, GW_LANE_LOSS is raised. In every other case nothing changes. -/
def Obligations.LanesServe : Prop :=
  (
  (∀ (n : LaneNo) (s : State),
    exec (.gwSyncSend n) s = .next (if (s.lane[n].st = .attached ∨ s.lane[n].st = .quarantined) ∧
        s.lane[n].syncAt + 6400 * gwSyncPeriod s n ≤ s.now then
      { s with lane := s.lane.set n { s.lane[n] with syncAt := s.now, tx := s.lane[n].tx ++ [.sync s.now] } } else s)) ∧
  (∀ (n : LaneNo) (r : BadFrame) (s : State),
    let hears : Prop := s.laneLive n = true ∧ s.lane[n].st ≠ .down ∧ s.lane[n].st ≠ .detached
    (hears → ∃ t, exec (.gwBadFrame n r) s = .next t ∧ t.lane = s.lane.set n { s.lane[n] with
        crcCount := if r = .crc ∨ r = .abort then s.lane[n].crcCount + 1 else s.lane[n].crcCount } ∧
      Raised s t srcGwCrc (laneScope n) ∧ t = { s with lane := t.lane, flt := t.flt }) ∧
    (¬ hears → exec (.gwBadFrame n r) s = .next s)) ∧
  (∀ (n : LaneNo) (s : State),
    let hit (q : QuayNo) : Bool := (s.laneQuays n).contains q && s.outsideOff q && s.lane[n].st == .attached
    let gone (q : QuayNo) : List (Fin 4) := s.droppable q (fun j => (s.setLegs q j.val).any (fun l => s.laneOf l == some n))
    (s.lane[n].st = .down ∨ s.lane[n].st = .detached → exec (.laneLoss n) s = .next s) ∧
    (s.lane[n].st ≠ .down → s.lane[n].st ≠ .detached → ∃ t, exec (.laneLoss n) s = .next t ∧
      t.lane = s.lane.set n { s.lane[n] with st := .down, rxOk := false, rxSeq := none, timeOk := false, losses := s.lane[n].losses + 1 } ∧
      (∀ l : LegNo, t.leg[l] = { s.leg[l] with armed := s.leg[l].armed && !(s.legsOnLane n).contains l }) ∧
      (∃ e ∈ t.flt.transit, e.src = srcGwLinkDown ∧ e.scope = laneScope n ∧ e.time = s.now) ∧
      (∀ q, hit q = true → gone q = [] → ∃ e ∈ t.flt.transit, e.src = srcGwLaneLoss ∧ e.quays = [q] ∧ e.time = s.now) ∧
      (∀ q, hit q = true → gone q ≠ [] → ∃ e ∈ t.flt.transit, e.src = srcSetDropped ∧ e.quays = [q] ∧ e.time = s.now) ∧
      (∀ (q : QuayNo) (j : Fin 4), t.quay[q].kern.reg.dropped[j] = (s.quay[q].kern.reg.dropped[j] || hit q && (gone q).contains j)) ∧
      (∀ q : QuayNo, t.quay[q] = { s.quay[q] with
        kern := { s.quay[q].kern with reg := { s.quay[q].kern.reg with dropped := t.quay[q].kern.reg.dropped } }
        kernCopy := { s.quay[q].kernCopy with reg := { s.quay[q].kernCopy.reg with dropped := t.quay[q].kernCopy.reg.dropped } } }) ∧
      t = { s with lane := t.lane, leg := t.leg, quay := t.quay, flt := { s.flt with transit := t.flt.transit } })))

/-- GW_STATUS (R58, R765, R766, R786, R829, R835 to R838) on an ATTACHED lane: a frame that matches no sample event counts as stray and changes
nothing else but the count of gaps; one that does is the input of every quay it matches whose snapshot is open, with the currents and the DC voltage
it brought; TIME_OK and a valid DC link are taken over; an entry gives the leg its armed flag, current and phase voltage, in the units of the partner
or of R765 and R766 on an internal link; a SHORT flag that goes from clear to set on a phase leg of an external lane sets its latch in state OFF
and raises GU_SHORT. On a lane that is not ATTACHED nothing changes. -/
def Obligations.StatusFrames : Prop :=
  (
  (∀ (n : LaneNo) (f : StatusFrame) (s : State), s.lane[n].st ≠ .attached → exec (.gwStatus n f) s = .next s) ∧
  (∀ (n : LaneNo) (f : StatusFrame) (s : State), s.lane[n].st = .attached →
    let gaps : Word := match s.lane[n].rxSeq with
      | some p => if f.seq = p + 1 then s.lane[n].seqGaps else s.lane[n].seqGaps + 1
      | none => s.lane[n].seqGaps
    (∀ q, q ∈ s.sampleMatches n f.sampleTime ↔
      q ∈ s.laneQuays n ∧ s.quay[q].form.time ≠ 0 ∧ BitVec.ofNat 32 s.quay[q].form.time = f.sampleTime) ∧
    (s.sampleMatches n f.sampleTime = [] → exec (.gwStatus n f) s = .next { s with lane := s.lane.set n { s.lane[n] with
      rxSeq := some f.seq, seqGaps := gaps, stray := s.lane[n].stray + 1 } }) ∧
    (s.sampleMatches n f.sampleTime ≠ [] → ∃ t, exec (.gwStatus n f) s = .next t ∧
      (∀ q ∈ s.sampleMatches n f.sampleTime, s.quay[q].form.isOpen = true →
        t.quay[q].form.missing = s.quay[q].form.missing.filter (fun i => i ≠ InputId.lane n) ∧
        (n.val, (t.lane[n].dcMv : Rat)) ∈ t.quay[q].form.dc ∧
        ∀ l ∈ s.phaseLegs q, s.laneOf l = some n → (l, t.leg[l].current) ∈ t.quay[q].form.legs ∧ (l, t.leg[l].vphase) ∈ t.quay[q].form.volts) ∧
      (∀ q, q ∉ s.sampleMatches n f.sampleTime ∨ s.quay[q].form.isOpen = false → t.quay[q].form = s.quay[q].form) ∧
      t.lane[n].timeOk = f.timeOk ∧ t.lane[n].dcMv = (if f.dcValid = true then f.udc.toNat * s.lane[n].uLsb.toNat else s.lane[n].dcMv) ∧
      t.lane[n].stray = s.lane[n].stray ∧ t.lane[n].rxSeq = some f.seq ∧ t.lane[n].seqGaps = gaps ∧
      (∀ (e : StatusEntry) (pre : List StatusEntry) (l : LegNo), f.entries = pre ++ [e] → s.slotLeg n e.slot.toNat = some l →
        t.leg[l].armed = e.armed ∧
        (n.val < 16 → t.leg[l].vphase = ((e.volts.toNat * s.lane[n].uLsb.toNat : Nat) : Rat) ∧
          t.leg[l].current = (if e.current = 0x8000#16 then none else some ((e.current.toInt * (s.lane[n].iLsb.toNat : Int) : Int) : Rat))) ∧
        (16 ≤ n.val → t.leg[l].vphase = (e.volts.toNat : Rat) * 25 / 4 ∧ t.leg[l].current = some ((((e.current.toNat : Rat) - 8192) * 1800) /
          (16384 * (legShuntGain s l : Rat) * ((legRshunt s l : Rat) / 1000000))))) ∧
      (∀ (e : StatusEntry) (l : LegNo) (r : QuayNo), f.entries = [e] → s.slotLeg n e.slot.toNat = some l → n.val < 16 → e.short = true →
        s.leg[l].short = false → s.isChopperLeg l = false → s.legQuay l = some r → s.quay[r].react ≠ some 5 → s.quay[r].react ≠ some 6 →
        t.leg[l].latch = some .off ∧ ∃ x ∈ t.flt.transit, x.src = srcGuShort ∧ x.quays = [r] ∧ x.time = s.now))))

/-- HW_PING, HW_PONG, HW_PORT_UP, HW_PORT_LOSS, HW_DISC_SEND and HW_BAD_FRAME (R826, R828, R842, R843, R868, R869, R872, R873, R875): PING is answered
by PONG (its turnaround a free value); four pairs give the delay of a port that has trained and is not up yet; a port that is up or lost changes
the mode (LINE while a port is up, ALONE without), opens the membership window and sends DISC, a loss also TOPO on the other port; DISC leaves every
`hw.disc_period`; a discarded frame on a port that is up raises HW_CRC. In every other case nothing changes, but that training ends with a loss. -/
def Obligations.HawserPorts : Prop :=
  (
  (∀ (p : Side) (s : State),
    (s.afterStep10 = true → ∃ w t, exec (.hwPing p) s = .next t ∧ t.hw = { s.hw with ports := s.hw.ports.set p { s.hw.ports.get p with
      tx := (s.hw.ports.get p).tx ++ [.pong w] } } ∧ t = { s with hw := t.hw, free := t.free }) ∧
    (s.afterStep10 = false → exec (.hwPing p) s = .next s)) ∧
  (∀ (p : Side) (w : Word) (s : State),
    let x := s.hw.ports.get p
    let rs : List Int := x.rs ++ [(s.now : Int) - x.pingAt - w.toNat]
    let measures : Prop := x.up = false ∧ x.training = false ∧ x.rxOk = true ∧ x.rs.length < 4
    let gives (y : HwPort) : Prop := exec (.hwPong p w) s = .next { s with hw := { s.hw with ports := s.hw.ports.set p y } }
    (measures → x.rs.length < 3 → gives { x with rs := rs, pingAt := s.now, tx := x.tx ++ [.ping] }) ∧
    (measures → x.rs.length = 3 → (∀ a ∈ rs, ∀ b ∈ rs, a - b ≤ 128) → gives { x with rs := rs, delay := BitVec.ofInt 32 (delayOf rs) }) ∧
    (measures → x.rs.length = 3 → (∃ a ∈ rs, ∃ b ∈ rs, 128 < a - b) → gives { x with rs := [], pingAt := s.now, tx := x.tx ++ [.ping] }) ∧
    (¬ measures → exec (.hwPong p w) s = .next s)) ∧
  (∀ (p : Side) (s : State),
    let x := s.hw.ports.get p
    let ready : Prop := s.afterStep10 = true ∧ x.up = false ∧ x.training = false ∧ x.rxOk = true ∧ x.rs.length = 4
    (ready → ∃ t, exec (.hwPortUp p) s = .next t ∧ (t.hw.ports.get p).up = true ∧ t.hw.mode = (if s.hw.mode = .alone then .line else s.hw.mode) ∧
      t.hw.windowAt = some (s.now + 6400 * hwMemberWindow s) ∧ t.hw.members = [] ∧ t.hw.memberSet = s.hw.memberSet ∧ t.hw.lastDisc = s.now ∧
      (s.hw.mode ≠ .ring → ∃ h d, HwFrame.disc h d ∈ (t.hw.ports.get p).tx ∧ h.src = s.prot.hwAddress) ∧ t = { s with hw := t.hw }) ∧
    (¬ ready → exec (.hwPortUp p) s = .next s)) ∧
  (∀ (p : Side) (s : State),
    let lost : HwPort := { s.hw.ports.get p with up := false, rxOk := false, training := false, rs := [] }
    ((s.hw.ports.get p).up = false → exec (.hwPortLoss p) s = .next { s with hw := { s.hw with ports := s.hw.ports.set p lost } }) ∧
    ((s.hw.ports.get p).up = true → ∃ t, exec (.hwPortLoss p) s = .next t ∧ t.hw.ports.get p = { lost with tx := (t.hw.ports.get p).tx } ∧
      t.hw.mode = (if (s.hw.ports.get p.other).up = true then .line else .alone) ∧ t.hw.windowAt = some (s.now + 6400 * hwMemberWindow s) ∧
      t.hw.members = [] ∧ t.hw.lastDisc = s.now ∧
      ((s.hw.ports.get p.other).up = true → (∃ h, HwFrame.topo h true p ∈ (t.hw.ports.get p.other).tx ∧ h.src = s.prot.hwAddress) ∧
        ∃ h d, HwFrame.disc h d ∈ (t.hw.ports.get p.other).tx ∧ h.src = s.prot.hwAddress) ∧ t = { s with hw := t.hw })) ∧
  (∀ s : State,
    let due : Prop := s.hw.mode ≠ .alone ∧ s.hw.lastDisc + 6400 * hwDiscPeriod s ≤ s.now
    (due → ∃ t, exec .hwDiscSend s = .next t ∧ t.hw.lastDisc = s.now ∧
      (∀ p : Side, p ∈ s.originPorts → ∃ h d, HwFrame.disc h d ∈ (t.hw.ports.get p).tx ∧ h.src = s.prot.hwAddress ∧ h.ttl = 8) ∧
      (∀ p : Side, t.hw.ports.get p = { s.hw.ports.get p with tx := (t.hw.ports.get p).tx }) ∧
      t = { s with hw := { s.hw with ports := t.hw.ports, seqs := t.hw.seqs, lastDisc := s.now } }) ∧
    (¬ due → exec .hwDiscSend s = .next s)) ∧
  (∀ (p : Side) (r : BadFrame) (s : State),
    ((s.hw.ports.get p).up = true → ∃ t, exec (.hwBadFrame p r) s = .next t ∧ Raised s t srcHwCrc 0xFF ∧ t = { s with flt := t.flt }) ∧
    ((s.hw.ports.get p).up = false → exec (.hwBadFrame p r) s = .next s)))

/-- HW_DISC, HW_TOPO, MEMBER_WINDOW_END and DISC_EXPIRY (R869 to R877): a DISC of another hierarchy, or of this device's own field with another serial,
is no member and raises HW_ID_CONFLICT once for each sender; another one is kept as its device's latest, and outside a membership window the members
are formed at once. TOPO means LINE at once and a new membership window. A frame that R869 drops does nothing; one that goes on does so with its TTL
one lower. At the end of the window the members are this device and those heard, the time master is the one of lowest priority value and then lowest
device, and the mode is RING where all ports of all are up and have been for the window (else the window goes on). A device not heard for three
periods is a member no longer; where the members change HW_RING_CHANGE is raised. -/
def Obligations.HawserMembers : Prop :=
  (
  (∀ (p : Side) (ty : Nat) (h : HwHeader) (s : State), s.receipt p ty h = .drop ↔
    s.hw.mode = .alone ∨ (s.hw.ports.get p).up = false ∨ devicePart h.src = devicePart s.prot.hwAddress ∨
      ∃ at_, (h.src, ty, h.seq, at_) ∈ s.hw.recent ∧ s.now < at_ + 6400000) ∧
  (∀ (p : Side) (h : HwHeader) (d : HwDisc) (s : State),
    let heard : List Member := ⟨h.src.toNat / 512 % 8, d.serial, d.h0Up, d.h1Up, d.timePrio, s.now⟩ ::
      s.hw.members.filter (fun m => m.device != h.src.toNat / 512 % 8)
    let onward (t : State) : Prop := ∀ ttl, s.receipt p 0x10 h = .forward ttl → ttl = h.ttl - 1 ∧
      HwFrame.disc { h with ttl := ttl } d ∈ (t.hw.ports.get p.other).tx
    (s.hw.mode = .alone ∨ (s.hw.ports.get p).up = false → exec (.hwDisc p h d) s = .next s) ∧
    (s.hw.mode ≠ .alone → (s.hw.ports.get p).up = true → s.discConflict h d = true →
      ∃ t, exec (.hwDisc p h d) s = .next t ∧ t.hw.members = s.hw.members ∧ t.hw.memberSet = s.hw.memberSet ∧ t.hw.mode = s.hw.mode ∧
        (h.src, d.serial) ∈ t.hw.conflicts ∧ ((h.src, d.serial) ∉ s.hw.conflicts → Raised s t srcHwIdConflict 0xFF) ∧
        ((h.src, d.serial) ∈ s.hw.conflicts → t.flt = s.flt) ∧ onward t ∧ t = { s with hw := t.hw, flt := t.flt }) ∧
    (s.discConflict h d = false → s.receipt p 0x10 h = .drop → exec (.hwDisc p h d) s = .next s) ∧
    (s.discConflict h d = false → s.receipt p 0x10 h ≠ .drop → ∃ t, exec (.hwDisc p h d) s = .next t ∧ t.hw.members = heard ∧ onward t ∧
      (∀ u, s.hw.windowAt = some u → t.hw.memberSet = s.hw.memberSet ∧ t.hw.windowAt = some u ∧ t = { s with hw := t.hw }) ∧
      (s.hw.windowAt = none → ∀ x : Nat, x ∈ t.hw.memberSet ↔ x = s.ownDevice ∨ (x < 8 ∧ ∃ m ∈ heard, m.device = x)))) ∧
  (∀ (p : Side) (h : HwHeader) (lost : Bool) (port : Side) (s : State),
    (s.receipt p 0x11 h = .drop → exec (.hwTopo p h lost port) s = .next s) ∧
    (s.receipt p 0x11 h ≠ .drop → ∃ t, exec (.hwTopo p h lost port) s = .next t ∧
      t.hw.mode = .line ∧ t.hw.windowAt = some (s.now + 6400 * hwMemberWindow s) ∧ t.hw.members = [] ∧ t.hw.memberSet = s.hw.memberSet ∧
      (∀ ttl, s.receipt p 0x11 h = .forward ttl → ttl = h.ttl - 1 ∧ HwFrame.topo { h with ttl := ttl } lost port ∈ (t.hw.ports.get p.other).tx) ∧
      t = { s with hw := t.hw })) ∧
  (∀ s : State, ((∀ u, s.hw.windowAt = some u → s.now < u) → exec .memberWindowEnd s = .next s) ∧
    ∀ u, s.hw.windowAt = some u → u ≤ s.now → ∃ t, exec .memberWindowEnd s = .next t ∧
      (∀ d : Nat, d ∈ t.hw.memberSet ↔ d = s.ownDevice ∨ (d < 8 ∧ ∃ m ∈ s.hw.members, m.device = d)) ∧
      t.hw.windowAt = (match s.hw.wholeSince with
        | some w => if s.now < w + 6400 * hwMemberWindow s then some (w + 6400 * hwMemberWindow s) else none
        | none => none) ∧
      t.hw.mode = (if t.hw.windowAt = none ∧ s.hw.ports.a.up = true ∧ s.hw.ports.b.up = true ∧
          ∀ m ∈ s.hw.members, m.h0Up = true ∧ m.h1Up = true then .ring
        else if s.hw.ports.a.up = true ∨ s.hw.ports.b.up = true then .line else .alone) ∧
      (let cands : List (Nat × Nat) := (s.prot.hwTimePrio.toNat, s.ownDevice) ::
          (s.hw.members.filter (fun m => decide (m.device < 8) || m.device == s.ownDevice)).map (fun m => (m.prio.toNat, m.device))
        ∃ prio, (prio, t.hw.master) ∈ cands ∧ ∀ c ∈ cands, prio < c.1 ∨ (prio = c.1 ∧ t.hw.master ≤ c.2)) ∧
      ((∀ d, d ∈ t.hw.memberSet ↔ d ∈ s.hw.memberSet) → t = { s with hw := t.hw }) ∧
      (¬ (∀ d, d ∈ t.hw.memberSet ↔ d ∈ s.hw.memberSet) → ∃ e ∈ t.flt.transit, e.src = srcHwRingChange ∧ e.time = s.now)) ∧
  (∀ (dev : BitVec 3) (s : State),
    let old (m : Member) : Prop := m.device = dev.toNat ∧ m.at_ + 3 * (6400 * hwDiscPeriod s) ≤ s.now
    ((¬ ∃ m ∈ s.hw.members, old m) → exec (.discExpiry dev) s = .next s) ∧
    ((∃ m ∈ s.hw.members, old m) → (∀ m ∈ s.hw.members, m.device = dev.toNat → old m) → ∃ t, exec (.discExpiry dev) s = .next t ∧
      t.hw.members = s.hw.members.filter (fun m => m.device != dev.toNat) ∧
      (∀ d : Nat, d ∈ t.hw.memberSet ↔ d = s.ownDevice ∨ (d < 8 ∧ ∃ m ∈ t.hw.members, m.device = d)) ∧
      (¬ (∀ d, d ∈ t.hw.memberSet ↔ d ∈ s.hw.memberSet) → ∃ e ∈ t.flt.transit, e.src = srcHwRingChange ∧ e.time = s.now))))

/-- HW_TIME_SEND, HW_TIME and HW_ALIGN_LOST (R89 to R92, R877 to R880): the time master sends TIME with its device time every `hw.time_period`; a TIME
frame of the master gives the offset stamp + correction + link delay - own device time; within `hw.align_lost`, or while not aligned, it is corrected:
by a step forward (device time ends at 2^64 - 1, log entry 14) while every quay is in OFF, else by slewing at `tb.slew_limit`; a first offset within
6 ticks aligns. Beyond it, and after ten periods without TIME, alignment ends and HW_ALIGN_LOST is raised. HW_SHARE and HW_SHARE_STAT (R566, R567,
R869): a share value reaches every follower of its shaft group here, with its sender, and the open snapshot that waits for it; where it shows
the group well or badly formed that was held for the other, the group is formed anew (R559); a status reaches the group's masters here. Frames that R869 drops do nothing; those that go on do so with their TTL one lower. -/
def Obligations.HawserTime : Prop :=
  (
  (∀ s : State,
    let due : Prop := s.hw.mode ≠ .alone ∧ s.hw.master = s.ownDevice ∧ s.hw.lastSent + 6400 * hwTimePeriod s ≤ s.now
    (due → ∃ t, exec .hwTimeSend s = .next t ∧
      (∀ p : Side, p ∈ s.originPorts → ∃ h, HwFrame.time h (BitVec.ofNat 64 s.now) 0 ∈ (t.hw.ports.get p).tx ∧ h.ttl = 8 ∧ h.src = s.prot.hwAddress) ∧
      (∀ p : Side, t.hw.ports.get p = { s.hw.ports.get p with tx := (t.hw.ports.get p).tx }) ∧
      t = { s with hw := { s.hw with ports := t.hw.ports, seqs := t.hw.seqs, lastSent := s.now } }) ∧
    (¬ due → exec .hwTimeSend s = .next s)) ∧
  (∀ (p : Side) (h : HwHeader) (stamp : Dword) (corr : Word) (s : State),
    (s.receipt p 0x12 h = .drop → exec (.hwTime p h stamp corr) s = .next s) ∧
    (s.receipt p 0x12 h ≠ .drop → deviceField h.src ≠ s.hw.master → ∃ t, exec (.hwTime p h stamp corr) s = .next t ∧
      t = { s with hw := { s.hw with ports := t.hw.ports, recent := t.hw.recent }, free := t.free }) ∧
    (s.receipt p 0x12 h ≠ .drop → deviceField h.src = s.hw.master →
      let off : Int := (stamp.toNat : Int) + corr.toNat + (s.hw.ports.get p).delay.toNat - s.now
      let limit : Int := tbSlewLimit s
      let corrects (t : State) : Prop :=
        ((∀ q : QuayNo, s.quay[q].core.st = .off) → 0 < off → (t.now : Int) = min ((s.now : Int) + off) 18446744073709551615 ∧
          (∀ m : Fin 4, t.tb.sdc[m] = s.tb.sdc[m] + off) ∧
          t.tb = { s.tb with now := t.tb.now, sdc := t.tb.sdc, slewing := false, slewRate := 0, slewLeft := 0, slewAcc := 0 }) ∧
        ((∃ q : QuayNo, s.quay[q].core.st ≠ .off) ∨ off ≤ 0 → t.tb = { s.tb with
          slewing := decide (off ≠ 0), slewLeft := off, slewAcc := t.tb.slewAcc, slewRate := if off = 0 then 0 else if 0 < off then limit else -limit })
      ∃ t, exec (.hwTime p h stamp corr) s = .next t ∧ t.hw.offset = off ∧ t.hw.lastTime = s.now ∧
        (off.natAbs ≤ hwAlignLost s → t.hw.aligned = (s.hw.aligned || decide (off.natAbs ≤ 6)) ∧ t.flt = s.flt ∧ corrects t) ∧
        (hwAlignLost s < off.natAbs → s.hw.aligned = false → t.hw.aligned = false ∧ t.flt = s.flt ∧ corrects t) ∧
        (hwAlignLost s < off.natAbs → s.hw.aligned = true → t.hw.aligned = false ∧ Raised s t srcHwAlignLost 0xFF ∧
          t.tb = { s.tb with slewing := false, slewRate := 0, slewLeft := 0 }) ∧
        t = { s with hw := t.hw, tb := t.tb, flt := t.flt, free := t.free })) ∧
  (∀ s : State,
    let due : Prop := s.hw.aligned = true ∧ s.hw.lastTime + 10 * (6400 * hwTimePeriod s) ≤ s.now
    (due → ∃ t, exec .hwAlignLost s = .next t ∧ t.hw = { s.hw with aligned := false } ∧
      t.tb = { s.tb with slewing := false, slewRate := 0, slewLeft := 0 } ∧ Raised s t srcHwAlignLost 0xFF ∧
      t = { s with hw := t.hw, tb := t.tb, flt := t.flt }) ∧
    (¬ due → exec .hwAlignLost s = .next s)) ∧
  (∀ (p : Side) (h : HwHeader) (s : State),
    let g : Nat := h.src.toNat / 262144 % 64
    let hears (q : QuayNo) : Prop := g ≠ 0 ∧ q ∈ s.localFollowers g
    let leads (q : QuayNo) : Prop := g ≠ 0 ∧ q ∈ s.localMasters g
    (∀ v : HwShare, (s.receipt p 0x20 h = .drop → exec (.hwShare p h v) s = .next s) ∧
      (s.receipt p 0x20 h ≠ .drop → ∃ t, exec (.hwShare p h v) s = .next t ∧
        (∀ ttl, s.receipt p 0x20 h = .forward ttl → ttl = h.ttl - 1 ∧ HwFrame.share { h with ttl := ttl } v ∈ (t.hw.ports.get p.other).tx) ∧
        ∃ u : State, u = { s with quay := u.quay, hw := { s.hw with recent := u.hw.recent } } ∧
          (∀ q, hears q → u.quay[q] = { s.quay[q] with
            share := { s.quay[q].share with value := some v, prior := s.quay[q].share.value, sender := h.src }
            form := if u.shareDue q s.quay[q].form.time = false ∧ s.quay[q].form.isOpen = true then { s.quay[q].form with
              missing := s.quay[q].form.missing.filter (fun i => i ≠ InputId.share) } else s.quay[q].form }) ∧
          (∀ q, leads q → u.quay[q] = { s.quay[q] with share := { s.quay[q].share with sender := h.src } }) ∧
          (∀ q, ¬ hears q → ¬ leads q → u.quay[q] = s.quay[q]) ∧
          let agrees : Prop := g = 0 ∨ u.misformed true g = (u.groupMembers g).any (fun q => u.quay[q].share.config)
          (agrees → t = { u with hw := { u.hw with ports := t.hw.ports } }) ∧
          (¬ agrees → t = { u.formGroup true g with hw := { (u.formGroup true g).hw with ports := t.hw.ports } }))) ∧
    (∀ v : HwShareStat, (s.receipt p 0x21 h = .drop → exec (.hwShareStat p h v) s = .next s) ∧
      (s.receipt p 0x21 h ≠ .drop → ∃ t, exec (.hwShareStat p h v) s = .next t ∧
        (∀ ttl, s.receipt p 0x21 h = .forward ttl → ttl = h.ttl - 1 ∧ HwFrame.shareStat { h with ttl := ttl } v ∈ (t.hw.ports.get p.other).tx) ∧
        (∀ q, leads q → (∃ f ∈ t.quay[q].share.followers, f.addr = h.src ∧ f.stat = v ∧ f.fresh = true) ∧
          (∀ f : Follower, f.addr ≠ h.src → (f ∈ t.quay[q].share.followers ↔ f ∈ s.quay[q].share.followers)) ∧
          t.quay[q] = { s.quay[q] with share := { s.quay[q].share with followers := t.quay[q].share.followers } }) ∧
        (∀ q, ¬ leads q → t.quay[q] = s.quay[q]) ∧ t = { s with quay := t.quay, hw := { s.hw with ports := t.hw.ports, recent := t.hw.recent } }))))

/-! ### Faults -/

/-- FAULT_ARRIVAL, CONSEQ_WINDOW_END, ERR_PULSE_END and SCRUB_PASS (R37 to R41, R894, R907, R908, R930): a raised fault enters the ordering stage with its
arrival time; a consequence window ends after its time, once no fault that arrived within it waits in the stage; the ERR_N pulse ends at its time;
each finding of the scrubber raises its source, and a double error in a trace region makes its capture invalid. Nothing else changes, and nothing at
all before these times. FABRIC_STALL (R54, R917): the hard path writes a HARD record at once, at the level of its count, one higher where an
unacknowledged one stands, puts the device safe state in force, moves every quay with a kernel to SAFE under its safe state, turns BRK2 and BRK3 off
and opens the consequence window of the device safe state. -/
def Obligations.CollectorEvents : Prop :=
  (
  (∀ (i : Nat) (s : State), (∀ e, s.flt.transit[i]? = some e → exec (.faultArrival i) s = .next { s with flt := { s.flt with
      transit := s.flt.transit.eraseIdx i, stage := s.flt.stage ++ [{ ev := e, arrived := s.now }] } }) ∧
    (s.flt.transit[i]? = none → exec (.faultArrival i) s = .next s)) ∧
  (∀ (i : Nat) (s : State),
    let ends (w : ConseqWindow) : Prop := s.flt.conseq[i]? = some w ∧ w.until_ ≤ s.now ∧ ∀ x ∈ s.flt.stage, w.until_ < x.arrived
    ((∃ w, ends w) → exec (.conseqWindowEnd i) s = .next { s with flt := { s.flt with conseq := s.flt.conseq.eraseIdx i } }) ∧
    ((∀ w, ¬ ends w) → exec (.conseqWindowEnd i) s = .next s)) ∧
  (∀ s : State, ((∃ u, s.flt.pulseUntil = some u ∧ u ≤ s.now) → exec .errPulseEnd s = .next { s with flt := { s.flt with pulseUntil := none } }) ∧
    ((∀ u, s.flt.pulseUntil = some u → s.now < u) → exec .errPulseEnd s = .next s)) ∧
  (∀ s : State, (∀ xs, s.portsDead = true → exec (.scrubPass xs) s = .next s) ∧ exec (.scrubPass []) s = .next s ∧
    (s.portsDead = false → ∀ x : ScrubFinding, ∃ t, exec (.scrubPass [x]) s = .next t ∧
      (x = .single → Raised s t srcEccCorr 0xFF) ∧ (∀ h : Side, x = .doubleHalf h → Raised s t srcEccHalf (if h = .a then 0xE0 else 0xE1)) ∧
      (∀ r, x = .doubleTrace r → Raised s t srcEccTrace 0xFF ∧ t.trace = s.trace.set r { s.trace[r] with invalid := true }) ∧
      (x = .doubleParam → Raised s t srcEccParam 0xFF) ∧ ((∀ r, x ≠ .doubleTrace r) → t.trace = s.trace) ∧
      t = { s with flt := t.flt, trace := t.trace } ∧ ∀ xs, exec (.scrubPass (x :: xs)) s = exec (.scrubPass xs) t))) ∧
  (
  ∀ s : State, ∃ t r, exec .fabricStall s = .next t ∧ t.flt.log.head? = some r ∧ t.flt.total = s.flt.total + 1 ∧ r.no = s.flt.total ∧
    (let f : FaultEvent := ⟨srcFabricStall, s.now, 0xFF, [], {}, [], 0, false⟩
     let counted := s.countedLevel f
     r.severity = (if s.unackedSame f = true ∧ counted < 4 then counted + 1 else counted) ∧ (r.escalated = true ↔ r.severity ≠ counted) ∧
     r.quays = (if r.severity = 4 then s.kernelQuays else [])) ∧
    r.src = srcFabricStall ∧ r.hard = true ∧ r.time = s.now ∧ r.acked = false ∧ t.flt.devSafe = true ∧ t.flt.hardSafe = true ∧
    assoc t.flt.events srcFabricStall = some ((assoc s.flt.events srcFabricStall).getD 0 + 1) ∧
    (∃ w ∈ t.flt.conseq, w.code = 9 ∧ w.all = true ∧ w.since = s.now ∧ w.until_ = s.now + 6400 * fltConseqWindow s 7 ∧ w.record = r.no) ∧
    t.brk[2] = { s.brk[2] with on := false } ∧ t.brk[3] = { s.brk[3] with on := false } ∧ t.brk[0] = s.brk[0] ∧ t.brk[1] = s.brk[1] ∧
    t.flt.stage = s.flt.stage ∧
    (∀ q : QuayNo, (s.hasKernel q = true → t.quay[q].core.st = .safe ∧ (2 ≤ s.safeCode q → s.safeCode q ≤ 6 →
        t.quay[q].react = some (combine s.quay[q].react (s.safeCode q))) ∧ (s.quay[q].core.st ≠ .safe → t.quay[q].openRec = some r.no)) ∧
      (s.hasKernel q = false → t.quay[q].core = s.quay[q].core ∧ t.quay[q].react = s.quay[q].react)) ∧
    (s.afterStep10 = true → fltErrLevel s ≤ 4 → t.flt.pulseUntil = some (s.now + 6400 * fltErrPulse s)) ∧
    t.params = s.params ∧ t.prot = s.prot)

/-- FAULT_ORDERED (R889 to R913, R922, R926, R930): 128 ticks after its arrival the oldest fault leaves the stage, with all that coincide; not before.
Of one that coincides with none: where an open consequence window covers it, it becomes a consequential record and moves nothing. Another with a
reaction other than 0, of the path class only where no quay of its scope holds an open record, is counted and recorded at the level of its count, one
higher where it is of no path class and its source and scope have an unacknowledged record; from level 2 on it moves the quays in its scope to
FAULTED, from level 3 on to SAFE, opens their record, puts the reaction in force and opens its consequence window; the device safe state does so on
every quay with a kernel; reset half resets the half it names; a suspicion against an ASC in force blocks the pulses (R779, R780); other quays keep
axis state and reaction; ERR_N pulses from `flt.err_level` on. A fault of the path class on one quay that holds an open record, at no higher level
and with no suspicion, is recorded as merged, counted in the open record, and moves nothing (R903 to R906). -/
def Obligations.FaultsOrdered : Prop :=
  (
  (∀ s : State, (s.flt.stage = [] → exec .faultOrdered s = .next s) ∧ ∀ x rest, s.flt.stage = x :: rest →
    (s.now < x.arrived + 128 → exec .faultOrdered s = .next s) ∧
    (x.arrived + 128 ≤ s.now → ∃ t, exec .faultOrdered s = .next t ∧ t.flt.stage = rest.filter (fun y => !coincide x.ev.time y.ev.time))) ∧
  (∀ (x : Staged) (rest : List Staged) (w : ConseqWindow) (s : State), s.flt.stage = x :: rest →
    (∀ y ∈ rest, coincide x.ev.time y.ev.time = false) → x.arrived + 128 ≤ s.now → s.covering x = some w →
    ∃ t r, exec .faultOrdered s = .next t ∧ t.flt.stage = rest ∧ t.flt.total = s.flt.total + 1 ∧ t.flt.log.head? = some r ∧
      r.no = s.flt.total ∧ r.src = x.ev.src ∧ r.time = x.ev.time ∧ r.severity = (s.entry x.ev.src).base ∧ r.consequential = true ∧
      r.count = w.record % 65536 ∧ t.flt.events = s.flt.events ∧
      (∀ l : LegNo, t.leg[l] = { s.leg[l] with latchWait := s.leg[l].latchWait && !x.ev.latched.contains l }) ∧
      t = { s with flt := t.flt, port := t.port, trace := t.trace, leg := t.leg }) ∧
  (∀ (x : Staged) (rest : List Staged) (s : State), s.flt.stage = x :: rest →
    (∀ y ∈ rest, coincide x.ev.time y.ev.time = false) → x.arrived + 128 ≤ s.now → s.covering x = none →
    let rx := if s.countsSevere x.ev = true then (s.faultEntry x.ev).rSevere else (s.faultEntry x.ev).rBase
    let counted := s.countedLevel x.ev
    let level := if isPath x.ev.src = false ∧ s.unackedSame x.ev = true ∧ counted < 4 then counted + 1 else counted
    let scope := s.scopeQuays x.ev level
    let acts := if rx = 9 ∨ level = 4 then s.kernelQuays else scope
    let eff := if rx = 9 ∨ level = 4 then max level 3 else level
    let code (q : QuayNo) : Nat := if (rx = 9 ∨ level = 4) ∧ q ∉ scope then s.safeCode q else s.codeOn x.ev level rx q
    let resets (h : Side) : Prop := rx = 8 ∧ level < 3 ∧ x.ev.scope = (if h = .a then 0xE0 else 0xE1)
    let moves (q : QuayNo) : Prop := q ∈ acts ∧
      (eff = 2 ∧ s.quay[q].core.st ≠ .faulted ∧ s.quay[q].core.st ≠ .safe ∨ 3 ≤ eff ∧ s.quay[q].core.st ≠ .safe)
    let put (q : QuayNo) : Option Nat := if q ∈ acts ∧ 2 ≤ code q ∧ code q ≤ 6 then
      some (combine s.quay[q].react (code q)) else s.quay[q].react
    let opposed (q : QuayNo) : Prop := q ∈ scope ∧ x.ev.suspect ≠ 0 ∧
      (put q = some 5 ∧ x.ev.suspect ≠ 2 ∨ put q = some 6 ∧ x.ev.suspect ≠ 1)
    rx ≠ 0 → (isPath x.ev.src = true → ∀ q ∈ scope, s.quay[q].openRec = none) →
    ∃ t r, exec .faultOrdered s = .next t ∧ t.flt.stage = rest ∧ t.flt.total = s.flt.total + 1 ∧ t.flt.log.head? = some r ∧
      r.no = s.flt.total ∧ r.src = x.ev.src ∧ r.time = x.ev.time ∧ r.severity = level ∧ r.consequential = false ∧ r.acked = false ∧
      r.quays = scope ∧ r.merged = false ∧ r.reaction = s.reactionByte x.ev level rx scope ∧
      (r.escalated = true ↔ level ≠ counted) ∧ assoc t.flt.events x.ev.src = some ((assoc s.flt.events x.ev.src).getD 0 + 1) ∧
      t.flt.devFirst = (if level = 0 then s.flt.devFirst else some (s.flt.devFirst.getD s.flt.total)) ∧
      (t.flt.devSafe = true ↔ s.flt.devSafe = true ∨ level = 4 ∨ rx = 9) ∧
      ((∀ h, ¬ resets h) → ∀ q : QuayNo,
        (moves q → t.quay[q].core.st = (if eff = 2 then .faulted else .safe) ∧ t.quay[q].openRec = some s.flt.total) ∧
        (¬ moves q → t.quay[q].core = s.quay[q].core ∧ t.quay[q].openRec = s.quay[q].openRec) ∧
        (opposed q → t.quay[q].react = some 4) ∧ (¬ opposed q → t.quay[q].react = put q)) ∧
      (∀ h, resets h → (s.half.get h).run = true → HalfLost s t h) ∧
      (∀ q ∈ scope, s.appliedCode x.ev level rx q ≠ 0 → rx ≠ 9 → ∃ w ∈ t.flt.conseq,
        w.code = (if rx = 7 then 7 else s.appliedCode x.ev level rx q) ∧ q ∈ w.quays ∧ w.since = s.now ∧
        w.until_ = s.now + 6400 * fltConseqWindow s (w.code - 2) ∧ w.record = s.flt.total) ∧
      (∀ n : Nat, (n = 9 ∧ (rx = 9 ∨ level = 4)) ∨ (n = 8 ∧ ∃ h, resets h) → ∃ w ∈ t.flt.conseq, w.code = n ∧ w.all = true ∧
        w.since = s.now ∧ w.until_ = s.now + 6400 * fltConseqWindow s (n - 2) ∧ w.record = s.flt.total) ∧
      (s.afterStep10 = true → fltErrLevel s ≤ level → t.flt.pulseUntil = some (s.now + 6400 * fltErrPulse s))) ∧
  (∀ (x : Staged) (rest : List Staged) (q : QuayNo) (o : Nat) (ro : Record) (s : State), s.flt.stage = x :: rest →
    (∀ y ∈ rest, coincide x.ev.time y.ev.time = false) → x.arrived + 128 ≤ s.now → s.covering x = none →
    isPath x.ev.src = true → s.scopeQuays x.ev (s.countedLevel x.ev) = [q] → x.ev.suspect = 0 → s.quay[q].openRec = some o → s.flt.record o = some ro →
    o ≠ s.flt.total → s.countedLevel x.ev ≤ ro.severity →
    (if s.countsSevere x.ev = true then (s.faultEntry x.ev).rSevere else (s.faultEntry x.ev).rBase) ≠ 0 → ∃ t r, exec .faultOrdered s = .next t ∧
      t.flt.total = s.flt.total + 1 ∧ t.flt.log.head? = some r ∧ r.no = s.flt.total ∧ r.merged = true ∧ r.src = x.ev.src ∧
      r.severity = s.countedLevel x.ev ∧ r.reaction = 0 ∧ r.count = o % 65536 ∧
      (∃ r', t.flt.record o = some r' ∧ r'.count = ro.count + 1 ∧ r'.severity = ro.severity) ∧
      ∀ p : QuayNo, t.quay[p].core = s.quay[p].core ∧ t.quay[p].react = s.quay[p].react ∧ t.quay[p].openRec = s.quay[p].openRec))

/-! ### Halves -/

/-- CHECK_TRIP, HEARTBEAT_TIMEOUT and a failed CHECK_SELFTEST (R32, R53, R943, R958, R965 to R970, R986): the half enters reset, the grant moves or
ends, the requests in its mailboxes are lost, and the source is raised for the half with its sub-cause; after a failed self-test the half is held.
A ROLE trip needs a mismatch more than 1 ms after the record of it, a LINK trip a link down for ten timeouts on a half not in charge; without
them, and on a half that does not run, nothing changes; nor does a self-test change anything outside start-up and operation or on a held half. -/
def Obligations.HalvesTrip : Prop :=
  (
  let raised (s t : State) (src : Nat) (h : Side) (b17 sub : Byte) : Prop := ∃ e ∈ t.flt.transit, e.src = src ∧ e.time = s.now ∧
    e.scope = (if h = .a then 0xE0 else 0xE1) ∧ e.ctx = { inst := BitVec.ofNat 8 h.toNat, b17 := b17, sub := sub }
  (∀ (h : Side) (c : TripCause) (engine : Byte) (s : State),
    let holds : Prop := match c with
      | .role => ∃ u, (s.half.get h).roleRecAt = some u ∧ ∃ m ∈ (s.half.get h).mismatchAt, u + 6400000 ≤ m
      | .link => s.ih.linkDown = true ∧ s.hm.grant ≠ some h ∧ s.ih.linkSince + 64000 * halfLinkTimeout s h ≤ s.now
      | _ => True
    ((s.half.get h).run = true → holds → ∃ t, exec (.checkTrip h c engine) s = .next t ∧ HalfLost s t h ∧
      (t.half.get h).held = (s.half.get h).held ∧ raised s t srcCheckTrip h (if c = .engineMiss ∨ c = .engineSig then engine else 0xFF)
        (match c with | .engineMiss => 1 | .engineSig => 2 | .pilotWd => 4 | .pilotSig => 8 | .role => 16 | .link => 32)) ∧
    ((s.half.get h).run = false ∨ ¬ holds → exec (.checkTrip h c engine) s = .next s)) ∧
  (∀ (h : Side) (s : State), ((s.half.get h).run = true → ∃ t, exec (.heartbeatTimeout h) s = .next t ∧ HalfLost s t h ∧
      (t.half.get h).held = (s.half.get h).held ∧ raised s t srcCheckTrip h 0xFF 0x40) ∧
    ((s.half.get h).run = false → exec (.heartbeatTimeout h) s = .next s)) ∧
  (∀ (h : Side) (s : State),
    let tested : Prop := s.boot.stage ≠ .inReset ∧ s.boot.stage ≠ .halted ∧ (s.half.get h).held = false
    (tested → ∃ t, exec (.checkSelftest h false) s = .next t ∧ HalfLost s t h ∧ (t.half.get h).held = true ∧ raised s t srcCheckSelftest h 0xFF 0) ∧
    (¬ tested → ∀ pass, exec (.checkSelftest h pass) s = .next s)))

/-- PREF_WAIT_EXPIRY (R945, R948, R949): when the wait has passed and no half has been granted yet, the grant goes to the other half than the
preferred one if it has requested first, else to the preferred one; without a preference to the one that has, or to either where both have (a free
value); a force (R952) can move it on at once where no quay has a kernel. CHECK_SELFTEST that passes, IH_PATCH and HALF_REJOIN (R36, R261, R944, R966,
R978 to R980): a half in reset whose self-test passed is sent the patch by the half in charge; a good patch is noted, a bad one holds the half in
reset and raises CHECK_SELFTEST; then the half runs with its table store refreshed, copies the axis states, and the kernel state of each quay is on
its way; without a grant it is granted at once. In every other case nothing changes. -/
def Obligations.HalvesRejoin : Prop :=
  (
  ∀ s : State,
    let due : Prop := s.afterStep10 = true ∧ s.hm.grant = none ∧ s.hm.everGranted = false ∧ ∃ u, s.boot.prefWaitAt = some u ∧ u ≤ s.now
    let can (h : Side) : Prop := (s.half.get h).run = true ∧
      ((s.half.get h).req = true ∨ (s.half.get h.other).req = false ∨ (s.half.get h.other).run = false)
    let on (h : Side) : Prop := s.prot.hmForce = true ∧ s.hm.force.get h.other = true ∧ s.hm.force.get h = false ∧
      (s.half.get h.other).run = true ∧ s.kernelQuays = []
    let granted (h : Side) : Prop := ∃ t, exec .prefWaitExpiry s = .next t ∧ (¬ on h → t.hm.grant = some h ∧ t.hm.failovers = s.hm.failovers) ∧
      (on h → t.hm.grant = some h.other) ∧ t.hm.everGranted = true ∧ t.boot.prefWaitAt = none ∧ t.base = s.base
    (∀ p, due → s.preferred = some p → can p.other → granted p.other) ∧
    (∀ p, due → s.preferred = some p → ¬ can p.other → can p → granted p) ∧
    (∀ h : Side, due → s.preferred = none → can h → ¬ can h.other → granted h) ∧
    (due → s.preferred = none → can .a → can .b → granted .a ∨ granted .b) ∧
    (¬ due ∨ (¬ can .a ∧ ¬ can .b) → exec .prefWaitExpiry s = .next s)) ∧
  (
  (∀ (h : Side) (s : State), s.boot.stage ≠ .inReset → s.boot.stage ≠ .halted → (s.half.get h).held = false →
    let waits : Prop := s.afterStep10 = true ∧ (s.half.get h).run = false ∧ (s.half.get h).selfOk = false
    (waits → exec (.checkSelftest h true) s = .next { s with
      half := s.half.set h { s.half.get h with selfOk := true }
      ih := if s.hm.grant = some h.other then { s.ih with
        from_ := s.ih.from_.set h.other (s.ih.from_.get h.other ++ [.patch])
        unacked := s.ih.unacked.set h.other (s.ih.unacked.get h.other ++ [s.now]) } else s.ih }) ∧
    (¬ waits → exec (.checkSelftest h true) s = .next s)) ∧
  (∀ (h : Side) (s : State), s.hm.grant = some h.other → (s.ih.from_.get h.other).head? = some .patch →
    (∃ t, exec (.ihPatch true) s = .next t ∧ t.half = s.half.set h { s.half.get h with patchOk := true } ∧
      t.ih = { s.ih with from_ := s.ih.from_.set h.other ((s.ih.from_.get h.other).drop 1)
                         unacked := s.ih.unacked.set h.other ((s.ih.unacked.get h.other).drop 1), linkDown := false } ∧
      t = { s with half := t.half, ih := t.ih }) ∧
    (∃ t, exec (.ihPatch false) s = .next t ∧ HalfLost s t h ∧ (t.half.get h).held = true ∧
      ∃ e ∈ t.flt.transit, e.src = srcCheckSelftest ∧ e.time = s.now ∧ e.scope = (if h = .a then 0xE0 else 0xE1))) ∧
  (∀ (ok : Bool) (s : State), (∀ g, s.hm.grant = some g → (s.ih.from_.get g).head? ≠ some .patch) → exec (.ihPatch ok) s = .next s) ∧
  (∀ (h : Side) (s : State),
    let ready : Prop := s.afterStep10 = true ∧ (s.half.get h).selfOk = true ∧ (s.half.get h).run = false ∧ (s.half.get h).held = false ∧
      ((s.half.get h).patchOk = true ∨ s.hm.grant = none ∧ s.boot.src.toNat < 2)
    let started : Half := { s.half.get h with
      run := true, req := true, rejoinUs := BitVec.ofNat 32 ((s.now - (s.half.get h).resetAt) / 6400), roster := s.prot.roster
      tables := s.params.filter (fun e => decide (0xC00000 ≤ e.1)) }
    let back : Pair Port := s.port.set h { s.port.get h with irqBack := true }
    (ready → s.hm.grant = some h.other → ∃ t, exec (.halfRejoin h) s = .next t ∧
      t.half = s.half.set h { started with coreSync := true } ∧ t.port = back ∧
      (∀ q : QuayNo, t.quay[q] = { s.quay[q] with coreCopy := s.quay[q].core }) ∧
      (∀ q ∈ s.kernelQuays, IhMsg.kstate q ∈ t.ih.from_.get h.other) ∧ t = { s with half := t.half, port := t.port, quay := t.quay, ih := t.ih }) ∧
    (ready → s.hm.grant = none → s.hm.everGranted = false → exec (.halfRejoin h) s = .next { s with half := s.half.set h started, port := back }) ∧
    (ready → s.hm.grant = none → s.hm.everGranted = true → (s.half.get h.other).run = false ∨ s.prot.hmForce = false ∨ s.kernelQuays ≠ [] →
      ∃ t, exec (.halfRejoin h) s = .next t ∧ (t.half.get h).run = true ∧ (t.half.get h).coreSync = true ∧ t.hm.grant = some h ∧
        t.hm.failovers = s.hm.failovers + 1 ∧ t.hm.lastMove = s.now ∧
        (∀ q : QuayNo, (∀ g ∈ s.lostGroups, ∀ a ∈ g.axes, a.1 ≠ q) → t.quay[q].core = s.quay[q].coreCopy.keepOps s.quay[q].core.ops) ∧
        t.base = s.base) ∧
    (ready → s.hm.grant = some h → ∃ t, exec (.halfRejoin h) s = .next t ∧ t.half = s.half.set h { started with coreSync := true } ∧
      (s.prot.hmForce = false → t.port.get h = back.get h) ∧ t.base = s.base) ∧
    (¬ ready → exec (.halfRejoin h) s = .next s)))

/-- IH_CHANGE, IH_CHANGE_ACK, IH_KSTATE, IH_ALIVE_SEND and IH_ACK (R957, R961, R963, R964, R981 to R983): a change reaches the shadow's copy and is
acknowledged; the acknowledgement ends the wait of the half in charge for the oldest change of that quay; the kernel state of a quay synchronises
the shadow on it; ALIVE is sent by a running half, to a running one, where no message is due, and acknowledged. Nothing else changes, and nothing
at all where no such message stands first. -/
def Obligations.ChannelServes : Prop :=
  (
  let popped (s : State) (h : Side) : Pair (List IhMsg) := s.ih.from_.set h ((s.ih.from_.get h).drop 1)
  let acked (s : State) (h : Side) : Pair (List Nat) := s.ih.unacked.set h ((s.ih.unacked.get h).drop 1)
  (∀ (g : Side) (q : QuayNo) (c : AxisCore) (u : Nat) (s : State), s.hm.grant = some g → (s.ih.from_.get g).head? = some (.change q c u) →
    exec .ihChange s = .next { s with
      quay := s.quay.set q { s.quay[q] with coreCopy := c }
      ih := { s.ih with from_ := (popped s g).set g.other (s.ih.from_.get g.other ++ [.changeAck q]) } }) ∧
  (∀ s : State, (∀ g, s.hm.grant = some g → ∀ q c u, (s.ih.from_.get g).head? ≠ some (.change q c u)) → exec .ihChange s = .next s) ∧
  (∀ (g : Side) (q : QuayNo) (s : State), s.hm.grant = some g → (s.ih.from_.get g.other).head? = some (.changeAck q) →
    ∃ t, exec .ihChangeAck s = .next t ∧ t.ih = { s.ih with from_ := popped s g.other, unacked := acked s g, linkDown := false, changes := t.ih.changes } ∧
      (∀ pre u rest, s.ih.changes = pre ++ (q, u) :: rest → (∀ e ∈ pre, e.1 ≠ q) → t.ih.changes = pre ++ rest) ∧
      ((∀ e ∈ s.ih.changes, e.1 ≠ q) → t.ih.changes = s.ih.changes) ∧ t = { s with ih := t.ih }) ∧
  (∀ s : State, (∀ g, s.hm.grant = some g → ∀ q, (s.ih.from_.get g.other).head? ≠ some (.changeAck q)) → exec .ihChangeAck s = .next s) ∧
  (∀ (g : Side) (q : QuayNo) (s : State), s.hm.grant = some g → (s.ih.from_.get g).head? = some (.kstate q) →
    exec .ihKstate s = .next { s with
      quay := s.quay.set q { s.quay[q] with kernCopy := s.quay[q].kern, coreCopy := s.quay[q].core }
      hm := { s.hm with synced := s.hm.synced.set q true }
      ih := { s.ih with from_ := popped s g, unacked := acked s g, linkDown := false } }) ∧
  (∀ s : State, (∀ g, s.hm.grant = some g → ∀ q, (s.ih.from_.get g).head? ≠ some (.kstate q)) → exec .ihKstate s = .next s) ∧
  (∀ (h : Side) (s : State),
    let idle : Prop := (s.half.get h).run = true ∧ (s.half.get h.other).run = true ∧ s.ih.from_.get h = []
    (idle → exec (.ihAliveSend h) s = .next { s with
      ih := { s.ih with from_ := s.ih.from_.set h [.alive], unacked := s.ih.unacked.set h (s.ih.unacked.get h ++ [s.now]) } }) ∧
    (¬ idle → exec (.ihAliveSend h) s = .next s)) ∧
  (∀ (h : Side) (s : State), (s.ih.from_.get h).head? = some .alive → ∃ t, exec .ihAck s = .next t ∧ t.ih.from_.get h = (s.ih.from_.get h).drop 1 ∧
    t.ih.unacked.get h = (s.ih.unacked.get h).drop 1 ∧ t.ih = { s.ih with from_ := t.ih.from_, unacked := t.ih.unacked, linkDown := false } ∧
    t = { s with ih := t.ih } ∧
    ((s.ih.from_.get h.other).head? ≠ some .alive → t.ih.from_.get h.other = s.ih.from_.get h.other ∧ t.ih.unacked.get h.other = s.ih.unacked.get h.other)) ∧
  (∀ s : State, (∀ h, (s.ih.from_.get h).head? ≠ some .alive) → exec .ihAck s = .next s))

/-- HALF_LINK (R963, R964, R983): a message not acknowledged within `half.link_timeout` while both halves run raises HALF_LINK; changes that waited that
long apply, and their quays lose admission and have their kernel state sent anew. MFORCE_ASSERT and MFORCE_RELEASE (R950 to R955): with FORCE, one
asserted pin moves the grant to its half once that half runs and is admitted everywhere, and is pending until then; two asserted raise FORCE_CONFLICT
and move nothing; releasing the only one moves nothing, releasing one of two puts the other in force; without FORCE a pin only shows. -/
def Obligations.LinkAndForce : Prop :=
  (
  (∀ s : State,
    let late (h : Side) (u : Nat) : Prop := u + 6400 * halfLinkTimeout s h ≤ s.now
    let due : Prop := s.half.a.run = true ∧ s.half.b.run = true ∧ ∃ h, ∃ u ∈ s.ih.unacked.get h, late h u
    (due → ∃ t, exec .halfLink s = .next t ∧ t.ih.linkDown = true ∧
      t.ih.linkSince = (if s.ih.linkDown = true then s.ih.linkSince else s.now) ∧ Raised s t srcHalfLink 0xFF ∧
      (∀ g, s.hm.grant = some g →
        (∀ q c, (q, c) ∈ s.ih.changes → late g c → t.hm.admission[q] = false ∧ t.quay[q].eff = s.quay[q].core ∧
          IhMsg.kstate q ∈ t.ih.from_.get g ∧ (q, c) ∉ t.ih.changes) ∧
        (∀ q : QuayNo, (∀ c, (q, c) ∈ s.ih.changes → ¬ late g c) → t.hm.admission[q] = s.hm.admission[q] ∧ t.quay[q] = s.quay[q])) ∧
      (s.hm.grant = none → t.hm = s.hm ∧ t.quay = s.quay) ∧ (∀ q : QuayNo, t.quay[q].core = s.quay[q].core) ∧
      t = { s with ih := t.ih, hm := t.hm, quay := t.quay, flt := t.flt }) ∧
    (¬ due → exec .halfLink s = .next s)) ∧
  (∀ (h : Side) (s : State), s.prot.hmForce = false →
    exec (.mforceAssert h) s = .next { s with hm := { s.hm with force := s.hm.force.set h true } } ∧
    exec (.mforceRelease h) s = .next { s with hm := { s.hm with force := s.hm.force.set h false } }) ∧
  (∀ (h : Side) (s : State), s.prot.hmForce = true → s.hm.force.get h.other = true → ∃ t, exec (.mforceAssert h) s = .next t ∧
    t.hm = { s.hm with force := ⟨true, true⟩, forcePend := false } ∧ Raised s t srcForceConflict 0xFF ∧ t = { s with hm := t.hm, flt := t.flt }) ∧
  (∀ (h : Side) (s : State), s.prot.hmForce = true → s.hm.force.get h.other = false →
    exec (.mforceRelease h) s = .next { s with hm := { s.hm with force := ⟨false, false⟩, forcePend := false } }) ∧
  (∀ (h : Side) (c : Instr) (s : State), s.prot.hmForce = true →
    (c = .mforceAssert h ∧ s.hm.force.get h.other = false) ∨ (c = .mforceRelease h.other ∧ s.hm.force.get h = true) →
    let only : Pair Bool := (⟨false, false⟩ : Pair Bool).set h true
    let shows (pend : Bool) : Prop := exec c s = .next { s with hm := { s.hm with force := only, forcePend := pend } }
    let admitted : Prop := (s.half.get h).run = true ∧ ∀ q ∈ s.kernelQuays, s.hm.admission[q] = true
    (s.hm.grant = none → shows s.hm.everGranted) ∧ (s.hm.grant = some h → shows false) ∧
    (s.hm.grant = some h.other → ¬ admitted → shows true) ∧
    (s.hm.grant = some h.other → admitted → ∃ t, exec c s = .next t ∧ t.hm.grant = some h ∧ t.hm.force = only ∧ t.hm.forcePend = false ∧
      t.hm.everGranted = true ∧ t.base = s.base ∧
      (s.hm.everGranted = true → t.hm.failovers = s.hm.failovers + 1 ∧ t.hm.lastMove = s.now ∧
        (∀ (l : LegNo) x, s.leg[l].standby = some x → t.leg[l].active = some x ∧ t.leg[l].standby = none) ∧
        ∀ q : QuayNo, (∀ g ∈ s.lostGroups, ∀ a ∈ g.axes, a.1 ≠ q) → t.quay[q].core = s.quay[q].coreCopy.keepOps s.quay[q].core.ops))))

/-- IH_FORWARD, IH_FORWARD_REPLY and FORWARD_TIMEOUT (R228, R255 to R259): a forwarded command that reaches the half in charge is performed there and
its result goes back, unless an earlier one in line with it is on its way back to that half, behind which it goes round again (R228); one that meets a half no longer in charge goes on to the half that is, if it runs, and is lost otherwise; one that comes back to
the half its port is on, now in charge, is performed there. A result that is still waited for is the reply, marked as forwarded, one that comes too
late is dropped; after `host.fwd_timeout`, or where the half in charge does not run, the reply is NOT_IN_CHARGE. Requests held behind the answered one
are then taken in their order. -/
def Obligations.CommandsForwarded : Prop :=
  (
  (∀ (h : Side) (m : Msg) (es : Staging) (u : Nat) (s : State), (s.ih.from_.get h).head? = some (.forward m es u) →
    (h = .b → ∀ m' es' u', (s.ih.from_.get .a).head? ≠ some (.forward m' es' u')) →
    let s1 := s.takeFrom h
    let o := s1.perform m es (decide (m.port ≠ h.other))
    let sent (t : State) (x : IhMsg) : State := { t with ih := { t.ih with
      from_ := t.ih.from_.set h.other (t.ih.from_.get h.other ++ [x]), unacked := t.ih.unacked.set h.other (t.ih.unacked.get h.other ++ [t.now]) } }
    (s.hm.grant = some h.other → s1.inLineFrom h.other m = true → exec .ihForward s = .next (sent s1 (.forward m es u))) ∧
    (s.hm.grant = some h.other → s1.inLineFrom h.other m = false → m.port = h → exec .ihForward s = .next (sent o.1 (.forwardReply m o.2))) ∧
    (s.hm.grant = some h.other → s1.inLineFrom h.other m = false → m.port = h.other → (∀ v, (m, v) ∉ o.1.ih.waiting) → exec .ihForward s = .next o.1) ∧
    (s.hm.grant = some h.other → s1.inLineFrom h.other m = false → m.port = h.other → (∃ v, (m, v) ∈ o.1.ih.waiting) → (o.1.port.get m.port).held = [] →
      ∃ t, exec .ihForward s = .next t ∧ Answered t m o.2 false ∧ (∀ v, (m, v) ∉ t.ih.waiting) ∧ t = { o.1 with port := t.port, ih := t.ih }) ∧
    (s.hm.grant = some h → (s.half.get h).run = true → exec .ihForward s = .next (sent s1 (.forward m es u))) ∧
    (s.hm.grant = none ∨ (s.hm.grant = some h ∧ (s.half.get h).run = false) → exec .ihForward s = .next s1)) ∧
  (∀ s : State, (∀ h m es u, (s.ih.from_.get h).head? ≠ some (.forward m es u)) → exec .ihForward s = .next s) ∧
  (∀ (h : Side) (m : Msg) (r : Result) (s : State), (s.ih.from_.get h).head? = some (.forwardReply m r) →
    (h = .b → ∀ m' r', (s.ih.from_.get .a).head? ≠ some (.forwardReply m' r')) →
    ((∃ u, (m, u) ∈ s.ih.waiting) → (s.port.get m.port).held = [] → ∃ t, exec .ihForwardReply s = .next t ∧ Answered t m r true ∧
      (∀ u, (m, u) ∉ t.ih.waiting) ∧ t.ih.from_ = s.ih.from_.set h ((s.ih.from_.get h).drop 1) ∧ t = { s with port := t.port, ih := t.ih }) ∧
    ((∃ u, (m, u) ∈ s.ih.waiting) → ∀ t, exec .ihForwardReply (s.modPort m.port (fun x => { x with held := [] })) = .next t →
      exec .ihForwardReply s = .next ((s.port.get m.port).held.foldl (fun y k => y.serve m.port k) t)) ∧
    ((∀ u, (m, u) ∉ s.ih.waiting) → exec .ihForwardReply s = .next (s.takeFrom h))) ∧
  (∀ s : State, (∀ h m r, (s.ih.from_.get h).head? ≠ some (.forwardReply m r)) → exec .ihForwardReply s = .next s) ∧
  (∀ s : State,
    let gone (e : Msg × Nat) : Prop := e.2 + 6400 * hostFwdTimeout s e.1.port ≤ s.now ∨ (s.half.get e.1.port.other).run = false
    (∀ (m : Msg) (u : Nat) (pre rest : List (Msg × Nat)), s.ih.waiting = pre ++ (m, u) :: rest → (∀ e ∈ pre, ¬ gone e) → gone (m, u) →
      ((s.port.get m.port).held = [] → ∃ t, exec .forwardTimeout s = .next t ∧ Answered t m { status := 0x17, advice := 0, data := [] } false ∧
        (∀ v, (m, v) ∉ t.ih.waiting) ∧ t = { s with port := t.port, ih := { s.ih with waiting := t.ih.waiting } }) ∧
      (∀ t, exec .forwardTimeout (s.modPort m.port (fun x => { x with held := [] })) = .next t →
        exec .forwardTimeout s = .next ((s.port.get m.port).held.foldl (fun y k => y.serve m.port k) t))) ∧
    ((∀ e ∈ s.ih.waiting, ¬ gone e) → exec .forwardTimeout s = .next s)))

/-! ### Requests of classes 1 to 3 -/

/-- A request whose header, payload and trailer are whole is read back from its buffer as it was sent, whatever the buffer held before; one with
another trailer of the same length fails the CRC check (R211 to R216). -/
def Obligations.RequestsReadBack : Prop :=
  (
  ∀ (op : Byte) (p : Side) (m : MbxNo) (r : Req) (s : State), 4 ≤ m.val → cellsWf 0 (s.port.get p).mbx[m].req = true →
    r.payload.length = r.length.toNat → r.length.toNat ≤ maxLen (mbxClass m) → r.trailer.length = trailerLen (mbxClass m) →
    let body := [r.byte0, op] ++ leBytes 2 r.seq.toNat ++ leBytes 2 r.target.toNat ++ leBytes 2 r.length.toNat ++ r.payload
    let x := (s.rung op p m r).readRequest p m
    x.msg = { port := p, mbx := m, byte0 := r.byte0, opcode := op, seq := r.seq, target := r.target, payload := r.payload } ∧
      x.length = r.length.toNat ∧ (x.crcOk = true ↔ r.trailer = trailer (mbxClass m) body))

/-- Every command of class 1 to 3 (R144, R219 to R233, R255 to R257, R281, R316): a doorbell rung for a busy mailbox, or while the serving half does not
run, changes nothing of the device but a bit of SPI_ERR (and MBX3_SEL); a wrong trailer is answered CRC; a repetition with RETRY is answered with the
kept reply; a request that would overtake an earlier one of its port, class and target waits behind it; one that fails a check of R219 has the status
of that check, and a COMMIT refused so leaves the staging area empty; a command that changes state is answered NOT_IN_CHARGE where no running half is
in charge, and is forwarded with its staging area where the other one is. -/
def Obligations.RequestsJudged : Prop :=
  (
  ∀ (c : Instr) (op : Byte) (p : Side) (m : MbxNo) (r : Req) (s : State), hostRequest c = some (op, p, m, r) → 4 ≤ m.val → s.isReady = true →
    let u := s.rung op p m r
    let x := u.readRequest p m
    let noted (t : State) (e : BitVec 6) : Prop := t = { s with port := s.port.set p { s.port.get p with
      spiErr := (s.port.get p).spiErr ||| e, mbx3Sel := (t.port.get p).mbx3Sel } }
    let area (t : State) (o : Byte) : Prop := (t.port.get p).staging = if o = 0x42 then [] else (s.port.get p).staging
    ((s.half.get p).run = false → ∃ t, exec c s = .next t ∧ noted t 0x20) ∧
    ((s.half.get p).run = true → (s.port.get p).busy &&& mbxBit m ≠ 0 → ∃ t, exec c s = .next t ∧ noted t 0x18) ∧
    (Rings s p m → x.crcOk = true → ∀ bytes, (s.port.get p).mbx[m].kept = some (x.msg.seq, bytes) → x.msg.byte0.getLsbD 2 = true →
      ∃ t, exec c s = .next t ∧ (∃ old, (t.port.get p).mbx[m].rep = writeCells 0 old 0 bytes) ∧ (t.port.get p).mbx[m].kept = some (x.msg.seq, bytes) ∧
        (t.port.get p).done &&& mbxBit m ≠ 0 ∧ (t.port.get p).busy &&& mbxBit m = 0 ∧ t = { s with port := t.port }) ∧
    (Rings s p m → x.crcOk = false → ∃ t, exec c s = .next t ∧ Answered t x.msg { status := 0x16, advice := 0, data := [] } false ∧
      t = { s with port := t.port }) ∧
    (Rings s p m → x.crcOk = true → u.keptReply x.msg = none → u.mustWait x.msg = true →
      exec c s = .next (u.modPort p (fun y => { y with held := y.held ++ [m] }))) ∧
    (Rings s p m → x.crcOk = true → u.keptReply x.msg = none → u.mustWait x.msg = false → ∀ st, u.checkRequest x = some st →
      ∃ t, exec c s = .next t ∧ Answered t x.msg { status := st, advice := 0, data := [] } false ∧ t = { s with port := t.port } ∧
        (mbxClass m = 2 → area t x.msg.opcode)) ∧
    (Passes s op p m r x.msg → op ∉ [(0x40 : Byte), 0x41, 0x43, 0x44, 0x60] →
      ((s.hm.grant = none ∨ (s.hm.grant = some p.other ∧ (s.half.get p.other).run = false)) → ∃ t, exec c s = .next t ∧
        Answered t x.msg { status := 0x17, advice := 0, data := [] } false ∧ area t op ∧ t = { s with port := t.port }) ∧
      (s.hm.grant = some p.other → (s.half.get p.other).run = true → ∃ t, exec c s = .next t ∧
        t.ih = { s.ih with
          from_ := s.ih.from_.set p (s.ih.from_.get p ++ [.forward x.msg (s.port.get p).staging s.now])
          unacked := s.ih.unacked.set p (s.ih.unacked.get p ++ [s.now]), waiting := s.ih.waiting ++ [(x.msg, s.now)] } ∧
        (t.port.get p).busy &&& mbxBit m ≠ 0 ∧ area t op ∧ t = { s with port := t.port, ih := t.ih })))

/-- ARM, DISARM, START, STOP, QUICKSTOP and HOLD to a quay through the port of the half in charge, in every axis state (R270, R287 to R299, R307): ARM
from OFF with its legs available and free of latches is accepted and arms them, or is abandoned at once where VM or VGD of a die is low; DISARM takes
ARMED to OFF; START takes ARMED at standstill and HOLD to RUNNING in the mode it names with its reference, a turning ARMED axis to CATCHING, and
changes the mode of RUNNING but for position mode; a stop takes ARMED and CATCHING to OFF, RUNNING, HOLD and HOMING to STOPPING with its kind, and a
ramp stop to a quick one; HOLD takes ARMED at standstill and RUNNING to HOLD. Elsewhere the command is DONE without effect or refused, and a refusal
is noted (R278). A quick stop that runs in HOLD goes on (R609). `v` is the device
with the request in its buffer and class-0 flags and limit inputs of the quay's snapshot applied (R276, R619); no other quay changes. -/
def Obligations.AxisCommands : Prop :=
  (
  ∀ (p : Side) (m : MbxNo) (r : Req) (msg : Msg) (q : QuayNo) (s : State), targetOf msg.target = some (.quay q) → s.hm.grant = some p →
    let does (c : Instr) (v : State) (res : Result) (P : State → Prop) : Prop := ∃ t, exec c s = .next t ∧ Answered t msg res false ∧
      (∀ k : QuayNo, k ≠ q → t.quay[k] = v.quay[k]) ∧ t.base = s.base ∧ P t
    let same (v t : State) : Prop := t.quay[q] = v.quay[q] ∧ t.flt = v.flt
    let noted (v t : State) : Prop := t.quay[q] = v.quay[q] ∧
      ∃ e, t.flt = { v.flt with transit := v.flt.transit ++ [e] } ∧ e.src = srcCmdRefused ∧ e.quays = [q] ∧ e.time = s.now
    let refused (advice : U16) : Result := { status := 0x10, advice := advice, data := [] }
    (Passes s 0x20 p m r msg →
      let v := (s.rung 0x20 p m r).flagsFirst q
      let x := v.quay[q]
      let fit : Prop := x.core.st = .off ∧ x.core.armOp = none ∧ v.bollardHeld q = false ∧ ∀ l ∈ v.legsOf q, v.legAvailable l = true
      let fed : Prop := ∀ d ∈ v.diesOf q, (devVmUv v d.val : Rat) ≤ v.supply.vm[d] ∧ v.supply.vgdLow[d] = false
      let c : Instr := .arm p m r
      (fit → fed → does c v (acceptedWith []) fun t =>
        t.quay[q].core = { x.core with armOp := some (msg.op false), armAt := v.now } ∧ t.quay[q].inputLate = 0 ∧ t.quay[q].cmdLate = 0 ∧
        (∀ n : LaneNo, t.lane[n].tx = v.lane[n].tx ++
          if v.lane[n].st = .attached ∧ v.armEntries (v.phaseLegs q) n ≠ [] then [.arm (v.armEntries (v.phaseLegs q) n)] else [])) ∧
      (fit → ¬ fed → does c v (acceptedWith []) fun t => t.quay[q].core = { x.core with armOp := none, armAt := v.now }) ∧
      (x.core.st = .off → x.core.armOp ≠ none → does c v { status := 0x15, advice := 0, data := [] } (same v)) ∧
      (x.core.st = .off → x.core.armOp = none → v.bollardHeld q = true → does c v (refused 0x0005) (noted v)) ∧
      (x.core.st = .off → x.core.armOp = none → v.bollardHeld q = false → (∃ l ∈ v.legsOf q, v.legAvailable l = false) →
        does c v (refused 0x0006) (noted v)) ∧
      (x.core.st = .armed → does c v doneR (same v)) ∧ (x.core.st ≠ .off → x.core.st ≠ .armed → does c v (refused 0) (noted v))) ∧
    (Passes s 0x21 p m r msg →
      let v := (s.rung 0x21 p m r).flagsFirst q
      let st := v.quay[q].core.st
      let c : Instr := .disarm p m r
      (st = .armed → does c v doneR fun t => t.quay[q].core.st = .off ∧ t.quay[q].react = none ∧ t.quay[q].openRec = none) ∧
      (st = .off → does c v doneR (same v)) ∧ (st ≠ .off → st ≠ .armed → does c v (refused 0) (noted v))) ∧
    (Passes s 0x22 p m r msg →
      let v := (s.rung 0x22 p m r).flagsFirst q
      let st := v.quay[q].core.st
      let md := startMode (msg.payload.getD 0 0).toNat
      let ref : U16 := BitVec.ofNat 16 (field msg.payload 2 2)
      let refs (t : State) : Prop := t.quay[q].core.mode = md ∧ (md = .torque → t.quay[q].c0.torque = ref) ∧
        (md = .speed → t.quay[q].c0.speed = ref ∧ t.quay[q].c0.ff = 0) ∧ (md = .tension → t.quay[q].c0.tension = ref)
      let c : Instr := .start p m r
      let toRun : Prop := st = .armed ∧ v.turning q = false ∨ st = .hold
      (v.modeAllowed q md = false → does c v { status := 0x11, advice := 0x0007, data := [] } (same v)) ∧
      (v.modeAllowed q md = true →
        (toRun → does c v (doneWith [3, 0, 0, 0]) fun t => t.quay[q].core.st = .running ∧ refs t) ∧
        (st = .armed ∧ v.turning q = true → does c v (acceptedWith [2, 0, 0, 0]) fun t =>
          t.quay[q].core.st = .catching ∧ t.quay[q].core.startOp = some (msg.op false) ∧ refs t) ∧
        (st = .running → v.quay[q].core.mode = md → does c v (doneWith [3, 0, 0, 0]) (same v)) ∧
        (st = .running → v.quay[q].core.mode ≠ md → v.quay[q].core.mode = .position ∨ md = .position → does c v (refused 0x0008) (noted v)) ∧
        (st = .running → v.quay[q].core.mode ≠ md → v.quay[q].core.mode ≠ .position → md ≠ .position → does c v (doneWith [3, 0, 0, 0]) fun t =>
          t.quay[q].core = { v.quay[q].core with mode := md } ∧ refs t) ∧
        (st = .off ∨ st = .catching ∨ st = .stopping ∨ st = .homing ∨ st = .faulted ∨ st = .safe → does c v (refused 0) (noted v)))) ∧
    (∀ k : StopKind, k ≠ .none → Passes s (if k = .quick then 0x24 else 0x23) p m r msg →
      let v := (s.rung (if k = .quick then 0x24 else 0x23) p m r).flagsFirst q
      let x := v.quay[q].core
      does (if k = .quick then .quickstop p m r else .stop p m r) v doneR fun t =>
        (x.st = .armed ∨ x.st = .catching → t.quay[q].core.st = .off) ∧
        (x.st = .running ∨ x.st = .hold ∨ x.st = .homing → t.quay[q].core.st = .stopping ∧
          t.quay[q].core.stop = (if x.st = .hold ∧ x.stop = .quick then .quick else k)) ∧
        (x.st = .stopping → t.quay[q].core = (if k = .quick ∧ x.stop ≠ .quick then { x with stop := .quick, release := false } else x)) ∧
        (x.st = .off ∨ x.st = .faulted ∨ x.st = .safe → same v t)) ∧
    (Passes s 0x25 p m r msg →
      let v := (s.rung 0x25 p m r).flagsFirst q
      let st := v.quay[q].core.st
      let c : Instr := .hold p m r
      (v.noFeedback q = true → does c v { status := 0x11, advice := 0x0007, data := [] } (same v)) ∧
      (v.noFeedback q = false →
        (st = .armed ∧ v.turning q = false ∨ st = .running → does c v doneR fun t =>
          t.quay[q].core.st = .hold ∧ t.quay[q].core.stop = (if st = .running then .ramp else .none)) ∧
        (st = .armed ∧ v.turning q = true → does c v (refused 0x0004) (noted v)) ∧ (st = .hold → does c v doneR (same v)) ∧
        (st ≠ .armed → st ≠ .running → st ≠ .hold → does c v (refused 0) (noted v)))))

/-- STOP, QUICKSTOP and ACK_FAULT to the device, and ACK_FAULT to a quay (R276, R284, R285, R301, R302, R892, R928, R934 to R936): each quay with a
kernel stops on its own, other quays stay; an acknowledged quay leaves FAULTED or SAFE for OFF, its records are acknowledged and its first-fault
register is empty; from FAULTED or SAFE, while the device safe state is in force or a cause or a ramp blocks it, nothing of it changes and the
status is CAUSE_PRESENT; a quay in another state is acknowledged also then. Records that only the device acknowledges are acknowledged by ACK_FAULT to it once their cause is gone; the device safe state
ends with its last record; then each quay with a kernel is acknowledged on its own. -/
def Obligations.StopsAndAcks : Prop :=
  (
  ∀ (p : Side) (m : MbxNo) (r : Req) (msg : Msg) (s : State), s.hm.grant = some p →
    (targetOf msg.target = some .device → ∀ k : StopKind, k ≠ .none → Passes s (if k = .quick then 0x24 else 0x23) p m r msg →
      let v := forAll s.kernelQuays (s.rung (if k = .quick then 0x24 else 0x23) p m r) State.flagsFirst
      ∃ t, exec (if k = .quick then .quickstop p m r else .stop p m r) s = .next t ∧ Answered t msg doneR false ∧ t.base = s.base ∧
        (∀ q : QuayNo, q ∉ s.kernelQuays → t.quay[q] = s.quay[q]) ∧ ∀ q ∈ s.kernelQuays,
        let x := v.quay[q].core
        (x.st = .armed ∨ x.st = .catching → t.quay[q].core.st = .off) ∧
        (x.st = .running ∨ x.st = .hold ∨ x.st = .homing → t.quay[q].core.st = .stopping ∧
          t.quay[q].core.stop = (if x.st = .hold ∧ x.stop = .quick then .quick else k)) ∧
        (x.st = .stopping → t.quay[q].core = (if k = .quick ∧ x.stop ≠ .quick then { x with stop := .quick, release := false } else x)) ∧
        (x.st = .off ∨ x.st = .faulted ∨ x.st = .safe → t.quay[q].core = x)) ∧
    (∀ q : QuayNo, targetOf msg.target = some (.quay q) → Passes s 0x2D p m r msg →
      let v := (s.rung 0x2D p m r).flagsFirst q
      let out : Bool := v.quay[q].core.st == .faulted || v.quay[q].core.st == .safe
      (v.ackBlocked q = false → ∃ t, exec (.ackFault p m r) s = .next t ∧
        Answered t msg { status := 0, advice := 0, data := [0, 0] } false ∧
        (out = true → t.quay[q].core.st = .off ∧ t.quay[q].react = none ∧ t.quay[q].openRec = none) ∧
        (out = false → t.quay[q] = { v.quay[q] with first := none }) ∧ (∀ k : QuayNo, k ≠ q → t.quay[k] = v.quay[k]) ∧
        t.quay[q].first = none ∧ t.flt.log = v.flt.log.map (fun x => x.ackQuay q v.now)) ∧
      (v.ackBlocked q = true → ∃ t, exec (.ackFault p m r) s = .next t ∧
        Answered t msg { status := 0x18, advice := 0, data := leBytes 2 (2 ^ q.val) } false ∧
        t.quay = v.quay ∧ t.flt = v.flt)) ∧
    (targetOf msg.target = some .device → Passes s 0x2D p m r msg →
      let v := forAll s.kernelQuays (s.rung 0x2D p m r) State.flagsFirst
      ∃ t ok mask, exec (.ackFault p m r) s = .next t ∧ Answered t msg (ackResult ok mask) false ∧
        (∀ x ∈ v.flt.log, x.unacked = true → x.deviceOnly = true → v.causePresent x = false → { x with acked := true, ackedAt := v.now } ∈ t.flt.log) ∧
        (∀ x ∈ v.flt.log, x.unacked = true → x.deviceOnly = true → v.causePresent x = true → x ∈ t.flt.log ∧ ok = false) ∧
        t.flt.devSafe = (v.flt.devSafe && t.flt.log.any (fun x => x.unacked && x.severity == 4)) ∧
        (∀ q ∈ s.kernelQuays, v.quay[q].core.st = .faulted ∨ v.quay[q].core.st = .safe →
          (v.quay[q].rampReact = true ∨ t.flt.devSafe = true → t.quay[q] = v.quay[q] ∧ ok = false) ∧
          (v.quay[q].rampReact = false → t.flt.devSafe = false → (∀ x ∈ v.flt.log, x.unacked = true → q ∈ x.quays →
            v.quay[q].openRec = some x.no ∨ x.merged = true → v.causePresent x = false) →
            t.quay[q].core.st = .off ∧ t.quay[q].react = none ∧ t.quay[q].first = none)) ∧
        (ok = true → t.flt.devFirst = none ∧ ∀ x ∈ t.flt.log, x.unacked = false)))

/-- MOVE, MOVE_GROUP, JOG and HOME through the port of the half in charge, in every axis state (R281, R286, R287, R300, R307, R590, R593, R597, R599,
R600, R620, R654 to R657): from HOLD, or RUNNING in position mode with no motion in progress, a motion to the target (relative ones from the profile
position) is accepted and the quay is in RUNNING in position mode; a group motion is given to all its axes, or to none with the refusal of the first
refused axis; JOG runs at the speed given, a jog in progress takes the new speed; HOME from ARMED enters HOMING with a method that the quay has.
Elsewhere the command is refused with the status and advice given here, and the quays stay as they are. -/
def Obligations.MotionCommands : Prop :=
  (
  ∀ (p : Side) (m : MbxNo) (r : Req) (msg : Msg) (s : State), s.hm.grant = some p →
    let stays (c : Instr) (v : State) (status : Byte) (advice : U16) : Prop := ∃ t, exec c s = .next t ∧
      Answered t msg { status := status, advice := advice, data := [] } false ∧ t.quay = v.quay ∧ t.groups = v.groups ∧ t.base = s.base
    (∀ q : QuayNo, targetOf msg.target = some (.quay q) → Passes s 0x26 p m r msg →
      let v := (s.rung 0x26 p m r).flagsFirst q
      let c := v.quay[q].core
      let rel : Bool := msg.payload.getD 8 0 == 1
      let by_ : Int := sfield msg.payload 0 8
      let goal : Int := by_ + if rel = true then v.profilePos q else 0
      let homed : Prop := rel = true ∨ quayRequireHomed v q ≠ 1 ∨ c.homed = true
      let free : Prop := c.st = .hold ∨ (c.st = .running ∧ c.mode = .position ∧ c.inMotion = false)
      let busy : Prop := c.inMotion = true ∧ ∃ o, c.motionOp = some o ∧ o.opcode = 0x26
      (free → ¬ busy → homed → inS64 goal = true → ∃ t, exec (.move p m r) s = .next t ∧ Answered t msg (acceptedWith []) false ∧
        t.quay[q].core.st = .running ∧ t.quay[q].core.mode = .position ∧ t.quay[q].core.motionOp = some (msg.op false) ∧
        t.quay[q].core.motion = some { target := goal, rel := if rel = true then some by_ else none, jog := none, group := false, halted := false
                                       started := false, turn := false } ∧
        (∀ k : QuayNo, k ≠ q → t.quay[k] = v.quay[k]) ∧ t.base = s.base) ∧
      (free → ¬ busy → homed → inS64 goal = false → stays (.move p m r) v 0x11 0) ∧
      (free → ¬ busy → ¬ homed → stays (.move p m r) v 0x10 0x000B) ∧ (busy → stays (.move p m r) v 0x15 0) ∧
      (¬ busy → c.st ≠ .running → c.st ≠ .hold → stays (.move p m r) v 0x10 0) ∧
      (¬ busy → c.st = .running → c.mode ≠ .position → stays (.move p m r) v 0x10 0x0008) ∧
      (¬ busy → c.st = .running → c.mode = .position → c.inMotion = true → stays (.move p m r) v 0x10 0x0002)) ∧
    (targetOf msg.target = some .device → Passes s 0x27 p m r msg →
      let axes := groupAxes msg.payload
      let v := forAll (((axes.filterMap id).map (·.1)).filter s.hasKernel) (s.rung 0x27 p m r) State.flagsFirst
      let rel : Bool := msg.payload.getD 1 0 == 1
      (∀ xs : List (QuayNo × Int), axes = xs.map some → (xs.map (·.1)).Nodup →
        (∀ e ∈ xs, s.hasKernel e.1 = true ∧ v.judgeMove e.1 0x27 (!rel) = none ∧ inS64 (v.groupTarget rel e) = true) →
        ∃ t g, exec (.moveGroup p m r) s = .next t ∧ Answered t msg (acceptedWith []) false ∧ t.groups = v.groups ++ [g] ∧ g.op = msg.op false ∧
        g.ended = none ∧ g.relative = rel ∧ g.points = [] ∧ g.lims = [] ∧ g.t0 = v.now + xs.foldl (fun x e => max x (v.loopPeriod e.1)) 0 ∧
        g.axes = xs.map (fun e => (e.1, v.profilePos e.1, v.groupTarget rel e - v.profilePos e.1)) ∧
        (∀ k : QuayNo, k ∉ xs.map (·.1) → t.quay[k] = v.quay[k]) ∧
        ∀ e ∈ xs, t.quay[e.1].core.st = .running ∧ t.quay[e.1].core.mode = .position ∧ t.quay[e.1].core.motionOp = some (msg.op false) ∧
          ∃ x, t.quay[e.1].core.motion = some x ∧ x.target = v.groupTarget rel e ∧ x.jog = none ∧ x.group = true ∧ x.halted = false) ∧
      (∀ pre e post res, axes = pre ++ e :: post → v.judgeAxis rel pre e = some res →
        (∀ a x b, pre = a ++ x :: b → v.judgeAxis rel a x = none) →
        ∃ t, exec (.moveGroup p m r) s = .next t ∧ Answered t msg res false ∧ t.groups = v.groups ∧ t.quay = v.quay)) ∧
    (∀ q : QuayNo, targetOf msg.target = some (.quay q) → Passes s 0x28 p m r msg →
      let v := (s.rung 0x28 p m r).flagsFirst q
      let c := v.quay[q].core
      let w : Rat := q14 (BitVec.ofNat 16 (field msg.payload 0 2))
      (c.st = .hold ∨ (c.st = .running ∧ c.mode = .position ∧ (c.inMotion = false ∨ c.inJog = true)) → ∃ t x, exec (.jog p m r) s = .next t ∧
        Answered t msg doneR false ∧ t.quay[q].core.st = .running ∧ t.quay[q].core.mode = .position ∧ t.quay[q].core.motion = some x ∧
        x.jog = some w ∧ (∀ k : QuayNo, k ≠ q → t.quay[k] = v.quay[k]) ∧ t.base = s.base) ∧
      (c.st ≠ .running → c.st ≠ .hold → stays (.jog p m r) v 0x10 0) ∧
      (c.st = .running → c.mode ≠ .position → stays (.jog p m r) v 0x10 0x0008) ∧
      (c.st = .running → c.mode = .position → c.inMotion = true → c.inJog = false → stays (.jog p m r) v 0x10 0x0002)) ∧
    (∀ q : QuayNo, targetOf msg.target = some (.quay q) → Passes s 0x29 p m r msg →
      let v := (s.rung 0x29 p m r).flagsFirst q
      let c := v.quay[q].core
      let has : Prop := v.methodAllowed q (msg.payload.getD 0 0).toNat = true
      (c.st = .armed → quayHomingEnable v q = 1 → has →
        ∃ t x, exec (.home p m r) s = .next t ∧ Answered t msg (acceptedWith []) false ∧ t.quay[q].core.st = .homing ∧
        t.quay[q].core.homeOp = some (msg.op false) ∧ t.quay[q].core.homing = some x ∧ x.method = (msg.payload.getD 0 0).toNat ∧
        x.homePos = sfield msg.payload 4 8 ∧ x.phase = 0 ∧ x.travel = 0 ∧ (∀ k : QuayNo, k ≠ q → t.quay[k] = v.quay[k]) ∧ t.base = s.base) ∧
      (¬ has → stays (.home p m r) v 0x11 0x0007) ∧ (has → c.st = .homing → c.homeOp ≠ none → stays (.home p m r) v 0x15 0) ∧
      (has → c.st = .homing → c.homeOp = none → stays (.home p m r) v 0 0) ∧
      (has → c.st = .armed → quayHomingEnable v q ≠ 1 → stays (.home p m r) v 0x10 0x0003) ∧
      (has → c.st ≠ .armed → c.st ≠ .homing → stays (.home p m r) v 0x10 0)))

/-- PARAM_READ, PARAM_STAGE, STAGE_CLEAR, PARAM_INFO and COMMIT (R26, R36, R183 to R186, R276, R312 to R317, R320, R961): a read gives each value, zero
and a bit of the undefined mask for an address without one, RANGE where one names an unassigned block kind; staged entries wait in the area of their
port, at most 256; a commit that fails a check changes no parameter and no claim and raises CONFIG_REFUSED (an entry of the protection set: SEALED,
SEAL_WRITE too); one that passes applies all entries, refreshes the tables of the running halves and counts in COMMIT_COUNT, and a quay it concerns
with an admitted shadow keeps the old configuration until the acknowledgement; both empty the area. SET_SPEED, SET_ACCEL and SET_TORQUE_LIMIT (R288):
each is a commit of its own of the quay's limits. The class-0 flags of the quays concerned are applied before. -/
def Obligations.ConfigurationCommands : Prop :=
  (
  ∀ (p : Side) (m : MbxNo) (r : Req) (msg : Msg) (s : State),
    let strange (a : Nat) : Prop := a / 0x100000 = 0xB ∨ a / 0x100000 = 0xD ∨ a / 0x100000 = 0xE ∨ a / 0x100000 = 0xF
    let ranged (c : Instr) : Prop := ∃ t, exec c s = .next t ∧ Answered t msg { status := 0x11, advice := 0, data := [] } false ∧ t = { s with port := t.port }
    (Passes s 0x40 p m r msg → let as := (List.range (msg.payload.getD 0 0).toNat).map (fun i => field msg.payload (4 + 4 * i) 4)
      ((∃ a ∈ as, strange a) → ranged (.paramRead p m r)) ∧
      ((∀ a ∈ as, ¬ strange a) → ∃ t n, exec (.paramRead p m r) s = .next t ∧ t = { s with port := t.port } ∧
        Answered t msg (doneWith ([msg.payload.getD 0 0, 0, 0, 0] ++
          as.flatMap (fun a => leBytes 4 ((s.rung 0x40 p m r).readParam a |>.getD 0).toNat) ++ leBytes 8 n)) false ∧
        ∀ i (h : i < as.length), n.testBit i = ((s.rung 0x40 p m r).readParam as[i]).isNone)) ∧
    (Passes s 0x41 p m r msg → let area := (s.port.get p).staging ++ stageEntries msg.payload
      (area.length ≤ 256 → ∃ t, exec (.paramStage p m r) s = .next t ∧ Answered t msg (doneWith (leBytes 2 area.length)) false ∧
        (t.port.get p).staging = area ∧ t = { s with port := t.port }) ∧
      (256 < area.length → ∃ t, exec (.paramStage p m r) s = .next t ∧ Answered t msg { status := 0x11, advice := 0xA, data := [] } false ∧
        (t.port.get p).staging = (s.port.get p).staging ∧ t = { s with port := t.port })) ∧
    (Passes s 0x43 p m r msg → ∃ t, exec (.stageClear p m r) s = .next t ∧ Answered t msg doneR false ∧ (t.port.get p).staging = [] ∧ t = { s with port := t.port }) ∧
    (Passes s 0x44 p m r msg → (strange (field msg.payload 0 4) → ranged (.paramInfo p m r)) ∧
      (¬ strange (field msg.payload 0 4) → ∃ t, exec (.paramInfo p m r) s = .next t ∧
        Answered t msg (doneWith ((s.rung 0x44 p m r).descriptor (field msg.payload 0 4))) false ∧ t = { s with port := t.port })) ∧
    (Passes s 0x42 p m r msg → s.hm.grant = some p → let es := (s.port.get p).staging
      let v0 := (s.rung 0x42 p m r).modPort p (fun x => { x with staging := [] })
      let v := forAll (v0.namedQuays msg es) v0 State.flagsFirst
      (∀ cs, v.judgeCommit es = .inr cs → ∃ t, exec (.commit p m r) s = .next t ∧ Answered t msg { status := 0, advice := 0, data := [0xFF, 0xFF] } false ∧
        t.params = (s.withEntries es).params ∧ t.claims = cs ∧ t.boot.commitCount = s.boot.commitCount + 1 ∧ (t.port.get p).staging = [] ∧
        (∀ h, (s.half.get h).run = true → (t.half.get h).tables = t.params.filter (fun e => decide (0xC00000 ≤ e.1))) ∧
        (∀ q ∈ s.kernelQuays, s.hm.admission[q] = true → (∃ e ∈ es, ofQuay q e.1.toNat = true) →
          t.quay[q].oldCfg = some (v.quay[q].oldCfg.getD v.working)) ∧ t.prot = s.prot ∧ t.fuse = s.fuse ∧ t.flash = s.flash) ∧
      (∀ st adv i, v.judgeCommit es = .inl (st, adv, i) → ∃ t, exec (.commit p m r) s = .next t ∧ Answered t msg { status := st, advice := adv, data := leBytes 2 i } false ∧
        t.params = s.params ∧ t.claims = s.claims ∧ t.boot = s.boot ∧ (t.port.get p).staging = [] ∧ (∃ e ∈ t.flt.transit, e.src = srcConfigRefused) ∧
        (st = 0x13 → ∃ e ∈ t.flt.transit, e.src = srcSealWrite) ∧ t = { v with port := t.port, flt := t.flt }) ∧
      (∀ e ∈ es, sealedAddr e.1.toNat = true → ∃ adv i, v.judgeCommit es = .inl (0x13, adv, i)))) ∧
  (
  ∀ (p : Side) (m : MbxNo) (r : Req) (msg : Msg) (q : QuayNo) (s : State), targetOf msg.target = some (.quay q) → s.hm.grant = some p →
    let a (i : Nat) : Word := BitVec.ofNat 32 (quayAddr q i)
    let short (i : Nat) : Word := (BitVec.ofNat 16 (field msg.payload i 2)).signExtend 32
    ∀ (op : Byte) (c : Instr) (es : List (Word × Word)),
      (op = 0x2A ∧ c = .setSpeed p m r ∧ es = [(a 0x40, word32 msg.payload 0)]) ∨
      (op = 0x2B ∧ c = .setAccel p m r ∧ es = [(a 0x41, word32 msg.payload 0), (a 0x42, word32 msg.payload 4)]) ∨
      (op = 0x2C ∧ c = .setTorqueLimit p m r ∧ es = [(a 0x43, short 0), (a 0x44, short 2)]) → Passes s op p m r msg →
      let v := (s.rung op p m r).flagsFirst q
      (∀ cs, v.judgeCommit es = .inr cs → ∃ t, exec c s = .next t ∧ Answered t msg doneR false ∧ t.params = (s.withEntries es).params ∧ t.claims = cs ∧
        t.boot.commitCount = s.boot.commitCount + 1 ∧ t.prot = s.prot ∧ t.fuse = s.fuse ∧ t.flash = s.flash) ∧
      (∀ st adv i, v.judgeCommit es = .inl (st, adv, i) → ∃ t, exec c s = .next t ∧ Answered t msg { status := st, advice := adv, data := [] } false ∧
        t.params = s.params ∧ t.claims = s.claims ∧ t.boot = s.boot ∧ (∃ e ∈ t.flt.transit, e.src = srcConfigRefused) ∧
        t = { v with port := t.port, flt := t.flt }))

/-- TRACE_CONFIG, TRACE_ARM, TRACE_STOP and TRACE_READ (R26, R72, R281, R321 to R327): a region that is not armed takes its descriptor, its claim and,
with a period, an event slot, or nothing at all, with OWNERSHIP, where one of them is not free; a signal of no kind gives RANGE, an armed region BUSY.
Arming empties a configured region and waits for its trigger, with a slot claimed anew where it needs one; an armed one stays. Stopping ends the
capture, releases the slot and tells the bytes captured; a read gives them from an offset on, RANGE from an invalid capture. Other regions stay as
they are. -/
def Obligations.TraceCommands : Prop :=
  (
  ∀ (p : Side) (m : MbxNo) (r : Req) (msg : Msg) (s : State),
    let k := regionOf msg.payload
    let stays (c : Instr) (st : Byte) : Prop := ∃ t, exec c s = .next t ∧ Answered t msg { status := st, advice := 0, data := [] } false ∧
      t = { s with port := t.port }
    (Passes s 0x48 p m r msg → s.hm.grant = some p → let d := traceDesc msg.payload
      let others := s.claims.filter (fun c => !c.ofRegion k)
      let claims := others ++ [{ cls := 0x13, index := k.val, by_ := .trace k }]
      let known : Prop := ∀ w ∈ d.signals, signalOk w = true
      (¬ known → stays (.traceConfig p m r) 0x11) ∧ (known → s.trace[k].armed = true → stays (.traceConfig p m r) 0x15) ∧
      (known → s.trace[k].armed = false → s.claimable others (.trace k) 0x13 k.val = false → stays (.traceConfig p m r) 0x12) ∧
      (known → s.trace[k].armed = false → s.claimable others (.trace k) 0x13 k.val = true →
      (d.period = 0 → ∃ t, exec (.traceConfig p m r) s = .next t ∧ Answered t msg doneR false ∧ t.claims = claims ∧ t.trace = s.trace.set k { desc := some d } ∧
        t = { s with port := t.port, claims := t.claims, trace := t.trace, tb := { s.tb with slots := t.tb.slots } }) ∧
      (∀ i, d.period ≠ 0 → s.freeSlot claims k = some i → ∃ t f, exec (.traceConfig p m r) s = .next t ∧ Answered t msg doneR false ∧
        t.claims = claims ++ [{ cls := 0x10, index := i.val, by_ := .trace k }] ∧ t.trace = s.trace.set k { desc := some d, slot := some i } ∧
        { slot := i, period := d.period, phase := f, next := none } ∈ t.tb.slots ∧ f < d.period ∧
        t = { s with port := t.port, claims := t.claims, trace := t.trace, tb := { s.tb with slots := t.tb.slots }, free := t.free }) ∧
      (d.period ≠ 0 → s.freeSlot claims k = none → stays (.traceConfig p m r) 0x12))) ∧
    (Passes s 0x49 p m r msg → s.hm.grant = some p →
      (s.trace[k].desc = none → stays (.traceArm p m r) 0x11) ∧
      ∀ d, s.trace[k].desc = some d →
      let armed (t : State) : Prop := t.trace[k].armed = true ∧ t.trace[k].stopped = false ∧ t.trace[k].recs = [] ∧ t.trace[k].desc = some d ∧
        (t.trace[k].triggered = true ↔ d.trigKind = 0) ∧ ∀ j : Fin 16, j ≠ k → t.trace[j] = s.trace[j]
      (s.trace[k].armed = true → stays (.traceArm p m r) 0) ∧
      (s.trace[k].armed = false → d.period = 0 ∨ s.trace[k].slot ≠ none →
        ∃ t, exec (.traceArm p m r) s = .next t ∧ Answered t msg doneR false ∧ armed t ∧ t = { s with port := t.port, trace := t.trace }) ∧
      (s.trace[k].armed = false → d.period ≠ 0 → s.trace[k].slot = none →
        (∀ i, s.freeSlot s.claims k = some i → ∃ t, exec (.traceArm p m r) s = .next t ∧ Answered t msg doneR false ∧ armed t ∧ t.trace[k].slot = some i ∧
          t.claims = s.claims ++ [{ cls := 0x10, index := i.val, by_ := .trace k }] ∧
          t = { s with port := t.port, claims := t.claims, trace := t.trace, tb := { s.tb with slots := t.tb.slots }, free := t.free }) ∧
        (s.freeSlot s.claims k = none → stays (.traceArm p m r) 0x12))) ∧
    (Passes s 0x4A p m r msg → s.hm.grant = some p → ∃ t, exec (.traceStop p m r) s = .next t ∧ Answered t msg (doneWith (leBytes 4 s.trace[k].data.length)) false ∧
      t.trace = s.trace.set k { s.trace[k] with armed := false, stopped := true, slot := none } ∧
      (∀ c, c ∈ t.claims ↔ c ∈ s.claims ∧ (c.by_ = .trace k → c.cls ≠ 0x10)) ∧
      (∀ e, e ∈ t.tb.slots ↔ e ∈ s.tb.slots ∧ s.trace[k].slot ≠ some e.slot) ∧
      t = { s with port := t.port, trace := t.trace, claims := t.claims, tb := { s.tb with slots := t.tb.slots } }) ∧
    (Passes s 0x60 p m r msg →
      (s.trace[k].invalid = true → stays (.traceRead p m r) 0x11) ∧
      (s.trace[k].invalid = false → ∃ t, exec (.traceRead p m r) s = .next t ∧
      Answered t msg (doneWith (leBytes 4 (field msg.payload 4 4) ++ (s.trace[k].data.drop (field msg.payload 4 4)).take (field msg.payload 8 2))) false ∧
      t = { s with port := t.port })))

/-- DETACH, ATTACH and FLASH_WRITE (R304 to R306, R859 to R861): a lane whose quays are in OFF is DETACHED, an ATTACHED one after BYE, its legs no longer
armed, and ATTACH commands in progress on it are refused; otherwise the command is refused with the advice of R304. A lane that is detached or down
starts a bring-up, a quarantined one identifies its partner anew, one in bring-up goes on, and the command ends with it; on an ATTACHED one it is DONE.
Bytes written to the slot the device did not boot from read back where the flash was erased, and all outside them (and the sectors erased) stay; the
slot booted from is refused, a range beyond the slot is RANGE. -/
def Obligations.LaneAndFlashCommands : Prop :=
  (
  ∀ (p : Side) (m : MbxNo) (r : Req) (msg : Msg) (s : State), s.hm.grant = some p →
    (∀ n : LaneNo, targetOf msg.target = some (.lane n) → Passes s 0x2E p m r msg →
      (s.lane[n].st = .detached → ∃ t, exec (.detach p m r) s = .next t ∧ Answered t msg doneR false ∧ t = { s with port := t.port }) ∧
      (s.lane[n].st ≠ .detached → (∀ q ∈ s.laneQuays n, s.quay[q].core.st = .off) → ∃ t, exec (.detach p m r) s = .next t ∧ Answered t msg doneR false ∧
        t.lane = s.lane.set n { s.lane[n] with st := .detached, rxOk := false, rxSeq := none, timeOk := false, attachOps := []
                                               tx := if s.lane[n].st = .attached then s.lane[n].tx ++ [.bye] else s.lane[n].tx } ∧
        (t.port.get p).evqHead = ((s.eventAll s.lane[n].attachOps 0x10 0 0).port.get p).evqHead ∧
        (∀ l : LegNo, t.leg[l] = { s.leg[l] with armed := s.leg[l].armed && !(s.legsOnLane n).contains l }) ∧
        t = { s with lane := t.lane, leg := t.leg, port := t.port }) ∧
      (s.lane[n].st ≠ .detached → (∃ q ∈ s.laneQuays n, s.quay[q].core.st ≠ .off) → ∃ t, exec (.detach p m r) s = .next t ∧
        Answered t msg { status := 0x10, advice := 0xC, data := [] } false ∧ (∃ e ∈ t.flt.transit, e.src = srcCmdRefused) ∧
        t = { s with port := t.port, flt := t.flt })) ∧
    (∀ n : LaneNo, targetOf msg.target = some (.lane n) → Passes s 0x2F p m r msg →
      let ops := s.lane[n].attachOps ++ [msg.op false]
      let accepts (x : Lane) : Prop := ∃ t, exec (.attach p m r) s = .next t ∧ Answered t msg (acceptedWith []) false ∧ t.lane = s.lane.set n x ∧
        t = { s with lane := t.lane, port := t.port }
      (s.lane[n].st = .detached ∨ s.lane[n].st = .down → accepts { s.lane[n] with st := .down, detectAt := s.now, attachOps := ops }) ∧
      (s.lane[n].st = .quarantined → accepts { s.lane[n] with
        st := .identifying, detectAt := s.now, identReqs := 1, identReqAt := s.now, tx := s.lane[n].tx ++ [.identReq], attachOps := ops }) ∧
      (s.lane[n].st = .training ∨ s.lane[n].st = .aligning ∨ s.lane[n].st = .identifying → accepts { s.lane[n] with attachOps := ops }) ∧
      (s.lane[n].st = .attached → ∃ t, exec (.attach p m r) s = .next t ∧ Answered t msg doneR false ∧ t = { s with port := t.port })) ∧
    (targetOf msg.target = some .device → Passes s 0x61 p m r msg → cellsWf erased s.flash = true →
      let slot : Bool := msg.payload.getD 0 0 == 1
      let off := field msg.payload 4 4
      let data := msg.payload.drop 8
      let x := slotBase slot + off
      let booted : Prop := s.boot.src = (if slot = true then 1 else 0)
      (¬ booted → off + data.length ≤ 0x1000000 → ∃ t, exec (.flashWrite p m r) s = .next t ∧ Answered t msg doneR false ∧
        (∀ i (h : i < data.length), msg.payload.getD 1 0 = 1 ∨ readCell erased s.flash (x + i) = erased → readCell erased t.flash (x + i) = data[i]) ∧
        (∀ a, a < x ∨ x + data.length ≤ a → readCell erased t.flash a = (if msg.payload.getD 1 0 = 1 ∧ x / 4096 * 4096 ≤ a ∧ a < (x + data.length - 1) / 4096 * 4096 + 4096
          then erased else readCell erased s.flash a)) ∧ t = { s with flash := t.flash, port := t.port }) ∧
      (¬ booted → 0x1000000 < off + data.length → ∃ t, exec (.flashWrite p m r) s = .next t ∧
        Answered t msg { status := 0x11, advice := 0, data := [] } false ∧ t = { s with port := t.port }) ∧
      (booted → ∃ t, exec (.flashWrite p m r) s = .next t ∧ Answered t msg { status := 0x10, advice := 0xD, data := [] } false ∧
        t = { s with port := t.port, flt := t.flt })))

/-! ### Class 0 and registers -/

/-- R144: before step 10, at which the set is sealed, a class-0 message writes no buffer and no reply, changes neither C0_ACCEPTED nor C0_REFUSED, and is
counted in BOOT_C0_DROP, a 16-bit counter that stops at 65,535: it changes nothing else at all. SET_TORQUE, SET_SPEED, SET_TENSION, SET_SPEED_TORQUE,
QUICKSTOP, STOP and QUICK_RELEASE of class 0 (R219, R242 to R254, R278), from step 10 on: the checks are CRC, PORT_DISABLED, class and length, target,
acceptance table; a message that passes writes the setpoint buffer or the request flag of each quay whose table accepts it, is answered DONE with
the low word of device time, and counted in C0_ACCEPTED; a refused one writes no setpoint buffer, is answered its status with time zero, and counted
in C0_REFUSED, one with STATE_REFUSED is noted as CMD_REFUSED. No doorbell and no BUSY bit take part; nothing else changes, and nothing at all while
no port is served. -/
def Obligations.ClassZero : Prop :=
  (
  ∀ (c : Instr) (op : Byte) (p : Side) (mb : Fin 4) (msg : C0Msg) (s : State), c0Command c = some (op, p, mb, msg) →
    (s.portsDead = true → exec c s = .next s) ∧ (s.portsDead = false → s.boot.sealed = false →
    exec c s = .next { s with boot := { s.boot with c0Drop := if s.boot.c0Drop = 0xFFFF#16 then 0xFFFF#16 else s.boot.c0Drop + 1 } })) ∧
  (
  ∀ (c : Instr) (op : Byte) (p : Side) (mb : Fin 4) (msg : C0Msg) (s : State), c0Command c = some (op, p, mb, msg) → s.portsDead = false → s.boot.sealed = true →
    let n : MbxNo := mb.castLE (by decide)
    let bytes (st : Byte) : List Byte :=
      let body := [replyByte0 0 false false, op] ++ leBytes 2 msg.seq.toNat ++ leBytes 2 msg.target.toNat ++ [6, 0] ++ [st, 0] ++ leBytes 4 (if st = 0 then s.now else 0)
      body ++ leBytes 2 (crc16 body).toNat
    let scope : Byte := match targetOf msg.target with
      | some (.quay q) => BitVec.ofNat 8 q.val
      | _ => 0xFF
    let answered (t : State) (st : Byte) : Prop :=
      (t.port.get p).mbx[n].req = writeCells 0 (s.port.get p).mbx[n].req 0 (c0Bytes op msg) ∧
      (t.port.get p).mbx[n].rep = writeCells 0 (s.port.get p).mbx[n].rep 0 (bytes st) ∧ (t.port.get p).done = (s.port.get p).done ||| mbxBit n ∧
      (t.port.get p).busy = (s.port.get p).busy ∧ (t.port.get p).c0Accepted = (if st = 0 then (s.port.get p).c0Accepted + 1 else (s.port.get p).c0Accepted) ∧
      (t.port.get p).c0Refused = (if st = 0 then (s.port.get p).c0Refused else satInc (s.port.get p).c0Refused) ∧ t.port.get p.other = s.port.get p.other
    let refused (st : Byte) : Prop := ∃ t, exec c s = .next t ∧ answered t st ∧ t = { s with port := t.port, flt := t.flt } ∧
      (st ≠ 0x10 → t.flt = s.flt) ∧ (st = 0x10 → Raised s t srcCmdRefused scope)
    let right : Prop := msg.crc = crc16 ((c0Bytes op msg).take 14)
    let formed : Prop := msg.byte0.extractLsb' 6 2 = 0 ∧ msg.length = 6
    (¬ right → refused 0x16) ∧
    (right → hostC0Enable s p = 0 → refused 0x1A) ∧
    (right → hostC0Enable s p ≠ 0 → ¬ formed → refused 0x11) ∧
    (right → hostC0Enable s p ≠ 0 → formed → s.c0Targets op msg.target = none → refused 0x11) ∧
    (∀ qs, right → hostC0Enable s p ≠ 0 → formed → s.c0Targets op msg.target = some qs →
      ((∃ q ∈ qs, s.quay[q].c0.judge op = .refuse) → refused 0x10) ∧
      ((∀ q ∈ qs, s.quay[q].c0.judge op ≠ .refuse) → ∃ t, exec c s = .next t ∧ answered t 0 ∧ t = { s with port := t.port, quay := t.quay } ∧
        ∀ q : QuayNo, t.quay[q] = if q ∈ qs ∧ s.quay[q].c0.judge op = .accept then { s.quay[q] with c0 :=
          match c with
          | .setTorque .. => { s.quay[q].c0 with torque := msg.valA }
          | .c0SetSpeed .. => { s.quay[q].c0 with speed := msg.valA, ff := 0 }
          | .setTension .. => { s.quay[q].c0 with tension := msg.valA }
          | .setSpeedTorque .. => { s.quay[q].c0 with speed := msg.valA, ff := msg.valB }
          | .c0Quickstop .. => { s.quay[q].c0 with quick := true }
          | .c0Stop .. => { s.quay[q].c0 with stop := true }
          | .quickRelease .. => { s.quay[q].c0 with release := true }
          | _ => s.quay[q].c0 } else s.quay[q])))

/-- C0_FRAME, DEVTIME_LO_READ, CAP_TIME_LO_READ, EVQ_TAIL_WRITE and ERR_PIN_HOLD_WRITE (R92, R96, R204, R239, R241, R929): a class-0 buffer written
in another way sets SPI_ERR.C0_FRAME and is counted in C0_REFUSED; a low-word read latches the high word for its port; EVQ_TAIL moves up to EVQ_HEAD
and not past it; ERR_HOLD follows the write. Nothing else changes, and nothing at all while no port is served. -/
def Obligations.SingleRegisters : Prop :=
  (
  (∀ (p : Side) (mb : Fin 4) (k : Fin 32) (v : BitVec 4) (b : Bool) (s : State), s.portsDead = true →
    exec (.c0Frame p mb) s = .next s ∧ exec (.devtimeLoRead p) s = .next s ∧ exec (.capTimeLoRead p k) s = .next s ∧
    exec (.evqTailWrite p v) s = .next s ∧ exec (.errPinHoldWrite p b) s = .next s) ∧
  ∀ (p : Side) (s : State), s.portsDead = false →
    (∀ mb : Fin 4, exec (.c0Frame p mb) s = .next { s with port := s.port.set p { s.port.get p with
      spiErr := (s.port.get p).spiErr ||| 4, c0Refused := satInc (s.port.get p).c0Refused } }) ∧
    exec (.devtimeLoRead p) s = .next { s with tb := { s.tb with devHi := s.tb.devHi.set p (BitVec.ofNat 32 (s.tb.now / 4294967296)) } } ∧
    (∀ k : Fin 32, exec (.capTimeLoRead p k) s = .next { s with tb := { s.tb with
      capHi := s.tb.capHi.set p ((s.tb.capHi.get p).set k (BitVec.ofNat 32 (s.tb.cap[k].time / 4294967296))) } }) ∧
    (∀ v : BitVec 4, (v - (s.port.get p).evqTail ≤ (s.port.get p).evqHead - (s.port.get p).evqTail →
        exec (.evqTailWrite p v) s = .next { s with port := s.port.set p { s.port.get p with evqTail := v } }) ∧
      (¬ v - (s.port.get p).evqTail ≤ (s.port.get p).evqHead - (s.port.get p).evqTail → exec (.evqTailWrite p v) s = .next s)) ∧
    (∀ b : Bool, exec (.errPinHoldWrite p b) s = .next { s with flt := { s.flt with errHold := b } }))

/-- REGISTER_WRITE (R12, R146, R200 to R206, R209, R225, R239, R241): with a write instruction, a whole word written to a register of a port takes effect
as its bits say (MBX_DONE, HOST_IRQ_STATUS, SPI_ERR, RESET_CAUSE, HALT_DISC and the capture flags clear by writing 1; doorbells ring; the download
registers are those of the selected port); an incomplete word changes nothing but SPI_ERR.PARTIAL, an aborted one ABORT too; a word of an offset that
no register has, or of a read-only one, changes nothing; a class-0 request buffer takes a message of 16 bytes, and any other write to it sets
SPI_ERR.C0_FRAME and is counted in C0_REFUSED. A read instruction latches DEVTIME_HI and CAP_TIME_HI of the words whose first byte it reads, for
its port, and changes nothing else (R92, R96). With another instruction, and while no port is served, nothing changes. -/
def Obligations.RegisterWrites : Prop :=
  (
  (∀ (p : Side) (i : Byte) (a : BitVec 16) (data : List Byte) (cut : Bool) (s : State),
    s.portsDead = true ∨ (i ∉ [0x00, 0x10, 0x20] ∧ i ∉ [0x80, 0x90, 0xA0]) → exec (.registerWrite p ⟨i, a⟩ data cut) s = .next s) ∧
  (∀ (p : Side) (i : Byte) (a : BitVec 16) (data : List Byte) (cut : Bool) (s : State), s.portsDead = false → i ∈ [0x80, 0x90, 0xA0] →
    let reads (x : Nat) : Prop := ∃ n, n < data.length ∧ (a.toNat + n) % 65536 = x
    ∃ t, exec (.registerWrite p ⟨i, a⟩ data cut) s = .next t ∧ t = { s with tb := { s.tb with devHi := t.tb.devHi, capHi := t.tb.capHi } } ∧
      t.tb.devHi.get p.other = s.tb.devHi.get p.other ∧ t.tb.capHi.get p.other = s.tb.capHi.get p.other ∧
      (reads 0xA000 → t.tb.devHi.get p = BitVec.ofNat 32 (s.now / 4294967296)) ∧ (¬ reads 0xA000 → t.tb.devHi = s.tb.devHi) ∧
      ∀ k : Fin 32, (reads (0xA100 + 16 * k.val) → (t.tb.capHi.get p)[k] = BitVec.ofNat 32 (s.tb.cap[k].time / 4294967296)) ∧
        (¬ reads (0xA100 + 16 * k.val) → (t.tb.capHi.get p)[k] = (s.tb.capHi.get p)[k])) ∧
  ∀ (p : Side) (i : Byte) (v : Word) (s : State), s.portsDead = false → i = 0x00 ∨ i = 0x10 ∨ i = 0x20 →
    let word : List Byte := leBytes 4 v.toNat
    let x := s.port.get p
    let gives (a : BitVec 16) (t : State) : Prop := exec (.registerWrite p ⟨i, a⟩ word false) s = .next t
    let port (y : Port) : State := { s with port := s.port.set p y }
    gives 0x0400 (s.doorbell p v) ∧
    gives 0x0404 (port { x with done := x.done &&& ~~~ v }) ∧
    gives 0x040C (port { x with irqEn := v }) ∧
    gives 0x0414 (port { x with hostIrqEn := v.setWidth 7 }) ∧
    gives 0x0410 (port { x with
      irqFault := x.irqFault && !v.getLsbD 2, irqRole := x.irqRole && !v.getLsbD 3, irqLost := x.irqLost && !v.getLsbD 4
      irqBack := x.irqBack && !v.getLsbD 5, irqBound := x.irqBound && !v.getLsbD 6 }) ∧
    gives 0x0418 (port { x with mbx3Sel := v.setWidth 3 }) ∧
    gives 0x041C (port { x with spiErr := x.spiErr &&& ~~~ v.setWidth 6 }) ∧
    gives 0x0424 (if v.setWidth 4 - x.evqTail ≤ x.evqHead - x.evqTail then port { x with evqTail := v.setWidth 4 } else s) ∧
    gives 0x0124 (if s.dlSelected p = true then port { x with dlOffset := v } else s) ∧
    gives 0x0120 (if s.dlSelected p = true then (if v.getLsbD 16 = true then (port { x with dlLen := v.setWidth 13 }).takeChunk p (v.setWidth 13)
      else port { x with dlLen := v.setWidth 13 }) else s) ∧
    gives 0x0128 (if s.dlPort = some p then { s with dl := { s.dl with seqErr := s.dl.seqErr && !v.getLsbD 2 } } else s) ∧
    gives 0x0164 { s with supply := { s.supply with cause := s.supply.cause &&& ~~~ v.setWidth 5 } } ∧
    gives 0x0170 { s with pins := { s.pins with haltDisc := s.pins.haltDisc && !v.getLsbD 10 } } ∧
    gives 0x8000 { s with flt := { s.flt with errHold := v.getLsbD 0 } } ∧
    gives 0x8010 (port { x with logPage := v.getLsbD 0 }) ∧
    (∀ k : Fin 32, gives (BitVec.ofNat 16 (0xA10C + 16 * k.val)) { s with tb := { s.tb with cap := s.tb.cap.set k { s.tb.cap[k] with
      fresh := s.tb.cap[k].fresh && !v.getLsbD 0, overrun := s.tb.cap[k].overrun && !v.getLsbD 1 } } }) ∧
    (∀ a : BitVec 16, a.toNat % 4 = 0 → a.toNat < 0x1000 ∨ 0x8000 ≤ a.toNat →
      a.toNat ∉ [0x0120, 0x0124, 0x0128, 0x0164, 0x0170, 0x0400, 0x0404, 0x040C, 0x0410, 0x0414, 0x0418, 0x041C, 0x0424, 0x8000, 0x8010] →
      (∀ k : Fin 32, a.toNat ≠ 0xA10C + 16 * k.val) → gives a s) ∧
    (∀ (a : BitVec 16) (b : Byte), a.toNat < 0x1000 ∨ 0x8000 ≤ a.toNat →
      exec (.registerWrite p ⟨i, a⟩ [b] false) s = .next (port { x with spiErr := x.spiErr ||| 1 }) ∧
      exec (.registerWrite p ⟨i, a⟩ [] true) s = .next (port { x with spiErr := x.spiErr ||| 3 })) ∧
    (∀ (mb : Fin 4) (data : List Byte), data ≠ [] → let a : BitVec 16 := BitVec.ofNat 16 (0x2000 + 32 * mb.val)
      (data.length = 16 → exec (.registerWrite p ⟨i, a⟩ data false) s = .next (s.classZero p mb (data.getD 1 0) (c0Parse data))) ∧
      (data.length ≠ 16 → exec (.registerWrite p ⟨i, a⟩ data false) s = .next (port { x with
        spiErr := x.spiErr ||| 4, c0Refused := satInc x.c0Refused }))))
end

