-- ==== Sys2Proof/Laws/Base.lean ====
section
/-! SUPPORT. The shared operations that leave the part of the state that few commands change (`State.base`) as it is. -/

namespace Sys2Proof.Machine

@[simp] theorem State.modQuay_base (s : State) (q : QuayNo) (f : Quay → Quay) : (s.modQuay q f).base = s.base := (rfl)
@[simp] theorem State.modLeg_base (s : State) (l : LegNo) (f : Leg → Leg) : (s.modLeg l f).base = s.base := (rfl)
@[simp] theorem State.modBrk_base (s : State) (m : Fin 4) (f : Chopper → Chopper) : (s.modBrk m f).base = s.base := (rfl)
@[simp] theorem State.modCell_base (s : State) (k : CellNo) (f : Cell → Cell) : (s.modCell k f).base = s.base := (rfl)
@[simp] theorem State.modSd_base (s : State) (n : Fin 16) (f : SigmaDelta → SigmaDelta) : (s.modSd n f).base = s.base := (rfl)
@[simp] theorem State.modLane_base (s : State) (n : LaneNo) (f : Lane → Lane) : (s.modLane n f).base = s.base := (rfl)
@[simp] theorem State.modTrace_base (s : State) (r : Fin 16) (f : TraceRegion → TraceRegion) : (s.modTrace r f).base = s.base := (rfl)
@[simp] theorem State.modHalf_base (s : State) (h : Side) (f : Half → Half) : (s.modHalf h f).base = s.base := (rfl)
@[simp] theorem State.modPort_base (s : State) (p : Side) (f : Port → Port) : (s.modPort p f).base = s.base := (rfl)
@[simp] theorem State.modFlt_base (s : State) (f : Collector → Collector) : (s.modFlt f).base = s.base := (rfl)
@[simp] theorem State.modTb_base (s : State) (f : TimeBase → TimeBase) : (s.modTb f).base = s.base := (rfl)
@[simp] theorem State.modThm_base (s : State) (f : Thermal → Thermal) : (s.modThm f).base = s.base := (rfl)
@[simp] theorem State.modSupply_base (s : State) (f : Supply → Supply) : (s.modSupply f).base = s.base := (rfl)
@[simp] theorem State.modHm_base (s : State) (f : Harbour → Harbour) : (s.modHm f).base = s.base := (rfl)
@[simp] theorem State.modIh_base (s : State) (f : Channel → Channel) : (s.modIh f).base = s.base := (rfl)
@[simp] theorem State.modHw_base (s : State) (f : Hawser → Hawser) : (s.modHw f).base = s.base := (rfl)
@[simp] theorem State.modHwPort_base (s : State) (p : Side) (f : HwPort → HwPort) : (s.modHwPort p f).base = s.base := (rfl)
@[simp] theorem State.modPins_base (s : State) (f : Pins → Pins) : (s.modPins f).base = s.base := (rfl)
@[simp] theorem State.refreshHalf_base (s : State) (h : Side) : (s.refreshHalf h).base = s.base := (rfl)
@[simp] theorem State.drawn_base (s : State) : s.drawn.base = s.base := (rfl)
@[simp] theorem State.free_base (s : State) (n : Nat) : ({ s with free := n } : State).base = s.base := (rfl)
@[simp] theorem State.groups_base (s : State) (g : List GroupMove) : ({ s with groups := g } : State).base = s.base := (rfl)

/-- A change of the boot registers that leaves stage, seal, source and reset lines as they are. -/
@[simp] theorem State.modBoot_base (s : State) (f : Boot → Boot) (h₁ : (f s.boot).stage = s.boot.stage)
    (h₂ : (f s.boot).sealed = s.boot.sealed) (h₃ : (f s.boot).src = s.boot.src)
    (h₄ : (f s.boot).powerGood = s.boot.powerGood) (h₅ : (f s.boot).rstN = s.boot.rstN) : (s.modBoot f).base = s.base := by
  simp [State.base, State.modBoot, h₁, h₂, h₃, h₄, h₅]

/-- A fold of operations that leave the base as it is. -/
@[simp] theorem foldl_base {α : Type} (xs : List α) (s : State) (f : State → α → State) (h : ∀ t a, (f t a).base = t.base) :
    (xs.foldl f s).base = s.base := by
  induction xs generalizing s with
  | nil => rfl
  | cons x xs ih => simp [ih, h]

/-- The same for `forAll`. -/
@[simp] theorem forAll_base {α : Type} (xs : List α) (s : State) (f : State → α → State) (h : ∀ t a, (f t a).base = t.base) :
    (forAll xs s f).base = s.base := foldl_base xs s f h

@[simp] theorem State.raise_base (s : State) (e : FaultEvent) : (s.raise e).base = s.base := (rfl)
@[simp] theorem State.raiseQuay_base (s : State) (src : Nat) (q : QuayNo) (ctx : Ctx) : (s.raiseQuay src q ctx).base = s.base := (rfl)
@[simp] theorem State.raiseDevice_base (s : State) (src : Nat) (ctx : Ctx) : (s.raiseDevice src ctx).base = s.base := (rfl)
@[simp] theorem State.raiseHalf_base (s : State) (src : Nat) (h : Side) (ctx : Ctx) : (s.raiseHalf src h ctx).base = s.base := (rfl)
@[simp] theorem State.raiseDie_base (s : State) (src : Nat) (d : DieNo) (qs : List QuayNo) (ctx : Ctx) :
    (s.raiseDie src d qs ctx).base = s.base := (rfl)
@[simp] theorem State.raiseLane_base (s : State) (src : Nat) (n : LaneNo) (ctx : Ctx) : (s.raiseLane src n ctx).base = s.base := (rfl)
@[simp] theorem State.raiseChopper_base (s : State) (src : Nat) (c : ChopperRef) (ctx : Ctx) (ls : List LegNo) :
    (s.raiseChopper src c ctx ls).base = s.base := (rfl)

end Sys2Proof.Machine
end

