-- ==== Sys2Proof/Laws/BaseLegOps.lean ====
section
/-! SUPPORT. The operations of LegOps leave `State.base` as it is. -/

namespace Sys2Proof.Machine

set_option linter.unusedSimpArgs false

@[simp] theorem State.resume_base (s : State) (l : LegNo) :
    (State.resume s l).base = s.base := by
  unfold State.resume; try dsimp only
  (repeat' split) <;> simp only [State.modLeg_base, forAll_base, foldl_base, implies_true, State.free_base, State.groups_base, apply_ite State.base, ite_self]
@[simp] theorem State.orderLocal_base (old s : State) (l : LegNo) :
    (State.orderLocal old s l).base = s.base := by
  unfold State.orderLocal; try dsimp only
  (repeat' split) <;> simp only [State.modLeg_base, State.resume_base, forAll_base, foldl_base, implies_true, State.free_base, State.groups_base, apply_ite State.base, ite_self]
@[simp] theorem State.sendLane_base (s : State) (n : LaneNo) (f : GwFrame) :
    (State.sendLane s n f).base = s.base := (rfl)
@[simp] theorem State.stateFrame_base (old : State) (s : State) (n : LaneNo) :
    (State.stateFrame old s n).base = s.base := by
  simp only [State.stateFrame, State.sendLane_base, apply_ite State.base, ite_self]
@[simp] theorem State.syncLegs_base (old : State) (s : State) :
    (State.syncLegs old s).base = s.base := by
  simp only [State.syncLegs, State.orderLocal_base, State.stateFrame_base, forAll_base, implies_true]
@[simp] theorem State.reactLegs_base (s : State) (q : QuayNo) (code : Nat) (latch : Bool) (rec : Option Nat) :
    (State.reactLegs s q code latch rec).base = s.base := by
  unfold State.reactLegs; (repeat' split) <;> simp only [State.modLeg_base, forAll_base, implies_true, State.free_base, State.groups_base]
@[simp] theorem State.latchOff_base (s : State) (l : LegNo) :
    (State.latchOff s l).base = s.base := (rfl)
@[simp] theorem State.joinLatch_base (s : State) (ls : List LegNo) (rec : Nat) :
    (State.joinLatch s ls rec).base = s.base := by
  unfold State.joinLatch; (repeat' split) <;> simp only [State.modLeg_base, forAll_base, implies_true, State.free_base, State.groups_base]
@[simp] theorem State.endLatchWait_base (s : State) (ls : List LegNo) :
    (State.endLatchWait s ls).base = s.base := by
  simp only [State.endLatchWait, State.modLeg_base, forAll_base, forAll_base, foldl_base, implies_true, State.free_base, State.groups_base]
@[simp] theorem State.releaseLegs_base (s : State) (q : QuayNo) :
    (State.releaseLegs s q).base = s.base := by
  simp only [State.releaseLegs, State.modLeg_base, forAll_base, implies_true, State.free_base, State.groups_base]
@[simp] theorem State.sendMask_base (s : State) (ls : List LegNo) (mk : Byte → GwFrame) :
    (State.sendMask s ls mk).base = s.base := by
  simp only [State.sendMask, State.sendLane_base, forAll_base, implies_true, apply_ite State.base, ite_self]
@[simp] theorem State.sendArm_base (s : State) (ls : List LegNo) :
    (State.sendArm s ls).base = s.base := by
  simp only [State.sendArm, State.sendLane_base, forAll_base, implies_true, apply_ite State.base, ite_self]

@[simp] theorem State.cutSteps_base (s : State) (q : QuayNo) :
    (State.cutSteps s q).base = s.base := by
  simp only [State.cutSteps, State.modQuay_base, forAll_base, foldl_base, implies_true, State.free_base, State.groups_base]
end Sys2Proof.Machine
end

