-- ==== Sys2Proof/Laws/BaseAxisOps.lean ====
section
/-! SUPPORT. The operations of AxisOps leave `State.base` as it is. -/

namespace Sys2Proof.Machine

set_option linter.unusedSimpArgs false

@[simp] theorem State.event_base (s : State) (o : AcceptedOp) (status : Byte) (advice : U16) (result : Nat) :
    (State.event s o status advice result).base = s.base := (rfl)
@[simp] theorem State.eventOpt_base (s : State) (o : Option AcceptedOp) (status : Byte) (advice : U16) (result : Nat) :
    (State.eventOpt s o status advice result).base = s.base := by
  unfold State.eventOpt; (repeat' split) <;> simp only [State.event_base, State.free_base, State.groups_base]
@[simp] theorem State.eventAll_base (s : State) (os : List AcceptedOp) (status : Byte) (advice : U16) (result : Nat) :
    (State.eventAll s os status advice result).base = s.base := by
  simp only [State.eventAll, State.event_base, forAll_base, implies_true]
@[simp] theorem State.rewriteTable_base (s : State) (q : QuayNo) :
    (State.rewriteTable s q).base = s.base := by
  unfold State.rewriteTable; (repeat' split) <;> simp only [State.modQuay_base, State.free_base, State.groups_base]
@[simp] theorem State.zeroRefs_base (s : State) (q : QuayNo) :
    (State.zeroRefs s q).base = s.base := by
  unfold State.zeroRefs; (repeat' split) <;> simp only [State.modQuay_base, State.free_base, State.groups_base]
@[simp] theorem State.publish_base (s : State) (q : QuayNo) :
    (State.publish s q).base = s.base := by
  unfold State.publish; (repeat' split) <;> simp only [State.modIh_base, State.modQuay_base, State.free_base, State.groups_base]
@[simp] theorem State.modCore_base (s : State) (q : QuayNo) (f : AxisCore → AxisCore) :
    (State.modCore s q f).base = s.base := by
  simp only [State.modCore, State.modQuay_base, State.publish_base, State.free_base, State.groups_base]
@[simp] theorem State.abandon_base (s : State) (q : QuayNo) (arm : Bool) (start : Bool) :
    (State.abandon s q arm start).base = s.base := by
  unfold State.abandon; (repeat' split) <;> simp only [State.modQuay_base, State.eventOpt_base, State.free_base, State.groups_base]
@[simp] theorem State.leaveGroup_base (s : State) (q : QuayNo) :
    (State.leaveGroup s q).base = s.base := by
  unfold State.leaveGroup; try dsimp only
  (repeat' split) <;> simp only [State.groups_base, forAll_base, foldl_base, implies_true, State.free_base, State.groups_base, apply_ite State.base, ite_self]
@[simp] theorem State.afterEnter_base (s : State) (q : QuayNo) (st : AxisState) :
    (State.afterEnter s q st).base = s.base := by
  unfold State.afterEnter; try dsimp only
  (repeat' split) <;> simp only [State.cutSteps_base, State.modQuay_base, State.releaseLegs_base, State.rewriteTable_base, State.sendMask_base, State.zeroRefs_base, forAll_base, foldl_base, implies_true, State.free_base, State.groups_base, apply_ite State.base, ite_self]
@[simp] theorem State.enter_base (s : State) (q : QuayNo) (st : AxisState) (k : StopKind) :
    (State.enter s q st k).base = s.base := by
  unfold State.enter; (repeat' split) <;> simp only [State.modQuay_base, State.abandon_base, State.afterEnter_base, State.leaveGroup_base, State.publish_base, State.syncLegs_base, State.free_base, State.groups_base]
@[simp] theorem State.refreshChanges_base (s : State) (q : QuayNo) :
    (State.refreshChanges s q).base = s.base := by
  unfold State.refreshChanges; try dsimp only
  (repeat' split) <;> simp only [State.modIh_base, forAll_base, foldl_base, implies_true, State.free_base, State.groups_base, apply_ite State.base, ite_self]
@[simp] theorem State.leaveShare_base (s : State) (q : QuayNo) :
    (State.leaveShare s q).base = s.base := by
  unfold State.leaveShare; try dsimp only
  (repeat' split) <;> simp only [State.modQuay_base, forAll_base, foldl_base, implies_true, State.free_base, State.groups_base, apply_ite State.base, ite_self]
@[simp] theorem State.enterFault_base (s : State) (q : QuayNo) (st : AxisState) :
    (State.enterFault s q st).base = s.base := by
  simp only [State.enterFault, State.abandon_base, State.afterEnter_base, State.enter_base, State.leaveGroup_base, State.leaveShare_base, State.modQuay_base, State.refreshChanges_base, forAll_base, foldl_base, implies_true, State.free_base, State.groups_base]
@[simp] theorem State.blockLeg_base (s : State) (l : LegNo) :
    (State.blockLeg s l).base = s.base := by
  unfold State.blockLeg; try dsimp only
  (repeat' split) <;> simp only [State.modLeg_base, forAll_base, foldl_base, implies_true, State.free_base, State.groups_base, apply_ite State.base, ite_self]
@[simp] theorem State.blockPulses_base (s : State) (q : QuayNo) :
    (State.blockPulses s q).base = s.base := by
  simp only [State.blockPulses, State.blockLeg_base, State.cutSteps_base, State.modQuay_base, forAll_base, forAll_base, foldl_base, implies_true, State.free_base, State.groups_base]
@[simp] theorem State.dropGroup_base (s : State) (g : GroupMove) :
    (State.dropGroup s g).base = s.base := by
  unfold State.dropGroup; try dsimp only
  (repeat' split) <;> simp only [State.eventAll_base, State.groups_base, State.modQuay_base, forAll_base, forAll_base, foldl_base, implies_true, State.free_base, State.groups_base, apply_ite State.base, ite_self]
@[simp] theorem State.continueCopy_base (s : State) (q : QuayNo) :
    (State.continueCopy s q).base = s.base := by
  simp only [State.continueCopy, State.eventAll_base, State.modQuay_base, forAll_base, foldl_base, implies_true, State.free_base, State.groups_base]
@[simp] theorem State.cmdFrame_base (s : State) (q : QuayNo) (n : LaneNo) (t : Nat) :
    (State.cmdFrame s q n t).base = s.base := by
  unfold State.cmdFrame; try dsimp only
  (repeat' split) <;> simp only [State.sendLane_base, forAll_base, foldl_base, implies_true, State.free_base, State.groups_base, apply_ite State.base, ite_self]
@[simp] theorem State.promote_base (s : State) :
    (State.promote s).base = s.base := by
  simp only [State.promote, State.modLeg_base, State.cmdFrame_base, forAll_base, implies_true, State.free_base, State.groups_base, apply_ite State.base, ite_self]
@[simp] theorem State.grantTo_base (s : State) (h : Side) :
    (State.grantTo s h).base = s.base := by
  unfold State.grantTo; try dsimp only
  (repeat' split) <;> simp only [State.continueCopy_base, State.dropGroup_base, State.modHm_base, State.modIh_base, State.modPort_base, State.promote_base, State.rewriteTable_base, foldl_base, forAll_base, forAll_base, foldl_base, implies_true, State.free_base, State.groups_base, apply_ite State.base, ite_self]
@[simp] theorem State.grantNone_base (s : State) :
    (State.grantNone s).base = s.base := (rfl)
@[simp] theorem State.evalForce_base (s : State) :
    (State.evalForce s).base = s.base := by
  unfold State.evalForce; (repeat' split) <;> simp only [State.modHm_base, State.grantTo_base, State.free_base, State.groups_base]
@[simp] theorem State.resetHalf_base (s : State) (h : Side) (held : Bool) :
    (State.resetHalf s h held).base = s.base := by
  unfold State.resetHalf; try dsimp only
  (repeat' split) <;> simp only [State.evalForce_base, State.grantNone_base, State.grantTo_base, State.modHalf_base, State.modHm_base, State.modIh_base, State.modLeg_base, State.modPort_base, forAll_base, forAll_base, foldl_base, implies_true, State.free_base, State.groups_base, apply_ite State.base, ite_self]
end Sys2Proof.Machine
end

