-- ==== Sys2Proof/Laws/BaseCollector.lean ====
section
/-! SUPPORT. The operations of Collector leave `State.base` as it is. -/

namespace Sys2Proof.Machine

set_option linter.unusedSimpArgs false

@[simp] theorem State.traceFault_base (s : State) (level : Nat) :
    (State.traceFault s level).base = s.base := by
  unfold State.traceFault; refine forAll_base _ _ _ (fun t _ => ?_); (repeat' split) <;> simp only [State.modTrace_base, forAll_base, implies_true, State.free_base, State.groups_base]
@[simp] theorem State.pulse_base (s : State) (level : Nat) :
    (State.pulse s level).base = s.base := by
  unfold State.pulse; (repeat' split) <;> simp only [State.modFlt_base, State.free_base, State.groups_base]
@[simp] theorem State.faultIrq_base (s : State) (level : Nat) :
    (State.faultIrq s level).base = s.base := by
  simp only [State.faultIrq, State.modPort_base, State.free_base, State.groups_base, apply_ite State.base, ite_self]
@[simp] theorem State.enterFirst_base (s : State) (r : Record) :
    (State.enterFirst s r).base = s.base := by
  simp only [State.enterFirst, State.modFlt_base, State.modQuay_base, forAll_base, implies_true, State.free_base, State.groups_base, apply_ite State.base, ite_self]
@[simp] theorem State.writeRecord_base (s : State) (r : Record) :
    (State.writeRecord s r).base = s.base := by
  unfold State.writeRecord; (repeat' split) <;> simp only [State.modFlt_base, State.enterFirst_base, State.faultIrq_base, State.traceFault_base, State.free_base, State.groups_base]
@[simp] theorem State.countFault_base (s : State) (f : FaultEvent) :
    (State.countFault s f).base = s.base := by
  unfold State.countFault; try dsimp only
  (repeat' split) <;> simp only [State.modFlt_base, forAll_base, foldl_base, implies_true, State.free_base, State.groups_base, apply_ite State.base, ite_self]
@[simp] theorem State.noteSuspect_base (s : State) (f : FaultEvent) :
    (State.noteSuspect s f).base = s.base := by
  unfold State.noteSuspect; try dsimp only
  (repeat' split) <;> simp only [State.modFlt_base, forAll_base, foldl_base, implies_true, State.free_base, State.groups_base, apply_ite State.base, ite_self]
@[simp] theorem State.putReaction_base (s : State) (q : QuayNo) (code : Nat) (latch : Bool) (rec : Nat) (ran : Bool) :
    (State.putReaction s q code latch rec ran).base = s.base := by
  unfold State.putReaction; try dsimp only
  (repeat' split) <;> simp only [State.blockPulses_base, State.cutSteps_base, State.modQuay_base, State.reactLegs_base, forAll_base, foldl_base, implies_true, State.free_base, State.groups_base, apply_ite State.base, ite_self]
@[simp] theorem State.moveQuay_base (s : State) (q : QuayNo) (level : Nat) (rec : Nat) :
    (State.moveQuay s q level rec).base = s.base := by
  simp only [State.moveQuay, State.modQuay_base, State.enterFault_base, State.free_base, State.groups_base, apply_ite State.base, ite_self]
@[simp] theorem State.openConseq_base (s : State) (code : Nat) (quays : List QuayNo) (all : Bool) (rec : Nat) :
    (State.openConseq s code quays all rec).base = s.base := by
  simp only [State.openConseq, State.modFlt_base, forAll_base, foldl_base, implies_true, State.free_base, State.groups_base]
@[simp] theorem State.reactOn_base (s : State) (f : FaultEvent) (level rx : Nat) (latch : Bool) (quays : List QuayNo) (rec opens : Nat) (q : QuayNo) :
    (State.reactOn s f level rx latch quays rec opens q).base = s.base := by
  unfold State.reactOn; try dsimp only
  (repeat' split) <;> simp only [State.moveQuay_base, State.putReaction_base, forAll_base, foldl_base, implies_true, State.free_base, State.groups_base, apply_ite State.base, ite_self]
@[simp] theorem State.openWindows_base (s0 : State) (level rx : Nat) (applied : List (QuayNo × Nat)) (rec : Nat) :
    (State.openWindows s0 level rx applied rec).base = s0.base := by
  unfold State.openWindows; try dsimp only
  (repeat' split) <;> simp only [State.openConseq_base, forAll_base, foldl_base, implies_true, State.free_base, State.groups_base, apply_ite State.base, ite_self]
@[simp] theorem State.applyReaction_base (s : State) (f : FaultEvent) (level rx : Nat) (latch : Bool) (quays : List QuayNo) (rec opens : Nat) :
    (State.applyReaction s f level rx latch quays rec opens).base = s.base := by
  unfold State.applyReaction; try dsimp only
  (repeat' split) <;> simp only [State.modFlt_base, State.openConseq_base, State.openWindows_base, State.reactOn_base, State.resetHalf_base, forAll_base, forAll_base, foldl_base, implies_true, State.free_base, State.groups_base, apply_ite State.base, ite_self]
@[simp] theorem State.opposeAsc_base (s : State) (f : FaultEvent) (latch : Bool) (rec : Nat) (q : QuayNo) :
    (State.opposeAsc s f latch rec q).base = s.base := by
  unfold State.opposeAsc; try dsimp only
  (repeat' split) <;> simp only [State.putReaction_base, forAll_base, foldl_base, implies_true, State.free_base, State.groups_base, apply_ite State.base, ite_self]
@[simp] theorem State.merge_base (s : State) (f : FaultEvent) (level rx : Nat) (latch severe above : Bool) (quays : List QuayNo) (q : QuayNo) :
    (State.merge s f level rx latch severe above quays q).base = s.base := by
  unfold State.merge; try dsimp only
  (repeat' split) <;> simp only [State.applyReaction_base, State.joinLatch_base, State.modFlt_base, State.opposeAsc_base, State.writeRecord_base, forAll_base, foldl_base, implies_true, State.free_base, State.groups_base, apply_ite State.base, ite_self]
@[simp] theorem State.processFault_base (s : State) (x : Staged) :
    (State.processFault s x).base = s.base := by
  unfold State.processFault; try dsimp only
  (repeat' split) <;> simp only [State.applyReaction_base, State.countFault_base, State.endLatchWait_base, State.joinLatch_base, State.merge_base, State.opposeAsc_base, State.pulse_base, State.writeRecord_base, foldl_base, forAll_base, foldl_base, implies_true, State.free_base, State.groups_base, apply_ite State.base, ite_self]
end Sys2Proof.Machine
end

