-- ==== Sys2Proof/Laws/BaseHalves.lean ====
section
/-! SUPPORT. The operations of Halves leave `State.base` as it is. -/

namespace Sys2Proof.Machine

set_option linter.unusedSimpArgs false

@[simp] theorem State.post_base (s : State) (h : Side) (m : IhMsg) :
    (State.post s h m).base = s.base := (rfl)
@[simp] theorem State.popFrom_base (s : State) (h : Side) :
    (State.popFrom s h).base = s.base := (rfl)
@[simp] theorem State.ackFrom_base (s : State) (h : Side) :
    (State.ackFrom s h).base = s.base := (rfl)
@[simp] theorem State.loseAdmission_base (s : State) (g : Side) (q : QuayNo) :
    (State.loseAdmission s g q).base = s.base := by
  simp only [State.loseAdmission, State.modHm_base, State.modQuay_base, State.post_base, forAll_base, foldl_base, implies_true, State.free_base, State.groups_base]
end Sys2Proof.Machine
end

