-- ==== Sys2Proof/Laws/BaseLegEvents.lean ====
section
/-! SUPPORT. The operations of LegEvents leave `State.base` as it is. -/

namespace Sys2Proof.Machine

set_option linter.unusedSimpArgs false

@[simp] theorem State.compareLeg_base (s : State) (q : QuayNo) (l : LegNo) :
    (State.compareLeg s q l).base = s.base := by
  unfold State.compareLeg; try dsimp only
  (repeat' split) <;> simp only [State.modLeg_base, State.raiseQuay_base, forAll_base, foldl_base, implies_true, State.free_base, State.groups_base, apply_ite State.base, ite_self]
@[simp] theorem State.countMismatch_base (s : State) (h : Side) (q : QuayNo) :
    (State.countMismatch s h q).base = s.base := by
  simp only [State.countMismatch, State.modHalf_base, State.raiseHalf_base, State.free_base, State.groups_base, apply_ite State.base, ite_self]
@[simp] theorem State.sendCmd_base (s : State) (q : QuayNo) (l : LegNo) :
    (State.sendCmd s q l).base = s.base := by
  unfold State.sendCmd; (repeat' split) <;> simp only [State.cmdFrame_base, State.free_base, State.groups_base]
@[simp] theorem State.takeActive_base (s : State) (q : QuayNo) (l : LegNo) (c : LegCmd) :
    (State.takeActive s q l c).base = s.base := by
  unfold State.takeActive; try dsimp only
  (repeat' split) <;> simp only [State.modLeg_base, forAll_base, foldl_base, implies_true, State.free_base, State.groups_base, apply_ite State.base, ite_self]
@[simp] theorem State.repeatCommand_base (s : State) (q : QuayNo) (l : LegNo) :
    (State.repeatCommand s q l).base = s.base := by
  unfold State.repeatCommand; try dsimp only
  (repeat' split) <;> simp only [State.modLeg_base, forAll_base, foldl_base, implies_true, State.free_base, State.groups_base, apply_ite State.base, ite_self]
@[simp] theorem State.missCommand_base (s : State) (q : QuayNo) (l : LegNo) (second : Bool) :
    (State.missCommand s q l second).base = s.base := by
  unfold State.missCommand; try dsimp only
  (repeat' split) <;> simp only [State.modLeg_base, State.repeatCommand_base, forAll_base, foldl_base, implies_true, State.free_base, State.groups_base, apply_ite State.base, ite_self]
@[simp] theorem State.heldUpdate_base (s : State) (l : LegNo) (k : LegKind) :
    (State.heldUpdate s l k).base = s.base := by
  unfold State.heldUpdate; try dsimp only
  (repeat' split) <;> simp only [State.modLeg_base, forAll_base, foldl_base, implies_true, State.free_base, State.groups_base, apply_ite State.base, ite_self]
@[simp] theorem State.legUpdate_base (s : State) (q : QuayNo) (l : LegNo) :
    (State.legUpdate s q l).base = s.base := by
  unfold State.legUpdate; try dsimp only
  (repeat' split) <;> simp only [State.heldUpdate_base, State.missCommand_base, State.modLeg_base, State.repeatCommand_base, State.takeActive_base, forAll_base, foldl_base, implies_true, State.free_base, State.groups_base, apply_ite State.base, ite_self]
@[simp] theorem State.emitSteps_base (s : State) (q : QuayNo) :
    (State.emitSteps s q).base = s.base := by
  unfold State.emitSteps; try dsimp only
  (repeat' split) <;> simp only [State.cutSteps_base, State.modQuay_base, State.pulse_base, State.raiseQuay_base, forAll_base, foldl_base, implies_true, State.free_base, State.groups_base, apply_ite State.base, ite_self]
@[simp] theorem State.raiseLeg_base (s : State) (src : Nat) (l : LegNo) (suspect : Nat) (ctx : Ctx) (latched : List LegNo) :
    (State.raiseLeg s src l suspect ctx latched).base = s.base := by
  unfold State.raiseLeg; (repeat' split) <;> simp only [State.modLeg_base, State.raise_base, State.free_base, State.groups_base]
@[simp] theorem State.refreshPulse_base (s : State) (l : LegNo) :
    (State.refreshPulse s l).base = s.base := by
  unfold State.refreshPulse; try dsimp only
  (repeat' split) <;> simp only [State.modLeg_base, State.raiseQuay_base, forAll_base, foldl_base, implies_true, State.free_base, State.groups_base, apply_ite State.base, ite_self]
@[simp] theorem State.ascTrip_base (s : State) (q : QuayNo) (l : LegNo) (suspect : Nat) (current : Int) :
    (State.ascTrip s q l suspect current).base = s.base := by
  unfold State.ascTrip; try dsimp only
  (repeat' split) <;> simp only [State.modLeg_base, State.modQuay_base, State.raiseLeg_base, State.reactLegs_base, forAll_base, forAll_base, foldl_base, implies_true, State.free_base, State.groups_base, apply_ite State.base, ite_self]
@[simp] theorem State.shortCircuit_base (s : State) (l : LegNo) (suspect edge : Nat) (bits : Byte) (current : Int) :
    (State.shortCircuit s l suspect edge bits current).base = s.base := by
  unfold State.shortCircuit; try dsimp only
  (repeat' split) <;> simp only [State.ascTrip_base, State.latchOff_base, State.modLeg_base, State.raiseLeg_base, forAll_base, foldl_base, implies_true, State.free_base, State.groups_base, apply_ite State.base, ite_self]
@[simp] theorem State.chopFrame_base (s : State) (l : LegNo) :
    (State.chopFrame s l).base = s.base := by
  unfold State.chopFrame; (repeat' split) <;> simp only [State.sendLane_base, State.free_base, State.groups_base]
@[simp] theorem State.setChopper_base (s : State) (c : ChopperRef) (on : Bool) :
    (State.setChopper s c on).base = s.base := by
  unfold State.setChopper; (repeat' split) <;> simp only [State.modBrk_base, State.modLeg_base, State.chopFrame_base, State.free_base, State.groups_base]
@[simp] theorem State.raiseEnableLow_base (s : State) (qs : List QuayNo) :
    (State.raiseEnableLow s qs).base = s.base := by
  unfold State.raiseEnableLow; refine forAll_base _ _ _ (fun t _ => ?_); (repeat' split) <;> simp only [State.raiseQuay_base, forAll_base, implies_true]
@[simp] theorem State.unlatch_base (s : State) (l : LegNo) :
    (State.unlatch s l).base = s.base := by
  simp only [State.unlatch, State.modLeg_base, forAll_base, foldl_base, implies_true, State.free_base, State.groups_base]
end Sys2Proof.Machine
end

