-- ==== Sys2Proof/Laws/BaseLanes.lean ====
section
/-! SUPPORT. The operations of Lanes leave `State.base` as it is. -/

namespace Sys2Proof.Machine

set_option linter.unusedSimpArgs false

@[simp] theorem State.dropSets_base (s : State) (q : QuayNo) (js : List (Fin 4)) :
    (State.dropSets s q js).base = s.base := by
  simp only [State.dropSets, State.modQuay_base, State.raiseQuay_base, foldl_base, implies_true, State.free_base, State.groups_base]
@[simp] theorem State.takeEntry_base (s : State) (n : LaneNo) (l : LegNo) (e : StatusEntry) :
    (State.takeEntry s n l e).base = s.base := (rfl)
@[simp] theorem State.entryFlags_base (s : State) (l : LegNo) (old : Leg) (e : StatusEntry) :
    (State.entryFlags s l old e).base = s.base := by
  unfold State.entryFlags; (repeat' split) <;> simp only [State.raiseChopper_base, State.ascTrip_base, State.dropSets_base, State.latchOff_base, State.raiseLeg_base, State.free_base, State.groups_base, apply_ite State.base, ite_self] <;> (repeat' split) <;> simp only [State.raiseChopper_base, State.ascTrip_base, State.dropSets_base, State.latchOff_base, State.raiseLeg_base, State.free_base, State.groups_base]
@[simp] theorem State.statusEntry_base (s : State) (n : LaneNo) (e : StatusEntry) :
    (State.statusEntry s n e).base = s.base := by
  unfold State.statusEntry; (repeat' split) <;> simp only [State.entryFlags_base, State.takeEntry_base, State.free_base, State.groups_base]
@[simp] theorem State.inputArrived_base (s : State) (q : QuayNo) (i : InputId) (f : Snapshot → Snapshot) :
    (State.inputArrived s q i f).base = s.base := (rfl)
@[simp] theorem State.internalBlock_base (s : State) (n : LaneNo) (b : InternalBlock) :
    (State.internalBlock s n b).base = s.base := by
  unfold State.internalBlock; dsimp only
  rw [foldl_base _ _ _ (fun t e => by split <;> simp only [State.modLeg_base, State.modSupply_base, foldl_base, implies_true, State.free_base, State.groups_base]), State.modSupply_base]

end Sys2Proof.Machine
end

