-- ==== Sys2Proof/Laws/BaseThermal.lean ====
section
/-! SUPPORT. The operations of Thermal leave `State.base` as it is. -/

namespace Sys2Proof.Machine

set_option linter.unusedSimpArgs false

@[simp] theorem State.slotFired_base (s : State) (n : Fin 256) :
    (State.slotFired s n).base = s.base := (rfl)
@[simp] theorem State.marginWindow_base (s : State) (counts : Vector Nat 16) (temp : Vector (Option Int) 24) :
    (State.marginWindow s counts temp).base = s.base := by
  unfold State.marginWindow; try dsimp only
  (repeat' split) <;> simp only [State.modBoot_base, State.modPort_base, State.modThm_base, State.raiseDevice_base, forAll_base, foldl_base, implies_true, State.free_base, State.groups_base, apply_ite State.base, ite_self]
@[simp] theorem State.throttleEpisode_base (s : State) (i : Fin 3) (bits : Byte) (t : Option Int) :
    (State.throttleEpisode s i bits t).base = s.base := by
  unfold State.throttleEpisode; dsimp only; (repeat' split) <;> simp only [State.modThm_base, State.raise_base, State.raiseDie_base, State.free_base, State.groups_base, apply_ite State.base, ite_self]
@[simp] theorem State.dieShutdown_base (s : State) (d : DieNo) (t : Option Int) :
    (State.dieShutdown s d t).base = s.base := by
  simp only [State.dieShutdown, State.modThm_base, State.raiseDie_base, State.free_base, State.groups_base, apply_ite State.base, ite_self]
@[simp] theorem State.ctlShutdown_base (s : State) (t : Option Int) :
    (State.ctlShutdown s t).base = s.base := by
  simp only [State.ctlShutdown, State.modThm_base, State.raise_base, State.free_base, State.groups_base, apply_ite State.base, ite_self]
@[simp] theorem State.factorWindow_base (s : State) (t0 : Option Int) (t1 : Option Int) (tc : Option Int) :
    (State.factorWindow s t0 t1 tc).base = s.base := (rfl)
@[simp] theorem State.raiseSupply_base (s : State) (r : Rail) (side : LowHigh) (value : Int) :
    (State.raiseSupply s r side value).base = s.base := by
  unfold State.raiseSupply; try dsimp only
  (repeat' split) <;> simp only [State.raiseDevice_base, State.raiseDie_base, forAll_base, foldl_base, implies_true, State.free_base, State.groups_base, apply_ite State.base, ite_self]
end Sys2Proof.Machine
end

