-- ==== Sys2Proof/Laws/BaseCells.lean ====
section
/-! SUPPORT. The operations of Cells leave `State.base` as it is. -/

namespace Sys2Proof.Machine

set_option linter.unusedSimpArgs false

@[simp] theorem State.raiseCell_base (s : State) (src : Nat) (k : CellNo) (sub : Byte) :
    (State.raiseCell s src k sub).base = s.base := by
  unfold State.raiseCell; (repeat' split) <;> simp only [State.raiseQuay_base, State.free_base, State.groups_base]
@[simp] theorem State.clearHomed_base (s : State) (q : QuayNo) :
    (State.clearHomed s q).base = s.base := by
  unfold State.clearHomed; (repeat' split) <;> simp only [State.modCore_base, State.free_base, State.groups_base]
@[simp] theorem State.setUnsure_base (s : State) (k : CellNo) :
    (State.setUnsure s k).base = s.base := by
  unfold State.setUnsure; (repeat' split) <;> simp only [State.modCell_base, State.clearHomed_base, State.free_base, State.groups_base]
@[simp] theorem State.clearUnsure_base (s : State) (k : CellNo) :
    (State.clearUnsure s k).base = s.base := (rfl)
@[simp] theorem State.restartCell_base (s : State) (was : Nat) (k : CellNo) :
    (State.restartCell s was k).base = s.base := by
  unfold State.restartCell; try dsimp only
  (repeat' split) <;> simp only [State.clearHomed_base, State.modCell_base, forAll_base, foldl_base, implies_true, State.free_base, State.groups_base, apply_ite State.base, ite_self]
@[simp] theorem State.compareHit_base (s : State) (k : CellNo) (values : Nat) (t : Nat) :
    (State.compareHit s k values t).base = s.base := by
  unfold State.compareHit; try dsimp only
  (repeat' split) <;> simp only [State.modCell_base, forAll_base, foldl_base, implies_true, State.free_base, State.groups_base, apply_ite State.base, ite_self]
@[simp] theorem State.compareMove_base (s : State) (k : CellNo) (old : Int) (new : Int) (t0 : Nat) (t1 : Nat) :
    (State.compareMove s k old new t0 t1).base = s.base := by
  simp only [State.compareMove, State.compareHit_base, apply_ite State.base, ite_self]
@[simp] theorem State.probeStore_base (s : State) (q : QuayNo) (t : Nat) (falling : Bool) (pos : Int) (frac : Nat) :
    (State.probeStore s q t falling pos frac).base = s.base := by
  simp only [State.probeStore, State.modQuay_base, forAll_base, foldl_base, implies_true, State.free_base, State.groups_base]
@[simp] theorem State.probeStoreRat_base (s : State) (q : QuayNo) (t : Nat) (falling : Bool) (p : Rat) :
    (State.probeStoreRat s q t falling p).base = s.base := by
  simp only [State.probeStoreRat, State.probeStore_base, forAll_base, foldl_base, implies_true, State.free_base, State.groups_base]
@[simp] theorem State.probeResolve_base (s : State) (k : CellNo) :
    (State.probeResolve s k).base = s.base := by
  unfold State.probeResolve; try dsimp only
  (repeat' split) <;> simp only [State.free_base, State.modQuay_base, State.probeStoreRat_base, forAll_base, forAll_base, foldl_base, implies_true, State.free_base, State.groups_base, apply_ite State.base, ite_self]
@[simp] theorem State.probeSettle_base (s : State) (q : QuayNo) :
    (State.probeSettle s q).base = s.base := by
  unfold State.probeSettle; try dsimp only
  (repeat' split) <;> simp only [State.modQuay_base, State.probeStoreRat_base, forAll_base, forAll_base, foldl_base, implies_true, State.free_base, State.groups_base, apply_ite State.base, ite_self]
@[simp] theorem State.probeCell_base (s : State) (k : CellNo) :
    (State.probeCell s k).base = s.base := by
  unfold State.probeCell; try dsimp only
  (repeat' split) <;> simp only [State.probeSettle_base, forAll_base, foldl_base, implies_true, State.free_base, State.groups_base, apply_ite State.base, ite_self]
@[simp] theorem State.emulate_base (s : State) (k : CellNo) (e target : Int) (period : Nat) :
    (State.emulate s k e target period).base = s.base := by
  unfold State.emulate; try dsimp only
  (repeat' split) <;> simp only [State.modCell_base, State.raiseQuay_base, forAll_base, foldl_base, implies_true, State.free_base, State.groups_base, apply_ite State.base, ite_self]
@[simp] theorem State.emuHold_base (s : State) (k : CellNo) :
    (State.emuHold s k).base = s.base := (rfl)
@[simp] theorem State.emulateOwn_base (s : State) (k : CellNo) (stale : Bool) :
    (State.emulateOwn s k stale).base = s.base := by
  unfold State.emulateOwn; try dsimp only
  (repeat' split) <;> simp only [State.emuHold_base, State.emulate_base, forAll_base, foldl_base, implies_true, State.free_base, State.groups_base, apply_ite State.base, ite_self]
@[simp] theorem State.emulateAngle_base (s : State) (q : QuayNo) (stale : Bool) :
    (State.emulateAngle s q stale).base = s.base := by
  unfold State.emulateAngle; try dsimp only
  (repeat' split) <;> simp only [State.emuHold_base, State.emulate_base, forAll_base, forAll_base, foldl_base, implies_true, State.free_base, State.groups_base, apply_ite State.base, ite_self]
@[simp] theorem State.give_base (s : State) (k : CellNo) :
    (State.give s k).base = s.base := by
  unfold State.give; try dsimp only
  (repeat' split) <;> simp only [State.modCell_base, State.modQuay_base, forAll_base, foldl_base, implies_true, State.free_base, State.groups_base, apply_ite State.base, ite_self]
@[simp] theorem State.countStep_base (s : State) (k : CellNo) (dir : Int) :
    (State.countStep s k dir).base = s.base := by
  unfold State.countStep; try dsimp only
  (repeat' split) <;> simp only [State.compareMove_base, State.emulateOwn_base, State.free_base, State.give_base, State.modCell_base, State.probeCell_base, forAll_base, foldl_base, implies_true, State.free_base, State.groups_base, apply_ite State.base, ite_self]
@[simp] theorem State.illegal_base (s : State) (k : CellNo) :
    (State.illegal s k).base = s.base := by
  unfold State.illegal; try dsimp only
  (repeat' split) <;> simp only [State.give_base, State.modCell_base, State.raiseCell_base, State.setUnsure_base, forAll_base, foldl_base, implies_true, State.free_base, State.groups_base, apply_ite State.base, ite_self]
@[simp] theorem State.cellArrived_base (s : State) (k : CellNo) :
    (State.cellArrived s k).base = s.base := by
  unfold State.cellArrived; try dsimp only
  (repeat' split) <;> simp only [State.inputArrived_base, forAll_base, foldl_base, implies_true, State.free_base, State.groups_base, apply_ite State.base, ite_self]
@[simp] theorem State.deliverEdges_base (s : State) (k : CellNo) :
    (State.deliverEdges s k).base = s.base := by
  simp only [State.deliverEdges, State.drawn_base, State.emulateOwn_base, State.free_base, State.give_base, State.modCell_base, forAll_base, foldl_base, implies_true, State.free_base, State.groups_base]
@[simp] theorem State.startConversion_base (s : State) (k : CellNo) :
    (State.startConversion s k).base = s.base := by
  simp only [State.startConversion, State.modCell_base, forAll_base, foldl_base, implies_true, State.free_base, State.groups_base]
@[simp] theorem State.deliverPosition_base (s : State) (k : CellNo) (t : Nat) :
    (State.deliverPosition s k t).base = s.base := by
  simp only [State.deliverPosition, State.cellArrived_base, State.drawn_base, State.emulateOwn_base, State.free_base, State.give_base, State.modCell_base, forAll_base, foldl_base, implies_true, State.free_base, State.groups_base]
@[simp] theorem State.deliverStale_base (s : State) (k : CellNo) (t : Nat) :
    (State.deliverStale s k t).base = s.base := by
  simp only [State.deliverStale, State.cellArrived_base, State.emulateOwn_base, State.give_base, State.modCell_base, forAll_base, foldl_base, implies_true, State.free_base, State.groups_base]
@[simp] theorem State.amplitude_base (s : State) (k : CellNo) (sin cos : BitVec 16) :
    (State.amplitude s k sin cos).base = s.base := by
  unfold State.amplitude; try dsimp only
  (repeat' split) <;> simp only [State.modCell_base, State.raiseCell_base, forAll_base, foldl_base, implies_true, State.free_base, State.groups_base, apply_ite State.base, ite_self]
@[simp] theorem State.placeWindow_base (s : State) (n : Fin 16) :
    (State.placeWindow s n).base = s.base := by
  simp only [State.placeWindow, State.modSd_base, forAll_base, foldl_base, implies_true, State.free_base, State.groups_base]
end Sys2Proof.Machine
end

