-- ==== Sys2Proof/Laws/BaseSnapshots.lean ====
section
/-! SUPPORT. The operations of Snapshots leave `State.base` as it is. -/

namespace Sys2Proof.Machine

set_option linter.unusedSimpArgs false

@[simp] theorem State.capture_base (s : State) (r : Fin 16) :
    (State.capture s r).base = s.base := by
  unfold State.capture; try dsimp only
  (repeat' split) <;> simp only [State.modTrace_base, forAll_base, foldl_base, implies_true, State.free_base, State.groups_base, apply_ite State.base, ite_self]
@[simp] theorem State.captureAtSample_base (s : State) (q : QuayNo) :
    (State.captureAtSample s q).base = s.base := by
  unfold State.captureAtSample; refine forAll_base _ _ _ (fun t _ => ?_); (repeat' split) <;> simp only [State.drawn_base, State.capture_base, forAll_base, implies_true, State.free_base, State.groups_base]
@[simp] theorem State.takeSamples_base (s : State) (q : QuayNo) (legs : List LegSample) :
    (State.takeSamples s q legs).base = s.base := by
  unfold State.takeSamples; try dsimp only
  (repeat' split) <;> simp only [State.modLeg_base, State.modQuay_base, foldl_base, forAll_base, foldl_base, implies_true, State.free_base, State.groups_base, apply_ite State.base, ite_self]
@[simp] theorem State.takeVm_base (s : State) (q : QuayNo) (vm : BitVec 14) :
    (State.takeVm s q vm).base = s.base := by
  unfold State.takeVm; try dsimp only
  (repeat' split) <;> simp only [State.modQuay_base, State.modSupply_base, forAll_base, foldl_base, implies_true, State.free_base, State.groups_base, apply_ite State.base, ite_self]
@[simp] theorem State.sampleCells_base (s : State) (q : QuayNo) :
    (State.sampleCells s q).base = s.base := by
  unfold State.sampleCells; try dsimp only
  (repeat' split) <;> simp only [State.deliverEdges_base, State.startConversion_base, forAll_base, forAll_base, foldl_base, implies_true, State.free_base, State.groups_base, apply_ite State.base, ite_self]
@[simp] theorem State.sampleSd_base (s : State) (q : QuayNo) :
    (State.sampleSd s q).base = s.base := by
  simp only [State.sampleSd, State.placeWindow_base, forAll_base, forAll_base, foldl_base, implies_true, State.free_base, State.groups_base]
@[simp] theorem State.openSnapshot_base (s : State) (q : QuayNo) :
    (State.openSnapshot s q).base = s.base := by
  simp only [State.openSnapshot, State.modQuay_base, forAll_base, foldl_base, implies_true, State.free_base, State.groups_base]
@[simp] theorem State.abandonArm_base (s : State) (q : QuayNo) :
    (State.abandonArm s q).base = s.base := by
  simp only [State.abandonArm, State.eventOpt_base, State.modCore_base, State.free_base, State.groups_base]
@[simp] theorem State.averageOffsets_base (s : State) (q : QuayNo) :
    (State.averageOffsets s q).base = s.base := by
  unfold State.averageOffsets; try dsimp only
  (repeat' split) <;> simp only [State.abandonArm_base, State.modQuay_base, State.raiseQuay_base, foldl_base, forAll_base, foldl_base, implies_true, State.free_base, State.groups_base, apply_ite State.base, ite_self]
@[simp] theorem State.formSnapshot_base (s : State) (q : QuayNo) (stale : List InputId) :
    (State.formSnapshot s q stale).base = s.base := by
  simp only [State.formSnapshot, State.averageOffsets_base, State.modQuay_base, forAll_base, foldl_base, implies_true, State.free_base, State.groups_base]
@[simp] theorem State.startIteration_base (s : State) (q : QuayNo) :
    (State.startIteration s q).base = s.base := by
  unfold State.startIteration; try dsimp only
  (repeat' split) <;> simp only [State.modQuay_base, forAll_base, foldl_base, implies_true, State.free_base, State.groups_base, apply_ite State.base, ite_self]
@[simp] theorem State.closeSnapshot_base (s : State) (q : QuayNo) (stale : List InputId) :
    (State.closeSnapshot s q stale).base = s.base := by
  simp only [State.closeSnapshot, State.formSnapshot_base, State.startIteration_base, forAll_base, foldl_base, implies_true, State.free_base, State.groups_base]
@[simp] theorem State.staleCells_base (s : State) (t : Nat) (is : List InputId) :
    (State.staleCells s t is).base = s.base := by
  unfold State.staleCells; refine foldl_base _ _ _ (fun _ _ => ?_); try dsimp only
  (repeat' split) <;> simp only [State.emulateOwn_base, State.give_base, State.modCell_base, foldl_base, forAll_base, foldl_base, implies_true, State.free_base, State.groups_base, apply_ite State.base, ite_self]
end Sys2Proof.Machine
end

