-- ==== Sys2Proof/Laws/BaseProfile.lean ====
section
/-! SUPPORT. The operations of Profile leave `State.base` as it is. -/

namespace Sys2Proof.Machine

set_option linter.unusedSimpArgs false

@[simp] theorem State.modGen_base (s : State) (q : QuayNo) (f : ProfileGen → ProfileGen) :
    (State.modGen s q f).base = s.base := (rfl)
@[simp] theorem State.setGroup_base (s : State) (g : GroupMove) :
    (State.setGroup s g).base = s.base := by
  unfold State.setGroup; try dsimp only
  (repeat' split) <;> simp only [State.groups_base, forAll_base, foldl_base, implies_true, State.free_base, State.groups_base, apply_ite State.base, ite_self]
@[simp] theorem State.groupWait_base (s : State) (q : QuayNo) (g : GroupMove) :
    (State.groupWait s q g).base = s.base := by
  unfold State.groupWait; try dsimp only
  (repeat' split) <;> simp only [State.modGen_base, State.modQuay_base, State.setGroup_base, forAll_base, foldl_base, implies_true, State.free_base, State.groups_base, apply_ite State.base, ite_self]
@[simp] theorem State.groupStep_base (s : State) (q : QuayNo) (g : GroupMove) :
    (State.groupStep s q g).base = s.base := by
  unfold State.groupStep; try dsimp only
  (repeat' split) <;> simp only [State.groupWait_base, State.modGen_base, State.setGroup_base, forAll_base, foldl_base, implies_true, State.free_base, State.groups_base, apply_ite State.base, ite_self]
@[simp] theorem State.finishGroups_base (s : State) :
    (State.finishGroups s).base = s.base := by
  unfold State.finishGroups; dsimp only
  refine foldl_base _ _ _ (fun t g => ?_)
  rw [State.groups_base, foldl_base _ _ _ (fun u e => by split <;> simp only [State.event_base, State.modCore_base, foldl_base, implies_true, State.free_base, State.groups_base])]
  split <;> simp only [State.event_base, State.modCore_base, foldl_base, implies_true, State.free_base, State.groups_base]
@[simp] theorem State.startMotion_base (s : State) (q : QuayNo) (m : Motion) :
    (State.startMotion s q m).base = s.base := by
  unfold State.startMotion; try dsimp only
  (repeat' split) <;> simp only [State.eventOpt_base, State.modCore_base, State.modGen_base, forAll_base, foldl_base, implies_true, State.free_base, State.groups_base, apply_ite State.base, ite_self]
@[simp] theorem State.motionStep_base (s : State) (q : QuayNo) :
    (State.motionStep s q).base = s.base := by
  unfold State.motionStep; try dsimp only
  (repeat' split) <;> simp only [State.groupStep_base, State.modCore_base, State.modGen_base, State.startMotion_base, forAll_base, foldl_base, implies_true, State.free_base, State.groups_base, apply_ite State.base, ite_self]
@[simp] theorem State.genStop_base (s : State) (q : QuayNo) :
    (State.genStop s q).base = s.base := (rfl)
@[simp] theorem State.genZero_base (s : State) (q : QuayNo) :
    (State.genZero s q).base = s.base := (rfl)
@[simp] theorem State.settle_base (s : State) (q : QuayNo) :
    (State.settle s q).base = s.base := by
  unfold State.settle; dsimp only; split
  · rfl
  · rw [State.finishGroups_base]; (repeat' split) <;> simp only [State.eventOpt_base, State.finishGroups_base, State.modCore_base, State.free_base, State.groups_base]
@[simp] theorem State.trackArrival_base (s : State) (q : QuayNo) :
    (State.trackArrival s q).base = s.base := by
  unfold State.trackArrival; (repeat' split) <;> simp only [State.modQuay_base, State.free_base, State.groups_base]

end Sys2Proof.Machine
end

