-- ==== Sys2Proof/Laws/BaseTorque.lean ====
section
/-! SUPPORT. The operations of Torque leave `State.base` as it is. -/

namespace Sys2Proof.Machine

set_option linter.unusedSimpArgs false

@[simp] theorem State.modReg_base (s : State) (q : QuayNo) (f : Regs → Regs) :
    (State.modReg s q f).base = s.base := (rfl)

end Sys2Proof.Machine
end

