-- ==== Sys2Proof/Laws/BaseSharing.lean ====
section
/-! SUPPORT. The operations of Sharing leave `State.base` as it is. -/

namespace Sys2Proof.Machine

set_option linter.unusedSimpArgs false

@[simp] theorem State.hwSend_base (s : State) (p : Side) (f : HwFrame) :
    (State.hwSend s p f).base = s.base := (rfl)
@[simp] theorem State.originate_base (s : State) (src : Word) (ty : Nat) (mk : HwHeader → HwFrame) :
    (State.originate s src ty mk).base = s.base := by
  unfold State.originate; (repeat' split) <;> simp only [State.modHw_base, State.hwSend_base, forAll_base, implies_true, State.free_base, State.groups_base]
@[simp] theorem State.takeShare_base (s : State) (q : QuayNo) (src : Word) (v : HwShare) :
    (State.takeShare s q src v).base = s.base := by
  unfold State.takeShare; try dsimp only
  (repeat' split) <;> simp only [State.inputArrived_base, State.modQuay_base, forAll_base, foldl_base, implies_true, State.free_base, State.groups_base, apply_ite State.base, ite_self]
@[simp] theorem State.takeStat_base (s : State) (q : QuayNo) (src : Word) (st : HwShareStat) :
    (State.takeStat s q src st).base = s.base := (rfl)
@[simp] theorem State.sendShare_base (s : State) (q : QuayNo) :
    (State.sendShare s q).base = s.base := by
  simp only [State.sendShare, State.modQuay_base, State.originate_base, State.takeShare_base, forAll_base, forAll_base, foldl_base, implies_true, State.free_base, State.groups_base]
@[simp] theorem State.sendStat_base (s : State) (q : QuayNo) :
    (State.sendStat s q).base = s.base := by
  unfold State.sendStat; (repeat' split) <;> simp only [State.originate_base, State.takeStat_base, forAll_base, implies_true, State.free_base, State.groups_base]
@[simp] theorem State.enterStopping_base (s : State) (q : QuayNo) (k : StopKind) :
    (State.enterStopping s q k).base = s.base := by
  simp only [State.enterStopping, State.enter_base, State.leaveShare_base]
@[simp] theorem State.standAlone_base (s : State) (q : QuayNo) :
    (State.standAlone s q).base = s.base := by
  unfold State.standAlone; try dsimp only
  (repeat' split) <;> simp only [State.enterStopping_base, State.enter_base, State.leaveShare_base, State.modQuay_base, forAll_base, foldl_base, implies_true, State.free_base, State.groups_base, apply_ite State.base, ite_self]
@[simp] theorem State.goAlone_base (s : State) (q : QuayNo) :
    (State.goAlone s q).base = s.base := by
  unfold State.goAlone; try dsimp only
  (repeat' split) <;> simp only [State.modCore_base, State.modQuay_base, State.standAlone_base, forAll_base, foldl_base, implies_true, State.free_base, State.groups_base, apply_ite State.base, ite_self]
@[simp] theorem State.takeOver_base (s : State) (q : QuayNo) :
    (State.takeOver s q).base = s.base := by
  unfold State.takeOver; try dsimp only
  (repeat' split) <;> simp only [State.modGen_base, State.modQuay_base, State.modReg_base, forAll_base, foldl_base, implies_true, State.free_base, State.groups_base, apply_ite State.base, ite_self]
@[simp] theorem State.loseMaster_base (s : State) (q : QuayNo) :
    (State.loseMaster s q).base = s.base := by
  simp only [State.loseMaster, State.raiseQuay_base, State.goAlone_base]
@[simp] theorem State.dropShare_base (s : State) (q : QuayNo) :
    (State.dropShare s q).base = s.base := by
  simp only [State.dropShare, State.modQuay_base, forAll_base, foldl_base, implies_true, State.free_base, State.groups_base]
@[simp] theorem State.followStep_base (s0 : State) (q : QuayNo) :
    (State.followStep s0 q).base = s0.base := by
  unfold State.followStep; try dsimp only
  (repeat' split) <;> simp only [State.dropShare_base, State.enter_base, State.loseMaster_base, State.modQuay_base, forAll_base, foldl_base, implies_true, State.free_base, State.groups_base, apply_ite State.base, ite_self]
@[simp] theorem State.masterStep_base (s : State) (q : QuayNo) :
    (State.masterStep s q).base = s.base := by
  unfold State.masterStep; try dsimp only
  (repeat' split) <;> simp only [State.modQuay_base, State.raiseQuay_base, State.standAlone_base, foldl_base, forAll_base, foldl_base, implies_true, State.free_base, State.groups_base, apply_ite State.base, ite_self]
@[simp] theorem State.shareStep_base (s : State) (q : QuayNo) :
    (State.shareStep s q).base = s.base := by
  unfold State.shareStep; try dsimp only
  (repeat' split) <;> simp only [State.followStep_base, State.masterStep_base, State.takeOver_base, forAll_base, foldl_base, implies_true, State.free_base, State.groups_base, apply_ite State.base, ite_self]
@[simp] theorem State.shareSend_base (s : State) (q : QuayNo) :
    (State.shareSend s q).base = s.base := by
  unfold State.shareSend; (repeat' split) <;> simp only [State.sendShare_base, State.sendStat_base]

end Sys2Proof.Machine
end

