-- ==== Sys2Proof/Laws/BaseCatch.lean ====
section
/-! SUPPORT. The operations of Catch leave `State.base` as it is. -/

namespace Sys2Proof.Machine

set_option linter.unusedSimpArgs false

@[simp] theorem State.fallBack_base (s : State) (q : QuayNo) :
    (State.fallBack s q).base = s.base := by
  unfold State.fallBack; try dsimp only
  (repeat' split) <;> simp only [State.modReg_base, State.raiseQuay_base, forAll_base, foldl_base, implies_true, State.free_base, State.groups_base, apply_ite State.base, ite_self]
@[simp] theorem State.senseStep_base (s : State) (q : QuayNo) (e : Estimates) :
    (State.senseStep s q e).base = s.base := by
  unfold State.senseStep; try dsimp only
  (repeat' split) <;> simp only [State.fallBack_base, State.modReg_base, forAll_base, foldl_base, implies_true, State.free_base, State.groups_base, apply_ite State.base, ite_self]
@[simp] theorem State.recatch_base (s : State) (q : QuayNo) :
    (State.recatch s q).base = s.base := by
  simp only [State.recatch, State.enter_base, State.modReg_base, State.free_base, State.groups_base]
@[simp] theorem State.lossStep_base (s : State) (q : QuayNo) :
    (State.lossStep s q).base = s.base := by
  unfold State.lossStep; try dsimp only
  (repeat' split) <;> simp only [State.modReg_base, State.raiseQuay_base, State.recatch_base, forAll_base, foldl_base, implies_true, State.free_base, State.groups_base, apply_ite State.base, ite_self]
@[simp] theorem State.ifStep_base (s : State) (q : QuayNo) :
    (State.ifStep s q).base = s.base := by
  unfold State.ifStep; try dsimp only
  (repeat' split) <;> simp only [State.modReg_base, forAll_base, foldl_base, implies_true, State.free_base, State.groups_base, apply_ite State.base, ite_self]
@[simp] theorem State.catchDone_base (s : State) (q : QuayNo) :
    (State.catchDone s q).base = s.base := by
  simp only [State.catchDone, State.enter_base, State.eventOpt_base, State.modCore_base, State.modReg_base, forAll_base, foldl_base, implies_true, State.free_base, State.groups_base]
@[simp] theorem State.catchRefused_base (s : State) (q : QuayNo) :
    (State.catchRefused s q).base = s.base := by
  simp only [State.catchRefused, State.enter_base, State.eventOpt_base, State.modCore_base, State.modReg_base, State.free_base, State.groups_base]
@[simp] theorem State.enterPhase_base (s : State) (q : QuayNo) (p : Nat) :
    (State.enterPhase s q p).base = s.base := by
  unfold State.enterPhase; (repeat' split) <;> simp only [State.catchDone_base, State.modReg_base, State.free_base, State.groups_base]
@[simp] theorem State.takenStanding_base (s : State) (q : QuayNo) :
    (State.takenStanding s q).base = s.base := by
  simp only [State.takenStanding, State.enterPhase_base, State.modReg_base, forAll_base, foldl_base, implies_true, State.free_base, State.groups_base]
@[simp] theorem State.observed_base (s : State) (q : QuayNo) (n : Rat) (standing : Bool) :
    (State.observed s q n standing).base = s.base := by
  unfold State.observed; try dsimp only
  (repeat' split) <;> simp only [State.enterPhase_base, State.takenStanding_base, forAll_base, foldl_base, implies_true, State.free_base, State.groups_base, apply_ite State.base, ite_self]
@[simp] theorem State.searchStep_base (s : State) (q : QuayNo) :
    (State.searchStep s q).base = s.base := by
  unfold State.searchStep; try dsimp only
  (repeat' split) <;> simp only [State.catchRefused_base, State.enterPhase_base, State.modReg_base, State.takenStanding_base, forAll_base, foldl_base, implies_true, State.free_base, State.groups_base, apply_ite State.base, ite_self]
@[simp] theorem State.catchStep_base (s : State) (q : QuayNo) :
    (State.catchStep s q).base = s.base := by
  unfold State.catchStep; try dsimp only
  (repeat' split) <;> simp only [State.catchDone_base, State.enterPhase_base, State.observed_base, State.searchStep_base, forAll_base, foldl_base, implies_true, State.free_base, State.groups_base, apply_ite State.base, ite_self]
@[simp] theorem State.crashStep_base (s : State) (q : QuayNo) :
    (State.crashStep s q).base = s.base := by
  unfold State.crashStep; try dsimp only
  (repeat' split) <;> simp only [State.modReg_base, State.raiseQuay_base, State.resume_base, forAll_base, foldl_base, implies_true, State.free_base, State.groups_base, apply_ite State.base, ite_self]
@[simp] theorem State.shortStep_base (s : State) (q : QuayNo) :
    (State.shortStep s q).base = s.base := by
  unfold State.shortStep; try dsimp only
  (repeat' split) <;> simp only [State.modReg_base, State.raiseQuay_base, foldl_base, forAll_base, foldl_base, implies_true, State.free_base, State.groups_base, apply_ite State.base, ite_self]
end Sys2Proof.Machine
end

