-- ==== Sys2Proof/Laws/BaseHoming.lean ====
section
/-! SUPPORT. The operations of Homing leave `State.base` as it is. -/

namespace Sys2Proof.Machine

set_option linter.unusedSimpArgs false

@[simp] theorem State.modHoming_base (s : State) (q : QuayNo) (f : Homing → Homing) :
    (State.modHoming s q f).base = s.base := by
  simp only [State.modHoming, State.modQuay_base, forAll_base, foldl_base, implies_true, State.free_base, State.groups_base]
@[simp] theorem State.shiftPosition_base (s : State) (q : QuayNo) (d : Int) :
    (State.shiftPosition s q d).base = s.base := by
  unfold State.shiftPosition; try dsimp only
  (repeat' split) <;> simp only [State.modCell_base, State.modHoming_base, State.modQuay_base, State.pulse_base, forAll_base, foldl_base, implies_true, State.free_base, State.groups_base, apply_ite State.base, ite_self]
@[simp] theorem State.genStart_base (s : State) (q : QuayNo) :
    (State.genStart s q).base = s.base := by
  simp only [State.genStart, State.modGen_base, apply_ite State.base, ite_self]
@[simp] theorem State.speedGen_base (s : State) (q : QuayNo) :
    (State.speedGen s q).base = s.base := by
  simp only [State.speedGen, State.modGen_base, State.modReg_base, forAll_base, foldl_base, implies_true, State.free_base, State.groups_base]
@[simp] theorem State.limitBoth_base (s : State) (q : QuayNo) :
    (State.limitBoth s q).base = s.base := by
  unfold State.limitBoth; try dsimp only
  (repeat' split) <;> simp only [State.modReg_base, State.raiseQuay_base, forAll_base, foldl_base, implies_true, State.free_base, State.groups_base, apply_ite State.base, ite_self]
@[simp] theorem State.limitStep_base (s0 : State) (q : QuayNo) :
    (State.limitStep s0 q).base = s0.base := by
  unfold State.limitStep; try dsimp only
  (repeat' split) <;> simp only [State.enter_base, State.genZero_base, State.limitBoth_base, State.modCore_base, State.modReg_base, State.raiseQuay_base, forAll_base, foldl_base, implies_true, State.free_base, State.groups_base, apply_ite State.base, ite_self]
@[simp] theorem State.homeDone_base (s : State) (q : QuayNo) :
    (State.homeDone s q).base = s.base := by
  simp only [State.homeDone, State.modQuay_base, State.enter_base, State.eventOpt_base, State.free_base, State.groups_base]
@[simp] theorem State.homeReached_base (s : State) (q : QuayNo) :
    (State.homeReached s q).base = s.base := by
  simp only [State.homeReached, State.modHoming_base, forAll_base, foldl_base, implies_true, State.free_base, State.groups_base]
@[simp] theorem State.homeEnd_base (s : State) (q : QuayNo) :
    (State.homeEnd s q).base = s.base := by
  unfold State.homeEnd; try dsimp only
  (repeat' split) <;> simp only [State.homeDone_base, forAll_base, foldl_base, implies_true, State.free_base, State.groups_base, apply_ite State.base, ite_self]
@[simp] theorem State.homeReference_base (s : State) (q : QuayNo) (hm : Homing) (ref : Int) :
    (State.homeReference s q hm ref).base = s.base := by
  unfold State.homeReference; try dsimp only
  (repeat' split) <;> simp only [State.genZero_base, State.homeReached_base, State.modHoming_base, State.shiftPosition_base, forAll_base, foldl_base, implies_true, State.free_base, State.groups_base, apply_ite State.base, ite_self]
@[simp] theorem State.homeSpeedStep_base (s : State) (q : QuayNo) (w : Rat) :
    (State.homeSpeedStep s q w).base = s.base := by
  unfold State.homeSpeedStep; try dsimp only
  (repeat' split) <;> simp only [State.modGen_base, forAll_base, foldl_base, implies_true, State.free_base, State.groups_base, apply_ite State.base, ite_self]
@[simp] theorem State.homePhase_base (s : State) (q : QuayNo) (hm : Homing) :
    (State.homePhase s q hm).base = s.base := by
  unfold State.homePhase; try dsimp only
  (repeat' split) <;> simp only [State.genZero_base, State.homeReached_base, State.homeReference_base, State.homeSpeedStep_base, State.modGen_base, State.modHoming_base, forAll_base, foldl_base, implies_true, State.free_base, State.groups_base, apply_ite State.base, ite_self]
@[simp] theorem State.homingStep_base (s : State) (q : QuayNo) :
    (State.homingStep s q).base = s.base := by
  unfold State.homingStep; dsimp only; (repeat' split) <;> simp only [State.raiseQuay_base, State.genStop_base, State.genZero_base, State.homePhase_base, State.modHoming_base, State.free_base, State.groups_base, apply_ite State.base, ite_self]
@[simp] theorem State.declareStall_base (s : State) (q : QuayNo) :
    (State.declareStall s q).base = s.base := by
  unfold State.declareStall; dsimp only; (repeat' split) <;> simp only [State.raiseQuay_base, State.homeReference_base, State.modCore_base, State.free_base, State.groups_base, apply_ite State.base, ite_self]
@[simp] theorem State.genStep_base (s : State) (q : QuayNo) :
    (State.genStep s q).base = s.base := by
  unfold State.genStep; try dsimp only
  (repeat' split) <;> simp only [State.genStop_base, State.genZero_base, State.homingStep_base, State.motionStep_base, State.speedGen_base, forAll_base, foldl_base, implies_true, State.free_base, State.groups_base, apply_ite State.base, ite_self]
end Sys2Proof.Machine
end

