-- ==== Sys2Proof/Laws/BaseStepper.lean ====
section
/-! SUPPORT. The operations of Stepper leave `State.base` as it is. -/

namespace Sys2Proof.Machine

set_option linter.unusedSimpArgs false

@[simp] theorem State.modStep_base (s : State) (q : QuayNo) (f : StepKern → StepKern) :
    (State.modStep s q f).base = s.base := (rfl)
@[simp] theorem State.stepperStep_base (s : State) (q : QuayNo) (e : Estimates) (first : Bool) (freeze : Bool) :
    (State.stepperStep s q e first freeze).1.base = s.base := by
  simp only [State.stepperStep, State.declareStall_base, State.modReg_base, State.modStep_base, State.free_base, State.groups_base, apply_ite State.base, ite_self]
@[simp] theorem State.pulseStep_base (s : State) (q : QuayNo) :
    (State.pulseStep s q).base = s.base := (rfl)

end Sys2Proof.Machine
end

