-- ==== Sys2Proof/Laws/BaseKernel.lean ====
section
/-! SUPPORT. The operations of Kernel leave `State.base` as it is. -/

namespace Sys2Proof.Machine

set_option linter.unusedSimpArgs false

@[simp] theorem State.applyStop_base (s : State) (q : QuayNo) (k : StopKind) :
    (State.applyStop s q k).base = s.base := by
  unfold State.applyStop; try dsimp only
  (repeat' split) <;> simp only [State.blockPulses_base, State.enterStopping_base, State.enter_base, State.modCore_base, State.rewriteTable_base, forAll_base, foldl_base, implies_true, State.free_base, State.groups_base, apply_ite State.base, ite_self]
@[simp] theorem State.applyRelease_base (s : State) (q : QuayNo) :
    (State.applyRelease s q).base = s.base := by
  unfold State.applyRelease; (repeat' split) <;> simp only [State.leaveShare_base, State.modCore_base, State.free_base, State.groups_base]
@[simp] theorem State.applyFlags_base (s : State) (q : QuayNo) :
    (State.applyFlags s q).base = s.base := by
  simp only [State.applyFlags, State.modQuay_base, State.applyRelease_base, State.applyStop_base, State.free_base, State.groups_base, apply_ite State.base, ite_self]
@[simp] theorem State.voltMonitor_base (s : State) (q : QuayNo) :
    (State.voltMonitor s q).base = s.base := by
  unfold State.voltMonitor; try dsimp only
  (repeat' split) <;> simp only [State.modReg_base, State.raiseQuay_base, forAll_base, foldl_base, implies_true, State.free_base, State.groups_base, apply_ite State.base, ite_self]
@[simp] theorem State.balanceMonitor_base (s : State) (q : QuayNo) :
    (State.balanceMonitor s q).base = s.base := by
  simp only [State.balanceMonitor, State.raiseQuay_base, forAll_base, forAll_base, foldl_base, implies_true, State.free_base, State.groups_base]
@[simp] theorem State.loadStep_base (s : State) (q : QuayNo) :
    (State.loadStep s q).base = s.base := by
  unfold State.loadStep; try dsimp only
  (repeat' split) <;> simp only [State.modReg_base, forAll_base, foldl_base, implies_true, State.free_base, State.groups_base, apply_ite State.base, ite_self]
@[simp] theorem State.focControl_base (s : State) (q : QuayNo) :
    (State.focControl s q).1.base = s.base := by
  unfold State.focControl; dsimp only
  (repeat' split) <;> simp only [State.loadStep_base, State.voltMonitor_base, State.balanceMonitor_base, State.modReg_base, State.shortStep_base]
@[simp] theorem State.stepControl_base (s : State) (q : QuayNo) (e : Estimates) :
    (State.stepControl s q e).1.base = s.base := by
  unfold State.stepControl; dsimp only; (repeat' split) <;> simp only [State.voltMonitor_base, State.raiseQuay_base, State.modReg_base, State.modStep_base, State.pulseStep_base, State.stepperStep_base, State.free_base, State.groups_base, apply_ite State.base, ite_self]
@[simp] theorem State.overrun_base (s : State) (q : QuayNo) :
    (State.overrun s q).base = s.base := by
  unfold State.overrun; try dsimp only
  (repeat' split) <;> simp only [State.raiseQuay_base, forAll_base, foldl_base, implies_true, State.free_base, State.groups_base, apply_ite State.base, ite_self]
@[simp] theorem State.speedMonitors_base (s : State) (q : QuayNo) :
    (State.speedMonitors s q).base = s.base := by
  unfold State.speedMonitors; try dsimp only
  (repeat' split) <;> simp only [State.modReg_base, State.raiseQuay_base, forAll_base, foldl_base, implies_true, State.free_base, State.groups_base, apply_ite State.base, ite_self]
@[simp] theorem State.leaveRun_base (s : State) (q : QuayNo) :
    (State.leaveRun s q).base = s.base := (rfl)
@[simp] theorem State.dwells_base (s : State) (q : QuayNo) :
    (State.dwells s q).base = s.base := (rfl)
@[simp] theorem State.closeIter_base (s : State) (q : QuayNo) (cmds : List (LegNo × LegCmd)) :
    (State.closeIter s q cmds).base = s.base := by
  unfold State.closeIter; try dsimp only
  (repeat' split) <;> simp only [State.dwells_base, State.emulateAngle_base, State.free_base, State.modQuay_base, State.modReg_base, State.settle_base, State.shareSend_base, State.speedMonitors_base, State.trackArrival_base, forAll_base, foldl_base, implies_true, State.free_base, State.groups_base, apply_ite State.base, ite_self]
/-- An iteration runs on its own parameters and leaves those of the device. -/
@[simp] theorem State.iterate_base (s : State) (q : QuayNo) (e : Estimates) : (s.iterate q e).base = s.base := by
  have key : ∀ (t u : State), t.base = u.base → u.base = { s.base with params := u.params } → ({ t with params := s.params } : State).base = s.base := by
    intro t u h k
    have := h.trans k
    simp only [State.base, Base.mk.injEq] at this ⊢
    simp_all
  refine key _ { s with params := s.quay[q].cfg.getD s.params } ?_ rfl
  simp only [State.closeIter_base, State.homeEnd_base]
  repeat' split
  all_goals simp only [State.focControl_base, State.stepControl_base, State.genStep_base, State.genStart_base, State.crashStep_base, State.ifStep_base,
    State.catchStep_base, State.lossStep_base, State.shareStep_base, State.limitStep_base, State.applyFlags_base, State.senseStep_base, State.leaveRun_base]

@[simp] theorem State.noteIteration_base (s : State) (q : QuayNo) (late : Bool) :
    (State.noteIteration s q late).base = s.base := by
  simp only [State.noteIteration, State.modHalf_base]

end Sys2Proof.Machine
end

