-- ==== Sys2Proof/Laws/BaseValidate.lean ====
section
/-! SUPPORT. The operations of Validate leave `State.base` as it is. -/

namespace Sys2Proof.Machine

set_option linter.unusedSimpArgs false

@[simp] theorem State.refreshSlots_base (s : State) :
    (State.refreshSlots s).base = s.base := by
  unfold State.refreshSlots; try dsimp only
  (repeat' split) <;> simp only [State.modTb_base, forAll_base, foldl_base, implies_true, State.free_base, State.groups_base, apply_ite State.base, ite_self]
@[simp] theorem State.startCell_base (old s : State) (staged : Nat → Bool) (k : CellNo) :
    (State.startCell old s staged k).base = s.base := by
  unfold State.startCell; try dsimp only
  (repeat' split) <;> simp only [State.modCell_base, State.restartCell_base, forAll_base, foldl_base, implies_true, State.free_base, State.groups_base, apply_ite State.base, ite_self]
@[simp] theorem State.startQuay_base (old s : State) (staged : Nat → Bool) (q : QuayNo) :
    (State.startQuay old s staged q).base = s.base := by
  unfold State.startQuay; try dsimp only
  (repeat' split) <;> simp only [State.modQuay_base, forAll_base, foldl_base, implies_true, State.free_base, State.groups_base, apply_ite State.base, ite_self]
@[simp] theorem State.startConfig_base (old s : State) (staged : Nat → Bool) :
    (State.startConfig old s staged).base = s.base := by
  unfold State.startConfig; try dsimp only
  (repeat' split) <;> simp only [State.drawn_base, State.free_base, State.modTb_base, State.refreshSlots_base, State.startCell_base, State.startQuay_base, forAll_base, forAll_base, foldl_base, implies_true, State.free_base, State.groups_base, apply_ite State.base, ite_self]
end Sys2Proof.Machine
end

