-- ==== Sys2Proof/Laws/BaseAcks.lean ====
section
/-! SUPPORT. The operations of Acks leave `State.base` as it is. -/

namespace Sys2Proof.Machine

set_option linter.unusedSimpArgs false

@[simp] theorem State.ackOne_base (s : State) (q : QuayNo) :
    (State.ackOne s q).base = s.base := by
  unfold State.ackOne; try dsimp only
  (repeat' split) <;> simp only [State.enter_base, State.modFlt_base, State.modQuay_base, forAll_base, foldl_base, implies_true, State.free_base, State.groups_base, apply_ite State.base, ite_self]
@[simp] theorem State.afterDeviceAck_base (s : State) (margin : Bool) :
    (State.afterDeviceAck s margin).base = s.base := by
  simp only [State.afterDeviceAck, State.modBoot_base, State.modFlt_base, State.free_base, State.groups_base, apply_ite State.base, ite_self]

end Sys2Proof.Machine
end

