-- ==== Sys2Proof/Laws/BaseAxisEvents.lean ====
section
/-! SUPPORT. The operations of AxisEvents leave `State.base` as it is. -/

namespace Sys2Proof.Machine

set_option linter.unusedSimpArgs false

@[simp] theorem State.rampEnds_base (s : State) (q : QuayNo) :
    (State.rampEnds s q).base = s.base := by
  simp only [State.rampEnds, State.cutSteps_base, State.modQuay_base, State.reactLegs_base, State.syncLegs_base, forAll_base, foldl_base, implies_true, State.free_base, State.groups_base]
end Sys2Proof.Machine
end

