-- ==== Sys2Proof/Laws/BaseHawser.lean ====
section
/-! SUPPORT. The operations of Hawser leave `State.base` as it is. -/

namespace Sys2Proof.Machine

set_option linter.unusedSimpArgs false

@[simp] theorem State.splitMember_base (s : State) (q : QuayNo) :
    (State.splitMember s q).base = s.base := by
  unfold State.splitMember; try dsimp only
  (repeat' split) <;> simp only [State.goAlone_base, State.modQuay_base, State.standAlone_base, forAll_base, foldl_base, implies_true, State.free_base, State.groups_base, apply_ite State.base, ite_self]
@[simp] theorem State.formGroup_base (s : State) (heard : Bool) (g : Nat) :
    (State.formGroup s heard g).base = s.base := by
  unfold State.formGroup; try dsimp only
  (repeat' split) <;> simp only [State.modQuay_base, State.raiseQuay_base, State.splitMember_base, forAll_base, forAll_base, foldl_base, implies_true, State.free_base, State.groups_base, apply_ite State.base, ite_self]
@[simp] theorem State.formGroups_base (s : State) (heard : Bool) :
    (State.formGroups s heard).base = s.base := by
  simp only [State.formGroups, State.formGroup_base, forAll_base, forAll_base, foldl_base, implies_true, State.free_base, State.groups_base]
@[simp] theorem State.loseDevices_base (s : State) (gone : List Nat) (q : QuayNo) :
    (State.loseDevices s gone q).base = s.base := by
  unfold State.loseDevices; try dsimp only
  (repeat' split) <;> simp only [State.dropShare_base, State.loseMaster_base, State.modQuay_base, State.raiseQuay_base, State.standAlone_base, foldl_base, forAll_base, foldl_base, implies_true, State.free_base, State.groups_base, apply_ite State.base, ite_self]
@[simp] theorem State.formMembership_base (s : State) (heard : Bool) :
    (State.formMembership s heard).base = s.base := by
  unfold State.formMembership; try dsimp only
  (repeat' split) <;> simp only [State.formGroups_base, State.loseDevices_base, State.modHw_base, State.raiseDevice_base, forAll_base, forAll_base, foldl_base, implies_true, State.free_base, State.groups_base, apply_ite State.base, ite_self]
@[simp] theorem State.sendDisc_base (s : State) :
    (State.sendDisc s).base = s.base := by
  simp only [State.sendDisc, State.modHw_base, State.originate_base, State.free_base, State.groups_base]
@[simp] theorem State.trackWhole_base (s : State) :
    (State.trackWhole s).base = s.base := by
  unfold State.trackWhole; try dsimp only
  (repeat' split) <;> simp only [State.modHw_base, forAll_base, foldl_base, implies_true, State.free_base, State.groups_base, apply_ite State.base, ite_self]
@[simp] theorem State.openWindowHw_base (s : State) :
    (State.openWindowHw s).base = s.base := by
  simp only [State.openWindowHw, State.modHw_base, State.trackWhole_base, forAll_base, foldl_base, implies_true, State.free_base, State.groups_base]
@[simp] theorem State.setHwMode_base (s : State) (m : HwMode) :
    (State.setHwMode s m).base = s.base := by
  unfold State.setHwMode; (repeat' split) <;> simp only [State.modHw_base, State.sendDisc_base, State.free_base, State.groups_base]
@[simp] theorem State.noteFrame_base (s : State) (ty : Nat) (h : HwHeader) :
    (State.noteFrame s ty h).base = s.base := (rfl)
@[simp] theorem State.raiseConflict_base (s : State) (h : HwHeader) (d : HwDisc) :
    (State.raiseConflict s h d).base = s.base := by
  unfold State.raiseConflict; (repeat' split) <;> simp only [State.modHw_base, State.raiseDevice_base, State.free_base, State.groups_base]
@[simp] theorem State.takeDisc_base (s : State) (h : HwHeader) (d : HwDisc) :
    (State.takeDisc s h d).base = s.base := by
  unfold State.takeDisc; try dsimp only
  (repeat' split) <;> simp only [State.formMembership_base, State.modHw_base, State.trackWhole_base, forAll_base, foldl_base, implies_true, State.free_base, State.groups_base, apply_ite State.base, ite_self]
@[simp] theorem State.loseAlignment_base (s : State) :
    (State.loseAlignment s).base = s.base := (rfl)
@[simp] theorem State.correct_base (s : State) (off : Int) :
    (State.correct s off).base = s.base := by
  unfold State.correct; try dsimp only
  (repeat' split) <;> simp only [State.modTb_base, forAll_base, foldl_base, implies_true, State.free_base, State.groups_base, apply_ite State.base, ite_self]
@[simp] theorem State.takeTime_base (s : State) (p : Side) (stamp : Dword) (corr : Word) :
    (State.takeTime s p stamp corr).base = s.base := by
  simp only [State.takeTime, State.modHw_base, State.correct_base, State.loseAlignment_base, State.free_base, State.groups_base, apply_ite State.base, ite_self]

end Sys2Proof.Machine
end

