-- ==== Sys2Proof/Laws/BaseBoot.lean ====
section
/-! SUPPORT. The operations of Boot leave `State.base` as it is. -/

namespace Sys2Proof.Machine

set_option linter.unusedSimpArgs false

@[simp] theorem State.grantFirst_base (s : State) (h : Side) :
    (State.grantFirst s h).base = s.base := by
  unfold State.grantFirst; (repeat' split) <;> simp only [State.modBoot_base, State.modHalf_base, State.evalForce_base, State.grantTo_base, State.post_base, forAll_base, implies_true, State.free_base, State.groups_base]
@[simp] theorem State.decideGrant_base (s : State) :
    (State.decideGrant s).base = s.base := by
  unfold State.decideGrant; (repeat' split) <;> simp only [State.drawn_base, State.modBoot_base, State.grantFirst_base, State.free_base, State.groups_base]
@[simp] theorem State.startHalf_base (s : State) (h : Side) (req : Bool) :
    (State.startHalf s h req).base = s.base := by
  unfold State.startHalf; try dsimp only
  (repeat' split) <;> simp only [State.modHalf_base, State.refreshHalf_base, forAll_base, foldl_base, implies_true, State.free_base, State.groups_base, apply_ite State.base, ite_self]
@[simp] theorem State.startAll_base (s : State) (img : List Byte) :
    (State.startAll s img).base = s.base := by
  simp only [State.startAll, State.modHw_base, State.modQuay_base, State.restartCell_base, State.startConfig_base, forAll_base, implies_true, State.free_base, State.groups_base]

end Sys2Proof.Machine
end

