-- ==== Sys2Proof/Laws/BaseCommands.lean ====
section
/-! SUPPORT. The operations of Commands leave `State.base` as it is. -/

namespace Sys2Proof.Machine

set_option linter.unusedSimpArgs false

@[simp] theorem State.armVm_base (s : State) (d : DieNo) :
    (State.armVm s d).base = s.base := (rfl)
@[simp] theorem State.armVgd_base (s : State) (d : DieNo) :
    (State.armVgd s d).base = s.base := (rfl)
@[simp] theorem State.startArm_base (s : State) (q : QuayNo) (op : AcceptedOp) :
    (State.startArm s q op).base = s.base := by
  simp only [State.startArm, State.modQuay_base, State.abandonArm_base, State.armVgd_base, State.armVm_base, State.publish_base, State.sendArm_base, forAll_base, implies_true, apply_ite State.base, ite_self]
@[simp] theorem State.doArm_base (s : State) (q : QuayNo) (op : AcceptedOp) :
    (State.doArm s q op).1.base = s.base := by
  unfold State.doArm; dsimp only; (repeat' split) <;> simp only [State.startArm_base, State.free_base, State.groups_base, apply_ite State.base, ite_self]
@[simp] theorem State.doDisarm_base (s : State) (q : QuayNo) :
    (State.doDisarm s q).1.base = s.base := by
  unfold State.doDisarm; (repeat' split) <;> simp only [State.enter_base, State.free_base, State.groups_base]
@[simp] theorem State.writeRef_base (s : State) (q : QuayNo) (m : Mode) (v : U16) :
    (State.writeRef s q m v).base = s.base := (rfl)
@[simp] theorem State.startIn_base (s : State) (q : QuayNo) (m : Mode) (v : U16) (op : Option AcceptedOp) (st : AxisState) :
    (State.startIn s q m v op st).base = s.base := by
  simp only [State.startIn, State.modQuay_base, State.enter_base, State.writeRef_base, State.free_base, State.groups_base]
@[simp] theorem State.doStart_base (s : State) (q : QuayNo) (bs : List Byte) (op : AcceptedOp) :
    (State.doStart s q bs op).1.base = s.base := by
  unfold State.doStart; dsimp only; (repeat' split) <;> simp only [State.modCore_base, State.startIn_base, State.writeRef_base, State.free_base, State.groups_base, apply_ite State.base, ite_self]
@[simp] theorem State.doStop_base (s : State) (q : QuayNo) (k : StopKind) :
    (State.doStop s q k).1.base = s.base := by
  simp only [State.doStop, State.applyStop_base]
@[simp] theorem State.doStopAll_base (s : State) (k : StopKind) :
    (State.doStopAll s k).1.base = s.base := by
  unfold State.doStopAll; refine forAll_base _ _ _ (fun t _ => ?_); (repeat' split) <;> simp only [State.applyStop_base, forAll_base, implies_true]
@[simp] theorem State.doHold_base (s : State) (q : QuayNo) :
    (State.doHold s q).1.base = s.base := by
  unfold State.doHold; (repeat' split) <;> simp only [State.enter_base, State.leaveShare_base, State.free_base, State.groups_base]
@[simp] theorem State.putMotion_base (s : State) (q : QuayNo) (m : Motion) (op : Option AcceptedOp) :
    (State.putMotion s q m op).base = s.base := by
  simp only [State.putMotion, State.modQuay_base, State.enter_base, State.eventOpt_base, State.modCore_base, State.free_base, State.groups_base, apply_ite State.base, ite_self]
@[simp] theorem State.doMove_base (s : State) (q : QuayNo) (bs : List Byte) (op : AcceptedOp) :
    (State.doMove s q bs op).1.base = s.base := by
  unfold State.doMove; dsimp only; (repeat' split) <;> simp only [State.putMotion_base, State.free_base, State.groups_base, apply_ite State.base, ite_self]
@[simp] theorem State.doMoveGroup_base (s : State) (bs : List Byte) (op : AcceptedOp) :
    (State.doMoveGroup s bs op).1.base = s.base := by
  unfold State.doMoveGroup; dsimp only; (repeat' split) <;> simp only [State.putMotion_base, foldl_base, implies_true, State.free_base, State.groups_base, apply_ite State.base, ite_self]
@[simp] theorem State.doJog_base (s : State) (q : QuayNo) (bs : List Byte) :
    (State.doJog s q bs).1.base = s.base := by
  unfold State.doJog; dsimp only; (repeat' split) <;> simp only [State.modCore_base, State.putMotion_base, State.free_base, State.groups_base, apply_ite State.base, ite_self]
@[simp] theorem State.doHome_base (s : State) (q : QuayNo) (bs : List Byte) (op : AcceptedOp) :
    (State.doHome s q bs op).1.base = s.base := by
  unfold State.doHome; dsimp only; (repeat' split) <;> simp only [State.eventOpt_base, State.modQuay_base, State.enter_base, State.free_base, State.groups_base, apply_ite State.base, ite_self]
@[simp] theorem State.doDetach_base (s : State) (n : LaneNo) :
    (State.doDetach s n).1.base = s.base := by
  unfold State.doDetach; (repeat' split) <;> simp only [State.modLane_base, State.modLeg_base, State.eventAll_base, State.sendLane_base, forAll_base, implies_true, State.free_base, State.groups_base]
@[simp] theorem State.doAttach_base (s : State) (n : LaneNo) (op : AcceptedOp) :
    (State.doAttach s n op).1.base = s.base := by
  unfold State.doAttach; (repeat' split) <;> simp only [State.modLane_base, State.free_base, State.groups_base]

end Sys2Proof.Machine
end

