-- ==== Sys2Proof/Laws/BaseConfigure.lean ====
section
/-! SUPPORT. The operations of Configure leave `State.base` as it is. -/

namespace Sys2Proof.Machine

set_option linter.unusedSimpArgs false

@[simp] theorem State.commitNotes_base (s : State) (status : Byte) :
    (State.commitNotes s status).base = s.base := by
  unfold State.commitNotes; (repeat' split) <;> simp only [State.raiseDevice_base]
@[simp] theorem State.doParamStage_base (s : State) (p : Side) (bs : List Byte) :
    (State.doParamStage s p bs).1.base = s.base := by
  unfold State.doParamStage; dsimp only; (repeat' split) <;> simp only [State.modPort_base, State.free_base, State.groups_base, apply_ite State.base, ite_self]
@[simp] theorem State.doStageClear_base (s : State) (p : Side) :
    (State.doStageClear s p).1.base = s.base := (rfl)

end Sys2Proof.Machine
end

