-- ==== Sys2Proof/Laws/BaseHost.lean ====
section
/-! SUPPORT. The operations of Host leave `State.base` as it is. -/

namespace Sys2Proof.Machine

set_option linter.unusedSimpArgs false

@[simp] theorem State.spiError_base (s : State) (p : Side) (n : Nat) :
    (State.spiError s p n).base = s.base := (rfl)
@[simp] theorem State.modMbx_base (s : State) (p : Side) (m : MbxNo) (f : Mailbox → Mailbox) :
    (State.modMbx s p m f).base = s.base := (rfl)
@[simp] theorem State.answer_base (s : State) (p : Side) (m : MbxNo) (bytes : List Byte) :
    (State.answer s p m bytes).base = s.base := (rfl)
@[simp] theorem State.finish_base (s : State) (m : Msg) (r : Result) (forwarded : Bool) :
    (State.finish s m r forwarded).base = s.base := (rfl)
@[simp] theorem State.flagsFirst_base (s : State) (q : QuayNo) :
    (State.flagsFirst s q).base = s.base := by
  unfold State.flagsFirst; try dsimp only
  (repeat' split) <;> simp only [State.applyFlags_base, State.limitStep_base, State.modQuay_base, forAll_base, foldl_base, implies_true, State.free_base, State.groups_base, apply_ite State.base, ite_self]
@[simp] theorem State.laneCommand_base (s : State) (n : LaneNo) (m : Msg) (op : AcceptedOp) :
    (State.laneCommand s n m op).1.base = s.base := by
  unfold State.laneCommand; (repeat' split) <;> simp only [State.doAttach_base, State.doDetach_base]
@[simp] theorem State.noteRefusal_base (s : State) (t : Option Target) (status : Byte) :
    (State.noteRefusal s t status).base = s.base := by
  unfold State.noteRefusal; try dsimp only
  (repeat' split) <;> simp only [State.raiseDevice_base, State.raiseQuay_base, forAll_base, foldl_base, implies_true, State.free_base, State.groups_base, apply_ite State.base, ite_self]
@[simp] theorem State.putRequest_base (s : State) (p : Side) (m : MbxNo) (bytes : List Byte) :
    (State.putRequest s p m bytes).base = s.base := by
  unfold State.putRequest; (repeat' split) <;> simp only [State.modMbx_base, State.spiError_base, State.free_base, State.groups_base]
@[simp] theorem State.takeFrom_base (s : State) (h : Side) :
    (State.takeFrom s h).base = s.base := (rfl)

end Sys2Proof.Machine
end

