-- ==== Sys2Proof/Laws/BaseClassZero.lean ====
section
/-! SUPPORT. The operations of ClassZero leave `State.base` as it is. -/

namespace Sys2Proof.Machine

set_option linter.unusedSimpArgs false

@[simp] theorem State.c0Answer_base (s : State) (p : Side) (mb : Fin 4) (op : Byte) (m : C0Msg) (status : Byte) :
    (State.c0Answer s p mb op m status).base = s.base := (rfl)
@[simp] theorem State.classZero_base (s : State) (p : Side) (mb : Fin 4) (op : Byte) (m : C0Msg) :
    (State.classZero s p mb op m).base = s.base := by
  unfold State.classZero; try dsimp only
  (repeat' split) <;> simp only [State.c0Answer_base, State.modBoot_base, State.modMbx_base, State.modQuay_base, State.noteRefusal_base, forAll_base, forAll_base, foldl_base, implies_true, State.free_base, State.groups_base, apply_ite State.base, ite_self]
@[simp] theorem State.c0Discard_base (s : State) (p : Side) :
    (State.c0Discard s p).base = s.base := (rfl)

end Sys2Proof.Machine
end

