-- ==== Sys2Proof/Laws/BaseRegisters.lean ====
section
/-! SUPPORT. The operations of Registers leave `State.base` as it is. -/

namespace Sys2Proof.Machine

set_option linter.unusedSimpArgs false

@[simp] theorem State.writeBufByte_base (s : State) (p : Side) (a : Nat) (v : Byte) :
    (State.writeBufByte s p a v).base = s.base := by
  unfold State.writeBufByte; (repeat' split) <;> simp only [State.modMbx_base, State.spiError_base, State.free_base, State.groups_base]
@[simp] theorem State.abortAt_base (s : State) (p : Side) (a : Nat) :
    (State.abortAt s p a).base = s.base := by
  unfold State.abortAt; (repeat' split) <;> simp only [State.spiError_base]

@[simp] theorem State.latchDevTime_base (s : State) (p : Side) :
    (State.latchDevTime s p).base = s.base := by
  simp only [State.latchDevTime, State.modTb_base, forAll_base, foldl_base, implies_true, State.free_base, State.groups_base]
@[simp] theorem State.latchCapTime_base (s : State) (p : Side) (c : Fin 32) :
    (State.latchCapTime s p c).base = s.base := by
  simp only [State.latchCapTime, State.modTb_base, forAll_base, foldl_base, implies_true, State.free_base, State.groups_base]
@[simp] theorem State.readEffect_base (s : State) (p : Side) (a : Nat) :
    (State.readEffect s p a).base = s.base := by
  unfold State.readEffect; try dsimp only
  (repeat' split) <;> simp only [State.latchCapTime_base, State.latchDevTime_base, forAll_base, foldl_base, implies_true, State.free_base, State.groups_base, apply_ite State.base, ite_self]
/-- A read transaction of any length. -/
@[simp] theorem State.readBytes_base (s : State) (p : Side) (a n : Nat) : (s.readBytes p a n).2.base = s.base := by
  induction n generalizing s a with
  | zero => rfl
  | succ n ih => simp only [State.readBytes, ih, State.readEffect_base]

end Sys2Proof.Machine
end

