-- ==== Sys2Proof/Laws/BaseRest.lean ====
section
/-! SUPPORT. `State.base` under the operations whose lemmas need a hand. -/

namespace Sys2Proof.Machine

set_option linter.unusedSimpArgs false

@[simp] theorem State.ackQuay_base (s : State) (q : QuayNo) : (s.ackQuay q).1.base = s.base := by
  unfold State.ackQuay; split <;> simp only [State.ackOne_base]

@[simp] theorem State.ackDevice_base (s : State) : s.ackDevice.1.base = s.base := by
  unfold State.ackDevice; dsimp only
  split <;> simp only [State.modFlt_base, State.afterDeviceAck_base, forAll_base _ _ _ State.ackOne_base]

@[simp] theorem State.scrubbed_base (s : State) (f : ScrubFinding) : (s.scrubbed f).base = s.base := by
  cases f <;> rfl

/-- Receipt of a Hawser frame changes no more than what the frame's own effect changes. -/
theorem State.receive_base (s : State) (p : Side) (ty : Nat) (h : HwHeader) (mk : HwHeader → HwFrame) (f : State → State)
    (hf : ∀ t, (f t).base = t.base) : (s.receive p ty h mk f).base = s.base := by
  unfold State.receive; split <;> simp only [State.hwSend_base, hf, State.noteFrame_base]

end Sys2Proof.Machine
end

