-- ==== Sys2Proof/Laws/Bytes.lean ====
section
/-! SUPPORT. The byte buffers: reading after writing, and the canonical form under every operation (flash, download image, mailboxes). -/

namespace Sys2Proof.Machine

/-- The canonical form in words: addresses rise strictly and no byte equals the default. -/
theorem cellsWf_iff (d : Byte) (m : List Host.Cell) :
    cellsWf d m = true ↔ m.Pairwise (fun e f => e.1 < f.1) ∧ ∀ e ∈ m, e.2 ≠ d := by
  induction m with
  | nil => simp [cellsWf]
  | cons e m ih =>
    cases m with
    | nil => simp [cellsWf]
    | cons f m =>
      simp only [cellsWf, Bool.and_eq_true, decide_eq_true_eq, ih]
      constructor
      · rintro ⟨⟨hd, hlt⟩, hp, hall⟩
        refine ⟨List.pairwise_cons.2 ⟨fun g hg => ?_, hp⟩, fun g hg => ?_⟩
        · rcases List.mem_cons.1 hg with rfl | hg
          · exact hlt
          · exact Nat.lt_trans hlt ((List.pairwise_cons.1 hp).1 g hg)
        · rcases List.mem_cons.1 hg with rfl | hg
          · exact hd
          · exact hall g hg
      · rintro ⟨hp, hall⟩
        exact ⟨⟨hall e List.mem_cons_self, (List.pairwise_cons.1 hp).1 f List.mem_cons_self⟩,
          (List.pairwise_cons.1 hp).2, fun g hg => hall g (List.mem_cons_of_mem _ hg)⟩

@[simp] theorem cellsWf_nil (d : Byte) : cellsWf d [] = true := rfl

/-- A list below which an address lies reads the default there. -/
theorem readCell_below (d : Byte) (m : List Host.Cell) (x : Nat) (h : ∀ e ∈ m, x < e.1) : readCell d m x = d := by
  induction m with
  | nil => rfl
  | cons e m ih =>
    have := h e List.mem_cons_self
    simp only [readCell, show e.1 ≠ x by omega, if_false]
    exact ih fun f hf => h f (List.mem_cons_of_mem _ hf)

/-- Another address reads as before a write. -/
theorem readCell_writeCell_ne (d : Byte) (m : List Host.Cell) (x y : Nat) (v : Byte) (h : y ≠ x) :
    readCell d (writeCell d m x v) y = readCell d m y := by
  induction m with
  | nil => by_cases hv : v = d <;> simp [writeCell, readCell, hv, Ne.symm h]
  | cons e m ih =>
    simp only [writeCell]
    split
    · split <;> simp [readCell, Ne.symm h]
    · split
      · next _ hx => subst hx; split <;> simp [readCell, Ne.symm h]
      · simp [readCell, ih]

/-- A byte reads as it was written. -/
theorem readCell_writeCell (d : Byte) (m : List Host.Cell) (x : Nat) (v : Byte) (h : cellsWf d m = true) :
    readCell d (writeCell d m x v) x = v := by
  rw [cellsWf_iff] at h
  induction m with
  | nil => by_cases hv : v = d <;> simp [writeCell, readCell, hv]
  | cons e m ih =>
    obtain ⟨hp, hall⟩ := h
    have hp' := List.pairwise_cons.1 hp
    simp only [writeCell]
    split
    · split
      · next hlt hv =>
        rw [hv]
        refine readCell_below _ _ _ fun f hf => ?_
        rcases List.mem_cons.1 hf with rfl | hf
        · exact hlt
        · exact Nat.lt_trans hlt (hp'.1 f hf)
      · simp [readCell]
    · split
      · next _ hx =>
        split
        · next hv => rw [hv]; exact readCell_below _ _ _ fun f hf => hx ▸ hp'.1 f hf
        · simp [readCell, hx]
      · next _ hx =>
        simp only [readCell, Ne.symm hx, if_false]
        exact ih ⟨hp'.2, fun f hf => hall f (List.mem_cons_of_mem _ hf)⟩

theorem mem_writeCell {d : Byte} {m : List Host.Cell} {x : Nat} {v : Byte} {e : Host.Cell} (h : e ∈ writeCell d m x v) :
    e ∈ m ∨ (e = (x, v) ∧ v ≠ d) := by
  induction m with
  | nil =>
    simp only [writeCell] at h
    split at h
    · cases h
    · next hv => exact .inr ⟨List.mem_singleton.1 h, hv⟩
  | cons f m ih =>
    simp only [writeCell] at h
    split at h
    · split at h
      · exact .inl h
      · next hv =>
        rcases List.mem_cons.1 h with rfl | h
        · exact .inr ⟨rfl, hv⟩
        · exact .inl h
    · split at h
      · next _ hx =>
        split at h
        · exact .inl (List.mem_cons_of_mem _ h)
        · next hv =>
          rcases List.mem_cons.1 h with rfl | h
          · exact .inr ⟨by rw [hx], hv⟩
          · exact .inl (List.mem_cons_of_mem _ h)
      · rcases List.mem_cons.1 h with rfl | h
        · exact .inl List.mem_cons_self
        · exact (ih h).imp (List.mem_cons_of_mem _) id

/-- Writing a byte keeps the canonical form. -/
theorem cellsWf_writeCell (d : Byte) (m : List Host.Cell) (x : Nat) (v : Byte) (h : cellsWf d m = true) :
    cellsWf d (writeCell d m x v) = true := by
  rw [cellsWf_iff] at *
  refine ⟨?_, fun e he => (mem_writeCell he).elim (h.2 e) fun ⟨h1, h2⟩ => h1 ▸ h2⟩
  obtain ⟨hp, -⟩ := h
  induction m with
  | nil => simp only [writeCell]; split <;> simp
  | cons f m ih =>
    have hp' := List.pairwise_cons.1 hp
    simp only [writeCell]
    split
    · next hlt =>
      split
      · exact hp
      · refine List.pairwise_cons.2 ⟨fun g hg => ?_, hp⟩
        rcases List.mem_cons.1 hg with rfl | hg
        · exact hlt
        · exact Nat.lt_trans hlt (hp'.1 g hg)
    · split
      · split
        · exact hp'.2
        · exact List.pairwise_cons.2 ⟨hp'.1, hp'.2⟩
      · next h1 h2 =>
        refine List.pairwise_cons.2 ⟨fun g hg => ?_, ih hp'.2⟩
        rcases mem_writeCell hg with hg | ⟨rfl, -⟩
        · exact hp'.1 g hg
        · show f.1 < x
          omega

/-- Writing bytes keeps the canonical form. -/
theorem cellsWf_writeCells (d : Byte) (m : List Host.Cell) (x : Nat) (bs : List Byte) (h : cellsWf d m = true) :
    cellsWf d (writeCells d m x bs) = true := by
  induction bs generalizing m x with
  | nil => exact h
  | cons b bs ih => exact ih _ _ (cellsWf_writeCell d m x b h)

/-- Addresses outside the bytes written read as before. -/
theorem readCell_writeCells_outside (d : Byte) (m : List Host.Cell) (x y : Nat) (bs : List Byte) (h : y < x ∨ x + bs.length ≤ y) :
    readCell d (writeCells d m x bs) y = readCell d m y := by
  induction bs generalizing m x with
  | nil => rfl
  | cons b bs ih =>
    rw [List.length_cons] at h
    rw [writeCells, ih _ _ (by omega), readCell_writeCell_ne _ _ _ _ _ (by omega)]

/-- The bytes written read back. -/
theorem readCell_writeCells (d : Byte) (m : List Host.Cell) (x i : Nat) (bs : List Byte) (h : cellsWf d m = true) (hi : i < bs.length) :
    readCell d (writeCells d m x bs) (x + i) = bs[i] := by
  induction bs generalizing m x i with
  | nil => simp at hi
  | cons b bs ih =>
    cases i with
    | zero => rw [writeCells, readCell_writeCells_outside _ _ _ _ _ (by omega)]; exact readCell_writeCell _ _ _ _ h
    | succ i =>
      have := ih (writeCell d m x b) (x + 1) i (cellsWf_writeCell _ _ _ _ h) (by simpa using hi)
      rw [writeCells, show x + (i + 1) = x + 1 + i by omega, this]
      rfl

/-- Programming the flash keeps the canonical form (R306). -/
theorem cellsWf_programFlash (m : List Host.Cell) (x : Nat) (bs : List Byte) (h : cellsWf erased m = true) :
    cellsWf erased (programFlash m x bs) = true := by
  induction bs generalizing m x with
  | nil => exact h
  | cons b bs ih => exact ih _ _ (cellsWf_writeCell _ _ _ _ h)

/-- Programming leaves other addresses of the flash as they are. -/
theorem readCell_programFlash_outside (m : List Host.Cell) (x y : Nat) (bs : List Byte) (h : y < x ∨ x + bs.length ≤ y) :
    readCell erased (programFlash m x bs) y = readCell erased m y := by
  induction bs generalizing m x with
  | nil => rfl
  | cons b bs ih =>
    rw [List.length_cons] at h
    rw [programFlash, ih _ _ (by omega), readCell_writeCell_ne _ _ _ _ _ (by omega)]

/-- An erased byte takes the value programmed into it. -/
theorem readCell_programFlash (m : List Host.Cell) (x i : Nat) (bs : List Byte) (h : cellsWf erased m = true) (hi : i < bs.length)
    (he : ∀ j, j < bs.length → readCell erased m (x + j) = erased) : readCell erased (programFlash m x bs) (x + i) = bs[i] := by
  induction bs generalizing m x i with
  | nil => simp at hi
  | cons b bs ih =>
    have h0 : readCell erased m x = erased := he 0 (by simp)
    have hw := cellsWf_writeCell erased m x b h
    simp only [programFlash, h0, if_true]
    cases i with
    | zero =>
      rw [readCell_programFlash_outside _ _ _ _ (by omega)]
      exact readCell_writeCell _ _ _ _ h
    | succ i =>
      rw [show x + (i + 1) = x + 1 + i by omega]
      refine (ih (writeCell erased m x b) (x + 1) i hw (by simpa using hi) fun j hj => ?_).trans rfl
      rw [readCell_writeCell_ne _ _ _ _ _ (by omega), show x + 1 + j = x + (j + 1) by omega]
      exact he (j + 1) (by simpa using hj)

/-- Filtering keeps the canonical form. -/
theorem cellsWf_filter (d : Byte) (m : List Host.Cell) (f : Host.Cell → Bool) (h : cellsWf d m = true) : cellsWf d (m.filter f) = true := by
  rw [cellsWf_iff] at *
  exact ⟨h.1.sublist List.filter_sublist, fun e he => h.2 e (List.mem_of_mem_filter he)⟩

/-- Erasing sectors keeps the canonical form (R306). -/
theorem cellsWf_eraseSectors (m : List Host.Cell) (x n : Nat) (h : cellsWf erased m = true) : cellsWf erased (eraseSectors m x n) = true :=
  cellsWf_filter _ _ _ h

/-- Reading a filtered list: the byte where the filter keeps its address, else the default. -/
theorem readCell_filter (d : Byte) (m : List Host.Cell) (f : Nat → Bool) (x : Nat) :
    readCell d (m.filter (fun e => f e.1)) x = if f x = true then readCell d m x else d := by
  induction m with
  | nil => simp [readCell]
  | cons e m ih =>
    by_cases hx : e.1 = x
    · subst hx
      by_cases hf : f e.1 = true
      · simp [List.filter_cons, hf, readCell]
      · simpa [List.filter_cons, hf] using ih
    · by_cases hf : f e.1 = true
      · simp [List.filter_cons, hf, readCell, hx, ih]
      · simp [List.filter_cons, hf, readCell, hx, ih]

/-- Bytes of other sectors survive an erase; bytes of the erased sectors read erased. -/
theorem readCell_eraseSectors (m : List Host.Cell) (x n y : Nat) : readCell erased (eraseSectors m x n) y =
    if y < x / 4096 * 4096 ∨ (x + n - 1) / 4096 * 4096 + 4096 ≤ y then readCell erased m y else erased := by
  have h := readCell_filter erased m (fun a => decide (a < x / 4096 * 4096) || decide ((x + n - 1) / 4096 * 4096 + 4096 ≤ a)) y
  simpa [eraseSectors] using h

end Sys2Proof.Machine
end

