-- ==== Sys2Proof/Laws/Within.lean ====
section
/-! SUPPORT. What a command of the running device can change of fuses, protection set, sealed parameters, pool claims and boot stage
(`Within`), and the shared operations of the host path that stay within it. -/

namespace Sys2Proof.Machine

/-- The state `t` keeps fuses, protection set, parameters of access RWS and BO, boot stage, seal,
reset lines and queue of `s`, and claims apart. -/
structure Within (s t : State) : Prop where
  fuse    : t.fuse = s.fuse
  prot    : t.prot = s.prot
  stage   : t.boot.stage = s.boot.stage
  sealed  : t.boot.sealed = s.boot.sealed
  power   : t.boot.powerGood = s.boot.powerGood
  rstN    : t.boot.rstN = s.boot.rstN
  pending : t.pending = s.pending
  params  : ∀ a, sealedAddr a = true → assoc t.params a = assoc s.params a
  claims  : ClaimsApart s.claims → ClaimsApart t.claims
  canonical : s.Canonical → t.Canonical

theorem Within.refl (s : State) : Within s s := ⟨rfl, rfl, rfl, rfl, rfl, rfl, rfl, fun _ _ => rfl, id, id⟩

theorem Within.trans {s t u : State} (h : Within s t) (k : Within t u) : Within s u :=
  ⟨k.fuse.trans h.fuse, k.prot.trans h.prot, k.stage.trans h.stage, k.sealed.trans h.sealed, k.power.trans h.power,
   k.rstN.trans h.rstN, k.pending.trans h.pending,
   fun a ha => (k.params a ha).trans (h.params a ha), fun hc => k.claims (h.claims hc), fun hc => k.canonical (h.canonical hc)⟩

/-- An operation that leaves the base as it is stays within. -/
theorem Within.of_base {s t : State} (h : t.base = s.base) : Within s t := by
  simp only [State.base, Base.mk.injEq] at h
  obtain ⟨h₁, h₂, h₃, h₄, h₅, h₆, h₇, h₈, h₉, -, h₁₀, h₁₁⟩ := h
  exact ⟨h₁, h₄, h₈, h₉, h₁₀, h₁₁, h₇, fun a _ => by rw [h₅], fun hc => by rw [h₆]; exact hc, fun hc => by rw [State.Canonical, h₂, h₃]; exact hc⟩

/-- After a step that leaves the base as it is. -/
theorem Within.base {s t u : State} (h : Within s t) (k : u.base = t.base) : Within s u := h.trans (.of_base k)

/-- Before a step that stays within. -/
theorem Within.after {s t u : State} (h : t.base = s.base) (k : Within t u) : Within s u := (Within.of_base h).trans k

/-- Other claims, apart where those before were. -/
theorem Within.others {s t u : State} {cs : List PoolClaim} (h : Within s t) (hu : u.base = t.base)
    (hc : ClaimsApart s.claims → ClaimsApart cs) : Within s { u with claims := cs } :=
  have k := h.base hu
  ⟨k.fuse, k.prot, k.stage, k.sealed, k.power, k.rstN, k.pending, k.params, hc, k.canonical⟩

/-- Another flash content in canonical form. -/
theorem Within.flash (s : State) {m : List Host.Cell} (h : cellsWf erased s.flash = true → cellsWf erased m = true) :
    Within s { s with flash := m } := ⟨rfl, rfl, rfl, rfl, rfl, rfl, rfl, fun _ _ => rfl, id, fun hc => ⟨h hc.1, hc.2⟩⟩

theorem Within.foldl {α : Type} (xs : List α) (s : State) (f : State → α → State) (h : ∀ t a, Within t (f t a)) :
    Within s (xs.foldl f s) := by
  induction xs generalizing s with
  | nil => exact .refl s
  | cons x xs ih => exact (h s x).trans (ih (f s x))

/-! ### The parameter store -/

theorem assoc_assocSet {β : Type} (l : List (Nat × β)) (a : Nat) (v : β) (b : Nat) (hne : b ≠ a) :
    assoc (assocSet l a v) b = assoc l b := by
  induction l with
  | nil => simp [assocSet, assoc, Ne.symm hne]
  | cons e l ih =>
    obtain ⟨k, w⟩ := e
    simp only [assocSet]
    split
    · simp [assoc, Ne.symm hne]
    · split
      · next h => subst h; simp [assoc, Ne.symm hne]
      · simp [assoc, ih]

/-- Writing staged entries none of which is sealed leaves every sealed parameter as it is (R172, R183). -/
theorem State.withEntries_within (s : State) (es : Staging) (h : ∀ e ∈ es, sealedAddr e.1.toNat = false) : Within s (s.withEntries es) := by
  unfold State.withEntries
  induction es generalizing s with
  | nil => exact .refl s
  | cons e es ih =>
    refine Within.trans ?_ (ih _ fun x hx => h x (List.mem_cons_of_mem _ hx))
    refine ⟨rfl, rfl, rfl, rfl, rfl, rfl, rfl, fun a ha => ?_, id, id⟩
    refine assoc_assocSet _ _ _ _ fun hab => ?_
    rw [hab, h e List.mem_cons_self] at ha
    cases ha

/-! ### Claims -/

/-- A resource that may be claimed beside some claims keeps them apart. -/
theorem ClaimsApart.add {s : State} {cs : List PoolClaim} {who by_ : Claimant} {cls i : Nat} (h : ClaimsApart cs)
    (hc : s.claimable cs who cls i = true) : ClaimsApart (cs ++ [⟨cls, i, by_⟩]) := by
  unfold ClaimsApart at *
  rw [List.pairwise_append]
  refine ⟨h, List.pairwise_singleton _ _, fun c hm d hd => ?_⟩
  obtain rfl := List.mem_singleton.1 hd
  simp only [State.claimable, Bool.and_eq_true, Bool.not_eq_true', List.any_eq_false] at hc
  simpa using hc.1.2 c hm

theorem ClaimsApart.filter {cs : List PoolClaim} (f : PoolClaim → Bool) (h : ClaimsApart cs) : ClaimsApart (cs.filter f) :=
  List.Pairwise.sublist List.filter_sublist h

theorem State.meet_apart {s : State} {held acc : List PoolClaim} {d : Demand} {r : List PoolClaim} (h : ClaimsApart acc)
    (hm : s.meet held acc d = some r) : ClaimsApart r := by
  unfold State.meet at hm
  dsimp only at hm
  obtain ⟨i, hi, rfl⟩ := Option.map_eq_some_iff.1 hm
  refine h.add (s := s) (who := d.who) ?_
  split at hi
  · split at hi
    · cases hi; assumption
    · cases hi
  · split at hi
    · next _ _ hf => cases hi; exact (Option.filter_eq_some_iff.1 hf).2
    · have := List.find?_some hi
      simp only [Bool.and_eq_true] at this
      exact this.2

theorem State.meetAll_apart (s : State) (held : List PoolClaim) (ds : List Demand) (acc : Option (List PoolClaim)) (r : List PoolClaim)
    (h : ∀ a, acc = some a → ClaimsApart a) (hm : s.meetAll held acc ds = some r) : ClaimsApart r := by
  unfold State.meetAll at hm
  induction ds generalizing acc with
  | nil => exact h r hm
  | cons d ds ih =>
    refine ih _ (fun a ha => ?_) hm
    cases hacc : acc with
    | none => rw [hacc] at ha; cases ha
    | some x => rw [hacc] at ha; exact State.meet_apart (h x hacc) ha

/-- The claims of a configuration are apart where those of the trace regions were (R72). -/
theorem State.resolveClaims_apart (s : State) (r : List PoolClaim) (h : ClaimsApart s.claims) (hr : s.resolveClaims = some r) :
    ClaimsApart r := by
  unfold State.resolveClaims at hr
  split at hr
  · cases hr
  · dsimp only at hr
    refine State.meetAll_apart _ _ _ _ _ (fun a ha => ?_) hr
    refine State.meetAll_apart _ _ _ _ _ (fun b hb => ?_) ha
    refine State.meetAll_apart _ _ _ _ _ (fun c hc => ?_) hb
    cases hc
    exact h.filter _

/-! ### Commits (R172, R183 to R186) -/

/-- A commit that passes its checks holds no sealed entry and leaves the claims apart. -/
theorem State.judgeCommit_ok {s : State} {es : Staging} {cs : List PoolClaim} (h : s.judgeCommit es = .inr cs) :
    (∀ e ∈ es, sealedAddr e.1.toNat = false) ∧ (s.withEntries es).claimsAfter es = some cs := by
  unfold State.judgeCommit at h
  dsimp only at h
  split at h
  · cases h
  · next hs =>
    refine ⟨fun e he => ?_, ?_⟩
    · have := List.findIdx?_eq_none_iff.1 hs e he
      simpa using this
    · split at h
      · cases h
      · split at h
        · cases h
        · split at h
          · cases h
          · next _ _ hc =>
            split at h
            · cases h
            · cases h; exact hc

theorem State.claimsAfter_apart {t : State} {es : Staging} {cs : List PoolClaim} (hc : ClaimsApart t.claims)
    (h : t.claimsAfter es = some cs) : ClaimsApart cs := by
  unfold State.claimsAfter at h
  split at h
  · exact State.resolveClaims_apart _ _ hc h
  · cases h; exact hc

theorem State.refreshHalves_base (s : State) : s.refreshHalves.base = s.base :=
  forAll_base _ _ _ fun t h => by split <;> simp only [State.refreshHalf_base]
/-- Posting a commit to the shadow leaves the base (R961). -/
theorem State.postCommit_base (t s : State) (es : Staging) : (t.postCommit s es).base = t.base :=
  forAll_base _ _ _ fun _ _ => by simp only [State.publish_base, State.modQuay_base]

theorem State.applyCommit_within {s : State} {es : Staging} {cs : List PoolClaim} (h : s.judgeCommit es = .inr cs) :
    Within s (s.applyCommit es cs) := by
  obtain ⟨hs, hc⟩ := State.judgeCommit_ok h
  have hw := State.withEntries_within s es hs
  have h1 : Within s { (s.withEntries es).refreshHalves with claims := cs } :=
    Within.others hw (State.refreshHalves_base _) fun h => State.claimsAfter_apart (hw.claims h) hc
  unfold State.applyCommit
  refine h1.base ?_
  rw [State.modBoot_base _ _ rfl rfl rfl rfl rfl, State.postCommit_base, State.startConfig_base]

theorem State.commitEntries_within (s : State) (es : Staging) : Within s (s.commitEntries es).1 := by
  unfold State.commitEntries
  split
  · exact .of_base (State.commitNotes_base _ _)
  · next h => exact State.applyCommit_within h

theorem State.doCommit_within (s : State) (es : Staging) : Within s (s.doCommit es).1 := s.commitEntries_within es
theorem State.ownCommit_within (s : State) (es : Staging) : Within s (s.ownCommit es).1 := s.commitEntries_within es

/-! ### Trace and flash -/

theorem State.releaseSlot_within (s : State) (r : Fin 16) : Within s (s.releaseSlot r) := by
  have h1 : Within s { s with claims := s.claims.filter (fun c => !(c.ofRegion r && c.cls == 0x10)) } :=
    ⟨rfl, rfl, rfl, rfl, rfl, rfl, rfl, fun _ _ => rfl, fun h => h.filter _, id⟩
  unfold State.releaseSlot
  refine h1.base ?_
  dsimp only
  split <;> simp only [State.modTrace_base, State.modTb_base]

theorem State.startSlot_within {s t u : State} (ht : Within s t) {claims : List PoolClaim} {r : Fin 16} {i : Fin 256} (period : Nat)
    (hc : ClaimsApart s.claims → ClaimsApart claims) (hf : u.freeSlot claims r = some i) : Within s (t.startSlot claims r i period) := by
  unfold State.startSlot
  dsimp only
  refine Within.base (ht.others (u := State.modTb t.drawn _) (State.modTb_base _ _) fun h => ?_) (State.modTrace_base _ _ _)
  have hcl : u.claimable claims (.trace r) 0x10 i.val = true := List.find?_some (p := fun i : Fin 256 => u.claimable claims (.trace r) 0x10 i.val) hf
  exact (hc h).add hcl

theorem State.doTraceConfig_within (s : State) (bs : List Byte) : Within s (s.doTraceConfig bs).1 := by
  unfold State.doTraceConfig
  dsimp only
  split
  · exact .refl s
  split
  · exact .refl s
  split
  · exact .refl s
  next hc =>
  have hk : ClaimsApart s.claims → ClaimsApart (s.claims.filter (fun c => !c.ofRegion (regionOf bs)) ++ [⟨0x13, (regionOf bs).val, .trace (regionOf bs)⟩]) :=
    fun h => (h.filter _).add (s := s) (who := .trace (regionOf bs)) (by simpa using hc)
  have hr : Within s ((s.releaseSlot (regionOf bs)).modTrace (regionOf bs) fun _ => .configured (traceDesc bs)) :=
    (s.releaseSlot_within _).base (State.modTrace_base _ _ _)
  split
  · exact hr.others rfl hk
  · split
    · next hf => exact State.startSlot_within hr _ hk hf
    · exact .refl s

theorem State.doTraceArm_within (s : State) (bs : List Byte) : Within s (s.doTraceArm bs).1 := by
  unfold State.doTraceArm
  dsimp only
  split
  · exact .refl s
  · split
    · exact .refl s
    · split
      · exact .of_base (State.modTrace_base _ _ _)
      · split
        · next hf => exact (State.startSlot_within (.refl s) _ id hf).base (State.modTrace_base _ _ _)
        · exact .refl s

theorem State.doTraceStop_within (s : State) (bs : List Byte) : Within s (s.doTraceStop bs).1 :=
  (s.releaseSlot_within _).base (State.modTrace_base _ _ _)

theorem State.doFlashWrite_within (s : State) (bs : List Byte) : Within s (s.doFlashWrite bs).1 := by
  unfold State.doFlashWrite
  dsimp only
  (repeat' split) <;> first | exact .refl s | exact .flash s fun hw => cellsWf_programFlash _ _ _ (by
    first | exact hw | exact cellsWf_eraseSectors _ _ _ hw)

/-! ### Commands, requests, doorbells -/

theorem State.quayCommand_within (s : State) (q : QuayNo) (m : Msg) (op : AcceptedOp) : Within s (s.quayCommand q m op).1 := by
  unfold State.quayCommand
  dsimp only
  split
  all_goals first
    | exact State.ownCommit_within _ _
    | exact .of_base (by simp only [State.doArm_base, State.doDisarm_base, State.doStart_base, State.doStop_base, State.doHold_base,
        State.doMove_base, State.doJog_base, State.doHome_base, State.ackQuay_base])

theorem State.deviceCommand_within (s : State) (m : Msg) (op : AcceptedOp) (staging : Staging) :
    Within s (s.deviceCommand m op staging).1 := by
  unfold State.deviceCommand
  dsimp only
  split
  all_goals first
    | exact State.doCommit_within _ _
    | exact State.doTraceConfig_within _ _
    | exact State.doTraceArm_within _ _
    | exact State.doTraceStop_within _ _
    | exact State.doFlashWrite_within _ _
    | exact .of_base (by simp only [State.doStopAll_base, State.doMoveGroup_base, State.ackDevice_base])

theorem State.perform_within (s : State) (m : Msg) (staging : Staging) (forwarded : Bool) : Within s (s.perform m staging forwarded).1 := by
  unfold State.perform
  dsimp only
  split
  · exact (Within.after (State.flagsFirst_base _ _) (State.quayCommand_within _ _ _ _)).base (State.noteRefusal_base _ _ _)
  · exact .of_base (by simp only [State.noteRefusal_base, State.laneCommand_base])
  · exact (Within.after (forAll_base _ _ _ State.flagsFirst_base) (State.deviceCommand_within _ _ _ _)).base (State.noteRefusal_base _ _ _)

theorem State.carryOut_within (s : State) (m : Msg) : Within s (s.carryOut m) := by
  unfold State.carryOut
  dsimp only
  generalize hs : (if m.opcode = 0x42 then s.modPort m.port (fun x => { x with staging := [] }) else s) = u
  have h : u.base = s.base := by rw [← hs]; split <;> simp only [State.modPort_base]
  split
  · exact (Within.after h (State.perform_within u m _ false)).base (State.finish_base _ _ _ _)
  · split
    · exact .of_base (by rw [State.modIh_base, State.post_base, h])
    · exact .of_base (by rw [State.finish_base, h])

theorem State.route_within (s : State) (m : Msg) : Within s (s.route m) := by
  unfold State.route
  split
  all_goals first
    | exact State.carryOut_within _ _
    | exact .of_base (by simp only [State.finish_base, State.doParamStage_base, State.doStageClear_base])

theorem State.serve_within (s : State) (p : Side) (m : MbxNo) : Within s (s.serve p m) := by
  unfold State.serve
  dsimp only
  split
  · exact .of_base (State.finish_base _ _ _ _)
  · split
    · exact .of_base (State.answer_base _ _ _ _)
    · split
      · exact .of_base (State.modPort_base _ _ _)
      · split
        · refine .of_base ?_
          unfold State.refuseCommit
          split <;> simp only [State.finish_base, State.modPort_base]
        · exact State.route_within _ _

/-- Requests held behind an earlier one stay within (R228). -/
theorem State.serveHeld_within (s : State) (p : Side) : Within s (s.serveHeld p) :=
  .after (State.modPort_base _ _ _) (Within.foldl _ _ _ fun t m => State.serve_within t p m)

theorem State.ring_within (s : State) (p : Side) (m : MbxNo) : Within s (s.ring p m) := by
  unfold State.ring
  split
  · exact .refl s
  · split
    · exact .of_base (State.spiError_base _ _ _)
    · split
      · exact .refl s
      · split
        · exact .of_base (State.spiError_base _ _ _)
        · exact .after (State.modPort_base _ _ _) (State.serve_within _ _ _)

theorem State.doorbell_within (s : State) (p : Side) (mask : Word) : Within s (s.doorbell p mask) :=
  Within.foldl _ _ _ fun t m => State.ring_within t p m

/-- A message of class 1 to 3 stays within. -/
theorem State.exchange_within (s : State) (opcode : Byte) (p : Side) (m : MbxNo) (r : Req) : Within s (s.exchange opcode p m r) := by
  unfold State.exchange
  dsimp only
  split
  · exact .refl s
  · refine .after ?_ (State.ring_within _ _ _)
    rw [State.putRequest_base]
    split <;> simp only [State.modPort_base]

theorem State.takeFrom_within (s : State) (h : Side) : Within s (s.takeFrom h) := .of_base (State.takeFrom_base _ _)

theorem State.takeForward_within (s : State) (h : Side) (m : Msg) (staging : Staging) (t : Nat) : Within s (s.takeForward h m staging t) := by
  unfold State.takeForward
  dsimp only
  split
  · exact .of_base (State.post_base _ _ _)
  split
  · have hp := State.perform_within s m staging (decide (m.port ≠ h))
    split
    · split
      · exact (hp.base (by rw [State.finish_base, State.modIh_base])).trans (State.serveHeld_within _ _)
      · exact hp
    · exact hp.base (State.post_base _ _ _)
  · split
    · exact .of_base (State.post_base _ _ _)
    · exact .refl s

theorem State.takeReply_within (s : State) (m : Msg) (r : Result) : Within s (s.takeReply m r) := by
  unfold State.takeReply
  split
  · exact .after (by rw [State.finish_base, State.modIh_base]) (State.serveHeld_within _ _)
  · exact .refl s

/-! ### Register writes -/

/-- A download chunk changes the download and BOOT_PHASE alone. -/
theorem State.takeChunk_within (s : State) (p : Side) (len : BitVec 13) : Within s (s.takeChunk p len) := by
  unfold State.takeChunk
  dsimp only
  generalize hu : (if s.dlSelected p then s.modPort p (fun x => { x with dlLen := len }) else s) = u
  have h : Within s u := .of_base (by rw [← hu]; split <;> simp only [State.modPort_base])
  refine h.trans ?_
  have hd : u.dl = s.dl := by rw [← hu]; split <;> rfl
  split
  · split
    · exact ⟨rfl, rfl, rfl, rfl, rfl, rfl, rfl, fun _ _ => rfl, id, id⟩
    · exact ⟨rfl, rfl, rfl, rfl, rfl, rfl, rfl, fun _ _ => rfl, id, fun hc => ⟨hc.1, cellsWf_writeCells _ _ _ _ (hd ▸ hc.2)⟩⟩
  · exact .refl u

theorem State.writeDlCtrl_within (s : State) (p : Side) (v : Word) : Within s (s.writeDlCtrl p v) := by
  unfold State.writeDlCtrl
  dsimp only
  split
  · exact .after (State.modPort_base _ _ _) (State.takeChunk_within _ _ _)
  · exact .of_base (State.modPort_base _ _ _)

theorem State.writeReg_within (s : State) (p : Side) (a : Nat) (v : Word) : Within s (s.writeReg p a v) := by
  unfold State.writeReg
  split
  · split
    · exact State.writeDlCtrl_within _ _ _
    · exact .refl s
  case h_2 => split <;> exact .of_base (by rfl)
  case h_3 => split <;> exact ⟨rfl, rfl, rfl, rfl, rfl, rfl, rfl, fun _ _ => rfl, id, id⟩
  case h_6 => exact State.doorbell_within _ _ _
  all_goals first
    | exact .of_base (by first | rfl | (split <;> rfl))

theorem State.writeBytes_within (s : State) (p : Side) (a : Nat) (bs : List Byte) : Within s (s.writeBytes p a bs) := by
  fun_induction State.writeBytes s p a bs with
  | case1 => exact .refl _
  | case2 s a b0 b1 b2 b3 rest h h' ih => exact (State.writeReg_within _ _ _ _).trans ih
  | case3 s a b0 b1 b2 b3 rest h h' ih => exact .after (State.spiError_base _ _ _) ih
  | case4 s a b0 b1 b2 b3 rest h ih => exact .after (State.writeBufByte_base _ _ _ _) ih
  | case5 s a b0 rest h ih =>
    refine .after ?_ ih
    split <;> simp only [State.spiError_base, State.writeBufByte_base]

/-- A write transaction stays within. -/
theorem State.transaction_within (s : State) (p : Side) (a : Nat) (data : List Byte) (incomplete : Bool) :
    Within s (s.transaction p a data incomplete) := by
  have ha : ∀ t : State, (if incomplete then t.abortAt p ((a + data.length) % 65536) else t).base = t.base := fun t => by
    split <;> simp only [State.abortAt_base]
  unfold State.transaction
  cases hd : (s.portsDead || data.length + (if incomplete = true then 1 else 0) == 0) with
  | true => simp only [hd, if_true]; exact .refl s
  | false =>
    simp only [hd, Bool.false_eq_true, if_false]
    cases c0ReqAt a with
    | some mb =>
      dsimp only
      by_cases hw : a % 32 = 0 ∧ data.length = 16
      · rw [if_pos hw]; exact .of_base ((ha _).trans (State.classZero_base _ _ _ _ _))
      · rw [if_neg hw]; exact .of_base ((ha _).trans (State.c0Discard_base _ _))
    | none => exact (State.writeBytes_within s p a data).base ((ha _).trans (foldl_base _ _ _ (fun t _ => State.c0Discard_base t p)))

end Sys2Proof.Machine
end

