-- ==== Sys2Proof/Laws/ExecWithin.lean ====
section
/-! SUPPORT. Every command but reset, boot and fuse commands stays within (`Within`): one lemma for each meaning. -/

namespace Sys2Proof.Machine

set_option linter.unusedSimpArgs false

/-- An outcome that leaves the base as it is. -/
theorem baseOfNext {s t u : State} (hb : u.base = s.base) (h : (Host.Outcome.next u : Host.Outcome State Fault Refusal) = .next t) :
    t.base = s.base := by
  injection h with h
  exact h ▸ hb

/-- An outcome that a condition decides. -/
theorem baseOfIte {s t : State} {c : Prop} [Decidable c] {a b : Host.Outcome State Fault Refusal} (h : (if c then a else b) = .next t)
    (ha : a = .next t → t.base = s.base) (hb : b = .next t → t.base = s.base) : t.base = s.base := by
  by_cases hc : c
  · exact ha (by rwa [if_pos hc] at h)
  · exact hb (by rwa [if_neg hc] at h)

theorem execFaultArrival_base (i : Nat) {s t : State} (h : execFaultArrival i s = .next t) : t.base = s.base := by
  unfold execFaultArrival at h; (repeat' split at h) <;> cases h <;> first | rfl | exact (by simp only [State.modFlt_base, State.free_base, State.groups_base])
theorem execFaultOrdered_base {s t : State} (h : execFaultOrdered s = .next t) : t.base = s.base := by
  unfold execFaultOrdered at h; (repeat' split at h) <;> cases h <;> first | rfl | exact (by simp only [State.noteSuspect_base, forAll_base, apply_ite State.base, ite_self, State.modFlt_base, State.processFault_base, State.syncLegs_base, foldl_base, implies_true, State.free_base, State.groups_base])
theorem execConseqWindowEnd_base (i : Nat) {s t : State} (h : execConseqWindowEnd i s = .next t) : t.base = s.base := by
  unfold execConseqWindowEnd at h; (repeat' split at h) <;> cases h <;> first | rfl | exact (by simp only [apply_ite State.base, ite_self, State.modFlt_base, State.free_base, State.groups_base])
theorem execErrPulseEnd_base {s t : State} (h : execErrPulseEnd s = .next t) : t.base = s.base := by
  unfold execErrPulseEnd at h; (repeat' split at h) <;> cases h <;> first | rfl | exact (by simp only [State.modFlt_base, State.free_base, State.groups_base])
theorem execFabricStall_base {s t : State} (h : execFabricStall s = .next t) : t.base = s.base := by
  cases h; exact (by simp only [apply_ite State.base, ite_self, State.modBrk_base, State.modFlt_base, State.applyReaction_base, State.countFault_base, State.pulse_base, State.syncLegs_base, State.writeRecord_base, State.free_base, State.groups_base])
theorem execCheckTrip_base (h : Side) (cause : TripCause) (engine : Byte) {s t : State} (h : execCheckTrip h cause engine s = .next t) : t.base = s.base := by
  unfold execCheckTrip at h; (repeat' split at h) <;> cases h <;> first | rfl | exact (by simp only [State.raiseHalf_base, State.resetHalf_base])
theorem execHeartbeatTimeout_base (h : Side) {s t : State} (h : execHeartbeatTimeout h s = .next t) : t.base = s.base := by
  unfold execHeartbeatTimeout at h; (repeat' split at h) <;> cases h <;> first | rfl | exact (by simp only [State.raiseHalf_base, State.resetHalf_base])
theorem execCheckSelftest_base (h : Side) (pass : Bool) {s t : State} (h : execCheckSelftest h pass s = .next t) : t.base = s.base := by
  unfold execCheckSelftest at h; (repeat' split at h) <;> cases h <;> first | rfl | exact (by simp only [State.modHalf_base, State.raiseHalf_base, State.post_base, State.resetHalf_base, State.free_base, State.groups_base])
theorem execIhPatch_base (ok : Bool) {s t : State} (h : execIhPatch ok s = .next t) : t.base = s.base := by
  unfold execIhPatch at h; (repeat' split at h) <;> cases h <;> first | rfl | exact (by simp only [State.modHalf_base, State.raiseHalf_base, State.ackFrom_base, State.popFrom_base, State.resetHalf_base, State.ackOne_base, State.ackQuay_base, State.free_base, State.groups_base])
theorem execHalfRejoin_base (h : Side) {s t : State} (h : execHalfRejoin h s = .next t) : t.base = s.base := by
  unfold execHalfRejoin at h; dsimp only at h; (repeat' split at h) <;> cases h <;> first | rfl | exact (by simp only [State.refreshHalf_base, foldl_base, apply_ite State.base, ite_self, State.modHalf_base, State.modPort_base, State.modQuay_base, State.evalForce_base, State.grantTo_base, State.post_base, State.ackOne_base, State.ackQuay_base, forAll_base, implies_true, State.free_base, State.groups_base])
theorem execIhChange_base {s t : State} (h : execIhChange s = .next t) : t.base = s.base := by
  unfold execIhChange at h; (repeat' split at h) <;> cases h <;> first | rfl | exact (by simp only [State.modIh_base, State.modQuay_base, State.popFrom_base, State.free_base, State.groups_base])
theorem execIhChangeAck_base {s t : State} (h : execIhChangeAck s = .next t) : t.base = s.base := by
  unfold execIhChangeAck at h; (repeat' split at h) <;> cases h <;> first | rfl | exact (by simp only [State.modIh_base, State.ackFrom_base, State.popFrom_base, State.ackOne_base, State.ackQuay_base, State.free_base, State.groups_base])
theorem execIhKstate_base {s t : State} (h : execIhKstate s = .next t) : t.base = s.base := by
  unfold execIhKstate at h; (repeat' split at h) <;> cases h <;> first | rfl | exact (by simp only [State.modHm_base, State.modQuay_base, State.ackFrom_base, State.popFrom_base, State.ackOne_base, State.ackQuay_base, State.free_base, State.groups_base])
theorem execIhAliveSend_base (h : Side) {s t : State} (h : execIhAliveSend h s = .next t) : t.base = s.base := by
  unfold execIhAliveSend at h; (repeat' split at h) <;> cases h <;> first | rfl | exact (by simp only [State.post_base])
theorem execIhAck_base {s t : State} (h : execIhAck s = .next t) : t.base = s.base := by
  unfold execIhAck at h; dsimp only at h; (repeat' split at h) <;> cases h <;> first | rfl | exact (by simp only [State.ackFrom_base, State.popFrom_base, State.ackOne_base, State.ackQuay_base, State.free_base, State.groups_base])
theorem execHalfLink_base {s t : State} (h : execHalfLink s = .next t) : t.base = s.base := by
  unfold execHalfLink at h; (repeat' split at h) <;> cases h <;> first | rfl | exact (by simp only [State.modIh_base, State.raiseDevice_base, State.loseAdmission_base, State.ackOne_base, State.ackQuay_base, foldl_base, implies_true, State.free_base, State.groups_base])
theorem execMforceAssert_base (h : Side) {s t : State} (h : execMforceAssert h s = .next t) : t.base = s.base := by
  unfold execMforceAssert at h; dsimp only at h; (repeat' split at h) <;> cases h <;> first | rfl | exact (by simp only [State.modHm_base, State.raiseDevice_base, State.evalForce_base, State.free_base, State.groups_base])
theorem execMforceRelease_base (h : Side) {s t : State} (h : execMforceRelease h s = .next t) : t.base = s.base := by
  unfold execMforceRelease at h; (repeat' split at h) <;> cases h <;> first | rfl | exact (by simp only [State.modHm_base, State.evalForce_base, State.free_base, State.groups_base])
theorem execLegCommandArrival_base (l : LegNo) (h : Side) (claim : Claim) (src : LegCmdSource) {s t : State} (h : execLegCommandArrival l h claim src s = .next t) : t.base = s.base := by
  unfold execLegCommandArrival at h; dsimp only at h; (repeat' split at h) <;> cases h <;> first | rfl | exact (by simp only [apply_ite State.base, ite_self, State.modHm_base, State.modLeg_base, State.compareLeg_base, State.countMismatch_base, State.evalForce_base, State.sendCmd_base, State.free_base, State.groups_base])
theorem execUpdatePoint_base (q : QuayNo) {s t : State} (h : execUpdatePoint q s = .next t) : t.base = s.base := by
  unfold execUpdatePoint at h; dsimp only at h; (repeat' split at h) <;> cases h <;> first | rfl | exact (by simp only [State.modQuay_base, State.raise_base, State.raiseQuay_base, State.emitSteps_base, State.legUpdate_base, State.syncLegs_base, forAll_base, implies_true, State.free_base, State.groups_base])
theorem execGateWatch_base (l : LegNo) (sw : Switch) {s t : State} (h : execGateWatch l sw s = .next t) : t.base = s.base := by
  unfold execGateWatch at h; (repeat' split at h) <;> cases h <;> first | rfl | exact (by simp only [apply_ite State.base, ite_self, State.modLeg_base, State.raiseLeg_base, State.free_base, State.groups_base])
theorem execGateOnUncommanded_base (l : LegNo) (sw : Switch) {s t : State} (h : execGateOnUncommanded l sw s = .next t) : t.base = s.base := by
  unfold execGateOnUncommanded at h; (repeat' split at h) <;> cases h <;> first | rfl | exact (by simp only [apply_ite State.base, ite_self, State.raiseLeg_base])
theorem execGateOnTimeout_base (l : LegNo) (_sw : Switch) {s t : State} (h : execGateOnTimeout l _sw s = .next t) : t.base = s.base := by
  unfold execGateOnTimeout at h; (repeat' split at h) <;> cases h <;> first | rfl | exact (by simp only [apply_ite State.base, ite_self, State.raiseLeg_base])
theorem execBootRefresh_base (l : LegNo) {s t : State} (h : execBootRefresh l s = .next t) : t.base = s.base := by
  unfold execBootRefresh at h; dsimp only at h; (repeat' split at h) <;> cases h <;> first | rfl | exact (by simp only [apply_ite State.base, ite_self, State.refreshPulse_base, State.free_base, State.groups_base])
theorem execRefreshRepeat_base (l : LegNo) {s t : State} (h : execRefreshRepeat l s = .next t) : t.base = s.base := by
  unfold execRefreshRepeat at h; (repeat' split at h) <;> cases h <;> first | rfl | exact (by simp only [apply_ite State.base, ite_self, State.refreshPulse_base, State.free_base, State.groups_base])
theorem execBootUv_base (l : LegNo) {s t : State} (h : execBootUv l s = .next t) : t.base = s.base := by
  unfold execBootUv at h; (repeat' split at h) <;> cases h <;> first | rfl | exact (by simp only [apply_ite State.base, ite_self, State.modLeg_base, State.raiseQuay_base, State.free_base, State.groups_base])
theorem execBootUvClear_base (l : LegNo) {s t : State} (h : execBootUvClear l s = .next t) : t.base = s.base := by
  unfold execBootUvClear at h; (repeat' split at h) <;> cases h <;> first | rfl | exact (by simp only [apply_ite State.base, ite_self, State.modLeg_base, State.free_base, State.groups_base])
theorem execShortCircuit_base (l : LegNo) (d : Detector) (current : Int) {s t : State} (h : execShortCircuit l d current s = .next t) : t.base = s.base := by
  unfold execShortCircuit at h; (repeat' split at h) <;> cases h <;> first | rfl | exact (by simp only [apply_ite State.base, ite_self, State.modLeg_base, State.shortCircuit_base, State.syncLegs_base, State.free_base, State.groups_base])
theorem execBlankingEnd_base (l : LegNo) (current : Int) {s t : State} (h : execBlankingEnd l current s = .next t) : t.base = s.base := by
  unfold execBlankingEnd at h; (repeat' split at h) <;> cases h <;> first | rfl | exact (by simp only [apply_ite State.base, ite_self, State.modLeg_base, State.raiseQuay_base, State.shortCircuit_base, State.syncLegs_base, State.free_base, State.groups_base])
theorem execVmOv_base (d : DieNo) (mv : Nat) {s t : State} (h : execVmOv d mv s = .next t) : t.base = s.base := by
  unfold execVmOv at h; (repeat' split at h) <;> cases h <;> first | rfl | exact (by simp only [State.modSupply_base, State.raiseDie_base, State.free_base, State.groups_base])
theorem execVmUv_base (d : DieNo) (mv : Nat) {s t : State} (h : execVmUv d mv s = .next t) : t.base = s.base := by
  unfold execVmUv at h; dsimp only at h; (repeat' split at h) <;> cases h <;> first | rfl | exact (by simp only [State.modSupply_base, State.raiseDie_base, State.free_base, State.groups_base])
theorem execChopperOn_base (c : ChopperRef) {s t : State} (h : execChopperOn c s = .next t) : t.base = s.base := by
  unfold execChopperOn at h; dsimp only at h; (repeat' split at h) <;> cases h <;> first | rfl | exact (by simp only [State.setChopper_base, State.free_base, State.groups_base])
theorem execChopperOff_base (c : ChopperRef) {s t : State} (h : execChopperOff c s = .next t) : t.base = s.base := by
  unfold execChopperOff at h; dsimp only at h; (repeat' split at h) <;> cases h <;> first | rfl | exact (by simp only [State.setChopper_base, State.free_base, State.groups_base])
theorem execChopperLong_base (m : Fin 4) {s t : State} (h : execChopperLong m s = .next t) : t.base = s.base := by
  unfold execChopperLong at h; (repeat' split at h) <;> cases h <;> first | rfl | exact (by simp only [State.raiseChopper_base])
theorem execEnableLow_base (g : GroupNo) {s t : State} (h : execEnableLow g s = .next t) : t.base = s.base := by
  unfold execEnableLow at h; (repeat' split at h) <;> cases h <;> first | rfl | exact (by simp only [apply_ite State.base, ite_self, State.modBrk_base, State.modPins_base, State.raiseEnableLow_base, State.syncLegs_base, State.free_base, State.groups_base])
theorem execEnableToggle_base (g : GroupNo) {s t : State} (h : execEnableToggle g s = .next t) : t.base = s.base := by
  unfold execEnableToggle at h; dsimp only at h; (repeat' split at h) <;> cases h <;> first | rfl | exact (by simp only [foldl_base, apply_ite State.base, ite_self, State.modPins_base, State.raiseQuay_base, State.sendMask_base, State.syncLegs_base, State.unlatch_base, forAll_base, implies_true, State.free_base, State.groups_base])
theorem execHaltAssert_base (ch : Side) {s t : State} (h : execHaltAssert ch s = .next t) : t.base = s.base := by
  unfold execHaltAssert at h; (repeat' split at h) <;> cases h <;> first | rfl | exact (by simp only [State.modPins_base, State.raiseEnableLow_base, State.syncLegs_base, State.free_base, State.groups_base])
theorem execHaltRelease_base (ch : Side) {s t : State} (h : execHaltRelease ch s = .next t) : t.base = s.base := by
  cases h; exact (by simp only [State.modPins_base, State.syncLegs_base, State.free_base, State.groups_base])
theorem execHaltDisc_base {s t : State} (h : execHaltDisc s = .next t) : t.base = s.base := by
  unfold execHaltDisc at h; (repeat' split at h) <;> cases h <;> first | rfl | exact (by simp only [State.modPins_base, State.free_base, State.groups_base])
theorem execDelayLineCal_base (within : Bool) {s t : State} (h : execDelayLineCal within s = .next t) : t.base = s.base := by
  unfold execDelayLineCal at h; (repeat' split at h) <;> cases h <;> first | rfl | exact (by simp only [State.modTb_base, State.free_base, State.groups_base])
theorem execRefLoss_base {s t : State} (h : execRefLoss s = .next t) : t.base = s.base := by
  unfold execRefLoss at h; (repeat' split at h) <;> cases h <;> first | rfl | exact (by simp only [State.modTb_base, State.raiseDevice_base, State.ackOne_base, State.ackQuay_base, State.free_base, State.groups_base])
theorem execCaptureEdge_base (c : Fin 32) (rising : Bool) {s t : State} (h : execCaptureEdge c rising s = .next t) : t.base = s.base := by
  unfold execCaptureEdge at h; (repeat' split at h) <;> cases h <;> first | rfl | exact (by simp only [State.modTb_base, State.overrun_base, State.free_base, State.groups_base])
theorem execTimedEvent_base (slot : Fin 256) {s t : State} (h : execTimedEvent slot s = .next t) : t.base = s.base := by
  unfold execTimedEvent at h; (repeat' split at h) <;> cases h <;> first | rfl | exact (by simp only [State.slotFired_base])
theorem execSdcResync_base (m : Fin 4) {s t : State} (h : execSdcResync m s = .next t) : t.base = s.base := by
  unfold execSdcResync at h; (repeat' split at h) <;> cases h <;> first | rfl | exact (by simp only [State.modTb_base, apply_ite State.base, ite_self, State.slotFired_base, State.free_base, State.groups_base])
theorem execSensorWindowEnd_base (counts : Vector Nat 16) (temps : Vector Int 24) {s t : State} (h : execSensorWindowEnd counts temps s = .next t) : t.base = s.base := by
  unfold execSensorWindowEnd at h
  refine baseOfIte h (baseOfNext ?_) (baseOfNext rfl)
  simp only [apply_ite State.base, ite_self, State.modThm_base, State.ctlShutdown_base, State.dieShutdown_base, State.factorWindow_base, State.marginWindow_base, State.throttleEpisode_base]
theorem execSupplyWarning_base (rail : Rail) (side : LowHigh) (value : Int) {s t : State} (h : execSupplyWarning rail side value s = .next t) : t.base = s.base := by
  unfold execSupplyWarning at h; (repeat' split at h) <;> cases h <;> first | rfl | exact (by simp only [apply_ite State.base, ite_self, State.modSupply_base, State.raiseSupply_base])
theorem execSupplyWarningEnd_base (rail : Rail) (side : LowHigh) {s t : State} (h : execSupplyWarningEnd rail side s = .next t) : t.base = s.base := by
  cases h; exact (by simp only [State.modSupply_base])
theorem execVgdHold_base (d : DieNo) {s t : State} (h : execVgdHold d s = .next t) : t.base = s.base := by
  unfold execVgdHold at h; (repeat' split at h) <;> cases h <;> first | rfl | exact (by simp only [State.modBrk_base, State.modSupply_base, State.free_base, State.groups_base])
theorem execVgdHoldRelease_base (d : DieNo) {s t : State} (h : execVgdHoldRelease d s = .next t) : t.base = s.base := by
  cases h; exact (by simp only [State.modSupply_base, State.free_base, State.groups_base])
theorem execSignalDetect_base (n : LaneNo) {s t : State} (h : execSignalDetect n s = .next t) : t.base = s.base := by
  unfold execSignalDetect at h; dsimp only at h; (repeat' split at h) <;> cases h <;> first | rfl | exact (by simp only [State.modLane_base, State.free_base, State.groups_base])
theorem execTrainRetry_base (n : LaneNo) {s t : State} (h : execTrainRetry n s = .next t) : t.base = s.base := by
  unfold execTrainRetry at h; (repeat' split at h) <;> cases h <;> first | rfl | exact (by simp only [State.modLane_base, State.free_base, State.groups_base])
theorem execRxOkSet_base (l : LinkRef) {s t : State} (h : execRxOkSet l s = .next t) : t.base = s.base := by
  unfold execRxOkSet at h; dsimp only at h; (repeat' split at h) <;> cases h <;> first | rfl | exact (by simp only [State.modHwPort_base, State.modLane_base, State.free_base, State.groups_base])
theorem execTrainingComplete_base (l : LinkRef) {s t : State} (h : execTrainingComplete l s = .next t) : t.base = s.base := by
  unfold execTrainingComplete at h; dsimp only at h; (repeat' split at h) <;> cases h <;> first | rfl | exact (by simp only [State.modHwPort_base, State.modLane_base, State.free_base, State.groups_base])
theorem execGwPong_base (n : LaneNo) (seq : Byte) (turnaround : Word) {s t : State} (h : execGwPong n seq turnaround s = .next t) : t.base = s.base := by
  unfold execGwPong at h; dsimp only at h; (repeat' split at h) <;> cases h <;> first | rfl | exact (by simp only [State.modLane_base, State.free_base, State.groups_base])
theorem execGwIdent_base (n : LaneNo) (ident : Ident) {s t : State} (h : execGwIdent n ident s = .next t) : t.base = s.base := by
  unfold execGwIdent at h; dsimp only at h; (repeat' split at h) <;> cases h <;> first | rfl | exact (by simp only [State.modLane_base, State.raiseLane_base, State.eventAll_base, State.sendLane_base, State.free_base, State.groups_base])
theorem execIdentTimeout_base (n : LaneNo) {s t : State} (h : execIdentTimeout n s = .next t) : t.base = s.base := by
  unfold execIdentTimeout at h; dsimp only at h; (repeat' split at h) <;> cases h <;> first | rfl | exact (by simp only [State.modLane_base, State.free_base, State.groups_base])
theorem execGwTrainFail_base (n : LaneNo) {s t : State} (h : execGwTrainFail n s = .next t) : t.base = s.base := by
  unfold execGwTrainFail at h; dsimp only at h; (repeat' split at h) <;> cases h <;> first | rfl | exact (by simp only [State.modLane_base, State.raiseLane_base, State.eventAll_base, State.free_base, State.groups_base])
theorem execGwSyncSend_base (n : LaneNo) {s t : State} (h : execGwSyncSend n s = .next t) : t.base = s.base := by
  unfold execGwSyncSend at h; dsimp only at h; (repeat' split at h) <;> cases h <;> first | rfl | exact (by simp only [State.modLane_base, State.free_base, State.groups_base])
theorem execGwStatus_base (n : LaneNo) (frame : StatusFrame) {s t : State} (h : execGwStatus n frame s = .next t) : t.base = s.base := by
  unfold execGwStatus at h
  have hb : ∀ (u : State) (o : Option InternalBlock), (match o with
      | some b => if 16 ≤ n.val then u.internalBlock n b else u
      | none => u).base = u.base := by
    intro u o; cases o
    · rfl
    · dsimp only; split
      · exact State.internalBlock_base _ _ _
      · rfl
  refine baseOfIte h (fun h => baseOfIte h (baseOfNext ?_) (baseOfNext ?_)) (baseOfNext rfl)
  · rw [State.modLane_base, State.modLane_base]
  · rw [State.syncLegs_base, forAll_base _ _ _ (fun u q => State.inputArrived_base u q _ _)]
    refine (hb _ frame.internal).trans ?_
    rw [foldl_base _ _ _ (fun u e => State.statusEntry_base u n e)]
    split
    · rw [forAll_base _ _ _ (fun u q => State.raiseQuay_base u _ q _), State.modLane_base, State.modLane_base]
    · rw [State.modLane_base, State.modLane_base]
theorem execLaneLoss_base (n : LaneNo) {s t : State} (h : execLaneLoss n s = .next t) : t.base = s.base := by
  unfold execLaneLoss at h; dsimp only at h; (repeat' split at h) <;> cases h <;> first | rfl | exact (by simp only [State.modLane_base, State.modLeg_base, State.raiseLane_base, State.raiseQuay_base, State.dropSets_base, forAll_base, implies_true, State.free_base, State.groups_base, apply_ite State.base, ite_self])
theorem execGwBadFrame_base (n : LaneNo) (reason : BadFrame) {s t : State} (h : execGwBadFrame n reason s = .next t) : t.base = s.base := by
  unfold execGwBadFrame at h; (repeat' split at h) <;> cases h <;> first | rfl | exact (by simp only [State.modLane_base, State.raiseLane_base, State.free_base, State.groups_base])
theorem execProbeEdge_base (q : QuayNo) (rising : Bool) {s t : State} (h : execProbeEdge q rising s = .next t) : t.base = s.base := by
  unfold execProbeEdge at h; dsimp only at h; (repeat' split at h) <;> cases h <;> first | rfl | exact (by simp only [State.probeSettle_base, State.probeResolve_base, apply_ite State.base, ite_self, State.drawn_base, State.modQuay_base, State.probeStore_base, State.probeStoreRat_base, State.pulse_base, State.free_base, State.groups_base])
theorem execEmulationTiming_base (k : CellNo) {s t : State} (h : execEmulationTiming k s = .next t) : t.base = s.base := by
  unfold execEmulationTiming at h; (repeat' split at h) <;> cases h <;> first | rfl | exact (by simp only [apply_ite State.base, ite_self, State.modCell_base])
theorem execFbEdge_base (k : CellNo) (a : Bool) (b : Bool) {s t : State} (h : execFbEdge k a b s = .next t) : t.base = s.base := by
  unfold execFbEdge at h; dsimp only at h; (repeat' split at h) <;> cases h <;> first | rfl | exact (by simp only [apply_ite State.base, ite_self, State.modCell_base, State.countStep_base, State.illegal_base, State.free_base, State.groups_base])
theorem execHallChange_base (k : CellNo) (st : BitVec 3) {s t : State} (h : execHallChange k st s = .next t) : t.base = s.base := by
  unfold execHallChange at h; dsimp only at h; (repeat' split at h) <;> cases h <;> first | rfl | exact (by simp only [apply_ite State.base, ite_self, State.modCell_base, State.countStep_base, State.illegal_base, State.raiseCell_base, State.free_base, State.groups_base])
theorem execIndexLatch_base (k : CellNo) {s t : State} (h : execIndexLatch k s = .next t) : t.base = s.base := by
  unfold execIndexLatch at h
  refine baseOfIte h (fun h => ?_) (baseOfNext rfl)
  split at h
  · cases h; simp only [State.modCell_base]
  · refine baseOfIte h (baseOfNext ?_) (fun h => baseOfIte h (baseOfNext ?_) (baseOfNext ?_))
    all_goals simp only [State.modCell_base, State.clearUnsure_base, State.raiseCell_base, State.setUnsure_base]
theorem execFbWire_base (k : CellNo) {s t : State} (h : execFbWire k s = .next t) : t.base = s.base := by
  unfold execFbWire at h; (repeat' split at h) <;> cases h <;> first | rfl | exact (by simp only [apply_ite State.base, ite_self, State.modCell_base, State.raiseCell_base, State.free_base, State.groups_base])
theorem execFbWireClear_base (k : CellNo) {s t : State} (h : execFbWireClear k s = .next t) : t.base = s.base := by
  unfold execFbWireClear at h; (repeat' split at h) <;> cases h <;> first | rfl | exact (by simp only [State.modCell_base, State.free_base, State.groups_base])
theorem execFbStillTimeout_base (k : CellNo) {s t : State} (h : execFbStillTimeout k s = .next t) : t.base = s.base := by
  unfold execFbStillTimeout at h; dsimp only at h; (repeat' split at h) <;> cases h <;> first | rfl | exact (by simp only [State.give_base, apply_ite State.base, ite_self, State.modCell_base, State.free_base, State.groups_base])
theorem execComparePulseEnd_base (k : CellNo) {s t : State} (h : execComparePulseEnd k s = .next t) : t.base = s.base := by
  unfold execComparePulseEnd at h; (repeat' split at h) <;> cases h <;> first | rfl | exact (by simp only [State.modCell_base, State.free_base, State.groups_base])
theorem execSsiFrameEnd_base (k : CellNo) (frame : SsiFrame) {s t : State} (h : execSsiFrameEnd k frame s = .next t) : t.base = s.base := by
  unfold execSsiFrameEnd at h; dsimp only at h; (repeat' split at h) <;> cases h <;> first | rfl | exact (by simp only [apply_ite State.base, ite_self, State.modCell_base, State.compareMove_base, State.deliverPosition_base, State.deliverStale_base, State.probeResolve_base, State.raiseCell_base, State.free_base, State.groups_base])
theorem execQuadrantChange_base (k : CellNo) (a : Bool) (b : Bool) {s t : State} (h : execQuadrantChange k a b s = .next t) : t.base = s.base := by
  unfold execQuadrantChange at h; dsimp only at h; (repeat' split at h) <;> cases h <;> first | rfl | exact (by simp only [apply_ite State.base, ite_self, State.modCell_base, State.illegal_base, State.free_base, State.groups_base])
theorem execSdValueReady_base (n : Fin 16) (bits : List Bool) {s t : State} (h : execSdValueReady n bits s = .next t) : t.base = s.base := by
  unfold execSdValueReady at h
  refine baseOfIte h (fun h => ?_) (baseOfNext rfl)
  dsimp only at h
  (repeat' split at h) <;> cases h <;> first | rfl | simp only [State.inputArrived_base, State.modSd_base]
theorem execSdOverrange_base (n : Fin 16) {s t : State} (h : execSdOverrange n s = .next t) : t.base = s.base := by
  unfold execSdOverrange at h; (repeat' split at h) <;> cases h <;> first | rfl | exact (by simp only [apply_ite State.base, ite_self, State.modSd_base, State.raiseQuay_base, State.free_base, State.groups_base])
theorem execLimitInputChange_base (q : QuayNo) (side : LimitSide) (shown : LimitLevel) {s t : State} (h : execLimitInputChange q side shown s = .next t) : t.base = s.base := by
  cases h; exact State.modQuay_base _ _ _
theorem execMirrorRefresh_base (q : QuayNo) {s t : State} (h : execMirrorRefresh q s = .next t) : t.base = s.base := by
  unfold execMirrorRefresh at h; (repeat' split at h) <;> cases h <;> first | rfl | exact (by simp only [State.modQuay_base, State.free_base, State.groups_base])
theorem execTraceCapture_base (r : Fin 16) (share : Bool) {s t : State} (h : execTraceCapture r share s = .next t) : t.base = s.base := by
  unfold execTraceCapture at h; (repeat' split at h) <;> cases h <;> first | rfl | exact (by simp only [State.capture_base, State.slotFired_base, State.free_base, State.groups_base])
theorem execSnapshotComplete_base (q : QuayNo) {s t : State} (h : execSnapshotComplete q s = .next t) : t.base = s.base := by
  unfold execSnapshotComplete at h; (repeat' split at h) <;> cases h <;> first | rfl | exact (by simp only [apply_ite State.base, ite_self, State.closeSnapshot_base])
theorem execMoveArrival_base (q : QuayNo) {s t : State} (h : execMoveArrival q s = .next t) : t.base = s.base := by
  unfold execMoveArrival at h; (repeat' split at h) <;> cases h <;> first | rfl | exact (by simp only [State.eventOpt_base, State.finishGroups_base, State.modCore_base, State.modGen_base, State.free_base, State.groups_base])
theorem execSpeedError_base (q : QuayNo) {s t : State} (h : execSpeedError q s = .next t) : t.base = s.base := by
  unfold execSpeedError at h; dsimp only at h; (repeat' split at h) <;> cases h <;> first | rfl | exact (by simp only [State.raiseQuay_base, State.modReg_base, State.free_base, State.groups_base])
theorem execTensionHigh_base (q : QuayNo) {s t : State} (h : execTensionHigh q s = .next t) : t.base = s.base := by
  unfold execTensionHigh at h; (repeat' split at h) <;> cases h <;> first | rfl | exact (by simp only [State.raiseQuay_base, State.modReg_base, State.free_base, State.groups_base])
theorem execIfTimeout_base (q : QuayNo) {s t : State} (h : execIfTimeout q s = .next t) : t.base = s.base := by
  unfold execIfTimeout at h; dsimp only at h; (repeat' split at h) <;> cases h <;> first | rfl | exact (by simp only [State.raiseQuay_base, State.recatch_base, State.free_base, State.groups_base])
theorem execObserveWindowEnd_base (q : QuayNo) {s t : State} (h : execObserveWindowEnd q s = .next t) : t.base = s.base := by
  unfold execObserveWindowEnd at h; dsimp only at h; (repeat' split at h) <;> cases h <;> first | rfl | exact (by simp only [apply_ite State.base, ite_self, State.drawn_base, State.modReg_base, State.observed_base, State.free_base, State.groups_base])
theorem execCatchTimeout_base (q : QuayNo) {s t : State} (h : execCatchTimeout q s = .next t) : t.base = s.base := by
  unfold execCatchTimeout at h; dsimp only at h; (repeat' split at h) <;> cases h <;> first | rfl | exact (by simp only [State.raiseQuay_base, State.modReg_base, State.free_base, State.groups_base])
theorem execHomeStallDetect_base (q : QuayNo) {s t : State} (h : execHomeStallDetect q s = .next t) : t.base = s.base := by
  unfold execHomeStallDetect at h; dsimp only at h; (repeat' split at h) <;> cases h <;> first | rfl | exact (by simp only [State.declareStall_base, State.modReg_base, State.free_base, State.groups_base])
theorem execHoldDelayExpiry_base (q : QuayNo) {s t : State} (h : execHoldDelayExpiry q s = .next t) : t.base = s.base := by
  unfold execHoldDelayExpiry at h; dsimp only at h; (repeat' split at h) <;> cases h <;> first | rfl | exact (by simp only [State.modStep_base, State.free_base, State.groups_base])
theorem execIbexSaturationStall_base (q : QuayNo) {s t : State} (h : execIbexSaturationStall q s = .next t) : t.base = s.base := by
  unfold execIbexSaturationStall at h; (repeat' split at h) <;> cases h <;> first | rfl | exact (by simp only [State.declareStall_base, State.modReg_base, State.free_base, State.groups_base])
theorem execArmComplete_base (q : QuayNo) {s t : State} (h : execArmComplete q s = .next t) : t.base = s.base := by
  unfold execArmComplete at h; dsimp only at h; (repeat' split at h) <;> cases h <;> first | rfl | exact (by simp only [apply_ite State.base, ite_self, State.modQuay_base, State.enter_base, State.eventOpt_base, State.free_base, State.groups_base])
theorem execArmTimeout_base (q : QuayNo) {s t : State} (h : execArmTimeout q s = .next t) : t.base = s.base := by
  unfold execArmTimeout at h; dsimp only at h; (repeat' split at h) <;> cases h <;> first | rfl | exact (by simp only [State.abandonArm_base])
theorem execHwPortUp_base (p : Side) {s t : State} (h : execHwPortUp p s = .next t) : t.base = s.base := by
  unfold execHwPortUp at h; dsimp only at h; (repeat' split at h) <;> cases h <;> first | rfl | exact (by simp only [State.modHw_base, State.modHwPort_base, State.openWindowHw_base, State.sendDisc_base, State.free_base, State.groups_base])
theorem execHwPortLoss_base (p : Side) {s t : State} (h : execHwPortLoss p s = .next t) : t.base = s.base := by
  unfold execHwPortLoss at h; dsimp only at h; (repeat' split at h) <;> cases h <;> first | rfl | exact (by simp only [State.modHw_base, State.modHwPort_base, State.openWindowHw_base, State.originate_base, State.sendDisc_base, State.free_base, State.groups_base])
theorem execHwDiscSend_base {s t : State} (h : execHwDiscSend s = .next t) : t.base = s.base := by
  unfold execHwDiscSend at h; (repeat' split at h) <;> cases h <;> first | rfl | exact (by simp only [State.sendDisc_base])
theorem execMemberWindowEnd_base {s t : State} (h : execMemberWindowEnd s = .next t) : t.base = s.base := by
  unfold execMemberWindowEnd at h
  have hb : ∀ (u : State) (o : Option Nat), (match o with
      | some v => if u.now < v + us (hwMemberWindow u) then u.modHw (fun h => { h with windowAt := some (v + us (hwMemberWindow u)) }) else u
      | none => u).base = u.base := by
    intro u o; cases o
    · rfl
    · dsimp only; split
      · exact State.modHw_base _ _
      · rfl
  split at h
  · refine baseOfIte h (baseOfNext rfl) (baseOfNext ?_)
    rw [State.setHwMode_base]
    refine (hb _ _).trans ?_
    rw [State.formMembership_base, State.modHw_base]
  · exact baseOfNext rfl h
theorem execDiscExpiry_base (device : BitVec 3) {s t : State} (h : execDiscExpiry device s = .next t) : t.base = s.base := by
  unfold execDiscExpiry at h; dsimp only at h; (repeat' split at h) <;> cases h <;> first | rfl | exact (by simp only [State.trackWhole_base, apply_ite State.base, ite_self, State.modHw_base, State.formMembership_base, State.free_base, State.groups_base])
theorem execHwTimeSend_base {s t : State} (h : execHwTimeSend s = .next t) : t.base = s.base := by
  unfold execHwTimeSend at h; (repeat' split at h) <;> cases h <;> first | rfl | exact (by simp only [State.modHw_base, State.originate_base, State.free_base, State.groups_base])
theorem execHwAlignLost_base {s t : State} (h : execHwAlignLost s = .next t) : t.base = s.base := by
  unfold execHwAlignLost at h; (repeat' split at h) <;> cases h <;> first | rfl | exact (by simp only [State.loseAlignment_base])
theorem execHwPing_base (p : Side) {s t : State} (h : execHwPing p s = .next t) : t.base = s.base := by
  unfold execHwPing at h; (repeat' split at h) <;> cases h <;> first | rfl | exact (by simp only [State.drawn_base, State.hwSend_base])
theorem execHwPong_base (p : Side) (turnaround : Word) {s t : State} (h : execHwPong p turnaround s = .next t) : t.base = s.base := by
  unfold execHwPong at h; dsimp only at h; (repeat' split at h) <;> cases h <;> first | rfl | exact (by simp only [State.modHwPort_base, State.free_base, State.groups_base])
theorem execHwShare_base (p : Side) (hdr : HwHeader) (share : HwShare) {s t : State} (h : execHwShare p hdr share s = .next t) : t.base = s.base := by
  cases h; exact (by simp only [State.formGroup_base, foldl_base, apply_ite State.base, ite_self, State.modQuay_base, State.receive_base, State.takeShare_base, forAll_base, implies_true, State.free_base, State.groups_base])
theorem execHwShareStat_base (p : Side) (hdr : HwHeader) (stat : HwShareStat) {s t : State} (h : execHwShareStat p hdr stat s = .next t) : t.base = s.base := by
  cases h; exact (by simp only [State.receive_base, State.takeStat_base, forAll_base, implies_true])
theorem execHwBadFrame_base (p : Side) (_reason : BadFrame) {s t : State} (h : execHwBadFrame p _reason s = .next t) : t.base = s.base := by
  unfold execHwBadFrame at h; (repeat' split at h) <;> cases h <;> first | rfl | exact (by simp only [State.raiseDevice_base])
theorem execDownloadChunk_within (p : Side) (len : BitVec 13) {s t : State} (h : execDownloadChunk p len s = .next t) : Within s t := by
  cases h; exact State.takeChunk_within _ _ _
theorem execPrefWaitExpiry_base {s t : State} (h : execPrefWaitExpiry s = .next t) : t.base = s.base := by
  unfold execPrefWaitExpiry at h; dsimp only at h; (repeat' split at h) <;> cases h <;> first | rfl | exact (by simp only [State.drawn_base, apply_ite State.base, ite_self, State.grantFirst_base, State.free_base, State.groups_base])
theorem execIhForwardReply_within {s t : State} (h : execIhForwardReply s = .next t) : Within s t := by
  unfold execIhForwardReply at h
  split at h <;> cases h
  · exact .after (State.takeFrom_base _ _) (State.takeReply_within _ _ _)
  · exact .after (State.takeFrom_base _ _) (State.takeReply_within _ _ _)
  · exact .refl s
theorem execForwardTimeout_within {s t : State} (h : execForwardTimeout s = .next t) : Within s t := by
  unfold execForwardTimeout at h
  split at h <;> cases h
  · exact .after (by rw [State.finish_base, State.modIh_base]) (State.serveHeld_within _ _)
  · exact .refl s
theorem execArm_within (p : Side) (mbx : MbxNo) (r : Req) {s t : State} (h : execArm p mbx r s = .next t) : Within s t := by
  cases h; exact State.exchange_within _ _ _ _ _
theorem execDisarm_within (p : Side) (mbx : MbxNo) (r : Req) {s t : State} (h : execDisarm p mbx r s = .next t) : Within s t := by
  cases h; exact State.exchange_within _ _ _ _ _
theorem execStart_within (p : Side) (mbx : MbxNo) (r : Req) {s t : State} (h : execStart p mbx r s = .next t) : Within s t := by
  cases h; exact State.exchange_within _ _ _ _ _
theorem execStop_within (p : Side) (mbx : MbxNo) (r : Req) {s t : State} (h : execStop p mbx r s = .next t) : Within s t := by
  cases h; exact State.exchange_within _ _ _ _ _
theorem execQuickstop_within (p : Side) (mbx : MbxNo) (r : Req) {s t : State} (h : execQuickstop p mbx r s = .next t) : Within s t := by
  cases h; exact State.exchange_within _ _ _ _ _
theorem execHold_within (p : Side) (mbx : MbxNo) (r : Req) {s t : State} (h : execHold p mbx r s = .next t) : Within s t := by
  cases h; exact State.exchange_within _ _ _ _ _
theorem execMove_within (p : Side) (mbx : MbxNo) (r : Req) {s t : State} (h : execMove p mbx r s = .next t) : Within s t := by
  cases h; exact State.exchange_within _ _ _ _ _
theorem execMoveGroup_within (p : Side) (mbx : MbxNo) (r : Req) {s t : State} (h : execMoveGroup p mbx r s = .next t) : Within s t := by
  cases h; exact State.exchange_within _ _ _ _ _
theorem execJog_within (p : Side) (mbx : MbxNo) (r : Req) {s t : State} (h : execJog p mbx r s = .next t) : Within s t := by
  cases h; exact State.exchange_within _ _ _ _ _
theorem execHome_within (p : Side) (mbx : MbxNo) (r : Req) {s t : State} (h : execHome p mbx r s = .next t) : Within s t := by
  cases h; exact State.exchange_within _ _ _ _ _
theorem execSetSpeed_within (p : Side) (mbx : MbxNo) (r : Req) {s t : State} (h : execSetSpeed p mbx r s = .next t) : Within s t := by
  cases h; exact State.exchange_within _ _ _ _ _
theorem execSetAccel_within (p : Side) (mbx : MbxNo) (r : Req) {s t : State} (h : execSetAccel p mbx r s = .next t) : Within s t := by
  cases h; exact State.exchange_within _ _ _ _ _
theorem execSetTorqueLimit_within (p : Side) (mbx : MbxNo) (r : Req) {s t : State} (h : execSetTorqueLimit p mbx r s = .next t) : Within s t := by
  cases h; exact State.exchange_within _ _ _ _ _
theorem execAckFault_within (p : Side) (mbx : MbxNo) (r : Req) {s t : State} (h : execAckFault p mbx r s = .next t) : Within s t := by
  cases h; exact State.exchange_within _ _ _ _ _
theorem execDetach_within (p : Side) (mbx : MbxNo) (r : Req) {s t : State} (h : execDetach p mbx r s = .next t) : Within s t := by
  cases h; exact State.exchange_within _ _ _ _ _
theorem execAttach_within (p : Side) (mbx : MbxNo) (r : Req) {s t : State} (h : execAttach p mbx r s = .next t) : Within s t := by
  cases h; exact State.exchange_within _ _ _ _ _
theorem execParamRead_within (p : Side) (mbx : MbxNo) (r : Req) {s t : State} (h : execParamRead p mbx r s = .next t) : Within s t := by
  cases h; exact State.exchange_within _ _ _ _ _
theorem execParamStage_within (p : Side) (mbx : MbxNo) (r : Req) {s t : State} (h : execParamStage p mbx r s = .next t) : Within s t := by
  cases h; exact State.exchange_within _ _ _ _ _
theorem execCommit_within (p : Side) (mbx : MbxNo) (r : Req) {s t : State} (h : execCommit p mbx r s = .next t) : Within s t := by
  cases h; exact State.exchange_within _ _ _ _ _
theorem execStageClear_within (p : Side) (mbx : MbxNo) (r : Req) {s t : State} (h : execStageClear p mbx r s = .next t) : Within s t := by
  cases h; exact State.exchange_within _ _ _ _ _
theorem execParamInfo_within (p : Side) (mbx : MbxNo) (r : Req) {s t : State} (h : execParamInfo p mbx r s = .next t) : Within s t := by
  cases h; exact State.exchange_within _ _ _ _ _
theorem execTraceConfig_within (p : Side) (mbx : MbxNo) (r : Req) {s t : State} (h : execTraceConfig p mbx r s = .next t) : Within s t := by
  cases h; exact State.exchange_within _ _ _ _ _
theorem execTraceArm_within (p : Side) (mbx : MbxNo) (r : Req) {s t : State} (h : execTraceArm p mbx r s = .next t) : Within s t := by
  cases h; exact State.exchange_within _ _ _ _ _
theorem execTraceStop_within (p : Side) (mbx : MbxNo) (r : Req) {s t : State} (h : execTraceStop p mbx r s = .next t) : Within s t := by
  cases h; exact State.exchange_within _ _ _ _ _
theorem execTraceRead_within (p : Side) (mbx : MbxNo) (r : Req) {s t : State} (h : execTraceRead p mbx r s = .next t) : Within s t := by
  cases h; exact State.exchange_within _ _ _ _ _
theorem execFlashWrite_within (p : Side) (mbx : MbxNo) (r : Req) {s t : State} (h : execFlashWrite p mbx r s = .next t) : Within s t := by
  cases h; exact State.exchange_within _ _ _ _ _
theorem execSetTorque_base (p : Side) (mb : Fin 4) (m : C0Msg) {s t : State} (h : execSetTorque p mb m s = .next t) : t.base = s.base := by
  cases h; exact (by simp only [State.classZero_base])
theorem execC0SetSpeed_base (p : Side) (mb : Fin 4) (m : C0Msg) {s t : State} (h : execC0SetSpeed p mb m s = .next t) : t.base = s.base := by
  cases h; exact (by simp only [State.classZero_base])
theorem execSetTension_base (p : Side) (mb : Fin 4) (m : C0Msg) {s t : State} (h : execSetTension p mb m s = .next t) : t.base = s.base := by
  cases h; exact (by simp only [State.classZero_base])
theorem execSetSpeedTorque_base (p : Side) (mb : Fin 4) (m : C0Msg) {s t : State} (h : execSetSpeedTorque p mb m s = .next t) : t.base = s.base := by
  cases h; exact (by simp only [State.classZero_base])
theorem execC0Quickstop_base (p : Side) (mb : Fin 4) (m : C0Msg) {s t : State} (h : execC0Quickstop p mb m s = .next t) : t.base = s.base := by
  cases h; exact (by simp only [State.classZero_base])
theorem execC0Stop_base (p : Side) (mb : Fin 4) (m : C0Msg) {s t : State} (h : execC0Stop p mb m s = .next t) : t.base = s.base := by
  cases h; exact (by simp only [State.classZero_base])
theorem execQuickRelease_base (p : Side) (mb : Fin 4) (m : C0Msg) {s t : State} (h : execQuickRelease p mb m s = .next t) : t.base = s.base := by
  cases h; exact (by simp only [State.classZero_base])
theorem execC0Frame_base (p : Side) (_mb : Fin 4) {s t : State} (h : execC0Frame p _mb s = .next t) : t.base = s.base := by
  unfold execC0Frame at h; (repeat' split at h) <;> cases h <;> first | rfl | exact (by simp only [State.c0Discard_base])
theorem execRegisterWrite_within (p : Side) (addr : PortAddr) (data : List Byte) (incomplete : Bool) {s t : State} (h : execRegisterWrite p addr data incomplete s = .next t) : Within s t := by
  unfold execRegisterWrite at h
  split at h
  · cases h; exact State.transaction_within _ _ _ _ _
  · exact .of_base (baseOfIte h (baseOfNext (State.readBytes_base _ _ _ _)) (baseOfNext rfl))
theorem execEvqTailWrite_base (p : Side) (v : BitVec 4) {s t : State} (h : execEvqTailWrite p v s = .next t) : t.base = s.base := by
  unfold execEvqTailWrite at h; (repeat' split at h) <;> cases h <;> first | rfl | exact (by simp only [State.modPort_base])
theorem execErrPinHoldWrite_base (_p : Side) (level : Bool) {s t : State} (h : execErrPinHoldWrite _p level s = .next t) : t.base = s.base := by
  unfold execErrPinHoldWrite at h; (repeat' split at h) <;> cases h <;> first | rfl | exact (by simp only [State.modFlt_base, State.free_base, State.groups_base])
theorem execDevtimeLoRead_base (p : Side) {s t : State} (h : execDevtimeLoRead p s = .next t) : t.base = s.base := by
  unfold execDevtimeLoRead at h; (repeat' split at h) <;> cases h <;> first | rfl | exact (by simp only [State.latchDevTime_base, apply_ite State.base, ite_self, State.modTb_base, State.free_base, State.groups_base])
theorem execCapTimeLoRead_base (p : Side) (c : Fin 32) {s t : State} (h : execCapTimeLoRead p c s = .next t) : t.base = s.base := by
  unfold execCapTimeLoRead at h; (repeat' split at h) <;> cases h <;> first | rfl | exact (by simp only [State.latchCapTime_base, apply_ite State.base, ite_self, State.modTb_base, State.free_base, State.groups_base])

theorem execStopDwellExpiry_base (q : QuayNo) {s t : State} (h : execStopDwellExpiry q s = .next t) : t.base = s.base := by
  unfold execStopDwellExpiry at h
  dsimp only at h
  split at h
  · exact baseOfIte h (fun h => baseOfIte h (baseOfNext (by rw [State.enter_base, State.settle_base]))
      (fun h => baseOfIte h (baseOfNext (by rw [State.rampEnds_base, State.settle_base])) (baseOfNext rfl))) (baseOfNext rfl)
  · exact baseOfNext rfl h

theorem execTensionDwellExpiry_base (q : QuayNo) {s t : State} (h : execTensionDwellExpiry q s = .next t) : t.base = s.base := by
  unfold execTensionDwellExpiry at h
  exact baseOfIte h (fun h => baseOfIte h (baseOfNext (State.modReg_base _ _ _))
    (fun h => baseOfIte h (baseOfNext (State.modReg_base _ _ _)) (baseOfNext rfl))) (baseOfNext rfl)

theorem execInputDeadline_base (q : QuayNo) {s t : State} (h : execInputDeadline q s = .next t) : t.base = s.base := by
  unfold execInputDeadline at h; dsimp only at h
  split at h <;> cases h
  · exact (by rw [State.raiseQuay_base, State.closeSnapshot_base, State.modQuay_base, State.staleCells_base])
  · rfl

theorem execSampleEvent_base (q : QuayNo) (legs : List LegSample) (vm : BitVec 14) {s t : State} (h : execSampleEvent q legs vm s = .next t) : t.base = s.base := by
  unfold execSampleEvent at h
  refine baseOfIte h (baseOfNext ?_) (baseOfNext rfl)
  rw [State.captureAtSample_base, State.takeVm_base, State.takeSamples_base, State.sampleSd_base, State.sampleCells_base,
    State.openSnapshot_base, State.modQuay_base]

theorem execIterationComplete_base (q : QuayNo) (e : Estimates) {s t : State} (h : execIterationComplete q e s = .next t) : t.base = s.base := by
  unfold execIterationComplete at h
  refine baseOfIte h (baseOfNext ?_) (baseOfNext rfl)
  rw [State.startIteration_base, State.startIteration_base, State.rewriteTable_base, State.noteIteration_base, State.iterate_base,
    State.overrun_base]

theorem execSincosConversion_base (k : CellNo) (sin cos : BitVec 16) {s t : State} (h : execSincosConversion k sin cos s = .next t) :
    t.base = s.base := by
  unfold execSincosConversion at h
  have hd : ∀ (u : State) (b : Bool) (x : Nat), (if b = true then u.deliverPosition k x else u).base = u.base := by
    intro u b x; cases b
    · rfl
    · exact State.deliverPosition_base _ _ _
  have hm : ∀ (u : State) (o : Option (Nat × Int)) (p : Int) (x : Nat), (match o with
      | some (t0, p0) => u.compareMove k p0 p t0 x
      | none => u).base = u.base := by
    intro u o p x; cases o
    · rfl
    · exact State.compareMove_base _ _ _ _ _ _
  refine baseOfIte h (baseOfNext rfl) fun h => baseOfIte h (baseOfNext ?_) (baseOfNext ?_)
  · rw [hd, State.raiseCell_base, State.setUnsure_base, State.amplitude_base]
  · rw [hd, State.probeResolve_base, State.modCell_base]
    refine (hm _ _ _ _).trans ?_
    rw [apply_ite State.base, State.raiseCell_base, ite_self, State.modCell_base,
      State.amplitude_base]

theorem execHwDisc_base (p : Side) (hdr : HwHeader) (disc : HwDisc) {s t : State} (h : execHwDisc p hdr disc s = .next t) : t.base = s.base := by
  unfold execHwDisc at h
  exact baseOfIte h (baseOfNext rfl) fun h => baseOfIte h
    (baseOfNext (by rw [State.receive_base _ _ _ _ _ id (fun t => rfl), State.raiseConflict_base]))
    (baseOfNext (State.receive_base _ _ _ _ _ _ (fun t => State.takeDisc_base t _ _)))

theorem execHwTopo_base (p : Side) (hdr : HwHeader) (lost : Bool) (port : Side) {s t : State} (h : execHwTopo p hdr lost port s = .next t) :
    t.base = s.base := by
  cases h
  exact (State.receive_base _ _ _ _ _ _ (fun t => by rw [State.openWindowHw_base, State.setHwMode_base]))

theorem execHwTime_base (p : Side) (hdr : HwHeader) (stamp : Dword) (correction : Word) {s t : State}
    (h : execHwTime p hdr stamp correction s = .next t) : t.base = s.base := by
  cases h
  exact (State.receive_base _ _ _ _ _ _ (fun t => by split <;> simp only [State.takeTime_base, State.drawn_base]))

theorem execIhForward_within {s t : State} (h : execIhForward s = .next t) : Within s t := by
  unfold execIhForward at h
  split at h <;> cases h
  · exact .after (State.takeFrom_base _ _) (State.takeForward_within _ _ _ _ _)
  · exact .after (State.takeFrom_base _ _) (State.takeForward_within _ _ _ _ _)
  · exact .refl _

theorem execScrubPass_base (findings : List ScrubFinding) {s t : State} (h : execScrubPass findings s = .next t) : t.base = s.base := by
  unfold execScrubPass at h
  split at h <;> cases h
  · rfl
  · exact (forAll_base _ _ _ fun t f => State.scrubbed_base t f)

/-- Every command but reset, boot and fuse commands stays within. -/
theorem exec_within (c : Instr) (hs : bootCommand c = false) {s t : State} (he : exec c s = .next t) : Within s t := by
  cases c with
  | powerGood => cases hs
  | brownOut _ => cases hs
  | rstNAssert => cases hs
  | rstNRelease _ _ => cases hs
  | timeBaseLock => cases hs
  | tbNoLock => cases hs
  | halfDigestReady _ _ _ _ _ => cases hs
  | halfBootFail _ => cases hs
  | prefWaitExpiry => exact .of_base (execPrefWaitExpiry_base he)
  | discoveryEnd => cases hs
  | downloadChunk p len => exact execDownloadChunk_within p len he
  | fuseCommand _ _ => cases hs
  | delayLineCal within => exact .of_base (execDelayLineCal_base within he)
  | refLoss => exact .of_base (execRefLoss_base he)
  | sensorWindowEnd counts temps => exact .of_base (execSensorWindowEnd_base counts temps he)
  | captureEdge c rising => exact .of_base (execCaptureEdge_base c rising he)
  | sampleEvent q legs vm => exact .of_base (execSampleEvent_base q legs vm he)
  | updatePoint q => exact .of_base (execUpdatePoint_base q he)
  | traceCapture r share => exact .of_base (execTraceCapture_base r share he)
  | sdcResync m => exact .of_base (execSdcResync_base m he)
  | emulationTiming k => exact .of_base (execEmulationTiming_base k he)
  | timedEvent slot => exact .of_base (execTimedEvent_base slot he)
  | snapshotComplete q => exact .of_base (execSnapshotComplete_base q he)
  | inputDeadline q => exact .of_base (execInputDeadline_base q he)
  | iterationComplete q e => exact .of_base (execIterationComplete_base q e he)
  | legCommandArrival l h claim src => exact .of_base (execLegCommandArrival_base l h claim src he)
  | gateWatch l sw => exact .of_base (execGateWatch_base l sw he)
  | gateOnUncommanded l sw => exact .of_base (execGateOnUncommanded_base l sw he)
  | gateOnTimeout l sw => exact .of_base (execGateOnTimeout_base l sw he)
  | bootRefresh l => exact .of_base (execBootRefresh_base l he)
  | refreshRepeat l => exact .of_base (execRefreshRepeat_base l he)
  | bootUv l => exact .of_base (execBootUv_base l he)
  | bootUvClear l => exact .of_base (execBootUvClear_base l he)
  | shortCircuit l d current => exact .of_base (execShortCircuit_base l d current he)
  | blankingEnd l current => exact .of_base (execBlankingEnd_base l current he)
  | vmOv d mv => exact .of_base (execVmOv_base d mv he)
  | vmUv d mv => exact .of_base (execVmUv_base d mv he)
  | chopperOn c => exact .of_base (execChopperOn_base c he)
  | chopperOff c => exact .of_base (execChopperOff_base c he)
  | chopperLong m => exact .of_base (execChopperLong_base m he)
  | enableLow g => exact .of_base (execEnableLow_base g he)
  | enableToggle g => exact .of_base (execEnableToggle_base g he)
  | haltAssert ch => exact .of_base (execHaltAssert_base ch he)
  | haltRelease ch => exact .of_base (execHaltRelease_base ch he)
  | haltDisc => exact .of_base (execHaltDisc_base he)
  | fbEdge k a b => exact .of_base (execFbEdge_base k a b he)
  | hallChange k st => exact .of_base (execHallChange_base k st he)
  | indexLatch k => exact .of_base (execIndexLatch_base k he)
  | fbWire k => exact .of_base (execFbWire_base k he)
  | ssiFrameEnd k frame => exact .of_base (execSsiFrameEnd_base k frame he)
  | sincosConversion k sin cos => exact .of_base (execSincosConversion_base k sin cos he)
  | quadrantChange k a b => exact .of_base (execQuadrantChange_base k a b he)
  | fbStillTimeout k => exact .of_base (execFbStillTimeout_base k he)
  | comparePulseEnd k => exact .of_base (execComparePulseEnd_base k he)
  | probeEdge q rising => exact .of_base (execProbeEdge_base q rising he)
  | sdValueReady n raw => exact .of_base (execSdValueReady_base n raw he)
  | sdOverrange n => exact .of_base (execSdOverrange_base n he)
  | limitInputChange q side shown => exact .of_base (execLimitInputChange_base q side shown he)
  | armComplete q => exact .of_base (execArmComplete_base q he)
  | armTimeout q => exact .of_base (execArmTimeout_base q he)
  | stopDwellExpiry q => exact .of_base (execStopDwellExpiry_base q he)
  | moveArrival q => exact .of_base (execMoveArrival_base q he)
  | holdDelayExpiry q => exact .of_base (execHoldDelayExpiry_base q he)
  | catchTimeout q => exact .of_base (execCatchTimeout_base q he)
  | observeWindowEnd q => exact .of_base (execObserveWindowEnd_base q he)
  | ifTimeout q => exact .of_base (execIfTimeout_base q he)
  | speedError q => exact .of_base (execSpeedError_base q he)
  | tensionDwellExpiry q => exact .of_base (execTensionDwellExpiry_base q he)
  | tensionHigh q => exact .of_base (execTensionHigh_base q he)
  | ibexSaturationStall q => exact .of_base (execIbexSaturationStall_base q he)
  | homeStallDetect q => exact .of_base (execHomeStallDetect_base q he)
  | mirrorRefresh q => exact .of_base (execMirrorRefresh_base q he)
  | signalDetect n => exact .of_base (execSignalDetect_base n he)
  | trainingComplete l => exact .of_base (execTrainingComplete_base l he)
  | gwPong n seq turnaround => exact .of_base (execGwPong_base n seq turnaround he)
  | gwIdent n ident => exact .of_base (execGwIdent_base n ident he)
  | identTimeout n => exact .of_base (execIdentTimeout_base n he)
  | gwTrainFail n => exact .of_base (execGwTrainFail_base n he)
  | trainRetry n => exact .of_base (execTrainRetry_base n he)
  | gwSyncSend n => exact .of_base (execGwSyncSend_base n he)
  | gwStatus n frame => exact .of_base (execGwStatus_base n frame he)
  | laneLoss n => exact .of_base (execLaneLoss_base n he)
  | gwBadFrame n reason => exact .of_base (execGwBadFrame_base n reason he)
  | hwPortUp p => exact .of_base (execHwPortUp_base p he)
  | hwPortLoss p => exact .of_base (execHwPortLoss_base p he)
  | hwDiscSend => exact .of_base (execHwDiscSend_base he)
  | hwDisc p hdr disc => exact .of_base (execHwDisc_base p hdr disc he)
  | hwTopo p hdr lost port => exact .of_base (execHwTopo_base p hdr lost port he)
  | hwTimeSend => exact .of_base (execHwTimeSend_base he)
  | hwTime p hdr stamp correction => exact .of_base (execHwTime_base p hdr stamp correction he)
  | hwAlignLost => exact .of_base (execHwAlignLost_base he)
  | hwPing p => exact .of_base (execHwPing_base p he)
  | hwPong p turnaround => exact .of_base (execHwPong_base p turnaround he)
  | hwShare p hdr share => exact .of_base (execHwShare_base p hdr share he)
  | hwShareStat p hdr stat => exact .of_base (execHwShareStat_base p hdr stat he)
  | memberWindowEnd => exact .of_base (execMemberWindowEnd_base he)
  | hwBadFrame p reason => exact .of_base (execHwBadFrame_base p reason he)
  | faultArrival i => exact .of_base (execFaultArrival_base i he)
  | faultOrdered => exact .of_base (execFaultOrdered_base he)
  | conseqWindowEnd i => exact .of_base (execConseqWindowEnd_base i he)
  | errPulseEnd => exact .of_base (execErrPulseEnd_base he)
  | fabricStall => exact .of_base (execFabricStall_base he)
  | scrubPass findings => exact .of_base (execScrubPass_base findings he)
  | checkTrip h cause engine => exact .of_base (execCheckTrip_base h cause engine he)
  | heartbeatTimeout h => exact .of_base (execHeartbeatTimeout_base h he)
  | checkSelftest h pass => exact .of_base (execCheckSelftest_base h pass he)
  | halfRejoin h => exact .of_base (execHalfRejoin_base h he)
  | ihChange => exact .of_base (execIhChange_base he)
  | ihChangeAck => exact .of_base (execIhChangeAck_base he)
  | ihForward => exact execIhForward_within he
  | ihForwardReply => exact execIhForwardReply_within he
  | ihKstate => exact .of_base (execIhKstate_base he)
  | ihPatch ok => exact .of_base (execIhPatch_base ok he)
  | ihAliveSend h => exact .of_base (execIhAliveSend_base h he)
  | halfLink => exact .of_base (execHalfLink_base he)
  | forwardTimeout => exact execForwardTimeout_within he
  | mforceAssert h => exact .of_base (execMforceAssert_base h he)
  | mforceRelease h => exact .of_base (execMforceRelease_base h he)
  | supplyWarning rail side value => exact .of_base (execSupplyWarning_base rail side value he)
  | vgdHold d => exact .of_base (execVgdHold_base d he)
  | vgdHoldRelease d => exact .of_base (execVgdHoldRelease_base d he)
  | arm p mbx r => exact execArm_within p mbx r he
  | disarm p mbx r => exact execDisarm_within p mbx r he
  | start p mbx r => exact execStart_within p mbx r he
  | stop p mbx r => exact execStop_within p mbx r he
  | quickstop p mbx r => exact execQuickstop_within p mbx r he
  | hold p mbx r => exact execHold_within p mbx r he
  | move p mbx r => exact execMove_within p mbx r he
  | moveGroup p mbx r => exact execMoveGroup_within p mbx r he
  | jog p mbx r => exact execJog_within p mbx r he
  | home p mbx r => exact execHome_within p mbx r he
  | setSpeed p mbx r => exact execSetSpeed_within p mbx r he
  | setAccel p mbx r => exact execSetAccel_within p mbx r he
  | setTorqueLimit p mbx r => exact execSetTorqueLimit_within p mbx r he
  | ackFault p mbx r => exact execAckFault_within p mbx r he
  | detach p mbx r => exact execDetach_within p mbx r he
  | attach p mbx r => exact execAttach_within p mbx r he
  | paramRead p mbx r => exact execParamRead_within p mbx r he
  | paramStage p mbx r => exact execParamStage_within p mbx r he
  | commit p mbx r => exact execCommit_within p mbx r he
  | stageClear p mbx r => exact execStageClear_within p mbx r he
  | paramInfo p mbx r => exact execParamInfo_within p mbx r he
  | traceConfig p mbx r => exact execTraceConfig_within p mbx r he
  | traceArm p mbx r => exact execTraceArm_within p mbx r he
  | traceStop p mbx r => exact execTraceStop_within p mbx r he
  | traceRead p mbx r => exact execTraceRead_within p mbx r he
  | flashWrite p mbx r => exact execFlashWrite_within p mbx r he
  | setTorque p mb m => exact .of_base (execSetTorque_base p mb m he)
  | c0SetSpeed p mb m => exact .of_base (execC0SetSpeed_base p mb m he)
  | setTension p mb m => exact .of_base (execSetTension_base p mb m he)
  | setSpeedTorque p mb m => exact .of_base (execSetSpeedTorque_base p mb m he)
  | c0Quickstop p mb m => exact .of_base (execC0Quickstop_base p mb m he)
  | c0Stop p mb m => exact .of_base (execC0Stop_base p mb m he)
  | quickRelease p mb m => exact .of_base (execQuickRelease_base p mb m he)
  | c0Frame p mb => exact .of_base (execC0Frame_base p mb he)
  | devtimeLoRead p => exact .of_base (execDevtimeLoRead_base p he)
  | capTimeLoRead p c => exact .of_base (execCapTimeLoRead_base p c he)
  | evqTailWrite p v => exact .of_base (execEvqTailWrite_base p v he)
  | errPinHoldWrite p level => exact .of_base (execErrPinHoldWrite_base p level he)
  | registerWrite p addr data incomplete => exact execRegisterWrite_within p addr data incomplete he
  | discExpiry device => exact .of_base (execDiscExpiry_base device he)
  | rxOkSet l => exact .of_base (execRxOkSet_base l he)
  | fbWireClear k => exact .of_base (execFbWireClear_base k he)
  | supplyWarningEnd rail side => exact .of_base (execSupplyWarningEnd_base rail side he)
  | ihAck => exact .of_base (execIhAck_base he)

end Sys2Proof.Machine
end

