-- ==== Sys2Proof/Laws/BootSteps.lean ====
section
/-! SUPPORT. What the operations of reset and start-up do to boot registers, fuses, flash, claims and queue. -/

namespace Sys2Proof.Machine

/-- Reset leaves fuses, flash and queue; everything else that `Base` holds takes its reset value (R145, R168, R171). -/
theorem State.deviceReset_base (s : State) : s.deviceReset.base =
    ⟨s.fuse, s.flash, {}, {}, [], [], s.pending, .inReset, false, 0, s.boot.powerGood, s.boot.rstN⟩ := rfl

/-- Leaving reset changes the boot stage alone. -/
theorem State.leaveReset_base (s : State) : s.leaveReset.base = { s.base with stage := .lockWait } := rfl

/-- BOOT_HALT changes the boot stage alone, of the base (R166). -/
theorem State.bootHalt_base (s : State) (h : Halt) : (s.bootHalt h).base = { s.base with stage := .halted } := by
  unfold State.bootHalt
  rw [State.syncLegs_base]
  rfl

/-- Starting a download keeps the image received so far. -/
theorem State.startDownload_base (s : State) (p : Side) : (s.startDownload p).base =
    { s.base with dl := { s.dl with active := true, wait := true }, src := if p = .a then 2 else 3 } := rfl

/-- The boot registers of an accepted image. -/
theorem State.sealRegs_base (s : State) (src : BitVec 2) (img : List Byte) :
    (s.sealRegs src img).base = { s.base with stage := .discovery, sealed := true, src := src } := rfl

/-- The sealing of an accepted image: what the base holds after it (R137, R171, R181). -/
theorem State.seal_base (s : State) (src : BitVec 2) (img : List Byte) (reqA reqB : Bool) : ∃ ps cs,
    (s.seal src img reqA reqB).base = { s.base with prot := imgProt img, params := ps, claims := cs, stage := .discovery, sealed := true, src := src } ∧
      ClaimsApart cs := by
  refine ⟨(s.withImage img).params, (((s.withImage img).sealRegs src img).resolveClaims).getD [], ?_, ?_⟩
  · unfold State.seal
    extract_lets s1 s2 s3
    have h3 : s3.base = s2.base :=
      (State.startAll_base _ _).trans ((State.startHalf_base _ _ _).trans (State.startHalf_base _ _ _))
    refine (State.decideGrant_base _).trans (Eq.trans ?_ (h3.trans rfl))
    by_cases h : (s3.prot.hmForce && s3.hm.force.a && s3.hm.force.b) = true
    · rw [if_pos h, State.raiseDevice_base]
    · rw [if_neg h]
  · cases hc : ((s.withImage img).sealRegs src img).resolveClaims with
    | none => exact List.Pairwise.nil
    | some cs => exact State.resolveClaims_apart ((s.withImage img).sealRegs src img) cs (show ClaimsApart [] from List.Pairwise.nil) hc

/-- READY (R143). -/
theorem State.becomeReady_base (s : State) : s.becomeReady.base = { s.base with stage := .ready } := by
  have h1 : (State.formGroups (s.modBoot (fun b => { b with stage := .ready, phase := 6, commitCount := 0 })) false).base = { s.base with stage := .ready } :=
    (State.formGroups_base _ _).trans rfl
  unfold State.becomeReady
  generalize State.formGroups (s.modBoot (fun b => { b with stage := .ready, phase := 6, commitCount := 0 })) false = u at h1
  refine Eq.trans ?_ h1
  dsimp only
  split
  · rw [State.raiseDevice_base, State.modPort_base, State.modPort_base, State.modBoot_base _ _ rfl rfl rfl rfl rfl]
  · rfl

/-- What a reset, boot or fuse command can do to the base. -/
inductive BootEffect (s : State) : Base → Prop where
  | none : BootEffect s s.base
  | fuse (c : FuseCmd) (k : Option (Fin 4)) : BootEffect s { s.base with fuse := s.fuse.apply c k }
  | reset (power rstN : Bool) (h : (power && rstN) = false) :
      BootEffect s ⟨s.fuse, s.flash, {}, {}, [], [], s.pending, .inReset, false, 0, power, rstN⟩
  | lines (power rstN : Bool) (h : (s.boot.powerGood && s.boot.rstN) = false) (h' : (power && rstN) = false) :
      BootEffect s { s.base with power := power, rstN := rstN }
  | leave (h : (s.boot.powerGood && s.boot.rstN) = false) : BootEffect s { s.base with power := true, rstN := true, stage := .lockWait }
  | halt (x : BitVec 2) (h : s.boot.stage = .lockWait ∨ s.boot.stage = .imageRead ∨ s.boot.stage = .discovery) :
      BootEffect s { s.base with stage := .halted, src := x }
  | read (d : Download) (x : BitVec 2) (h : s.boot.stage = .lockWait ∨ s.boot.stage = .imageRead) (hd : d.image = s.dl.image) :
      BootEffect s { s.base with stage := .imageRead, dl := d, src := x }
  | sealing (p : Prot) (ps : List (Nat × Word)) (cs : List PoolClaim) (x : BitVec 2) (h : s.boot.stage = .imageRead) (hc : ClaimsApart cs) :
      BootEffect s { s.base with prot := p, params := ps, claims := cs, stage := .discovery, sealed := true, src := x }
  | ready (h : s.boot.stage = .discovery) : BootEffect s { s.base with stage := .ready }

/-- The same effect, of a state whose base is this one. -/
theorem BootEffect.to {s : State} {b : Base} (h : BootEffect s b) {t : State} (e : t.base = b) : BootEffect s t.base := e ▸ h

/-- The seal of a state that differs from `s` in the boot source alone, of the base. -/
theorem BootEffect.ofSeal {s u : State} {x : BitVec 2} (hu : u.base = { s.base with src := x }) (h : s.boot.stage = .imageRead)
    (src : BitVec 2) (img : List Byte) (reqA reqB : Bool) : BootEffect s (u.seal src img reqA reqB).base := by
  obtain ⟨ps, cs, hb, hc⟩ := u.seal_base src img reqA reqB
  rw [hb, hu]
  exact .sealing _ ps cs src h hc

theorem execPowerGood_effect {s t : State} (h : execPowerGood s = .next t) :
    BootEffect s t.base := by
  unfold execPowerGood at h
  split at h
  · cases h; exact .none
  · next hp =>
    have hp : s.boot.powerGood = false := by simpa using hp
    dsimp only at h
    split at h
    · cases h; exact (BootEffect.leave (by rw [hp]; rfl)).to (by rw [State.drawn_base, State.leaveReset_base]; simp [State.base, State.modBoot]; assumption)
    · next hr =>
      cases h
      refine (BootEffect.lines true s.boot.rstN (by rw [hp]; rfl) (by simpa using hr)).to rfl

theorem execBrownOut_effect {below : BitVec 4} {s t : State} (h : execBrownOut below s = .next t) : BootEffect s t.base := by
  unfold execBrownOut at h
  split at h
  · cases h; exact .none
  · cases h; exact (BootEffect.reset false s.boot.rstN rfl).to rfl

theorem execRstNAssert_effect {s t : State} (h : execRstNAssert s = .next t) : BootEffect s t.base := by
  unfold execRstNAssert at h
  split at h
  · cases h; exact (BootEffect.reset s.boot.powerGood false (by cases s.boot.powerGood <;> rfl)).to rfl
  · cases h; exact .none

theorem execRstNRelease_effect {bootsel : BitVec 2} {mpref : Bool} {s t : State} (h : execRstNRelease bootsel mpref s = .next t) :
    BootEffect s t.base := by
  unfold execRstNRelease at h
  split at h
  · cases h; exact .none
  · next hp =>
    have hp : s.boot.rstN = false := by simpa using hp
    dsimp only at h
    split at h
    · cases h; exact (BootEffect.leave (by rw [hp, Bool.and_false])).to (by rw [State.leaveReset_base]; simp [State.base, State.modBoot]; assumption)
    · next hr =>
      cases h
      exact (BootEffect.lines s.boot.powerGood true (by rw [hp, Bool.and_false]) (by simpa using hr)).to rfl

theorem execTbNoLock_effect {s t : State} (h : execTbNoLock s = .next t) : BootEffect s t.base := by
  unfold execTbNoLock at h
  split at h
  · next hs => cases h; exact (BootEffect.halt s.boot.src (.inl hs)).to (State.bootHalt_base _ _)
  · cases h; exact .none

theorem execTimeBaseLock_effect {s t : State} (h : execTimeBaseLock s = .next t) : BootEffect s t.base := by
  unfold execTimeBaseLock at h
  split at h
  · next hs =>
    dsimp only at h
    split at h
    · cases h; exact (BootEffect.read { s.dl with active := true, wait := true } 2 (.inl hs) rfl).to rfl
    · split at h
      · cases h; exact (BootEffect.read { s.dl with active := true, wait := true } 3 (.inl hs) rfl).to rfl
      · cases h; exact (BootEffect.read s.dl s.boot.src (.inl hs) rfl).to rfl
  · cases h; exact .none

theorem execFuseCommand_effect {cmd : FuseCmd} {signer : Option (Fin 4)} {s t : State} (h : execFuseCommand cmd signer s = .next t) :
    BootEffect s t.base := by
  unfold execFuseCommand at h
  split at h
  · cases h; exact .fuse cmd signer
  · cases h; exact .none

theorem execHalfDigestReady_effect {h : Side} {a0 a1 ra rb : Bool} {s t : State} (he : execHalfDigestReady h a0 a1 ra rb s = .next t) :
    BootEffect s t.base := by
  unfold execHalfDigestReady at he
  split at he
  · next hc =>
    have hs := hc.1
    have hstage : s.base.stage = .imageRead := hs
    split at he
    · split at he
      · cases he
        exact (BootEffect.read { s.dl with active := true, wait := true } 2 (.inr hs) rfl).to (by rw [State.startDownload_base, ← hstage]; rfl)
      · cases he
        refine (BootEffect.halt s.boot.src (.inr (.inl hs))).to ?_
        rw [State.bootHalt_base, State.modBoot_base _ _ rfl rfl rfl rfl rfl]; rfl
    · next slot img _ =>
      dsimp only at he
      generalize hd : imgDigest img = d at he
      split at he
      · split at he
        · injection he with he
          rw [← he]
          refine BootEffect.ofSeal (x := s.srcOf slot) ?_ hs _ _ _ _
          rfl
        · injection he with he
          rw [← he]
          exact (BootEffect.halt _ (.inr (.inl hs))).to (State.bootHalt_base _ _)
      · injection he with he
        rw [← he]
        exact (BootEffect.read s.dl _ (.inr hs) rfl).to (by rw [← hstage]; rfl)
  · cases he; exact .none

theorem execHalfBootFail_effect {h : Side} {s t : State} (he : execHalfBootFail h s = .next t) : BootEffect s t.base := by
  unfold execHalfBootFail at he
  split at he
  · split at he
    · next hc =>
      injection he with he
      rw [← he]
      refine BootEffect.ofSeal (x := s.boot.src) ?_ hc.1 _ _ _ _
      rw [State.raiseHalf_base, State.modHalf_base]; rfl
    · cases he; exact .none
  · cases he; exact .none

theorem execDiscoveryEnd_effect {s t : State} (h : execDiscoveryEnd s = .next t) : BootEffect s t.base := by
  unfold execDiscoveryEnd at h
  split at h
  · next hc =>
    split at h
    · split at h
      · injection h with h; rw [← h, State.bootHalt_base]; exact BootEffect.halt s.boot.src (.inr (.inr hc.1))
      · injection h with h; rw [← h, State.becomeReady_base]; exact .ready hc.1
    · injection h with h; rw [← h, State.becomeReady_base]; exact .ready hc.1
  · cases h; exact .none

/-- What a reset, boot or fuse command can do to the base. -/
theorem exec_effect {c : Instr} (hb : bootCommand c = true) {s t : State} (h : exec c s = .next t) : BootEffect s t.base := by
  unfold bootCommand at hb
  split at hb
  · exact execPowerGood_effect h
  · exact execBrownOut_effect h
  · exact execRstNAssert_effect h
  · exact execRstNRelease_effect h
  · exact execTimeBaseLock_effect h
  · exact execTbNoLock_effect h
  · exact execFuseCommand_effect h
  · exact execHalfDigestReady_effect h
  · exact execHalfBootFail_effect h
  · exact execDiscoveryEnd_effect h
  · cases hb

end Sys2Proof.Machine
end

