-- ==== Sys2Proof/Laws/Choppers.lean ====
section
/-! SUPPORT. What does not stop a brake chopper. -/

namespace Sys2Proof.Machine

/-- A thermal shutdown of a die stops no chopper (R1002). -/
theorem State.chopperWorks_shutdown (s : State) (v : Vector Bool 2) (c : ChopperRef) :
    State.chopperWorks { s with thm := { s.thm with shut := v } } c = s.chopperWorks c := by
  cases c <;> rfl

/-- The device safe state stops no chopper (R795, R1002). -/
theorem State.chopperWorks_devSafe (s : State) (b : Bool) (c : ChopperRef) :
    State.chopperWorks { s with flt := { s.flt with devSafe := b } } c = s.chopperWorks c := by
  cases c <;> rfl

end Sys2Proof.Machine
end

