-- ==== Sys2Proof/Laws/Clock.lean ====
section
/-! SUPPORT. What one tick of device time can do. -/

namespace Sys2Proof.Machine

theorem TimeBase.slewed_now (t : TimeBase) (d : Int) (acc : Nat) : (t.slewed d acc).now = t.now := by
  unfold TimeBase.slewed; split <;> rfl

/-- Device time never decreases and takes every value (R18, R98): a tick leaves it or counts it up by one. -/
theorem TimeBase.tick_now (t : TimeBase) (h : t.now ≤ lastTime) : t.tick.now = t.now ∨ t.tick.now = t.now + 1 := by
  unfold TimeBase.tick
  split
  · exact .inl rfl
  · rename_i hl
    split
    · rw [TimeBase.slewed_now]
      right
      simp only [TimeBase.displaced]
      omega
    · dsimp only
      split
      · rw [TimeBase.slewed_now]; exact .inl rfl
      · exact .inr rfl

end Sys2Proof.Machine
end

