-- ==== Sys2Proof/Laws/State.lean ====
section
/-! SUPPORT. Every field of the state after every update operation, so that no proof unfolds a record update. -/

namespace Sys2Proof

theorem vmod_self {α : Type} {n : Nat} (v : Vector α n) (i : Fin n) (f : α → α) : (vmod v i f)[i] = f v[i] := by
  simp [vmod]
/-- The same with the index as a number, the form that `simp` gives it. -/
@[simp] theorem vmod_val {α : Type} {n : Nat} (v : Vector α n) (i : Fin n) (f : α → α) : (vmod v i f)[i.val] = f v[i.val] := by
  simp [vmod]
/-- The other elements stay as they are. -/
theorem vmod_ne {α : Type} {n : Nat} (v : Vector α n) {i j : Fin n} (f : α → α) (h : i ≠ j) : (vmod v i f)[j] = v[j] := by
  simp [vmod, Fin.val_ne_of_ne h]
theorem vmod_get {α : Type} {n : Nat} (v : Vector α n) (i j : Fin n) (f : α → α) : (vmod v i f)[j] = if i = j then f v[j] else v[j] := by
  by_cases h : i = j
  · subst h; rw [vmod_self, if_pos rfl]
  · rw [vmod_ne v f h, if_neg h]

namespace Machine

@[simp] theorem Pair.get_set {α : Type} (x : Pair α) (p : Side) (v : α) : (x.set p v).get p = v := by cases p <;> rfl
theorem Pair.get_set_ne {α : Type} (x : Pair α) {p r : Side} (v : α) (h : p ≠ r) : (x.set p v).get r = x.get r := by
  cases p <;> cases r <;> first | rfl | exact absurd rfl h

/-! ### modQuay -/

@[simp] theorem State.modQuay_fuse (s : State) (i : QuayNo) (f : Quay → Quay) : (s.modQuay i f).fuse = s.fuse := rfl
@[simp] theorem State.modQuay_flash (s : State) (i : QuayNo) (f : Quay → Quay) : (s.modQuay i f).flash = s.flash := rfl
@[simp] theorem State.modQuay_boot (s : State) (i : QuayNo) (f : Quay → Quay) : (s.modQuay i f).boot = s.boot := rfl
@[simp] theorem State.modQuay_dl (s : State) (i : QuayNo) (f : Quay → Quay) : (s.modQuay i f).dl = s.dl := rfl
@[simp] theorem State.modQuay_prot (s : State) (i : QuayNo) (f : Quay → Quay) : (s.modQuay i f).prot = s.prot := rfl
@[simp] theorem State.modQuay_claims (s : State) (i : QuayNo) (f : Quay → Quay) : (s.modQuay i f).claims = s.claims := rfl
@[simp] theorem State.modQuay_params (s : State) (i : QuayNo) (f : Quay → Quay) : (s.modQuay i f).params = s.params := rfl
@[simp] theorem State.modQuay_tb (s : State) (i : QuayNo) (f : Quay → Quay) : (s.modQuay i f).tb = s.tb := rfl
@[simp] theorem State.modQuay_thm (s : State) (i : QuayNo) (f : Quay → Quay) : (s.modQuay i f).thm = s.thm := rfl
@[simp] theorem State.modQuay_supply (s : State) (i : QuayNo) (f : Quay → Quay) : (s.modQuay i f).supply = s.supply := rfl
@[simp] theorem State.modQuay_half (s : State) (i : QuayNo) (f : Quay → Quay) : (s.modQuay i f).half = s.half := rfl
@[simp] theorem State.modQuay_hm (s : State) (i : QuayNo) (f : Quay → Quay) : (s.modQuay i f).hm = s.hm := rfl
@[simp] theorem State.modQuay_ih (s : State) (i : QuayNo) (f : Quay → Quay) : (s.modQuay i f).ih = s.ih := rfl
@[simp] theorem State.modQuay_port (s : State) (i : QuayNo) (f : Quay → Quay) : (s.modQuay i f).port = s.port := rfl
@[simp] theorem State.modQuay_quay (s : State) (i : QuayNo) (f : Quay → Quay) : (s.modQuay i f).quay = vmod s.quay i f := rfl
@[simp] theorem State.modQuay_groups (s : State) (i : QuayNo) (f : Quay → Quay) : (s.modQuay i f).groups = s.groups := rfl
@[simp] theorem State.modQuay_leg (s : State) (i : QuayNo) (f : Quay → Quay) : (s.modQuay i f).leg = s.leg := rfl
@[simp] theorem State.modQuay_brk (s : State) (i : QuayNo) (f : Quay → Quay) : (s.modQuay i f).brk = s.brk := rfl
@[simp] theorem State.modQuay_pins (s : State) (i : QuayNo) (f : Quay → Quay) : (s.modQuay i f).pins = s.pins := rfl
@[simp] theorem State.modQuay_cell (s : State) (i : QuayNo) (f : Quay → Quay) : (s.modQuay i f).cell = s.cell := rfl
@[simp] theorem State.modQuay_sd (s : State) (i : QuayNo) (f : Quay → Quay) : (s.modQuay i f).sd = s.sd := rfl
@[simp] theorem State.modQuay_lane (s : State) (i : QuayNo) (f : Quay → Quay) : (s.modQuay i f).lane = s.lane := rfl
@[simp] theorem State.modQuay_hw (s : State) (i : QuayNo) (f : Quay → Quay) : (s.modQuay i f).hw = s.hw := rfl
@[simp] theorem State.modQuay_flt (s : State) (i : QuayNo) (f : Quay → Quay) : (s.modQuay i f).flt = s.flt := rfl
@[simp] theorem State.modQuay_trace (s : State) (i : QuayNo) (f : Quay → Quay) : (s.modQuay i f).trace = s.trace := rfl
@[simp] theorem State.modQuay_free (s : State) (i : QuayNo) (f : Quay → Quay) : (s.modQuay i f).free = s.free := rfl
@[simp] theorem State.modQuay_pending (s : State) (i : QuayNo) (f : Quay → Quay) : (s.modQuay i f).pending = s.pending := rfl
theorem State.modQuay_self (s : State) (i : QuayNo) (f : Quay → Quay) : (s.modQuay i f).quay[i] = f s.quay[i] := vmod_self _ _ _
theorem State.modQuay_ne (s : State) {i j : QuayNo} (f : Quay → Quay) (h : i ≠ j) : (s.modQuay i f).quay[j] = s.quay[j] := vmod_ne _ f h

/-! ### modLeg -/

@[simp] theorem State.modLeg_fuse (s : State) (i : LegNo) (f : Leg → Leg) : (s.modLeg i f).fuse = s.fuse := rfl
@[simp] theorem State.modLeg_flash (s : State) (i : LegNo) (f : Leg → Leg) : (s.modLeg i f).flash = s.flash := rfl
@[simp] theorem State.modLeg_boot (s : State) (i : LegNo) (f : Leg → Leg) : (s.modLeg i f).boot = s.boot := rfl
@[simp] theorem State.modLeg_dl (s : State) (i : LegNo) (f : Leg → Leg) : (s.modLeg i f).dl = s.dl := rfl
@[simp] theorem State.modLeg_prot (s : State) (i : LegNo) (f : Leg → Leg) : (s.modLeg i f).prot = s.prot := rfl
@[simp] theorem State.modLeg_claims (s : State) (i : LegNo) (f : Leg → Leg) : (s.modLeg i f).claims = s.claims := rfl
@[simp] theorem State.modLeg_params (s : State) (i : LegNo) (f : Leg → Leg) : (s.modLeg i f).params = s.params := rfl
@[simp] theorem State.modLeg_tb (s : State) (i : LegNo) (f : Leg → Leg) : (s.modLeg i f).tb = s.tb := rfl
@[simp] theorem State.modLeg_thm (s : State) (i : LegNo) (f : Leg → Leg) : (s.modLeg i f).thm = s.thm := rfl
@[simp] theorem State.modLeg_supply (s : State) (i : LegNo) (f : Leg → Leg) : (s.modLeg i f).supply = s.supply := rfl
@[simp] theorem State.modLeg_half (s : State) (i : LegNo) (f : Leg → Leg) : (s.modLeg i f).half = s.half := rfl
@[simp] theorem State.modLeg_hm (s : State) (i : LegNo) (f : Leg → Leg) : (s.modLeg i f).hm = s.hm := rfl
@[simp] theorem State.modLeg_ih (s : State) (i : LegNo) (f : Leg → Leg) : (s.modLeg i f).ih = s.ih := rfl
@[simp] theorem State.modLeg_port (s : State) (i : LegNo) (f : Leg → Leg) : (s.modLeg i f).port = s.port := rfl
@[simp] theorem State.modLeg_quay (s : State) (i : LegNo) (f : Leg → Leg) : (s.modLeg i f).quay = s.quay := rfl
@[simp] theorem State.modLeg_groups (s : State) (i : LegNo) (f : Leg → Leg) : (s.modLeg i f).groups = s.groups := rfl
@[simp] theorem State.modLeg_leg (s : State) (i : LegNo) (f : Leg → Leg) : (s.modLeg i f).leg = vmod s.leg i f := rfl
@[simp] theorem State.modLeg_brk (s : State) (i : LegNo) (f : Leg → Leg) : (s.modLeg i f).brk = s.brk := rfl
@[simp] theorem State.modLeg_pins (s : State) (i : LegNo) (f : Leg → Leg) : (s.modLeg i f).pins = s.pins := rfl
@[simp] theorem State.modLeg_cell (s : State) (i : LegNo) (f : Leg → Leg) : (s.modLeg i f).cell = s.cell := rfl
@[simp] theorem State.modLeg_sd (s : State) (i : LegNo) (f : Leg → Leg) : (s.modLeg i f).sd = s.sd := rfl
@[simp] theorem State.modLeg_lane (s : State) (i : LegNo) (f : Leg → Leg) : (s.modLeg i f).lane = s.lane := rfl
@[simp] theorem State.modLeg_hw (s : State) (i : LegNo) (f : Leg → Leg) : (s.modLeg i f).hw = s.hw := rfl
@[simp] theorem State.modLeg_flt (s : State) (i : LegNo) (f : Leg → Leg) : (s.modLeg i f).flt = s.flt := rfl
@[simp] theorem State.modLeg_trace (s : State) (i : LegNo) (f : Leg → Leg) : (s.modLeg i f).trace = s.trace := rfl
@[simp] theorem State.modLeg_free (s : State) (i : LegNo) (f : Leg → Leg) : (s.modLeg i f).free = s.free := rfl
@[simp] theorem State.modLeg_pending (s : State) (i : LegNo) (f : Leg → Leg) : (s.modLeg i f).pending = s.pending := rfl
theorem State.modLeg_self (s : State) (i : LegNo) (f : Leg → Leg) : (s.modLeg i f).leg[i] = f s.leg[i] := vmod_self _ _ _
theorem State.modLeg_ne (s : State) {i j : LegNo} (f : Leg → Leg) (h : i ≠ j) : (s.modLeg i f).leg[j] = s.leg[j] := vmod_ne _ f h

/-! ### modBrk -/

@[simp] theorem State.modBrk_fuse (s : State) (i : Fin 4) (f : Chopper → Chopper) : (s.modBrk i f).fuse = s.fuse := rfl
@[simp] theorem State.modBrk_flash (s : State) (i : Fin 4) (f : Chopper → Chopper) : (s.modBrk i f).flash = s.flash := rfl
@[simp] theorem State.modBrk_boot (s : State) (i : Fin 4) (f : Chopper → Chopper) : (s.modBrk i f).boot = s.boot := rfl
@[simp] theorem State.modBrk_dl (s : State) (i : Fin 4) (f : Chopper → Chopper) : (s.modBrk i f).dl = s.dl := rfl
@[simp] theorem State.modBrk_prot (s : State) (i : Fin 4) (f : Chopper → Chopper) : (s.modBrk i f).prot = s.prot := rfl
@[simp] theorem State.modBrk_claims (s : State) (i : Fin 4) (f : Chopper → Chopper) : (s.modBrk i f).claims = s.claims := rfl
@[simp] theorem State.modBrk_params (s : State) (i : Fin 4) (f : Chopper → Chopper) : (s.modBrk i f).params = s.params := rfl
@[simp] theorem State.modBrk_tb (s : State) (i : Fin 4) (f : Chopper → Chopper) : (s.modBrk i f).tb = s.tb := rfl
@[simp] theorem State.modBrk_thm (s : State) (i : Fin 4) (f : Chopper → Chopper) : (s.modBrk i f).thm = s.thm := rfl
@[simp] theorem State.modBrk_supply (s : State) (i : Fin 4) (f : Chopper → Chopper) : (s.modBrk i f).supply = s.supply := rfl
@[simp] theorem State.modBrk_half (s : State) (i : Fin 4) (f : Chopper → Chopper) : (s.modBrk i f).half = s.half := rfl
@[simp] theorem State.modBrk_hm (s : State) (i : Fin 4) (f : Chopper → Chopper) : (s.modBrk i f).hm = s.hm := rfl
@[simp] theorem State.modBrk_ih (s : State) (i : Fin 4) (f : Chopper → Chopper) : (s.modBrk i f).ih = s.ih := rfl
@[simp] theorem State.modBrk_port (s : State) (i : Fin 4) (f : Chopper → Chopper) : (s.modBrk i f).port = s.port := rfl
@[simp] theorem State.modBrk_quay (s : State) (i : Fin 4) (f : Chopper → Chopper) : (s.modBrk i f).quay = s.quay := rfl
@[simp] theorem State.modBrk_groups (s : State) (i : Fin 4) (f : Chopper → Chopper) : (s.modBrk i f).groups = s.groups := rfl
@[simp] theorem State.modBrk_leg (s : State) (i : Fin 4) (f : Chopper → Chopper) : (s.modBrk i f).leg = s.leg := rfl
@[simp] theorem State.modBrk_brk (s : State) (i : Fin 4) (f : Chopper → Chopper) : (s.modBrk i f).brk = vmod s.brk i f := rfl
@[simp] theorem State.modBrk_pins (s : State) (i : Fin 4) (f : Chopper → Chopper) : (s.modBrk i f).pins = s.pins := rfl
@[simp] theorem State.modBrk_cell (s : State) (i : Fin 4) (f : Chopper → Chopper) : (s.modBrk i f).cell = s.cell := rfl
@[simp] theorem State.modBrk_sd (s : State) (i : Fin 4) (f : Chopper → Chopper) : (s.modBrk i f).sd = s.sd := rfl
@[simp] theorem State.modBrk_lane (s : State) (i : Fin 4) (f : Chopper → Chopper) : (s.modBrk i f).lane = s.lane := rfl
@[simp] theorem State.modBrk_hw (s : State) (i : Fin 4) (f : Chopper → Chopper) : (s.modBrk i f).hw = s.hw := rfl
@[simp] theorem State.modBrk_flt (s : State) (i : Fin 4) (f : Chopper → Chopper) : (s.modBrk i f).flt = s.flt := rfl
@[simp] theorem State.modBrk_trace (s : State) (i : Fin 4) (f : Chopper → Chopper) : (s.modBrk i f).trace = s.trace := rfl
@[simp] theorem State.modBrk_free (s : State) (i : Fin 4) (f : Chopper → Chopper) : (s.modBrk i f).free = s.free := rfl
@[simp] theorem State.modBrk_pending (s : State) (i : Fin 4) (f : Chopper → Chopper) : (s.modBrk i f).pending = s.pending := rfl
theorem State.modBrk_self (s : State) (i : Fin 4) (f : Chopper → Chopper) : (s.modBrk i f).brk[i] = f s.brk[i] := vmod_self _ _ _
theorem State.modBrk_ne (s : State) {i j : Fin 4} (f : Chopper → Chopper) (h : i ≠ j) : (s.modBrk i f).brk[j] = s.brk[j] := vmod_ne _ f h

/-! ### modCell -/

@[simp] theorem State.modCell_fuse (s : State) (i : CellNo) (f : Cell → Cell) : (s.modCell i f).fuse = s.fuse := rfl
@[simp] theorem State.modCell_flash (s : State) (i : CellNo) (f : Cell → Cell) : (s.modCell i f).flash = s.flash := rfl
@[simp] theorem State.modCell_boot (s : State) (i : CellNo) (f : Cell → Cell) : (s.modCell i f).boot = s.boot := rfl
@[simp] theorem State.modCell_dl (s : State) (i : CellNo) (f : Cell → Cell) : (s.modCell i f).dl = s.dl := rfl
@[simp] theorem State.modCell_prot (s : State) (i : CellNo) (f : Cell → Cell) : (s.modCell i f).prot = s.prot := rfl
@[simp] theorem State.modCell_claims (s : State) (i : CellNo) (f : Cell → Cell) : (s.modCell i f).claims = s.claims := rfl
@[simp] theorem State.modCell_params (s : State) (i : CellNo) (f : Cell → Cell) : (s.modCell i f).params = s.params := rfl
@[simp] theorem State.modCell_tb (s : State) (i : CellNo) (f : Cell → Cell) : (s.modCell i f).tb = s.tb := rfl
@[simp] theorem State.modCell_thm (s : State) (i : CellNo) (f : Cell → Cell) : (s.modCell i f).thm = s.thm := rfl
@[simp] theorem State.modCell_supply (s : State) (i : CellNo) (f : Cell → Cell) : (s.modCell i f).supply = s.supply := rfl
@[simp] theorem State.modCell_half (s : State) (i : CellNo) (f : Cell → Cell) : (s.modCell i f).half = s.half := rfl
@[simp] theorem State.modCell_hm (s : State) (i : CellNo) (f : Cell → Cell) : (s.modCell i f).hm = s.hm := rfl
@[simp] theorem State.modCell_ih (s : State) (i : CellNo) (f : Cell → Cell) : (s.modCell i f).ih = s.ih := rfl
@[simp] theorem State.modCell_port (s : State) (i : CellNo) (f : Cell → Cell) : (s.modCell i f).port = s.port := rfl
@[simp] theorem State.modCell_quay (s : State) (i : CellNo) (f : Cell → Cell) : (s.modCell i f).quay = s.quay := rfl
@[simp] theorem State.modCell_groups (s : State) (i : CellNo) (f : Cell → Cell) : (s.modCell i f).groups = s.groups := rfl
@[simp] theorem State.modCell_leg (s : State) (i : CellNo) (f : Cell → Cell) : (s.modCell i f).leg = s.leg := rfl
@[simp] theorem State.modCell_brk (s : State) (i : CellNo) (f : Cell → Cell) : (s.modCell i f).brk = s.brk := rfl
@[simp] theorem State.modCell_pins (s : State) (i : CellNo) (f : Cell → Cell) : (s.modCell i f).pins = s.pins := rfl
@[simp] theorem State.modCell_cell (s : State) (i : CellNo) (f : Cell → Cell) : (s.modCell i f).cell = vmod s.cell i f := rfl
@[simp] theorem State.modCell_sd (s : State) (i : CellNo) (f : Cell → Cell) : (s.modCell i f).sd = s.sd := rfl
@[simp] theorem State.modCell_lane (s : State) (i : CellNo) (f : Cell → Cell) : (s.modCell i f).lane = s.lane := rfl
@[simp] theorem State.modCell_hw (s : State) (i : CellNo) (f : Cell → Cell) : (s.modCell i f).hw = s.hw := rfl
@[simp] theorem State.modCell_flt (s : State) (i : CellNo) (f : Cell → Cell) : (s.modCell i f).flt = s.flt := rfl
@[simp] theorem State.modCell_trace (s : State) (i : CellNo) (f : Cell → Cell) : (s.modCell i f).trace = s.trace := rfl
@[simp] theorem State.modCell_free (s : State) (i : CellNo) (f : Cell → Cell) : (s.modCell i f).free = s.free := rfl
@[simp] theorem State.modCell_pending (s : State) (i : CellNo) (f : Cell → Cell) : (s.modCell i f).pending = s.pending := rfl
theorem State.modCell_self (s : State) (i : CellNo) (f : Cell → Cell) : (s.modCell i f).cell[i] = f s.cell[i] := vmod_self _ _ _
theorem State.modCell_ne (s : State) {i j : CellNo} (f : Cell → Cell) (h : i ≠ j) : (s.modCell i f).cell[j] = s.cell[j] := vmod_ne _ f h

/-! ### modSd -/

@[simp] theorem State.modSd_fuse (s : State) (i : Fin 16) (f : SigmaDelta → SigmaDelta) : (s.modSd i f).fuse = s.fuse := rfl
@[simp] theorem State.modSd_flash (s : State) (i : Fin 16) (f : SigmaDelta → SigmaDelta) : (s.modSd i f).flash = s.flash := rfl
@[simp] theorem State.modSd_boot (s : State) (i : Fin 16) (f : SigmaDelta → SigmaDelta) : (s.modSd i f).boot = s.boot := rfl
@[simp] theorem State.modSd_dl (s : State) (i : Fin 16) (f : SigmaDelta → SigmaDelta) : (s.modSd i f).dl = s.dl := rfl
@[simp] theorem State.modSd_prot (s : State) (i : Fin 16) (f : SigmaDelta → SigmaDelta) : (s.modSd i f).prot = s.prot := rfl
@[simp] theorem State.modSd_claims (s : State) (i : Fin 16) (f : SigmaDelta → SigmaDelta) : (s.modSd i f).claims = s.claims := rfl
@[simp] theorem State.modSd_params (s : State) (i : Fin 16) (f : SigmaDelta → SigmaDelta) : (s.modSd i f).params = s.params := rfl
@[simp] theorem State.modSd_tb (s : State) (i : Fin 16) (f : SigmaDelta → SigmaDelta) : (s.modSd i f).tb = s.tb := rfl
@[simp] theorem State.modSd_thm (s : State) (i : Fin 16) (f : SigmaDelta → SigmaDelta) : (s.modSd i f).thm = s.thm := rfl
@[simp] theorem State.modSd_supply (s : State) (i : Fin 16) (f : SigmaDelta → SigmaDelta) : (s.modSd i f).supply = s.supply := rfl
@[simp] theorem State.modSd_half (s : State) (i : Fin 16) (f : SigmaDelta → SigmaDelta) : (s.modSd i f).half = s.half := rfl
@[simp] theorem State.modSd_hm (s : State) (i : Fin 16) (f : SigmaDelta → SigmaDelta) : (s.modSd i f).hm = s.hm := rfl
@[simp] theorem State.modSd_ih (s : State) (i : Fin 16) (f : SigmaDelta → SigmaDelta) : (s.modSd i f).ih = s.ih := rfl
@[simp] theorem State.modSd_port (s : State) (i : Fin 16) (f : SigmaDelta → SigmaDelta) : (s.modSd i f).port = s.port := rfl
@[simp] theorem State.modSd_quay (s : State) (i : Fin 16) (f : SigmaDelta → SigmaDelta) : (s.modSd i f).quay = s.quay := rfl
@[simp] theorem State.modSd_groups (s : State) (i : Fin 16) (f : SigmaDelta → SigmaDelta) : (s.modSd i f).groups = s.groups := rfl
@[simp] theorem State.modSd_leg (s : State) (i : Fin 16) (f : SigmaDelta → SigmaDelta) : (s.modSd i f).leg = s.leg := rfl
@[simp] theorem State.modSd_brk (s : State) (i : Fin 16) (f : SigmaDelta → SigmaDelta) : (s.modSd i f).brk = s.brk := rfl
@[simp] theorem State.modSd_pins (s : State) (i : Fin 16) (f : SigmaDelta → SigmaDelta) : (s.modSd i f).pins = s.pins := rfl
@[simp] theorem State.modSd_cell (s : State) (i : Fin 16) (f : SigmaDelta → SigmaDelta) : (s.modSd i f).cell = s.cell := rfl
@[simp] theorem State.modSd_sd (s : State) (i : Fin 16) (f : SigmaDelta → SigmaDelta) : (s.modSd i f).sd = vmod s.sd i f := rfl
@[simp] theorem State.modSd_lane (s : State) (i : Fin 16) (f : SigmaDelta → SigmaDelta) : (s.modSd i f).lane = s.lane := rfl
@[simp] theorem State.modSd_hw (s : State) (i : Fin 16) (f : SigmaDelta → SigmaDelta) : (s.modSd i f).hw = s.hw := rfl
@[simp] theorem State.modSd_flt (s : State) (i : Fin 16) (f : SigmaDelta → SigmaDelta) : (s.modSd i f).flt = s.flt := rfl
@[simp] theorem State.modSd_trace (s : State) (i : Fin 16) (f : SigmaDelta → SigmaDelta) : (s.modSd i f).trace = s.trace := rfl
@[simp] theorem State.modSd_free (s : State) (i : Fin 16) (f : SigmaDelta → SigmaDelta) : (s.modSd i f).free = s.free := rfl
@[simp] theorem State.modSd_pending (s : State) (i : Fin 16) (f : SigmaDelta → SigmaDelta) : (s.modSd i f).pending = s.pending := rfl
theorem State.modSd_self (s : State) (i : Fin 16) (f : SigmaDelta → SigmaDelta) : (s.modSd i f).sd[i] = f s.sd[i] := vmod_self _ _ _
theorem State.modSd_ne (s : State) {i j : Fin 16} (f : SigmaDelta → SigmaDelta) (h : i ≠ j) : (s.modSd i f).sd[j] = s.sd[j] := vmod_ne _ f h

/-! ### modLane -/

@[simp] theorem State.modLane_fuse (s : State) (i : LaneNo) (f : Lane → Lane) : (s.modLane i f).fuse = s.fuse := rfl
@[simp] theorem State.modLane_flash (s : State) (i : LaneNo) (f : Lane → Lane) : (s.modLane i f).flash = s.flash := rfl
@[simp] theorem State.modLane_boot (s : State) (i : LaneNo) (f : Lane → Lane) : (s.modLane i f).boot = s.boot := rfl
@[simp] theorem State.modLane_dl (s : State) (i : LaneNo) (f : Lane → Lane) : (s.modLane i f).dl = s.dl := rfl
@[simp] theorem State.modLane_prot (s : State) (i : LaneNo) (f : Lane → Lane) : (s.modLane i f).prot = s.prot := rfl
@[simp] theorem State.modLane_claims (s : State) (i : LaneNo) (f : Lane → Lane) : (s.modLane i f).claims = s.claims := rfl
@[simp] theorem State.modLane_params (s : State) (i : LaneNo) (f : Lane → Lane) : (s.modLane i f).params = s.params := rfl
@[simp] theorem State.modLane_tb (s : State) (i : LaneNo) (f : Lane → Lane) : (s.modLane i f).tb = s.tb := rfl
@[simp] theorem State.modLane_thm (s : State) (i : LaneNo) (f : Lane → Lane) : (s.modLane i f).thm = s.thm := rfl
@[simp] theorem State.modLane_supply (s : State) (i : LaneNo) (f : Lane → Lane) : (s.modLane i f).supply = s.supply := rfl
@[simp] theorem State.modLane_half (s : State) (i : LaneNo) (f : Lane → Lane) : (s.modLane i f).half = s.half := rfl
@[simp] theorem State.modLane_hm (s : State) (i : LaneNo) (f : Lane → Lane) : (s.modLane i f).hm = s.hm := rfl
@[simp] theorem State.modLane_ih (s : State) (i : LaneNo) (f : Lane → Lane) : (s.modLane i f).ih = s.ih := rfl
@[simp] theorem State.modLane_port (s : State) (i : LaneNo) (f : Lane → Lane) : (s.modLane i f).port = s.port := rfl
@[simp] theorem State.modLane_quay (s : State) (i : LaneNo) (f : Lane → Lane) : (s.modLane i f).quay = s.quay := rfl
@[simp] theorem State.modLane_groups (s : State) (i : LaneNo) (f : Lane → Lane) : (s.modLane i f).groups = s.groups := rfl
@[simp] theorem State.modLane_leg (s : State) (i : LaneNo) (f : Lane → Lane) : (s.modLane i f).leg = s.leg := rfl
@[simp] theorem State.modLane_brk (s : State) (i : LaneNo) (f : Lane → Lane) : (s.modLane i f).brk = s.brk := rfl
@[simp] theorem State.modLane_pins (s : State) (i : LaneNo) (f : Lane → Lane) : (s.modLane i f).pins = s.pins := rfl
@[simp] theorem State.modLane_cell (s : State) (i : LaneNo) (f : Lane → Lane) : (s.modLane i f).cell = s.cell := rfl
@[simp] theorem State.modLane_sd (s : State) (i : LaneNo) (f : Lane → Lane) : (s.modLane i f).sd = s.sd := rfl
@[simp] theorem State.modLane_lane (s : State) (i : LaneNo) (f : Lane → Lane) : (s.modLane i f).lane = vmod s.lane i f := rfl
@[simp] theorem State.modLane_hw (s : State) (i : LaneNo) (f : Lane → Lane) : (s.modLane i f).hw = s.hw := rfl
@[simp] theorem State.modLane_flt (s : State) (i : LaneNo) (f : Lane → Lane) : (s.modLane i f).flt = s.flt := rfl
@[simp] theorem State.modLane_trace (s : State) (i : LaneNo) (f : Lane → Lane) : (s.modLane i f).trace = s.trace := rfl
@[simp] theorem State.modLane_free (s : State) (i : LaneNo) (f : Lane → Lane) : (s.modLane i f).free = s.free := rfl
@[simp] theorem State.modLane_pending (s : State) (i : LaneNo) (f : Lane → Lane) : (s.modLane i f).pending = s.pending := rfl
theorem State.modLane_self (s : State) (i : LaneNo) (f : Lane → Lane) : (s.modLane i f).lane[i] = f s.lane[i] := vmod_self _ _ _
theorem State.modLane_ne (s : State) {i j : LaneNo} (f : Lane → Lane) (h : i ≠ j) : (s.modLane i f).lane[j] = s.lane[j] := vmod_ne _ f h

/-! ### modTrace -/

@[simp] theorem State.modTrace_fuse (s : State) (i : Fin 16) (f : TraceRegion → TraceRegion) : (s.modTrace i f).fuse = s.fuse := rfl
@[simp] theorem State.modTrace_flash (s : State) (i : Fin 16) (f : TraceRegion → TraceRegion) : (s.modTrace i f).flash = s.flash := rfl
@[simp] theorem State.modTrace_boot (s : State) (i : Fin 16) (f : TraceRegion → TraceRegion) : (s.modTrace i f).boot = s.boot := rfl
@[simp] theorem State.modTrace_dl (s : State) (i : Fin 16) (f : TraceRegion → TraceRegion) : (s.modTrace i f).dl = s.dl := rfl
@[simp] theorem State.modTrace_prot (s : State) (i : Fin 16) (f : TraceRegion → TraceRegion) : (s.modTrace i f).prot = s.prot := rfl
@[simp] theorem State.modTrace_claims (s : State) (i : Fin 16) (f : TraceRegion → TraceRegion) : (s.modTrace i f).claims = s.claims := rfl
@[simp] theorem State.modTrace_params (s : State) (i : Fin 16) (f : TraceRegion → TraceRegion) : (s.modTrace i f).params = s.params := rfl
@[simp] theorem State.modTrace_tb (s : State) (i : Fin 16) (f : TraceRegion → TraceRegion) : (s.modTrace i f).tb = s.tb := rfl
@[simp] theorem State.modTrace_thm (s : State) (i : Fin 16) (f : TraceRegion → TraceRegion) : (s.modTrace i f).thm = s.thm := rfl
@[simp] theorem State.modTrace_supply (s : State) (i : Fin 16) (f : TraceRegion → TraceRegion) : (s.modTrace i f).supply = s.supply := rfl
@[simp] theorem State.modTrace_half (s : State) (i : Fin 16) (f : TraceRegion → TraceRegion) : (s.modTrace i f).half = s.half := rfl
@[simp] theorem State.modTrace_hm (s : State) (i : Fin 16) (f : TraceRegion → TraceRegion) : (s.modTrace i f).hm = s.hm := rfl
@[simp] theorem State.modTrace_ih (s : State) (i : Fin 16) (f : TraceRegion → TraceRegion) : (s.modTrace i f).ih = s.ih := rfl
@[simp] theorem State.modTrace_port (s : State) (i : Fin 16) (f : TraceRegion → TraceRegion) : (s.modTrace i f).port = s.port := rfl
@[simp] theorem State.modTrace_quay (s : State) (i : Fin 16) (f : TraceRegion → TraceRegion) : (s.modTrace i f).quay = s.quay := rfl
@[simp] theorem State.modTrace_groups (s : State) (i : Fin 16) (f : TraceRegion → TraceRegion) : (s.modTrace i f).groups = s.groups := rfl
@[simp] theorem State.modTrace_leg (s : State) (i : Fin 16) (f : TraceRegion → TraceRegion) : (s.modTrace i f).leg = s.leg := rfl
@[simp] theorem State.modTrace_brk (s : State) (i : Fin 16) (f : TraceRegion → TraceRegion) : (s.modTrace i f).brk = s.brk := rfl
@[simp] theorem State.modTrace_pins (s : State) (i : Fin 16) (f : TraceRegion → TraceRegion) : (s.modTrace i f).pins = s.pins := rfl
@[simp] theorem State.modTrace_cell (s : State) (i : Fin 16) (f : TraceRegion → TraceRegion) : (s.modTrace i f).cell = s.cell := rfl
@[simp] theorem State.modTrace_sd (s : State) (i : Fin 16) (f : TraceRegion → TraceRegion) : (s.modTrace i f).sd = s.sd := rfl
@[simp] theorem State.modTrace_lane (s : State) (i : Fin 16) (f : TraceRegion → TraceRegion) : (s.modTrace i f).lane = s.lane := rfl
@[simp] theorem State.modTrace_hw (s : State) (i : Fin 16) (f : TraceRegion → TraceRegion) : (s.modTrace i f).hw = s.hw := rfl
@[simp] theorem State.modTrace_flt (s : State) (i : Fin 16) (f : TraceRegion → TraceRegion) : (s.modTrace i f).flt = s.flt := rfl
@[simp] theorem State.modTrace_trace (s : State) (i : Fin 16) (f : TraceRegion → TraceRegion) : (s.modTrace i f).trace = vmod s.trace i f := rfl
@[simp] theorem State.modTrace_free (s : State) (i : Fin 16) (f : TraceRegion → TraceRegion) : (s.modTrace i f).free = s.free := rfl
@[simp] theorem State.modTrace_pending (s : State) (i : Fin 16) (f : TraceRegion → TraceRegion) : (s.modTrace i f).pending = s.pending := rfl
theorem State.modTrace_self (s : State) (i : Fin 16) (f : TraceRegion → TraceRegion) : (s.modTrace i f).trace[i] = f s.trace[i] := vmod_self _ _ _
theorem State.modTrace_ne (s : State) {i j : Fin 16} (f : TraceRegion → TraceRegion) (h : i ≠ j) : (s.modTrace i f).trace[j] = s.trace[j] := vmod_ne _ f h

/-! ### modHalf -/

@[simp] theorem State.modHalf_fuse (s : State) (i : Side) (f : Half → Half) : (s.modHalf i f).fuse = s.fuse := rfl
@[simp] theorem State.modHalf_flash (s : State) (i : Side) (f : Half → Half) : (s.modHalf i f).flash = s.flash := rfl
@[simp] theorem State.modHalf_boot (s : State) (i : Side) (f : Half → Half) : (s.modHalf i f).boot = s.boot := rfl
@[simp] theorem State.modHalf_dl (s : State) (i : Side) (f : Half → Half) : (s.modHalf i f).dl = s.dl := rfl
@[simp] theorem State.modHalf_prot (s : State) (i : Side) (f : Half → Half) : (s.modHalf i f).prot = s.prot := rfl
@[simp] theorem State.modHalf_claims (s : State) (i : Side) (f : Half → Half) : (s.modHalf i f).claims = s.claims := rfl
@[simp] theorem State.modHalf_params (s : State) (i : Side) (f : Half → Half) : (s.modHalf i f).params = s.params := rfl
@[simp] theorem State.modHalf_tb (s : State) (i : Side) (f : Half → Half) : (s.modHalf i f).tb = s.tb := rfl
@[simp] theorem State.modHalf_thm (s : State) (i : Side) (f : Half → Half) : (s.modHalf i f).thm = s.thm := rfl
@[simp] theorem State.modHalf_supply (s : State) (i : Side) (f : Half → Half) : (s.modHalf i f).supply = s.supply := rfl
@[simp] theorem State.modHalf_half (s : State) (i : Side) (f : Half → Half) : (s.modHalf i f).half = s.half.set i (f (s.half.get i)) := rfl
@[simp] theorem State.modHalf_hm (s : State) (i : Side) (f : Half → Half) : (s.modHalf i f).hm = s.hm := rfl
@[simp] theorem State.modHalf_ih (s : State) (i : Side) (f : Half → Half) : (s.modHalf i f).ih = s.ih := rfl
@[simp] theorem State.modHalf_port (s : State) (i : Side) (f : Half → Half) : (s.modHalf i f).port = s.port := rfl
@[simp] theorem State.modHalf_quay (s : State) (i : Side) (f : Half → Half) : (s.modHalf i f).quay = s.quay := rfl
@[simp] theorem State.modHalf_groups (s : State) (i : Side) (f : Half → Half) : (s.modHalf i f).groups = s.groups := rfl
@[simp] theorem State.modHalf_leg (s : State) (i : Side) (f : Half → Half) : (s.modHalf i f).leg = s.leg := rfl
@[simp] theorem State.modHalf_brk (s : State) (i : Side) (f : Half → Half) : (s.modHalf i f).brk = s.brk := rfl
@[simp] theorem State.modHalf_pins (s : State) (i : Side) (f : Half → Half) : (s.modHalf i f).pins = s.pins := rfl
@[simp] theorem State.modHalf_cell (s : State) (i : Side) (f : Half → Half) : (s.modHalf i f).cell = s.cell := rfl
@[simp] theorem State.modHalf_sd (s : State) (i : Side) (f : Half → Half) : (s.modHalf i f).sd = s.sd := rfl
@[simp] theorem State.modHalf_lane (s : State) (i : Side) (f : Half → Half) : (s.modHalf i f).lane = s.lane := rfl
@[simp] theorem State.modHalf_hw (s : State) (i : Side) (f : Half → Half) : (s.modHalf i f).hw = s.hw := rfl
@[simp] theorem State.modHalf_flt (s : State) (i : Side) (f : Half → Half) : (s.modHalf i f).flt = s.flt := rfl
@[simp] theorem State.modHalf_trace (s : State) (i : Side) (f : Half → Half) : (s.modHalf i f).trace = s.trace := rfl
@[simp] theorem State.modHalf_free (s : State) (i : Side) (f : Half → Half) : (s.modHalf i f).free = s.free := rfl
@[simp] theorem State.modHalf_pending (s : State) (i : Side) (f : Half → Half) : (s.modHalf i f).pending = s.pending := rfl
@[simp] theorem State.modHalf_self (s : State) (i : Side) (f : Half → Half) : (s.modHalf i f).half.get i = f (s.half.get i) := Pair.get_set _ _ _
theorem State.modHalf_ne (s : State) {i j : Side} (f : Half → Half) (h : i ≠ j) : (s.modHalf i f).half.get j = s.half.get j := Pair.get_set_ne _ _ h

/-! ### modPort -/

@[simp] theorem State.modPort_fuse (s : State) (i : Side) (f : Port → Port) : (s.modPort i f).fuse = s.fuse := rfl
@[simp] theorem State.modPort_flash (s : State) (i : Side) (f : Port → Port) : (s.modPort i f).flash = s.flash := rfl
@[simp] theorem State.modPort_boot (s : State) (i : Side) (f : Port → Port) : (s.modPort i f).boot = s.boot := rfl
@[simp] theorem State.modPort_dl (s : State) (i : Side) (f : Port → Port) : (s.modPort i f).dl = s.dl := rfl
@[simp] theorem State.modPort_prot (s : State) (i : Side) (f : Port → Port) : (s.modPort i f).prot = s.prot := rfl
@[simp] theorem State.modPort_claims (s : State) (i : Side) (f : Port → Port) : (s.modPort i f).claims = s.claims := rfl
@[simp] theorem State.modPort_params (s : State) (i : Side) (f : Port → Port) : (s.modPort i f).params = s.params := rfl
@[simp] theorem State.modPort_tb (s : State) (i : Side) (f : Port → Port) : (s.modPort i f).tb = s.tb := rfl
@[simp] theorem State.modPort_thm (s : State) (i : Side) (f : Port → Port) : (s.modPort i f).thm = s.thm := rfl
@[simp] theorem State.modPort_supply (s : State) (i : Side) (f : Port → Port) : (s.modPort i f).supply = s.supply := rfl
@[simp] theorem State.modPort_half (s : State) (i : Side) (f : Port → Port) : (s.modPort i f).half = s.half := rfl
@[simp] theorem State.modPort_hm (s : State) (i : Side) (f : Port → Port) : (s.modPort i f).hm = s.hm := rfl
@[simp] theorem State.modPort_ih (s : State) (i : Side) (f : Port → Port) : (s.modPort i f).ih = s.ih := rfl
@[simp] theorem State.modPort_port (s : State) (i : Side) (f : Port → Port) : (s.modPort i f).port = s.port.set i (f (s.port.get i)) := rfl
@[simp] theorem State.modPort_quay (s : State) (i : Side) (f : Port → Port) : (s.modPort i f).quay = s.quay := rfl
@[simp] theorem State.modPort_groups (s : State) (i : Side) (f : Port → Port) : (s.modPort i f).groups = s.groups := rfl
@[simp] theorem State.modPort_leg (s : State) (i : Side) (f : Port → Port) : (s.modPort i f).leg = s.leg := rfl
@[simp] theorem State.modPort_brk (s : State) (i : Side) (f : Port → Port) : (s.modPort i f).brk = s.brk := rfl
@[simp] theorem State.modPort_pins (s : State) (i : Side) (f : Port → Port) : (s.modPort i f).pins = s.pins := rfl
@[simp] theorem State.modPort_cell (s : State) (i : Side) (f : Port → Port) : (s.modPort i f).cell = s.cell := rfl
@[simp] theorem State.modPort_sd (s : State) (i : Side) (f : Port → Port) : (s.modPort i f).sd = s.sd := rfl
@[simp] theorem State.modPort_lane (s : State) (i : Side) (f : Port → Port) : (s.modPort i f).lane = s.lane := rfl
@[simp] theorem State.modPort_hw (s : State) (i : Side) (f : Port → Port) : (s.modPort i f).hw = s.hw := rfl
@[simp] theorem State.modPort_flt (s : State) (i : Side) (f : Port → Port) : (s.modPort i f).flt = s.flt := rfl
@[simp] theorem State.modPort_trace (s : State) (i : Side) (f : Port → Port) : (s.modPort i f).trace = s.trace := rfl
@[simp] theorem State.modPort_free (s : State) (i : Side) (f : Port → Port) : (s.modPort i f).free = s.free := rfl
@[simp] theorem State.modPort_pending (s : State) (i : Side) (f : Port → Port) : (s.modPort i f).pending = s.pending := rfl
@[simp] theorem State.modPort_self (s : State) (i : Side) (f : Port → Port) : (s.modPort i f).port.get i = f (s.port.get i) := Pair.get_set _ _ _
theorem State.modPort_ne (s : State) {i j : Side} (f : Port → Port) (h : i ≠ j) : (s.modPort i f).port.get j = s.port.get j := Pair.get_set_ne _ _ h

/-! ### modFlt -/

@[simp] theorem State.modFlt_fuse (s : State) (f : Collector → Collector) : (s.modFlt f).fuse = s.fuse := rfl
@[simp] theorem State.modFlt_flash (s : State) (f : Collector → Collector) : (s.modFlt f).flash = s.flash := rfl
@[simp] theorem State.modFlt_boot (s : State) (f : Collector → Collector) : (s.modFlt f).boot = s.boot := rfl
@[simp] theorem State.modFlt_dl (s : State) (f : Collector → Collector) : (s.modFlt f).dl = s.dl := rfl
@[simp] theorem State.modFlt_prot (s : State) (f : Collector → Collector) : (s.modFlt f).prot = s.prot := rfl
@[simp] theorem State.modFlt_claims (s : State) (f : Collector → Collector) : (s.modFlt f).claims = s.claims := rfl
@[simp] theorem State.modFlt_params (s : State) (f : Collector → Collector) : (s.modFlt f).params = s.params := rfl
@[simp] theorem State.modFlt_tb (s : State) (f : Collector → Collector) : (s.modFlt f).tb = s.tb := rfl
@[simp] theorem State.modFlt_thm (s : State) (f : Collector → Collector) : (s.modFlt f).thm = s.thm := rfl
@[simp] theorem State.modFlt_supply (s : State) (f : Collector → Collector) : (s.modFlt f).supply = s.supply := rfl
@[simp] theorem State.modFlt_half (s : State) (f : Collector → Collector) : (s.modFlt f).half = s.half := rfl
@[simp] theorem State.modFlt_hm (s : State) (f : Collector → Collector) : (s.modFlt f).hm = s.hm := rfl
@[simp] theorem State.modFlt_ih (s : State) (f : Collector → Collector) : (s.modFlt f).ih = s.ih := rfl
@[simp] theorem State.modFlt_port (s : State) (f : Collector → Collector) : (s.modFlt f).port = s.port := rfl
@[simp] theorem State.modFlt_quay (s : State) (f : Collector → Collector) : (s.modFlt f).quay = s.quay := rfl
@[simp] theorem State.modFlt_groups (s : State) (f : Collector → Collector) : (s.modFlt f).groups = s.groups := rfl
@[simp] theorem State.modFlt_leg (s : State) (f : Collector → Collector) : (s.modFlt f).leg = s.leg := rfl
@[simp] theorem State.modFlt_brk (s : State) (f : Collector → Collector) : (s.modFlt f).brk = s.brk := rfl
@[simp] theorem State.modFlt_pins (s : State) (f : Collector → Collector) : (s.modFlt f).pins = s.pins := rfl
@[simp] theorem State.modFlt_cell (s : State) (f : Collector → Collector) : (s.modFlt f).cell = s.cell := rfl
@[simp] theorem State.modFlt_sd (s : State) (f : Collector → Collector) : (s.modFlt f).sd = s.sd := rfl
@[simp] theorem State.modFlt_lane (s : State) (f : Collector → Collector) : (s.modFlt f).lane = s.lane := rfl
@[simp] theorem State.modFlt_hw (s : State) (f : Collector → Collector) : (s.modFlt f).hw = s.hw := rfl
@[simp] theorem State.modFlt_flt (s : State) (f : Collector → Collector) : (s.modFlt f).flt = f s.flt := rfl
@[simp] theorem State.modFlt_trace (s : State) (f : Collector → Collector) : (s.modFlt f).trace = s.trace := rfl
@[simp] theorem State.modFlt_free (s : State) (f : Collector → Collector) : (s.modFlt f).free = s.free := rfl
@[simp] theorem State.modFlt_pending (s : State) (f : Collector → Collector) : (s.modFlt f).pending = s.pending := rfl

/-! ### modBoot -/

@[simp] theorem State.modBoot_fuse (s : State) (f : Boot → Boot) : (s.modBoot f).fuse = s.fuse := rfl
@[simp] theorem State.modBoot_flash (s : State) (f : Boot → Boot) : (s.modBoot f).flash = s.flash := rfl
@[simp] theorem State.modBoot_boot (s : State) (f : Boot → Boot) : (s.modBoot f).boot = f s.boot := rfl
@[simp] theorem State.modBoot_dl (s : State) (f : Boot → Boot) : (s.modBoot f).dl = s.dl := rfl
@[simp] theorem State.modBoot_prot (s : State) (f : Boot → Boot) : (s.modBoot f).prot = s.prot := rfl
@[simp] theorem State.modBoot_claims (s : State) (f : Boot → Boot) : (s.modBoot f).claims = s.claims := rfl
@[simp] theorem State.modBoot_params (s : State) (f : Boot → Boot) : (s.modBoot f).params = s.params := rfl
@[simp] theorem State.modBoot_tb (s : State) (f : Boot → Boot) : (s.modBoot f).tb = s.tb := rfl
@[simp] theorem State.modBoot_thm (s : State) (f : Boot → Boot) : (s.modBoot f).thm = s.thm := rfl
@[simp] theorem State.modBoot_supply (s : State) (f : Boot → Boot) : (s.modBoot f).supply = s.supply := rfl
@[simp] theorem State.modBoot_half (s : State) (f : Boot → Boot) : (s.modBoot f).half = s.half := rfl
@[simp] theorem State.modBoot_hm (s : State) (f : Boot → Boot) : (s.modBoot f).hm = s.hm := rfl
@[simp] theorem State.modBoot_ih (s : State) (f : Boot → Boot) : (s.modBoot f).ih = s.ih := rfl
@[simp] theorem State.modBoot_port (s : State) (f : Boot → Boot) : (s.modBoot f).port = s.port := rfl
@[simp] theorem State.modBoot_quay (s : State) (f : Boot → Boot) : (s.modBoot f).quay = s.quay := rfl
@[simp] theorem State.modBoot_groups (s : State) (f : Boot → Boot) : (s.modBoot f).groups = s.groups := rfl
@[simp] theorem State.modBoot_leg (s : State) (f : Boot → Boot) : (s.modBoot f).leg = s.leg := rfl
@[simp] theorem State.modBoot_brk (s : State) (f : Boot → Boot) : (s.modBoot f).brk = s.brk := rfl
@[simp] theorem State.modBoot_pins (s : State) (f : Boot → Boot) : (s.modBoot f).pins = s.pins := rfl
@[simp] theorem State.modBoot_cell (s : State) (f : Boot → Boot) : (s.modBoot f).cell = s.cell := rfl
@[simp] theorem State.modBoot_sd (s : State) (f : Boot → Boot) : (s.modBoot f).sd = s.sd := rfl
@[simp] theorem State.modBoot_lane (s : State) (f : Boot → Boot) : (s.modBoot f).lane = s.lane := rfl
@[simp] theorem State.modBoot_hw (s : State) (f : Boot → Boot) : (s.modBoot f).hw = s.hw := rfl
@[simp] theorem State.modBoot_flt (s : State) (f : Boot → Boot) : (s.modBoot f).flt = s.flt := rfl
@[simp] theorem State.modBoot_trace (s : State) (f : Boot → Boot) : (s.modBoot f).trace = s.trace := rfl
@[simp] theorem State.modBoot_free (s : State) (f : Boot → Boot) : (s.modBoot f).free = s.free := rfl
@[simp] theorem State.modBoot_pending (s : State) (f : Boot → Boot) : (s.modBoot f).pending = s.pending := rfl

/-! ### modTb -/

@[simp] theorem State.modTb_fuse (s : State) (f : TimeBase → TimeBase) : (s.modTb f).fuse = s.fuse := rfl
@[simp] theorem State.modTb_flash (s : State) (f : TimeBase → TimeBase) : (s.modTb f).flash = s.flash := rfl
@[simp] theorem State.modTb_boot (s : State) (f : TimeBase → TimeBase) : (s.modTb f).boot = s.boot := rfl
@[simp] theorem State.modTb_dl (s : State) (f : TimeBase → TimeBase) : (s.modTb f).dl = s.dl := rfl
@[simp] theorem State.modTb_prot (s : State) (f : TimeBase → TimeBase) : (s.modTb f).prot = s.prot := rfl
@[simp] theorem State.modTb_claims (s : State) (f : TimeBase → TimeBase) : (s.modTb f).claims = s.claims := rfl
@[simp] theorem State.modTb_params (s : State) (f : TimeBase → TimeBase) : (s.modTb f).params = s.params := rfl
@[simp] theorem State.modTb_tb (s : State) (f : TimeBase → TimeBase) : (s.modTb f).tb = f s.tb := rfl
@[simp] theorem State.modTb_thm (s : State) (f : TimeBase → TimeBase) : (s.modTb f).thm = s.thm := rfl
@[simp] theorem State.modTb_supply (s : State) (f : TimeBase → TimeBase) : (s.modTb f).supply = s.supply := rfl
@[simp] theorem State.modTb_half (s : State) (f : TimeBase → TimeBase) : (s.modTb f).half = s.half := rfl
@[simp] theorem State.modTb_hm (s : State) (f : TimeBase → TimeBase) : (s.modTb f).hm = s.hm := rfl
@[simp] theorem State.modTb_ih (s : State) (f : TimeBase → TimeBase) : (s.modTb f).ih = s.ih := rfl
@[simp] theorem State.modTb_port (s : State) (f : TimeBase → TimeBase) : (s.modTb f).port = s.port := rfl
@[simp] theorem State.modTb_quay (s : State) (f : TimeBase → TimeBase) : (s.modTb f).quay = s.quay := rfl
@[simp] theorem State.modTb_groups (s : State) (f : TimeBase → TimeBase) : (s.modTb f).groups = s.groups := rfl
@[simp] theorem State.modTb_leg (s : State) (f : TimeBase → TimeBase) : (s.modTb f).leg = s.leg := rfl
@[simp] theorem State.modTb_brk (s : State) (f : TimeBase → TimeBase) : (s.modTb f).brk = s.brk := rfl
@[simp] theorem State.modTb_pins (s : State) (f : TimeBase → TimeBase) : (s.modTb f).pins = s.pins := rfl
@[simp] theorem State.modTb_cell (s : State) (f : TimeBase → TimeBase) : (s.modTb f).cell = s.cell := rfl
@[simp] theorem State.modTb_sd (s : State) (f : TimeBase → TimeBase) : (s.modTb f).sd = s.sd := rfl
@[simp] theorem State.modTb_lane (s : State) (f : TimeBase → TimeBase) : (s.modTb f).lane = s.lane := rfl
@[simp] theorem State.modTb_hw (s : State) (f : TimeBase → TimeBase) : (s.modTb f).hw = s.hw := rfl
@[simp] theorem State.modTb_flt (s : State) (f : TimeBase → TimeBase) : (s.modTb f).flt = s.flt := rfl
@[simp] theorem State.modTb_trace (s : State) (f : TimeBase → TimeBase) : (s.modTb f).trace = s.trace := rfl
@[simp] theorem State.modTb_free (s : State) (f : TimeBase → TimeBase) : (s.modTb f).free = s.free := rfl
@[simp] theorem State.modTb_pending (s : State) (f : TimeBase → TimeBase) : (s.modTb f).pending = s.pending := rfl

/-! ### modThm -/

@[simp] theorem State.modThm_fuse (s : State) (f : Thermal → Thermal) : (s.modThm f).fuse = s.fuse := rfl
@[simp] theorem State.modThm_flash (s : State) (f : Thermal → Thermal) : (s.modThm f).flash = s.flash := rfl
@[simp] theorem State.modThm_boot (s : State) (f : Thermal → Thermal) : (s.modThm f).boot = s.boot := rfl
@[simp] theorem State.modThm_dl (s : State) (f : Thermal → Thermal) : (s.modThm f).dl = s.dl := rfl
@[simp] theorem State.modThm_prot (s : State) (f : Thermal → Thermal) : (s.modThm f).prot = s.prot := rfl
@[simp] theorem State.modThm_claims (s : State) (f : Thermal → Thermal) : (s.modThm f).claims = s.claims := rfl
@[simp] theorem State.modThm_params (s : State) (f : Thermal → Thermal) : (s.modThm f).params = s.params := rfl
@[simp] theorem State.modThm_tb (s : State) (f : Thermal → Thermal) : (s.modThm f).tb = s.tb := rfl
@[simp] theorem State.modThm_thm (s : State) (f : Thermal → Thermal) : (s.modThm f).thm = f s.thm := rfl
@[simp] theorem State.modThm_supply (s : State) (f : Thermal → Thermal) : (s.modThm f).supply = s.supply := rfl
@[simp] theorem State.modThm_half (s : State) (f : Thermal → Thermal) : (s.modThm f).half = s.half := rfl
@[simp] theorem State.modThm_hm (s : State) (f : Thermal → Thermal) : (s.modThm f).hm = s.hm := rfl
@[simp] theorem State.modThm_ih (s : State) (f : Thermal → Thermal) : (s.modThm f).ih = s.ih := rfl
@[simp] theorem State.modThm_port (s : State) (f : Thermal → Thermal) : (s.modThm f).port = s.port := rfl
@[simp] theorem State.modThm_quay (s : State) (f : Thermal → Thermal) : (s.modThm f).quay = s.quay := rfl
@[simp] theorem State.modThm_groups (s : State) (f : Thermal → Thermal) : (s.modThm f).groups = s.groups := rfl
@[simp] theorem State.modThm_leg (s : State) (f : Thermal → Thermal) : (s.modThm f).leg = s.leg := rfl
@[simp] theorem State.modThm_brk (s : State) (f : Thermal → Thermal) : (s.modThm f).brk = s.brk := rfl
@[simp] theorem State.modThm_pins (s : State) (f : Thermal → Thermal) : (s.modThm f).pins = s.pins := rfl
@[simp] theorem State.modThm_cell (s : State) (f : Thermal → Thermal) : (s.modThm f).cell = s.cell := rfl
@[simp] theorem State.modThm_sd (s : State) (f : Thermal → Thermal) : (s.modThm f).sd = s.sd := rfl
@[simp] theorem State.modThm_lane (s : State) (f : Thermal → Thermal) : (s.modThm f).lane = s.lane := rfl
@[simp] theorem State.modThm_hw (s : State) (f : Thermal → Thermal) : (s.modThm f).hw = s.hw := rfl
@[simp] theorem State.modThm_flt (s : State) (f : Thermal → Thermal) : (s.modThm f).flt = s.flt := rfl
@[simp] theorem State.modThm_trace (s : State) (f : Thermal → Thermal) : (s.modThm f).trace = s.trace := rfl
@[simp] theorem State.modThm_free (s : State) (f : Thermal → Thermal) : (s.modThm f).free = s.free := rfl
@[simp] theorem State.modThm_pending (s : State) (f : Thermal → Thermal) : (s.modThm f).pending = s.pending := rfl

/-! ### modSupply -/

@[simp] theorem State.modSupply_fuse (s : State) (f : Supply → Supply) : (s.modSupply f).fuse = s.fuse := rfl
@[simp] theorem State.modSupply_flash (s : State) (f : Supply → Supply) : (s.modSupply f).flash = s.flash := rfl
@[simp] theorem State.modSupply_boot (s : State) (f : Supply → Supply) : (s.modSupply f).boot = s.boot := rfl
@[simp] theorem State.modSupply_dl (s : State) (f : Supply → Supply) : (s.modSupply f).dl = s.dl := rfl
@[simp] theorem State.modSupply_prot (s : State) (f : Supply → Supply) : (s.modSupply f).prot = s.prot := rfl
@[simp] theorem State.modSupply_claims (s : State) (f : Supply → Supply) : (s.modSupply f).claims = s.claims := rfl
@[simp] theorem State.modSupply_params (s : State) (f : Supply → Supply) : (s.modSupply f).params = s.params := rfl
@[simp] theorem State.modSupply_tb (s : State) (f : Supply → Supply) : (s.modSupply f).tb = s.tb := rfl
@[simp] theorem State.modSupply_thm (s : State) (f : Supply → Supply) : (s.modSupply f).thm = s.thm := rfl
@[simp] theorem State.modSupply_supply (s : State) (f : Supply → Supply) : (s.modSupply f).supply = f s.supply := rfl
@[simp] theorem State.modSupply_half (s : State) (f : Supply → Supply) : (s.modSupply f).half = s.half := rfl
@[simp] theorem State.modSupply_hm (s : State) (f : Supply → Supply) : (s.modSupply f).hm = s.hm := rfl
@[simp] theorem State.modSupply_ih (s : State) (f : Supply → Supply) : (s.modSupply f).ih = s.ih := rfl
@[simp] theorem State.modSupply_port (s : State) (f : Supply → Supply) : (s.modSupply f).port = s.port := rfl
@[simp] theorem State.modSupply_quay (s : State) (f : Supply → Supply) : (s.modSupply f).quay = s.quay := rfl
@[simp] theorem State.modSupply_groups (s : State) (f : Supply → Supply) : (s.modSupply f).groups = s.groups := rfl
@[simp] theorem State.modSupply_leg (s : State) (f : Supply → Supply) : (s.modSupply f).leg = s.leg := rfl
@[simp] theorem State.modSupply_brk (s : State) (f : Supply → Supply) : (s.modSupply f).brk = s.brk := rfl
@[simp] theorem State.modSupply_pins (s : State) (f : Supply → Supply) : (s.modSupply f).pins = s.pins := rfl
@[simp] theorem State.modSupply_cell (s : State) (f : Supply → Supply) : (s.modSupply f).cell = s.cell := rfl
@[simp] theorem State.modSupply_sd (s : State) (f : Supply → Supply) : (s.modSupply f).sd = s.sd := rfl
@[simp] theorem State.modSupply_lane (s : State) (f : Supply → Supply) : (s.modSupply f).lane = s.lane := rfl
@[simp] theorem State.modSupply_hw (s : State) (f : Supply → Supply) : (s.modSupply f).hw = s.hw := rfl
@[simp] theorem State.modSupply_flt (s : State) (f : Supply → Supply) : (s.modSupply f).flt = s.flt := rfl
@[simp] theorem State.modSupply_trace (s : State) (f : Supply → Supply) : (s.modSupply f).trace = s.trace := rfl
@[simp] theorem State.modSupply_free (s : State) (f : Supply → Supply) : (s.modSupply f).free = s.free := rfl
@[simp] theorem State.modSupply_pending (s : State) (f : Supply → Supply) : (s.modSupply f).pending = s.pending := rfl

/-! ### modHm -/

@[simp] theorem State.modHm_fuse (s : State) (f : Harbour → Harbour) : (s.modHm f).fuse = s.fuse := rfl
@[simp] theorem State.modHm_flash (s : State) (f : Harbour → Harbour) : (s.modHm f).flash = s.flash := rfl
@[simp] theorem State.modHm_boot (s : State) (f : Harbour → Harbour) : (s.modHm f).boot = s.boot := rfl
@[simp] theorem State.modHm_dl (s : State) (f : Harbour → Harbour) : (s.modHm f).dl = s.dl := rfl
@[simp] theorem State.modHm_prot (s : State) (f : Harbour → Harbour) : (s.modHm f).prot = s.prot := rfl
@[simp] theorem State.modHm_claims (s : State) (f : Harbour → Harbour) : (s.modHm f).claims = s.claims := rfl
@[simp] theorem State.modHm_params (s : State) (f : Harbour → Harbour) : (s.modHm f).params = s.params := rfl
@[simp] theorem State.modHm_tb (s : State) (f : Harbour → Harbour) : (s.modHm f).tb = s.tb := rfl
@[simp] theorem State.modHm_thm (s : State) (f : Harbour → Harbour) : (s.modHm f).thm = s.thm := rfl
@[simp] theorem State.modHm_supply (s : State) (f : Harbour → Harbour) : (s.modHm f).supply = s.supply := rfl
@[simp] theorem State.modHm_half (s : State) (f : Harbour → Harbour) : (s.modHm f).half = s.half := rfl
@[simp] theorem State.modHm_hm (s : State) (f : Harbour → Harbour) : (s.modHm f).hm = f s.hm := rfl
@[simp] theorem State.modHm_ih (s : State) (f : Harbour → Harbour) : (s.modHm f).ih = s.ih := rfl
@[simp] theorem State.modHm_port (s : State) (f : Harbour → Harbour) : (s.modHm f).port = s.port := rfl
@[simp] theorem State.modHm_quay (s : State) (f : Harbour → Harbour) : (s.modHm f).quay = s.quay := rfl
@[simp] theorem State.modHm_groups (s : State) (f : Harbour → Harbour) : (s.modHm f).groups = s.groups := rfl
@[simp] theorem State.modHm_leg (s : State) (f : Harbour → Harbour) : (s.modHm f).leg = s.leg := rfl
@[simp] theorem State.modHm_brk (s : State) (f : Harbour → Harbour) : (s.modHm f).brk = s.brk := rfl
@[simp] theorem State.modHm_pins (s : State) (f : Harbour → Harbour) : (s.modHm f).pins = s.pins := rfl
@[simp] theorem State.modHm_cell (s : State) (f : Harbour → Harbour) : (s.modHm f).cell = s.cell := rfl
@[simp] theorem State.modHm_sd (s : State) (f : Harbour → Harbour) : (s.modHm f).sd = s.sd := rfl
@[simp] theorem State.modHm_lane (s : State) (f : Harbour → Harbour) : (s.modHm f).lane = s.lane := rfl
@[simp] theorem State.modHm_hw (s : State) (f : Harbour → Harbour) : (s.modHm f).hw = s.hw := rfl
@[simp] theorem State.modHm_flt (s : State) (f : Harbour → Harbour) : (s.modHm f).flt = s.flt := rfl
@[simp] theorem State.modHm_trace (s : State) (f : Harbour → Harbour) : (s.modHm f).trace = s.trace := rfl
@[simp] theorem State.modHm_free (s : State) (f : Harbour → Harbour) : (s.modHm f).free = s.free := rfl
@[simp] theorem State.modHm_pending (s : State) (f : Harbour → Harbour) : (s.modHm f).pending = s.pending := rfl

/-! ### modIh -/

@[simp] theorem State.modIh_fuse (s : State) (f : Channel → Channel) : (s.modIh f).fuse = s.fuse := rfl
@[simp] theorem State.modIh_flash (s : State) (f : Channel → Channel) : (s.modIh f).flash = s.flash := rfl
@[simp] theorem State.modIh_boot (s : State) (f : Channel → Channel) : (s.modIh f).boot = s.boot := rfl
@[simp] theorem State.modIh_dl (s : State) (f : Channel → Channel) : (s.modIh f).dl = s.dl := rfl
@[simp] theorem State.modIh_prot (s : State) (f : Channel → Channel) : (s.modIh f).prot = s.prot := rfl
@[simp] theorem State.modIh_claims (s : State) (f : Channel → Channel) : (s.modIh f).claims = s.claims := rfl
@[simp] theorem State.modIh_params (s : State) (f : Channel → Channel) : (s.modIh f).params = s.params := rfl
@[simp] theorem State.modIh_tb (s : State) (f : Channel → Channel) : (s.modIh f).tb = s.tb := rfl
@[simp] theorem State.modIh_thm (s : State) (f : Channel → Channel) : (s.modIh f).thm = s.thm := rfl
@[simp] theorem State.modIh_supply (s : State) (f : Channel → Channel) : (s.modIh f).supply = s.supply := rfl
@[simp] theorem State.modIh_half (s : State) (f : Channel → Channel) : (s.modIh f).half = s.half := rfl
@[simp] theorem State.modIh_hm (s : State) (f : Channel → Channel) : (s.modIh f).hm = s.hm := rfl
@[simp] theorem State.modIh_ih (s : State) (f : Channel → Channel) : (s.modIh f).ih = f s.ih := rfl
@[simp] theorem State.modIh_port (s : State) (f : Channel → Channel) : (s.modIh f).port = s.port := rfl
@[simp] theorem State.modIh_quay (s : State) (f : Channel → Channel) : (s.modIh f).quay = s.quay := rfl
@[simp] theorem State.modIh_groups (s : State) (f : Channel → Channel) : (s.modIh f).groups = s.groups := rfl
@[simp] theorem State.modIh_leg (s : State) (f : Channel → Channel) : (s.modIh f).leg = s.leg := rfl
@[simp] theorem State.modIh_brk (s : State) (f : Channel → Channel) : (s.modIh f).brk = s.brk := rfl
@[simp] theorem State.modIh_pins (s : State) (f : Channel → Channel) : (s.modIh f).pins = s.pins := rfl
@[simp] theorem State.modIh_cell (s : State) (f : Channel → Channel) : (s.modIh f).cell = s.cell := rfl
@[simp] theorem State.modIh_sd (s : State) (f : Channel → Channel) : (s.modIh f).sd = s.sd := rfl
@[simp] theorem State.modIh_lane (s : State) (f : Channel → Channel) : (s.modIh f).lane = s.lane := rfl
@[simp] theorem State.modIh_hw (s : State) (f : Channel → Channel) : (s.modIh f).hw = s.hw := rfl
@[simp] theorem State.modIh_flt (s : State) (f : Channel → Channel) : (s.modIh f).flt = s.flt := rfl
@[simp] theorem State.modIh_trace (s : State) (f : Channel → Channel) : (s.modIh f).trace = s.trace := rfl
@[simp] theorem State.modIh_free (s : State) (f : Channel → Channel) : (s.modIh f).free = s.free := rfl
@[simp] theorem State.modIh_pending (s : State) (f : Channel → Channel) : (s.modIh f).pending = s.pending := rfl

/-! ### modHw -/

@[simp] theorem State.modHw_fuse (s : State) (f : Hawser → Hawser) : (s.modHw f).fuse = s.fuse := rfl
@[simp] theorem State.modHw_flash (s : State) (f : Hawser → Hawser) : (s.modHw f).flash = s.flash := rfl
@[simp] theorem State.modHw_boot (s : State) (f : Hawser → Hawser) : (s.modHw f).boot = s.boot := rfl
@[simp] theorem State.modHw_dl (s : State) (f : Hawser → Hawser) : (s.modHw f).dl = s.dl := rfl
@[simp] theorem State.modHw_prot (s : State) (f : Hawser → Hawser) : (s.modHw f).prot = s.prot := rfl
@[simp] theorem State.modHw_claims (s : State) (f : Hawser → Hawser) : (s.modHw f).claims = s.claims := rfl
@[simp] theorem State.modHw_params (s : State) (f : Hawser → Hawser) : (s.modHw f).params = s.params := rfl
@[simp] theorem State.modHw_tb (s : State) (f : Hawser → Hawser) : (s.modHw f).tb = s.tb := rfl
@[simp] theorem State.modHw_thm (s : State) (f : Hawser → Hawser) : (s.modHw f).thm = s.thm := rfl
@[simp] theorem State.modHw_supply (s : State) (f : Hawser → Hawser) : (s.modHw f).supply = s.supply := rfl
@[simp] theorem State.modHw_half (s : State) (f : Hawser → Hawser) : (s.modHw f).half = s.half := rfl
@[simp] theorem State.modHw_hm (s : State) (f : Hawser → Hawser) : (s.modHw f).hm = s.hm := rfl
@[simp] theorem State.modHw_ih (s : State) (f : Hawser → Hawser) : (s.modHw f).ih = s.ih := rfl
@[simp] theorem State.modHw_port (s : State) (f : Hawser → Hawser) : (s.modHw f).port = s.port := rfl
@[simp] theorem State.modHw_quay (s : State) (f : Hawser → Hawser) : (s.modHw f).quay = s.quay := rfl
@[simp] theorem State.modHw_groups (s : State) (f : Hawser → Hawser) : (s.modHw f).groups = s.groups := rfl
@[simp] theorem State.modHw_leg (s : State) (f : Hawser → Hawser) : (s.modHw f).leg = s.leg := rfl
@[simp] theorem State.modHw_brk (s : State) (f : Hawser → Hawser) : (s.modHw f).brk = s.brk := rfl
@[simp] theorem State.modHw_pins (s : State) (f : Hawser → Hawser) : (s.modHw f).pins = s.pins := rfl
@[simp] theorem State.modHw_cell (s : State) (f : Hawser → Hawser) : (s.modHw f).cell = s.cell := rfl
@[simp] theorem State.modHw_sd (s : State) (f : Hawser → Hawser) : (s.modHw f).sd = s.sd := rfl
@[simp] theorem State.modHw_lane (s : State) (f : Hawser → Hawser) : (s.modHw f).lane = s.lane := rfl
@[simp] theorem State.modHw_hw (s : State) (f : Hawser → Hawser) : (s.modHw f).hw = f s.hw := rfl
@[simp] theorem State.modHw_flt (s : State) (f : Hawser → Hawser) : (s.modHw f).flt = s.flt := rfl
@[simp] theorem State.modHw_trace (s : State) (f : Hawser → Hawser) : (s.modHw f).trace = s.trace := rfl
@[simp] theorem State.modHw_free (s : State) (f : Hawser → Hawser) : (s.modHw f).free = s.free := rfl
@[simp] theorem State.modHw_pending (s : State) (f : Hawser → Hawser) : (s.modHw f).pending = s.pending := rfl

/-! ### modPins -/

@[simp] theorem State.modPins_fuse (s : State) (f : Pins → Pins) : (s.modPins f).fuse = s.fuse := rfl
@[simp] theorem State.modPins_flash (s : State) (f : Pins → Pins) : (s.modPins f).flash = s.flash := rfl
@[simp] theorem State.modPins_boot (s : State) (f : Pins → Pins) : (s.modPins f).boot = s.boot := rfl
@[simp] theorem State.modPins_dl (s : State) (f : Pins → Pins) : (s.modPins f).dl = s.dl := rfl
@[simp] theorem State.modPins_prot (s : State) (f : Pins → Pins) : (s.modPins f).prot = s.prot := rfl
@[simp] theorem State.modPins_claims (s : State) (f : Pins → Pins) : (s.modPins f).claims = s.claims := rfl
@[simp] theorem State.modPins_params (s : State) (f : Pins → Pins) : (s.modPins f).params = s.params := rfl
@[simp] theorem State.modPins_tb (s : State) (f : Pins → Pins) : (s.modPins f).tb = s.tb := rfl
@[simp] theorem State.modPins_thm (s : State) (f : Pins → Pins) : (s.modPins f).thm = s.thm := rfl
@[simp] theorem State.modPins_supply (s : State) (f : Pins → Pins) : (s.modPins f).supply = s.supply := rfl
@[simp] theorem State.modPins_half (s : State) (f : Pins → Pins) : (s.modPins f).half = s.half := rfl
@[simp] theorem State.modPins_hm (s : State) (f : Pins → Pins) : (s.modPins f).hm = s.hm := rfl
@[simp] theorem State.modPins_ih (s : State) (f : Pins → Pins) : (s.modPins f).ih = s.ih := rfl
@[simp] theorem State.modPins_port (s : State) (f : Pins → Pins) : (s.modPins f).port = s.port := rfl
@[simp] theorem State.modPins_quay (s : State) (f : Pins → Pins) : (s.modPins f).quay = s.quay := rfl
@[simp] theorem State.modPins_groups (s : State) (f : Pins → Pins) : (s.modPins f).groups = s.groups := rfl
@[simp] theorem State.modPins_leg (s : State) (f : Pins → Pins) : (s.modPins f).leg = s.leg := rfl
@[simp] theorem State.modPins_brk (s : State) (f : Pins → Pins) : (s.modPins f).brk = s.brk := rfl
@[simp] theorem State.modPins_pins (s : State) (f : Pins → Pins) : (s.modPins f).pins = f s.pins := rfl
@[simp] theorem State.modPins_cell (s : State) (f : Pins → Pins) : (s.modPins f).cell = s.cell := rfl
@[simp] theorem State.modPins_sd (s : State) (f : Pins → Pins) : (s.modPins f).sd = s.sd := rfl
@[simp] theorem State.modPins_lane (s : State) (f : Pins → Pins) : (s.modPins f).lane = s.lane := rfl
@[simp] theorem State.modPins_hw (s : State) (f : Pins → Pins) : (s.modPins f).hw = s.hw := rfl
@[simp] theorem State.modPins_flt (s : State) (f : Pins → Pins) : (s.modPins f).flt = s.flt := rfl
@[simp] theorem State.modPins_trace (s : State) (f : Pins → Pins) : (s.modPins f).trace = s.trace := rfl
@[simp] theorem State.modPins_free (s : State) (f : Pins → Pins) : (s.modPins f).free = s.free := rfl
@[simp] theorem State.modPins_pending (s : State) (f : Pins → Pins) : (s.modPins f).pending = s.pending := rfl

/-! ### modDl -/

@[simp] theorem State.modDl_fuse (s : State) (f : Download → Download) : (s.modDl f).fuse = s.fuse := rfl
@[simp] theorem State.modDl_flash (s : State) (f : Download → Download) : (s.modDl f).flash = s.flash := rfl
@[simp] theorem State.modDl_boot (s : State) (f : Download → Download) : (s.modDl f).boot = s.boot := rfl
@[simp] theorem State.modDl_dl (s : State) (f : Download → Download) : (s.modDl f).dl = f s.dl := rfl
@[simp] theorem State.modDl_prot (s : State) (f : Download → Download) : (s.modDl f).prot = s.prot := rfl
@[simp] theorem State.modDl_claims (s : State) (f : Download → Download) : (s.modDl f).claims = s.claims := rfl
@[simp] theorem State.modDl_params (s : State) (f : Download → Download) : (s.modDl f).params = s.params := rfl
@[simp] theorem State.modDl_tb (s : State) (f : Download → Download) : (s.modDl f).tb = s.tb := rfl
@[simp] theorem State.modDl_thm (s : State) (f : Download → Download) : (s.modDl f).thm = s.thm := rfl
@[simp] theorem State.modDl_supply (s : State) (f : Download → Download) : (s.modDl f).supply = s.supply := rfl
@[simp] theorem State.modDl_half (s : State) (f : Download → Download) : (s.modDl f).half = s.half := rfl
@[simp] theorem State.modDl_hm (s : State) (f : Download → Download) : (s.modDl f).hm = s.hm := rfl
@[simp] theorem State.modDl_ih (s : State) (f : Download → Download) : (s.modDl f).ih = s.ih := rfl
@[simp] theorem State.modDl_port (s : State) (f : Download → Download) : (s.modDl f).port = s.port := rfl
@[simp] theorem State.modDl_quay (s : State) (f : Download → Download) : (s.modDl f).quay = s.quay := rfl
@[simp] theorem State.modDl_groups (s : State) (f : Download → Download) : (s.modDl f).groups = s.groups := rfl
@[simp] theorem State.modDl_leg (s : State) (f : Download → Download) : (s.modDl f).leg = s.leg := rfl
@[simp] theorem State.modDl_brk (s : State) (f : Download → Download) : (s.modDl f).brk = s.brk := rfl
@[simp] theorem State.modDl_pins (s : State) (f : Download → Download) : (s.modDl f).pins = s.pins := rfl
@[simp] theorem State.modDl_cell (s : State) (f : Download → Download) : (s.modDl f).cell = s.cell := rfl
@[simp] theorem State.modDl_sd (s : State) (f : Download → Download) : (s.modDl f).sd = s.sd := rfl
@[simp] theorem State.modDl_lane (s : State) (f : Download → Download) : (s.modDl f).lane = s.lane := rfl
@[simp] theorem State.modDl_hw (s : State) (f : Download → Download) : (s.modDl f).hw = s.hw := rfl
@[simp] theorem State.modDl_flt (s : State) (f : Download → Download) : (s.modDl f).flt = s.flt := rfl
@[simp] theorem State.modDl_trace (s : State) (f : Download → Download) : (s.modDl f).trace = s.trace := rfl
@[simp] theorem State.modDl_free (s : State) (f : Download → Download) : (s.modDl f).free = s.free := rfl
@[simp] theorem State.modDl_pending (s : State) (f : Download → Download) : (s.modDl f).pending = s.pending := rfl

/-! ### drawn -/

@[simp] theorem State.drawn_fuse (s : State) : (s.drawn).fuse = s.fuse := rfl
@[simp] theorem State.drawn_flash (s : State) : (s.drawn).flash = s.flash := rfl
@[simp] theorem State.drawn_boot (s : State) : (s.drawn).boot = s.boot := rfl
@[simp] theorem State.drawn_dl (s : State) : (s.drawn).dl = s.dl := rfl
@[simp] theorem State.drawn_prot (s : State) : (s.drawn).prot = s.prot := rfl
@[simp] theorem State.drawn_claims (s : State) : (s.drawn).claims = s.claims := rfl
@[simp] theorem State.drawn_params (s : State) : (s.drawn).params = s.params := rfl
@[simp] theorem State.drawn_tb (s : State) : (s.drawn).tb = s.tb := rfl
@[simp] theorem State.drawn_thm (s : State) : (s.drawn).thm = s.thm := rfl
@[simp] theorem State.drawn_supply (s : State) : (s.drawn).supply = s.supply := rfl
@[simp] theorem State.drawn_half (s : State) : (s.drawn).half = s.half := rfl
@[simp] theorem State.drawn_hm (s : State) : (s.drawn).hm = s.hm := rfl
@[simp] theorem State.drawn_ih (s : State) : (s.drawn).ih = s.ih := rfl
@[simp] theorem State.drawn_port (s : State) : (s.drawn).port = s.port := rfl
@[simp] theorem State.drawn_quay (s : State) : (s.drawn).quay = s.quay := rfl
@[simp] theorem State.drawn_groups (s : State) : (s.drawn).groups = s.groups := rfl
@[simp] theorem State.drawn_leg (s : State) : (s.drawn).leg = s.leg := rfl
@[simp] theorem State.drawn_brk (s : State) : (s.drawn).brk = s.brk := rfl
@[simp] theorem State.drawn_pins (s : State) : (s.drawn).pins = s.pins := rfl
@[simp] theorem State.drawn_cell (s : State) : (s.drawn).cell = s.cell := rfl
@[simp] theorem State.drawn_sd (s : State) : (s.drawn).sd = s.sd := rfl
@[simp] theorem State.drawn_lane (s : State) : (s.drawn).lane = s.lane := rfl
@[simp] theorem State.drawn_hw (s : State) : (s.drawn).hw = s.hw := rfl
@[simp] theorem State.drawn_flt (s : State) : (s.drawn).flt = s.flt := rfl
@[simp] theorem State.drawn_trace (s : State) : (s.drawn).trace = s.trace := rfl
@[simp] theorem State.drawn_free (s : State) : (s.drawn).free = s.free + 1 := rfl
@[simp] theorem State.drawn_pending (s : State) : (s.drawn).pending = s.pending := rfl

end Machine

end Sys2Proof
end

