-- ==== Sys2Proof/Laws/Enter.lean ====
section
/-! SUPPORT. What the operations on legs change (legs and lanes alone), and what a transition of a quay does to the state machines of all
quays. -/

namespace Sys2Proof.Machine

/-- The states differ in legs and lanes at most. -/
def LegsOnly (s t : State) : Prop := t = { s with leg := t.leg, lane := t.lane }

theorem LegsOnly.refl (s : State) : LegsOnly s s := rfl
theorem LegsOnly.trans {s t u : State} (h : LegsOnly s t) (k : LegsOnly t u) : LegsOnly s u := by
  unfold LegsOnly at *
  rw [k, h]
theorem LegsOnly.modLeg (s : State) (l : LegNo) (f : Leg → Leg) : LegsOnly s (s.modLeg l f) := rfl
theorem LegsOnly.modLane (s : State) (n : LaneNo) (f : Lane → Lane) : LegsOnly s (s.modLane n f) := rfl
theorem LegsOnly.forAll {α : Type} (xs : List α) (s : State) (f : State → α → State) (h : ∀ t a, LegsOnly t (f t a)) :
    LegsOnly s (forAll xs s f) := by
  unfold Machine.forAll
  induction xs generalizing s with
  | nil => exact .refl s
  | cons x xs ih => exact (h s x).trans (ih (f s x))
theorem LegsOnly.ite {s t u : State} {c : Prop} [Decidable c] (h : LegsOnly s t) (k : LegsOnly s u) : LegsOnly s (if c then t else u) := by
  split <;> assumption

theorem LegsOnly.resume (s : State) (l : LegNo) : LegsOnly s (s.resume l) := by
  unfold State.resume
  split <;> rfl
theorem LegsOnly.orderLocal (old s : State) (l : LegNo) : LegsOnly s (old.orderLocal s l) := by
  unfold State.orderLocal
  split
  · split
    · rfl
    · exact .resume s l
  · rfl
theorem LegsOnly.stateFrame (old s : State) (n : LaneNo) : LegsOnly s (old.stateFrame s n) := by
  unfold State.stateFrame
  exact .ite (.refl s) (.modLane _ _ _)
/-- Taking a change to the legs changes legs and lanes alone (R744). -/
theorem LegsOnly.syncLegs (old s : State) : LegsOnly s (State.syncLegs old s) :=
  (LegsOnly.forAll _ _ _ fun t l => .orderLocal old t l).trans (.forAll _ _ _ fun t n => .stateFrame old t n)
theorem LegsOnly.sendMask (s : State) (ls : List LegNo) (mk : Byte → GwFrame) : LegsOnly s (s.sendMask ls mk) :=
  .forAll _ _ _ fun _ _ => .ite (.refl _) (.modLane _ _ _)
theorem LegsOnly.sendArm (s : State) (ls : List LegNo) : LegsOnly s (s.sendArm ls) :=
  .forAll _ _ _ fun _ _ => .ite (.refl _) (.modLane _ _ _)
theorem LegsOnly.releaseLegs (s : State) (q : QuayNo) : LegsOnly s (s.releaseLegs q) := .forAll _ _ _ fun _ _ => .modLeg _ _ _
theorem LegsOnly.reactLegs (s : State) (q : QuayNo) (code : Nat) (latch : Bool) (rec : Option Nat) : LegsOnly s (s.reactLegs q code latch rec) :=
  .forAll _ _ _ fun _ _ => .modLeg _ _ _

/-- Every other field of states that differ in legs and lanes at most. -/
theorem LegsOnly.rest {s t : State} (h : LegsOnly s t) : t.quay = s.quay ∧ t.port = s.port ∧ t.flt = s.flt ∧ t.ih = s.ih ∧ t.hm = s.hm ∧
    t.half = s.half ∧ t.boot = s.boot ∧ t.groups = s.groups ∧ t.cell = s.cell ∧ t.tb = s.tb ∧ t.pins = s.pins ∧ t.brk = s.brk ∧
    t.supply = s.supply ∧ t.thm = s.thm := by
  unfold LegsOnly at h
  rw [h]
  exact ⟨rfl, rfl, rfl, rfl, rfl, rfl, rfl, rfl, rfl, rfl, rfl, rfl, rfl, rfl⟩
theorem LegsOnly.quay {s t : State} (h : LegsOnly s t) : t.quay = s.quay := h.rest.1

/-- The state machine of a quay. -/
def State.core (s : State) (q : QuayNo) : AxisCore := s.quay[q].core

/-- A change of a quay that leaves its state machine. -/
theorem State.modQuay_core (s : State) (q r : QuayNo) (f : Quay → Quay) (h : ∀ x, (f x).core = x.core) : (s.modQuay q f).core r = s.core r := by
  simp only [State.core, State.modQuay_quay, vmod_get]
  split <;> simp [h]
/-- A change of a quay's state machine. -/
theorem State.modQuay_core_of (s : State) (q r : QuayNo) (f : Quay → Quay) (g : AxisCore → AxisCore) (h : ∀ x, (f x).core = g x.core) :
    (s.modQuay q f).core r = if q = r then g (s.core r) else s.core r := by
  simp only [State.core, State.modQuay_quay, vmod_get]
  split <;> simp [h]
theorem State.core_of_quay {s t : State} (h : t.quay = s.quay) (r : QuayNo) : t.core r = s.core r := by rw [State.core, h, State.core]

@[simp] theorem State.event_quay (s : State) (o : AcceptedOp) (st : Byte) (a : U16) (n : Nat) : (s.event o st a n).quay = s.quay := rfl
@[simp] theorem State.eventOpt_quay (s : State) (o : Option AcceptedOp) (st : Byte) (a : U16) (n : Nat) : (s.eventOpt o st a n).quay = s.quay := by
  cases o <;> rfl
@[simp] theorem State.leaveGroup_quay (s : State) (q : QuayNo) : (s.leaveGroup q).quay = s.quay := rfl
theorem State.zeroRefs_core (s : State) (q r : QuayNo) : (s.zeroRefs q).core r = s.core r := by
  unfold State.zeroRefs
  split
  · rfl
  · exact s.modQuay_core _ _ _ fun _ => rfl
theorem State.rewriteTable_core (s : State) (q r : QuayNo) : (s.rewriteTable q).core r = s.core r := by
  unfold State.rewriteTable
  split
  · rfl
  · exact s.modQuay_core _ _ _ fun _ => rfl
/-- Publishing a change leaves the state machines. -/
theorem State.publish_core (s : State) (q r : QuayNo) : (s.publish q).core r = s.core r := by
  unfold State.publish
  split
  · split
    · rfl
    · exact s.modQuay_core _ _ _ fun _ => rfl
  · exact s.modQuay_core _ _ _ fun _ => rfl
/-- A published change of a quay's state machine. -/
theorem State.modCore_core (s : State) (q r : QuayNo) (g : AxisCore → AxisCore) :
    (s.modCore q g).core r = if q = r then g (s.core r) else s.core r := by
  unfold State.modCore
  rw [State.publish_core]
  exact State.modQuay_core_of _ _ _ _ _ fun _ => rfl
theorem State.abandon_core (s : State) (q r : QuayNo) (arm start : Bool) : (s.abandon q arm start).core r =
    if q = r then { s.core r with armOp := if arm then none else (s.core r).armOp, startOp := if start then none else (s.core r).startOp }
    else s.core r := by
  unfold State.abandon
  have h : ∀ u : State, u.quay = s.quay → u.core r = s.core r := fun u hu => State.core_of_quay hu r
  rw [State.modQuay_core_of _ q r _ (fun c => { c with armOp := if arm then none else c.armOp, startOp := if start then none else c.startOp })
    fun _ => rfl, h _ (by cases arm <;> cases start <;> simp)]
theorem State.afterEnter_core (s : State) (q r : QuayNo) (st : AxisState) : (s.afterEnter q st).core r = s.core r := by
  unfold State.afterEnter
  dsimp only
  have hz : State.core (if st = .off ∨ st = .faulted ∨ st = .safe then s.zeroRefs q else s) r = s.core r := by
    split
    · exact s.zeroRefs_core q r
    · rfl
  generalize (if st = .off ∨ st = .faulted ∨ st = .safe then s.zeroRefs q else s) = u at hz ⊢
  split
  · refine Eq.trans (State.modQuay_core _ q r _ ?_) ?_
    · exact fun _ => rfl
    · refine Eq.trans (State.modQuay_core _ q r _ fun _ => rfl) ?_
      rw [State.core_of_quay (LegsOnly.sendMask _ _ _).quay, State.core_of_quay (LegsOnly.releaseLegs _ _).quay, State.rewriteTable_core, hz]
  · rw [State.rewriteTable_core, hz]

/-- The state machine of a quay that makes a transition (R270); those of the other quays stay. -/
theorem State.enter_core (s : State) (q : QuayNo) (st : AxisState) (k : StopKind) : (s.enter q st k).core q =
    ({ s.core q with
        armOp := if (st == .faulted || st == .safe) = true then none else (s.core q).armOp
        startOp := if (st != .running && st != .catching) = true then none else (s.core q).startOp } : AxisCore).enter st k (s.isStepped q) s.now := by
  unfold State.enter
  dsimp only
  rw [State.core_of_quay (LegsOnly.syncLegs _ _).quay, State.publish_core, State.afterEnter_core,
    State.modQuay_core_of _ q q _ (fun c => c.enter st k (s.isStepped q) s.now) fun _ => rfl, if_pos rfl, State.abandon_core, if_pos rfl]
  have h : (if (st == .running || st == .catching) = true then s else s.leaveGroup q).core q = s.core q := by split <;> rfl
  rw [h]
theorem State.enter_core_ne (s : State) {q r : QuayNo} (st : AxisState) (k : StopKind) (h : q ≠ r) : (s.enter q st k).core r = s.core r := by
  unfold State.enter
  dsimp only
  rw [State.core_of_quay (LegsOnly.syncLegs _ _).quay, State.publish_core, State.afterEnter_core,
    State.modQuay_core_of _ q r _ (fun c => c.enter st k (s.isStepped q) s.now) fun _ => rfl, if_neg h, State.abandon_core, if_neg h]
  split <;> rfl

@[simp] theorem AxisCore.enter_st (c : AxisCore) (st : AxisState) (k : StopKind) (b : Bool) (t : Nat) : (c.enter st k b t).st = st := by
  cases st <;> rfl
@[simp] theorem AxisCore.enter_stAt (c : AxisCore) (st : AxisState) (k : StopKind) (b : Bool) (t : Nat) : (c.enter st k b t).stAt = t := by
  cases st <;> rfl
/-- A quay is in the state that it enters. -/
theorem State.enter_st (s : State) (q : QuayNo) (st : AxisState) (k : StopKind) : (s.enter q st k).quay[q].core.st = st := by
  have := congrArg AxisCore.st (s.enter_core q st k)
  rwa [AxisCore.enter_st] at this

end Sys2Proof.Machine
end

