-- ==== Sys2Proof/Laws/Requests.lean ====
section
/-! SUPPORT. What a request of class 1 to 3 does on its way (R219 to R223, R256): the mailbox it rings, the half that takes it, the reply. -/

namespace Sys2Proof.Machine

/-- A command of class 1 to 3 is its exchange. -/
theorem exec_exchange {c : Instr} {op : Byte} {p : Side} {m : MbxNo} {r : Req} (h : hostRequest c = some (op, p, m, r)) (s : State) :
    exec c s = .next (s.exchange op p m r) := by
  cases c <;> simp only [hostRequest, Option.some.injEq, Prod.mk.injEq, reduceCtorEq] at h <;> obtain ⟨rfl, rfl, rfl, rfl⟩ := h <;> rfl

/-- The mailbox of a ringing request is not busy. -/
theorem Rings.notBusy {s : State} {p : Side} {m : MbxNo} (h : Rings s p m) : (s.port.get p).isBusy m = false := by
  simp [Port.isBusy, h.idle]

/-- READY is set in no reset. -/
theorem portsDead_of_ready {s : State} (h : s.isReady = true) : s.portsDead = false := by
  simp only [State.isReady, beq_iff_eq] at h
  simp [State.portsDead, h]

/-- The exchange of a ringing request is its service by the half of the port. -/
theorem exchange_of_rings {s : State} {op : Byte} {p : Side} {m : MbxNo} {r : Req} (h : Rings s p m) :
    s.exchange op p m r = (s.rung op p m r).serve p m := by
  have hm : ¬ m.val < 4 := by have := h.cls; omega
  have hd := portsDead_of_ready h.ready
  have hb := h.notBusy
  have hr := h.run
  have hy := h.ready
  simp only [State.exchange, hm, if_false, hd, and_true]
  have e : ∀ u : State, u = { s with port := s.port.set p { s.port.get p with mbx3Sel := (u.port.get p).mbx3Sel } } →
      (u.putRequest p m (reqBytes op r)).ring p m = (({ u with port := u.port.set p { u.port.get p with
        mbx := (u.port.get p).mbx.set m { (u.port.get p).mbx[m] with
          req := writeCells 0 (u.port.get p).mbx[m].req 0 ((reqBytes op r).take (bufSize (mbxClass m))) }
        busy := (u.port.get p).busy ||| mbxBit m, done := (u.port.get p).done &&& ~~~ mbxBit m } } : State).serve p m) := by
    intro u hu
    have hb' : (u.port.get p).isBusy m = false := by rw [hu]; simpa [Port.isBusy] using hb
    have hd' : u.portsDead = false := by rw [hu]; exact hd
    have hr' : (u.half.get p).run = true := by rw [hu]; exact hr
    have hy' : u.isReady = true := by rw [hu]; exact hy
    have ho' : u.buffersOpen p = true := by simp [State.buffersOpen, hr']
    simp only [State.putRequest, hd', ho', hb', Bool.not_true, Bool.or_false, Bool.false_eq_true, if_false, State.modMbx]
    simp only [State.ring]
    have k1 : (u.modPort p fun x => { x with mbx := vmod x.mbx m fun x => { x with
        req := writeCells 0 x.req 0 ((reqBytes op r).take (bufSize (mbxClass m))) } }).portsDead = false := hd'
    have k2 : ((u.modPort p fun x => { x with mbx := vmod x.mbx m fun x => { x with
        req := writeCells 0 x.req 0 ((reqBytes op r).take (bufSize (mbxClass m))) } }).half.get p).run = true := hr'
    have k3 : (u.modPort p fun x => { x with mbx := vmod x.mbx m fun x => { x with
        req := writeCells 0 x.req 0 ((reqBytes op r).take (bufSize (mbxClass m))) } }).isReady = true := hy'
    have k4 : ((u.modPort p fun x => { x with mbx := vmod x.mbx m fun x => { x with
        req := writeCells 0 x.req 0 ((reqBytes op r).take (bufSize (mbxClass m))) } }).port.get p).isBusy m = false := by
      simp only [State.modPort, Pair.get_set]; exact hb'
    simp only [k1, k2, k3, k4, Bool.not_true, Bool.false_eq_true, if_false]
    congr 1
    simp only [State.modPort, Pair.get_set, vmod]
    cases p <;> rfl
  by_cases h24 : 24 ≤ m.val
  · simp only [h24, if_true]
    rw [e _ (by simp only [State.modPort, Pair.get_set])]
    congr 1
    simp only [State.rung, State.modPort, Pair.get_set, h24, if_true]
    cases p <;> rfl
  · simp only [h24, if_false]
    rw [e s (by cases p <;> rfl)]
    congr 1
    simp only [State.rung, State.modPort, h24, if_false]

/-- A request that passes is routed. -/
theorem exec_of_passes {c : Instr} {op : Byte} {p : Side} {m : MbxNo} {r : Req} {s : State} {msg : Msg}
    (h : hostRequest c = some (op, p, m, r)) (k : Passes s op p m r msg) : exec c s = .next ((s.rung op p m r).route msg) := by
  rw [exec_exchange h, exchange_of_rings k.rings]
  have e := k.read
  simp only [State.serve, k.crc, Bool.not_true, Bool.false_eq_true, if_false, e, k.fresh, k.first, k.valid]

theorem Passes.port {s : State} {op : Byte} {p : Side} {m : MbxNo} {r : Req} {msg : Msg} (k : Passes s op p m r msg) : msg.port = p := by
  rw [← k.read]; rfl
theorem Passes.mbx {s : State} {op : Byte} {p : Side} {m : MbxNo} {r : Req} {msg : Msg} (k : Passes s op p m r msg) : msg.mbx = m := by
  rw [← k.read]; rfl

/-- Ringing changes the port alone. -/
theorem rung_port (s : State) (op : Byte) (p : Side) (m : MbxNo) (r : Req) : s.rung op p m r = { s with port := (s.rung op p m r).port } := rfl

/-- Every mailbox has a bit. -/
theorem mbxBit_ne (m : MbxNo) : mbxBit m ≠ 0 := by revert m; decide

/-- Finishing a request answers it and changes its port alone. -/
theorem finish_answered (s : State) (m : Msg) (r : Result) (fwd : Bool) :
    Answered (s.finish m r fwd) m r fwd ∧ s.finish m r fwd = { s with port := (s.finish m r fwd).port } := by
  refine ⟨⟨?_, ?_, ?_, ?_⟩, rfl⟩
  · simp [State.finish, State.answer, State.modMbx, State.modPort]
  · exact ⟨_, by simp [State.finish, State.answer, State.modMbx, State.modPort]; rfl⟩
  · simp only [State.finish, State.answer, State.modMbx, State.modPort, Pair.get_set]
    intro h
    have := congrArg (· &&& mbxBit m.mbx) h
    have hb := mbxBit_ne m.mbx
    apply hb
    have e : ∀ a b : Word, (a ||| b) &&& b = b := by intro a b; ext i hi; simp; intro hh; exact Or.inr hh
    rw [e] at h
    exact h
  · simp only [State.finish, State.answer, State.modMbx, State.modPort, Pair.get_set]
    ext i hi
    simp

/-- A finished request leaves every quay, lane, leg, parameter and record as it is. -/
@[simp] theorem finish_quay (s : State) (m : Msg) (r : Result) (f : Bool) : (s.finish m r f).quay = s.quay := rfl
@[simp] theorem finish_lane (s : State) (m : Msg) (r : Result) (f : Bool) : (s.finish m r f).lane = s.lane := rfl
@[simp] theorem finish_leg (s : State) (m : Msg) (r : Result) (f : Bool) : (s.finish m r f).leg = s.leg := rfl
@[simp] theorem finish_params (s : State) (m : Msg) (r : Result) (f : Bool) : (s.finish m r f).params = s.params := rfl
@[simp] theorem finish_flt (s : State) (m : Msg) (r : Result) (f : Bool) : (s.finish m r f).flt = s.flt := rfl
@[simp] theorem finish_trace (s : State) (m : Msg) (r : Result) (f : Bool) : (s.finish m r f).trace = s.trace := rfl

/-- The half in charge performs a command other than COMMIT and answers it. -/
theorem carryOut_of_charge {s : State} {m : Msg} (hg : s.hm.grant = some m.port) (ho : m.opcode ≠ 0x42) :
    s.carryOut m = (s.perform m (s.port.get m.port).staging false).1.finish m (s.perform m (s.port.get m.port).staging false).2 false := by
  simp only [State.carryOut, ho, if_false, State.inCharge, hg, beq_self_eq_true, if_true]

/-- The half in charge takes the staging area of a COMMIT, performs it and answers. -/
theorem carryOut_commit {s : State} {m : Msg} (hg : s.hm.grant = some m.port) (ho : m.opcode = 0x42) :
    let u := s.modPort m.port (fun x => { x with staging := [] })
    s.carryOut m = (u.perform m (s.port.get m.port).staging false).1.finish m (u.perform m (s.port.get m.port).staging false).2 false := by
  have hi : (s.modPort m.port (fun x => { x with staging := [] })).inCharge m.port = true := by
    simp [State.inCharge, State.modPort, hg]
  simp only [State.carryOut, ho, if_true, hi]

/-- A command to a quay, performed: the class-0 flags first, then its meaning, then the note of a refusal. -/
theorem perform_quay {s : State} {m : Msg} {q : QuayNo} (ht : targetOf m.target = some (.quay q)) (es : List (Word × Word)) (f : Bool) :
    s.perform m es f = ((((s.flagsFirst q).quayCommand q m (m.op f)).1.noteRefusal (some (.quay q)) ((s.flagsFirst q).quayCommand q m (m.op f)).2.status),
      ((s.flagsFirst q).quayCommand q m (m.op f)).2) := by
  simp only [State.perform, ht]

/-- A result other than STATE_REFUSED leaves no note. -/
theorem noteRefusal_ne {b : Byte} (h : b ≠ stRefused) (s : State) (t : Option Target) : s.noteRefusal t b = s := by
  simp [State.noteRefusal, h]

/-! ### The meaning each opcode has -/

theorem quayCommand_arm {m : Msg} (h : m.opcode = 0x20) (s : State) (q : QuayNo) (op : AcceptedOp) : s.quayCommand q m op = s.doArm q op := by
  have e : m.opcode.toNat = 0x20 := by rw [h]; rfl
  simp only [State.quayCommand, e]
theorem quayCommand_disarm {m : Msg} (h : m.opcode = 0x21) (s : State) (q : QuayNo) (op : AcceptedOp) : s.quayCommand q m op = s.doDisarm q := by
  have e : m.opcode.toNat = 0x21 := by rw [h]; rfl
  simp only [State.quayCommand, e]
theorem quayCommand_start {m : Msg} (h : m.opcode = 0x22) (s : State) (q : QuayNo) (op : AcceptedOp) : s.quayCommand q m op = s.doStart q m.payload op := by
  have e : m.opcode.toNat = 0x22 := by rw [h]; rfl
  simp only [State.quayCommand, e]
theorem quayCommand_stop {m : Msg} (h : m.opcode = 0x23) (s : State) (q : QuayNo) (op : AcceptedOp) : s.quayCommand q m op = s.doStop q .ramp := by
  have e : m.opcode.toNat = 0x23 := by rw [h]; rfl
  simp only [State.quayCommand, e]
theorem quayCommand_quickstop {m : Msg} (h : m.opcode = 0x24) (s : State) (q : QuayNo) (op : AcceptedOp) : s.quayCommand q m op = s.doStop q .quick := by
  have e : m.opcode.toNat = 0x24 := by rw [h]; rfl
  simp only [State.quayCommand, e]
theorem quayCommand_hold {m : Msg} (h : m.opcode = 0x25) (s : State) (q : QuayNo) (op : AcceptedOp) : s.quayCommand q m op = s.doHold q := by
  have e : m.opcode.toNat = 0x25 := by rw [h]; rfl
  simp only [State.quayCommand, e]
theorem quayCommand_move {m : Msg} (h : m.opcode = 0x26) (s : State) (q : QuayNo) (op : AcceptedOp) : s.quayCommand q m op = s.doMove q m.payload op := by
  have e : m.opcode.toNat = 0x26 := by rw [h]; rfl
  simp only [State.quayCommand, e]
theorem quayCommand_jog {m : Msg} (h : m.opcode = 0x28) (s : State) (q : QuayNo) (op : AcceptedOp) : s.quayCommand q m op = s.doJog q m.payload := by
  have e : m.opcode.toNat = 0x28 := by rw [h]; rfl
  simp only [State.quayCommand, e]
theorem quayCommand_home {m : Msg} (h : m.opcode = 0x29) (s : State) (q : QuayNo) (op : AcceptedOp) : s.quayCommand q m op = s.doHome q m.payload op := by
  have e : m.opcode.toNat = 0x29 := by rw [h]; rfl
  simp only [State.quayCommand, e]
theorem quayCommand_setSpeed {m : Msg} (h : m.opcode = 0x2A) (s : State) (q : QuayNo) (op : AcceptedOp) : s.quayCommand q m op = s.doSetSpeed q m.payload := by
  have e : m.opcode.toNat = 0x2A := by rw [h]; rfl
  simp only [State.quayCommand, e]
theorem quayCommand_setAccel {m : Msg} (h : m.opcode = 0x2B) (s : State) (q : QuayNo) (op : AcceptedOp) : s.quayCommand q m op = s.doSetAccel q m.payload := by
  have e : m.opcode.toNat = 0x2B := by rw [h]; rfl
  simp only [State.quayCommand, e]
theorem quayCommand_setTorqueLimit {m : Msg} (h : m.opcode = 0x2C) (s : State) (q : QuayNo) (op : AcceptedOp) : s.quayCommand q m op = s.doSetTorqueLimit q m.payload := by
  have e : m.opcode.toNat = 0x2C := by rw [h]; rfl
  simp only [State.quayCommand, e]
theorem quayCommand_ackFault {m : Msg} (h : m.opcode = 0x2D) (s : State) (q : QuayNo) (op : AcceptedOp) : s.quayCommand q m op = s.ackQuay q := by
  have e : m.opcode.toNat = 0x2D := by rw [h]; rfl
  simp only [State.quayCommand, e]
theorem deviceCommand_stop {m : Msg} (h : m.opcode = 0x23) (s : State) (op : AcceptedOp) (es : List (Word × Word)) : s.deviceCommand m op es = s.doStopAll .ramp := by
  have e : m.opcode.toNat = 0x23 := by rw [h]; rfl
  simp only [State.deviceCommand, e]
theorem deviceCommand_quickstop {m : Msg} (h : m.opcode = 0x24) (s : State) (op : AcceptedOp) (es : List (Word × Word)) : s.deviceCommand m op es = s.doStopAll .quick := by
  have e : m.opcode.toNat = 0x24 := by rw [h]; rfl
  simp only [State.deviceCommand, e]
theorem deviceCommand_moveGroup {m : Msg} (h : m.opcode = 0x27) (s : State) (op : AcceptedOp) (es : List (Word × Word)) : s.deviceCommand m op es = s.doMoveGroup m.payload op := by
  have e : m.opcode.toNat = 0x27 := by rw [h]; rfl
  simp only [State.deviceCommand, e]
theorem deviceCommand_ackFault {m : Msg} (h : m.opcode = 0x2D) (s : State) (op : AcceptedOp) (es : List (Word × Word)) : s.deviceCommand m op es = s.ackDevice := by
  have e : m.opcode.toNat = 0x2D := by rw [h]; rfl
  simp only [State.deviceCommand, e]
theorem deviceCommand_commit {m : Msg} (h : m.opcode = 0x42) (s : State) (op : AcceptedOp) (es : List (Word × Word)) : s.deviceCommand m op es = s.doCommit es := by
  have e : m.opcode.toNat = 0x42 := by rw [h]; rfl
  simp only [State.deviceCommand, e]
theorem deviceCommand_traceConfig {m : Msg} (h : m.opcode = 0x48) (s : State) (op : AcceptedOp) (es : List (Word × Word)) : s.deviceCommand m op es = s.doTraceConfig m.payload := by
  have e : m.opcode.toNat = 0x48 := by rw [h]; rfl
  simp only [State.deviceCommand, e]
theorem deviceCommand_traceArm {m : Msg} (h : m.opcode = 0x49) (s : State) (op : AcceptedOp) (es : List (Word × Word)) : s.deviceCommand m op es = s.doTraceArm m.payload := by
  have e : m.opcode.toNat = 0x49 := by rw [h]; rfl
  simp only [State.deviceCommand, e]
theorem deviceCommand_traceStop {m : Msg} (h : m.opcode = 0x4A) (s : State) (op : AcceptedOp) (es : List (Word × Word)) : s.deviceCommand m op es = s.doTraceStop m.payload := by
  have e : m.opcode.toNat = 0x4A := by rw [h]; rfl
  simp only [State.deviceCommand, e]
theorem deviceCommand_flashWrite {m : Msg} (h : m.opcode = 0x61) (s : State) (op : AcceptedOp) (es : List (Word × Word)) : s.deviceCommand m op es = s.doFlashWrite m.payload := by
  have e : m.opcode.toNat = 0x61 := by rw [h]; rfl
  simp only [State.deviceCommand, e]
theorem route_paramRead {m : Msg} (h : m.opcode = 0x40) (s : State) : s.route m = s.finish m (s.doParamRead m.payload) false := by
  have e : m.opcode.toNat = 0x40 := by rw [h]; rfl
  simp only [State.route, e]
theorem route_paramStage {m : Msg} (h : m.opcode = 0x41) (s : State) : s.route m = (s.doParamStage m.port m.payload).1.finish m (s.doParamStage m.port m.payload).2 false := by
  have e : m.opcode.toNat = 0x41 := by rw [h]; rfl
  simp only [State.route, e]
theorem route_stageClear {m : Msg} (h : m.opcode = 0x43) (s : State) : s.route m = (s.doStageClear m.port).1.finish m (s.doStageClear m.port).2 false := by
  have e : m.opcode.toNat = 0x43 := by rw [h]; rfl
  simp only [State.route, e]
theorem route_paramInfo {m : Msg} (h : m.opcode = 0x44) (s : State) : s.route m = s.finish m (s.doParamInfo m.payload) false := by
  have e : m.opcode.toNat = 0x44 := by rw [h]; rfl
  simp only [State.route, e]
theorem route_traceRead {m : Msg} (h : m.opcode = 0x60) (s : State) : s.route m = s.finish m (s.doTraceRead m.payload) false := by
  have e : m.opcode.toNat = 0x60 := by rw [h]; rfl
  simp only [State.route, e]
/-- Every other command is carried out. -/
theorem route_carryOut {m : Msg} (h : m.opcode.toNat ∉ [0x40, 0x41, 0x43, 0x44, 0x60]) (s : State) : s.route m = s.carryOut m := by
  simp only [List.mem_cons, List.not_mem_nil, or_false, not_or] at h
  unfold State.route
  split <;> simp_all

/-- A result noted and finished changes the port and the faults on their way alone. -/
theorem finish_note (s : State) (t : Option Target) (b : Byte) (r : Result) (m : Msg) : (s.noteRefusal t b).finish m r false =
    { s with port := ((s.noteRefusal t b).finish m r false).port, flt := ((s.noteRefusal t b).finish m r false).flt } := by
  have h : s.noteRefusal t b = { s with flt := (s.noteRefusal t b).flt } := by
    unfold State.noteRefusal
    split
    · split <;> rfl
    · rfl
  rw [(finish_answered (s.noteRefusal t b) m r false).2]
  generalize ((s.noteRefusal t b).finish m r false).port = x
  rw [h]

/-- A command to a quay through the port of the half in charge: what it does, its reply, and a note at most beside it. -/
theorem exec_quayCommand {c : Instr} {op : Byte} {p : Side} {m : MbxNo} {r : Req} {s : State} {msg : Msg} {q : QuayNo} {o : State × Result}
    (h : hostRequest c = some (op, p, m, r)) (k : Passes s op p m r msg) (hg : s.hm.grant = some p) (ht : targetOf msg.target = some (.quay q))
    (ho : op.toNat ≤ 0x2D) (hO : ((s.rung op p m r).flagsFirst q).quayCommand q msg (msg.op false) = o) :
    ∃ t, exec c s = .next t ∧ Answered t msg o.2 false ∧ t = { o.1 with port := t.port, flt := t.flt } ∧
      (o.2.status ≠ stRefused → t.flt = o.1.flt) := by
  have hop := k.op
  have hc : msg.opcode.toNat ∉ [0x40, 0x41, 0x43, 0x44, 0x60] := by
    rw [hop]
    simp only [List.mem_cons, List.not_mem_nil, or_false, not_or]
    omega
  have hne : msg.opcode ≠ 0x42 := by
    intro e
    rw [← hop, e] at ho
    simp at ho
  have e : (s.rung op p m r).perform msg ((s.rung op p m r).port.get msg.port).staging false = (o.1.noteRefusal (some (.quay q)) o.2.status, o.2) := by
    rw [perform_quay ht, hO]
  have e2 := exec_of_passes h k
  rw [route_carryOut hc, carryOut_of_charge (by rw [k.port]; exact hg) hne, e] at e2
  refine ⟨_, e2, (finish_answered _ _ _ _).1, finish_note o.1 _ _ o.2 msg, fun hs => ?_⟩
  rw [finish_flt, noteRefusal_ne hs]

/-- A command to the device, performed: the class-0 flags of the quays it names first. -/
theorem perform_device {s : State} {m : Msg} (ht : targetOf m.target = some .device) (es : List (Word × Word)) (f : Bool) :
    s.perform m es f = (((forAll (s.namedQuays m es) s State.flagsFirst).deviceCommand m (m.op f) es).1.noteRefusal (some .device)
        ((forAll (s.namedQuays m es) s State.flagsFirst).deviceCommand m (m.op f) es).2.status,
      ((forAll (s.namedQuays m es) s State.flagsFirst).deviceCommand m (m.op f) es).2) := by
  simp only [State.perform, ht]
/-- A command to a lane, performed. -/
theorem perform_lane {s : State} {m : Msg} {n : LaneNo} (ht : targetOf m.target = some (.lane n)) (es : List (Word × Word)) (f : Bool) :
    s.perform m es f = ((s.laneCommand n m (m.op f)).1.noteRefusal (some (.lane n)) (s.laneCommand n m (m.op f)).2.status, (s.laneCommand n m (m.op f)).2) := by
  simp only [State.perform, ht]

/-- Any command other than COMMIT that the half in charge performs itself. -/
theorem exec_performed {c : Instr} {op : Byte} {p : Side} {m : MbxNo} {r : Req} {s : State} {msg : Msg} {o : State × Result}
    (h : hostRequest c = some (op, p, m, r)) (k : Passes s op p m r msg) (hg : s.hm.grant = some p)
    (ho : op.toNat ∉ [0x40, 0x41, 0x42, 0x43, 0x44, 0x60])
    (hO : (s.rung op p m r).perform msg ((s.rung op p m r).port.get p).staging false = o) : exec c s = .next (o.1.finish msg o.2 false) := by
  have hop := k.op
  simp only [List.mem_cons, List.not_mem_nil, or_false, not_or] at ho
  have hc : msg.opcode.toNat ∉ [0x40, 0x41, 0x43, 0x44, 0x60] := by
    rw [hop]
    simp only [List.mem_cons, List.not_mem_nil, or_false, not_or]
    omega
  have hne : msg.opcode ≠ 0x42 := by
    intro e
    rw [← hop, e] at ho
    simp at ho
  have e2 := exec_of_passes h k
  rw [route_carryOut hc, carryOut_of_charge (by rw [k.port]; exact hg) hne, k.port, hO] at e2
  exact e2

end Sys2Proof.Machine
end

