-- ==== Sys2Proof/Machine/Frames.lean ====
section
/-! DEFINITION. The bytes of link frames (R822 to R831, R835, R838, R839, R865, R866): those a transmitter sends for the frames of `Lane.tx` and
`HwPort.tx`, and the command that received bytes are. -/

namespace Sys2Proof.Machine

/-! ### Characters (R824, R825) -/

/-- A link character, or a set of them, as R824 names it. `training` carries RX_OK and the lane or port number. -/
inductive LinkChar where
  | idle
  | training (rxOk : Bool) (number : Byte)
  | sof
  | eof
  | abort
  | data (b : Byte)
  deriving DecidableEq, Repr

/-- A frame between SOF and EOF. -/
def framed (bs : List Byte) : List LinkChar := [.sof] ++ bs.map .data ++ [.eof]

/-- What a lane transmitter fills its line with (R825): training sets until trained, then idle; nothing before step 10. -/
def State.laneFill (s : State) (n : LaneNo) : Option LinkChar :=
  let x := s.lane[n]
  if !s.laneLive n then none
  else if x.st == .down || x.st == .training || x.st == .detached then some (.training x.rxOk (BitVec.ofNat 8 n.val))
  else some .idle

/-- What a Hawser port fills its line with (R825, R868). -/
def State.portFill (s : State) (p : Side) : Option LinkChar :=
  let x := s.hw.ports.get p
  if !s.afterStep10 then none
  else if !x.rxOk || x.training then some (.training x.rxOk (BitVec.ofNat 8 p.toNat)) else some .idle

/-! ### Gangway frames to the partner (R829 to R831) -/

/-- A kind as CMD and STATE code it (R830). -/
def kindCode : LegKind → Nat
  | .off => 0
  | .switch => 1
  | .holdLow => 2
  | .holdHigh => 3

/-- A bit of a byte. -/
def flag (c : Bool) (n : Nat) : Nat := if c then 2 ^ n else 0

/-- An entry of a command frame (R831). -/
def cmdEntryBytes (e : Nat × LegCmd) : List Byte :=
  leBytes 1 e.1 ++ leBytes 1 (kindCode e.2.kind + flag e.2.on.isSome 2 + flag e.2.off.isSome 3)
    ++ leBytes 3 (e.2.on.getD 0) ++ leBytes 3 (e.2.off.getD 0)

/-- TYPE and payload of a downstream frame (R830, R831); a training set is no frame. -/
def gwPayload : GwFrame → Option (Nat × List Byte)
  | .rxOk => none
  | .cmd t p low es =>
    some (0x01, leBytes 4 t ++ leBytes 3 p ++ leBytes 1 (flag low 0) ++ leBytes 1 es.length ++ es.flatMap cmdEntryBytes)
  | .state low es =>
    some (0x02, leBytes 1 (flag low 0) ++ leBytes 1 es.length
      ++ es.flatMap (fun e => leBytes 1 e.1 ++ leBytes 1 (kindCode e.2.1 + flag e.2.2 7)))
  | .sync t => some (0x03, leBytes 8 t)
  | .ping => some (0x04, [])
  | .delay d => some (0x05, leBytes 4 d)
  | .identReq => some (0x06, [])
  | .arm es =>
    some (0x07, leBytes 1 es.length
      ++ es.flatMap (fun e => leBytes 1 e.slot ++ leBytes 1 (flag e.chopper 0 + flag e.high 1 + flag e.lossLow 2) ++ leBytes 2 e.dead))
  | .disarm m => some (0x08, [m])
  | .rearm m => some (0x09, [m])
  | .bye => some (0x0A, [])

/-- The bytes of a Gangway frame from TYPE through the CRC-16 (R827, R829). -/
def gwFrameBytes (seq : Nat) (ty : Nat) (payload : List Byte) : List Byte :=
  let body := leBytes 1 ty ++ leBytes 1 seq ++ leBytes 1 payload.length ++ payload
  body ++ leBytes 2 (crc16 body).toNat

/-- The bytes of frame i of those a lane has been given; SEQ counts its frames (R829). -/
def Lane.txBytes (x : Lane) (i : Nat) : Option (List Byte) :=
  match x.tx[i]?.bind gwPayload with
  | some (ty, pl) => some (gwFrameBytes ((x.tx.take i).filterMap gwPayload).length ty pl)
  | none => none

/-! ### Gangway frames from the partner (R828, R829, R835, R838, R839) -/

/-- Entry i of a status frame (R835). -/
def statusEntryOf (p : List Byte) (i : Nat) : StatusEntry :=
  let b := 8 + 10 * i
  let f : Byte := p.getD (b + 1) 0
  { slot := p.getD b 0, armed := f.getLsbD 0, short := f.getLsbD 1, supply := f.getLsbD 2, overtemp := f.getLsbD 3, trip := f.getLsbD 4
    suspect := f.extractLsb' 5 2, current := BitVec.ofNat 16 (field p (b + 2) 2), volts := BitVec.ofNat 16 (field p (b + 4) 2)
    temp := BitVec.ofNat 16 (field p (b + 6) 2), derate := p.getD (b + 8) 0 }

/-- A status frame (R835). The manual gives the internal block of a die no layout (R838): its reports are not read from the bytes. -/
def statusOf (seq : Byte) (p : List Byte) : StatusFrame :=
  let f : Byte := p.getD 4 0
  { seq := seq, sampleTime := BitVec.ofNat 32 (field p 0 4), timeOk := f.getLsbD 0, dcValid := f.getLsbD 1
    udc := BitVec.ofNat 16 (field p 6 2), entries := (List.range (p.getD 5 0).toNat).map (statusEntryOf p), internal := none }

/-- An identity frame (R839). -/
def identOf (seq : Byte) (p : List Byte) : Ident :=
  { seq := seq, serial := BitVec.ofNat 64 (field p 0 8), unitType := BitVec.ofNat 16 (field p 8 2), legs := p.getD 10 0
    caps := BitVec.ofNat 32 (field p 12 4), fwLevel := BitVec.ofNat 16 (field p 16 2), iLsb := BitVec.ofNat 16 (field p 18 2)
    uLsb := BitVec.ofNat 16 (field p 20 2) }

/-- The command that the bytes between SOF and EOF are when they arrive on a lane (R828 to R830). -/
def gwArrival (n : LaneNo) (bs : List Byte) : Instr :=
  let len := (bs.getD 2 0).toNat
  let body := bs.take (3 + len)
  let seq := bs.getD 1 0
  let p := body.drop 3
  if 160 < len then .gwBadFrame n .tooLong
  else if bs.length ≠ len + 5 ∨ field bs (3 + len) 2 ≠ (crc16 body).toNat then .gwBadFrame n .crc
  else
    match (bs.getD 0 0).toNat with
    | 0x81 => .gwStatus n (statusOf seq p)
    | 0x84 => .gwPong n seq (BitVec.ofNat 32 (field p 0 4))
    | 0x86 => .gwIdent n (identOf seq p)
    | _ => .gwBadFrame n .unknownType

/-! ### Hawser frames (R865, R866) -/

/-- The state byte of SHARE and SHARE_STAT. -/
def stateByte (st : BitVec 5) (release done contributing : Bool) : Nat := st.toNat + flag release 5 + flag done 6 + flag contributing 7

/-- TYPE, header and payload of a frame; PING and PONG carry this device's address, TTL 1 and the SEQ given (R866). -/
def hwPayload (own : Word) (seq : Byte) : HwFrame → Option (Nat × HwHeader × List Byte)
  | .rxOk => none
  | .disc h d =>
    some (0x10, h, leBytes 8 d.serial.toNat ++ leBytes 1 (flag d.h0Up 0 + flag d.h1Up 1) ++ [d.timePrio, d.mode, 0])
  | .topo h lost p => some (0x11, h, leBytes 1 (if lost then 1 else 2) ++ leBytes 1 p.toNat)
  | .time h t c => some (0x12, h, leBytes 8 t.toNat ++ leBytes 4 c.toNat)
  | .ping => some (0x13, ⟨1, seq, own⟩, [])
  | .pong t => some (0x14, ⟨1, seq, own⟩, leBytes 4 t.toNat)
  | .share h v =>
    some (0x20, h, leBytes 8 v.sampleTime.toNat ++ leBytes 2 v.sequence.toNat
      ++ leBytes 1 (stateByte v.axisState v.release v.stopDone v.contributing) ++ [v.mode, v.subState, 0, 0, 0]
      ++ leBytes 4 v.g.toNat ++ leBytes 4 v.nRefEff.toNat ++ leBytes 4 v.n.toNat ++ leBytes 4 v.fStar.toNat ++ leBytes 4 v.f.toNat)
  | .shareStat h v =>
    some (0x21, h, leBytes 8 v.sampleTime.toNat ++ leBytes 8 v.appliedTime.toNat
      ++ leBytes 1 (stateByte v.axisState v.release v.stopDone v.contributing) ++ leBytes 1 (flag v.reducedPos 0 + flag v.reducedNeg 1) ++ [0, 0]
      ++ leBytes 4 v.tStar.toNat ++ leBytes 4 v.shareRatio.toNat ++ leBytes 4 v.tBase.toNat)

/-- The bytes of a Hawser frame from TYPE through the CRC-32 (R827, R865). -/
def hwFrameBytes (ty : Nat) (h : HwHeader) (payload : List Byte) : List Byte :=
  let body := leBytes 1 ty ++ [h.ttl, h.seq] ++ leBytes 1 payload.length ++ leBytes 4 h.src.toNat ++ payload
  body ++ leBytes 4 (crc32 body).toNat

/-- Frames of the same TYPE in a list. -/
def sameType (f : HwFrame) (fs : List HwFrame) : Nat :=
  let ty (x : HwFrame) := (hwPayload 0 0 x).map (·.1)
  (fs.filter (fun x => ty x == ty f)).length

/-- The bytes of frame i of those a port has been given. DEDUCED, log entry 25: the SEQ of PING and PONG counts those of the port. -/
def State.hwTxBytes (s : State) (p : Side) (i : Nat) : Option (List Byte) :=
  let tx := (s.hw.ports.get p).tx
  match tx[i]? with
  | some f => (hwPayload s.prot.hwAddress (BitVec.ofNat 8 (sameType f (tx.take i))) f).map (fun e => hwFrameBytes e.1 e.2.1 e.2.2)
  | none => none

/-- A share value (R562, R866). -/
def shareOf (p : List Byte) : HwShare :=
  let st : Byte := p.getD 10 0
  let w (o : Nat) : Word := BitVec.ofNat 32 (field p o 4)
  { sampleTime := BitVec.ofNat 64 (field p 0 8), sequence := BitVec.ofNat 16 (field p 8 2), axisState := st.extractLsb' 0 5
    release := st.getLsbD 5, stopDone := st.getLsbD 6, contributing := st.getLsbD 7, mode := p.getD 11 0, subState := p.getD 12 0
    g := w 16, nRefEff := w 20, n := w 24, fStar := w 28, f := w 32 }

/-- A follower's status (R563, R866). -/
def shareStatOf (p : List Byte) : HwShareStat :=
  let st : Byte := p.getD 16 0
  let w (o : Nat) : Word := BitVec.ofNat 32 (field p o 4)
  { sampleTime := BitVec.ofNat 64 (field p 0 8), appliedTime := BitVec.ofNat 64 (field p 8 8), axisState := st.extractLsb' 0 5
    release := st.getLsbD 5, stopDone := st.getLsbD 6, contributing := st.getLsbD 7
    reducedPos := (p.getD 17 0).getLsbD 0, reducedNeg := (p.getD 17 0).getLsbD 1, tStar := w 20, shareRatio := w 24, tBase := w 28 }

/-- The command that the bytes between SOF and EOF are when they arrive on a Hawser port (R828, R865, R866). -/
def hwArrival (p : Side) (bs : List Byte) : Instr :=
  let len := (bs.getD 3 0).toNat
  let body := bs.take (8 + len)
  let h : HwHeader := ⟨bs.getD 1 0, bs.getD 2 0, BitVec.ofNat 32 (field bs 4 4)⟩
  let d := body.drop 8
  let w (o : Nat) : Word := BitVec.ofNat 32 (field d o 4)
  if 200 < len then .hwBadFrame p .tooLong
  else if bs.length ≠ len + 12 ∨ field bs (8 + len) 4 ≠ (crc32 body).toNat then .hwBadFrame p .crc
  else
    match (bs.getD 0 0).toNat with
    | 0x10 =>
      .hwDisc p h { serial := BitVec.ofNat 64 (field d 0 8), h0Up := (d.getD 8 0).getLsbD 0, h1Up := (d.getD 8 0).getLsbD 1
                    timePrio := d.getD 9 0, mode := d.getD 10 0 }
    | 0x11 => .hwTopo p h (d.getD 0 0 == 1) (if d.getD 1 0 == 0 then .a else .b)
    | 0x12 => .hwTime p h (BitVec.ofNat 64 (field d 0 8)) (w 8)
    | 0x13 => .hwPing p
    | 0x14 => .hwPong p (w 0)
    | 0x20 => .hwShare p h (shareOf d)
    | 0x21 => .hwShareStat p h (shareStatOf d)
    | _ => .hwBadFrame p .unknownType

end Sys2Proof.Machine
end

