-- ==== Sys2Proof/Machine/Outputs.lean ====
section
/-! DEFINITION. Levels on output balls and what the debug port offers, read from the state: JTAG (R188, R189), the host interrupts (R210), the
multi-function balls of the feedback cells (R182, R358, R359, R403, R420 to R424), the sigma-delta clocks (R450), STEP and DIR (R662 to R666).
Before step 10 and in BOOT_HALT each ball keeps its reset state (R1036): it drives nothing, a clock stays low. The gate outputs and the charge pumps are in Machine/LegOps.lean. -/

namespace Sys2Proof.Machine

/-! ### JTAG (R188, R189) -/

/-- What the debug port offers. `memory` holds the halves whose memory it can read, `writes` and `haltsCores` are full debug. -/
structure JtagOffer where
  tapRuns      : Bool := false
  boundaryScan : Bool := false
  idcode       : Bool := false
  traceRead    : Bool := false
  memory       : List Side := []
  writes       : Bool := false
  haltsCores   : Bool := false
  deriving DecidableEq, Repr

/-- The offer of the policy in force (R188); before step 7 and in BOOT_HALT that is policy 1 (R189). -/
def State.jtag (s : State) : JtagOffer :=
  let scan : JtagOffer := { tapRuns := true, boundaryScan := true, idcode := true }
  match s.boot.debugPolicy.toNat with
  | 0 => {}
  | 1 => scan
  | 2 => { scan with traceRead := true, memory := [Side.a, Side.b].filter (fun h => !s.inCharge h) }
  | _ => { scan with traceRead := true, memory := [.a, .b], writes := true, haltsCores := true }

/-! ### Balls of the feedback cells (R182) -/

/-- The clock of an SSI transfer: low in the first half of each of its periods from the sample event on, high otherwise (R358, R359). -/
def State.ssiClockHigh (s : State) (k : CellNo) : Bool :=
  match s.cell[k].await with
  | none => true
  | some t =>
    let f := fbSsiClock s k
    let half := (s.now - t) * 2 * f / 6400000000
    decide (s.now < t) || decide (s.ssiTicks k ≤ s.now - t) || half % 2 == 1

/-- The levels (A, B) of an emulation output: a step forward is one in which A leads B, as R344 has it. -/
def quadLevels (n : Int) : Bool × Bool := let r := n % 4; (decide (r = 1 ∨ r = 2), decide (r = 2 ∨ r = 3))

/-- The levels (A, B) that a cell emulates now (R420, R424). -/
def State.emuLevels (s : State) (k : CellNo) : Bool × Bool := quadLevels (s.cell[k].emuNow s.now + Config.emuOrigin k.val)

/-- The level that a cell drives on FBk_X1; `none` where it drives none. -/
def State.fbX1 (s : State) (k : CellNo) : Option Bool :=
  if !s.afterStep10 ∨ s.cellUsed k = false then none
  else if fbMode s k = 3 then some (s.ssiClockHigh k) else if fbEmuSource s k = 0 then none else some (s.emuLevels k).1

/-- The level that a cell drives on FBk_X2. -/
def State.fbX2 (s : State) (k : CellNo) : Option Bool :=
  if !s.afterStep10 ∨ s.cellUsed k = false ∨ fbMode s k = 3 ∨ fbEmuSource s k = 0 then none else some (s.emuLevels k).2

/-- The level that a cell drives on FBk_X3: Z of the emulation (R423) or the compare pulse (R403). -/
def State.fbX3 (s : State) (k : CellNo) : Option Bool :=
  if !s.afterStep10 ∨ s.cellUsed k = false then none
  else if fbEmuSource s k ≠ 0 ∧ fbEmuZ s k = 1 then some s.cell[k].emuZ
  else if fbCmpEnable s k = 1 ∧ fbCmpOutput s k = 1 then
    some (match s.cell[k].cmpUntil with
      | some t => decide (s.now < t)
      | none => false)
  else none

/-! ### Sigma-delta clocks (R450) -/

/-- A rising edge of a clock output lies at a time: SDCm runs while its divider is not 0. -/
def State.sdcRises (s : State) (m : Fin 4) (t : Nat) : Bool :=
  s.afterStep10 && decide (devSdcDiv s m.val ≠ 0) && decide (((t : Int) - s.tb.sdc[m]) % (s.sdPeriod m.val : Int) = 0)

/-! ### GPIO outputs -/

/-- The GPIOs of a pulse quay: the lower-numbered one carries STEP, the higher DIR (R662). -/
def State.stepDirBalls (s : State) (q : QuayNo) : Option (Nat × Nat) :=
  match s.owned q 0x14 with
  | [a, b] => some (min a b, max a b)
  | _ => none

/-- STEP is at its active level: a step's leading edge lies less than `quay.step_width` back (R664). -/
def State.stepActive (s : State) (q : QuayNo) : Bool :=
  s.quay[q].pulse.edges.any (fun e => decide (e.1 ≤ s.now) && decide (s.now < e.1 + 16 * quayStepWidth s q))

/-- The level on STEP (R664): bit 0 of `quay.step_polarity` is the active one. -/
def State.stepHigh (s : State) (q : QuayNo) : Bool := s.stepActive q == decide (quayStepPolarity s q % 2 = 1)

/-- The sign on DIR now: a change lies at its own time (R666). -/
def PulseGen.dirNow (x : PulseGen) (t : Nat) : Bool := if t < x.dirAt then !x.dir else x.dir

/-- The level on DIR: 1 for positive steps, inverted by bit 1 of `quay.step_polarity` (R666). -/
def State.dirHigh (s : State) (q : QuayNo) : Bool := s.quay[q].pulse.dirNow s.now != decide (quayStepPolarity s q / 2 % 2 = 1)

/-- The level that the device drives on a GPIO: STEP or DIR of a pulse quay, or the interrupt output of a port (R210); `none` otherwise. -/
def State.gpioHigh (s : State) (g : Nat) : Option Bool :=
  if !s.afterStep10 then none else
  match allQuays.findSome? (fun q => if s.isPulse q then
      (match s.stepDirBalls q with
       | some (a, b) => if g = a then some (s.stepHigh q) else if g = b then some (s.dirHigh q) else none
       | none => none) else none) with
  | some v => some v
  | none => [Side.a, Side.b].findSome? (fun p => if hostIrqGpio s p = g then some (!(s.port.get p).irqLow) else none)

end Sys2Proof.Machine
end

