-- ==== Sys2Proof/Tests/Slice0.lean ====
section
/-! SUPPORT. Tests: an ill-formed command for each check of WellFormed, and for each statement a state and operands that meet its hypotheses,
with what the command leaves there. Expected values come from the rules named. -/

namespace Sys2Proof.Tests

open Sys2Proof Sys2Proof.Machine

set_option Elab.async false

/-! ### Helpers -/

/-- The state after a command. -/
def run (c : Instr) (s : State) : State :=
  match exec c s with
  | .next t => t
  | _ => s

/-- A request of a class with the right trailer. -/
def request (op : Byte) (m : MbxNo) (target : U16) (payload : List Byte) : Req :=
  let cls := mbxClass m
  let b0 : Byte := cls.setWidth 8 <<< 6
  let n := BitVec.ofNat 16 payload.length
  { byte0 := b0, seq := 7, target := target, length := n, payload := payload
    trailer := trailer cls ([b0, op] ++ leBytes 2 7 ++ leBytes 2 target.toNat ++ leBytes 2 n.toNat ++ payload) }

/-- The message that request is read as. -/
def message (op : Byte) (m : MbxNo) (target : U16) (payload : List Byte) : Msg :=
  { port := .a, mbx := m, byte0 := (mbxClass m).setWidth 8 <<< 6, opcode := op, seq := 7, target := target, payload := payload }

/-- A device in READY at a device time, half A in charge, half B running; Q0 is a synchronous machine on L0 to L2 with feedback cell FB0 and
limit inputs; Q1 an induction machine on the remote legs L32 to L34 of lane G0. -/
def up : State :=
  { State.reset with
    boot := { State.reset.boot with powerGood := true, rstN := true, sealed := true, stage := .ready, phase := 6 }
    tb := { State.reset.tb with lock := true, now := 1000000000 }
    half := ⟨{ run := true, selfOk := true }, { run := true, selfOk := true, coreSync := true }⟩
    hm := { State.reset.hm with grant := some .a, everGranted := true }
    prot := { State.reset.prot with owners :=
      [⟨1, 0, .quay 0, 0⟩, ⟨1, 1, .quay 0, 0⟩, ⟨1, 2, .quay 0, 0⟩, ⟨1, 32, .quay 1, 0⟩, ⟨1, 33, .quay 1, 0⟩, ⟨1, 34, .quay 1, 0⟩,
       ⟨2, 0, .quay 0, 0⟩, ⟨3, 0, .quay 0, 0⟩, ⟨4, 0, .quay 1, 32⟩, ⟨4, 1, .quay 1, 33⟩, ⟨4, 2, .quay 1, 34⟩, ⟨6, 0, .quay 0, 0⟩, ⟨6, 1, .quay 0, 0⟩] }
    params := [(0x200060, 1), (0x201060, 2), (0x400000, 1)] }

/-- `up` with a quay changed. -/
def upQ (q : QuayNo) (f : Quay → Quay) : State := up.modQuay q f
/-- `up` with Q0 in an axis state. -/
def upSt (st : AxisState) : State := upQ 0 (fun x => { x with core := { x.core with st := st } })

/-- A state some ticks later. -/
def later (n : Nat) (s : State) : State := { s with tb := { s.tb with now := s.tb.now + n } }

/-! ### WellFormed -/

theorem test_wf_class1 : (Instr.arm .a 12 (request 0x20 12 0x2000 [])).wellFormed = false ∧ (Instr.arm .a 4 (request 0x20 4 0x2000 [])).wellFormed = true := by
  decide +kernel
theorem test_wf_class2 : (Instr.commit .a 11 (request 0x42 11 0 [])).wellFormed = false ∧ (Instr.commit .a 23 (request 0x42 23 0 [])).wellFormed = true := by
  decide +kernel
theorem test_wf_class3 : (Instr.traceRead .a 23 (request 0x60 24 0 [])).wellFormed = false ∧ (Instr.traceRead .a 31 (request 0x60 31 0 [])).wellFormed = true := by
  decide +kernel
theorem test_wf_short : (Instr.arm .a 4 { request 0x20 4 0x2000 [] with payload := List.replicate 247 0 }).wellFormed = false ∧
    (Instr.arm .a 4 { request 0x20 4 0x2000 [] with trailer := [0] }).wellFormed = false := by decide +kernel
theorem test_wf_long : (Instr.flashWrite .a 24 { request 0x61 24 0 [] with trailer := [0, 0] }).wellFormed = false := by decide +kernel
theorem test_wf_status : (Instr.gwStatus 0 { seq := 0, sampleTime := 0, timeOk := true, dcValid := false, udc := 0, entries := [], internal := none }).wellFormed = false := by
  decide +kernel
theorem test_wf_ttl : (Instr.hwTopo .a { src := 0, seq := 0, ttl := 9 } true .a).wellFormed = false := by decide +kernel
theorem test_wf_write : (Instr.registerWrite .a ⟨0x00, 0⟩ [] false).wellFormed = false ∧ (Instr.registerWrite .a ⟨0x00, 0⟩ [] true).wellFormed = true := by decide +kernel

/-! ### Queue, invariants, reset, start-up -/

theorem test_step_front : step { up with pending := [.refLoss] } = exec .refLoss up := rfl
theorem test_step_idle : up.pending = [] ∧ step up = .next { up with tb := { up.tb with now := 1000000001 } } ∧
    step State.reset = .next State.reset := ⟨rfl, rfl, rfl⟩
theorem test_inv : up.Inv ∧ up.boot.sealed = true ∧ ∃ t, step up = .next t :=
  ⟨⟨⟨by decide, by decide, by decide⟩, .nil, by decide, by decide⟩, rfl, _, rfl⟩
theorem test_seal : up.BootInv ∧ up.boot.sealed = true ∧ ∃ t, exec .rstNAssert up = .next t ∧ t.boot.stage = .inReset :=
  ⟨⟨by decide, by decide, by decide⟩, rfl, _, rfl, rfl⟩
theorem test_kept : bootCommand .refLoss = false ∧ hostRequest .refLoss = none ∧ (run .refLoss up).params = up.params ∧ (run .refLoss up).tb.backup = true := by
  decide +kernel

/-- Fuses in download mode: slot 0 holds a key. -/
def fusing : State :=
  { State.reset with
    boot := { State.reset.boot with powerGood := true, rstN := true, stage := .imageRead }, dl := { State.reset.dl with active := true, wait := true }
    fuse := { State.reset.fuse with key := #v[some 1, none, none, none] } }
theorem test_fuse_program : fusing.fuse.key[1] = none ∧ fusing.fuse.revoked[0] = false ∧
    (run (.fuseCommand (.program 1 9) (some 0)) fusing).fuse.key = #v[some 1, some 9, none, none] ∧
    (run (.fuseCommand (.program 1 9) none) fusing).fuse.key = fusing.fuse.key ∧
    (run (.fuseCommand (.program 1 9) (some 2)) fusing).fuse.key = fusing.fuse.key ∧
    (run (.fuseCommand (.program 0 9) (some 0)) fusing).fuse.key = fusing.fuse.key := by decide +kernel
theorem test_fuse_blank : (run (.fuseCommand (.program 3 9) none) { fusing with fuse := {} }).fuse.key = #v[none, none, none, some 9] ∧
    (run (.fuseCommand (.revoke 1) (some 0)) fusing).fuse.revoked = #v[false, true, false, false] ∧
    (run (.fuseCommand (.revoke 0) (some 0)) fusing).fuse.revoked = #v[false, false, false, false] := by decide +kernel

theorem test_power_good : (run .powerGood State.reset).boot.stage = .inReset ∧
    (run .powerGood (run (.rstNRelease 1 true) State.reset)).boot.stage = .lockWait ∧ (run (.rstNRelease 1 true) State.reset).boot.bootsel = 1 ∧
    (run (.rstNRelease 2 true) (run .powerGood State.reset)).boot.stage = .lockWait ∧
    (run (.rstNRelease 2 true) (run .powerGood State.reset)).boot.bootsel = 2 := by decide +kernel
theorem test_rst_assert : (run .rstNAssert up).boot.stage = .inReset ∧ (run .rstNAssert up).supply.cause = 1 ∧ (run .rstNAssert up).hm.grant = none ∧
    (run .rstNAssert up).params = [] ∧ (run .rstNAssert up).tb.now = 0 := by decide +kernel
theorem test_brown_out : (run (.brownOut 1) up).supply.cause = 2 ∧ (run (.brownOut 8) up).supply.cause = 16 ∧ (run (.brownOut 15) up).supply.cause = 0 ∧
    (run (.brownOut 1) up).boot.powerGood = false ∧ (run (.brownOut 0) up).boot.powerGood = true := by decide +kernel

/-- The device waiting for lock, with boot straps. -/
def waiting (bs : BitVec 2) : State :=
  { State.reset with boot := { State.reset.boot with powerGood := true, rstN := true, stage := .lockWait, bootsel := bs } }
theorem test_lock : (run .timeBaseLock (waiting 0)).boot.phase = 1 ∧ (run .timeBaseLock (waiting 0)).dl.active = false ∧
    (run .timeBaseLock (waiting 1)).boot.src = 2 ∧ (run .timeBaseLock (waiting 2)).boot.src = 3 ∧ (run .timeBaseLock (waiting 2)).dl.wait = true ∧
    (run .timeBaseLock (waiting 3)).dl.active = false := by decide +kernel
theorem test_no_lock : (run .tbNoLock (waiting 0)).boot.haltCause = 0x11 ∧ (run .tbNoLock (waiting 0)).boot.phase = 0xF ∧
    (run .tbNoLock (waiting 0)).boot.stage = .halted := by decide +kernel

/-- The device reading its image, with an empty flash. -/
def reading (bs : BitVec 2) : State := { run .timeBaseLock (waiting bs) with tb := { State.reset.tb with lock := true, now := 400000000 } }
/-- An erased flash holds no image: no magic in slot 1, cause 0x02; without an answer of slot 1, cause 0x01 with detail 1. -/
theorem test_digest_fails : (reading 0).boot.half.get .a = .nothing ∧ (reading 0).readImage true true = .inl (2, 0) ∧
    (reading 0).readImage true false = .inl (1, 1) ∧
    (run (.halfDigestReady .a true true true true) (reading 0)).boot.haltCause = 2 ∧
    (run (.halfDigestReady .a true true true true) (reading 0)).boot.stage = .halted ∧
    (run (.halfDigestReady .a true true true true) (reading 3)).dl.active = true ∧
    (run (.halfDigestReady .a true true true true) (reading 3)).boot.stage = .imageRead := by decide +kernel
/-- Half A has presented a digest 50 ms ago and B nothing; the flash holds a header of length 64 without sections. -/
def lonely : State := { reading 0 with flash := [(8, 64), (9, 0), (10, 0), (11, 0), (12, 0), (13, 0)], boot := { (reading 0).boot with half := ⟨.passed false 5, .nothing⟩, digestAt := 80000000 } }
theorem test_half_boot_fail : lonely.boot.digestAt + 320000000 ≤ lonely.now ∧ lonely.boot.half.get Side.b = .nothing ∧
    lonely.boot.half.get Side.b.other = .passed false 5 ∧
    (run (.halfBootFail .b) { lonely with boot := { lonely.boot with digestAt := 80000001 } }).half.b.held = false := by decide +kernel

/-- The device in discovery without a roster. -/
def discovering : State := { up with boot := { up.boot with stage := .discovery, phase := 5 }, fuse := { pkgC0 := true } }
theorem test_discovery : discovering.allMatched = true ∧ discovering.hasDies = false ∧ (run .discoveryEnd discovering).boot.stage = .ready ∧
    (run .discoveryEnd discovering).boot.phase = 6 := by decide +kernel
/-- With pre-driver dies and no trained link once the window has passed. -/
theorem test_discovery_untrained : let s := { discovering with fuse := {} }
    s.hasDies = true ∧ s.untrained = some 16 ∧ s.boot.step10At + 6400 * devDiscoveryWindow s ≤ { s with tb := { s.tb with now := 100000000000 } }.now ∧
    (run .discoveryEnd { s with tb := { s.tb with now := 100000000000 } }).boot.haltCause = 0x12 := by decide +kernel

/-- Download through port A waiting for its first chunk; the buffer holds an image header that claims 16 bytes. -/
def loading : State :=
  { reading 1 with port := ⟨{ State.reset.port.a with mbx := State.reset.port.a.mbx.set 4 { req := [(8, 16)] } }, State.reset.port.b⟩ }
theorem test_chunk : loading.dlPort = some .a ∧ loading.dl.wait = true ∧ (run (.downloadChunk .a 16) loading).dl.next = 16 ∧
    (run (.downloadChunk .a 16) loading).dl.done = true ∧ (run (.downloadChunk .a 16) loading).dl.wait = false ∧
    (run (.downloadChunk .a 16) loading).dl.image = [(8, 16)] ∧ (run (.downloadChunk .a 15) loading).dl.done = false ∧
    (run (.downloadChunk .a 1) loading).dl.next = 1 := by decide +kernel
theorem test_chunk_refused : (run (.downloadChunk .a 0) loading).dl.seqErr = true ∧ (run (.downloadChunk .a 4097) loading).dl.seqErr = true ∧
    (run (.downloadChunk .a 4097) loading).dl.next = 0 ∧
    (run (.downloadChunk .a 16) { loading with dl := { loading.dl with next := 4 } }).dl.seqErr = true := by decide +kernel

/-! ### Time base, captures, slots, sensors, supplies -/

/-- A state with parameters written. -/
def cfg (s : State) (l : List (Nat × Word)) : State := l.foldl (fun t e => t.setParam e.1 e.2) s
/-- A source on its way to the collector, with its quays. -/
def tells (t : State) (src : Nat) (qs : List QuayNo) : Bool := t.flt.transit.any (fun e => e.src == src && e.quays == qs)

theorem test_fires : fires 400000 7 400007 = true ∧ fires 400000 7 7 = true ∧ fires 400000 7 400006 = false ∧ fires 400000 399999 399999 = true := by
  decide +kernel
theorem test_cal : up.tb.lock = true ∧ (run (.delayLineCal true) up).tb.calOk = true ∧
    (run (.delayLineCal false) (run (.delayLineCal true) up)).tb.calOk = false := by decide +kernel
theorem test_ref_loss : up.tb.backup = false ∧ (run .refLoss up).tb.backup = true ∧ tells (run .refLoss up) srcRefLoss [] = true ∧
    (run .refLoss (run .refLoss up)).flt.transit.length = 1 := by decide +kernel
/-- Capture 0 on a GPIO, rising edges, 40 samples of filter: 10^9 ticks less 640, down to 16. -/
def capturing (edge : Word) : State := cfg up [(addr 0 0 0x600, 5), (addr 0 0 0x620, edge)]
theorem test_capture : devCapSrc (capturing 1) 0 ≠ 255 ∧ (run (.captureEdge 0 true) (capturing 1)).tb.cap[0].time = 999999360 ∧
    (run (.captureEdge 0 true) (capturing 1)).tb.cap[0].fresh = true ∧ (run (.captureEdge 0 true) (capturing 1)).tb.cap[0].overrun = false ∧
    (run (.captureEdge 0 true) (run (.captureEdge 0 true) (capturing 1))).tb.cap[0].overrun = true ∧
    (run (.captureEdge 0 true) (capturing 2)).tb.cap[0].count = 0 ∧ (run (.captureEdge 0 true) (capturing 2)).tb.cap[0].level = true := by
  decide +kernel
theorem test_capture_edges : (run (.captureEdge 0 false) (capturing 2)).tb.cap[0].count = 1 ∧ (run (.captureEdge 0 false) (capturing 3)).tb.cap[0].count = 1 ∧
    (run (.captureEdge 0 true) (capturing 3)).tb.cap[0].count = 1 ∧ (run (.captureEdge 0 false) (capturing 1)).tb.cap[0].count = 0 := by decide +kernel

/-- Slot 3 fires at multiples of 1,000; a commit left period 500. SDC0 and trace region 2 use it. -/
def slotted : State :=
  { up with tb := { up.tb with slots := [⟨3, 1000, 0, some (500, 1)⟩] }, claims := [⟨0x10, 3, .sdClock 0⟩]
            trace := up.trace.set 2 { desc := some ⟨false, 0, 0, 0, 0, 1000, 0, [0]⟩, armed := true, triggered := true, slot := some 3 } }
theorem test_timed_event : slotted.slotFires 3 = true ∧ (run (.timedEvent 3) slotted).tb.slots = [⟨3, 500, 1, none⟩] ∧
    (run (.timedEvent 4) slotted).tb.slots = slotted.tb.slots := by decide +kernel
theorem test_sdc_resync : slotted.claims.find? (fun e => e.by_ == .sdClock 0 && e.cls == 0x10) = some ⟨0x10, 3, .sdClock 0⟩ ∧
    (run (.sdcResync 0) slotted).tb.slots = [⟨3, 500, 1, none⟩] := by decide +kernel
theorem test_trace_capture : slotted.trace[2].recs.length + 1 < (⟨false, 0, 0, 0, 0, 1000, 0, [0]⟩ : TraceDesc).capacity ∧
    (run (.traceCapture 2 true) slotted).trace[2].recs.map (·.time) = [1000000000] ∧ (run (.traceCapture 2 false) slotted).trace[2].recs = [] := by
  decide +kernel

/-- All sensors at a temperature in tenths of a degree, with a margin. -/
def window (n : Nat) (v : Int) (s : State) : State := run (.sensorWindowEnd (Vector.replicate 16 n) (Vector.replicate 24 v)) s
theorem test_sensors : (window 20000 250 up).thm.temp[23] = some 250 ∧ (window 20000 2000 up).thm.temp[0] = some 2000 ∧
    (window 20000 2001 up).thm.temp[0] = none ∧ (window 20000 (-600) up).thm.temp[0] = some (-600) ∧ (window 20000 (-601) up).thm.temp[0] = none ∧
    (window 20000 2001 up).thm.margin[15] = -32768 ∧ (window 20000 2001 up).boot.boundVoid = true ∧ (window 17999 250 up).boot.boundVoid = true ∧
    (window 18000 250 up).boot.boundVoid = false := by decide +kernel
/-- 130.0 degrees: 5 K above the start of throttling at 5 % per K; the share factor at 115, 120, 125 and 125.1 degrees. -/
theorem test_throttle : up.hasDies = true ∧ (window 20000 1300 up).thm.factor[0] = 3 / 4 ∧ (window 20000 1250 up).thm.factor[1] = 1 ∧
    (window 20000 1150 up).thm.share = 1 ∧ (window 20000 1200 up).thm.share = 3 / 5 ∧ (window 20000 1250 up).thm.share = 1 / 5 ∧
    (window 20000 1251 up).thm.share = 1 / 5 := by decide +kernel

theorem test_supply : up.supply.rail .vcore .low = false ∧ (run (.supplyWarning .vcore .low 810) up).supply.vcoreLow = true ∧
    tells (run (.supplyWarning .vcore .low 810) up) srcSupplyVcore [] = true ∧ tells (run (.supplyWarning .vio18 .high 1900) up) srcSupplyVio [] = true ∧
    (run (.supplyWarningEnd .vcore .low) (run (.supplyWarning .vcore .low 810) up)).supply = up.supply := by decide +kernel
theorem test_vgd : up.dieQuays 0 = [0] ∧ (upSt .armed).quay[0].core.st ≠ .off ∧
    (run (.supplyWarning (.vgd 0) .low 9000) (upSt .armed)).flt.transit.length = 1 ∧ (run (.supplyWarning (.vgd 0) .low 9000) up).flt.transit = [] ∧
    (run (.supplyWarning (.vgd 1) .high 14000) up).flt.transit.length = 1 ∧
    (run (.supplyWarning (.vgd 1) .high 14000) discovering).flt.transit = [] := by decide +kernel
theorem test_vgd_hold : (run (.vgdHold 1) { up with brk := up.brk.set 1 { on := true } }).brk[1].on = false ∧
    (run (.vgdHold 1) up).supply.vgdHold = #v[false, true] ∧ (run (.vgdHoldRelease 1) (run (.vgdHold 1) up)).supply.vgdHold = #v[false, false] := by
  decide +kernel

/-! ### Sampling, snapshots, update points -/

/-- Code 8,192 + 1,024 of leg L0, gain 20 and 2 mΩ: 1,024 × 1,800 mV / (16,384 × 20 × 2 mΩ) = 2,812.5 mA; 1,000 × 6.25 mV of voltage. -/
theorem test_sample : up.quayFires 0 = true ∧ up.legQuay 0 = some 0 ∧ up.vmDie 0 = some 0 ∧ up.awaited 0 = [] ∧
    let t := run (.sampleEvent 0 [⟨0, 9216, 1000⟩] 8000) up
    t.leg[0].current = some (5625 / 2) ∧ t.leg[0].vphase = 6250 ∧ t.supply.vm[0] = 50000 ∧ t.quay[0].form.isOpen = true ∧
      t.quay[0].form.time = 1000000000 := by decide +kernel

/-- Q1 with an open snapshot that waits for lane G0. -/
def snapping (missing : List InputId) (at_ : Nat) : State :=
  upQ 1 (fun x => { x with form := { x.form with isOpen := true, missing := missing, time := at_ }, inputLate := 0xFFFE })
theorem test_snapshot : (run (.snapshotComplete 1) (snapping [] 7)).quay[1].snap.complete = true ∧
    (run (.snapshotComplete 1) (snapping [] 7)).quay[1].iterAt = some 1000000000 ∧
    (run (.snapshotComplete 1) (snapping [.lane 0] 7)).quay[1].form.isOpen = true := by decide +kernel
/-- Loop period 3,200,000 ticks (2 kHz, remote legs), deadline 30 %: 960,000 ticks after the sample event. -/
theorem test_deadline : up.loopPeriod 1 = 3200000 ∧ quayInputDeadline up 1 = 30 ∧ let s := snapping [.lane 0, .cell 3] (1000000000 - 960000)
    (run (.inputDeadline 1) s).quay[1].snap.stale = [.lane 0, .cell 3] ∧ (run (.inputDeadline 1) s).quay[1].inputLate = 0xFFFF ∧
    (run (.inputDeadline 1) s).cell[3].stale = true ∧ tells (run (.inputDeadline 1) s) srcInputLate [1] = true ∧
    (run (.inputDeadline 1) (run (.inputDeadline 1) s)).quay[1].inputLate = 0xFFFF ∧
    (run (.inputDeadline 1) (snapping [.lane 0] (1000000000 - 959999))).quay[1].form.isOpen = true := by decide +kernel
/-- An open snapshot of Q1 whose counter stands at the top stays there. -/
theorem test_deadline_top : (run (.inputDeadline 1) ((snapping [.lane 0] 5).modQuay 1 (fun x => { x with inputLate := 0xFFFF }))).quay[1].inputLate = 0xFFFF := by
  decide +kernel

/-- No estimate at all. -/
def quiet : Estimates := ⟨0, 0⟩
/-- Q0, a light stepper in OFF, with a closed snapshot. -/
def closed : State :=
  (upQ 0 (fun x => { x with snap := { x.snap with complete := true, time := 1000000000 }, iterAt := some 5 })).setParam 0x200060 6
theorem test_iteration : closed.hasKernel 0 = true ∧ closed.hm.grant ≠ none ∧ (run (.iterationComplete 0 quiet) closed).quay[0].snap.complete = false ∧
    (run (.iterationComplete 0 quiet) closed).quay[0].iterAt = none := by decide +kernel
theorem test_mirror : (run (.mirrorRefresh 0) up).quay[0].mirrorSeq = 2 ∧ (run (.mirrorRefresh 0) up).quay[0].mirror.length = 92 ∧
    (run (.mirrorRefresh 0) { up with hm := { up.hm with grant := none } }).quay[0].mirrorSeq = 0 := by decide +kernel
/-- Emulation of cell FB2 with 1,024 lines: from 0 upward, 5 steps of 100 ticks from tick 10^9 - 250 on. -/
def emulating : State := (cfg { up with prot := { up.prot with owners := up.prot.owners ++ [⟨2, 2, .quay 1, 0⟩] } } [(cellAddr 2 0x30, 1)]).modCell 2 (fun c => { c with emuSteps := 5, emuStart := 1000000000 - 250, emuPeriod := 500 })
theorem test_emulation : fbEmuSource emulating 2 ≠ 0 ∧ (run (.emulationTiming 2) emulating).cell[2].emuOut = emulating.cell[2].emuNow 1000000000 ∧
    emulating.cell[2].emuNow 1000000000 = 2 ∧ (run (.emulationTiming 2) emulating).cell[2].emuLag = emulating.cell[2].emuLag := by decide +kernel

/-- Q0 in RUNNING with a fresh command on L0 and none on L1 and L2. -/
def updating : State := { upSt .running with leg := up.leg.set 0 { active := some ⟨.switch, some 100000, some 300000⟩, fresh := true, armed := true } }
theorem test_update : updating.phaseLegs 0 = [0, 1, 2] ∧ fires (updating.loopPeriod 0) (updating.loopPhase 0) updating.now = true ∧
    (run (.updatePoint 0) updating).leg[0].inForce = ⟨.switch, some 100000, some 300000⟩ ∧ (run (.updatePoint 0) updating).leg[0].missed = 0 ∧
    (run (.updatePoint 0) updating).leg[0].fresh = false := by decide +kernel
/-- With the enable pin high nothing holds L1: it misses its command. With it low it is held. -/
def enabled : State := { updating with pins := ⟨Vector.replicate 6 true, Vector.replicate 6 0, ⟨false, false⟩, false⟩ }
theorem test_miss : enabled.heldKind 1 = none ∧ (run (.updatePoint 0) enabled).leg[1].missed = 1 ∧ (run (.updatePoint 0) enabled).quay[0].cmdLate = 1 ∧
    tells (run (.updatePoint 0) enabled) srcCmdLate [0] = true ∧ updating.heldKind 1 = some .off ∧ (run (.updatePoint 0) updating).leg[1].missed = 0 := by
  decide +kernel

/-! ### Legs, choppers, pins -/

/-- All pins released. -/
def free : Pins := ⟨Vector.replicate 6 true, Vector.replicate 6 0, ⟨false, false⟩, false⟩
/-- `up` with leg L1 changed and the pins released. -/
def legged (f : Leg → Leg) : State := { up with pins := free, leg := up.leg.set 1 (f up.leg[1]) }
theorem test_command_active : up.legQuay 0 = some 0 ∧ up.isChopperLeg 0 = false ∧
    (run (.legCommandArrival 0 .a .active (.given ⟨.holdLow, none, none⟩)) up).leg[0].active = some ⟨.holdLow, none, none⟩ ∧
    (run (.legCommandArrival 0 .a .active (.given ⟨.holdLow, none, none⟩)) up).leg[0].fresh = true := by decide +kernel
theorem test_command_shadow : let s := { up with hm := { up.hm with admission := up.hm.admission.set 0 true } }
    (run (.legCommandArrival 0 .b .shadow (.given ⟨.holdLow, none, none⟩)) s).leg[0].standby = some ⟨.holdLow, none, none⟩ ∧
    (run (.legCommandArrival 0 .b .shadow (.given ⟨.holdLow, none, none⟩)) s).leg[0].active = none ∧ up.hm.synced[0] = false ∧
    (run (.legCommandArrival 0 .b .shadow (.given ⟨.holdLow, none, none⟩)) up).leg[0].discards = 1 := by decide +kernel
theorem test_gate_watch : (run (.gateWatch 1 .high) up).leg[1].suspect = 1 ∧ (run (.gateWatch 1 .low) up).leg[1].abandoned = true ∧
    (run (.gateOnUncommanded 1 .low) up).leg[1].suspect = 2 ∧ (run (.gateOnTimeout 1 .high) up).leg[1].suspect = 3 ∧
    tells (run (.gateOnTimeout 1 .high) up) srcGateWatch [0] = true := by decide +kernel

/-- The high side of L1 conducts; its last refresh was some ticks ago. -/
def boosted (ago : Option Nat) : State := legged (fun x => { x with high := [(5, true)], lastRefresh := ago.map (1000000000 - ·) })
theorem test_refresh : (boosted none).gateHigh 1 = true ∧ (run (.bootRefresh 1) (boosted none)).leg[1].low = [(1000000640, true), (1000002560, false)] ∧
    (run (.bootRefresh 1) (boosted none)).leg[1].high = [(5, true), (1000000000, false), (1000003200, true)] ∧
    (run (.bootRefresh 1) (boosted none)).leg[1].refreshes = 1 ∧ tells (run (.bootRefresh 1) (boosted none)) srcBootRefresh [0] = true ∧
    (run (.bootRefresh 1) (boosted (some 32000))).leg[1].refreshes = 1 ∧ (run (.bootRefresh 1) (boosted (some 31999))).leg[1].refreshes = 0 := by
  decide +kernel
theorem test_refresh_repeat : (run (.refreshRepeat 1) (boosted (some 32000))).leg[1].refreshes = 1 ∧
    (run (.refreshRepeat 1) (boosted (some 31999))).leg[1].refreshes = 0 := by decide +kernel
theorem test_boot_uv : (run (.bootUv 1) (boosted none)).leg[1].uvlo = true ∧ (run (.bootUv 1) (boosted none)).gateHigh 1 = false ∧
    (run (.bootUvClear 1) (run (.bootUv 1) (boosted none))).leg[1].uvlo = false ∧ tells (run (.bootUv 1) (boosted none)) srcBootUv [0] = true := by
  decide +kernel

/-- L1 with a latched slope event, and L1 turned on 3,199 and 3,200 ticks ago (blanking time 3,200). -/
def sloped : State := legged (fun x => { x with slopeLatched := true })
def turned (ago : Nat) : State := legged (fun x => { x with high := [(1000000000 - ago, true)] })
theorem test_short : (legged id).quay[0].react = none ∧ (run (.shortCircuit 1 .absolute 30000) (legged id)).leg[1].latch = some .off ∧
    (run (.shortCircuit 1 .absolute 30000) (turned 3200)).gateHigh 1 = false ∧ (turned 3199).blankingOpen 1 = true ∧ (turned 3200).blankingOpen 1 = false ∧
    (run (.shortCircuit 1 .slope 30000) (turned 3199)).leg[1].latch = none ∧ (run (.shortCircuit 1 .slope 30000) (turned 3199)).leg[1].slopeLatched = true ∧
    (run (.shortCircuit 1 .slope 30000) (turned 3200)).leg[1].latch = some .off := by decide +kernel
theorem test_blanking_end : (run (.blankingEnd 1 10000) sloped).leg[1].blanks = 1 ∧ (run (.blankingEnd 1 10000) sloped).leg[1].latch = none ∧
    (run (.blankingEnd 1 10001) sloped).leg[1].latch = some .off ∧ (run (.blankingEnd 1 (-10001)) sloped).leg[1].latch = some .off ∧
    tells (run (.blankingEnd 1 10000) sloped) srcBlankedTransient [0] = true ∧ tells (run (.blankingEnd 1 10001) sloped) srcShortCircuit [0] = true := by
  decide +kernel
theorem test_short_asc : let s := { legged id with quay := up.quay.set 0 { up.quay[0] with react := some 5 } }
    (run (.shortCircuit 1 .absolute 30000) s).quay[0].react = some 4 ∧ (run (.shortCircuit 1 .absolute 30000) s).heldKind 2 = some .off ∧
    tells (run (.shortCircuit 1 .absolute 30000) s) srcAscOvercurrent [0] = true ∧ tells (run (.shortCircuit 1 .absolute 30000) s) srcShortCircuit [0] = true := by
  decide +kernel

theorem test_vm : devVmOv up 0 = 84000 ∧ devVmUv up 0 = 7000 ∧ (run (.vmOv 0 84001) up).supply.vm[0] = 84001 ∧
    tells (run (.vmOv 0 84001) up) srcVmOv [0] = true ∧ tells (run (.vmUv 0 6999) (upSt .armed)) srcVmUv [0] = true ∧
    (run (.vmUv 0 6999) up).flt.transit = [] := by decide +kernel
/-- Choppers BRK0 (local) and leg L40 of the attached lane G1, whose link is at a voltage. -/
def chopping (on : Bool) (mv : Nat) : State :=
  { cfg up [(addr 0 0 0x400, 1), (addr 0 0 0x404, 100), (legAddr 40 0, 1)] with
    pins := free, brk := up.brk.set 0 ⟨on, 1000000000 - 640000⟩, leg := up.leg.set 40 { up.leg[40] with chopping := on }
    prot := { up.prot with owners := up.prot.owners ++ [⟨1, 40, .quay 1, 0⟩, ⟨4, 8, .quay 1, 40⟩, ⟨5, 0, .quay 0, 0⟩] }
    lane := up.lane.set 1 { up.lane[1] with st := .attached, legs := 1, dcMv := mv } }
theorem test_chopper_on : (chopping false 800000).chopperWorks (.brk 0) = true ∧ (chopping false 800000).chopperMv (.brk 0) = none ∧
    (run (.chopperOn (.brk 0)) (chopping false 800000)).brk[0] = ⟨true, 1000000000⟩ ∧ (chopping false 800000).chopperWorks (.leg 40) = true ∧
    (chopping false 800000).chopperMv (.leg 40) = some 800000 ∧ (run (.chopperOn (.leg 40)) (chopping false 800000)).leg[40].chopping = true ∧
    (run (.chopperOn (.leg 40)) (chopping false 799999)).leg[40].chopping = false := by decide +kernel
theorem test_chopper_off : (run (.chopperOff (.brk 0)) (chopping true 760000)).brk[0].on = false ∧
    (run (.chopperOff (.leg 40)) (chopping true 760000)).leg[40].chopping = false ∧ (run (.chopperOff (.leg 40)) (chopping true 760001)).leg[40].chopping = true := by
  decide +kernel
theorem test_chopper_long : devBrkMaxOn (chopping true 0) 0 ≠ 0 ∧ (run (.chopperLong 0) (chopping true 0)).flt.transit.map (·.scope) = [0x70] ∧
    (run (.chopperLong 0) { chopping true 0 with brk := up.brk.set 0 ⟨true, 1000000000 - 639999⟩ }).flt.transit = [] := by decide +kernel

/-- Q0 in RUNNING with every pin released. -/
def manned : State := { upSt .running with pins := free }
theorem test_enable_low : manned.groupOf 0 = some 0 ∧ manned.heldKind 0 = none ∧ (run (.enableLow 0) manned).heldKind 0 = some .off ∧
    tells (run (.enableLow 0) manned) srcEnableLow [0] = true ∧ (run (.enableLow 0) manned).pins.enLowAt[0] = 1000000000 ∧
    (run (.enableLow 0) { up with pins := free }).flt.transit = [] := by decide +kernel
theorem test_halt : (run (.haltAssert .a) manned).heldKind 0 = some .off ∧ tells (run (.haltAssert .a) manned) srcEnableLow [0] = true ∧
    (run .haltDisc (run (.haltAssert .a) manned)).pins.haltDisc = true ∧ (run .haltDisc manned).pins.haltDisc = false ∧
    (run (.haltRelease .a) (run (.haltAssert .a) manned)).heldKind 0 = none := by decide +kernel
/-- L0 latched OFF by record 1, which was acknowledged; the enable pin of its group has been low for some ticks. -/
def toggling (low ackAt : Nat) : State :=
  { up with pins := { free with enHigh := free.enHigh.set 0 false, enLowAt := free.enLowAt.set 0 (1000000000 - low) }
            leg := up.leg.set 0 { up.leg[0] with latch := some .off, latchRecs := [1] }
            flt := { up.flt with log := [⟨1, 5, srcShortCircuit, 3, false, false, false, false, true, true, ackAt, true, false, 0, 3, 1, {}, [0], [0]⟩] } }
theorem test_toggle : (run (.enableToggle 0) (toggling 64000 7)).leg[0].latch = none ∧ (run (.enableToggle 0) (toggling 63999 7)).leg[0].latch = some .off ∧
    (run (.enableToggle 0) (toggling 64000 999936000)).leg[0].latch = some .off ∧
    tells (run (.enableToggle 0) (toggling 64000 999936000)) srcBollardEarly [0] = true ∧
    (run (.enableToggle 0) (toggling 63999 7)).pins.enHigh[0] = true := by decide +kernel

/-! ### Feedback cells, sigma-delta and limit inputs -/

/-- `up` with feedback cell FB0 changed and parameters written. -/
def celled (l : List (Nat × Word)) (f : Cell → Cell) : State := (cfg up l).modCell 0 f
theorem test_quadrature : up.cellQuay 0 = some 0 ∧ fbMode up 0 = 1 ∧ (run (.fbEdge 0 true false) up).cell[0].pos = 1 ∧
    (run (.fbEdge 0 false true) up).cell[0].pos = -1 ∧ (run (.fbEdge 0 true true) up).cell[0].pos = 0 ∧ (run (.fbEdge 0 true true) up).cell[0].illegal = 1 ∧
    (run (.fbEdge 0 true true) up).cell[0].unsure = true ∧ (run (.fbEdge 0 true true) (run (.fbEdge 0 true false) up)).cell[0].pos = 2 := by decide +kernel
theorem test_quadrature_inverted : let s := celled [(cellAddr 0 5, 1)] id
    (run (.fbEdge 0 true false) s).cell[0].pos = -1 ∧ (run (.fbEdge 0 false true) (run (.fbEdge 0 true true) (run (.fbEdge 0 true false) s))).cell[0].pos = -2 ∧
    (run (.fbEdge 0 false true) (later 64000 (run (.fbEdge 0 true true) (run (.fbEdge 0 true false) s)))).cell[0].pos = -3 ∧
    tells (run (.fbEdge 0 true true) s) srcIllegalEdge [0] = true := by decide +kernel
/-- A Hall cell in state 1 (position 0 of the sequence), forward order. -/
def halled (last : Option (BitVec 3)) : State := celled [(cellAddr 0 0, 2)] (fun c => { c with hall := 1, lastHall := last })
theorem test_hall : (run (.hallChange 0 3) (halled (some 1))).cell[0].pos = 1 ∧ (run (.hallChange 0 5) (halled (some 1))).cell[0].pos = -1 ∧
    (run (.hallChange 0 6) (halled (some 1))).cell[0].illegal = 1 ∧ (run (.hallChange 0 6) (halled (some 1))).cell[0].pos = 0 ∧
    (run (.hallChange 0 3) (halled none)).cell[0].pos = 0 ∧ (run (.hallChange 0 3) (halled none)).cell[0].lastHall = some 3 := by decide +kernel
theorem test_hall_illegal : (run (.hallChange 0 7) (halled (some 1))).cell[0].lastHall = none ∧ (run (.hallChange 0 0) (halled (some 1))).cell[0].pos = 0 ∧
    tells (run (.hallChange 0 0) (halled (some 1))) srcHallIllegal [0] = true ∧
    (run (.hallChange 0 3) ((halled (some 1)).setParam (cellAddr 0 5) 1)).cell[0].pos = -1 := by decide +kernel
/-- FB0 with 1,024 lines, the index latch on Z alone, the reference at 10 and a count. -/
def indexed (ref : Option Int) (pos : Int) : State :=
  celled [(cellAddr 0 6, 1), (cellAddr 0 7, 0)] (fun c => { c with indexRef := ref, pos := pos })
theorem test_index : (run (.indexLatch 0) (indexed none 77)).cell[0].indexRef = some 77 ∧
    (run (.indexLatch 0) (indexed (some 10) (10 + 4096 + 2))).cell[0].indexDev = 2 ∧
    (run (.indexLatch 0) (indexed (some 10) (10 + 4096 + 2))).cell[0].unsure = false ∧
    (run (.indexLatch 0) (indexed (some 10) (10 - 4096 + 3))).cell[0].unsure = true ∧
    tells (run (.indexLatch 0) (indexed (some 10) (10 - 4096 + 3))) srcCountDrift [0] = true ∧
    (run (.indexLatch 0) (indexed (some 10) (10 + 2048))).cell[0].indexDev = -2048 := by decide +kernel
theorem test_wire : (run (.fbWire 0) up).cell[0].wire = true ∧ tells (run (.fbWire 0) up) srcFbWire [0] = true ∧
    (run (.fbWireClear 0) (run (.fbWire 0) up)).cell[0].wire = false := by decide +kernel
theorem test_still : let s (ago : Nat) := celled [] (fun c => { c with still := false, eventAt := 1000000000, lastEdge := 1000000000 - ago, speed := 9 })
    (run (.fbStillTimeout 0) (s 320000000)).cell[0].still = true ∧ (run (.fbStillTimeout 0) (s 320000000)).cell[0].speed = 0 ∧
    (run (.fbStillTimeout 0) (s 319999999)).cell[0].still = false := by decide +kernel
theorem test_compare_end : (run (.comparePulseEnd 0) (celled [] (fun c => { c with cmpUntil := some 1000000000 }))).cell[0].cmpUntil = none ∧
    (run (.comparePulseEnd 0) (celled [] (fun c => { c with cmpUntil := some 1000000001 }))).cell[0].cmpUntil = some 1000000001 := by decide +kernel
/-- An SSI cell of 25 bits in binary code, with a transfer started at tick 7. -/
def ssi (prev : Option Nat) : State := celled [(cellAddr 0 0, 3), (cellAddr 0 0x13, 0)] (fun c => { c with await := some 7, ssiPrev := prev, pos := 100, speed := 3 })
theorem test_ssi : (run (.ssiFrameEnd 0 ⟨true, 500, false, false⟩) (ssi none)).cell[0].pos = 500 ∧
    (run (.ssiFrameEnd 0 ⟨true, 500, false, false⟩) (ssi none)).cell[0].sampledAt = 7 ∧
    (run (.ssiFrameEnd 0 ⟨true, 510, false, false⟩) (ssi (some 500))).cell[0].pos = 110 ∧
    (run (.ssiFrameEnd 0 ⟨true, 5, false, false⟩) (ssi (some 33554430))).cell[0].pos = 107 := by decide +kernel
theorem test_ssi_error : (run (.ssiFrameEnd 0 ⟨false, 500, false, false⟩) (ssi (some 1))).cell[0].ssiErr = true ∧
    (run (.ssiFrameEnd 0 ⟨false, 500, false, false⟩) (ssi (some 1))).cell[0].pos = 100 ∧
    (run (.ssiFrameEnd 0 ⟨false, 500, false, false⟩) (ssi (some 1))).cell[0].stale = true ∧
    tells (run (.ssiFrameEnd 0 ⟨false, 500, false, false⟩) (ssi (some 1))) srcSsiFrame [0] = true := by decide +kernel
/-- A sine/cosine cell with quadrant count 5 and its comparators at (0, 0), sine and cosine below zero. -/
def sine : State := celled [(cellAddr 0 0, 4)] (fun c => { c with quad := some 5 })
theorem test_quadrant : fbDir sine 0 ≠ 1 ∧ sine.cell[0].await = none ∧ (run (.quadrantChange 0 true false) sine).cell[0].quad = some 4 ∧
    (run (.quadrantChange 0 false true) sine).cell[0].quad = some 6 ∧ (run (.quadrantChange 0 false true) sine).cell[0].pos = 0 := by decide +kernel
theorem test_sincos : sine.afterStep10 = true ∧ fbMode sine 0 = 4 ∧ sine.cellQuay 0 = some 0 ∧
    sine.cell[0].quad = some 5 := by decide +kernel
/-- Q0 probes rising edges on its probe input; FB0 moves upward with 1,000 ticks per edge, the last edge 840 ticks ago. -/
def probing (still : Bool) : State :=
  (celled [(quayAddr 0 0x50, 1)] (fun c => { c with pos := 42, still := still, period := some 1000, lastDir := 1, lastEdge := 1000000000 - 840 })).modQuay 0
    (fun x => { x with probe := { x.probe with armed := true } })
theorem test_probe : let s := { probing false with prot := { up.prot with owners := up.prot.owners ++ [⟨6, 2, .quay 0, 0⟩] } }
    s.probeWired 0 = true ∧ s.primaryCell 0 = some 0 ∧ (run (.probeEdge 0 true) s).quay[0].probe.pos = 42 ∧
    (run (.probeEdge 0 true) s).quay[0].probe.time = 999999360 ∧ (run (.probeEdge 0 true) s).quay[0].probe.frac = 13107 ∧
    (run (.probeEdge 0 true) s).quay[0].probe.armed = false ∧ (run (.probeEdge 0 false) s).quay[0].probe.captured = false := by decide +kernel
theorem test_probe_still : let s := { probing true with prot := { up.prot with owners := up.prot.owners ++ [⟨6, 2, .quay 0, 0⟩] } }
    (run (.probeEdge 0 true) s).quay[0].probe.frac = 0 ∧ (run (.probeEdge 0 true) s).quay[0].probe.captured = true := by decide +kernel
/-- Sigma-delta input 4 of Q0 on clock 0 with decimation 16 and gain 2. -/
def modulated : State :=
  { (cfg up [(addr 0 0 0x240, 0), (addr 0 0 0x241, 16)]).modSd 4 (fun x => { x with await := some 7 }) with
    prot := { up.prot with owners := up.prot.owners ++ [⟨3, 4, .quay 0, 0⟩] } }
/-- A window of ones is the full scale of 16³: (2 × 1 - 1) × 2 = 2. -/
theorem test_sd : devSdClock modulated 4 ≠ 255 ∧ modulated.ownerOf 3 4 = .quay 0 ∧ (run (.sdValueReady 4 (List.replicate 46 true)) modulated).sd[4].value = 2 ∧
    (run (.sdOverrange 4) modulated).sd[4].ovr = true ∧ tells (run (.sdOverrange 4) modulated) srcSdOverrange [0] = true := by decide +kernel
/-- Both limit inputs of Q0 high for a second; quay.lim_active and quay.lim_filter decide what is active. -/
theorem test_limits : let s := run (.limitInputChange 0 .negative ⟨true, 5⟩) (run (.limitInputChange 0 .positive ⟨true, 5⟩) up)
    up.ownerOf 6 0 = .quay 0 ∧ up.ownerOf 6 1 = .quay 0 ∧ s.quay[0].limP = ⟨true, 5⟩ ∧ s.quay[0].limN = ⟨true, 5⟩ ∧
    (s.setParam (quayAddr 0 0x142) 3).limitActive 0 .positive = true ∧ (s.setParam (quayAddr 0 0x142) 1).limitActive 0 .negative = false ∧
    (run (.limitInputChange 0 .positive ⟨true, 999999999⟩) (s.setParam (quayAddr 0 0x142) 3)).limitActive 0 .positive = false ∧
    (run (.limitInputChange 3 .positive ⟨true, 5⟩) up).quay[3].limP = ⟨true, 5⟩ ∧ (run (.limitInputChange 3 .positive ⟨true, 5⟩) up).limitActive 3 .positive = false := by decide +kernel

/-! ### Timed events of a quay -/

/-- An operation of opcode 0x20 accepted through port B. -/
def op : AcceptedOp := ⟨.b, 4, 1, 0x20, 7, 0x2001, false⟩
/-- The status, and the low byte of the advice, of the event entry in slot 0 of port B. -/
def told (t : State) : Byte × Byte := ((t.port.b.evq[0]).getD 8 0, (t.port.b.evq[0]).getD 10 0)
/-- Q1 in a state with changes of its axis core, its registers and its generator. -/
def at1 (st : AxisState) (f : AxisCore → AxisCore) (g : Kern → Kern) : State :=
  upQ 1 (fun x => { x with core := f { x.core with st := st }, kern := g x.kern })
/-- Q0 so. -/
def at0 (st : AxisState) (f : AxisCore → AxisCore) (g : Kern → Kern) : State :=
  upQ 0 (fun x => { x with core := f { x.core with st := st }, kern := g x.kern })

/-- Q1 waits for its remote legs, ARM accepted 320,000,000 ticks, its longest time, ago. -/
def arming (armed : Bool) : State :=
  { (at1 .off (fun c => { c with armOp := some op, armAt := 1000000000 - 320000000 }) id).modQuay 1
      (fun x => { x with offsets := [(32, 0), (33, 0), (34, 0)] }) with
    leg := (((up.leg.set 32 { up.leg[32] with armed := true }).set 33 { up.leg[33] with armed := true }).set 34 { up.leg[34] with armed := armed }) }
theorem test_arm_complete : (arming true).phaseLegs 1 = [32, 33, 34] ∧ (run (.armComplete 1) (arming true)).quay[1].core.st = .armed ∧
    (run (.armComplete 1) (arming true)).quay[1].core.armOp = none ∧ told (run (.armComplete 1) (arming true)) = (stDone, 0) ∧
    (run (.armComplete 1) (arming false)).quay[1].core.st = .off := by decide +kernel
theorem test_arm_timeout : quayArmTimeout (arming false) 1 = 50000 ∧ (run (.armTimeout 1) (arming false)).quay[1].core.armOp = none ∧
    told (run (.armTimeout 1) (arming false)) = (stRefused, 0x0E) ∧ (run (.armTimeout 1) (arming false)).quay[1].core.st = .off ∧
    (run (.armTimeout 1) ((arming false).modQuay 1 (fun x => { x with core := { x.core with armAt := 680000001 } }))).quay[1].core.armOp = some op := by
  decide +kernel
/-- Q1 at standstill for 20 ms, its lane G0 attached. -/
def dwelling (st : AxisState) : State :=
  { at1 st id (fun k => { k with reg := { k.reg with stillSince := some (1000000000 - 128000000) } }) with
    lane := up.lane.set 0 { up.lane[0] with st := .attached, legs := 3 } }
theorem test_stop_dwell : (run (.stopDwellExpiry 1) (dwelling .stopping)).quay[1].core.st = .off ∧ (dwelling .stopping).slotMask [32, 33, 34] 0 = 7 ∧
    GwFrame.disarm 7 ∈ (run (.stopDwellExpiry 1) (dwelling .stopping)).lane[0].tx ∧ (run (.stopDwellExpiry 1) (dwelling .running)).quay[1].core.st = .running := by
  decide +kernel
theorem test_ramp_end : let s := (dwelling .faulted).modQuay 1 (fun x => { x with rampReact := true, react := some 2 })
    (run (.stopDwellExpiry 1) s).quay[1].react = some 4 ∧ (run (.stopDwellExpiry 1) s).leg[33].react = some .off ∧
    (run (.stopDwellExpiry 1) s).quay[1].core.st = .faulted := by decide +kernel

/-- A motion to a target that has started. -/
def motion : Motion := ⟨500, none, none, false, false, true, false⟩
/-- Q0 at its target, within the window since 5 ms. -/
def arriving : State :=
  at0 .running (fun c => { c with mode := .position, motion := some motion, motionOp := some op })
    (fun k => { k with gen := { k.gen with pos := 500 }, reg := { k.reg with inPosSince := some (1000000000 - 32000000) } })
theorem test_arrival : arriving.arrived 0 motion = true ∧ (arriving.groupOfQuay 0).isNone = true ∧ (run (.moveArrival 0) arriving).quay[0].core.motion = none ∧
    (run (.moveArrival 0) arriving).quay[0].kern.gen.inPos = true ∧ told (run (.moveArrival 0) arriving) = (stDone, 0) ∧
    (run (.moveArrival 0) arriving).quay[0].core.st = .running := by decide +kernel

/-- Q1 as a stepper. -/
def stepping (g : Kern → Kern) : State := (at1 .running id g).setParam 0x201060 6
theorem test_hold_delay : let s (u : Nat) := stepping (fun k => { k with reg := { k.reg with vZeroSince := some u } })
    (s 5).isStepper 1 = true ∧ quayHoldDelay (s 5) 1 = 200000 ∧ (run (.holdDelayExpiry 1) (stepping id)).quay[1].kern.step.held = false ∧
    (run (.holdDelayExpiry 1) { s 720000000 with tb := { up.tb with now := 2000000000 } }).quay[1].kern.step.held = true ∧
    (run (.holdDelayExpiry 1) { s 720000001 with tb := { up.tb with now := 2000000000 } }).quay[1].kern.step.held = false := by decide +kernel
theorem test_catch_timeout : let s := (at1 .catching (fun c => { c with stAt := 7 }) id).setParam (quayAddr 1 0x194) 1000
    tells (run (.catchTimeout 1) s) srcCatchTimeout [1] = true ∧ (run (.catchTimeout 1) (run (.catchTimeout 1) s)).flt.transit.length = 1 ∧
    (run (.catchTimeout 1) (at1 .catching (fun c => { c with stAt := 7 }) id)).flt.transit = [] := by decide +kernel
theorem test_speed_error : let s := (at0 .running (fun c => { c with mode := .speed }) (fun k => { k with reg := { k.reg with errSince := some 7 } })).setParam (quayAddr 0 0x103) 1000
    s.quay[0].share.following = false ∧ tells (run (.speedError 0) s) srcSpeedError [0] = true ∧
    (run (.speedError 0) (run (.speedError 0) s)).flt.transit.length = 1 := by decide +kernel
theorem test_tension_high : let s := at0 .running (fun c => { c with mode := .tension }) (fun k => { k with reg := { k.reg with tensSince := some 872000000 } })
    tells (run (.tensionHigh 0) s) srcTensionHigh [0] = true ∧
    (run (.tensionHigh 0) (s.modReg 0 (fun r => { r with tensSince := some 872000001 }))).flt.transit = [] := by decide +kernel
theorem test_tension_dwell : let s := at0 .running (fun c => { c with mode := .tension }) (fun k => { k with reg := { k.reg with renderSince := some 872000000 } })
    (run (.tensionDwellExpiry 0) s).quay[0].kern.reg.tensionState = 1 ∧
    (run (.tensionDwellExpiry 0) (s.modReg 0 (fun r => { r with renderSince := none, recoverSince := some 872000000 }))).quay[0].kern.reg.tensionState = 2 := by
  decide +kernel
theorem test_ibex : let s := stepping (fun k => { k with reg := { k.reg with satSince := some 360000000 } })
    tells (run (.ibexSaturationStall 1) s) srcStall [1] = true ∧ (run (.ibexSaturationStall 1) s).quay[1].core.homed = false ∧
    (run (.ibexSaturationStall 1) (s.modReg 1 (fun r => { r with satSince := some 360000001 }))).flt.transit = [] := by decide +kernel
/-- Q1, sensorless, in an observation window of a catch. -/
def watching (emf : Rat) : State :=
  at1 .catching (fun c => { c with mode := .speed, startOp := some op }) (fun k => { k with reg := { k.reg with catchPhase := 1, windowAt := 987200000, emf := emf } })
theorem test_observe : quayCatchWindow (watching 0) 1 = 2000 ∧ (run (.observeWindowEnd 1) (watching 0)).quay[1].core.st = .running ∧
    told (run (.observeWindowEnd 1) (watching 0)) = (stDone, 0) ∧ (run (.observeWindowEnd 1) (watching 1)).quay[1].core.st = .catching ∧
    (run (.observeWindowEnd 1) (watching 1)).quay[1].kern.reg.windowAt = 1000000000 := by decide +kernel
theorem test_if_timeout : let s := (at0 .running id (fun k => { k with reg := { k.reg with ifMode := true, ifSince := some 7 } })).setParam (quayAddr 0 0xaf) 1000
    (run (.ifTimeout 0) s).quay[0].core.st = .catching ∧ tells (run (.ifTimeout 0) s) srcObserverLoss [0] = true ∧
    (run (.ifTimeout 0) s).quay[0].kern.reg.ifMode = false := by decide +kernel
theorem test_home_stall : let s := at0 .homing (fun c => { c with homing := some ⟨4, 100, 0, 0, 0, 0⟩ }) (fun k => { k with reg := { k.reg with stallSince := some 680000000 } })
    (run (.homeStallDetect 0) s).quay[0].core.homing.map (·.phase) = some 2 ∧ (run (.homeStallDetect 0) s).quay[0].kern.gen.pos = 100 ∧
    (run (.homeStallDetect 0) (s.modReg 0 (fun r => { r with stallSince := some 680000001 }))).quay[0].core.homing.map (·.phase) = some 0 := by decide +kernel

/-! ### Lanes and Hawser ring -/

/-- `up` with a lane changed. -/
def laned (n : LaneNo) (f : Lane → Lane) : State := up.modLane n f
theorem test_detect : up.laneLive 3 = true ∧ (run (.signalDetect 3) up).lane[3].st = .training ∧ (run (.signalDetect 3) up).lane[3].detectAt = 1000000000 ∧
    (run (.signalDetect 3) (laned 3 (fun x => { x with downAt := some 936000001 }))).lane[3].st = .down ∧
    (run (.signalDetect 19) (laned 19 (fun x => { x with downAt := some 936000000 }))).lane[19].st = .training := by decide +kernel
theorem test_retry : (run (.trainRetry 3) (laned 3 (fun x => { x with downAt := some 936000000 }))).lane[3].st = .training ∧
    (run (.trainRetry 3) (laned 3 (fun x => { x with downAt := some 936000001 }))).lane[3].st = .down := by decide +kernel
theorem test_rx_ok : (run (.rxOkSet (.lane 3)) (laned 3 (fun x => { x with st := .training }))).lane[3].tx = [.rxOk] ∧
    (run (.rxOkSet (.hawser .a)) up).hw.ports.a.tx = [.rxOk] ∧ (run (.rxOkSet (.hawser .a)) up).hw.ports.a.training = true := by decide +kernel
theorem test_training : (run (.trainingComplete (.lane 3)) (laned 3 (fun x => { x with st := .training, rxOk := true }))).lane[3].st = .aligning ∧
    (run (.trainingComplete (.lane 3)) (laned 3 (fun x => { x with st := .training, rxOk := true }))).lane[3].tx = [.ping] ∧
    (run (.trainingComplete (.hawser .a)) (run (.rxOkSet (.hawser .a)) up)).hw.ports.a.tx = [.rxOk, .ping] ∧
    (run (.trainingComplete (.hawser .a)) (run (.rxOkSet (.hawser .a)) up)).hw.ports.a.training = false := by decide +kernel
/-- G3 aligns; some values of r are known; the PING left 1,000 ticks ago. -/
def aligning (rs : List Int) : State := laned 3 (fun x => { x with st := .aligning, rs := rs, pingAt := 999999000 })
/-- r = 1,000 - 200 = 800; mean of r / 2 over four pairs of 800, 800, 800, 800 is 400. -/
theorem test_pong : (run (.gwPong 3 0 200) (aligning [])).lane[3].rs = [800] ∧ (run (.gwPong 3 0 200) (aligning [])).lane[3].tx = [.ping] ∧
    (run (.gwPong 3 0 200) (aligning [800, 800, 800])).lane[3].st = .identifying ∧ (run (.gwPong 3 0 200) (aligning [800, 800, 800])).lane[3].delay = 400 ∧
    (run (.gwPong 3 0 200) (aligning [800, 800, 800])).lane[3].tx = [.delay 400, .sync 1000000000, .identReq] ∧
    (run (.gwPong 3 0 200) (aligning [800, 800, 672])).lane[3].st = .identifying ∧ (run (.gwPong 3 0 200) (aligning [800, 800, 671])).lane[3].st = .aligning := by
  decide +kernel
/-- G3's roster: two legs of unit type 5, firmware level 2 or above, no serial number asked for. -/
def identifying (reqs : Nat) : State :=
  { laned 3 (fun x => { x with st := .identifying, identReqs := reqs, identReqAt := 993600000, detectAt := 872000000 }) with
    prot := { up.prot with roster := [⟨3, 2, 5, 2, 0, 0⟩] } }
theorem test_ident : (identifying 1).rosterOf 3 = some ⟨3, 2, 5, 2, 0, 0⟩ ∧ (run (.gwIdent 3 ⟨0, 9, 5, 2, 0, 2, 1, 1⟩) (identifying 1)).lane[3].st = .attached ∧
    (run (.gwIdent 3 ⟨0, 9, 5, 2, 0, 2, 1, 1⟩) (identifying 1)).lane[3].serial = 9 ∧
    (run (.gwIdent 3 ⟨0, 9, 5, 2, 0, 1, 1, 1⟩) (identifying 1)).lane[3].st = .quarantined ∧
    (run (.gwIdent 3 ⟨0, 9, 5, 3, 0, 2, 1, 1⟩) (identifying 1)).lane[3].st = .quarantined ∧
    (run (.gwIdent 3 ⟨0, 9, 5, 3, 0, 2, 1, 1⟩) (identifying 1)).flt.transit.map (·.src) = [srcGwQuarantine] := by decide +kernel
theorem test_ident_timeout : (run (.identTimeout 3) (identifying 1)).lane[3].identReqs = 2 ∧ (run (.identTimeout 3) (identifying 2)).lane[3].tx = [.identReq] ∧
    (run (.identTimeout 3) (identifying 3)).lane[3].st = .down := by decide +kernel
theorem test_train_fail : gwTrainTimeout up 3 = 20000 ∧ (run (.gwTrainFail 3) (identifying 1)).lane[3].st = .down ∧
    (run (.gwTrainFail 3) (identifying 1)).flt.transit.map (·.src) = [srcGwTrainFail] ∧
    (run (.gwTrainFail 3) ((identifying 1).modLane 3 (fun x => { x with detectAt := 872000001 }))).lane[3].st = .identifying := by decide +kernel

/-- G0 attached with the legs of Q1, in RUNNING with an open snapshot of tick 7. -/
def attached : State :=
  { (at1 .running id id).modQuay 1 (fun x => { x with form := { x.form with isOpen := true, missing := [.lane 0], time := 7 } }) with
    pins := free, lane := up.lane.set 0 { up.lane[0] with st := .attached, legs := 3, iLsb := 10, uLsb := 100, syncAt := 993600000, rxSeq := some 4 } }
/-- An entry of slot 1 with a current of -3 LSB and 600 LSB of voltage, and a status frame of the sample event at a tick. -/
def entry (short : Bool) : StatusEntry := ⟨1, true, short, false, false, false, 0, 0xFFFD, 600, 0, 255⟩
def status (at_ : Word) (short : Bool) : StatusFrame := ⟨5, at_, true, true, 6000, [entry short], none⟩
theorem test_status : attached.sampleMatches 0 7 = [1] ∧ attached.slotLeg 0 1 = some 33 ∧ (run (.gwStatus 0 (status 7 false)) attached).quay[1].form.missing = [] ∧
    (run (.gwStatus 0 (status 7 false)) attached).leg[33].current = some (-30) ∧ (run (.gwStatus 0 (status 7 false)) attached).leg[33].vphase = 60000 ∧
    (run (.gwStatus 0 (status 7 false)) attached).lane[0].dcMv = 600000 ∧ (run (.gwStatus 0 (status 7 false)) attached).leg[33].armed = true ∧
    (run (.gwStatus 0 (status 8 false)) attached).lane[0].stray = 1 := by decide +kernel
theorem test_gate_unit_short : attached.leg[33].short = false ∧ (run (.gwStatus 0 (status 7 true)) attached).leg[33].latch = some .off ∧
    tells (run (.gwStatus 0 (status 7 true)) attached) srcGuShort [1] = true := by decide +kernel
theorem test_sync : gwSyncPeriod attached 0 = 1000 ∧ (run (.gwSyncSend 0) attached).lane[0].tx = [.sync 1000000000] ∧
    (run (.gwSyncSend 0) (attached.modLane 0 (fun x => { x with syncAt := 993600001 }))).lane[0].tx = [] := by decide +kernel
theorem test_bad_frame : (run (.gwBadFrame 0 .crc) attached).lane[0].crcCount = 1 ∧ (run (.gwBadFrame 0 .unknownType) attached).lane[0].crcCount = 0 ∧
    (run (.gwBadFrame 0 .unknownType) attached).flt.transit.map (·.src) = [srcGwCrc] := by decide +kernel
theorem test_lane_loss : attached.laneQuays 0 = [1] ∧ quayDegradeEnable attached 1 ≠ 1 ∧ (run (.laneLoss 0) attached).lane[0].st = .down ∧
    (run (.laneLoss 0) attached).lane[0].losses = 1 ∧ tells (run (.laneLoss 0) attached) srcGwLaneLoss [1] = true ∧
    (run (.laneLoss 0) (run (.gwStatus 0 (status 7 false)) attached)).leg[33].armed = false := by decide +kernel

/-- A device 0 of shaft group 1, drive 5 on the ring, with its ports. -/
def ringed (a b : HwPort) (mode : HwMode) : State :=
  { up with prot := { up.prot with hwAddress := 0x05040000 }, hw := { up.hw with mode := mode, ports := ⟨a, b⟩ } }
/-- A port that is up, and one that has exchanged some pairs. -/
def upPort : HwPort := { up := true }
def pairs (rs : List Int) : HwPort := { rxOk := true, rs := rs, pingAt := 999999000 }
theorem test_hw_ping : (run (.hwPing .a) (ringed {} {} .alone)).hw.ports.a.tx.length = 1 ∧ (run (.hwPing .a) (ringed {} {} .alone)).free = up.free + 1 := by
  decide +kernel
theorem test_hw_pong : (run (.hwPong .a 200) (ringed (pairs []) {} .alone)).hw.ports.a.rs = [800] ∧
    (run (.hwPong .a 200) (ringed (pairs [800, 800, 800]) {} .alone)).hw.ports.a.delay = 400 ∧
    (run (.hwPong .a 200) (ringed (pairs [800, 800, 672]) {} .alone)).hw.ports.a.rs.length = 4 ∧
    (run (.hwPong .a 200) (ringed (pairs [800, 800, 671]) {} .alone)).hw.ports.a.rs = [] := by decide +kernel
theorem test_hw_up : (run (.hwPortUp .a) (ringed (pairs [800, 800, 800, 800]) {} .alone)).hw.mode = .line ∧
    (run (.hwPortUp .a) (ringed (pairs [800, 800, 800, 800]) {} .alone)).hw.ports.a.up = true ∧
    (run (.hwPortUp .a) (ringed (pairs [800, 800, 800, 800]) {} .alone)).hw.windowAt = some 1012800000 ∧
    (run (.hwPortUp .a) (ringed (pairs [800, 800, 800]) {} .alone)).hw.ports.a.up = false := by decide +kernel
theorem test_hw_loss : (run (.hwPortLoss .a) (ringed upPort upPort .ring)).hw.mode = .line ∧ (run (.hwPortLoss .a) (ringed upPort {} .line)).hw.mode = .alone ∧
    (run (.hwPortLoss .a) (ringed upPort upPort .ring)).hw.ports.b.tx.any (fun f => match f with | .topo h l p => h.src == 0x05040000 && l && p == Side.a | _ => false) = true := by
  decide +kernel
theorem test_hw_disc_send : (ringed upPort {} .line).originPorts = [.a] ∧ (run .hwDiscSend (ringed upPort {} .line)).hw.lastDisc = 1000000000 ∧
    (run .hwDiscSend (ringed upPort {} .line)).hw.ports.a.tx.length = 1 ∧ (run .hwDiscSend (ringed {} {} .alone)).hw.lastDisc = 0 := by decide +kernel
theorem test_hw_bad : (run (.hwBadFrame .a .crc) (ringed upPort {} .line)).flt.transit.map (·.src) = [srcHwCrc] := by decide +kernel
/-- A member on device 2 of the same drive, and a stranger. -/
def hdr (src : Word) (ttl : Byte) : HwHeader := ⟨ttl, 3, src⟩
def disc : HwDisc := ⟨77, true, true, 9, 1⟩
theorem test_hw_disc : let s := { ringed upPort upPort .line with hw := { (ringed upPort upPort .line).hw with windowAt := some 5 } }
    s.discConflict (hdr 0x05040400 8) disc = false ∧ s.receipt .a 0x10 (hdr 0x05040400 8) = .forward 7 ∧
    (run (.hwDisc .a (hdr 0x05040400 8) disc) s).hw.members = [⟨2, 77, true, true, 9, 1000000000⟩] ∧
    s.discConflict (hdr 0x06040400 8) disc = true ∧ (run (.hwDisc .a (hdr 0x06040400 8) disc) s).hw.members = [] ∧
    (run (.hwDisc .a (hdr 0x06040400 8) disc) s).flt.transit.map (·.src) = [srcHwIdConflict] ∧
    (run (.hwDisc .a (hdr 0x06040400 8) disc) (run (.hwDisc .a (hdr 0x06040400 8) disc) s)).flt.transit.length = 1 := by decide +kernel
theorem test_hw_topo : (run (.hwTopo .a (hdr 0x05040400 8) true .b) (ringed upPort upPort .ring)).hw.mode = .line ∧
    HwFrame.topo (hdr 0x05040400 7) true .b ∈ (run (.hwTopo .a (hdr 0x05040400 8) true .b) (ringed upPort upPort .ring)).hw.ports.b.tx ∧
    (run (.hwTopo .a (hdr 0x05040400 1) true .b) (ringed upPort upPort .ring)).hw.ports.b.tx.any (fun f => match f with | .topo h _ _ => h.src == 0x05040400 | _ => false) = false := by
  decide +kernel
/-- The window is over; device 2 was heard with both ports up. -/
def windowed (h1 : Bool) : State :=
  { ringed upPort upPort .line with hw := { (ringed upPort upPort .line).hw with windowAt := some 1000000000, members := [⟨2, 77, true, h1, 9, 7⟩] } }
theorem test_window : (run .memberWindowEnd (windowed true)).hw.mode = .ring ∧ (run .memberWindowEnd (windowed true)).hw.memberSet = [0, 2] ∧
    (run .memberWindowEnd (windowed false)).hw.mode = .line ∧ (run .memberWindowEnd (windowed true)).hw.windowAt = none := by decide +kernel
theorem test_disc_expiry : let s := run .memberWindowEnd (windowed true)
    (run (.discExpiry 2) s).hw.memberSet = [0] ∧ (run (.discExpiry 2) s).hw.members = [] ∧
    (run (.discExpiry 2) s).flt.transit.any (fun e => e.src == srcHwRingChange) = true ∧ (run (.discExpiry 0) s).hw.memberSet = [0, 2] := by decide +kernel
/-- This device follows device 2, with a link delay of 100 ticks. -/
def timed (st : AxisState) : State :=
  { ringed { upPort with delay := 100 } upPort .ring with
    quay := up.quay.set 0 { up.quay[0] with core := { up.quay[0].core with st := st } }, hw := { (ringed { upPort with delay := 100 } upPort .ring).hw with master := 2, aligned := true } }
theorem test_time : (timed .off).receipt .a 0x12 (hdr 0x05040400 8) ≠ .drop ∧ deviceField 0x05040400 = 2 ∧
    (run (.hwTime .a (hdr 0x05040400 8) 999999950 30) (timed .off)).tb.now = 1000000080 ∧
    (run (.hwTime .a (hdr 0x05040400 8) 999999950 30) (timed .running)).tb.now = 1000000000 ∧
    (run (.hwTime .a (hdr 0x05040400 8) 999999950 30) (timed .running)).tb.slewLeft = 80 ∧
    (run (.hwTime .a (hdr 0x05040400 8) 999999950 30) (timed .running)).tb.slewRate = 2000 ∧
    (run (.hwTime .a (hdr 0x05040400 8) 999999800 30) (timed .off)).tb.slewRate = -2000 := by decide +kernel
theorem test_time_lost : (run (.hwTime .a (hdr 0x05040400 8) 1000000221 0) (timed .off)).hw.aligned = false ∧
    (run (.hwTime .a (hdr 0x05040400 8) 1000000220 0) (timed .off)).hw.aligned = true ∧
    (run (.hwTime .a (hdr 0x05040400 8) 999999906 0) (timed .running)).hw.aligned = true ∧
    (run (.hwTime .a (hdr 0x05040400 8) 1000000221 0) (timed .off)).flt.transit.map (·.src) = [srcHwAlignLost] := by decide +kernel
theorem test_align_lost : (run .hwAlignLost (timed .off)).hw.aligned = false ∧ (run .hwAlignLost (timed .off)).tb.slewing = false ∧
    (run .hwAlignLost { timed .off with hw := { (timed .off).hw with lastTime := 936000001 } }).hw.aligned = true := by decide +kernel
theorem test_time_send : let s := { timed .off with hw := { (timed .off).hw with master := 0 } }
    s.ownDevice = 0 ∧ (run .hwTimeSend s).hw.ports.b.tx.length = 1 ∧ (run .hwTimeSend s).hw.lastSent = 1000000000 ∧
    (run .hwTimeSend (timed .off)).hw.lastSent = 0 := by decide +kernel
/-- Q0 follows shaft group 1; Q1 is its master. -/
def shared : State := cfg (timed .off) [(quayAddr 0 0x120, 1), (quayAddr 0 0x121, 2), (quayAddr 1 0x120, 1), (quayAddr 1 0x121, 1)]
def share : HwShare := ⟨7, 1, 3, false, false, true, 2, 0, 5, 6, 7, 8, 9⟩
def shareStat : HwShareStat := ⟨7, 7, 3, false, false, true, false, false, 1, 2, 3⟩
theorem test_share : shared.localFollowers 1 = [0] ∧ shared.localMasters 1 = [1] ∧ shared.receipt .a 0x20 (hdr 0x05040400 8) ≠ .drop ∧
    (run (.hwShare .a (hdr 0x05040400 8) share) shared).quay[0].share.value = some share ∧
    (run (.hwShare .a (hdr 0x05040400 8) share) shared).quay[1].share.value = none := by decide +kernel
theorem test_share_stat : shared.receipt .a 0x21 (hdr 0x05040400 8) ≠ .drop ∧
    (run (.hwShareStat .a (hdr 0x05040400 8) shareStat) shared).quay[1].share.followers.map (·.stat) = [shareStat] ∧
    (run (.hwShareStat .a (hdr 0x05040400 8) shareStat) shared).quay[0].share.followers = [] := by decide +kernel

/-! ### Faults -/

/-- A fault of a source on a quay, raised at tick 5, and a device with Q0 in RUNNING whose stage holds it for 128 ticks. -/
def fault (src : Nat) (q : QuayNo) : FaultEvent :=
  { src := src, time := 5, scope := BitVec.ofNat 8 q.val, quays := [q], ctx := {}, latched := [], suspect := 0, forceSevere := false }
def staged (src : Nat) : State := { upSt .running with flt := { up.flt with stage := [⟨fault src 0, 999999872⟩] } }
theorem test_arrival_order : let s := { up with flt := { up.flt with transit := [fault srcStall 0, fault srcVmOv 1] } }
    (run (.faultArrival 1) s).flt.transit.map (·.src) = [srcStall] ∧ (run (.faultArrival 1) s).flt.stage = [⟨fault srcVmOv 1, 1000000000⟩] ∧
    (run (.faultArrival 2) s).flt.stage = [] := by decide +kernel
theorem test_windows : let s := { up with flt := { up.flt with conseq := [⟨4, 7, [0], false, 1000000000, 3⟩, ⟨5, 7, [1], false, 1000000001, 4⟩], pulseUntil := some 1000000000 } }
    (run (.conseqWindowEnd 0) s).flt.conseq.map (·.code) = [5] ∧ (run (.conseqWindowEnd 1) s).flt.conseq.length = 2 ∧ (run .errPulseEnd s).flt.pulseUntil = none := by
  decide +kernel
theorem test_scrub : up.portsDead = false ∧ (run (.scrubPass [.doubleTrace 3]) up).trace[3].invalid = true ∧
    (run (.scrubPass [.single]) up).flt.transit.map (·.src) = [srcEccCorr] ∧ (run (.scrubPass [.doubleHalf .b]) up).flt.transit.map (·.scope) = [0xE1] := by
  decide +kernel
theorem test_fabric : (run .fabricStall up).flt.hardSafe = true ∧ (run .fabricStall up).quay[0].core.st = .safe ∧ (run .fabricStall up).quay[2].core.st = .off ∧
    (run .fabricStall up).flt.log.map (·.severity) = [4] := by decide +kernel
/-- GATE_WATCH has base level 2 and a reaction that resolves to pulse block; it is of the path class and Q0 has no open record. -/
theorem test_ordered : (staged srcGateWatch).covering ⟨fault srcGateWatch 0, 999999872⟩ = none ∧ (staged srcGateWatch).quay[0].openRec = none ∧
    (staged srcGateWatch).countedLevel (fault srcGateWatch 0) = 2 ∧ (run .faultOrdered (staged srcGateWatch)).quay[0].core.st = .faulted ∧
    (run .faultOrdered (staged srcGateWatch)).quay[0].react = some 4 ∧ (run .faultOrdered (staged srcGateWatch)).quay[0].openRec = some 0 ∧
    (run .faultOrdered (staged srcGateWatch)).flt.pulseUntil = some 1000640000 := by decide +kernel
/-- BOLLARD_EARLY is of no path class: with an unacknowledged record of it, it is recorded one level higher. -/
theorem test_escalates : isPath srcBollardEarly = false ∧ let s := staged srcBollardEarly
    let r : Record := { newRecord s (fault srcBollardEarly 0) 1 [0] with no := 6 }
    let t := { s with flt := { s.flt with log := [r], total := 7 } }
    t.unackedSame (fault srcBollardEarly 0) = true ∧ (run .faultOrdered t).flt.log.map (fun x => (x.no, x.severity, x.escalated)) =
      [(7, t.countedLevel (fault srcBollardEarly 0) + 1, true), (6, 1, false)] := by decide +kernel
theorem test_not_ordered : (run .faultOrdered { staged srcGateWatch with tb := { up.tb with now := 999999999 } }).flt.total = 0 := by decide +kernel
/-- Speed errors are covered by the consequence window of a pulse block (code 4). -/
theorem test_consequential : let s := staged srcSpeedError
    let t := { s with flt := { s.flt with conseq := [⟨4, 7, [0], false, 1000000005, 3⟩] } }
    t.covering ⟨fault srcSpeedError 0, 999999872⟩ = some ⟨4, 7, [0], false, 1000000005, 3⟩ ∧
    (run .faultOrdered t).flt.log.map (fun x => (x.consequential, x.count)) = [(true, 3)] ∧ (run .faultOrdered t).flt.events = [] := by decide +kernel
theorem test_merged : let s := staged srcGateWatch
    let r : Record := { newRecord s (fault srcShortCircuit 0) 2 [0] with no := 6 }
    let t := (({ s with flt := { s.flt with log := [r], total := 7 } } : State)).modQuay 0 (fun x => { x with openRec := some 6 })
    t.flt.record 6 = some r ∧ t.scopeQuays (fault srcGateWatch 0) 2 = [0] ∧
    (run .faultOrdered t).flt.log.map (fun x => (x.no, x.merged, x.count)) = [(7, true, 6), (6, false, 1)] ∧
    (run .faultOrdered t).quay[0].core.st = .running := by decide +kernel

/-! ### Halves -/

theorem test_trip : (run (.checkTrip .a .engineMiss 3) up).half.a.run = false ∧ (run (.checkTrip .a .engineMiss 3) up).hm.grant = some .b ∧
    (run (.checkTrip .a .engineMiss 3) up).hm.failovers = 1 ∧ (run (.checkTrip .b .pilotWd 3) up).hm.grant = some .a ∧
    (run (.checkTrip .b .pilotWd 3) up).flt.transit.map (fun e => (e.scope, e.ctx.b17, e.ctx.sub)) = [(0xE1, 0xFF, 4)] := by decide +kernel
theorem test_trip_role : let s (m : Nat) := { up with half := ⟨up.half.a, { up.half.b with roleRecAt := some 7, mismatchAt := [m] }⟩ }
    (run (.checkTrip .b .role 0) (s 6400007)).half.b.run = false ∧ (run (.checkTrip .b .role 0) (s 6400006)).half.b.run = true ∧
    (let l := { up with ih := { up.ih with linkDown := true, linkSince := 993600000 } }
     (run (.checkTrip .b .link 0) l).half.b.run = false ∧ (run (.checkTrip .a .link 0) l).half.a.run = true ∧
     (run (.checkTrip .b .link 0) { l with ih := { l.ih with linkSince := 993600001 } }).half.b.run = true) := by decide +kernel
theorem test_heartbeat : (run (.heartbeatTimeout .a) up).hm.grant = some .b ∧ (run (.heartbeatTimeout .a) up).flt.transit.map (·.ctx.sub) = [0x40] ∧
    (run (.checkSelftest .b false) up).half.b.held = true ∧ (run (.checkSelftest .b false) up).flt.transit.map (·.src) = [srcCheckSelftest] := by
  decide +kernel
/-- No half has been granted yet; the wait for half B ends now. -/
def granting (a b : Bool) : State :=
  { up with boot := { up.boot with prefWaitAt := some 1000000000 }, hm := State.reset.hm, half := ⟨{ run := a }, { run := b }⟩ }
theorem test_pref_wait : (granting true false).preferred.getD .b = .a ∧ (run .prefWaitExpiry (granting false true)).hm.grant = some .b ∧
    (run .prefWaitExpiry (granting true false)).hm.grant = some .a ∧ (run .prefWaitExpiry (granting false true)).hm.failovers = 0 := by decide +kernel
/-- Half B in reset. -/
def half (f : Half → Half) : State := { up with half := ⟨up.half.a, f { resetAt := 1000000000 - 64000 }⟩ }
theorem test_rejoin : (run (.checkSelftest .b true) (half id)).half.b.selfOk = true ∧ (run (.checkSelftest .b true) (half id)).ih.from_.a = [.patch] ∧
    (run (.ihPatch true) (run (.checkSelftest .b true) (half id))).half.b.patchOk = true ∧
    (run (.ihPatch false) (run (.checkSelftest .b true) (half id))).half.b.held = true ∧
    (run (.halfRejoin .b) (half (fun x => { x with selfOk := true, patchOk := true }))).half.b.run = true ∧
    (run (.halfRejoin .b) (half (fun x => { x with selfOk := true, patchOk := true }))).half.b.rejoinUs = 10 ∧
    (run (.halfRejoin .b) (half (fun x => { x with selfOk := true, patchOk := true }))).ih.from_.a = [.kstate 0, .kstate 1] := by decide +kernel
theorem test_rejoin_alone : let s := { half (fun x => { x with selfOk := true }) with half := ⟨{}, { selfOk := true }⟩, hm := { up.hm with grant := none } }
    s.boot.src.toNat < 2 ∧ (run (.halfRejoin .b) s).hm.grant = some .b ∧ (run (.halfRejoin .b) s).hm.failovers = 1 := by decide +kernel

/-- A message on its way from a half. -/
def sent (h : Side) (x : IhMsg) : State := { up with ih := { up.ih with from_ := up.ih.from_.set h [x], unacked := up.ih.unacked.set h [7], changes := [(1, 7)] } }
theorem test_channel : (run .ihChange (sent .a (.change 1 { up.quay[1].core with homed := true } 7))).quay[1].coreCopy.homed = true ∧
    (run .ihChange (sent .a (.change 1 up.quay[1].core 7))).ih.from_ = ⟨[], [.changeAck 1]⟩ ∧
    (run .ihChangeAck (sent .b (.changeAck 1))).ih.changes = [] ∧ (run .ihKstate (sent .a (.kstate 1))).hm.synced[1] = true := by decide +kernel
theorem test_alive : (run (.ihAliveSend .b) up).ih.from_ = ⟨[], [.alive]⟩ ∧ (run (.ihAliveSend .b) up).ih.unacked = ⟨[], [1000000000]⟩ ∧
    (run .ihAck (run (.ihAliveSend .b) up)).ih.from_ = ⟨[], []⟩ ∧ (run .ihAck (run (.ihAliveSend .b) up)).ih.unacked = ⟨[], []⟩ := by decide +kernel
/-- A change of Q1 that half B has not acknowledged since a tick. -/
def unheard (at_ : Nat) : State :=
  { up with ih := { up.ih with unacked := ⟨[at_], []⟩, changes := [(1, at_)] }, hm := { up.hm with admission := Vector.replicate 12 true } }
theorem test_link : halfLinkTimeout up .a = 100 ∧ (run .halfLink (unheard 999360000)).hm.admission[1] = false ∧
    (run .halfLink (unheard 999360000)).hm.admission[0] = true ∧ (run .halfLink (unheard 999360000)).flt.transit.map (·.src) = [srcHalfLink] ∧
    (run .halfLink (unheard 999360000)).ih.from_.a = [.kstate 1] ∧ (run .halfLink (unheard 999360001)).ih.linkDown = false := by decide +kernel
/-- A device with force pins. -/
def forced (f : Pair Bool) (ad : Bool) : State :=
  { up with prot := { up.prot with hmForce := true }, hm := { up.hm with force := f, admission := Vector.replicate 12 ad } }
theorem test_force : (run (.mforceAssert .b) (forced ⟨false, false⟩ true)).hm.grant = some .b ∧ (run (.mforceAssert .b) (forced ⟨false, false⟩ true)).hm.failovers = 1 ∧
    (run (.mforceAssert .b) (forced ⟨false, false⟩ false)).hm.grant = some .a ∧ (run (.mforceAssert .b) (forced ⟨false, false⟩ false)).hm.forcePend = true ∧
    (run (.mforceAssert .b) (forced ⟨true, false⟩ true)).flt.transit.map (·.src) = [srcForceConflict] ∧
    (run (.mforceRelease .a) (forced ⟨true, false⟩ true)).hm.force = ⟨false, false⟩ := by decide +kernel
theorem test_no_force : (run (.mforceAssert .b) up).hm.force = ⟨false, true⟩ ∧ (run (.mforceAssert .b) up).hm.grant = some .a ∧
    (run (.mforceRelease .b) (run (.mforceAssert .b) up)).hm.force = ⟨false, false⟩ := by decide +kernel
/-- DISARM of Q1 through port B, forwarded to half A. -/
def fwd : Msg := { message 0x21 4 0x2001 [] with port := .b }
def forwarded (g : Option Side) : State := { up with hm := { up.hm with grant := g }, ih := { up.ih with from_ := ⟨[], [.forward fwd [] 7]⟩, waiting := [(fwd, 360000000)] } }
theorem test_forward : (run .ihForward (forwarded (some .a))).ih.from_.a.length = 1 ∧ (run .ihForward (forwarded none)).ih.from_ = ⟨[], []⟩ ∧
    (run .ihForwardReply (run .ihForward (forwarded (some .a)))).ih.waiting = [] ∧
    (run .ihForwardReply (run .ihForward (forwarded (some .a)))).port.b.done = 16 ∧ (run .forwardTimeout (forwarded none)).port.b.done = 16 ∧
    hostFwdTimeout up .b = 2000 := by decide +kernel

/-! ### Requests of classes 1 to 3 -/

/-- The request passes the checks that every command has, through port A. -/
def ok (s : State) (o : Byte) (m : MbxNo) (target : U16) (payload : List Byte) : Bool :=
  let r := request o m target payload
  let u := s.rung o .a m r
  let x := u.readRequest .a m
  decide (4 ≤ m.val) && s.half.a.run && s.isReady && s.port.a.busy &&& mbxBit m == 0 && x.msg == message o m target payload && x.crcOk &&
    u.keptReply x.msg == none && !u.mustWait x.msg && u.checkRequest x == none
theorem ok_passes {s : State} {o : Byte} {m : MbxNo} {target : U16} {payload : List Byte} (h : ok s o m target payload = true) :
    Passes s o .a m (request o m target payload) (message o m target payload) := by
  simp only [ok, Bool.and_eq_true, beq_iff_eq, decide_eq_true_eq, Bool.not_eq_true'] at h
  obtain ⟨⟨⟨⟨⟨⟨⟨⟨h1, h2⟩, h3⟩, h4⟩, h5⟩, h6⟩, h7⟩, h8⟩, h9⟩ := h
  exact ⟨⟨h1, h2, h3, h4⟩, h5, h6, rfl, h5 ▸ h7, h5 ▸ h8, h9⟩
/-- Status and low byte of the advice in the reply buffer of a mailbox of port A. -/
def reply (t : State) (m : MbxNo) : Byte × Byte := (readCell 0 t.port.a.mbx[m].rep 8, readCell 0 t.port.a.mbx[m].rep 10)
/-- The result data there. -/
def data (t : State) (m : MbxNo) (n : Nat) : List Byte := readCells 0 t.port.a.mbx[m].rep 12 n
/-- The device with its local and remote legs available, its VM known, and Q0 in an axis state. -/
def fit (st : AxisState) : State :=
  { upSt st with
    pins := free, supply := { up.supply with vm := #v[48000, 48000] }
    lane := (up.lane.set 0 { up.lane[0] with st := .attached, legs := 3 }).set 16 { up.lane[16] with st := .attached, legs := 8 } }

theorem test_read_back : (request 0x26 5 0x2000 [1, 2]).payload.length = 2 ∧ (request 0x26 5 0x2000 [1, 2]).trailer.length = trailerLen (mbxClass 5) ∧
    ((up.rung 0x26 .a 5 (request 0x26 5 0x2000 [1, 2])).readRequest .a 5).msg = message 0x26 5 0x2000 [1, 2] ∧
    ((up.rung 0x26 .a 5 (request 0x26 5 0x2000 [1, 2])).readRequest .a 5).crcOk = true ∧
    ((up.rung 0x26 .a 5 { request 0x26 5 0x2000 [1, 2] with trailer := [0, 0, 0, 0] }).readRequest .a 5).crcOk = false := by decide +kernel
theorem test_doorbell : let r := request 0x21 4 0x2000 []
    (run (.disarm .a 4 r) { up with half := ⟨{}, up.half.b⟩ }).port.a.spiErr = 0x20 ∧
    (run (.disarm .a 4 r) { up with port := ⟨{ up.port.a with busy := 16 }, up.port.b⟩ }).port.a.spiErr = 0x18 ∧
    reply (run (.disarm .a 4 { r with trailer := [0, 0, 0, 0] }) up) 4 = (stCrc, 0) ∧
    reply (run (.disarm .a 4 (request 0x21 4 0x3000 [])) up) 4 = (stRange, 0) := by decide +kernel
/-- RETRY: DISARM in OFF is done; the repetition is answered with the kept reply and does nothing to the quay that is now in ARMED. -/
theorem test_retry_kept : let r := request 0x21 4 0x2000 []
    let t := { run (.disarm .a 4 r) up with quay := (upSt .armed).quay }
    let b : Req := { r with byte0 := 0x44, trailer := trailer 1 ([0x44, 0x21] ++ leBytes 2 7 ++ leBytes 2 0x2000 ++ leBytes 2 0) }
    reply (run (.disarm .a 4 r) up) 4 = (stDone, 0) ∧ reply (run (.disarm .a 4 b) t) 4 = (stDone, 0) ∧
    (run (.disarm .a 4 b) t).quay[0].core.st = .armed ∧ (run (.disarm .a 4 r) t).quay[0].core.st = .off := by decide +kernel
theorem test_in_charge : ok { up with hm := { up.hm with grant := none } } 0x21 4 0x2000 [] = true ∧
    reply (run (.disarm .a 4 (request 0x21 4 0x2000 [])) { up with hm := { up.hm with grant := none } }) 4 = (stNotInCharge, 0) ∧
    (run (.disarm .a 4 (request 0x21 4 0x2000 [])) { up with hm := { up.hm with grant := some .b } }).ih.from_.a.length = 1 ∧
    (run (.disarm .a 4 (request 0x21 4 0x2000 [])) { up with hm := { up.hm with grant := some .b } }).port.a.busy = 16 := by decide +kernel

theorem test_arm : ok (fit .off) 0x20 4 0x2000 [] = true ∧ (fit .off).bollardHeld 0 = false ∧ ((fit .off).legsOf 0).all (fit .off).legAvailable = true ∧
    (run (.arm .a 4 (request 0x20 4 0x2000 [])) (fit .off)).quay[0].core.armOp.isSome = true ∧
    reply (run (.arm .a 4 (request 0x20 4 0x2000 [])) (fit .off)) 4 = (stAccepted, 0) := by decide +kernel
theorem test_arm_refused : reply (run (.arm .a 4 (request 0x20 4 0x2000 [])) (fit .running)) 4 = (stRefused, 0) ∧
    (run (.arm .a 4 (request 0x20 4 0x2000 [])) up).quay[0].core.armOp = none := by decide +kernel
theorem test_disarm : ok (fit .armed) 0x21 4 0x2000 [] = true ∧ (run (.disarm .a 4 (request 0x21 4 0x2000 [])) (fit .armed)).quay[0].core.st = .off ∧
    reply (run (.disarm .a 4 (request 0x21 4 0x2000 [])) (fit .armed)) 4 = (stDone, 0) := by decide +kernel
/-- START in speed mode at standstill, from HOLD in position mode, and at 0.05 of the base speed. -/
theorem test_start : ok (fit .armed) 0x22 4 0x2000 [1, 0, 0, 0x20] = true ∧ (fit .armed).turning 0 = false ∧ (fit .armed).modeAllowed 0 .speed = true ∧
    (run (.start .a 4 (request 0x22 4 0x2000 [1, 0, 0, 0x20])) (fit .armed)).quay[0].core.st = .running ∧
    (run (.start .a 4 (request 0x22 4 0x2000 [1, 0, 0, 0x20])) (fit .armed)).quay[0].core.mode = .speed ∧
    (run (.start .a 4 (request 0x22 4 0x2000 [1, 0, 0, 0x20])) (fit .armed)).quay[0].c0.speed = 0x2000 ∧
    (run (.start .a 4 (request 0x22 4 0x2000 [3, 0, 0, 0])) (fit .hold)).quay[0].core.mode = .position := by decide +kernel
theorem test_start_turning : let s := (fit .armed).modCell 0 (fun c => { c with speed := 100000 })
    s.turning 0 = true ∧ (run (.start .a 4 (request 0x22 4 0x2000 [1, 0, 0, 0x20])) s).quay[0].core.st = .catching ∧
    reply (run (.start .a 4 (request 0x22 4 0x2000 [1, 0, 0, 0x20])) s) 4 = (stAccepted, 0) := by decide +kernel
theorem test_stop : ok (fit .running) 0x23 4 0x2000 [] = true ∧ (run (.stop .a 4 (request 0x23 4 0x2000 [])) (fit .running)).quay[0].core.st = .stopping ∧
    (run (.stop .a 4 (request 0x23 4 0x2000 [])) (fit .running)).quay[0].core.stop = .ramp ∧
    (run (.stop .a 4 (request 0x23 4 0x2000 [])) (fit .armed)).quay[0].core.st = .off ∧
    (run (.stop .a 4 (request 0x23 4 0x2000 [])) (fit .faulted)).quay[0].core.st = .faulted ∧
    (run (.stop .a 4 (request 0x23 4 0 [])) (fit .homing)).quay[0].core.st = .stopping := by decide +kernel
theorem test_quickstop : ok (fit .hold) 0x24 4 0 [] = true ∧ (run (.quickstop .a 4 (request 0x24 4 0x2000 [])) (fit .hold)).quay[0].core.stop = .quick ∧
    (run (.quickstop .a 4 (request 0x24 4 0 [])) (fit .catching)).quay[0].core.st = .off ∧
    (run (.quickstop .a 4 (request 0x24 4 0 [])) (fit .hold)).quay[0].core.stop = .quick := by decide +kernel
theorem test_hold : ok (fit .running) 0x25 4 0x2000 [] = true ∧ (fit .running).noFeedback 0 = false ∧
    (run (.hold .a 4 (request 0x25 4 0x2000 [])) (fit .running)).quay[0].core.st = .hold ∧
    (run (.hold .a 4 (request 0x25 4 0x2000 [])) (fit .running)).quay[0].core.stop = .ramp ∧
    (run (.hold .a 4 (request 0x25 4 0x2000 [])) (fit .armed)).quay[0].core.stop = .none := by decide +kernel
/-- Q0 in FAULTED after GATE_WATCH, its record 0 open. -/
def broken : State := { run .faultOrdered (staged srcGateWatch) with pins := free }
theorem test_ack : ok broken 0x2D 4 0x2000 [] = true ∧ broken.quay[0].core.st = .faulted ∧ broken.ackBlocked 0 = false ∧
    (run (.ackFault .a 4 (request 0x2D 4 0x2000 [])) broken).quay[0].core.st = .off ∧
    (run (.ackFault .a 4 (request 0x2D 4 0x2000 [])) broken).flt.log.map (·.acked) = [true] ∧
    reply (run (.ackFault .a 4 (request 0x2D 4 0x2000 [])) broken) 4 = (0, 0) := by decide +kernel
/-- An enable pin that is still low blocks the acknowledgement of ENABLE_LOW. -/
theorem test_ack_blocked : let s := { run .faultOrdered (staged srcEnableLow) with pins := { free with enHigh := free.enHigh.set 0 false } }
    s.ackBlocked 0 = true ∧ reply (run (.ackFault .a 4 (request 0x2D 4 0x2000 [])) s) 4 = (stCause, 0) ∧
    data (run (.ackFault .a 4 (request 0x2D 4 0x2000 [])) s) 4 2 = [1, 0] ∧ (run (.ackFault .a 4 (request 0x2D 4 0 [])) broken).quay[0].core.st = .off := by
  decide +kernel

theorem test_move : ok (fit .hold) 0x26 4 0x2000 [0xE8, 3, 0, 0, 0, 0, 0, 0, 0, 0, 0, 0] = true ∧
    (run (.move .a 4 (request 0x26 4 0x2000 [0xE8, 3, 0, 0, 0, 0, 0, 0, 0, 0, 0, 0])) (fit .hold)).quay[0].core.motion.map (·.target) = some 1000 ∧
    (run (.move .a 4 (request 0x26 4 0x2000 [0xE8, 3, 0, 0, 0, 0, 0, 0, 0, 0, 0, 0])) (fit .hold)).quay[0].core.st = .running ∧
    reply (run (.move .a 4 (request 0x26 4 0x2000 [0xE8, 3, 0, 0, 0, 0, 0, 0, 0, 0, 0, 0])) (fit .hold)) 4 = (stAccepted, 0) := by decide +kernel
/-- 2 counts on from the highest position but one lie outside the signed 64-bit range, 1 count does not. -/
theorem test_move_range : let s := (fit .hold).modQuay 0 (fun x => { x with kern := { x.kern with gen := { x.kern.gen with pos := 9223372036854775806 } } })
    reply (run (.move .a 4 (request 0x26 4 0x2000 [2, 0, 0, 0, 0, 0, 0, 0, 1, 0, 0, 0])) s) 4 = (stRange, 0) ∧
    reply (run (.move .a 4 (request 0x26 4 0x2000 [1, 0, 0, 0, 0, 0, 0, 0, 1, 0, 0, 0])) s) 4 = (stAccepted, 0) := by decide +kernel
/-- Q0 by 100 counts and the pulse quay Q2 by -100. -/
def groupMove : List Byte := [2, 1, 0, 0, 0, 0, 0, 0, 0, 0, 0, 0, 100, 0, 0, 0, 0, 0, 0, 0, 2, 0, 0, 0, 0, 0, 0, 0, 156, 255, 255, 255, 255, 255, 255, 255]
theorem test_group : let s := (fit .hold).modQuay 2 (fun x => { x with core := { x.core with st := .hold } }) |>.setParam 0x202060 7
    ok s 0x27 4 0 groupMove = true ∧ groupAxes groupMove = [some (0, 100), some (2, -100)] ∧ s.judgeGroup true [] (groupAxes groupMove) = none ∧
    (run (.moveGroup .a 4 (request 0x27 4 0 groupMove)) s).groups.map (·.axes) = [[(0, 0, 100), (2, 0, -100)]] ∧
    (run (.moveGroup .a 4 (request 0x27 4 0 groupMove)) s).quay[2].core.st = .running ∧
    (run (.moveGroup .a 4 (request 0x27 4 0 groupMove)) (s.modQuay 2 (fun x => { x with core := { x.core with st := .off } }))).groups = [] := by decide +kernel
theorem test_jog : ok (fit .hold) 0x28 4 0x2000 [0, 0x20, 0, 0] = true ∧
    (run (.jog .a 4 (request 0x28 4 0x2000 [0, 0x20, 0, 0])) (fit .hold)).quay[0].core.motion.map (·.jog) = some (some (1 / 2)) ∧
    reply (run (.jog .a 4 (request 0x28 4 0x2000 [0, 0x20, 0, 0])) (fit .hold)) 4 = (stDone, 0) := by decide +kernel
theorem test_home : let s := (fit .armed).setParam (quayAddr 0 0x33) 1
    ok s 0x29 4 0x2000 [1, 0, 0, 0, 10, 0, 0, 0, 0, 0, 0, 0] = true ∧ s.methodAllowed 0 1 = true ∧
    (run (.home .a 4 (request 0x29 4 0x2000 [1, 0, 0, 0, 10, 0, 0, 0, 0, 0, 0, 0])) s).quay[0].core.homing.map (fun h => (h.method, h.homePos)) = some (1, 10) ∧
    (run (.home .a 4 (request 0x29 4 0x2000 [1, 0, 0, 0, 10, 0, 0, 0, 0, 0, 0, 0])) s).quay[0].core.st = .homing := by decide +kernel

/-- `quay.profile_speed` of Q0 and a fuse of the protection set. -/
theorem test_param_read : ok up 0x40 12 0 [2, 0, 0, 0, 0x40, 0, 0x20, 0, 0xFF, 0x0F, 0x20, 0] = true ∧
    data (run (.paramRead .a 12 (request 0x40 12 0 [2, 0, 0, 0, 0x40, 0, 0x20, 0, 0xFF, 0x0F, 0x20, 0])) up) 12 20 =
      [2, 0, 0, 0, 0, 0, 0x80, 0, 0, 0, 0, 0, 2, 0, 0, 0, 0, 0, 0, 0] := by decide +kernel
theorem test_stage : ok up 0x41 12 0 [1, 0, 0, 0, 0x40, 0, 0x20, 0, 0, 0, 0x40, 0] = true ∧
    (run (.paramStage .a 12 (request 0x41 12 0 [1, 0, 0, 0, 0x40, 0, 0x20, 0, 0, 0, 0x40, 0])) up).port.a.staging = [(0x200040, 0x400000)] ∧
    data (run (.paramStage .a 12 (request 0x41 12 0 [1, 0, 0, 0, 0x40, 0, 0x20, 0, 0, 0, 0x40, 0])) up) 12 2 = [1, 0] := by decide +kernel
/-- Port A with a staging area. -/
def staging (es : List (Word × Word)) : State := { up with port := ⟨{ up.port.a with staging := es }, up.port.b⟩ }
theorem test_stage_full : let b : List Byte := [1, 0, 0, 0, 0x40, 0, 0x20, 0, 0, 0, 0x40, 0]
    reply (run (.paramStage .a 12 (request 0x41 12 0 b)) (staging (List.replicate 256 (0, 0)))) 12 = (stRange, 10) ∧
    reply (run (.paramStage .a 12 (request 0x41 12 0 b)) (staging (List.replicate 255 (0, 0)))) 12 = (stDone, 0) ∧
    (run (.stageClear .a 12 (request 0x43 12 0 [])) (staging [(1, 2)])).port.a.staging = [] ∧ ok (staging [(1, 2)]) 0x43 12 0 [] = true := by decide +kernel
theorem test_info : ok up 0x44 12 0 [0x40, 0, 0x20, 0] = true ∧ reply (run (.paramInfo .a 12 (request 0x44 12 0 [0x40, 0, 0x20, 0])) up) 12 = (stDone, 0) := by
  decide +kernel
theorem test_commit : ok (staging [(0x200040, 0x400000)]) 0x42 12 0 [] = true ∧
    (run (.commit .a 12 (request 0x42 12 0 [])) (staging [(0x200040, 0x400000)])).boot.commitCount = 1 := by decide +kernel
/-- `quay.machine` lies in the protection set. -/
theorem test_commit_sealed : reply (run (.commit .a 12 (request 0x42 12 0 [])) (staging [(0x200060, 2)])) 12 = (stSealed, 0) ∧
    (run (.commit .a 12 (request 0x42 12 0 [])) (staging [(0x200060, 2)])).params = up.params ∧
    (run (.commit .a 12 (request 0x42 12 0 [])) (staging [(0x200060, 2)])).flt.transit.map (·.src) = [srcSealWrite, srcConfigRefused] := by decide +kernel
theorem test_set_speed : ok up 0x2A 4 0x2000 [0, 0, 0x40, 0] = true ∧
    quayProfileSpeed (run (.setSpeed .a 4 (request 0x2A 4 0x2000 [0, 0, 0x40, 0])) up) 0 = 1 / 4 := by decide +kernel
theorem test_set_range : reply (run (.setSpeed .a 4 (request 0x2A 4 0x2000 [0, 0, 0, 0x80])) up) 4 = (stRange, 0) ∧
    ok up 0x2B 4 0x2000 [0, 0, 0x80, 0, 0, 0, 0x40, 0] = true ∧ ok up 0x2C 4 0x2000 [0, 0x40, 0, 0x20] = true ∧
    reply (run (.setAccel .a 4 (request 0x2B 4 0x2000 [0, 0, 0, 0x80, 0, 0, 0x40, 0])) up) 4 = (stRange, 0) ∧
    reply (run (.setTorqueLimit .a 4 (request 0x2C 4 0x2000 [0, 0x40, 0xFF, 0xFF])) up) 4 = (stRange, 0) := by decide +kernel

/-- The pool holds trace region 3 and more. Region 3: one signal (the mirror word 0xB000), no period or 10,000 ticks. -/
def desc (period : List Byte) : List Byte := [3, 0, 1, 0, 0, 0, 0, 0] ++ period ++ [0, 0, 0, 0, 0, 0xB0, 0, 0x80]
def pooled (more : List Ownership) : State := { up with prot := { up.prot with owners := ⟨0x13, 3, .pool, 0⟩ :: more ++ up.prot.owners } }
theorem test_trace_config : ok (pooled []) 0x48 12 0 (desc [0, 0, 0, 0]) = true ∧ (pooled []).claimable [] (.trace 3) 0x13 3 = true ∧
    (run (.traceConfig .a 12 (request 0x48 12 0 (desc [0, 0, 0, 0]))) (pooled [])).claims = [⟨0x13, 3, .trace 3⟩] ∧
    reply (run (.traceConfig .a 12 (request 0x48 12 0 (desc [0x10, 0x27, 0, 0]))) (pooled [])) 12 = (stOwnership, 0) := by decide +kernel
theorem test_trace_slot : (run (.traceConfig .a 12 (request 0x48 12 0 (desc [0x10, 0x27, 0, 0]))) (pooled [⟨0x10, 9, .pool, 0⟩])).trace[3].slot = some 9 ∧
    (run (.traceConfig .a 12 (request 0x48 12 0 (desc [0x10, 0x27, 0, 0]))) (pooled [⟨0x10, 9, .pool, 0⟩])).tb.slots.map (·.period) = [10000] := by
  decide +kernel
/-- Region 3 with its descriptor and two records. -/
def tracing : State :=
  { up with trace := up.trace.set 3 { desc := some (traceDesc (desc [0, 0, 0, 0])), recs := [⟨7, [1]⟩, ⟨8, [2]⟩] }, claims := [⟨0x13, 3, .trace 3⟩] }
theorem test_trace_arm : ok tracing 0x49 12 0 [3, 0, 0, 0] = true ∧ (run (.traceArm .a 12 (request 0x49 12 0 [3, 0, 0, 0])) tracing).trace[3].armed = true ∧
    (run (.traceArm .a 12 (request 0x49 12 0 [3, 0, 0, 0])) tracing).trace[3].recs = [] ∧
    (run (.traceArm .a 12 (request 0x49 12 0 [3, 0, 0, 0])) tracing).trace[3].triggered = true := by decide +kernel
theorem test_trace_stop : ok tracing 0x4A 12 0 [3, 0, 0, 0] = true ∧ data (run (.traceStop .a 12 (request 0x4A 12 0 [3, 0, 0, 0])) tracing) 12 4 = [24, 0, 0, 0] ∧
    (run (.traceStop .a 12 (request 0x4A 12 0 [3, 0, 0, 0])) tracing).trace[3].stopped = true := by decide +kernel
theorem test_trace_read : ok tracing 0x60 24 0 [3, 0, 0, 0, 8, 0, 0, 0, 4, 0] = true ∧
    data (run (.traceRead .a 24 (request 0x60 24 0 [3, 0, 0, 0, 8, 0, 0, 0, 4, 0])) tracing) 24 8 = [8, 0, 0, 0, 1, 0, 0, 0] := by decide +kernel

theorem test_detach : ok (fit .off) 0x2E 4 0x5000 [] = true ∧ (run (.detach .a 4 (request 0x2E 4 0x5000 [])) (fit .off)).lane[0].st = .detached ∧
    (run (.detach .a 4 (request 0x2E 4 0x5000 [])) (fit .off)).lane[0].tx = [.bye] ∧
    reply (run (.detach .a 4 (request 0x2E 4 0x5000 [])) ((fit .off).modQuay 1 (fun x => { x with core := { x.core with st := .armed } }))) 4 = (stRefused, 12) := by
  decide +kernel
theorem test_attach : ok up 0x2F 4 0x5003 [] = true ∧ (run (.attach .a 4 (request 0x2F 4 0x5003 [])) (laned 3 (fun x => { x with st := .detached }))).lane[3].st = .down ∧
    reply (run (.attach .a 4 (request 0x2F 4 0x5003 [])) (laned 3 (fun x => { x with st := .detached }))) 4 = (stAccepted, 0) ∧
    (run (.attach .a 4 (request 0x2F 4 0x5003 [])) (laned 3 (fun x => { x with st := .quarantined }))).lane[3].tx = [.identReq] ∧
    reply (run (.attach .a 4 (request 0x2F 4 0x5003 [])) (laned 3 (fun x => { x with st := .attached }))) 4 = (stDone, 0) := by decide +kernel
/-- Two bytes at offset 16 of slot 1, the device booted from slot 0. -/
theorem test_flash : ok up 0x61 24 0 [1, 0, 0, 0, 16, 0, 0, 0, 0xAB, 0xCD] = true ∧
    readCell erased (run (.flashWrite .a 24 (request 0x61 24 0 [1, 0, 0, 0, 16, 0, 0, 0, 0xAB, 0xCD])) up).flash (slotBase true + 17) = 0xCD ∧
    reply (run (.flashWrite .a 24 (request 0x61 24 0 [0, 0, 0, 0, 16, 0, 0, 0, 0xAB, 0xCD])) up) 24 = (stRefused, 13) := by decide +kernel

/-! ### Class 0 and registers -/

/-- A class-0 message with its CRC right. -/
def msg0 (o : Byte) (target a b : U16) : C0Msg :=
  let m : C0Msg := { byte0 := 0, seq := 7, target := target, length := 6, valA := a, valB := b, valC := 0, crc := 0 }
  { m with crc := crc16 ((c0Bytes o m).take 14) }
/-- The acceptance table of Q0 answers every opcode so. -/
def judged (j : C0Judge) : State := upQ 0 (fun x => { x with c0 := { x.c0 with jSet := j, jStop := j, jQuick := j, jRelease := j, ff := 5 } })
theorem test_c0_drop : let s := { up with boot := { up.boot with stage := .imageRead, sealed := false } }
    s.portsDead = false ∧ (run (.setTorque .a 0 (msg0 0 0x2000 1 2)) s).boot.c0Drop = 1 ∧
    (run (.setTorque .a 0 (msg0 0 0x2000 1 2)) { s with boot := { s.boot with c0Drop := 0xFFFF } }).boot.c0Drop = 0xFFFF ∧
    (run (.setTorque .a 0 (msg0 0 0x2000 1 2)) s).port.a.c0Refused = 0 := by decide +kernel
/-- Opcodes, targets and buffers of the seven commands. -/
theorem test_c0_set : c0Command (.setTorque .a 0 (msg0 0x01 0x2000 9 8)) = some (0x01, .a, 0, msg0 0x01 0x2000 9 8) ∧
    (run (.setTorque .a 0 (msg0 0x01 0x2000 9 8)) (judged .accept)).quay[0].c0.torque = 9 ∧
    (run (.c0SetSpeed .a 0 (msg0 0x02 0x2000 9 8)) (judged .accept)).quay[0].c0.speed = 9 ∧
    (run (.c0SetSpeed .a 0 (msg0 0x02 0x2000 9 8)) (judged .accept)).quay[0].c0.ff = 0 ∧
    (run (.setTension .a 0 (msg0 0x03 0x2000 9 8)) (judged .accept)).quay[0].c0.tension = 9 ∧
    (run (.setSpeedTorque .a 0 (msg0 0x04 0x2000 9 8)) (judged .accept)).quay[0].c0.ff = 8 := by decide +kernel
theorem test_c0_stop : (run (.c0Quickstop .a 0 (msg0 0x10 0x2000 0 0)) (judged .accept)).quay[0].c0.quick = true ∧
    (run (.c0Stop .a 0 (msg0 0x11 0x2000 0 0)) (judged .accept)).quay[0].c0.stop = true ∧
    (run (.quickRelease .a 0 (msg0 0x12 0x2000 0 0)) (judged .accept)).quay[0].c0.release = true ∧
    (run (.c0Stop .a 0 (msg0 0x11 0x2000 0 0)) (judged .done)).quay[0].c0.stop = false ∧
    (run (.c0Stop .a 0 (msg0 0x11 0x2000 0 0)) (judged .done)).port.a.c0Accepted = 1 ∧
    (run (.c0Stop .a 0 (msg0 0x11 0x2000 0 0)) (judged .refuse)).port.a.c0Refused = 1 := by decide +kernel
theorem test_c0_refused : reply (run (.c0Stop .a 0 { msg0 0x11 0x2000 0 0 with crc := 0 }) (judged .accept)) 0 = (stCrc, 0) ∧
    reply (run (.c0Stop .a 0 (msg0 0x11 0x2000 0 0)) ((judged .accept).setParam (hostAddr .a 3) 0)) 0 = (stDisabled, 0) ∧
    reply (run (.c0Stop .a 0 (msg0 0x11 0x3000 0 0)) (judged .accept)) 0 = (stRange, 0) ∧
    reply (run (.c0Stop .a 0 (msg0 0x11 0x2000 0 0)) (judged .refuse)) 0 = (stRefused, 0) := by decide +kernel
theorem test_c0_length : let m : C0Msg := { byte0 := 0, seq := 7, target := 0x2000, length := 4, valA := 0, valB := 0, valC := 0, crc := 0 }
    reply (run (.c0Stop .a 0 { m with crc := crc16 ((c0Bytes 0x11 m).take 14) }) (judged .accept)) 0 = (stRange, 0) := by decide +kernel
theorem test_c0_frame : (run (.c0Frame .a 0) up).port.a.spiErr = 4 ∧ (run (.c0Frame .a 0) up).port.a.c0Refused = 1 := by decide +kernel
/-- Device time 2 × 2³² + 5; capture 4 likewise. -/
def late : State := { up with tb := { up.tb with now := 8589934597, cap := up.tb.cap.set 4 { up.tb.cap[4] with time := 8589934597 } } }
theorem test_low_words : (run (.devtimeLoRead .b) late).tb.devHi = ⟨0, 2⟩ ∧ (run (.capTimeLoRead .b 4) late).tb.capHi.b[4] = 2 ∧
    (run (.capTimeLoRead .b 4) late).tb.capHi.a[4] = 0 := by decide +kernel
/-- Tail 14, head 1: three entries wait. -/
def queued : State := { up with port := ⟨{ up.port.a with evqTail := 14, evqHead := 1 }, up.port.b⟩ }
theorem test_tail : (run (.evqTailWrite .a 1) queued).port.a.evqTail = 1 ∧ (run (.evqTailWrite .a 15) queued).port.a.evqTail = 15 ∧
    (run (.evqTailWrite .a 2) queued).port.a.evqTail = 14 ∧ (run (.evqTailWrite .a 13) queued).port.a.evqTail = 14 := by decide +kernel
theorem test_err_hold : (run (.errPinHoldWrite .a true) up).flt.errHold = true ∧ (run (.errPinHoldWrite .a false) (run (.errPinHoldWrite .a true) up)).flt.errHold = false := by
  decide +kernel
theorem test_write : let s := { up with port := ⟨{ up.port.a with done := 0x30, spiErr := 0x21 }, up.port.b⟩, supply := { up.supply with cause := 0x11 } }
    (run (.registerWrite .a ⟨0x00, 0x0404⟩ [0x10, 0, 0, 0] false) s).port.a.done = 0x20 ∧ (run (.registerWrite .a ⟨0x00, 0x041C⟩ [1, 0, 0, 0] false) s).port.a.spiErr = 0x20 ∧
    (run (.registerWrite .a ⟨0x00, 0x0164⟩ [1, 0, 0, 0] false) s).supply.cause = 0x10 ∧ (run (.registerWrite .a ⟨0x00, 0x0404⟩ [0x10] false) s).port.a.spiErr = 0x21 ∧
    (run (.registerWrite .a ⟨0x00, 0x0404⟩ [0x10] false) s).port.a.done = 0x30 := by decide +kernel
theorem test_write_nothing : (run (.registerWrite .a ⟨0x00, 0x0000⟩ [1, 2, 3, 4] false) up).port = up.port ∧ (run (.registerWrite .a ⟨0x00, 0xFFFC⟩ [1, 2, 3, 4] false) up).port = up.port ∧
    (run (.registerWrite .a ⟨0x00, 0x0000⟩ [1] false) up).port.a.spiErr = 1 := by decide +kernel

/-! ### Further clauses of the statements, each at a state that meets it -/

/-- Device time corrected by some ticks at 2,000 parts in 10 million, the fraction at its last tick before the correction. -/
def slewed (left : Int) (acc : Nat) : State :=
  { up with tb := { up.tb with slewing := true, slewRate := if 0 < left then 2000 else -2000, slewLeft := left, slewAcc := acc } }
/-- The time base of the next tick. -/
def ticked (s : State) : Nat × Int × Bool := match step s with
  | .next t => (t.tb.now, t.tb.slewLeft, t.tb.slewing)
  | _ => (0, 0, false)
theorem test_slew_tick : ticked (slewed 2 10000000) = (1000000001, 1, true) ∧ ticked (slewed 1 10000000) = (1000000001, 0, false) ∧
    ticked (slewed (-1) 9998000) = (1000000000, 0, false) ∧ ticked (slewed (-2) 9998000) = (1000000000, -1, true) ∧
    ticked (slewed 2 9999999) = (1000000001, 2, true) ∧ ticked (slewed 0 7) = (1000000001, 0, true) := by decide +kernel
theorem test_last_tick : ticked { up with tb := { up.tb with now := lastTime } } = (lastTime, 0, false) ∧ ticked { up with tb := { up.tb with lock := false } } = (1000000000, 0, false) ∧
    up.tb.now = 1000000000 ∧ up.tb.lock = true ∧ up.pending = [] ∧ (1000000000 : Nat) < lastTime := by decide +kernel
theorem test_debug_ready : let s := { discovering with boot := { discovering.boot with debugPolicy := 3 } }
    (run .discoveryEnd s).boot.debugOpen = true ∧ (run .discoveryEnd s).boot.boundVoid = true ∧ (run .discoveryEnd s).port.b.irqBound = true ∧
    (run .discoveryEnd s).flt.transit.map (·.src) = [srcDebugOpen] := by decide +kernel
/-- A roster partner on G3 is still awaited within the discovery window. -/
theorem test_discovery_waits : let s := { discovering with prot := { up.prot with roster := [⟨3, 2, 5, 2, 0, 0⟩] }
                                                           boot := { discovering.boot with step10At := 1000000000 } }
    s.allMatched = false ∧ s.now < s.boot.step10At + 6400 * devDiscoveryWindow s ∧ (run .discoveryEnd s).boot.stage = .discovery := by decide +kernel
/-- Without pre-driver dies. -/
def bare : State := { up with fuse := { pkgC0 := true } }
theorem test_c0_package : bare.hasDies = false ∧ (window 20000 250 bare).thm.temp[16] = bare.thm.temp[16] ∧ (window 20000 250 bare).thm.temp[15] = some 250 ∧
    (run (.supplyWarning (.vgd 0) .high 14000) bare).flt.transit = [] ∧ (run (.supplyWarning (.vgd 0) .high 14000) bare).supply = bare.supply ∧
    (run (.vgdHold 0) bare).supply.vgdHold = bare.supply.vgdHold ∧ (run (.bootUv 1) bare).leg[1].uvlo = false ∧
    (run (.shortCircuit 1 .absolute 30000) bare).leg[1].latch = none ∧ (run (.gateWatch 1 .low) bare).leg[1].abandoned = false := by decide +kernel

/-- L1 has missed its command before; CMD_LATE reacts with pulse block. -/
theorem test_second_miss : let s := { enabled with leg := enabled.leg.set 1 { enabled.leg[1] with missed := 1 } }
    s.lateReaction 0 = some .off ∧ (run (.updatePoint 0) s).leg[1].react = some .off ∧ (run (.updatePoint 0) s).leg[1].missed = 2 := by decide +kernel
/-- The shadow of Q0 is synchronised; its first standby command admits it. -/
theorem test_admits : let s := { up with hm := { up.hm with synced := up.hm.synced.set 0 true } }
    (run (.legCommandArrival 0 .b .shadow (.given ⟨.holdLow, none, none⟩)) s).hm.admission[0] = true ∧
    (run (.legCommandArrival 0 .b .shadow (.given ⟨.holdLow, none, none⟩)) s).leg[0].standby = some ⟨.holdLow, none, none⟩ ∧
    (run (.legCommandArrival 0 .a .shadow (.given ⟨.holdLow, none, none⟩)) s).half.a.mismatch = 1 ∧
    (run (.legCommandArrival 0 .a .shadow (.given ⟨.holdLow, none, none⟩)) s).leg[0].active = some ⟨.holdLow, none, none⟩ ∧
    (run (.legCommandArrival 0 .b .active (.given ⟨.holdLow, none, none⟩)) up).half.b.mismatch = 1 ∧
    (run (.legCommandArrival 0 .b .shadow (.given ⟨.holdLow, none, none⟩)) { up with half := ⟨up.half.a, {}⟩ }).leg[0].discards = 1 := by decide +kernel
/-- L5 belongs to no quay. -/
theorem test_no_quay : up.legQuay 5 = none ∧ (run (.gateWatch 5 .high) up).leg[5].abandoned = true ∧ (run (.gateWatch 5 .high) up).flt.transit = [] ∧
    (run (.gateWatch 5 .high) up).leg[5].suspect = up.leg[5].suspect ∧ (run (.bootUv 5) up).leg[5].uvlo = true ∧ (run (.bootUv 5) up).flt.transit = [] ∧
    (run (.shortCircuit 5 .absolute 30000) up).leg[5].latch = some .off ∧ (run (.shortCircuit 5 .absolute 30000) up).flt.transit = [] ∧
    (run (.legCommandArrival 5 .a .active (.given ⟨.holdLow, none, none⟩)) up).leg[5].active = none := by decide +kernel

theorem test_levels_only : let early := { up with boot := { up.boot with stage := .imageRead } }
    early.afterStep10 = false ∧ (run (.fbEdge 0 true false) early).cell[0].a = true ∧ (run (.fbEdge 0 true false) early).cell[0].pos = 0 ∧
    (run (.hallChange 0 3) up).cell[0].hall = 3 ∧ (run (.hallChange 0 3) up).cell[0].lastHall = none ∧
    (run (.fbEdge 0 true false) sine).cell[0].a = false ∧ up.cellUsed 5 = false ∧ (run (.fbEdge 5 true false) (cfg up [(cellAddr 5 0, 1)])).cell[5].a = true ∧
    (run (.fbEdge 5 true false) (cfg up [(cellAddr 5 0, 1)])).cell[5].pos = 0 := by decide +kernel
/-- A filter of 40 samples rejects a level that lasted less. -/
theorem test_filter : let s := run (.fbEdge 0 true false) (celled [(cellAddr 0 4, 40)] id)
    s.linesAccept 0 [(0, true), (1, false)] = false ∧ (run (.fbEdge 0 false false) s).cell[0].pos = s.cell[0].pos ∧
    (run (.fbEdge 0 false false) s).cell[0].a = true := by decide +kernel
theorem test_index_illegal : let s := (indexed (some 10) 77).modCell 0 (fun c => { c with illegalHere := true })
    (run (.indexLatch 0) s).cell[0].indexLatch = 77 ∧ (run (.indexLatch 0) s).cell[0].indexDev = 0 ∧
    (run (.indexLatch 0) { s with boot := { s.boot with stage := .imageRead } }).cell[0].indexLatch = 0 ∧
    (run (.indexLatch 0) (s.setParam (cellAddr 0 7) 5)).cell[0].indexLatch = 0 := by decide +kernel
/-- Wrong parity, a line that stays high after the frame, a step beyond the limit, and a line high throughout. -/
theorem test_ssi_causes : let sub (t : State) : List (Nat × Byte) := t.flt.transit.map (fun e => (e.src, e.ctx.sub))
    let odd := (ssi (some 1)).setParam (cellAddr 0 0x14) 1
    sub (run (.ssiFrameEnd 0 ⟨true, 1, false, false⟩) odd) = [(srcSsiFrame, 2)] ∧
    sub (run (.ssiFrameEnd 0 ⟨true, 500, false, true⟩) (ssi (some 1))) = [(srcSsiFrame, 4)] ∧
    sub (run (.ssiFrameEnd 0 ⟨true, 500, false, false⟩) ((ssi (some 1)).setParam (cellAddr 0 0x16) 498)) = [(srcSsiFrame, 8)] ∧
    (run (.ssiFrameEnd 0 ⟨true, 0x1FFFFFF, true, true⟩) (ssi (some 1))).cell[0].wire = true ∧
    (run (.ssiFrameEnd 0 ⟨true, 0x1FFFFFF, true, true⟩) (ssi (some 1))).flt.transit.map (·.src) = [srcFbWire] := by decide +kernel

/-- The probe of Q0 waits for its SSI cell, or has an evaluation from its time on; on a quay without a cell it has the vector, or the step count. -/
def wired (s : State) : State := { s with prot := { s.prot with owners := s.prot.owners ++ [⟨6, 2, .quay 0, 0⟩] } }
theorem test_probe_waits : let s := wired ((probing false).setParam (cellAddr 0 0) 3)
    (run (.probeEdge 0 true) s).quay[0].probe.waiting = [(999999360, false)] ∧ (run (.probeEdge 0 true) s).quay[0].probe.captured = false ∧
    (run (.probeEdge 0 true) s).quay[0].probe.armed = false := by decide +kernel
/-- Q0 without its cell, as the machine of a kind. -/
def cellless (kind : Word) : State :=
  let s := wired ((probing false).setParam 0x200060 kind)
  { s with prot := { s.prot with owners := s.prot.owners.filter (fun e => e.cls != 2) } }
theorem test_probe_cellless : (cellless 6).primaryCell 0 = none ∧ (cellless 6).isStepper 0 = true ∧ (cellless 7).isPulse 0 = true ∧
    (run (.probeEdge 0 true) (cellless 6)).quay[0].probe.captured = true ∧ (run (.probeEdge 0 true) (cellless 6)).quay[0].probe.frac = 0 ∧
    (run (.probeEdge 0 true) (cellless 7)).quay[0].probe.captured = true ∧ (cellless 1).isStepper 0 = false ∧ (cellless 1).isPulse 0 = false ∧
    (run (.probeEdge 0 true) (cellless 1)).quay[0].probe.captured = true := by decide +kernel
/-- The sigma-delta value of the sample event of tick 7 reaches the open snapshot of that event, not one of another. -/
theorem test_sd_snapshot : let s (at_ : Nat) := modulated.modQuay 0 (fun x => { x with form := { x.form with isOpen := true, time := at_, missing := [.sd 4] } })
    (run (.sdValueReady 4 (List.replicate 46 true)) (s 7)).quay[0].form.missing = [] ∧
    (run (.sdValueReady 4 (List.replicate 46 true)) (s 7)).quay[0].form.sdv.lookup 4 = some 2 ∧
    (run (.sdValueReady 4 (List.replicate 46 true)) (s 8)).quay[0].form.missing = [.sd 4] ∧
    (run (.sdValueReady 4 (List.replicate 45 true)) (s 7)).sd[4].value = 0 := by decide +kernel

/-- Q0 and Q2 in a group motion; Q0 has arrived, Q2 is on its way. -/
theorem test_group_arrival : let s := (arriving.modQuay 2 (fun x => { x with core := { x.core with st := .running, mode := .position, motion := some { motion with target := 9000 }, motionOp := some op } }))
    let t := { s.setParam 0x202060 7 with groups := [⟨op, [(0, 0, 500), (2, 0, 9000)], false, 5, [], [], none⟩] }
    t.groupOfQuay 0 ≠ none ∧ t.axisDone ⟨op, [(0, 0, 500), (2, 0, 9000)], false, 5, [], [], none⟩ 2 = false ∧ (run (.moveArrival 0) t).quay[0].core.motion = some motion ∧ (run (.moveArrival 0) t).quay[0].kern.gen.inPos = true := by
  decide +kernel
/-- A light stepper at the seek of homing method 4, saturated for `quay.ibex_sat_time`. -/
theorem test_ibex_homing : let s := ((at1 .homing (fun c => { c with homing := some ⟨4, 100, 0, 0, 0, 0⟩ })
      (fun k => { k with reg := { k.reg with satSince := some 360000000 } })).setParam 0x201060 6)
    s.isStepper 1 = true ∧ (run (.ibexSaturationStall 1) s).quay[1].core.homing.map (·.phase) = some 2 ∧ (run (.ibexSaturationStall 1) s).flt.transit = [] := by
  decide +kernel
/-- Q1 of forward sense locked at a speed at the end of a window. -/
def locked (n : Rat) : State :=
  ((watching 1).modReg 1 (fun r => { r with lockRun := 1000, n := n })).modQuay 1 (fun x => { x with eff := { x.eff with sigma := 1 } })
/-- With lock a machine turning forward completes its catch, one turning backward is driven through zero. -/
theorem test_observe_locked : quayObsLossCount (locked 1) 1 ≤ 1000 ∧ (locked 1).machine 1 ≠ 5 ∧ quayCatchEmfMin (locked 1) 1 ≤ 1 ∧
    (run (.observeWindowEnd 1) (locked (1 / 2))).quay[1].core.st = .running ∧ backward (locked (1 / 2)).quay[1].eff.sigma (1 / 2) = false ∧
    (run (.observeWindowEnd 1) (locked (-1 / 2))).quay[1].kern.reg.catchPhase = 4 ∧
    (run (.observeWindowEnd 1) (locked (-1 / 2))).quay[1].core.st = .catching := by decide +kernel
/-- The same as a brushed DC machine, whose speed comes from its armature voltage. -/
theorem test_observe_brushed : let s := (locked 1).setParam 0x201060 5
    s.machine 1 = 5 ∧ s.quay[1].core.st = .catching ∧ s.quay[1].kern.reg.catchPhase = 1 ∧ quayPsiPm s 1 ≠ 0 ∧
    s.quay[1].kern.reg.windowAt + 6400 * quayCatchWindow s 1 ≤ s.now := by decide +kernel

/-- ATTACH waits on G3 for its bring-up. -/
def attaching (st : LaneState) : State := (identifying 1).modLane 3 (fun x => { x with st := st, attachOps := [op] })
theorem test_attach_ends : told (run (.gwIdent 3 ⟨0, 9, 5, 2, 0, 2, 1, 1⟩) (attaching .identifying)) = (stDone, 0) ∧
    told (run (.gwIdent 3 ⟨0, 9, 5, 3, 0, 2, 1, 1⟩) (attaching .identifying)) = (stRefused, 6) ∧
    told (run (.gwTrainFail 3) (attaching .identifying)) = (stRefused, 6) ∧ told (run (.gwTrainFail 3) (attaching .down)) = (stRefused, 6) ∧
    (run (.gwTrainFail 3) (attaching .down)).lane[3].attachOps = [] ∧ (run (.gwTrainFail 3) (attaching .down)).flt.transit = [] := by decide +kernel
/-- A code 9,216 of an internal link is 2,812.5 mA with gain 20 and 2 mΩ, 1,000 steps of voltage 6.25 V. -/
theorem test_status_internal : let s := ((upQ 0 (fun x => { x with form := { x.form with isOpen := true, missing := [.lane 16], time := 7 } })).modLane 16
      (fun x => { x with st := .attached, legs := 8 }))
    s.sampleMatches 16 7 = [0] → s.slotLeg 16 0 = some 0 →
    (run (.gwStatus 16 ⟨5, 7, true, true, 6000, [⟨0, true, false, false, false, false, 0, 9216, 1000, 0, 255⟩], none⟩) s).leg[0].current = some (5625 / 2) ∧
    (run (.gwStatus 16 ⟨5, 7, true, true, 6000, [⟨0, true, false, false, false, false, 0, 9216, 1000, 0, 255⟩], none⟩) s).leg[0].vphase = 6250 := by decide +kernel
theorem test_hw_loss_down : (run (.hwPortLoss .a) (ringed (pairs [800]) {} .alone)).hw.ports.a.rs = [] ∧
    (run (.hwPortLoss .a) (ringed (pairs [800]) {} .alone)).hw.windowAt = none ∧ (run (.hwBadFrame .a .crc) (ringed {} {} .alone)).flt.transit = [] ∧
    (run (.hwPing .a) { ringed {} {} .alone with boot := { up.boot with stage := .imageRead } }).hw.ports.a.tx = [] := by decide +kernel
/-- TIME of a device that is not the master goes on and corrects nothing. -/
theorem test_time_other : let s := { timed .off with hw := { (timed .off).hw with master := 5 } }
    (run (.hwTime .a (hdr 0x05040400 8) 999999950 30) s).tb.now = 1000000000 ∧ (run (.hwTime .a (hdr 0x05040400 8) 999999950 30) s).hw.ports.b.tx.length = 1 := by
  decide +kernel
/-- The end of 64 bits. -/
theorem test_time_ends : (run (.hwTime .a (hdr 0x05040400 8) 0xFFFFFFFFFFFFFFFF 0) { timed .off with hw := { (timed .off).hw with aligned := false } }).tb.now =
    18446744073709551615 := by decide +kernel

/-! #### Faults and halves -/

/-- A window whose time has passed waits for a fault that arrived within it. -/
theorem test_window_waits : let s (arrived : Nat) := { up with flt := { up.flt with
      conseq := [⟨4, 7, [0], false, 1000000000, 3⟩], stage := [⟨fault srcStall 0, arrived⟩] } }
    (run (.conseqWindowEnd 0) (s 1000000000)).flt.conseq.length = 1 ∧ (run (.conseqWindowEnd 0) (s 1000000001)).flt.conseq = [] := by decide +kernel
/-- ECC_HALF of half B reacts with a reset of that half. -/
theorem test_reset_half : let e : FaultEvent := { fault srcEccHalf 0 with scope := 0xE1, quays := [] }
    let s := { up with flt := { up.flt with stage := [⟨e, 999999872⟩] } }
    s.covering ⟨e, 999999872⟩ = none ∧ (s.faultEntry e).rBase = 8 ∧ (run .faultOrdered s).half.b.run = false ∧ (run .faultOrdered s).hm.grant = some .a ∧
    (run .faultOrdered s).flt.conseq.map (·.code) = [8] := by decide +kernel
/-- Two faults that coincide leave the stage together. -/
theorem test_coincide : let s := { upSt .running with flt := { up.flt with stage := [⟨fault srcGateWatch 0, 999999872⟩, ⟨fault srcBootUv 0, 999999900⟩] } }
    coincide 5 5 = true ∧ (run .faultOrdered s).flt.stage = [] ∧ (run .faultOrdered s).flt.total = 2 := by decide +kernel
/-- A suspicion against the high side opposes an active short of the high sides. -/
theorem test_opposed : let e : FaultEvent := { fault srcGateWatch 0 with suspect := 1 }
    let s := { (upSt .running).modQuay 0 (fun x => { x with react := some 5 }) with flt := { up.flt with stage := [⟨e, 999999872⟩] } }
    s.countedLevel e = 2 ∧ (run .faultOrdered s).quay[0].react = some 4 := by decide +kernel
/-- Half B has its self-test and patch, but is held. -/
theorem test_rejoin_not : (run (.halfRejoin .b) (half (fun x => { x with selfOk := true, patchOk := true, held := true }))).half.b.run = false ∧
    (run (.halfRejoin .b) (half (fun x => { x with selfOk := true }))).half.b.run = false ∧
    (run (.checkSelftest .b true) (half (fun x => { x with held := true }))).half.b.selfOk = false := by decide +kernel
/-- Nothing has been granted yet and the first half rejoins: it waits for the grant. -/
theorem test_rejoin_first : let s := { half (fun x => { x with selfOk := true }) with hm := State.reset.hm, half := ⟨{}, { selfOk := true }⟩ }
    s.boot.src.toNat < 2 ∧ (run (.halfRejoin .b) s).half.b.run = true ∧ (run (.halfRejoin .b) s).hm.grant = none ∧ (run (.halfRejoin .b) s).half.b.req = true := by
  decide +kernel
/-- The forwarded command comes back to half B, in charge by now, and is performed there; with half A in charge no more but running it goes on. -/
theorem test_forward_back : let m : Msg := { fwd with port := .a }
    let s := { up with ih := { up.ih with from_ := ⟨[], [.forward m [] 7]⟩, waiting := [(m, 360000000)] } }
    (run .ihForward s).port.a.done = 16 ∧ (run .ihForward s).ih.waiting = [] ∧ (run .ihForward { s with ih := { s.ih with waiting := [] } }).port.a.done = 0 ∧
    (run .ihForward (forwarded (some .b))).ih.from_.a.length = 1 ∧ (run .ihForward (forwarded (some .b))).ih.from_.b = [] ∧
    (run .ihForward { forwarded (some .b) with half := ⟨up.half.a, {}⟩ }).ih.from_.b = [] := by decide +kernel
/-- A reply that nothing waits for any more is dropped. -/
theorem test_reply_late : let s := { up with ih := { up.ih with from_ := ⟨[.forwardReply fwd ⟨0, 0, []⟩], []⟩ } }
    (run .ihForwardReply s).ih.from_.a = [] ∧ (run .ihForwardReply s).port.b.done = 0 ∧
    (run .ihForwardReply { s with ih := { s.ih with waiting := [(fwd, 5)] } }).port.b.done = 16 := by decide +kernel

/-! #### Requests -/

/-- A request that the half of the port answers itself waits behind a forwarded one of its port, class and target. -/
theorem test_held : let r := request 0x40 13 0 [1, 0, 0, 0, 0x40, 0, 0x20, 0]
    let t := run (.commit .a 12 (request 0x42 12 0 [])) { up with hm := { up.hm with grant := some .b } }
    t.ih.waiting.length = 1 ∧ (run (.paramRead .a 13 r) t).port.a.held = [13] ∧ (run (.paramRead .a 13 r) t).port.a.done = 0 ∧
    (let u := run .forwardTimeout { run (.paramRead .a 13 r) t with half := ⟨up.half.a, {}⟩ }
     u.port.a.held = [] ∧ reply u 12 = (stNotInCharge, 0) ∧ reply u 13 = (stDone, 0)) := by decide +kernel
/-- While the device safe state is in force no quay is acknowledged; ACK_FAULT to the device ends it once the cause is gone. -/
def safed (gone : Bool) : State :=
  let s := run .fabricStall up
  { s with flt := { s.flt with log := s.flt.log.map (fun r => { r with src := if gone then srcGateWatch else r.src }) } }
theorem test_ack_device : (safed false).flt.devSafe = true ∧ ok (safed false) 0x2D 4 0x2000 [] = true ∧
    reply (run (.ackFault .a 4 (request 0x2D 4 0x2000 [])) (safed false)) 4 = (stCause, 0) ∧
    (run (.ackFault .a 4 (request 0x2D 4 0x2000 [])) (safed false)).quay[0].core.st = .safe ∧ ok (safed true) 0x2D 4 0 [] = true ∧
    (run (.ackFault .a 4 (request 0x2D 4 0 [])) (safed false)).flt.devSafe = true ∧
    (run (.ackFault .a 4 (request 0x2D 4 0 [])) (safed true)).flt.devSafe = false ∧
    (run (.ackFault .a 4 (request 0x2D 4 0 [])) (safed true)).quay[0].core.st = .off := by decide +kernel
/-- MOVE while a MOVE is in progress, in another mode, in ARMED, and without the reference it asks for. -/
theorem test_move_refused : let b : List Byte := [0xE8, 3, 0, 0, 0, 0, 0, 0, 0, 0, 0, 0]
    let m := request 0x26 4 0x2000 b
    let going (o : Byte) := (fit .running).modQuay 0 (fun x => { x with core := { x.core with mode := .position, motion := some motion, motionOp := some { op with opcode := o } } })
    reply (run (.move .a 4 m) (going 0x26)) 4 = (stBusy, 0) ∧ reply (run (.move .a 4 m) (going 0x27)) 4 = (stRefused, 2) ∧
    reply (run (.move .a 4 m) ((fit .running).modQuay 0 (fun x => { x with core := { x.core with mode := .speed } }))) 4 = (stRefused, 8) ∧
    reply (run (.move .a 4 m) (fit .armed)) 4 = (stRefused, 0) ∧
    reply (run (.move .a 4 m) ((fit .hold).setParam (quayAddr 0 0x34) 1)) 4 = (stRefused, 0x0B) := by decide +kernel
/-- START from RUNNING changes the mode, but not from or to position mode. -/
theorem test_start_running : let s (md : Mode) := (fit .running).modQuay 0 (fun x => { x with core := { x.core with mode := md } })
    let m (k : Byte) := request 0x22 4 0x2000 [k, 0, 0, 0x20]
    (run (.start .a 4 (m 0)) (s .speed)).quay[0].core.mode = .torque ∧ (run (.start .a 4 (m 0)) (s .speed)).quay[0].c0.torque = 0x2000 ∧
    reply (run (.start .a 4 (m 1)) (s .position)) 4 = (stRefused, 8) ∧ reply (run (.start .a 4 (request 0x22 4 0x2000 [3, 0, 0, 0])) (s .speed)) 4 = (stRefused, 8) ∧
    reply (run (.start .a 4 (m 1)) (s .speed)) 4 = (stDone, 0) ∧ reply (run (.start .a 4 (m 1)) (fit .off)) 4 = (stRefused, 0) := by decide +kernel
/-- ARM while an ARM is in progress, with a latch, and with VM of its die low; ARMED. -/
theorem test_arm_others : let r := request 0x20 4 0x2000 []
    let low := { fit .off with supply := up.supply }
    reply (run (.arm .a 4 r) ((fit .off).modQuay 0 (fun x => { x with core := { x.core with armOp := some op } }))) 4 = (stBusy, 0) ∧
    reply (run (.arm .a 4 r) { fit .off with leg := up.leg.set 0 { up.leg[0] with latch := some .off } }) 4 = (stRefused, 5) ∧
    reply (run (.arm .a 4 r) low) 4 = (stAccepted, 0) ∧ (run (.arm .a 4 r) low).quay[0].core.armOp = none ∧
    reply (run (.arm .a 4 r) (fit .armed)) 4 = (stDone, 0) := by decide +kernel
/-- HOME in HOMING and where the quay has no such method. -/
theorem test_home_refused : let b (k : Byte) : List Byte := [k, 0, 0, 0, 10, 0, 0, 0, 0, 0, 0, 0]
    let h (k : Byte) := request 0x29 4 0x2000 (b k)
    reply (run (.home .a 4 (h 1)) ((fit .homing).modQuay 0 (fun x => { x with core := { x.core with homeOp := some op } }))) 4 = (stBusy, 0) ∧
    reply (run (.home .a 4 (h 1)) (fit .homing)) 4 = (stDone, 0) ∧ reply (run (.home .a 4 (h 1)) (fit .off)) 4 = (stRefused, 0) ∧
    (fit .armed).methodAllowed 0 3 = false ∧ reply (run (.home .a 4 (h 3)) (fit .armed)) 4 = (stRange, 7) := by decide +kernel
/-- An address of an unassigned block kind. -/
theorem test_strange : reply (run (.paramRead .a 12 (request 0x40 12 0 [1, 0, 0, 0, 0, 0, 0xB0, 0])) up) 12 = (stRange, 0) ∧
    reply (run (.paramInfo .a 12 (request 0x44 12 0 [0, 0, 0xD0, 0])) up) 12 = (stRange, 0) ∧ ok up 0x44 12 0 [0, 0, 0xD0, 0] = true := by decide +kernel
theorem test_trace_refused : reply (run (.traceArm .a 12 (request 0x49 12 0 [4, 0, 0, 0])) tracing) 12 = (stRange, 0) ∧
    (let s := run (.traceArm .a 12 (request 0x49 12 0 [3, 0, 0, 0])) tracing
     reply (run (.traceConfig .a 13 (request 0x48 13 0 (desc [0, 0, 0, 0]))) s) 13 = (stBusy, 0)) ∧
    reply (run (.traceConfig .a 12 (request 0x48 12 0 ([3, 0, 1, 0, 0, 0, 0, 0, 0, 0, 0, 0, 0, 0, 0, 0, 0, 0, 0xB0, 0]))) (pooled [])) 12 = (stRange, 0) ∧
    reply (run (.traceConfig .a 12 (request 0x48 12 0 (desc [0, 0, 0, 0]))) up) 12 = (stOwnership, 0) ∧
    reply (run (.traceRead .a 24 (request 0x60 24 0 [3, 0, 0, 0, 8, 0, 0, 0, 4, 0])) { tracing with trace := tracing.trace.set 3 { tracing.trace[3] with invalid := true } }) 24 =
      (stRange, 0) := by decide +kernel
/-- ATTACH on a lane in bring-up waits with it, DETACH of a lane that is detached is done, and of one ends the ATTACH on it. -/
theorem test_lane_commands : (run (.attach .a 4 (request 0x2F 4 0x5003 [])) (attaching .training)).lane[3].attachOps.length = 2 ∧
    (run (.attach .a 4 (request 0x2F 4 0x5003 [])) (attaching .training)).lane[3].st = .training ∧
    reply (run (.detach .a 4 (request 0x2E 4 0x5003 [])) (laned 3 (fun x => { x with st := .detached }))) 4 = (stDone, 0) ∧
    (run (.detach .a 4 (request 0x2E 4 0x5003 [])) (attaching .training)).lane[3].st = .detached ∧
    told (run (.detach .a 4 (request 0x2E 4 0x5003 [])) (attaching .training)) = (stRefused, 0) ∧
    (run (.detach .a 4 (request 0x2E 4 0x5003 [])) (attaching .training)).lane[3].tx = [] := by decide +kernel
theorem test_flash_range : reply (run (.flashWrite .a 24 (request 0x61 24 0 [1, 0, 0, 0, 0xFF, 0xFF, 0xFF, 0, 0xAB, 0xCD])) up) 24 = (stRange, 0) ∧
    reply (run (.flashWrite .a 24 (request 0x61 24 0 [1, 0, 0, 0, 0xFE, 0xFF, 0xFF, 0, 0xAB, 0xCD])) up) 24 = (stDone, 0) := by decide +kernel
/-- A class-0 refusal by state is noted; a write with another instruction is ignored, an aborted one is marked, a class-0 buffer takes 16 bytes. -/
theorem test_c0_noted : (run (.c0Stop .a 0 (msg0 0x11 0x2000 0 0)) (judged .refuse)).flt.transit.map (·.src) = [srcCmdRefused] ∧
    (run (.registerWrite .a ⟨0x80, 0x8000⟩ [1, 0, 0, 0] false) up).flt.errHold = false ∧ (run (.registerWrite .a ⟨0x10, 0x8000⟩ [1, 0, 0, 0] false) up).flt.errHold = true ∧
    (run (.registerWrite .a ⟨0x00, 0x0404⟩ [] true) up).port.a.spiErr = 3 ∧
    (run (.registerWrite .a ⟨0x00, 0x2000⟩ (c0Bytes 0x11 (msg0 0x11 0x2000 0 0)) false) (judged .accept)).quay[0].c0.stop = true ∧
    (run (.registerWrite .a ⟨0x00, 0x2000⟩ [1, 2, 3, 4] false) up).port.a.spiErr = 4 := by decide +kernel

/-! #### Clauses of the second review -/

/-- STALL on Q0 at device level with a pulse block as its reaction: the device safe state acts on Q1 too. -/
theorem test_device_level : let s := { staged srcStall with prot := { up.prot with sources := [⟨srcStall, 4, 4, 1, 1000000, 4, 4, false, false, 0⟩] } }
    let t := run .faultOrdered s
    s.countedLevel (fault srcStall 0) = 4 ∧ s.scopeQuays (fault srcStall 0) 4 = [0] ∧ t.flt.devSafe = true ∧ t.quay[0].core.st = .safe ∧ t.quay[1].core.st = .safe ∧
    t.quay[1].react = some (s.safeCode 1) ∧ t.quay[1].openRec = some 0 ∧ t.quay[2].core.st = .off ∧ t.flt.conseq.any (fun w => w.code == 9 && w.all) = true := by decide +kernel
/-- A share value of device 2 shows a second master of the group of Q0 and Q1. -/
theorem test_share_forms : let s := { shared with hw := { shared.hw with memberSet := [0, 2] } }
    let t := run (.hwShare .a (hdr 0x05040400 8) share) s
    s.misformed true 1 = false ∧ t.quay[0].share.config = true ∧ tells t srcShareConfig [1] = true ∧
    (run (.hwShare .a (hdr 0x05040400 8) share) shared).quay[0].share.config = false := by decide +kernel
/-- A forwarded command goes round behind an earlier one of its line. -/
theorem test_forward_line :
    let s := { forwarded (some .a) with ih := { (forwarded (some .a)).ih with from_ := ⟨[.alive, .forward fwd [] 9], [.forward fwd [] 7]⟩ } }
    (s.takeFrom .b).inLineFrom .a fwd = true ∧ (run .ihForward s).ih.from_.a.length = 3 ∧ (run .ihForward s).ih.from_.b = [] ∧
    ((forwarded (some .a)).takeFrom .b).inLineFrom .a fwd = false := by decide +kernel
theorem test_ack_while_safe : let s := { upSt .running with flt := { up.flt with devSafe := true } }
    s.ackBlocked 0 = false ∧ reply (run (.ackFault .a 4 (request 0x2D 4 0x2000 [])) s) 4 = (0, 0) := by decide +kernel
/-- A quick stop in HOLD goes on under a STOP. -/
theorem test_stop_quick : let s := (fit .hold).modQuay 0 (fun x => { x with core := { x.core with stop := .quick } })
    (run (.stop .a 4 (request 0x23 4 0x2000 [])) s).quay[0].core.stop = .quick ∧
    (run (.stop .a 4 (request 0x23 4 0x2000 [])) s).quay[0].core.st = .stopping := by decide +kernel
/-- A snapshot that waits for the status frame of lane IG0 takes the conversions of its legs with it. -/
theorem test_sample_waits : let s := (fit .off).modLane 16 (fun x => { x with st := .attached })
    let t := run (.sampleEvent 0 [⟨0, 9216, 1000⟩] 8000) s
    s.laneOf 0 = some 16 ∧ s.awaited 0 = [.lane 16] ∧ t.leg[0].current = some (5625 / 2) ∧ t.quay[0].form.legs = [] ∧ t.quay[0].form.vm = 0 := by decide +kernel
/-- The filter of a counting cell runs for 640 ticks from the sample event; at the deadline the cell is stale. -/
theorem test_filtering : let s (ago : Nat) := (celled [(cellAddr 0 4, 40)] id).modQuay 0 (fun x => { x with form := { x.form with isOpen := true, time := 1000000000 - ago } })
    (s 600).filtering 0 = [0] ∧ (run (.snapshotComplete 0) (s 600)).quay[0].snap.complete = false ∧
    (run (.snapshotComplete 0) (s 640)).quay[0].snap.complete = true := by decide +kernel
/-- An edge at or before the sample event of a preset does not count on top of it. -/
theorem test_preset_edge : (run (.fbEdge 0 true false) (celled [] (fun c => { c with presetAt := some (1000000000, 5) }))).cell[0].pos = 0 ∧
    (run (.fbEdge 0 true false) (celled [] (fun c => { c with presetAt := some (5, 5) }))).cell[0].pos = 1 := by decide +kernel
theorem test_index_drift : (run (.indexLatch 0) (indexed (some 10) (10 - 4096 + 3))).cell[0].drift = 3 ∧ up.cellUsed 5 = false ∧
    (run (.indexLatch 5) (up.setParam (cellAddr 5 0) 1)).cell[5].latches = 0 ∧ (run (.fbWire 5) (up.setParam (cellAddr 5 0) 1)).cell[5].wire = false := by decide +kernel
/-- LEG_EN0 and LEG_EN1 of a package without pre-driver dies. -/
theorem test_no_enable_pin : (run (.enableToggle 0) bare).pins = bare.pins ∧ (run (.enableLow 1) { bare with pins := free }).pins = free ∧ bare.pins.enHigh[(0 : Fin 6)] = false := by
  decide +kernel
/-- Read transactions latch the high words whose low words' first bytes they read. -/
theorem test_read_transaction : (run (.registerWrite .a ⟨0x80, 0xA000⟩ [0, 0, 0, 0] false) late).tb.devHi = ⟨2, 0⟩ ∧
    (run (.registerWrite .b ⟨0xA0, 0x9FFF⟩ [0, 0] true) late).tb.devHi = ⟨0, 2⟩ ∧ (run (.registerWrite .b ⟨0x90, 0xA140⟩ [0] true) late).tb.capHi.b[4] = 2 ∧
    (run (.registerWrite .b ⟨0x90, 0xA001⟩ [0, 0, 0] false) late).tb.devHi = ⟨0, 0⟩ ∧ (run (.registerWrite .b ⟨0x40, 0xA000⟩ [0] false) late).tb.devHi = ⟨0, 0⟩ := by
  decide +kernel

end Sys2Proof.Tests
end

section
/-! ### When an event slot fires (R98) -/

namespace Sys2Proof.Machine

theorem fires_iff_dvd {P φ : Nat} (hP : 0 < P) (t : Nat) : fires P φ t = true ↔ φ ≤ t ∧ P ∣ t - φ := by
  simp [fires, hP, Nat.dvd_iff_mod_eq_zero]

/-- The model's guard `phase ≤ t` removes no firing of R98: before the phase, `t - φ` lies strictly between `-P` and 0. -/
theorem not_dvd_sub_of_lt_phase {P φ t : Nat} (hφ : φ < P) (ht : t < φ) : ¬ (P : Int) ∣ (t : Int) - (φ : Int) := by
  intro hdvd
  have hzero : (t : Int) - φ = 0 := Int.eq_zero_of_abs_lt_dvd hdvd (by rw [abs_lt]; omega)
  omega

/-- Settles O13, by whether the time has reached the phase. -/
theorem slotFiresAt : Obligations.SlotFiresAt := by
  intro P φ t hφ
  rw [fires_iff_dvd (by omega), ← Int.dvd_iff_emod_eq_zero]
  rcases le_or_gt φ t with hle | hlt
  · rw [← Nat.cast_sub hle, Int.natCast_dvd_natCast]
    exact and_iff_right hle
  · exact iff_of_false (fun ⟨hle, _⟩ => hlt.not_ge hle) (not_dvd_sub_of_lt_phase hφ hlt)

end Sys2Proof.Machine
end

section
/-! ### What changes a fuse (R164) -/

namespace Sys2Proof.Machine

/-! #### A fuse command on the fuses -/

theorem Fuses.keyGood_iff (f : Fuses) (j : Fin 4) : f.keyGood j = true ↔ f.key[j] ≠ none ∧ f.revoked[j] = false := by
  simp [Fuses.keyGood, Option.isSome_iff_ne_none]

theorem Fuses.all_isNone_key_iff (f : Fuses) : f.key.toList.all Option.isNone = true ↔ ∀ j : Fin 4, f.key[j] = none := by
  simp [Fin.forall_iff]

theorem Fuses.apply_program_cases (f : Fuses) (k : Fin 4) (h : BitVec 256) (signer : Option (Fin 4)) :
    f.apply (.program k h) signer = f ∨
      f.key[k] = none ∧ ((∀ j : Fin 4, f.key[j] = none) ∨ ∃ j, signer = some j ∧ f.key[j] ≠ none ∧ f.revoked[j] = false) ∧
        f.apply (.program k h) signer = { f with key := f.key.set k (some h) } := by
  cases signer with
  | none =>
    simp only [Fuses.apply, Bool.or_false]
    split
    · next hc =>
      rw [Bool.and_eq_true, Option.isNone_iff_eq_none, f.all_isNone_key_iff] at hc
      exact .inr ⟨hc.1, .inl hc.2, rfl⟩
    · exact .inl rfl
  | some j =>
    simp only [Fuses.apply]
    split
    · next hc =>
      rw [Bool.and_eq_true, Option.isNone_iff_eq_none, Bool.or_eq_true, f.all_isNone_key_iff, f.keyGood_iff] at hc
      exact .inr ⟨hc.1, hc.2.imp_right fun hgood => ⟨j, rfl, hgood⟩, rfl⟩
    · exact .inl rfl

theorem Fuses.apply_revoke_cases (f : Fuses) (k : Fin 4) (signer : Option (Fin 4)) :
    f.apply (.revoke k) signer = f ∨
      ∃ j, signer = some j ∧ j ≠ k ∧ f.key[j] ≠ none ∧ f.revoked[j] = false ∧
        f.apply (.revoke k) signer = { f with revoked := f.revoked.set k true } := by
  cases signer with
  | none => exact .inl rfl
  | some j =>
    simp only [Fuses.apply]
    split
    · next hc =>
      rw [Bool.and_eq_true, f.keyGood_iff] at hc
      obtain ⟨⟨hkey, hrev⟩, hne⟩ := hc
      exact .inr ⟨j, rfl, by simpa using hne, hkey, hrev, rfl⟩
    · exact .inl rfl

theorem execFuseCommand_fuse {cmd : FuseCmd} {signer : Option (Fin 4)} {s t : State} (h : execFuseCommand cmd signer s = .next t) :
    t.fuse = s.fuse ∨ t.fuse = s.fuse.apply cmd signer := by
  unfold execFuseCommand at h
  split at h <;> cases h
  · exact .inr rfl
  · exact .inl rfl

/-! #### Reset and start-up leave the fuses -/

theorem State.base_fuse (s : State) : s.base.fuse = s.fuse := rfl

@[simp] theorem State.startDownload_fuse (s : State) (p : Side) : (s.startDownload p).fuse = s.fuse := rfl

@[simp] theorem State.raiseHalf_fuse (s : State) (src : Nat) (h : Side) (ctx : Ctx) : (s.raiseHalf src h ctx).fuse = s.fuse := rfl

@[simp] theorem State.bootHalt_fuse (s : State) (h : Halt) : (s.bootHalt h).fuse = s.fuse := by
  rw [← State.base_fuse, State.bootHalt_base]
  rfl

@[simp] theorem State.becomeReady_fuse (s : State) : s.becomeReady.fuse = s.fuse := by
  rw [← State.base_fuse, State.becomeReady_base]
  rfl

@[simp] theorem State.seal_fuse (s : State) (src : BitVec 2) (img : List Byte) (reqA reqB : Bool) :
    (s.seal src img reqA reqB).fuse = s.fuse := by
  obtain ⟨_, _, hb, _⟩ := s.seal_base src img reqA reqB
  rw [← State.base_fuse, hb]
  rfl

theorem execPowerGood_fuse {s t : State} (h : execPowerGood s = .next t) : t.fuse = s.fuse := by
  unfold execPowerGood at h
  split at h <;> cases h
  · rfl
  · split <;> rfl

theorem execBrownOut_fuse {below : BitVec 4} {s t : State} (h : execBrownOut below s = .next t) : t.fuse = s.fuse := by
  unfold execBrownOut at h
  split at h <;> cases h <;> rfl

theorem execRstNAssert_fuse {s t : State} (h : execRstNAssert s = .next t) : t.fuse = s.fuse := by
  unfold execRstNAssert at h
  split at h <;> cases h <;> rfl

theorem execRstNRelease_fuse {bootsel : BitVec 2} {mpref : Bool} {s t : State} (h : execRstNRelease bootsel mpref s = .next t) :
    t.fuse = s.fuse := by
  unfold execRstNRelease at h
  split at h <;> cases h
  · rfl
  · split <;> rfl

theorem execTbNoLock_fuse {s t : State} (h : execTbNoLock s = .next t) : t.fuse = s.fuse := by
  unfold execTbNoLock at h
  split at h <;> cases h
  · exact s.bootHalt_fuse _
  · rfl

theorem execTimeBaseLock_fuse {s t : State} (h : execTimeBaseLock s = .next t) : t.fuse = s.fuse := by
  unfold execTimeBaseLock at h
  split at h <;> cases h
  · split
    · rfl
    · split <;> rfl
  · rfl

theorem execHalfDigestReady_fuse {h : Side} {a0 a1 ra rb : Bool} {s t : State} (he : execHalfDigestReady h a0 a1 ra rb s = .next t) :
    t.fuse = s.fuse := by
  unfold execHalfDigestReady at he
  split at he
  · split at he
    · split at he <;> obtain rfl := Host.Outcome.next.inj he
      · exact State.startDownload_fuse _ _
      · rw [State.bootHalt_fuse, State.modBoot_fuse]
    · next slot img _ =>
      dsimp only at he
      generalize imgDigest img = d at he
      split at he
      · split at he <;> obtain rfl := Host.Outcome.next.inj he
        · rw [State.seal_fuse, State.modBoot_fuse]
        · rw [State.bootHalt_fuse, State.modBoot_fuse]
      · obtain rfl := Host.Outcome.next.inj he
        rw [State.modBoot_fuse, State.modBoot_fuse]
  · cases he; rfl

theorem execHalfBootFail_fuse {h : Side} {s t : State} (he : execHalfBootFail h s = .next t) : t.fuse = s.fuse := by
  unfold execHalfBootFail at he
  split at he
  · split at he <;> obtain rfl := Host.Outcome.next.inj he
    · rw [State.seal_fuse, State.raiseHalf_fuse, State.modHalf_fuse]
    · rfl
  · cases he; rfl

theorem execDiscoveryEnd_fuse {s t : State} (h : execDiscoveryEnd s = .next t) : t.fuse = s.fuse := by
  unfold execDiscoveryEnd at h
  split at h
  · split at h
    · split at h <;> obtain rfl := Host.Outcome.next.inj h
      · exact s.bootHalt_fuse _
      · exact s.becomeReady_fuse
    · obtain rfl := Host.Outcome.next.inj h
      exact s.becomeReady_fuse
  · cases h; rfl

theorem exec_fuse_of_bootCommand {c : Instr} (hb : bootCommand c = true) (hf : ∀ cmd signer, c ≠ .fuseCommand cmd signer) {s t : State}
    (h : exec c s = .next t) : t.fuse = s.fuse := by
  unfold bootCommand at hb
  split at hb
  · exact execPowerGood_fuse h
  · exact execBrownOut_fuse h
  · exact execRstNAssert_fuse h
  · exact execRstNRelease_fuse h
  · exact execTimeBaseLock_fuse h
  · exact execTbNoLock_fuse h
  · exact absurd rfl (hf _ _)
  · exact execHalfDigestReady_fuse h
  · exact execHalfBootFail_fuse h
  · exact execDiscoveryEnd_fuse h
  · cases hb

theorem exec_fuse_of_ne_fuseCommand {c : Instr} (hf : ∀ cmd signer, c ≠ .fuseCommand cmd signer) {s t : State} (h : exec c s = .next t) :
    t.fuse = s.fuse := by
  cases hb : bootCommand c with
  | false => exact (exec_within c hb h).fuse
  | true => exact exec_fuse_of_bootCommand hb hf h

/-! #### What a command can do to the fuses -/

/-- The fuses after a command, as R164 allows them: as they were, one blank slot programmed, or one revoke bit set. -/
inductive FuseEffect (f : Fuses) : Instr → Fuses → Prop where
  | kept (c : Instr) : FuseEffect f c f
  | program (k : Fin 4) (h : BitVec 256) (signer : Option (Fin 4)) (hblank : f.key[k] = none)
      (hallowed : (∀ j : Fin 4, f.key[j] = none) ∨ ∃ j, signer = some j ∧ f.key[j] ≠ none ∧ f.revoked[j] = false) :
      FuseEffect f (.fuseCommand (.program k h) signer) { f with key := f.key.set k (some h) }
  | revoke (k j : Fin 4) (hother : j ≠ k) (hkey : f.key[j] ≠ none) (hrevoked : f.revoked[j] = false) :
      FuseEffect f (.fuseCommand (.revoke k) (some j)) { f with revoked := f.revoked.set k true }

theorem Fuses.apply_fuseEffect (f : Fuses) (cmd : FuseCmd) (signer : Option (Fin 4)) :
    FuseEffect f (.fuseCommand cmd signer) (f.apply cmd signer) := by
  cases cmd with
  | program k h =>
    obtain heq | ⟨hblank, hallowed, heq⟩ := f.apply_program_cases k h signer <;> rw [heq]
    · exact .kept _
    · exact .program k h signer hblank hallowed
  | revoke k =>
    obtain heq | ⟨j, rfl, hother, hkey, hrevoked, heq⟩ := f.apply_revoke_cases k signer <;> rw [heq]
    · exact .kept _
    · exact .revoke k j hother hkey hrevoked

theorem exec_fuseEffect {c : Instr} {s t : State} (h : exec c s = .next t) : FuseEffect s.fuse c t.fuse := by
  by_cases hf : ∃ cmd signer, c = .fuseCommand cmd signer
  · obtain ⟨cmd, signer, rfl⟩ := hf
    obtain heq | heq := execFuseCommand_fuse h <;> rw [heq]
    · exact .kept _
    · exact s.fuse.apply_fuseEffect cmd signer
  · rw [exec_fuse_of_ne_fuseCommand (fun cmd signer hc => hf ⟨cmd, signer, hc⟩) h]
    exact .kept c

/-- Settles O7, by the effects that a command can have on the fuses. -/
theorem fusesChangeOnly : Obligations.FusesChangeOnly := by
  intro c s t hexec
  have heffect := exec_fuseEffect hexec
  clear hexec
  generalize s.fuse = f at heffect ⊢
  generalize t.fuse = g at heffect ⊢
  cases heffect with
  | kept => exact ⟨fun k hk => absurd rfl hk, fun k hk => absurd rfl hk, rfl⟩
  | program k h signer hblank hallowed =>
    refine ⟨fun i hi => ?_, fun i hi => absurd rfl hi, rfl⟩
    by_cases hik : k = i
    · subst hik
      exact ⟨hblank, h, signer, rfl, Vector.getElem_set_self _, hallowed⟩
    · exact absurd (Vector.getElem_set_ne k.isLt i.isLt (Fin.val_ne_of_ne hik)) hi
  | revoke k j hother hkey hrevoked =>
    refine ⟨fun i hi => absurd rfl hi, fun i hi => ?_, rfl⟩
    by_cases hik : k = i
    · subst hik
      exact ⟨Vector.getElem_set_self _, j, rfl, hother, hkey, hrevoked⟩
    · exact absurd (Vector.getElem_set_ne k.isLt i.isLt (Fin.val_ne_of_ne hik)) hi

end Sys2Proof.Machine
end

section
/-! ### The commands on one register of a port (R92, R96, R204, R239, R241, R929) -/

namespace Sys2Proof.Machine

/-! #### Updates of a port -/

@[simp] theorem Pair.set_set {α : Type} (x : Pair α) (p : Side) (v w : α) : (x.set p v).set p w = x.set p w := by cases p <;> rfl

@[simp] theorem Pair.set_get_self {α : Type} (x : Pair α) (p : Side) : x.set p (x.get p) = x := by cases p <;> rfl

theorem State.modPort_modPort (s : State) (p : Side) (f g : Port → Port) :
    (s.modPort p f).modPort p g = s.modPort p (fun x => g (f x)) := by
  simp only [State.modPort, Pair.get_set, Pair.set_set]

theorem State.modPort_eq_self {s : State} {p : Side} (f : Port → Port) (h : f (s.port.get p) = s.port.get p) : s.modPort p f = s := by
  simp only [State.modPort, h, Pair.set_get_self]

theorem State.c0Discard_eq (s : State) (p : Side) :
    s.c0Discard p = s.modPort p (fun x => { x with spiErr := x.spiErr ||| 4, c0Refused := satInc x.c0Refused }) :=
  s.modPort_modPort p _ _

/-! #### EVQ_TAIL against EVQ_HEAD: both distances are counted modulo 16 from the tail (R237) -/

theorem Port.moveTail_of_le {x : Port} {v : BitVec 4} (h : v - x.evqTail ≤ x.evqHead - x.evqTail) : x.moveTail v = { x with evqTail := v } :=
  if_pos h

theorem Port.moveTail_of_not_le {x : Port} {v : BitVec 4} (h : ¬ v - x.evqTail ≤ x.evqHead - x.evqTail) : x.moveTail v = x :=
  if_neg h

/-! #### Each command while the ports are served, and while none is -/

section
variable (p : Side) {s : State}

theorem exec_c0Frame_of_served (mb : Fin 4) (h : s.portsDead = false) : exec (.c0Frame p mb) s = .next (s.c0Discard p) :=
  if_neg (Bool.eq_false_iff.mp h)

theorem exec_devtimeLoRead_of_served (h : s.portsDead = false) : exec (.devtimeLoRead p) s = .next (s.latchDevTime p) :=
  if_neg (Bool.eq_false_iff.mp h)

theorem exec_capTimeLoRead_of_served (k : Fin 32) (h : s.portsDead = false) :
    exec (.capTimeLoRead p k) s = .next (s.latchCapTime p k) :=
  if_neg (Bool.eq_false_iff.mp h)

theorem exec_evqTailWrite_of_served (v : BitVec 4) (h : s.portsDead = false) :
    exec (.evqTailWrite p v) s = .next (s.modPort p (fun x => x.moveTail v)) :=
  if_neg (Bool.eq_false_iff.mp h)

theorem exec_errPinHoldWrite_of_served (b : Bool) (h : s.portsDead = false) :
    exec (.errPinHoldWrite p b) s = .next (s.modFlt (fun f => { f with errHold := b })) :=
  if_neg (Bool.eq_false_iff.mp h)

theorem exec_singleRegister_of_portsDead (mb : Fin 4) (k : Fin 32) (v : BitVec 4) (b : Bool) (h : s.portsDead = true) :
    exec (.c0Frame p mb) s = .next s ∧ exec (.devtimeLoRead p) s = .next s ∧ exec (.capTimeLoRead p k) s = .next s ∧
      exec (.evqTailWrite p v) s = .next s ∧ exec (.errPinHoldWrite p b) s = .next s :=
  ⟨if_pos h, if_pos h, if_pos h, if_pos h, if_pos h⟩

theorem exec_evqTailWrite_of_le {v : BitVec 4} (h : s.portsDead = false)
    (hv : v - (s.port.get p).evqTail ≤ (s.port.get p).evqHead - (s.port.get p).evqTail) :
    exec (.evqTailWrite p v) s = .next { s with port := s.port.set p { s.port.get p with evqTail := v } } := by
  rw [exec_evqTailWrite_of_served p v h, State.modPort, Port.moveTail_of_le hv]

theorem exec_evqTailWrite_of_not_le {v : BitVec 4} (h : s.portsDead = false)
    (hv : ¬ v - (s.port.get p).evqTail ≤ (s.port.get p).evqHead - (s.port.get p).evqTail) :
    exec (.evqTailWrite p v) s = .next s := by
  rw [exec_evqTailWrite_of_served p v h, State.modPort_eq_self (·.moveTail v) (Port.moveTail_of_not_le hv)]

end

/-- Settles O59, by whether a port is served and, for EVQ_TAIL, by whether the write would pass EVQ_HEAD. -/
theorem singleRegisters : Obligations.SingleRegisters := by
  refine ⟨fun p mb k v b s hdead => exec_singleRegister_of_portsDead p mb k v b hdead, fun p s hserved => ⟨fun mb => ?_, ?_, ?_, ?_, ?_⟩⟩
  · rw [exec_c0Frame_of_served p mb hserved, State.c0Discard_eq, State.modPort]
  · exact exec_devtimeLoRead_of_served p hserved
  · exact fun k => exec_capTimeLoRead_of_served p k hserved
  · exact fun v => ⟨exec_evqTailWrite_of_le p hserved, exec_evqTailWrite_of_not_le p hserved⟩
  · exact fun b => exec_errPinHoldWrite_of_served p b hserved

end Sys2Proof.Machine
end

section
/-! ### A step and the queue -/

namespace Sys2Proof.Machine

theorem step_cons (c : Instr) (rest : List Instr) (s : State) :
    step { s with pending := c :: rest } = exec c { s with pending := rest } := rfl

theorem step_of_pending_cons {s : State} {c : Instr} {rest : List Instr} (h : s.pending = c :: rest) :
    step s = exec c { s with pending := rest } := by
  rw [step, h]

theorem step_of_pending_nil {s : State} (h : s.pending = []) :
    step s = .next (if s.tb.lock then s.modTb TimeBase.tick else s) := by
  rw [step, h]

/-- Settles O1, by the definition of a step. -/
theorem stepRunsFront : Obligations.StepRunsFront := step_cons

/-! #### One tick of device time -/

theorem TimeBase.tick_of_last {t : TimeBase} (h : t.now = lastTime) : t.tick = t := if_pos h

theorem TimeBase.tick_of_inserts {t : TimeBase} (h : t.now < lastTime) (hi : 0 < t.slewLeft ∧ 10000000 ≤ t.slewAcc) :
    t.tick = (t.displaced 1).slewed 1 (t.slewAcc - 10000000) := by
  rw [tick, if_neg h.ne, if_pos hi]

theorem TimeBase.tick_of_removes {t : TimeBase} (h : t.now < lastTime)
    (hr : t.slewLeft < 0 ∧ 10000000 ≤ t.slewAcc + t.slewRate.natAbs) :
    t.tick = { t with sdc := t.sdc.map (· - 1) }.slewed (-1) (t.slewAcc + t.slewRate.natAbs - 10000000) := by
  rw [tick, if_neg h.ne, if_neg (fun hi => by omega), if_pos hr]

theorem TimeBase.tick_of_counts {t : TimeBase} (h : t.now < lastTime) (hi : ¬ (0 < t.slewLeft ∧ 10000000 ≤ t.slewAcc))
    (hr : ¬ (t.slewLeft < 0 ∧ 10000000 ≤ t.slewAcc + t.slewRate.natAbs)) :
    t.tick = { t with now := t.now + 1, slewAcc := if t.slewLeft = 0 then t.slewAcc else t.slewAcc + t.slewRate.natAbs } := by
  rw [tick, if_neg h.ne, if_neg hi, if_neg hr]

theorem TimeBase.displaced_one {t : TimeBase} (h : t.now < lastTime) :
    t.displaced 1 = { t with now := t.now + 1, sdc := t.sdc.map (· + 1) } := by
  have hnow : min ((t.now : Int) + 1).toNat lastTime = t.now + 1 := by omega
  rw [displaced, hnow]

theorem TimeBase.slewed_of_eq {t : TimeBase} {d : Int} (acc : Nat) (h : t.slewLeft = d) :
    t.slewed d acc = { t with slewLeft := 0, slewAcc := 0, slewing := false, slewRate := 0 } := if_pos h

theorem TimeBase.slewed_of_ne {t : TimeBase} {d : Int} (acc : Nat) (h : t.slewLeft ≠ d) :
    t.slewed d acc = { t with slewLeft := t.slewLeft - d, slewAcc := acc } := if_neg h

/-- Settles O2, by whether the time base is locked and what its tick does: it counts, inserts or removes. -/
theorem stepIdle : Obligations.StepIdle := by
  refine ⟨fun s hp hl => ?_, fun s hp hl hlast => ?_, fun s hp hl hnow => ?_⟩
  · rw [step_of_pending_nil hp, hl, if_neg Bool.false_ne_true]
  · rw [step_of_pending_nil hp, if_pos hl, State.modTb, TimeBase.tick_of_last hlast]
  · have hstep : step s = .next { s with tb := s.tb.tick } := by rw [step_of_pending_nil hp, if_pos hl, State.modTb]
    have hins : s.tb.displaced 1 = _ := TimeBase.displaced_one hnow
    refine ⟨fun hi hr => ?_, fun hi hne => ?_, fun hi heq => ?_, fun hr hne => ?_, fun hr heq => ?_⟩
    · rw [hstep, TimeBase.tick_of_counts hnow hi hr]; rfl
    · rw [hstep, TimeBase.tick_of_inserts hnow hi, hins, TimeBase.slewed_of_ne _ (by exact hne)]; rfl
    · rw [hstep, TimeBase.tick_of_inserts hnow hi, hins, TimeBase.slewed_of_eq _ (by exact heq)]; rfl
    · rw [hstep, TimeBase.tick_of_removes hnow hr, TimeBase.slewed_of_ne _ (by exact hne)]; simp only [sub_neg_eq_add]
    · rw [hstep, TimeBase.tick_of_removes hnow hr, TimeBase.slewed_of_eq _ (by exact heq)]

end Sys2Proof.Machine
end
section
/-! ### The invariant, and what seals and queue keep -/

namespace Sys2Proof.Machine

/-! #### What the boot invariant says of the base -/

/-- `State.BootInv`, of the base: stage, seal and reset lines. -/
def Base.BootInv (b : Base) : Prop :=
  (b.stage = .inReset ↔ ¬ (b.power = true ∧ b.rstN = true)) ∧ (b.stage = .discovery ∨ b.stage = .ready → b.sealed = true) ∧
    (b.stage = .inReset ∨ b.stage = .lockWait ∨ b.stage = .imageRead → b.sealed = false)

theorem State.bootInv_iff (s : State) : s.BootInv ↔ s.base.BootInv :=
  ⟨fun ⟨hreset, hsealed, hunsealed⟩ => ⟨hreset, hsealed, hunsealed⟩, fun ⟨hreset, hsealed, hunsealed⟩ => ⟨hreset, hsealed, hunsealed⟩⟩

/-- `State.Inv`, of the base. -/
def Base.Inv (b : Base) : Prop :=
  b.BootInv ∧ ClaimsApart b.claims ∧ cellsWf erased b.flash = true ∧ cellsWf 0 b.dl.image = true

theorem State.inv_iff (s : State) : s.Inv ↔ s.base.Inv :=
  ⟨fun ⟨hboot, hclaims, hcanon⟩ => ⟨s.bootInv_iff.1 hboot, hclaims, hcanon⟩, fun ⟨hboot, hclaims, hcanon⟩ => ⟨s.bootInv_iff.2 hboot, hclaims, hcanon⟩⟩

theorem cellsWf_reset_image : cellsWf 0 ({} : Download).image = true := rfl

theorem BootEffect.inv {s : State} {b : Base} (h : BootEffect s b) (hs : s.Inv) : b.Inv := by
  obtain ⟨⟨hreset, hsealed, hunsealed⟩, hclaims, hflash, himage⟩ := hs
  cases h with
  | none => exact ⟨⟨hreset, hsealed, hunsealed⟩, hclaims, hflash, himage⟩
  | fuse => exact ⟨⟨hreset, hsealed, hunsealed⟩, hclaims, hflash, himage⟩
  | reset power rstN h => 
    refine ⟨⟨?_, ?_, ?_⟩, List.Pairwise.nil, hflash, cellsWf_reset_image⟩
    · simpa using h
    · simp
    · simp
  | lines power rstN h h' =>
    have hin : s.boot.stage = .inReset := hreset.2 (by simpa using h)
    exact ⟨⟨⟨fun _ => by simpa using h', fun _ => hin⟩, hsealed, hunsealed⟩, hclaims, hflash, himage⟩
  | leave h =>
    have hin : s.boot.stage = .inReset := hreset.2 (by simpa using h)
    refine ⟨⟨?_, ?_, fun _ => hunsealed (.inl hin)⟩, hclaims, hflash, himage⟩ <;> simp
  | halt x h =>
    have hout : s.boot.stage ≠ .inReset := by rcases h with h | h | h <;> simp [h]
    refine ⟨⟨?_, ?_, ?_⟩, hclaims, hflash, himage⟩
    · simpa [State.base] using mt hreset.2 hout
    · simp
    · simp
  | read d x h hd =>
    have hout : s.boot.stage ≠ .inReset := by rcases h with h | h <;> simp [h]
    refine ⟨⟨?_, ?_, fun _ => hunsealed (.inr h)⟩, hclaims, hflash, ?_⟩
    · simpa [State.base] using mt hreset.2 hout
    · simp
    · exact hd ▸ himage
  | sealing p ps cs x h hc =>
    have hout : s.boot.stage ≠ .inReset := by simp [h]
    refine ⟨⟨?_, ?_, ?_⟩, hc, hflash, himage⟩
    · simpa [State.base] using mt hreset.2 hout
    · simp
    · simp
  | ready h =>
    have hout : s.boot.stage ≠ .inReset := by simp [h]
    refine ⟨⟨?_, fun _ => hsealed (.inl h), ?_⟩, hclaims, hflash, himage⟩
    · simpa [State.base] using mt hreset.2 hout
    · simp

theorem Within.inv {s t : State} (h : Within s t) (hs : s.Inv) : t.Inv := by
  obtain ⟨⟨hreset, hsealed, hunsealed⟩, hclaims, hcanon⟩ := hs
  refine ⟨⟨?_, ?_, ?_⟩, h.claims hclaims, h.canonical hcanon⟩
  · rw [h.stage, h.power, h.rstN]; exact hreset
  · rw [h.stage, h.sealed]; exact hsealed
  · rw [h.stage, h.sealed]; exact hunsealed

/-- Every command keeps the invariant. -/
theorem exec_inv {c : Instr} {s t : State} (hs : s.Inv) (h : exec c s = .next t) : t.Inv := by
  cases hb : bootCommand c with
  | false => exact (exec_within c hb h).inv hs
  | true => exact t.inv_iff.2 ((exec_effect hb h).inv hs)

theorem State.Inv.setPending {s : State} (h : s.Inv) (rest : List Instr) : ({ s with pending := rest } : State).Inv :=
  (State.inv_iff _).2 (s.inv_iff.1 h)

/-- Settles O4, by whether the queue is empty: a tick changes the time base alone, and a command keeps the invariant. -/
theorem invKept : Obligations.InvKept := by
  intro s t hs hstep
  cases hq : s.pending with
  | nil =>
    rw [step_of_pending_nil hq] at hstep
    cases hstep
    split
    · exact (Within.of_base (State.modTb_base s _)).inv hs
    · exact hs
  | cons c rest =>
    rw [step_of_pending_cons hq] at hstep
    exact exec_inv (hs.setPending rest) hstep

/-- Settles O5: at reset the device is held in internal reset with no claim, no flash content and no download. -/
theorem resetInv : Obligations.ResetInv := by
  refine ⟨⟨?_, ?_, ?_⟩, List.Pairwise.nil, rfl, rfl⟩ <;> simp [State.reset]

/-! #### The seal -/

/-- A state whose protection set is sealed neither waits for the lock nor reads an image. -/
theorem State.BootInv.not_unsealed_stage {s : State} (h : s.BootInv) (hs : s.boot.sealed = true) :
    s.boot.stage ≠ .inReset ∧ s.boot.stage ≠ .lockWait ∧ s.boot.stage ≠ .imageRead := by
  have hn := mt h.unsealed (by simp [hs])
  tauto

/-- What a reset, boot or fuse command does while the set is sealed: it resets the device, or leaves the seal, the set and the parameters. -/
theorem BootEffect.seal_lasts {s : State} {b : Base} (h : BootEffect s b) (hinv : s.BootInv) (hs : s.boot.sealed = true) :
    b.stage = .inReset ∨ (b.sealed = true ∧ b.prot = s.prot ∧ b.params = s.params) := by
  obtain ⟨hreset, hlock, himage⟩ := hinv.not_unsealed_stage hs
  cases h with
  | none | fuse | lines | halt | ready => exact .inr ⟨hs, rfl, rfl⟩
  | reset => exact .inl rfl
  | leave h => exact absurd (hinv.reset.2 (by simpa using h)) hreset
  | read d x h => exact absurd h (by tauto)
  | sealing p ps cs x h => exact absurd h himage

/-- Settles O6, by whether the command resets, boots or fuses the device. -/
theorem sealLasts : Obligations.SealLasts := by
  intro c s t hinv hs hexec
  cases hb : bootCommand c with
  | false =>
    have hw := exec_within c hb hexec
    exact .inr ⟨hw.sealed.trans hs, hw.prot, hw.params⟩
  | true =>
    obtain hreset | ⟨hsealed, hprot, hparams⟩ := (exec_effect hb hexec).seal_lasts hinv hs
    · exact .inl hreset
    · exact .inr ⟨hsealed, hprot, fun a _ => congrArg (assoc · a) hparams⟩

end Sys2Proof.Machine
end

section
/-! ### Every command answers -/

namespace Sys2Proof.Machine

/-- An outcome that is a next state. -/
def Answers (o : Host.Outcome State Fault Refusal) : Prop := ∃ t, o = .next t

theorem Answers.next (t : State) : Answers (.next t) := ⟨t, rfl⟩

theorem Answers.ite {c : Prop} [Decidable c] {a b : Host.Outcome State Fault Refusal} (ha : Answers a) (hb : Answers b) :
    Answers (if c then a else b) := by
  split <;> assumption


/-- Every meaning is made of conditions, matches and local definitions, and each of its branches ends in a next state. -/
theorem exec_answers (c : Instr) (s : State) : Answers (exec c s) := by
  cases c <;> simp only [exec]
  all_goals
    delta execPowerGood execBrownOut execRstNAssert execRstNRelease execTimeBaseLock execTbNoLock execHalfDigestReady
      execHalfBootFail execPrefWaitExpiry execDiscoveryEnd execDownloadChunk execFuseCommand execDelayLineCal execRefLoss
      execSensorWindowEnd execCaptureEdge execSampleEvent execUpdatePoint execTraceCapture execSdcResync execEmulationTiming
      execTimedEvent execSnapshotComplete execInputDeadline execIterationComplete execLegCommandArrival execGateWatch
      execGateOnUncommanded execGateOnTimeout execBootRefresh execRefreshRepeat execBootUv execBootUvClear execShortCircuit
      execBlankingEnd execVmOv execVmUv execChopperOn execChopperOff execChopperLong execEnableLow execEnableToggle
      execHaltAssert execHaltRelease execHaltDisc execFbEdge execHallChange execIndexLatch execFbWire execSsiFrameEnd
      execSincosConversion execQuadrantChange execFbStillTimeout execComparePulseEnd execProbeEdge execSdValueReady
      execSdOverrange execLimitInputChange execArmComplete execArmTimeout execStopDwellExpiry execMoveArrival execHoldDelayExpiry
      execCatchTimeout execObserveWindowEnd execIfTimeout execSpeedError execTensionDwellExpiry execTensionHigh
      execIbexSaturationStall execHomeStallDetect execMirrorRefresh execSignalDetect execTrainingComplete execGwPong execGwIdent
      execIdentTimeout execGwTrainFail execTrainRetry execGwSyncSend execGwStatus execLaneLoss execGwBadFrame execHwPortUp
      execHwPortLoss execHwDiscSend execHwDisc execHwTopo execHwTimeSend execHwTime execHwAlignLost execHwPing execHwPong
      execHwShare execHwShareStat execMemberWindowEnd execHwBadFrame execFaultArrival execFaultOrdered execConseqWindowEnd
      execErrPulseEnd execFabricStall execScrubPass execCheckTrip execHeartbeatTimeout execCheckSelftest execHalfRejoin
      execIhChange execIhChangeAck execIhForward execIhForwardReply execIhKstate execIhPatch execIhAliveSend execHalfLink
      execForwardTimeout execMforceAssert execMforceRelease execSupplyWarning execVgdHold execVgdHoldRelease execArm execDisarm
      execStart execStop execQuickstop execHold execMove execMoveGroup execJog execHome execSetSpeed execSetAccel
      execSetTorqueLimit execAckFault execDetach execAttach execParamRead execParamStage execCommit execStageClear
      execParamInfo execTraceConfig execTraceArm execTraceStop execTraceRead execFlashWrite execSetTorque execC0SetSpeed
      execSetTension execSetSpeedTorque execC0Quickstop execC0Stop execQuickRelease execC0Frame execDevtimeLoRead
      execCapTimeLoRead execEvqTailWrite execErrPinHoldWrite execRegisterWrite execDiscExpiry execRxOkSet execFbWireClear
      execSupplyWarningEnd execIhAck
    repeat' with_reducible first | exact .next _ | refine .ite ?_ ?_ | split | dsimp only

theorem BootEffect.pending {s : State} {b : Base} (h : BootEffect s b) : b.pending = s.pending := by
  cases h <;> rfl

/-- Settles O3: every command answers, and neither boot commands nor others touch the queue. -/
theorem everyCommandAnswers : Obligations.EveryCommandAnswers := by
  intro c s
  obtain ⟨t, ht⟩ := exec_answers c s
  refine ⟨t, ht, ?_⟩
  cases hb : bootCommand c with
  | false => exact (exec_within c hb ht).pending
  | true => exact (exec_effect hb ht).pending

end Sys2Proof.Machine
end

section
/-! ### What leaves the configuration as it is -/

namespace Sys2Proof.Machine

/-- Settles O8, command by command: each of the others leaves the base by the lemma about its own meaning. -/
theorem configurationKept : Obligations.ConfigurationKept := by
  intro c s t hboot hhost hwrite hchunk hforward hreply htimeout he
  cases c with
  | powerGood | brownOut | rstNAssert | rstNRelease | timeBaseLock | tbNoLock | halfDigestReady | halfBootFail | discoveryEnd |
    fuseCommand => cases hboot
  | arm | disarm | start | stop | quickstop | hold | move | moveGroup | jog | home | setSpeed | setAccel | setTorqueLimit |
    ackFault | detach | attach | paramRead | paramStage | commit | stageClear | paramInfo | traceConfig | traceArm | traceStop |
    traceRead | flashWrite => cases hhost
  | registerWrite p a d x => exact absurd rfl (hwrite p a d x)
  | downloadChunk p n => exact absurd rfl (hchunk p n)
  | ihForward => exact absurd rfl hforward
  | ihForwardReply => exact absurd rfl hreply
  | forwardTimeout => exact absurd rfl htimeout
  | prefWaitExpiry => exact execPrefWaitExpiry_base he
  | delayLineCal within => exact execDelayLineCal_base within he
  | refLoss => exact execRefLoss_base he
  | sensorWindowEnd counts temps => exact execSensorWindowEnd_base counts temps he
  | captureEdge c rising => exact execCaptureEdge_base c rising he
  | sampleEvent q legs vm => exact execSampleEvent_base q legs vm he
  | updatePoint q => exact execUpdatePoint_base q he
  | traceCapture r share => exact execTraceCapture_base r share he
  | sdcResync m => exact execSdcResync_base m he
  | emulationTiming k => exact execEmulationTiming_base k he
  | timedEvent slot => exact execTimedEvent_base slot he
  | snapshotComplete q => exact execSnapshotComplete_base q he
  | inputDeadline q => exact execInputDeadline_base q he
  | iterationComplete q e => exact execIterationComplete_base q e he
  | legCommandArrival l h claim src => exact execLegCommandArrival_base l h claim src he
  | gateWatch l sw => exact execGateWatch_base l sw he
  | gateOnUncommanded l sw => exact execGateOnUncommanded_base l sw he
  | gateOnTimeout l sw => exact execGateOnTimeout_base l sw he
  | bootRefresh l => exact execBootRefresh_base l he
  | refreshRepeat l => exact execRefreshRepeat_base l he
  | bootUv l => exact execBootUv_base l he
  | bootUvClear l => exact execBootUvClear_base l he
  | shortCircuit l d current => exact execShortCircuit_base l d current he
  | blankingEnd l current => exact execBlankingEnd_base l current he
  | vmOv d mv => exact execVmOv_base d mv he
  | vmUv d mv => exact execVmUv_base d mv he
  | chopperOn c => exact execChopperOn_base c he
  | chopperOff c => exact execChopperOff_base c he
  | chopperLong m => exact execChopperLong_base m he
  | enableLow g => exact execEnableLow_base g he
  | enableToggle g => exact execEnableToggle_base g he
  | haltAssert ch => exact execHaltAssert_base ch he
  | haltRelease ch => exact execHaltRelease_base ch he
  | haltDisc => exact execHaltDisc_base he
  | fbEdge k a b => exact execFbEdge_base k a b he
  | hallChange k st => exact execHallChange_base k st he
  | indexLatch k => exact execIndexLatch_base k he
  | fbWire k => exact execFbWire_base k he
  | ssiFrameEnd k frame => exact execSsiFrameEnd_base k frame he
  | sincosConversion k sin cos => exact execSincosConversion_base k sin cos he
  | quadrantChange k a b => exact execQuadrantChange_base k a b he
  | fbStillTimeout k => exact execFbStillTimeout_base k he
  | comparePulseEnd k => exact execComparePulseEnd_base k he
  | probeEdge q rising => exact execProbeEdge_base q rising he
  | sdValueReady n raw => exact execSdValueReady_base n raw he
  | sdOverrange n => exact execSdOverrange_base n he
  | limitInputChange q side shown => exact execLimitInputChange_base q side shown he
  | armComplete q => exact execArmComplete_base q he
  | armTimeout q => exact execArmTimeout_base q he
  | stopDwellExpiry q => exact execStopDwellExpiry_base q he
  | moveArrival q => exact execMoveArrival_base q he
  | holdDelayExpiry q => exact execHoldDelayExpiry_base q he
  | catchTimeout q => exact execCatchTimeout_base q he
  | observeWindowEnd q => exact execObserveWindowEnd_base q he
  | ifTimeout q => exact execIfTimeout_base q he
  | speedError q => exact execSpeedError_base q he
  | tensionDwellExpiry q => exact execTensionDwellExpiry_base q he
  | tensionHigh q => exact execTensionHigh_base q he
  | ibexSaturationStall q => exact execIbexSaturationStall_base q he
  | homeStallDetect q => exact execHomeStallDetect_base q he
  | mirrorRefresh q => exact execMirrorRefresh_base q he
  | signalDetect n => exact execSignalDetect_base n he
  | trainingComplete l => exact execTrainingComplete_base l he
  | gwPong n seq turnaround => exact execGwPong_base n seq turnaround he
  | gwIdent n ident => exact execGwIdent_base n ident he
  | identTimeout n => exact execIdentTimeout_base n he
  | gwTrainFail n => exact execGwTrainFail_base n he
  | trainRetry n => exact execTrainRetry_base n he
  | gwSyncSend n => exact execGwSyncSend_base n he
  | gwStatus n frame => exact execGwStatus_base n frame he
  | laneLoss n => exact execLaneLoss_base n he
  | gwBadFrame n reason => exact execGwBadFrame_base n reason he
  | hwPortUp p => exact execHwPortUp_base p he
  | hwPortLoss p => exact execHwPortLoss_base p he
  | hwDiscSend => exact execHwDiscSend_base he
  | hwDisc p hdr disc => exact execHwDisc_base p hdr disc he
  | hwTopo p hdr lost port => exact execHwTopo_base p hdr lost port he
  | hwTimeSend => exact execHwTimeSend_base he
  | hwTime p hdr stamp correction => exact execHwTime_base p hdr stamp correction he
  | hwAlignLost => exact execHwAlignLost_base he
  | hwPing p => exact execHwPing_base p he
  | hwPong p turnaround => exact execHwPong_base p turnaround he
  | hwShare p hdr share => exact execHwShare_base p hdr share he
  | hwShareStat p hdr stat => exact execHwShareStat_base p hdr stat he
  | memberWindowEnd => exact execMemberWindowEnd_base he
  | hwBadFrame p reason => exact execHwBadFrame_base p reason he
  | faultArrival i => exact execFaultArrival_base i he
  | faultOrdered => exact execFaultOrdered_base he
  | conseqWindowEnd i => exact execConseqWindowEnd_base i he
  | errPulseEnd => exact execErrPulseEnd_base he
  | fabricStall => exact execFabricStall_base he
  | scrubPass findings => exact execScrubPass_base findings he
  | checkTrip h cause engine => exact execCheckTrip_base h cause engine he
  | heartbeatTimeout h => exact execHeartbeatTimeout_base h he
  | checkSelftest h pass => exact execCheckSelftest_base h pass he
  | halfRejoin h => exact execHalfRejoin_base h he
  | ihChange => exact execIhChange_base he
  | ihChangeAck => exact execIhChangeAck_base he
  | ihKstate => exact execIhKstate_base he
  | ihPatch ok => exact execIhPatch_base ok he
  | ihAliveSend h => exact execIhAliveSend_base h he
  | halfLink => exact execHalfLink_base he
  | mforceAssert h => exact execMforceAssert_base h he
  | mforceRelease h => exact execMforceRelease_base h he
  | supplyWarning rail side value => exact execSupplyWarning_base rail side value he
  | vgdHold d => exact execVgdHold_base d he
  | vgdHoldRelease d => exact execVgdHoldRelease_base d he
  | setTorque p mb m => exact execSetTorque_base p mb m he
  | c0SetSpeed p mb m => exact execC0SetSpeed_base p mb m he
  | setTension p mb m => exact execSetTension_base p mb m he
  | setSpeedTorque p mb m => exact execSetSpeedTorque_base p mb m he
  | c0Quickstop p mb m => exact execC0Quickstop_base p mb m he
  | c0Stop p mb m => exact execC0Stop_base p mb m he
  | quickRelease p mb m => exact execQuickRelease_base p mb m he
  | c0Frame p mb => exact execC0Frame_base p mb he
  | devtimeLoRead p => exact execDevtimeLoRead_base p he
  | capTimeLoRead p c => exact execCapTimeLoRead_base p c he
  | evqTailWrite p v => exact execEvqTailWrite_base p v he
  | errPinHoldWrite p level => exact execErrPinHoldWrite_base p level he
  | discExpiry device => exact execDiscExpiry_base device he
  | rxOkSet l => exact execRxOkSet_base l he
  | fbWireClear k => exact execFbWireClear_base k he
  | supplyWarningEnd rail side => exact execSupplyWarningEnd_base rail side he
  | ihAck => exact execIhAck_base he

end Sys2Proof.Machine
end

section
/-! ### A request read back from its buffer (R211 to R216) -/

namespace Sys2Proof.Machine

/-! #### Reading bytes of a canonical list of cells -/

theorem readFrom_eq (d : Byte) (n : Nat) (m : List Host.Cell) (x : Nat) (hm : m.Pairwise (fun e f => e.1 < f.1)) (hx : ∀ e ∈ m, x ≤ e.1) :
    readFrom d m x n = (List.range n).map (fun i => readCell d m (x + i)) := by
  induction n generalizing m x with
  | zero => cases m <;> rfl
  | succ n ih =>
    have hrange : ∀ l : List Host.Cell, (List.range (n + 1)).map (fun i => readCell d l (x + i)) =
        readCell d l x :: (List.range n).map (fun i => readCell d l (x + 1 + i)) := fun l => by
      simp [List.range_succ_eq_map, Function.comp_def, Nat.add_assoc, Nat.add_comm 1]
    rw [hrange]
    cases m with
    | nil => rw [readFrom, ih [] (x + 1) hm (by simp)]; rfl
    | cons e rest =>
      obtain ⟨hlt, hrest⟩ := List.pairwise_cons.1 hm
      rw [readFrom]
      split
      · next he =>
        subst he
        rw [ih rest (e.1 + 1) hrest hlt, readCell, if_pos rfl]
        refine congrArg _ (List.map_congr_left fun i _ => ?_)
        rw [readCell, if_neg (by omega)]
      · next he =>
        have hxe : x < e.1 := Nat.lt_of_le_of_ne (hx e List.mem_cons_self) (Ne.symm he)
        have hall : ∀ f ∈ e :: rest, x < f.1 := fun f hf =>
          (List.mem_cons.1 hf).elim (fun h => h ▸ hxe) fun h => hxe.trans (hlt f h)
        rw [ih (e :: rest) (x + 1) hm hall, readCell_below d (e :: rest) x hall]

/-- The first bytes of a buffer, after bytes were written at its start, are those written. -/
theorem readCells_writeCells_take (d : Byte) (m : List Host.Cell) (bs : List Byte) (n : Nat) (hm : cellsWf d m = true) (hn : n ≤ bs.length) :
    readCells d (writeCells d m 0 bs) 0 n = bs.take n := by
  have hwf := (cellsWf_iff _ _).1 (cellsWf_writeCells d m 0 bs hm)
  have hdrop : ∀ l : List Host.Cell, l.dropWhile (fun e => decide (e.1 < 0)) = l := fun l => by cases l <;> simp
  rw [readCells, hdrop, readFrom_eq d n _ 0 hwf.1 (fun _ _ => Nat.zero_le _)]
  refine List.ext_getElem (by simp [hn]) fun i h₁ h₂ => ?_
  have hi : i < bs.length := by simp at h₂; omega
  simpa using readCell_writeCells d m 0 i bs hm hi

/-! #### Little-endian fields of a header -/

theorem leBytes_length (n v : Nat) : (leBytes n v).length = n := by
  induction n generalizing v with
  | zero => rfl
  | succ n ih => rw [leBytes, List.length_cons, ih]

theorem leBytes_two (v : Nat) : leBytes 2 v = [BitVec.ofNat 8 v, BitVec.ofNat 8 (v / 256)] := rfl

theorem field_two (bs : List Byte) (off : Nat) : field bs off 2 = (bs.getD off 0).toNat + 256 * (bs.getD (off + 1) 0).toNat := by
  simp [field, List.range_succ, leNat]

theorem leNat_two (v : U16) : (BitVec.ofNat 8 v.toNat).toNat + 256 * (BitVec.ofNat 8 (v.toNat / 256)).toNat = v.toNat := by
  have := v.isLt
  simp only [BitVec.toNat_ofNat]
  omega

/-- The eight bytes of a request's header (R211, R212). -/
def reqHeader (op : Byte) (r : Req) : List Byte :=
  [r.byte0, op] ++ leBytes 2 r.seq.toNat ++ leBytes 2 r.target.toNat ++ leBytes 2 r.length.toNat

theorem reqBytes_eq (op : Byte) (r : Req) : reqBytes op r = reqHeader op r ++ r.payload ++ r.trailer := rfl

theorem reqHeader_length (op : Byte) (r : Req) : (reqHeader op r).length = 8 := rfl

theorem reqHeader_seq (op : Byte) (r : Req) : field (reqHeader op r) 2 2 = r.seq.toNat := (field_two _ _).trans (leNat_two r.seq)
theorem reqHeader_target (op : Byte) (r : Req) : field (reqHeader op r) 4 2 = r.target.toNat := (field_two _ _).trans (leNat_two r.target)
theorem reqHeader_len (op : Byte) (r : Req) : field (reqHeader op r) 6 2 = r.length.toNat := (field_two _ _).trans (leNat_two r.length)

/-! #### The buffer of a rung mailbox -/

theorem State.rung_req (s : State) (op : Byte) (p : Side) (m : MbxNo) (r : Req) : ((s.rung op p m r).port.get p).mbx[m].req =
    writeCells 0 (s.port.get p).mbx[m].req 0 ((reqBytes op r).take (bufSize (mbxClass m))) := by
  simp [State.rung]

/-- A buffer of class 1 to 3 holds header, the longest payload of its class, and trailer (R208, R213). -/
theorem bufSize_of_class {m : MbxNo} (hm : 4 ≤ m.val) : 8 + maxLen (mbxClass m) + trailerLen (mbxClass m) = bufSize (mbxClass m) := by
  have hcls : mbxClass m = 1 ∨ mbxClass m = 2 ∨ mbxClass m = 3 := by
    unfold mbxClass
    rw [if_neg (by omega)]
    split
    · exact .inl rfl
    · split
      · exact .inr (.inl rfl)
      · exact .inr (.inr rfl)
  rcases hcls with h | h | h <;> rw [h] <;> rfl

/-- Settles O50: the bytes read are those written, cut into header, payload and trailer where the length says. -/
theorem requestsReadBack : Obligations.RequestsReadBack := by
  intro op p m r s hm hwf hpay hlen htr
  dsimp only
  have hbuf := bufSize_of_class hm
  have htotal : (reqBytes op r).length = 8 + r.length.toNat + trailerLen (mbxClass m) := by
    rw [reqBytes_eq, List.length_append, List.length_append, reqHeader_length, hpay, htr]
  have htake : (reqBytes op r).take (bufSize (mbxClass m)) = reqBytes op r := List.take_of_length_le (by omega)
  have hread : ∀ n ≤ (reqBytes op r).length, readCells 0 ((s.rung op p m r).port.get p).mbx[m].req 0 n = (reqBytes op r).take n := fun n hn => by
    rw [State.rung_req, htake, readCells_writeCells_take 0 _ _ n hwf hn]
  have hhdr : readCells 0 ((s.rung op p m r).port.get p).mbx[m].req 0 8 = reqHeader op r := by
    rw [hread 8 (by omega), reqBytes_eq, List.append_assoc, List.take_left' (reqHeader_length op r)]
  have hmin : min r.length.toNat (bufSize (mbxClass m) - 8 - trailerLen (mbxClass m)) = r.length.toNat := by omega
  have hall : readCells 0 ((s.rung op p m r).port.get p).mbx[m].req 0 (8 + r.length.toNat + trailerLen (mbxClass m)) =
      reqHeader op r ++ r.payload ++ r.trailer := by
    rw [hread _ htotal.ge, List.take_of_length_le htotal.le, reqBytes_eq]
  have hbody : (reqHeader op r ++ r.payload).length = 8 + r.length.toNat := by rw [List.length_append, reqHeader_length, hpay]
  simp only [State.readRequest, hhdr, reqHeader_len, hmin, hall, reqHeader_seq, reqHeader_target]
  refine ⟨?_, trivial, ?_⟩
  · congr 1
    · simp
    · simp
    · rw [List.append_assoc, List.drop_left' (reqHeader_length op r), List.take_left' hpay]
  · rw [List.drop_left' hbody, List.take_left' hbody, decide_true, Bool.true_and, beq_iff_eq]
    rfl

end Sys2Proof.Machine
end

section
/-! ### What an operation leaves as it is

Each operation of the model has a footprint: the parts of the state it can change. `State.blank ps` puts the parts `ps` at their reset values, so that
two states agree outside `ps` exactly when they are equal with `ps` blanked; footprints compose by rewriting. -/

namespace Sys2Proof.Machine

/-- The parts of the state: each field, single quays, legs, cells, lanes and trace regions, and of the collector the faults on their way. -/
inductive Part where
  | fuse | flash | boot | dl | prot | claims | params | tb | thm | supply | half | hm | ih
  | port | quay | groups | leg | brk | pins | cell | sd | lane | hw | trace | free | pending | flt | transit
  | quayAt (i : QuayNo) | legAt (i : LegNo) | cellAt (i : CellNo) | laneAt (i : LaneNo) | traceAt (i : Fin 16)
  deriving DecidableEq

/-- The field that a part lies in. -/
@[simp] def Part.whole : Part → Part
  | fuse => fuse | flash => flash | boot => boot | dl => dl | prot => prot | claims => claims | params => params
  | tb => tb | thm => thm | supply => supply | half => half | hm => hm | ih => ih | port => port
  | quay => quay | groups => groups | leg => leg | brk => brk | pins => pins | cell => cell | sd => sd
  | lane => lane | hw => hw | trace => trace | free => free | pending => pending | flt => flt | transit => transit
  | quayAt _ => quay | legAt _ => leg | cellAt _ => cell | laneAt _ => lane | traceAt _ => trace

/-- The quay that a part names. -/
def Part.quayNo : Part → Option (QuayNo)
  | quayAt i => some i
  | _ => none

/-- The leg that a part names. -/
def Part.legNo : Part → Option (LegNo)
  | legAt i => some i
  | _ => none

/-- The cell that a part names. -/
def Part.cellNo : Part → Option (CellNo)
  | cellAt i => some i
  | _ => none

/-- The lane that a part names. -/
def Part.laneNo : Part → Option (LaneNo)
  | laneAt i => some i
  | _ => none

/-- The trace region that a part names. -/
def Part.traceNo : Part → Option (Fin 16)
  | traceAt i => some i
  | _ => none

/-- Every part of `qs` lies in `ps`. -/
def Covers (ps qs : List Part) : Prop := ∀ p ∈ qs, p ∈ ps ∨ p.whole ∈ ps

@[simp] theorem covers_nil (ps : List Part) : Covers ps [] := fun _ h => absurd h List.not_mem_nil
@[simp] theorem covers_cons (ps qs : List Part) (p : Part) : Covers ps (p :: qs) ↔ (p ∈ ps ∨ p.whole ∈ ps) ∧ Covers ps qs :=
  List.forall_mem_cons

/-- A vector with some places taken from another. -/
def takeAt {α : Type} {n : Nat} (v w : Vector α n) : List (Fin n) → Vector α n
  | [] => v
  | i :: is => (takeAt v w is).set i w[i]

theorem getElem_takeAt {α : Type} {n : Nat} (v w : Vector α n) (is : List (Fin n)) (j : Fin n) :
    (takeAt v w is)[j] = if j ∈ is then w[j] else v[j] := by
  induction is with
  | nil => simp [takeAt]
  | cons i is ih =>
    by_cases hij : i = j
    · subst hij
      simp [takeAt]
    · have hset : (takeAt v w (i :: is))[j] = (takeAt v w is)[j] := Vector.getElem_set_ne i.isLt j.isLt (Fin.val_ne_of_ne hij)
      rw [hset, ih]
      simp [Ne.symm hij]

theorem takeAt_takeAt {α : Type} {n : Nat} (v u w : Vector α n) {is js : List (Fin n)} (h : js ⊆ is) :
    takeAt (takeAt v u js) w is = takeAt v w is := by
  refine Vector.ext fun j hj => ?_
  have hget : ∀ (x y : Vector α n) (ks : List (Fin n)), (takeAt x y ks)[j] = if ⟨j, hj⟩ ∈ ks then y[j] else x[j] :=
    fun x y ks => getElem_takeAt x y ks ⟨j, hj⟩
  rw [hget, hget, hget]
  split
  · rfl
  · next hi => rw [if_neg (fun hk => hi (h hk))]

theorem takeAt_self {α : Type} {n : Nat} (v : Vector α n) (is : List (Fin n)) : takeAt v v is = v :=
  Vector.ext fun j hj => (getElem_takeAt v v is ⟨j, hj⟩).trans (ite_self _)

theorem takeAt_vmod {α : Type} {n : Nat} (v w : Vector α n) {is : List (Fin n)} {i : Fin n} (h : i ∈ is) (f : α → α) :
    takeAt (vmod v i f) w is = takeAt v w is := by
  refine Vector.ext fun j hj => ?_
  have hget : ∀ x : Vector α n, (takeAt x w is)[j] = if ⟨j, hj⟩ ∈ is then w[j] else x[j] := fun x => getElem_takeAt x w is ⟨j, hj⟩
  rw [hget, hget]
  split
  · rfl
  · next hi => exact vmod_ne v (i := i) (j := ⟨j, hj⟩) f (fun hij => hi (hij ▸ h))

/-- The collector with other faults on their way. -/
def Collector.withTransit (f : Collector) (es : List FaultEvent) : Collector := { f with transit := es }

@[simp] theorem Collector.withTransit_transit (f : Collector) : f.withTransit f.transit = f := rfl
@[simp] theorem Collector.withTransit_withTransit (f : Collector) (es es' : List FaultEvent) : (f.withTransit es).withTransit es' = f.withTransit es' := rfl
@[simp] theorem Collector.transit_withTransit (f : Collector) (es : List FaultEvent) : (f.withTransit es).transit = es := rfl

/-- The state with the parts `ps` taken from another. -/
def State.take (ps : List Part) (s t : State) : State where
  fuse := if .fuse ∈ ps then t.fuse else s.fuse
  flash := if .flash ∈ ps then t.flash else s.flash
  boot := if .boot ∈ ps then t.boot else s.boot
  dl := if .dl ∈ ps then t.dl else s.dl
  prot := if .prot ∈ ps then t.prot else s.prot
  claims := if .claims ∈ ps then t.claims else s.claims
  params := if .params ∈ ps then t.params else s.params
  tb := if .tb ∈ ps then t.tb else s.tb
  thm := if .thm ∈ ps then t.thm else s.thm
  supply := if .supply ∈ ps then t.supply else s.supply
  half := if .half ∈ ps then t.half else s.half
  hm := if .hm ∈ ps then t.hm else s.hm
  ih := if .ih ∈ ps then t.ih else s.ih
  port := if .port ∈ ps then t.port else s.port
  quay := if .quay ∈ ps then t.quay else takeAt s.quay t.quay (ps.filterMap Part.quayNo)
  groups := if .groups ∈ ps then t.groups else s.groups
  leg := if .leg ∈ ps then t.leg else takeAt s.leg t.leg (ps.filterMap Part.legNo)
  brk := if .brk ∈ ps then t.brk else s.brk
  pins := if .pins ∈ ps then t.pins else s.pins
  cell := if .cell ∈ ps then t.cell else takeAt s.cell t.cell (ps.filterMap Part.cellNo)
  sd := if .sd ∈ ps then t.sd else s.sd
  lane := if .lane ∈ ps then t.lane else takeAt s.lane t.lane (ps.filterMap Part.laneNo)
  hw := if .hw ∈ ps then t.hw else s.hw
  trace := if .trace ∈ ps then t.trace else takeAt s.trace t.trace (ps.filterMap Part.traceNo)
  free := if .free ∈ ps then t.free else s.free
  pending := if .pending ∈ ps then t.pending else s.pending
  flt := (if .flt ∈ ps then t.flt else s.flt).withTransit (if .transit ∈ ps then t.flt.transit else s.flt.transit)

/-- The state with the parts `ps` at their reset values. -/
def State.blank (ps : List Part) (s : State) : State := s.take ps .reset

theorem State.take_self (ps : List Part) (s : State) : s.take ps s = s := by
  simp only [State.take, takeAt_self, ite_self, Collector.withTransit_transit]

theorem Covers.mem {ps qs : List Part} (h : Covers ps qs) {p : Part} (hp : p.whole = p) (hq : p ∈ qs) : p ∈ ps :=
  (h p hq).elim id fun hw => hp ▸ hw

theorem ite_mem_mem {ps qs : List Part} (h : Covers ps qs) {p : Part} (hp : p.whole = p) {α : Type} (x y z : α) :
    (if p ∈ ps then x else if p ∈ qs then y else z) = if p ∈ ps then x else z := by
  split
  · rfl
  · next hps => rw [if_neg (fun hq => hps (h.mem hp hq))]

theorem ite_takeAt_mem {ps qs : List Part} (h : Covers ps qs) {p : Part} (hp : p.whole = p) {n : Nat} {g : Part → Option (Fin n)}
    (hg : ∀ a i, g a = some i → a.whole = p ∧ ∀ b, g b = some i → a = b) {α : Type} (x y z : Vector α n) :
    (if p ∈ ps then x else takeAt (if p ∈ qs then y else takeAt z y (qs.filterMap g)) x (ps.filterMap g)) =
      if p ∈ ps then x else takeAt z x (ps.filterMap g) := by
  split
  · rfl
  · next hps =>
    rw [if_neg (fun hq => hps (h.mem hp hq)), takeAt_takeAt]
    intro i hi
    obtain ⟨a, ha, hai⟩ := List.mem_filterMap.1 hi
    exact List.mem_filterMap.2 ⟨a, (h a ha).resolve_right fun hw => hps ((hg a i hai).1 ▸ hw), hai⟩

theorem Part.quayNo_eq_some (a : Part) (i) (h : a.quayNo = some i) : a.whole = .quay ∧ ∀ b : Part, b.quayNo = some i → a = b := by
  cases a <;> cases h
  exact ⟨rfl, fun b hb => by cases b <;> cases hb; rfl⟩
theorem Part.legNo_eq_some (a : Part) (i) (h : a.legNo = some i) : a.whole = .leg ∧ ∀ b : Part, b.legNo = some i → a = b := by
  cases a <;> cases h
  exact ⟨rfl, fun b hb => by cases b <;> cases hb; rfl⟩
theorem Part.cellNo_eq_some (a : Part) (i) (h : a.cellNo = some i) : a.whole = .cell ∧ ∀ b : Part, b.cellNo = some i → a = b := by
  cases a <;> cases h
  exact ⟨rfl, fun b hb => by cases b <;> cases hb; rfl⟩
theorem Part.laneNo_eq_some (a : Part) (i) (h : a.laneNo = some i) : a.whole = .lane ∧ ∀ b : Part, b.laneNo = some i → a = b := by
  cases a <;> cases h
  exact ⟨rfl, fun b hb => by cases b <;> cases hb; rfl⟩
theorem Part.traceNo_eq_some (a : Part) (i) (h : a.traceNo = some i) : a.whole = .trace ∧ ∀ b : Part, b.traceNo = some i → a = b := by
  cases a <;> cases h
  exact ⟨rfl, fun b hb => by cases b <;> cases hb; rfl⟩

/-- Taking more parts forgets what was taken before. -/
theorem State.take_take {ps qs : List Part} (h : Covers ps qs) (s t u : State) : (s.take qs u).take ps t = s.take ps t := by
  simp (disch := decide) only [State.take, ite_mem_mem h, ite_takeAt_mem h rfl Part.quayNo_eq_some, ite_takeAt_mem h rfl Part.legNo_eq_some, ite_takeAt_mem h rfl Part.cellNo_eq_some, ite_takeAt_mem h rfl Part.laneNo_eq_some, ite_takeAt_mem h rfl Part.traceNo_eq_some, Collector.transit_withTransit]
  congr 1
  rw [← ite_mem_mem h (p := .flt) rfl t.flt u.flt s.flt]
  split <;> split <;> rfl

theorem State.blank_take {ps : List Part} (s t : State) : (s.blank ps).take ps t = s.take ps t :=
  State.take_take (fun _ hp => .inl hp) s t _

/-- A state that agrees with `s` outside `ps` is `s` with its own parts `ps`. -/
theorem State.eq_take {ps : List Part} {s t : State} (h : t.blank ps = s.blank ps) : t = s.take ps t := by
  rw [← State.blank_take, ← h, State.blank_take, State.take_self]

/-- What leaves all but some parts leaves all but more. -/
theorem State.blank_mono {ps qs : List Part} {s t : State} (h : t.blank qs = s.blank qs) (hqs : Covers ps qs) : t.blank ps = s.blank ps := by
  rw [State.blank, ← State.take_take hqs t _ .reset, State.blank, ← State.take_take hqs s _ .reset]
  exact congrArg (State.take ps · .reset) h

theorem getElem_takeAt_of_not_mem {α : Type} {n : Nat} {v w : Vector α n} {is : List (Fin n)} {j : Fin n} (h : j ∉ is) :
    (takeAt v w is)[j] = v[j] := (getElem_takeAt v w is j).trans (if_neg h)

theorem Part.not_mem_filterMap {ps : List Part} {n : Nat} {g : Part → Option (Fin n)} {p q : Part} {i : Fin n}
    (hg : ∀ a i, g a = some i → a.whole = p ∧ ∀ b, g b = some i → a = b) (hq : g q = some i) (h : q ∉ ps) : i ∉ ps.filterMap g := by
  intro hmem
  obtain ⟨a, ha, hai⟩ := List.mem_filterMap.1 hmem
  exact h ((hg a i hai).2 q hq ▸ ha)

section
variable {ps : List Part} {s t : State} (h : t.blank ps = s.blank ps)
include h

theorem State.fuse_of_blank (hp : .fuse ∉ ps) : t.fuse = s.fuse := (congrArg State.fuse (State.eq_take h)).trans (if_neg hp)
theorem State.flash_of_blank (hp : .flash ∉ ps) : t.flash = s.flash := (congrArg State.flash (State.eq_take h)).trans (if_neg hp)
theorem State.boot_of_blank (hp : .boot ∉ ps) : t.boot = s.boot := (congrArg State.boot (State.eq_take h)).trans (if_neg hp)
theorem State.dl_of_blank (hp : .dl ∉ ps) : t.dl = s.dl := (congrArg State.dl (State.eq_take h)).trans (if_neg hp)
theorem State.prot_of_blank (hp : .prot ∉ ps) : t.prot = s.prot := (congrArg State.prot (State.eq_take h)).trans (if_neg hp)
theorem State.claims_of_blank (hp : .claims ∉ ps) : t.claims = s.claims := (congrArg State.claims (State.eq_take h)).trans (if_neg hp)
theorem State.params_of_blank (hp : .params ∉ ps) : t.params = s.params := (congrArg State.params (State.eq_take h)).trans (if_neg hp)
theorem State.tb_of_blank (hp : .tb ∉ ps) : t.tb = s.tb := (congrArg State.tb (State.eq_take h)).trans (if_neg hp)
theorem State.thm_of_blank (hp : .thm ∉ ps) : t.thm = s.thm := (congrArg State.thm (State.eq_take h)).trans (if_neg hp)
theorem State.supply_of_blank (hp : .supply ∉ ps) : t.supply = s.supply := (congrArg State.supply (State.eq_take h)).trans (if_neg hp)
theorem State.half_of_blank (hp : .half ∉ ps) : t.half = s.half := (congrArg State.half (State.eq_take h)).trans (if_neg hp)
theorem State.hm_of_blank (hp : .hm ∉ ps) : t.hm = s.hm := (congrArg State.hm (State.eq_take h)).trans (if_neg hp)
theorem State.ih_of_blank (hp : .ih ∉ ps) : t.ih = s.ih := (congrArg State.ih (State.eq_take h)).trans (if_neg hp)
theorem State.port_of_blank (hp : .port ∉ ps) : t.port = s.port := (congrArg State.port (State.eq_take h)).trans (if_neg hp)
theorem State.groups_of_blank (hp : .groups ∉ ps) : t.groups = s.groups := (congrArg State.groups (State.eq_take h)).trans (if_neg hp)
theorem State.brk_of_blank (hp : .brk ∉ ps) : t.brk = s.brk := (congrArg State.brk (State.eq_take h)).trans (if_neg hp)
theorem State.pins_of_blank (hp : .pins ∉ ps) : t.pins = s.pins := (congrArg State.pins (State.eq_take h)).trans (if_neg hp)
theorem State.sd_of_blank (hp : .sd ∉ ps) : t.sd = s.sd := (congrArg State.sd (State.eq_take h)).trans (if_neg hp)
theorem State.hw_of_blank (hp : .hw ∉ ps) : t.hw = s.hw := (congrArg State.hw (State.eq_take h)).trans (if_neg hp)
theorem State.free_of_blank (hp : .free ∉ ps) : t.free = s.free := (congrArg State.free (State.eq_take h)).trans (if_neg hp)
theorem State.pending_of_blank (hp : .pending ∉ ps) : t.pending = s.pending := (congrArg State.pending (State.eq_take h)).trans (if_neg hp)
theorem State.transit_of_blank (hp : .transit ∉ ps) : t.flt.transit = s.flt.transit :=
  (congrArg (fun u => u.flt.transit) (State.eq_take h)).trans (if_neg hp)
theorem State.flt_of_blank (hp : .flt ∉ ps) : t.flt = s.flt.withTransit t.flt.transit := by
  have hflt : t.flt = (if .flt ∈ ps then t.flt else s.flt).withTransit (if .transit ∈ ps then t.flt.transit else s.flt.transit) :=
    congrArg State.flt (State.eq_take h)
  rw [if_neg hp] at hflt
  rw [hflt]
  rfl
end

theorem State.quay_of_blank {ps : List Part} {s t : State} (h : t.blank ps = s.blank ps) {q : QuayNo} (hp : .quay ∉ ps ∧ .quayAt q ∉ ps) :
    t.quay[q] = s.quay[q] := by
  have hall : t.quay = takeAt s.quay t.quay (ps.filterMap Part.quayNo) := (congrArg State.quay (State.eq_take h)).trans (if_neg hp.1)
  rw [hall, getElem_takeAt_of_not_mem (Part.not_mem_filterMap Part.quayNo_eq_some rfl hp.2)]

theorem State.leg_of_blank {ps : List Part} {s t : State} (h : t.blank ps = s.blank ps) {l : LegNo} (hp : .leg ∉ ps ∧ .legAt l ∉ ps) :
    t.leg[l] = s.leg[l] := by
  have hall : t.leg = takeAt s.leg t.leg (ps.filterMap Part.legNo) := (congrArg State.leg (State.eq_take h)).trans (if_neg hp.1)
  rw [hall, getElem_takeAt_of_not_mem (Part.not_mem_filterMap Part.legNo_eq_some rfl hp.2)]

theorem State.cell_of_blank {ps : List Part} {s t : State} (h : t.blank ps = s.blank ps) {k : CellNo} (hp : .cell ∉ ps ∧ .cellAt k ∉ ps) :
    t.cell[k] = s.cell[k] := by
  have hall : t.cell = takeAt s.cell t.cell (ps.filterMap Part.cellNo) := (congrArg State.cell (State.eq_take h)).trans (if_neg hp.1)
  rw [hall, getElem_takeAt_of_not_mem (Part.not_mem_filterMap Part.cellNo_eq_some rfl hp.2)]

theorem State.lane_of_blank {ps : List Part} {s t : State} (h : t.blank ps = s.blank ps) {n : LaneNo} (hp : .lane ∉ ps ∧ .laneAt n ∉ ps) :
    t.lane[n] = s.lane[n] := by
  have hall : t.lane = takeAt s.lane t.lane (ps.filterMap Part.laneNo) := (congrArg State.lane (State.eq_take h)).trans (if_neg hp.1)
  rw [hall, getElem_takeAt_of_not_mem (Part.not_mem_filterMap Part.laneNo_eq_some rfl hp.2)]

theorem State.trace_of_blank {ps : List Part} {s t : State} (h : t.blank ps = s.blank ps) {r : Fin 16} (hp : .trace ∉ ps ∧ .traceAt r ∉ ps) :
    t.trace[r] = s.trace[r] := by
  have hall : t.trace = takeAt s.trace t.trace (ps.filterMap Part.traceNo) := (congrArg State.trace (State.eq_take h)).trans (if_neg hp.1)
  rw [hall, getElem_takeAt_of_not_mem (Part.not_mem_filterMap Part.traceNo_eq_some rfl hp.2)]

/-! #### The footprints of the updates -/

section
variable {ps : List Part} (s : State)

@[simp] theorem State.modQuay_blank (i : QuayNo) (h : .quayAt i ∈ ps ∨ .quay ∈ ps) (f : Quay → Quay) : (s.modQuay i f).blank ps = s.blank ps := by
  rcases h with h | h
  · have hi : i ∈ ps.filterMap Part.quayNo := List.mem_filterMap.2 ⟨_, h, rfl⟩
    simp [blank, take, takeAt_vmod _ _ hi]
  · simp [blank, take, h]
@[simp] theorem State.modLeg_blank (i : LegNo) (h : .legAt i ∈ ps ∨ .leg ∈ ps) (f : Leg → Leg) : (s.modLeg i f).blank ps = s.blank ps := by
  rcases h with h | h
  · have hi : i ∈ ps.filterMap Part.legNo := List.mem_filterMap.2 ⟨_, h, rfl⟩
    simp [blank, take, takeAt_vmod _ _ hi]
  · simp [blank, take, h]
@[simp] theorem State.modCell_blank (i : CellNo) (h : .cellAt i ∈ ps ∨ .cell ∈ ps) (f : Cell → Cell) : (s.modCell i f).blank ps = s.blank ps := by
  rcases h with h | h
  · have hi : i ∈ ps.filterMap Part.cellNo := List.mem_filterMap.2 ⟨_, h, rfl⟩
    simp [blank, take, takeAt_vmod _ _ hi]
  · simp [blank, take, h]
@[simp] theorem State.modLane_blank (i : LaneNo) (h : .laneAt i ∈ ps ∨ .lane ∈ ps) (f : Lane → Lane) : (s.modLane i f).blank ps = s.blank ps := by
  rcases h with h | h
  · have hi : i ∈ ps.filterMap Part.laneNo := List.mem_filterMap.2 ⟨_, h, rfl⟩
    simp [blank, take, takeAt_vmod _ _ hi]
  · simp [blank, take, h]
@[simp] theorem State.modTrace_blank (i : Fin 16) (h : .traceAt i ∈ ps ∨ .trace ∈ ps) (f : TraceRegion → TraceRegion) : (s.modTrace i f).blank ps = s.blank ps := by
  rcases h with h | h
  · have hi : i ∈ ps.filterMap Part.traceNo := List.mem_filterMap.2 ⟨_, h, rfl⟩
    simp [blank, take, takeAt_vmod _ _ hi]
  · simp [blank, take, h]
@[simp] theorem State.modBrk_blank (h : .brk ∈ ps) (i : Fin 4) (f : Chopper → Chopper) : (s.modBrk i f).blank ps = s.blank ps := by
  simp [blank, take, h]
@[simp] theorem State.modSd_blank (h : .sd ∈ ps) (i : Fin 16) (f : SigmaDelta → SigmaDelta) : (s.modSd i f).blank ps = s.blank ps := by
  simp [blank, take, h]
@[simp] theorem State.modHalf_blank (h : .half ∈ ps) (i : Side) (f : Half → Half) : (s.modHalf i f).blank ps = s.blank ps := by
  simp [blank, take, h]
@[simp] theorem State.modPort_blank (h : .port ∈ ps) (i : Side) (f : Port → Port) : (s.modPort i f).blank ps = s.blank ps := by
  simp [blank, take, h]
@[simp] theorem State.modBoot_blank (h : .boot ∈ ps) (f : Boot → Boot) : (s.modBoot f).blank ps = s.blank ps := by
  simp [blank, take, h]
@[simp] theorem State.modTb_blank (h : .tb ∈ ps) (f : TimeBase → TimeBase) : (s.modTb f).blank ps = s.blank ps := by
  simp [blank, take, h]
@[simp] theorem State.modThm_blank (h : .thm ∈ ps) (f : Thermal → Thermal) : (s.modThm f).blank ps = s.blank ps := by
  simp [blank, take, h]
@[simp] theorem State.modSupply_blank (h : .supply ∈ ps) (f : Supply → Supply) : (s.modSupply f).blank ps = s.blank ps := by
  simp [blank, take, h]
@[simp] theorem State.modHm_blank (h : .hm ∈ ps) (f : Harbour → Harbour) : (s.modHm f).blank ps = s.blank ps := by
  simp [blank, take, h]
@[simp] theorem State.modIh_blank (h : .ih ∈ ps) (f : Channel → Channel) : (s.modIh f).blank ps = s.blank ps := by
  simp [blank, take, h]
@[simp] theorem State.modHw_blank (h : .hw ∈ ps) (f : Hawser → Hawser) : (s.modHw f).blank ps = s.blank ps := by
  simp [blank, take, h]
@[simp] theorem State.modPins_blank (h : .pins ∈ ps) (f : Pins → Pins) : (s.modPins f).blank ps = s.blank ps := by
  simp [blank, take, h]
@[simp] theorem State.modDl_blank (h : .dl ∈ ps) (f : Download → Download) : (s.modDl f).blank ps = s.blank ps := by
  simp [blank, take, h]
@[simp] theorem State.modHwPort_blank (h : .hw ∈ ps) (p : Side) (f : HwPort → HwPort) : (s.modHwPort p f).blank ps = s.blank ps := by
  simp [blank, take, h, modHwPort]
@[simp] theorem State.drawn_blank (h : .free ∈ ps) : s.drawn.blank ps = s.blank ps := by
  simp [blank, take, h]
@[simp] theorem State.groups_blank (h : .groups ∈ ps) (gs : List GroupMove) : ({ s with groups := gs } : State).blank ps = s.blank ps := by
  simp [blank, take, h]
@[simp] theorem State.modFlt_blank (hf : .flt ∈ ps) (ht : .transit ∈ ps) (f : Collector → Collector) : (s.modFlt f).blank ps = s.blank ps := by
  simp [blank, take, hf, ht]
@[simp] theorem State.raise_blank (h : .transit ∈ ps) (e : FaultEvent) : (s.raise e).blank ps = s.blank ps := by
  simp only [blank, take, h, if_true, State.raise, State.modFlt]
  congr 1
  split <;> rfl

theorem forAll_blank_of_mem {α : Type} (xs : List α) (f : State → α → State) (h : ∀ t, ∀ a ∈ xs, (f t a).blank ps = t.blank ps) :
    (forAll xs s f).blank ps = s.blank ps := by
  unfold forAll
  induction xs generalizing s with
  | nil => rfl
  | cons x xs ih => rw [List.foldl_cons, ih _ fun t a ha => h t a (List.mem_cons_of_mem _ ha), h _ _ List.mem_cons_self]

@[simp] theorem forAll_blank {α : Type} (xs : List α) (f : State → α → State) (h : ∀ t a, (f t a).blank ps = t.blank ps) :
    (forAll xs s f).blank ps = s.blank ps := forAll_blank_of_mem s xs f fun t a _ => h t a

@[simp] theorem foldl_blank {α : Type} (xs : List α) (f : State → α → State) (h : ∀ t a, (f t a).blank ps = t.blank ps) :
    (xs.foldl f s).blank ps = s.blank ps := forAll_blank s xs f h

theorem State.ite_blank {c : Prop} [Decidable c] (t u : State) :
    (if c then t else u).blank ps = if c then t.blank ps else u.blank ps := apply_ite _ _ _ _
end

end Sys2Proof.Machine
end

section
/-! #### The footprints of operations on legs, quays, groups and the grant -/

namespace Sys2Proof.Machine

theorem LegsOnly.blank {s t : State} (h : LegsOnly s t) : t.blank [.leg, .lane] = s.blank [.leg, .lane] := by
  rw [LegsOnly] at h
  rw [h]
  rfl

section
variable {ps : List Part} (s : State)

@[simp] theorem State.syncLegs_blank (old : State) (h : Covers ps [.leg, .lane]) : (old.syncLegs s).blank ps = s.blank ps :=
  State.blank_mono (LegsOnly.syncLegs old s).blank h
@[simp] theorem State.sendMask_blank (ls : List LegNo) (mk : Byte → GwFrame) (h : Covers ps [.leg, .lane]) :
    (s.sendMask ls mk).blank ps = s.blank ps := State.blank_mono (LegsOnly.sendMask s ls mk).blank h
@[simp] theorem State.releaseLegs_blank (q : QuayNo) (h : Covers ps [.leg, .lane]) : (s.releaseLegs q).blank ps = s.blank ps :=
  State.blank_mono (LegsOnly.releaseLegs s q).blank h

@[simp] theorem State.event_blank (h : .port ∈ ps) (o : AcceptedOp) (st : Byte) (a : U16) (n : Nat) :
    (s.event o st a n).blank ps = s.blank ps := by
  simp [State.event, h]
@[simp] theorem State.eventOpt_blank (h : .port ∈ ps) (o : Option AcceptedOp) (st : Byte) (a : U16) (n : Nat) :
    (s.eventOpt o st a n).blank ps = s.blank ps := by
  cases o <;> simp [State.eventOpt, h]
@[simp] theorem State.eventAll_blank (h : .port ∈ ps) (os : List AcceptedOp) (st : Byte) (a : U16) (n : Nat) :
    (s.eventAll os st a n).blank ps = s.blank ps := by
  simp [State.eventAll, h]
@[simp] theorem State.post_blank (h : .ih ∈ ps) (g : Side) (m : IhMsg) : (s.post g m).blank ps = s.blank ps := by
  simp [State.post, h]
@[simp] theorem State.sendLane_blank (n : LaneNo) (h : .laneAt n ∈ ps ∨ .lane ∈ ps) (f : GwFrame) : (s.sendLane n f).blank ps = s.blank ps := by
  simp [State.sendLane, h]
@[simp] theorem State.rewriteTable_blank (q : QuayNo) (h : .quayAt q ∈ ps ∨ .quay ∈ ps) : (s.rewriteTable q).blank ps = s.blank ps := by
  simp [State.rewriteTable, State.ite_blank, h]
@[simp] theorem State.zeroRefs_blank (q : QuayNo) (h : .quayAt q ∈ ps ∨ .quay ∈ ps) : (s.zeroRefs q).blank ps = s.blank ps := by
  simp [State.zeroRefs, State.ite_blank, h]
@[simp] theorem State.cutSteps_blank (q : QuayNo) (h : .quayAt q ∈ ps ∨ .quay ∈ ps) : (s.cutSteps q).blank ps = s.blank ps := by
  simp [State.cutSteps, h]
@[simp] theorem State.leaveShare_blank (q : QuayNo) (h : .quayAt q ∈ ps ∨ .quay ∈ ps) : (s.leaveShare q).blank ps = s.blank ps := by
  simp [State.leaveShare, State.ite_blank, h]
@[simp] theorem State.leaveGroup_blank (h : .groups ∈ ps) (q : QuayNo) : (s.leaveGroup q).blank ps = s.blank ps := by
  simp [State.leaveGroup, h]
@[simp] theorem State.publish_blank (q : QuayNo) (h : Covers ps [.quayAt q, .ih]) : (s.publish q).blank ps = s.blank ps := by
  simp at h
  unfold State.publish
  split <;> simp [State.ite_blank, h]
@[simp] theorem State.modCore_blank (q : QuayNo) (f : AxisCore → AxisCore) (h : Covers ps [.quayAt q, .ih]) : (s.modCore q f).blank ps = s.blank ps := by
  simp at h
  simp [State.modCore, h]
@[simp] theorem State.abandon_blank (q : QuayNo) (arm start : Bool) (h : Covers ps [.quayAt q, .port]) :
    (s.abandon q arm start).blank ps = s.blank ps := by
  simp at h
  simp [State.abandon, State.ite_blank, h]
@[simp] theorem State.afterEnter_blank (q : QuayNo) (st : AxisState) (h : Covers ps [.quayAt q, .leg, .lane]) :
    (s.afterEnter q st).blank ps = s.blank ps := by
  simp at h
  simp [State.afterEnter, State.ite_blank, h]
/-- A transition of a quay changes this quay, its event entries, group motions, legs and lanes, and the channel (R270, R277). -/
@[simp] theorem State.enter_blank (q : QuayNo) (st : AxisState) (k : StopKind) (h : Covers ps [.quayAt q, .port, .groups, .leg, .lane, .ih]) :
    (s.enter q st k).blank ps = s.blank ps := by
  simp at h
  simp [State.enter, State.ite_blank, h]
@[simp] theorem State.enterStopping_blank (q : QuayNo) (k : StopKind) (h : Covers ps [.quayAt q, .port, .groups, .leg, .lane, .ih]) :
    (s.enterStopping q k).blank ps = s.blank ps := by
  simp at h
  simp [State.enterStopping, h]
@[simp] theorem State.standAlone_blank (q : QuayNo) (h : Covers ps [.quayAt q, .port, .groups, .leg, .lane, .ih]) :
    (s.standAlone q).blank ps = s.blank ps := by
  simp at h
  unfold State.standAlone
  split
  · simp [h]
  · split <;> simp [State.ite_blank, h]
@[simp] theorem State.goAlone_blank (q : QuayNo) (h : Covers ps [.quayAt q, .port, .groups, .leg, .lane, .ih]) :
    (s.goAlone q).blank ps = s.blank ps := by
  simp at h
  unfold State.goAlone
  split <;> simp [State.ite_blank, h]
@[simp] theorem State.dropGroup_blank (g : GroupMove) (h : Covers ps [.groups, .port, .quay]) : (s.dropGroup g).blank ps = s.blank ps := by
  simp at h
  simp [State.dropGroup, h]
@[simp] theorem State.continueCopy_blank (q : QuayNo) (h : Covers ps [.port, .quay]) : (s.continueCopy q).blank ps = s.blank ps := by
  simp at h
  simp [State.continueCopy, h]
@[simp] theorem State.cmdFrame_blank (q : QuayNo) (n : LaneNo) (h : .laneAt n ∈ ps ∨ .lane ∈ ps) (t : Nat) :
    (s.cmdFrame q n t).blank ps = s.blank ps := by
  simp [State.cmdFrame, State.ite_blank, h]
@[simp] theorem State.promote_blank (h : Covers ps [.leg, .lane]) : s.promote.blank ps = s.blank ps := by
  simp at h
  have hframes : ∀ (u : State) (q : QuayNo) (c : LaneNo → Prop) [DecidablePred c] (t : Nat),
      (forAll (List.finRange 20) u (fun v n => if c n then v.cmdFrame q n t else v)).blank ps = u.blank ps := by
    simp [State.ite_blank, h]
  simp [State.promote, State.ite_blank, h, hframes]
/-- A grant changes the Harbourmaster, the channel, quays, ports, group motions, legs and lanes (R940 to R964). -/
@[simp] theorem State.grantTo_blank (g : Side) (h : Covers ps [.hm, .ih, .quay, .port, .groups, .leg, .lane]) :
    (s.grantTo g).blank ps = s.blank ps := by
  simp at h
  simp [State.grantTo, State.ite_blank, h]
@[simp] theorem State.evalForce_blank (h : Covers ps [.hm, .ih, .quay, .port, .groups, .leg, .lane]) : s.evalForce.blank ps = s.blank ps := by
  simp at h
  unfold State.evalForce
  split
  · simp [h]
  · split <;> simp [State.ite_blank, h]
@[simp] theorem State.raiseQuay_blank (h : .transit ∈ ps) (src : Nat) (q : QuayNo) (ctx : Ctx) : (s.raiseQuay src q ctx).blank ps = s.blank ps :=
  s.raise_blank h _
@[simp] theorem State.raiseDevice_blank (h : .transit ∈ ps) (src : Nat) (ctx : Ctx) : (s.raiseDevice src ctx).blank ps = s.blank ps :=
  s.raise_blank h _
@[simp] theorem State.raiseHalf_blank (h : .transit ∈ ps) (src : Nat) (g : Side) (ctx : Ctx) : (s.raiseHalf src g ctx).blank ps = s.blank ps :=
  s.raise_blank h _
end

end Sys2Proof.Machine
end

section
/-! ### Reset and start-up (R129 to R151, R164) -/

namespace Sys2Proof.Machine

/-! #### Leaving and entering device reset -/

theorem execPowerGood_of_bad {s : State} (h : s.boot.powerGood = false) (hr : s.boot.rstN = true) : execPowerGood s =
    .next { s with
      boot := { s.boot with powerGood := true, bootsel := (Config.freeWord s.free).setWidth 2, mpref := Config.freeBit s.free, stage := .lockWait, phase := 0 }
      free := s.free + 1 } := by
  rw [execPowerGood, if_neg (by simp [h])]
  dsimp only
  rw [if_pos hr]
  rfl

/-- Settles O9, by the level of the line that the event changes. -/
theorem resetLines : Obligations.ResetLines := by
  refine ⟨fun s hp => ⟨fun hr => ?_, fun hr => ?_⟩, fun bs mp s hr => ?_, fun bs mp s => ⟨fun hp => if_pos hp, fun hr => if_pos hr⟩, ?_⟩
  · exact ⟨_, _, _, execPowerGood_of_bad hp hr, rfl, rfl⟩
  · simp [exec, execPowerGood, hp, hr, State.modBoot]
  · by_cases hp : s.boot.powerGood = true <;> simp [exec, execRstNRelease, hr, hp, State.modBoot, State.leaveReset]
  · refine ⟨fun s hr => if_pos hr, fun s hr => if_neg (by simp [hr]), fun below s hb => if_neg hb, fun s => ?_⟩
    rw [exec, execBrownOut, if_pos rfl]

/-! #### BOOT_HALT and the end of discovery -/

/-- A halt changes boot registers, grant, halves, Hawser ring, lanes, choppers and legs alone (R166 to R168). -/
theorem State.bootHalt_spec (s : State) (h : Halt) : ∃ t : State, s.bootHalt h = t ∧
    t.boot = { s.boot with stage := .halted, phase := 0xF, haltCause := BitVec.ofNat 8 h.1, haltDetail := BitVec.ofNat 16 h.2, debugPolicy := 1 } ∧
    t.hm = { s.hm with grant := none } ∧ t.half = ⟨{ s.half.a with run := false }, { s.half.b with run := false }⟩ ∧
    t.hw = { s.hw with mode := .alone, ports := ⟨{}, {}⟩ } ∧ t.brk = s.brk.map (fun b => { b with on := false }) ∧
    t = { s with boot := t.boot, hm := t.hm, half := t.half, hw := t.hw, lane := t.lane, brk := t.brk, leg := t.leg } := by
  refine ⟨_, rfl, ?_⟩
  unfold State.bootHalt
  extract_lets s1 s2
  have hlegs := LegsOnly.syncLegs s ({ s2 with
    lane := s2.lane.map (fun x => { x with st := .down, rxOk := false, tx := [] })
    brk := s2.brk.map (fun b => { b with on := false })
    half := ⟨{ s2.half.a with run := false }, { s2.half.b with run := false }⟩ } : State)
  generalize s.syncLegs _ = t at hlegs ⊢
  rw [LegsOnly] at hlegs
  rw [hlegs]
  exact ⟨rfl, rfl, rfl, rfl, rfl, rfl⟩

theorem execTimeBaseLock_of_lockWait {s : State} (h : s.boot.stage = .lockWait) : execTimeBaseLock s = .next { s with
    tb := { s.tb with lock := true, now := 0 }
    dl := if s.boot.bootsel = 1 ∨ s.boot.bootsel = 2 then { s.dl with active := true, wait := true } else s.dl
    boot := if s.boot.bootsel = 1 then { s.boot with stage := .imageRead, phase := 1, src := 2, half := ⟨.nothing, .nothing⟩ }
            else if s.boot.bootsel = 2 then { s.boot with stage := .imageRead, phase := 1, src := 3, half := ⟨.nothing, .nothing⟩ }
            else { s.boot with stage := .imageRead, phase := 1 } } := by
  rw [execTimeBaseLock, if_pos h]
  dsimp only
  by_cases h1 : s.boot.bootsel = 1
  · simp only [if_pos h1, if_pos (Or.inl h1 : s.boot.bootsel = 1 ∨ s.boot.bootsel = 2)]
    rfl
  · by_cases h2 : s.boot.bootsel = 2
    · simp only [if_neg h1, if_pos h2, if_pos (Or.inr h2 : s.boot.bootsel = 1 ∨ s.boot.bootsel = 2)]
      rfl
    · simp only [if_neg h1, if_neg h2, if_neg (not_or.2 ⟨h1, h2⟩)]
      rfl

theorem execDiscoveryEnd_of_time {s : State} (hs : s.boot.stage = .discovery)
    (ht : s.allMatched = true ∨ s.boot.step10At + 6400 * devDiscoveryWindow s ≤ s.now) :
    execDiscoveryEnd s = match s.untrained with
    | some n => if s.hasDies then .next (s.bootHalt (0x12, n.val - 16)) else .next s.becomeReady
    | none => .next s.becomeReady := if_pos ⟨hs, ht⟩

@[simp] theorem State.splitMember_blank {ps : List Part} (s : State) (q : QuayNo) (h : Covers ps [.quay, .port, .groups, .leg, .lane, .ih]) :
    (s.splitMember q).blank ps = s.blank ps := by
  simp at h
  simp [State.splitMember, State.ite_blank, h]

@[simp] theorem State.formGroup_blank {ps : List Part} (s : State) (heard : Bool) (g : Nat)
    (h : Covers ps [.quay, .port, .groups, .leg, .lane, .ih, .transit]) : (s.formGroup heard g).blank ps = s.blank ps := by
  simp at h
  simp [State.formGroup, State.ite_blank, h]

/-- Forming the share groups changes quays, ports, group motions, legs, lanes, the channel and faults on their way (R559). -/
@[simp] theorem State.formGroups_blank {ps : List Part} (s : State) (heard : Bool)
    (h : Covers ps [.quay, .port, .groups, .leg, .lane, .ih, .transit]) : (s.formGroups heard).blank ps = s.blank ps := by
  simp at h
  simp [State.formGroups, h]

theorem State.formGroups_boot (s : State) (heard : Bool) : (s.formGroups heard).boot = s.boot :=
  State.boot_of_blank (s.formGroups_blank heard (ps := [.quay, .port, .groups, .leg, .lane, .ih, .transit]) (by simp)) (by simp)

/-- Becoming READY without debug policy 3 sets BOOT_PHASE, stage and commit count alone, of the boot registers (R143). -/
theorem State.becomeReady_boot {s : State} (h : s.boot.debugPolicy ≠ 3) :
    s.becomeReady.boot = { s.boot with stage := .ready, phase := 6, commitCount := 0 } := by
  have hboot := (s.modBoot (fun b => { b with stage := .ready, phase := 6, commitCount := 0 })).formGroups_boot false
  unfold State.becomeReady
  extract_lets s1
  rw [if_neg (by rw [hboot]; exact h)]
  exact hboot

/-- Under debug policy 3 it also opens the debug port, with its marks and its fault (R190). -/
theorem State.becomeReady_open {s : State} (h : s.boot.debugPolicy = 3) :
    (∀ p, (s.becomeReady.port.get p).irqBound = true) ∧ (∃ e ∈ s.becomeReady.flt.transit, e.src = srcDebugOpen ∧ e.scope = 0xFF) ∧
      s.becomeReady.boot = { s.boot with stage := .ready, phase := 6, commitCount := 0, debugOpen := true, boundVoid := true } := by
  have hboot := (s.modBoot (fun b => { b with stage := .ready, phase := 6, commitCount := 0 })).formGroups_boot false
  unfold State.becomeReady
  extract_lets s1 irq
  rw [if_pos (by rw [hboot]; exact h)]
  have hone : s1.boot = _ := hboot
  clear_value s1
  refine ⟨fun p => ?_, ⟨_, List.mem_append_right _ (List.mem_singleton_self _), rfl, rfl⟩, ?_⟩
  · cases p <;> rfl
  · exact congrArg (fun b : Boot => { b with debugOpen := true, boundVoid := true }) hone

theorem State.untrained_eq_none {s : State} (h : ∀ n : LaneNo, 16 ≤ n.val → s.lane[n].st ≠ .down ∧ s.lane[n].st ≠ .training) :
    s.untrained = none := by
  simp only [State.untrained, List.find?_eq_none]
  intro n _ hn
  simp only [Bool.and_eq_true, decide_eq_true_eq, Bool.or_eq_true, beq_iff_eq] at hn
  obtain ⟨hge, hst⟩ := hn
  exact hst.elim (h n hge).1 (h n hge).2

/-- Settles O10, by the boot stage, and for DISCOVERY_END by the untrained internal link. -/
theorem bootEnds : Obligations.BootEnds := by
  refine ⟨⟨fun s hs => execTimeBaseLock_of_lockWait hs, fun s hs => ⟨if_neg hs, if_neg hs⟩, fun s hs => if_neg fun h => hs h.1⟩, ?_⟩
  intro halts
  have hhalt : ∀ (s : State) (c d : Nat), halts s (s.bootHalt (c, d)) (BitVec.ofNat 8 c) (BitVec.ofNat 16 d) := by
    intro s c d
    obtain ⟨t, ht, hboot, hhm, hhalf, hhw, hbrk, hall⟩ := s.bootHalt_spec (c, d)
    rw [ht]
    refine ⟨hboot, hhm, hhalf, hhw, fun m => ?_, hall⟩
    rw [hbrk]
    exact Vector.getElem_map _ _
  refine ⟨fun s hs => ⟨_, if_pos hs, hhalt s 0x11 0⟩, fun s hs ht => ⟨fun htrained => ?_, fun n hdies hn => ?_⟩, fun s hs hm ht => ?_⟩
  · refine ⟨s.becomeReady, ?_, s.becomeReady_base, fun hp => State.becomeReady_boot hp, fun hp => State.becomeReady_open hp⟩
    rw [exec, execDiscoveryEnd_of_time hs ht]
    rcases htrained with hno | hno
    · cases s.untrained <;> simp [hno]
    · rw [State.untrained_eq_none hno]
  · refine ⟨_, ?_, hhalt s 0x12 (n.val - 16)⟩
    rw [exec, execDiscoveryEnd_of_time hs ht, hn]
    exact if_pos hdies
  · exact if_neg fun h => by
      obtain ⟨-, h | h⟩ := h
      · simp [hm] at h
      · simp only [us] at h; omega

/-! #### The image that is judged -/

section
variable {h : Side} {a0 a1 ra rb : Bool} {s : State}

/-- A half may present its image: the boot reads images, the half is neither held nor done, and a download is complete. -/
abbrev State.mayPresent (s : State) (h : Side) : Prop :=
  s.boot.stage = .imageRead ∧ (s.half.get h).held = false ∧ s.boot.half.get h = .nothing ∧ (s.dl.active = true → s.dl.done = true)

theorem execHalfDigestReady_of_fails (hp : s.mayPresent h) {f : Halt} (hf : s.readImage a0 a1 = .inl f) :
    execHalfDigestReady h a0 a1 ra rb s =
      if s.boot.bootsel = 3 ∧ s.dl.active = false then .next (s.startDownload .a)
      else .next ((s.modBoot (fun b => { b with half := b.half.set h (.failed (BitVec.ofNat 8 f.1) (BitVec.ofNat 16 f.2)) })).bootHalt f) := by
  rw [execHalfDigestReady, if_pos hp, hf]

/-- The boot registers of a half that has presented a good image. -/
def State.presented (s : State) (h : Side) (slot : Bool) (img : List Byte) : State :=
  s.modBoot (fun b => { b with half := b.half.set h (.passed slot (imgDigest img)), phase := 2, src := s.srcOf slot })

theorem execHalfDigestReady_of_first (hp : s.mayPresent h) {slot : Bool} {img : List Byte} (hi : s.readImage a0 a1 = .inr (slot, img))
    (ho : ∀ b d, s.boot.half.get h.other ≠ .passed b d) :
    execHalfDigestReady h a0 a1 ra rb s = .next ((s.presented h slot img).modBoot (fun b => { b with digestAt := s.now })) := by
  rw [execHalfDigestReady, if_pos hp, hi]
  dsimp only
  split
  · next b d hb => exact absurd hb (ho b d)
  · rfl

theorem execHalfDigestReady_of_second (hp : s.mayPresent h) {slot b : Bool} {img : List Byte} {d : BitVec 256}
    (hi : s.readImage a0 a1 = .inr (slot, img)) (ho : s.boot.half.get h.other = .passed b d) :
    execHalfDigestReady h a0 a1 ra rb s = if imgDigest img = d then .next ((s.presented h slot img).seal (s.srcOf slot) img ra rb)
      else .next ((s.presented h slot img).bootHalt (0x10, 0)) := by
  rw [execHalfDigestReady, if_pos hp, hi]
  dsimp only
  rw [ho]
  rfl

end

theorem State.bootHalt_boot (s : State) (f : Halt) : (s.bootHalt f).boot =
    { s.boot with stage := .halted, phase := 0xF, haltCause := BitVec.ofNat 8 f.1, haltDetail := BitVec.ofNat 16 f.2, debugPolicy := 1 } := by
  obtain ⟨t, ht, hboot, -⟩ := s.bootHalt_spec f
  rw [ht, hboot]

theorem State.bootHalt_kept (s : State) (f : Halt) :
    (s.bootHalt f).prot = s.prot ∧ (s.bootHalt f).fuse = s.fuse ∧ (s.bootHalt f).flash = s.flash := by
  have hb := s.bootHalt_base f
  generalize s.bootHalt f = t at hb ⊢
  exact ⟨congrArg Base.prot hb, congrArg Base.fuse hb, congrArg Base.flash hb⟩

/-- What the sealing of an accepted image does to the seal (R137, R171). -/
theorem State.seal_spec (s : State) (src : BitVec 2) (img : List Byte) (ra rb : Bool) :
    (s.seal src img ra rb).boot.sealed = true ∧ (s.seal src img ra rb).boot.stage = .discovery ∧ (s.seal src img ra rb).boot.src = src ∧
      (s.seal src img ra rb).prot = imgProt img ∧ (s.seal src img ra rb).fuse = s.fuse ∧ (s.seal src img ra rb).flash = s.flash := by
  obtain ⟨ps, cs, hb, -⟩ := s.seal_base src img ra rb
  generalize s.seal src img ra rb = t at hb ⊢
  exact ⟨congrArg Base.sealed hb, congrArg Base.stage hb, congrArg Base.src hb, congrArg Base.prot hb, congrArg Base.fuse hb, congrArg Base.flash hb⟩

/-! #### What sealing leaves of a half that has presented nothing, and of the faults on their way -/

section
variable {ps : List Part} (s : State)

@[simp] theorem State.clearHomed_blank (q : QuayNo) (h : Covers ps [.quayAt q, .ih]) : (s.clearHomed q).blank ps = s.blank ps := by
  simp at h
  simp [State.clearHomed, State.ite_blank, h]
@[simp] theorem State.restartCell_blank (was : Nat) (k : CellNo) (h : Covers ps [.cellAt k, .quay, .ih]) :
    (s.restartCell was k).blank ps = s.blank ps := by
  simp at h
  unfold State.restartCell
  split <;> simp [State.ite_blank, h]
@[simp] theorem State.startCell_blank (old : State) (staged : Nat → Bool) (k : CellNo) (h : Covers ps [.cellAt k, .quay, .ih]) :
    (old.startCell s staged k).blank ps = s.blank ps := by
  simp at h
  simp [State.startCell, State.ite_blank, h]
@[simp] theorem State.startQuay_blank (old : State) (staged : Nat → Bool) (q : QuayNo) (h : .quayAt q ∈ ps ∨ .quay ∈ ps) :
    (old.startQuay s staged q).blank ps = s.blank ps := by
  simp [State.startQuay, State.ite_blank, h]
@[simp] theorem State.refreshSlots_blank (h : .tb ∈ ps) : s.refreshSlots.blank ps = s.blank ps := by
  simp [State.refreshSlots, h]
@[simp] theorem State.startConfig_blank (old : State) (staged : Nat → Bool) (h : Covers ps [.cell, .quay, .ih, .tb, .free]) :
    (old.startConfig s staged).blank ps = s.blank ps := by
  simp at h
  simp [State.startConfig, State.ite_blank, h]
@[simp] theorem State.startAll_blank (img : List Byte) (h : Covers ps [.cell, .quay, .ih, .tb, .free, .hw]) :
    (s.startAll img).blank ps = s.blank ps := by
  simp at h
  simp [State.startAll, h]
end

/-- A half that has not passed is not started. -/
theorem State.startHalf_get {s : State} {h : Side} (hn : ∀ slot d, s.boot.half.get h ≠ .passed slot d) (g : Side) (req : Bool) :
    (s.startHalf g req).half.get h = s.half.get h := by
  unfold State.startHalf
  split
  · next slot d hg =>
    have hne : g ≠ h := fun e => hn slot d (e ▸ hg)
    rw [State.modHalf_ne _ _ hne, State.refreshHalf, State.modHalf_ne _ _ hne]
  · rfl

theorem State.startHalf_blank {ps : List Part} (s : State) (h : .half ∈ ps) (g : Side) (req : Bool) : (s.startHalf g req).blank ps = s.blank ps := by
  unfold State.startHalf
  split <;> simp [State.refreshHalf, h]

/-- The grant at the end of the boot leaves faults on their way. -/
theorem State.decideGrant_blank (s : State) :
    s.decideGrant.blank [.boot, .free, .hm, .ih, .quay, .port, .groups, .leg, .lane, .half] = s.blank [.boot, .free, .hm, .ih, .quay, .port, .groups, .leg, .lane, .half] := by
  have hfirst : ∀ (t : State) (g : Side), (t.grantFirst g).blank [.boot, .free, .hm, .ih, .quay, .port, .groups, .leg, .lane, .half] =
      t.blank [.boot, .free, .hm, .ih, .quay, .port, .groups, .leg, .lane, .half] := by
    intro t g
    simp [State.grantFirst, State.ite_blank]
  unfold State.decideGrant
  split
  · simp [State.ite_blank, hfirst]
  · split <;> simp [hfirst]

/-- Whether a half runs and whether it is held in reset. -/
def State.runHeld (s : State) (h : Side) : Bool × Bool := ((s.half.get h).run, (s.half.get h).held)

theorem State.runHeld_of_half {s t : State} (h : t.half = s.half) (g : Side) : t.runHeld g = s.runHeld g := by
  rw [runHeld, h, runHeld]

theorem State.modHalf_runHeld (s : State) (g h : Side) (f : Half → Half) (hrun : ∀ x, (f x).run = x.run) (hheld : ∀ x, (f x).held = x.held) :
    (s.modHalf g f).runHeld h = s.runHeld h := by
  by_cases hgh : g = h
  · subst hgh
    rw [runHeld, modHalf_self, hrun, hheld, runHeld]
  · rw [runHeld, modHalf_ne _ _ hgh, runHeld]

theorem State.grantFirst_runHeld (s : State) (g h : Side) : (s.grantFirst g).runHeld h = s.runHeld h := by
  have hforce : ∀ u : State, u.evalForce.half = u.half := fun u =>
    State.half_of_blank (u.evalForce_blank (ps := [.hm, .ih, .quay, .port, .groups, .leg, .lane]) (by simp)) (by simp)
  have hto : (s.grantTo g).half = s.half :=
    State.half_of_blank (s.grantTo_blank g (ps := [.hm, .ih, .quay, .port, .groups, .leg, .lane]) (by simp)) (by simp)
  have hpost : ∀ (u : State) (qs : List QuayNo), (forAll qs u (fun t q => t.post g (.kstate q))).half = u.half := fun u qs =>
    State.half_of_blank (ps := [.ih]) (by simp) (by simp)
  unfold State.grantFirst
  extract_lets s1 s2
  rw [State.runHeld_of_half (hforce s2)]
  have hs1 : s1.runHeld h = s.runHeld h := State.runHeld_of_half hto h
  by_cases hrun : (s.half.get g.other).run = true
  · simp only [s2, if_pos hrun]
    rw [State.runHeld_of_half (hpost _ _)]
    exact (State.modHalf_runHeld s1 g.other h (fun x => { x with coreSync := true }) (fun _ => rfl) (fun _ => rfl)).trans hs1
  · simp only [s2, if_neg hrun, hs1]

/-- The grant at the end of the boot starts and stops no half, and holds none. -/
theorem State.decideGrant_runHeld (s : State) (h : Side) : s.decideGrant.runHeld h = s.runHeld h := by
  unfold State.decideGrant
  extract_lets wait
  have hwait : (wait s).runHeld h = s.runHeld h := rfl
  split
  · next g _ =>
    by_cases h1 : ((s.half.get g).run && (s.half.get g).req) = true
    · rw [if_pos h1, State.grantFirst_runHeld]
    · rw [if_neg h1]
      split
      · exact s.grantFirst_runHeld _ _
      · exact hwait
  · split
    · exact s.drawn.grantFirst_runHeld _ _
    · exact s.grantFirst_runHeld _ _
    · exact s.grantFirst_runHeld _ _
    · exact hwait

/-- Starting the halves and the configuration from an image leaves the faults, and a half that has presented nothing. -/
theorem State.startAll_leaves {s : State} {h : Side} (hn : ∀ slot d, s.boot.half.get h ≠ .passed slot d) (img : List Byte) (ra rb : Bool) :
    (((s.startHalf .a ra).startHalf .b rb).startAll img).runHeld h = s.runHeld h ∧
      (((s.startHalf .a ra).startHalf .b rb).startAll img).flt = s.flt := by
  have hall := ((s.startHalf .a ra).startHalf .b rb).startAll_blank (ps := [.cell, .quay, .ih, .tb, .free, .hw]) img (by simp)
  have ha := State.startHalf_blank (ps := [.half]) s (by simp) .a ra
  have hb := State.startHalf_blank (ps := [.half]) (s.startHalf .a ra) (by simp) .b rb
  have hna : ∀ slot d, (s.startHalf .a ra).boot.half.get h ≠ .passed slot d := by
    rw [State.boot_of_blank ha (by simp)]
    exact hn
  constructor
  · rw [State.runHeld_of_half (State.half_of_blank hall (by simp)), State.runHeld, State.startHalf_get hna, State.startHalf_get hn, State.runHeld]
  · rw [State.flt_of_blank hall (by simp), State.transit_of_blank hall (by simp), State.flt_of_blank hb (by simp), State.transit_of_blank hb (by simp),
      State.flt_of_blank ha (by simp), State.transit_of_blank ha (by simp)]
    rfl

/-- Sealing starts no half that has presented nothing, and keeps the faults on their way. -/
theorem State.seal_leaves {s : State} {h : Side} (hn : s.boot.half.get h = .nothing) (src : BitVec 2) (img : List Byte) (ra rb : Bool) :
    (s.seal src img ra rb).runHeld h = s.runHeld h ∧ s.flt.transit ⊆ (s.seal src img ra rb).flt.transit := by
  have hlast : ∀ u : State, u.runHeld h = s.runHeld h → s.flt.transit ⊆ u.flt.transit →
      u.decideGrant.runHeld h = s.runHeld h ∧ s.flt.transit ⊆ u.decideGrant.flt.transit := fun u hu hsub => by
    rw [State.decideGrant_runHeld, hu, State.transit_of_blank u.decideGrant_blank (by simp)]
    exact ⟨rfl, hsub⟩
  unfold State.seal
  extract_lets s1 s2 s3
  have hs2 : ∀ slot d, s2.boot.half.get h ≠ .passed slot d := by
    have hboot : s2.boot.half = s.boot.half := rfl
    rw [hboot, hn]
    exact fun _ _ => nofun
  obtain ⟨hhalf, hflt⟩ := State.startAll_leaves hs2 img ra rb
  have h2half : s2.runHeld h = s.runHeld h := rfl
  have h2flt : s2.flt = s.flt := rfl
  rw [h2half] at hhalf
  rw [h2flt] at hflt
  change s3.runHeld h = _ at hhalf
  change s3.flt = _ at hflt
  clear_value s3
  split
  · refine hlast _ hhalf ?_
    rw [← hflt]
    exact List.subset_append_left _ _
  · refine hlast _ hhalf ?_
    rw [hflt]
    exact List.Subset.refl _

/-- 50 ms after the digest of the other half, the silent half is held in reset and the other's image is sealed (R133, R135). -/
theorem execHalfBootFail_of_due {h : Side} {slot : Bool} {d : BitVec 256} {s : State} (hs : s.boot.stage = .imageRead)
    (hn : s.boot.half.get h = .nothing) (ho : s.boot.half.get h.other = .passed slot d) (ht : s.boot.digestAt + 320000000 ≤ s.now) :
    execHalfBootFail h s = .next (((s.modHalf h (fun x => { x with held := true, run := false })).raiseHalf srcHalfBootFail h).seal
      (s.srcOf slot) (s.acceptedImage slot) (h != .a) (h != .b)) := by
  unfold execHalfBootFail
  rw [hn, ho]
  exact if_pos ⟨hs, ht⟩

/-- Settles O11, by whether the half may present its image, what the image is, and what the other half has presented. -/
theorem imagesJudged : Obligations.ImagesJudged := by
  refine ⟨⟨fun h a0 a1 ra rb s hs hheld hn hdl => ?_, fun h a0 a1 ra rb s hno => if_neg hno⟩,
    fun h slot d s hs hn ho ht => ?_, fun h s hno => ?_⟩
  · have hp : s.mayPresent h := ⟨hs, hheld, hn, hdl⟩
    refine ⟨fun c d hf => ⟨fun h3 hd => ?_, fun hnot => ?_⟩, fun slot img hi => ⟨fun ho => ?_, fun b ho => ?_, fun b d ho hd => ?_⟩⟩
    · rw [exec, execHalfDigestReady_of_fails hp hf, if_pos ⟨h3, hd⟩]
      rfl
    · have hneg : ¬ (s.boot.bootsel = 3 ∧ s.dl.active = false) := by
        rintro ⟨h3, hd⟩
        simp [h3, hd] at hnot
      refine ⟨_, by rw [exec, execHalfDigestReady_of_fails hp hf, if_neg hneg], ?_⟩
      rw [State.bootHalt_boot]
      obtain ⟨hprot, hfuse, hflash⟩ := State.bootHalt_kept
        (s.modBoot (fun b => { b with half := b.half.set h (.failed (BitVec.ofNat 8 c) (BitVec.ofNat 16 d)) })) (c, d)
      exact ⟨rfl, rfl, rfl, rfl, hprot, hfuse, hflash⟩
    · rw [exec, execHalfDigestReady_of_first hp hi ho]
      rfl
    · refine ⟨_, by rw [exec, execHalfDigestReady_of_second hp hi ho, if_pos rfl], ?_⟩
      exact State.seal_spec _ _ _ _ _
    · refine ⟨_, by rw [exec, execHalfDigestReady_of_second hp hi ho, if_neg (Ne.symm hd)], ?_⟩
      rw [State.bootHalt_boot]
      obtain ⟨hprot, hfuse, hflash⟩ := (s.presented h slot img).bootHalt_kept (0x10, 0)
      exact ⟨rfl, rfl, rfl, rfl, hprot, hfuse, hflash⟩
  · refine ⟨_, execHalfBootFail_of_due hs hn ho ht, ?_⟩
    obtain ⟨hsealed, hstage, -, hprot, -, -⟩ := State.seal_spec ((s.modHalf h (fun x => { x with held := true, run := false })).raiseHalf srcHalfBootFail h)
      (s.srcOf slot) (s.acceptedImage slot) (h != .a) (h != .b)
    obtain ⟨hmarks, htransit⟩ := State.seal_leaves (s := (s.modHalf h (fun x => { x with held := true, run := false })).raiseHalf srcHalfBootFail h) hn
      (s.srcOf slot) (s.acceptedImage slot) (h != .a) (h != .b)
    have hset : ((s.modHalf h (fun x => { x with held := true, run := false })).raiseHalf srcHalfBootFail h).runHeld h = (false, true) := by
      change (s.modHalf h (fun x => { x with held := true, run := false })).runHeld h = _
      rw [State.runHeld, State.modHalf_self]
    rw [hset, State.runHeld, Prod.mk.injEq] at hmarks
    exact ⟨hmarks.2, hmarks.1, hsealed, hstage, hprot, _, htransit (List.mem_append_right _ (List.mem_singleton_self _)), rfl⟩
  · rw [exec]
    unfold execHalfBootFail
    split
    · next hn ho => exact if_neg fun hc => hno ⟨hc.1, hn, ⟨_, _, ho⟩, hc.2⟩
    · rfl

/-! #### Download mode -/

/-- The device with the length of a chunk in DL_LEN of its port, where that port is selected. -/
def State.chunkWritten (s : State) (p : Side) (len : BitVec 13) : State :=
  { s with port := if s.dlSelected p = true then s.port.set p { s.port.get p with dlLen := len } else s.port }

theorem State.chunkWritten_eq (s : State) (p : Side) (len : BitVec 13) :
    (if s.dlSelected p then s.modPort p (fun x => { x with dlLen := len }) else s) = s.chunkWritten p len := by
  unfold State.chunkWritten
  split <;> rfl

/-- What a chunk that is neither out of sequence nor of a wrong length does (R146 to R150). -/
theorem State.takeChunk_of_good {s : State} {p : Side} {len : BitVec 13} (hp : s.dlPort = some p ∧ s.boot.stage = .imageRead ∧ s.dl.wait = true)
    (hg : ¬ ((s.port.get p).dlOffset.toNat ≠ s.dl.next ∨ len = 0 ∨ 4096 < len.toNat)) :
    let image := writeCells 0 s.dl.image s.dl.next ((List.range len.toNat).map (s.port.get p).dlByte)
    let next := s.dl.next + len.toNat
    let done := decide (12 ≤ next) && decide (imgLength (readCells 0 image 0 12) ≤ next)
    s.takeChunk p len = { s.chunkWritten p len with
      dl := { s.dl with image := image, next := next, done := done, wait := !done }
      boot := { s.boot with phase := if done then 2 else s.boot.phase } } := by
  intro image next done
  rw [State.takeChunk]
  dsimp only
  rw [State.chunkWritten_eq, if_pos hp, if_neg hg]
  rfl

theorem State.takeChunk_of_bad {s : State} {p : Side} {len : BitVec 13} (hp : s.dlPort = some p ∧ s.boot.stage = .imageRead ∧ s.dl.wait = true)
    (hb : (s.port.get p).dlOffset.toNat ≠ s.dl.next ∨ len = 0 ∨ 4096 < len.toNat) :
    s.takeChunk p len = { s.chunkWritten p len with dl := { s.dl with seqErr := true, wait := true } } := by
  rw [State.takeChunk]
  dsimp only
  rw [State.chunkWritten_eq, if_pos hp, if_pos hb]
  rfl

theorem State.takeChunk_of_not_waiting {s : State} {p : Side} {len : BitVec 13}
    (hp : ¬ (s.dlPort = some p ∧ s.boot.stage = .imageRead ∧ s.dl.wait = true)) : s.takeChunk p len = s.chunkWritten p len := by
  rw [State.takeChunk]
  dsimp only
  rw [State.chunkWritten_eq, if_neg hp]

theorem execFuseCommand_of_download {s : State} (ha : s.dl.active = true) (hs : s.boot.stage = .imageRead) (c : FuseCmd) (signer : Option (Fin 4)) :
    execFuseCommand c signer s = .next { s with fuse := s.fuse.apply c signer } := if_pos (by simp [ha, hs])

/-- A fuse command that leaves the fuses leaves the device. -/
theorem execFuseCommand_of_apply {s : State} {c : FuseCmd} {signer : Option (Fin 4)} (h : s.fuse.apply c signer = s.fuse) :
    execFuseCommand c signer s = .next s := by
  rw [execFuseCommand, h]
  exact ite_self _

theorem Fuses.apply_program_of_signed {f : Fuses} {k j : Fin 4} (hk : f.key[k] = none) (hj : f.key[j] ≠ none ∧ f.revoked[j] = false) (h : BitVec 256) :
    f.apply (.program k h) (some j) = { f with key := f.key.set k (some h) } := by
  have hgood := (f.keyGood_iff j).2 hj
  simp [Fuses.apply, hk, hgood]

theorem Fuses.apply_program_of_blank {f : Fuses} (hf : ∀ j : Fin 4, f.key[j] = none) (k : Fin 4) (h : BitVec 256) (signer : Option (Fin 4)) :
    f.apply (.program k h) signer = { f with key := f.key.set k (some h) } := by
  have hall := f.all_isNone_key_iff.2 hf
  simp [Fuses.apply, hf k, hall]

theorem Fuses.apply_revoke_of_signed {f : Fuses} {k j : Fin 4} (hne : j ≠ k) (hj : f.key[j] ≠ none ∧ f.revoked[j] = false) :
    f.apply (.revoke k) (some j) = { f with revoked := f.revoked.set k true } := by
  have hgood := (f.keyGood_iff j).2 hj
  simp [Fuses.apply, hgood, hne]

/-- Settles O12: of a chunk, by whether its port waits for one and whether it continues the image; of a fuse command, by what it is signed with. -/
theorem downloadMode : Obligations.DownloadMode := by
  refine ⟨⟨fun p len s hp hs hw => ⟨fun ho hlo hhi => ?_, fun hb => ?_⟩, fun p len s hno => ?_⟩,
    fun k j h s ha hs hk hj => ?_, fun k h signer s ha hs hf => ?_, fun k j s ha hs hne hj => ?_, fun k h signer s hk => ?_,
    fun k h signer s hsome hno => ?_, fun k signer s hno => ?_, fun c signer s hno => ?_⟩
  · have hg : ¬ ((s.port.get p).dlOffset.toNat ≠ s.dl.next ∨ len = 0 ∨ 4096 < len.toNat) := by
      rintro (h | rfl | h)
      · exact h ho
      · exact absurd hlo (by decide)
      · omega
    refine ⟨_, congrArg Host.Outcome.next (State.takeChunk_of_good ⟨hp, hs, hw⟩ hg), rfl, rfl, rfl, ?_, rfl⟩
    simp only [Bool.and_eq_true, decide_eq_true_eq]
  · exact congrArg Host.Outcome.next (State.takeChunk_of_bad ⟨hp, hs, hw⟩ hb)
  · exact congrArg Host.Outcome.next (State.takeChunk_of_not_waiting hno)
  · rw [exec, execFuseCommand_of_download ha hs, Fuses.apply_program_of_signed hk hj]
  · rw [exec, execFuseCommand_of_download ha hs, Fuses.apply_program_of_blank (fun j => by rw [hf]; exact Vector.getElem_replicate _)]
  · rw [exec, execFuseCommand_of_download ha hs, Fuses.apply_revoke_of_signed hne hj]
  · refine execFuseCommand_of_apply ((s.fuse.apply_program_cases k h signer).resolve_right ?_)
    exact fun hc => hk hc.1
  · refine execFuseCommand_of_apply ((s.fuse.apply_program_cases k h signer).resolve_right ?_)
    rintro ⟨-, hblank | ⟨j, hsig, hgood⟩, -⟩
    · obtain ⟨j, hj⟩ := hsome
      exact hj (hblank j)
    · exact hno j hsig hgood
  · refine execFuseCommand_of_apply ((s.fuse.apply_revoke_cases k signer).resolve_right ?_)
    rintro ⟨j, hsig, hne, hkey, hrev, -⟩
    exact (hno j hsig).elim hne fun hbad => hbad ⟨hkey, hrev⟩
  · refine if_neg ?_
    rcases hno with h | h <;> simp [h]

end Sys2Proof.Machine
end

section
/-! ### Time base, slots, supplies and the DC link -/

namespace Sys2Proof.Machine

/-! #### Time base and captures (R84 to R96) -/

/-- What an edge does to a capture input that is claimed (R94, R95). -/
theorem execCaptureEdge_of_claimed {c : Fin 32} {s : State} (h : devCapSrc s c.val ≠ 255) (rising : Bool) :
    execCaptureEdge c rising s = .next (s.modTb (fun t => { t with cap := vmod t.cap c (fun x =>
      if (if rising then devCapEdge s c.val % 2 == 1 else devCapEdge s c.val / 2 % 2 == 1) then
        { x with level := rising, time := (s.now - 16 * devCapFilter s c.val) / 16 * 16, count := x.count + 1, overrun := x.overrun || x.fresh, fresh := true }
      else { x with level := rising }) })) := if_pos (bne_iff_ne.2 h)

/-- Whether an input takes an edge: both directions are selected, or this one is (R94). -/
theorem edge_selected {e : Nat} {rising : Bool} :
    (e = 3 ∨ e = (if rising = true then 1 else 2) → (if rising then e % 2 == 1 else e / 2 % 2 == 1) = true) ∧
      (e = (if rising = true then 2 else 1) → (if rising then e % 2 == 1 else e / 2 % 2 == 1) = false) := by
  cases rising
  · exact ⟨by rintro (rfl | rfl) <;> rfl, by rintro rfl; rfl⟩
  · exact ⟨by rintro (rfl | rfl) <;> rfl, by rintro rfl; rfl⟩

/-- Settles O14, by whether the capture input takes the edge. -/
theorem timeBaseEvents : Obligations.TimeBaseEvents := by
  refine ⟨⟨fun w s => ?_, fun s hl hb => ?_, fun s hno => ?_⟩, fun c rising s hc h1 h3 => ?_, fun c rising s hc => ?_⟩
  · rw [exec, execDelayLineCal]
    split <;> rfl
  · exact ⟨_, if_pos (by simp [hl, hb]), rfl, ⟨_, rfl, rfl, rfl, rfl⟩, rfl⟩
  · refine if_neg ?_
    rcases hno with h | h <;> simp [h]
  · refine ⟨_, execCaptureEdge_of_claimed hc rising, fun he => ?_, fun he => ?_, fun d hd => vmod_ne _ _ (Ne.symm hd), rfl⟩
    · refine (vmod_self _ _ _).trans ?_
      rw [edge_selected.1 he, if_pos rfl]
    · refine (vmod_self _ _ _).trans ?_
      rw [edge_selected.2 he, if_neg Bool.false_ne_true]
  · exact if_neg (by simp [State.capClaimed, hc])

/-! #### The firing of slots (R98 to R102) -/

/-- A firing that a commit changed takes over its new period and phase, and changes the slots alone (R100). -/
theorem State.slotFired_spec (s : State) (n : Fin 256) : s.slotFired n = { s with tb := { s.tb with slots := (s.slotFired n).tb.slots } } ∧
    ∀ e ∈ s.tb.slots, (e.slot ≠ n ∨ e.next = none → e ∈ (s.slotFired n).tb.slots) ∧
      ∀ p f, e.slot = n → e.next = some (p, f) → { e with period := p, phase := f, next := none } ∈ (s.slotFired n).tb.slots := by
  refine ⟨rfl, fun e he => ⟨fun hno => List.mem_map.2 ⟨e, he, ?_⟩, fun p f hn hnext => List.mem_map.2 ⟨e, he, ?_⟩⟩⟩
  · rcases hno with h | h
    · exact if_neg h
    · simp [h]
  · simp [hn, hnext]

theorem execSdcResync_of_claim {m : Fin 4} {n : Fin 256} {s : State}
    (h : s.claims.find? (fun e => e.by_ == .sdClock m && e.cls == 0x10) = some ⟨0x10, n.val, .sdClock m⟩) :
    execSdcResync m s = if s.slotFires n then .next ((s.slotFired n).modTb (fun t => { t with sdc := vmod t.sdc m (fun _ => 0) })) else .next s := by
  rw [execSdcResync, h]
  exact dif_pos n.isLt

theorem execTraceCapture_of_slot {r : Fin 16} {n : Fin 256} {d : TraceDesc} {s : State} (hd : s.trace[r].desc = some d) (hn : s.trace[r].slot = some n)
    (share : Bool) : execTraceCapture r share s =
      if s.slotFires n then .next (State.slotFired (if d.period ≠ 0 ∧ share = true then s.capture r else s) n) else .next s := by
  rw [execTraceCapture, hd, hn]

/-- A triggered region with room takes one record (R324). -/
theorem State.capture_of_room {s : State} {r : Fin 16} {d : TraceDesc} (hd : s.trace[r].desc = some d) (ha : s.trace[r].armed = true)
    (hs : s.trace[r].stopped = false) (hi : s.trace[r].invalid = false) (ht : s.trace[r].triggered = true)
    (hr : s.trace[r].recs.length + 1 < d.capacity) :
    s.capture r = s.modTrace r (fun y => { y with
      recs := s.trace[r].recs ++ [{ time := s.now, values := d.signals.map s.signal }]
      triggered := true, prevFirst := d.signals.head?.map s.signalInt, stopped := false, armed := true }) := by
  have hlen : s.trace[r].recs.length + 1 - d.capacity = 0 := by omega
  unfold State.capture
  simp only [hd, ha, hs, hi, ht, List.length_append, List.length_singleton, Bool.true_or, if_true, hlen, List.drop_zero,
    decide_eq_false (Nat.not_le.2 hr), Bool.and_false, Bool.not_true, Bool.or_self, Bool.not_false, if_false, Bool.false_eq_true, if_false]

/-- Settles O15, by whether the slot fires. -/
theorem slotsFire : Obligations.SlotsFire := by
  refine ⟨fun n s => ?_, fun m n s hc => ⟨fun hf => ?_, fun hf => ?_⟩, fun r n d share s hd hn => ⟨fun hf => ?_, fun hf hs => ?_,
    fun hf hs hp ha hst hi ht hr => ?_⟩, fun n s => s.slotFired_spec n⟩
  · rw [exec, execTimedEvent]
    split <;> rfl
  · refine ⟨_, by rw [exec, execSdcResync_of_claim hc, if_pos hf], vmod_self _ _ _, fun k hk => vmod_ne _ _ (Ne.symm hk), rfl⟩
  · rw [exec, execSdcResync_of_claim hc, if_neg (by simp [hf])]
  · rw [exec, execTraceCapture_of_slot hd hn, if_neg (by simp [hf])]
  · rw [exec, execTraceCapture_of_slot hd hn, if_pos hf, if_neg (by simp [hs])]
  · have hcap := State.capture_of_room hd ha hst hi ht hr
    refine ⟨(s.capture r).slotFired n, by rw [exec, execTraceCapture_of_slot hd hn, if_pos hf, if_pos ⟨hp, hs⟩], ?_⟩
    rw [hcap]
    exact ⟨congrArg TraceRegion.recs (State.modTrace_self s r _), congrArg TraceRegion.armed (State.modTrace_self s r _),
      fun k hk => State.modTrace_ne s _ (Ne.symm hk), rfl⟩

/-! #### Supplies (R1005 to R1014) -/

theorem Supply.rail_setRail (x : Supply) (r : Rail) (side : LowHigh) (v : Bool) : (x.setRail r side v).rail r side = v := by
  cases r with
  | vgd d => cases side <;> exact Vector.getElem_set_self _
  | _ => cases side <;> rfl

theorem execSupplyWarning_of_new {rail : Rail} {side : LowHigh} {s : State} (v : Int) (hnew : s.supply.rail rail side = false)
    (hdie : s.hasDies = true ∨ ∀ d, rail ≠ .vgd d) :
    execSupplyWarning rail side v s = .next ((s.modSupply (fun x => x.setRail rail side true)).raiseSupply rail side v) := by
  refine if_neg ?_
  rw [hnew]
  cases rail with
  | vgd d => simp [hdie.resolve_right fun h => h d rfl]
  | _ => simp [railNo]

/-- What a warning of a gate supply raises (R1005 to R1008). -/
theorem State.raiseSupply_vgd (s : State) (d : DieNo) (side : LowHigh) (v : Int) :
    (let quays := if side = .low then (s.dieQuays d).filter (fun q => s.quay[q].core.st != .off) else s.dieQuays d
     (side = .low ∧ quays ≠ [] ∨ side = .high ∧ s.boot.stage = .ready →
       ∃ e : FaultEvent, (s.raiseSupply (.vgd d) side v).flt = { s.flt with transit := s.flt.transit ++ [e] } ∧ e.src = srcSupplyVgd ∧ e.time = s.now ∧
         e.scope = 0x40 + BitVec.ofNat 8 d.val ∧ e.quays = quays) ∧
     (side = .low ∧ quays = [] ∨ side = .high ∧ s.boot.stage ≠ .ready → (s.raiseSupply (.vgd d) side v).flt = s.flt)) ∧
    s.raiseSupply (.vgd d) side v = { s with flt := (s.raiseSupply (.vgd d) side v).flt } := by
  cases side with
  | low =>
    rw [State.raiseSupply]
    by_cases hq : ((s.dieQuays d).filter s.outsideOff).isEmpty = true
    · have hnil := List.isEmpty_iff.1 hq
      dsimp only
      rw [if_pos hq]
      exact ⟨⟨fun h => absurd hnil (h.resolve_right (fun h => nomatch h.1)).2, fun _ => rfl⟩, rfl⟩
    · have hnil := mt List.isEmpty_iff.2 hq
      dsimp only
      rw [if_neg hq]
      exact ⟨⟨fun _ => ⟨_, rfl, rfl, rfl, rfl, rfl⟩, fun h => absurd (h.resolve_right (fun h => nomatch h.1)).2 hnil⟩, rfl⟩
  | high =>
    rw [State.raiseSupply]
    by_cases hr : s.isReady = true
    · dsimp only
      rw [if_pos hr]
      have hst := eq_of_beq hr
      exact ⟨⟨fun _ => ⟨_, rfl, rfl, rfl, rfl, rfl⟩, fun h => absurd hst (h.resolve_left (fun h => nomatch h.1)).2⟩, rfl⟩
    · dsimp only
      rw [if_neg hr]
      have hst : s.boot.stage ≠ .ready := fun h => hr (beq_iff_eq.2 h)
      exact ⟨⟨fun h => absurd (h.resolve_left (fun h => nomatch h.1)).2 hst, fun _ => rfl⟩, rfl⟩

/-- Settles O17, by the rail. -/
theorem supplies : Obligations.Supplies := by
  refine ⟨fun rail side v s hno => ?_, fun side v s hnew => ?_, fun rail side v s hr hnew => ?_, fun d side v s hd hnew => ?_, fun rail side s => rfl,
    fun rail side s => Supply.rail_setRail _ _ _ _, fun d s hd => ?_, fun d s hd => if_neg (by simp [hd]), fun d s => rfl⟩
  · refine if_pos ?_
    rcases hno with h | ⟨h, d, rfl⟩ <;> simp [h, railNo]
  · exact ⟨_, execSupplyWarning_of_new v hnew (.inr fun _ => nofun), Supply.rail_setRail _ _ _ _, ⟨_, rfl, rfl, rfl, rfl⟩, rfl⟩
  · have hrail := s.supply.rail_setRail rail side true
    rcases hr with rfl | rfl | rfl
    all_goals exact ⟨_, execSupplyWarning_of_new v hnew (.inr fun _ => nofun), hrail, ⟨_, rfl, rfl, rfl, rfl⟩, rfl⟩
  · obtain ⟨⟨hraise, hnone⟩, hrest⟩ := (s.modSupply (fun x => x.setRail (.vgd d) side true)).raiseSupply_vgd d side v
    refine ⟨_, execSupplyWarning_of_new v hnew (.inl hd), ?_, ⟨fun h => ?_, fun h => hnone h⟩, hrest⟩
    · rw [hrest]
      exact Supply.rail_setRail _ _ _ _
    · obtain ⟨e, hflt, hsrc, htime, hscope, hquays⟩ := hraise h
      exact ⟨⟨e, hflt, hsrc, htime, hscope⟩, e, congrArg Collector.transit hflt, hquays⟩
  · exact ⟨_, if_pos hd, rfl, State.modBrk_self _ ⟨d.val, by omega⟩ _, fun m hm => State.modBrk_ne _ _ (Fin.ne_of_val_ne (Ne.symm hm)), rfl⟩

/-! #### DC link and choppers (R789 to R797) -/

theorem State.setChopper_leg (s : State) (l : LegNo) (on : Bool) :
    (s.setChopper (.leg l) on).leg[l] = { s.leg[l] with chopping := on } ∧ (∀ k : LegNo, k ≠ l → (s.setChopper (.leg l) on).leg[k] = s.leg[k]) ∧
      s.setChopper (.leg l) on = { s with leg := (s.setChopper (.leg l) on).leg, lane := (s.setChopper (.leg l) on).lane } := by
  have hframe : ∃ v, (s.modLeg l (fun x => { x with chopping := on })).chopFrame l = { s.modLeg l (fun x => { x with chopping := on }) with lane := v } := by
    unfold State.chopFrame
    split
    · split
      · exact ⟨_, rfl⟩
      · exact ⟨_, rfl⟩
    · exact ⟨_, rfl⟩
  obtain ⟨v, hv⟩ := hframe
  rw [State.setChopper, hv]
  exact ⟨State.modLeg_self s l _, fun k hk => State.modLeg_ne s _ (Ne.symm hk), rfl⟩

theorem execChopperOn_of_reached {c : ChopperRef} {s : State} (hw : s.chopperWorks c = true) (ho : s.chopperOn c = false)
    (hv : ∀ v, s.chopperMv c = some v → (s.chopOnMv c : Rat) ≤ v) : execChopperOn c s = .next (s.setChopper c true) := by
  refine if_pos ?_
  rw [hw, ho]
  cases hmv : s.chopperMv c with
  | none => rfl
  | some v => simpa using hv v hmv

theorem execChopperOff_of_fallen {c : ChopperRef} {s : State} (ho : s.chopperOn c = true)
    (hv : ∀ v, s.chopperMv c = some v → v ≤ (s.chopOffMv c : Rat)) : execChopperOff c s = .next (s.setChopper c false) := by
  refine if_pos ?_
  rw [ho]
  cases hmv : s.chopperMv c with
  | none => rfl
  | some v => simpa using hv v hmv

/-- Settles O25, by the chopper, whether BRK0 to BRK3 or a chopper leg. -/
theorem dcLink : Obligations.DcLink := by
  refine ⟨fun d mv s hd hr hv => ?_, fun d mv q s hd hq ho hv => ?_, fun m s hw ho hv => ?_, fun l s hw ho hv => ?_, fun m s ho hv => ?_,
    fun l s ho hv => ?_, fun m s ho hx hl => ?_, fun d mv s => ⟨fun hno => ?_, fun hno => ?_⟩, fun c s => ⟨fun hno => ?_, fun hno => ?_⟩, fun m s hno => ?_⟩
  · exact ⟨_, if_pos (by simp [hd, State.isReady, hr, hv]), rfl, ⟨_, rfl, rfl, rfl, rfl⟩, rfl⟩
  · have hne : ((s.dieQuays d).filter s.outsideOff).isEmpty = false := by
      rw [← Bool.not_eq_true, List.isEmpty_iff]
      exact List.ne_nil_of_mem (List.mem_filter.2 ⟨hq, bne_iff_ne.2 ho⟩)
    exact ⟨_, if_pos (by simp only [hd, hne, hv, Bool.not_false, Bool.and_self, decide_true]), rfl, ⟨_, rfl, rfl, rfl, rfl⟩, rfl⟩
  · exact ⟨_, execChopperOn_of_reached hw ho hv, State.modBrk_self s m _, fun j hj => State.modBrk_ne s _ (Ne.symm hj), rfl⟩
  · exact ⟨_, execChopperOn_of_reached hw ho hv, s.setChopper_leg l true⟩
  · exact ⟨_, execChopperOff_of_fallen ho hv, State.modBrk_self s m _, fun j hj => State.modBrk_ne s _ (Ne.symm hj), rfl⟩
  · exact ⟨_, execChopperOff_of_fallen ho hv, s.setChopper_leg l false⟩
  · exact ⟨_, if_pos (by rw [ho, bne_iff_ne.2 hx]; exact decide_eq_true hl), ⟨_, rfl, rfl, rfl, rfl⟩, rfl⟩
  · refine if_neg ?_
    simp only [Bool.and_eq_true, decide_eq_true_eq, not_and, not_lt]
    rintro ⟨hd, hr⟩
    exact (hno.resolve_left (by simp [hd])).resolve_left fun h => h (eq_of_beq hr)
  · refine if_neg ?_
    simp only [Bool.and_eq_true, decide_eq_true_eq, not_and, not_lt, Bool.not_eq_true', List.isEmpty_eq_false_iff_exists_mem]
    rintro ⟨hd, q, hq⟩
    obtain ⟨hmem, hout⟩ := List.mem_filter.1 hq
    exact (hno.resolve_left (by simp [hd])).resolve_left fun h => bne_iff_ne.1 hout (h q hmem)
  · refine if_neg ?_
    rcases hno with h | h | ⟨v, hv, hlt⟩
    · simp [h]
    · simp [h]
    · simp [hv, hlt]
  · refine if_neg ?_
    rcases hno with h | ⟨v, hv, hlt⟩
    · simp [h]
    · simp [hv, hlt]
  · refine if_neg fun hc => ?_
    simp only [Bool.and_eq_true, bne_iff_ne, decide_eq_true_eq] at hc
    obtain ⟨⟨hon, hmax⟩, hle⟩ := hc
    rcases hno with h | h | h
    · exact Bool.false_ne_true (h.symm.trans hon)
    · exact hmax h
    · exact absurd hle (Nat.not_le.2 h)

end Sys2Proof.Machine
end

section
/-! ### Gate watch and bootstrap of a leg of a pre-driver die (R753 to R764, R785) -/

namespace Sys2Proof.Machine

theorem State.localLeg_of_die {l : LegNo} {s : State} (hl : l.val < 32) (hd : s.hasDies = true) : s.localLeg l = true := by
  rw [State.localLeg, hd, Bool.and_true]
  exact decide_eq_true hl

theorem State.localLeg_eq_false {l : LegNo} {s : State} (h : 32 ≤ l.val ∨ s.hasDies = false) : s.localLeg l = false := by
  rw [State.localLeg, Bool.and_eq_false_iff]
  exact h.imp_left fun h => decide_eq_false (Nat.not_lt.2 h)

/-! #### GATE_WATCH -/

/-- A source of a leg is raised for the quay that owns the leg, which then shows the suspect; of a leg of no quay nothing is. -/
theorem State.raiseLeg_spec (s : State) (src : Nat) (l : LegNo) (suspect : Nat) (ctx : Ctx) (latched : List LegNo) :
    (∀ q, s.legQuay l = some q → (s.raiseLeg src l suspect ctx latched).leg[l] = { s.leg[l] with suspect := suspect } ∧
      ∃ e : FaultEvent, (s.raiseLeg src l suspect ctx latched).flt = { s.flt with transit := s.flt.transit ++ [e] } ∧ e.src = src ∧ e.quays = [q] ∧
        e.suspect = suspect ∧ e.time = s.now) ∧
    (s.legQuay l = none → s.raiseLeg src l suspect ctx latched = s) ∧
    (∀ k : LegNo, k ≠ l → (s.raiseLeg src l suspect ctx latched).leg[k] = s.leg[k]) ∧
    s.raiseLeg src l suspect ctx latched = { s with leg := (s.raiseLeg src l suspect ctx latched).leg, flt := (s.raiseLeg src l suspect ctx latched).flt } := by
  unfold State.raiseLeg
  cases hq : s.legQuay l with
  | none => exact ⟨nofun, fun _ => rfl, fun _ _ => rfl, rfl⟩
  | some q =>
    refine ⟨fun p hp => ?_, nofun, fun k hk => State.modLeg_ne s _ (Ne.symm hk), rfl⟩
    cases hp
    exact ⟨State.modLeg_self s l _, _, rfl, rfl, rfl, rfl, rfl⟩

/-- The gate events of a leg at work (R753 to R755, R785). -/
theorem execGateWatch_of_local {l : LegNo} {s : State} (h : s.localLeg l = true) (sw : Switch) :
    execGateWatch l sw s = .next ((s.modLeg l (fun x => match sw with
      | .high => { x with abandoned := true, low := x.low.filter (fun e => decide (e.1 ≤ s.now) || !e.2) }
      | .low => { x with abandoned := true, high := x.high.filter (fun e => decide (e.1 ≤ s.now) || !e.2) })).raiseLeg srcGateWatch l (suspectOf sw)
        (legCtx l (suspectOf sw) 0x20 (s.legCurrent l) 0) []) := if_pos h

/-- Settles O22, by whether the leg is one of a pre-driver die. -/
theorem gateEvents : Obligations.GateEvents := by
  refine ⟨fun l sw s hl hd => ?_, fun l sw s hno => ?_⟩
  · have hlocal := State.localLeg_of_die hl hd
    have hnum : suspectOf sw = (match sw with | .high => 1 | .low => 2) := rfl
    intro n drop dropped shows
    have hshow : ∀ (u : State) (x : Leg) (suspect : Nat) (ctx : Ctx), u.leg[l] = x → (∀ k : LegNo, k ≠ l → u.leg[k] = s.leg[k]) →
        u = { s with leg := u.leg } → shows (u.raiseLeg srcGateWatch l suspect ctx []) x suspect := by
      intro u x suspect ctx hx hne hu
      obtain ⟨hsome, hnone, hrest, hall⟩ := u.raiseLeg_spec srcGateWatch l suspect ctx []
      have hq : u.legQuay l = s.legQuay l := by rw [hu]; rfl
      have hflt : u.flt = s.flt := by rw [hu]
      have hnow : u.now = s.now := by rw [hu]; rfl
      rw [hq] at hsome hnone
      rw [hx, hflt, hnow] at hsome
      refine ⟨hsome, fun h => ?_, fun k hk => (hrest k hk).trans (hne k hk), ?_⟩
      · rw [hnone h]
        exact ⟨hx, hflt⟩
      · rw [hall, hu]
    refine ⟨⟨_, execGateWatch_of_local hlocal sw, hshow _ _ _ _ ?_ (fun k hk => State.modLeg_ne s _ (Ne.symm hk)) rfl⟩,
      ⟨_, if_pos hlocal, hshow s _ _ _ rfl (fun _ _ => rfl) rfl⟩, ⟨_, if_pos hlocal, hshow s _ _ _ rfl (fun _ _ => rfl) rfl⟩⟩
    refine (State.modLeg_self s l _).trans ?_
    cases sw <;> rfl
  · have hneg : ¬ s.localLeg l = true := by simp [State.localLeg_eq_false hno]
    exact ⟨if_neg hneg, if_neg hneg, if_neg hneg⟩

/-! #### The level of a gate, and a refresh pulse -/

/-- The level at `u` is that of an event at or before `u` which no later event of another level follows by then. -/
theorem levelAt_append_cons {pre post : List (Nat × Bool)} {t u : Nat} {v : Bool} (ht : t ≤ u) (hpost : ∀ e ∈ post, e.1 ≤ u → e.2 = v) :
    levelAt (pre ++ (t, v) :: post) u = v := by
  simp only [levelAt, List.filter_append, List.filter_cons, decide_eq_true ht, if_true, List.getLast?_append, List.getLast?_cons,
    Option.some_or, Option.map_some, Option.getD_some]
  cases hlast : (post.filter (fun e => decide (e.1 ≤ u))).getLast? with
  | none => rfl
  | some e =>
    obtain ⟨hmem, hle⟩ := List.mem_filter.1 (List.mem_of_getLast? hlast)
    exact hpost e hmem (of_decide_eq_true hle)

/-- What a refresh pulse at `t` does to the gates (R760): the high side is off for it, the low side on for 300 ns after a dead time. -/
theorem Leg.refresh_high_off (x : Leg) (t dead : Nat) {u : Nat} (htu : t ≤ u) (hu : u < t + 2 * dead + 1920) :
    levelAt (x.refresh t dead).high u = false := by
  unfold Leg.refresh
  dsimp only
  split
  · refine levelAt_append_cons htu fun e he hle => ?_
    simp only [List.mem_cons, List.mem_filter, decide_eq_true_eq] at he
    rcases he with rfl | ⟨-, hstop⟩
    · dsimp only at hle; omega
    · omega
  · rw [List.append_assoc, List.cons_append]
    refine levelAt_append_cons htu fun e he hle => ?_
    simp only [List.mem_append, List.mem_map, List.mem_filter, decide_eq_true_eq] at he
    rcases he with ⟨d, -, rfl⟩ | ⟨-, hstop⟩
    · dsimp only at hle; omega
    · omega

theorem Leg.refresh_low_on (x : Leg) (t dead : Nat) {u : Nat} (htu : t + dead ≤ u) (hu : u < t + dead + 1920) :
    levelAt (x.refresh t dead).low u = true := by
  unfold Leg.refresh
  dsimp only
  split
  · dsimp only
    rw [List.append_assoc, List.cons_append]
    refine levelAt_append_cons htu fun e he hle => ?_
    simp only [List.cons_append, List.mem_cons, List.mem_append, List.mem_map, List.mem_filter, decide_eq_true_eq] at he
    rcases he with rfl | ⟨d, -, rfl⟩ | ⟨-, hstop⟩
    · dsimp only at hle; omega
    · dsimp only at hle; omega
    · omega
  · dsimp only
    rw [List.append_assoc, List.cons_append]
    refine levelAt_append_cons htu fun e he hle => ?_
    simp only [List.mem_append, List.mem_map, List.mem_filter, decide_eq_true_eq] at he
    rcases he with ⟨d, -, rfl⟩ | ⟨-, hstop⟩
    · dsimp only at hle; omega
    · omega

/-- Where no turn-off of the high side falls within the pulse, the low side goes off and the high side is on again a dead time later (R760). -/
theorem Leg.refresh_ends (x : Leg) (t : Nat) {dead : Nat} (hdead : 0 < dead)
    (hoff : ∀ e ∈ x.high, e.2 = false → e.1 ≤ t ∨ t + 2 * dead + 1920 < e.1) :
    levelAt (x.refresh t dead).low (t + dead + 1920) = false ∧ levelAt (x.refresh t dead).high (t + 2 * dead + 1920) = true := by
  have hnone : (x.high.filter (fun e => decide (t < e.1) && decide (e.1 < t + 2 * dead + 1920) && e.2 == false)).isEmpty = true := by
    rw [List.isEmpty_iff, List.filter_eq_nil_iff]
    intro e he hc
    simp only [Bool.and_eq_true, decide_eq_true_eq, beq_iff_eq] at hc
    obtain ⟨⟨hgt, hlt⟩, hv⟩ := hc
    rcases hoff e he hv with h | h <;> omega
  unfold Leg.refresh
  dsimp only
  rw [if_pos hnone]
  constructor
  · have hcut : ∀ a b c d : List (Nat × Bool), ∀ p q : Nat × Bool, a ++ p :: q :: b ++ c = (a ++ [p]) ++ q :: (b ++ c) := by simp
    rw [hcut _ _ _ []]
    refine levelAt_append_cons (Nat.le_refl _) fun e he hle => ?_
    simp only [List.mem_append, List.mem_map, List.mem_filter, decide_eq_true_eq] at he
    rcases he with ⟨d, -, rfl⟩ | ⟨-, hstop⟩
    · dsimp only at hle; omega
    · omega
  · have hcut : ∀ a b : List (Nat × Bool), ∀ p q : Nat × Bool, a ++ p :: q :: b = (a ++ [p]) ++ q :: b := by simp
    rw [hcut]
    refine levelAt_append_cons (Nat.le_refl _) fun e he hle => ?_
    obtain ⟨hmem, hstop⟩ := List.mem_filter.1 he
    have hstop := of_decide_eq_true hstop
    by_contra hv
    rcases hoff e hmem (Bool.eq_false_iff.2 hv) with h | h <;> omega

/-! #### BOOT_REFRESH, BOOT_UV -/

theorem Leg.refresh_rest (x : Leg) (t dead : Nat) : x.refresh t dead = { x with high := (x.refresh t dead).high, low := (x.refresh t dead).low } := by
  unfold Leg.refresh
  dsimp only
  split <;> rfl

/-- A source raised for the quay that owns a leg or cell, where one does. -/
def State.raiseFor (u : State) (o : Option QuayNo) (src : Nat) (ctx : Ctx) : State :=
  match o with
  | some q => u.raiseQuay src q ctx
  | none => u

@[simp] theorem State.raiseFor_blank {ps : List Part} (u : State) (h : .transit ∈ ps) (o : Option QuayNo) (src : Nat) (ctx : Ctx) :
    (u.raiseFor o src ctx).blank ps = u.blank ps := by
  cases o <;> simp [State.raiseFor, h]

/-- What raising a source for an owner does, from a device `u` with the faults and the time of `s`. -/
theorem State.raiseFor_spec (s u : State) (o : Option QuayNo) (src : Nat) (ctx : Ctx) (hflt : u.flt = s.flt) (hnow : u.now = s.now) :
    (∀ q, o = some q → Raised s (u.raiseFor o src ctx) src (BitVec.ofNat 8 q.val)) ∧ (o = none → (u.raiseFor o src ctx).flt = s.flt) ∧
      u.raiseFor o src ctx = { u with flt := (u.raiseFor o src ctx).flt } := by
  cases o with
  | none => exact ⟨nofun, fun _ => hflt, rfl⟩
  | some q =>
    refine ⟨fun p hp => ?_, nofun, rfl⟩
    cases hp
    exact ⟨faultOf u src (BitVec.ofNat 8 q.val) [q] ctx,
      congrArg (fun f : Collector => { f with transit := f.transit ++ [faultOf u src (BitVec.ofNat 8 q.val) [q] ctx] }) hflt, rfl, hnow, rfl⟩

/-- The leg after a refresh pulse: pulse counted and timed (R760, R761). -/
def Leg.pulsed (x : Leg) (t dead : Nat) : Leg := { x.refresh t dead with refreshes := x.refreshes + 1, lastRefresh := some t }

theorem State.refreshPulse_leg (s : State) (l : LegNo) :
    (s.refreshPulse l).leg[l] = s.leg[l].pulsed s.now (legDeadTime s l) ∧ ∀ k : LegNo, k ≠ l → (s.refreshPulse l).leg[k] = s.leg[k] := by
  have hleg : (s.refreshPulse l).leg = (s.modLeg l (fun x => x.pulsed s.now (legDeadTime s l))).leg := by
    unfold State.refreshPulse
    dsimp only
    split <;> rfl
  rw [hleg]
  exact ⟨State.modLeg_self s l _, fun k hk => State.modLeg_ne s _ (Ne.symm hk)⟩

@[simp] theorem State.refreshPulse_blank {ps : List Part} (s : State) (l : LegNo) (h : Covers ps [.legAt l, .transit]) :
    (s.refreshPulse l).blank ps = s.blank ps := by
  simp at h
  unfold State.refreshPulse
  dsimp only
  split <;> simp [h]

/-- At most once in 5 us (R761). -/
theorem execBootRefresh_of_due {l : LegNo} {s : State} (hh : s.gateHigh l = true) (hd : ∀ u, s.leg[l].lastRefresh = some u → u + 32000 ≤ s.now) :
    execBootRefresh l s = .next (s.refreshPulse l) := by
  refine if_pos ?_
  rw [hh, Bool.true_and]
  cases hl : s.leg[l].lastRefresh with
  | none => rfl
  | some u => exact decide_eq_true (hd u hl)

theorem execRefreshRepeat_of_due {l : LegNo} {s : State} {u : Nat} (hh : s.gateHigh l = true) (hl : s.leg[l].lastRefresh = some u) (hd : u + 32000 ≤ s.now) :
    execRefreshRepeat l s = .next (s.refreshPulse l) := by
  rw [execRefreshRepeat, hl]
  refine if_pos ?_
  rw [hh, Bool.true_and]
  exact decide_eq_true hd

theorem execRefreshRepeat_of_not {l : LegNo} {s : State} (h : ∀ u, s.leg[l].lastRefresh = some u → s.gateHigh l = true → s.now < u + 32000) :
    execRefreshRepeat l s = .next s := by
  rw [execRefreshRepeat]
  cases hl : s.leg[l].lastRefresh with
  | none => rfl
  | some u =>
    refine if_neg fun hc => ?_
    simp only [Bool.and_eq_true, decide_eq_true_eq] at hc
    exact absurd hc.2 (Nat.not_le.2 (h u hl hc.1))

theorem execBootRefresh_of_not {l : LegNo} {s : State} (h : s.gateHigh l = true → ∃ u, s.leg[l].lastRefresh = some u ∧ s.now < u + 32000) :
    execBootRefresh l s = .next s := by
  refine if_neg fun hc => ?_
  rw [Bool.and_eq_true] at hc
  obtain ⟨hh, hfree⟩ := hc
  obtain ⟨u, hu, hlt⟩ := h hh
  rw [hu] at hfree
  exact absurd (of_decide_eq_true hfree) (Nat.not_le.2 hlt)

theorem execBootUv_of_new {l : LegNo} {s : State} (hloc : s.localLeg l = true) (hu : s.leg[l].uvlo = false) :
    execBootUv l s = .next ((s.modLeg l (fun x => { x with uvlo := true })).raiseFor (s.legQuay l) srcBootUv (instCtx l.val)) := by
  refine if_pos ?_
  rw [hloc, hu]
  rfl

/-- Settles O23, by whether the high side is on and when the last refresh was. -/
theorem bootstrapEvents : Obligations.BootstrapEvents := by
  unfold Obligations.BootstrapEvents
  intro raises
  refine ⟨fun l s => ?_, fun l s hl hd => ⟨fun hu => ?_, ?_⟩, fun l s => ⟨fun hu => if_neg (by simp only [hu, Bool.not_true, Bool.and_false, Bool.false_eq_true, not_false_eq_true]), fun hno => ?_⟩⟩
  · intro stop pulse
    have hpulse : pulse (s.refreshPulse l) := by
      obtain ⟨hleg, hne⟩ := s.refreshPulse_leg l
      obtain ⟨hraise, hnone, hrest⟩ := s.raiseFor_spec (s.modLeg l (fun x => x.pulsed s.now (legDeadTime s l))) (s.legQuay l)
        srcBootRefresh (instCtx l.val) rfl rfl
      refine ⟨⟨hraise, hnone⟩, ?_, fun u h1 h2 => ?_, fun u h1 h2 => ?_, fun hoff hdead => ?_, hne, ?_⟩
      · rw [hleg]
        exact congrArg (fun x : Leg => { x with refreshes := s.leg[l].refreshes + 1, lastRefresh := some s.now }) (s.leg[l].refresh_rest _ _)
      · rw [hleg]
        exact s.leg[l].refresh_high_off _ _ h1 h2
      · rw [hleg]
        exact s.leg[l].refresh_low_on _ _ h1 h2
      · rw [hleg]
        exact s.leg[l].refresh_ends _ hdead hoff
      · exact State.eq_take (s.refreshPulse_blank l (ps := [.leg, .flt, .transit]) (by simp))
    refine ⟨fun hh hdue => ⟨_, execBootRefresh_of_due hh hdue, hpulse⟩, fun u hh hlast hdue => ⟨_, execRefreshRepeat_of_due hh hlast hdue, hpulse⟩,
      fun u hlast hlt => ⟨execBootRefresh_of_not fun _ => ⟨u, hlast, hlt⟩, execRefreshRepeat_of_not fun v hv _ => ?_⟩,
      fun hh => ⟨execBootRefresh_of_not fun h => ?_, execRefreshRepeat_of_not fun v hv h => ?_⟩,
      fun hlast => execRefreshRepeat_of_not fun v hv => ?_⟩
    · cases hlast.symm.trans hv
      exact hlt
    · exact absurd (hh.symm.trans h) Bool.false_ne_true
    · exact absurd (hh.symm.trans h) Bool.false_ne_true
    · exact nomatch hlast.symm.trans hv
  · obtain ⟨hraise, hnone, hrest⟩ := s.raiseFor_spec (s.modLeg l (fun x => { x with uvlo := true })) (s.legQuay l) srcBootUv (instCtx l.val) rfl rfl
    refine ⟨_, execBootUv_of_new (State.localLeg_of_die hl hd) hu, ⟨hraise, hnone⟩, ?_⟩
    rw [hrest]
    have hself := State.modLeg_self s l (fun x => { x with uvlo := true })
    refine ⟨hself, ?_, fun k hk => State.modLeg_ne s _ (Ne.symm hk), rfl⟩
    have huv : (s.modLeg l (fun x => { x with uvlo := true })).leg[l].uvlo = true := congrArg Leg.uvlo hself
    simp only [State.gateHigh]
    rw [show ∀ f : Collector, ({ s.modLeg l (fun x => { x with uvlo := true }) with flt := f } : State).leg[l].uvlo = true from fun _ => huv]
    simp
  · refine ⟨_, if_pos (State.localLeg_of_die hl hd), ?_, fun k hk => State.modLeg_ne s _ (Ne.symm hk), rfl⟩
    refine (State.modLeg_self s l _).trans ?_
    by_cases hc : s.leg[l].uvlo = true ∧ levelAt s.leg[l].high s.now = true
    · rw [if_pos hc, if_pos (by rw [hc.1, hc.2]; rfl)]
    · rw [if_neg hc, if_neg (by rwa [Bool.and_eq_true])]
  · have hloc := State.localLeg_eq_false hno
    exact ⟨if_neg (by simp only [hloc, Bool.false_and, Bool.false_eq_true, not_false_eq_true]), if_neg (by simp [hloc])⟩

end Sys2Proof.Machine
end

section
/-! ### Legs: what holds them, and how a change of it is taken to them (R742 to R744) -/

namespace Sys2Proof.Machine

/-! #### Operations over a list -/

section
variable {α : Type} {s : State} {f : State → α → State} {P : State → Prop}

theorem forAll_cons (x : α) (xs : List α) (s : State) (f : State → α → State) : forAll (x :: xs) s f = forAll xs (f s x) f := rfl

theorem forAll_append (xs ys : List α) (s : State) (f : State → α → State) : forAll (xs ++ ys) s f = forAll ys (forAll xs s f) f :=
  List.foldl_append

/-- What every step keeps holds after all of them. -/
theorem forAll_keeps {xs : List α} (h0 : P s) (hP : ∀ t, P t → ∀ b ∈ xs, P (f t b)) : P (forAll xs s f) := by
  induction xs generalizing s with
  | nil => exact h0
  | cons x xs ih => exact ih (hP s h0 x List.mem_cons_self) fun t ht b hb => hP t ht b (List.mem_cons_of_mem x hb)

/-- What only the step for `a` can change is, after all of them, what that step makes of it. -/
theorem forAll_observe {β : Type} {xs : List α} (hn : xs.Nodup) {a : α} (ha : a ∈ xs) (g : State → β) (h0 : P s)
    (hP : ∀ t, P t → ∀ b ∈ xs, P (f t b)) (hg : ∀ t, P t → ∀ b ∈ xs, b ≠ a → g (f t b) = g t) :
    ∃ t, P t ∧ g t = g s ∧ g (forAll xs s f) = g (f t a) := by
  obtain ⟨pre, post, rfl⟩ := List.append_of_mem ha
  obtain ⟨-, hpost, hdis⟩ := List.nodup_append.1 hn
  have hpre : P (forAll pre s f) ∧ g (forAll pre s f) = g s :=
    forAll_keeps (P := fun t => P t ∧ g t = g s) ⟨h0, rfl⟩ fun t ht b hb =>
      have hmem := List.mem_append_left _ hb
      ⟨hP t ht.1 b hmem, (hg t ht.1 b hmem fun e => hdis b hb a List.mem_cons_self e).trans ht.2⟩
  refine ⟨forAll pre s f, hpre.1, hpre.2, ?_⟩
  rw [forAll_append, forAll_cons]
  have hmem : a ∈ pre ++ a :: post := ha
  exact (forAll_keeps (P := fun t => P t ∧ g t = g (f (forAll pre s f) a)) ⟨hP _ hpre.1 a hmem, rfl⟩ fun t ht b hb =>
    have hb' := List.mem_append_right pre (List.mem_cons_of_mem a hb)
    ⟨hP t ht.1 b hb', (hg t ht.1 b hb' fun e => (List.nodup_cons.1 hpost).1 (e ▸ hb)).trans ht.2⟩).2

end

/-! #### The edges of a gate -/

/-- A leg without the edges of its gates. -/
def Leg.ungated (x : Leg) : Leg := { x with high := [], low := [] }

theorem Leg.eq_of_ungated {x y : Leg} (h : x.ungated = y.ungated) : x = { y with high := x.high, low := x.low } :=
  congrArg (fun z : Leg => { z with high := x.high, low := x.low }) h

theorem Leg.ungated_gates (x : Leg) (hs ls : List (Nat × Bool)) : ({ x with high := hs, low := ls } : Leg).ungated = x.ungated := rfl

@[simp] theorem Leg.ungated_hold (x : Leg) (k : LegKind) (a b : Nat) : (x.hold k a b).ungated = x.ungated := by
  cases k <;> rfl

/-- Once a gate has been turned off it stays off. -/
theorem levelAt_offFrom (es : List (Nat × Bool)) {t u : Nat} (h : t ≤ u) : levelAt (offFrom es t) u = false := by
  have hpast : ∀ v, t ≤ v → (es.filter (fun e => decide (e.1 ≤ t))).filter (fun e => decide (e.1 ≤ v)) = es.filter (fun e => decide (e.1 ≤ t)) :=
    fun v hv => List.filter_eq_self.2 fun e he => decide_eq_true ((of_decide_eq_true (List.mem_filter.1 he).2).trans hv)
  unfold offFrom
  dsimp only
  split
  · exact levelAt_append_cons h fun e he => absurd he List.not_mem_nil
  · next hoff =>
    rw [Bool.not_eq_true] at hoff
    rw [levelAt, hpast u h]
    rwa [levelAt, hpast t (Nat.le_refl t)] at hoff

theorem offFrom_past (es : List (Nat × Bool)) (t : Nat) : ∀ e ∈ offFrom es t, e.1 ≤ t := by
  intro e he
  have hfilter : e ∈ es.filter (fun e => decide (e.1 ≤ t)) → e.1 ≤ t := fun h => of_decide_eq_true (List.mem_filter.1 h).2
  unfold offFrom at he
  dsimp only at he
  split at he
  · rcases List.mem_append.1 he with h | h
    · exact hfilter h
    · rw [List.mem_singleton.1 h]
  · exact hfilter he

/-- Forgetting edges that have passed leaves the level of a gate. -/
theorem levelAt_recent {es : List (Nat × Bool)} {t u : Nat} (h : ∀ e ∈ es, e.1 ≤ t) (hu : t ≤ u) : levelAt (recent es t) u = levelAt es u := by
  have hall : ∀ v, t ≤ v → es.filter (fun e => decide (e.1 ≤ v)) = es :=
    fun v hv => List.filter_eq_self.2 fun e he => decide_eq_true ((h e he).trans hv)
  have hnone : es.filter (fun e => decide (t < e.1)) = [] :=
    List.filter_eq_nil_iff.2 fun e he => by simp [h e he]
  have hdrop : (es.drop (es.length - 4)).filter (fun e => decide (e.1 ≤ u)) = es.drop (es.length - 4) :=
    List.filter_eq_self.2 fun e he => decide_eq_true ((h e (List.mem_of_mem_drop he)).trans hu)
  simp only [recent, levelAt, hall t (Nat.le_refl t), hnone, List.append_nil, hdrop, hall u hu, List.getLast?_drop]
  split
  · next hle =>
    have hnil : es = [] := List.length_eq_zero_iff.1 (by omega)
    rw [hnil]
    rfl
  · rfl

/-- A leg brought into OFF has both gates off from then on. -/
theorem Leg.hold_off_levels (x : Leg) {t u : Nat} (b : Nat) (h : t ≤ u) :
    levelAt (x.hold .off t b).high u = false ∧ levelAt (x.hold .off t b).low u = false ∧
      levelAt (recent (x.hold .off t b).high t) u = false ∧ levelAt (recent (x.hold .off t b).low t) u = false := by
  have hrecent : ∀ es : List (Nat × Bool), levelAt (recent (offFrom es t) t) u = false := fun es => by
    rw [levelAt_recent (offFrom_past es t) h, levelAt_offFrom es h]
  exact ⟨levelAt_offFrom _ h, levelAt_offFrom _ h, hrecent _, hrecent _⟩

/-! #### A change of what holds the legs -/

/-- Two states that differ in the edges of gates and in frames handed to the lanes alone. -/
structure GatesOnly (s t : State) : Prop where
  rest : LegsOnly s t
  leg (l : LegNo) : t.leg[l].ungated = s.leg[l].ungated
  lane (n : LaneNo) : ({ t.lane[n] with tx := [] } : Lane) = { s.lane[n] with tx := [] }

namespace GatesOnly
variable {s t u : State}

theorem refl (s : State) : GatesOnly s s := ⟨.refl s, fun _ => rfl, fun _ => rfl⟩

theorem trans (h : GatesOnly s t) (k : GatesOnly t u) : GatesOnly s u :=
  ⟨h.rest.trans k.rest, fun l => (k.leg l).trans (h.leg l), fun n => (k.lane n).trans (h.lane n)⟩

theorem modLeg (s : State) (l : LegNo) {f : Leg → Leg} (hf : ∀ x, (f x).ungated = x.ungated) : GatesOnly s (s.modLeg l f) := by
  refine ⟨.modLeg s l f, fun k => ?_, fun _ => rfl⟩
  by_cases hk : l = k
  · subst hk
    rw [State.modLeg_self, hf]
  · rw [State.modLeg_ne s f hk]

theorem sendLane (s : State) (n : LaneNo) (f : GwFrame) : GatesOnly s (s.sendLane n f) := by
  refine ⟨.modLane s n _, fun _ => rfl, fun m => ?_⟩
  by_cases hm : n = m
  · subst hm
    rw [State.sendLane, State.modLane_self]
  · rw [State.sendLane, State.modLane_ne s _ hm]

theorem forAll {α : Type} (xs : List α) (s : State) {f : State → α → State} (hf : ∀ t, ∀ b ∈ xs, GatesOnly t (f t b)) : GatesOnly s (Machine.forAll xs s f) :=
  forAll_keeps (P := GatesOnly s) (.refl s) fun t ht b hb => ht.trans (hf t b hb)

/-- What holds a leg does not depend on the edges of its gates. -/
theorem heldKind (h : GatesOnly s t) (l : LegNo) : t.heldKind l = s.heldKind l := by
  have hlatch : t.leg[l].latch = s.leg[l].latch := (congrArg Leg.latch (h.leg l) :)
  have hreact : t.leg[l].react = s.leg[l].react := (congrArg Leg.react (h.leg l) :)
  have hrest := h.rest
  rw [LegsOnly] at hrest
  have h10 : t.afterStep10 = s.afterStep10 := by rw [hrest]; rfl
  have hlow : t.legEnLow l = s.legEnLow l := by rw [hrest]; rfl
  have hchop : t.isChopperLeg l = s.isChopperLeg l := by rw [hrest]; rfl
  have hhalt : t.haltOn = s.haltOn := by rw [hrest]; rfl
  rw [State.heldKind, State.heldKind, h10, hlow, hchop, hhalt, hlatch, hreact]

end GatesOnly

theorem State.orderLocal_gates (old s : State) (l : LegNo) : GatesOnly s (old.orderLocal s l) := by
  unfold State.orderLocal
  split
  · split
    · exact .modLeg s l fun x => (Leg.ungated_gates _ _ _).trans (x.ungated_hold _ _ _)
    · unfold State.resume
      split
      · exact .refl s
      · exact .modLeg s l fun x => (Leg.ungated_gates _ _ _).trans (x.ungated_hold _ _ _)
  · exact .refl s

theorem State.orderLocal_ne (old s : State) {k l : LegNo} (h : k ≠ l) : (old.orderLocal s k).leg[l] = s.leg[l] := by
  unfold State.orderLocal
  split
  · split
    · exact State.modLeg_ne s _ h
    · unfold State.resume
      split
      · rfl
      · exact State.modLeg_ne s _ h
  · rfl

theorem State.stateFrame_gates (old s : State) (n : LaneNo) : GatesOnly s (old.stateFrame s n) := by
  unfold State.stateFrame
  dsimp only
  split
  · exact .refl s
  · exact .sendLane s n _

theorem State.stateFrame_leg (old s : State) (n : LaneNo) : (old.stateFrame s n).leg = s.leg := by
  unfold State.stateFrame
  dsimp only
  split <;> rfl

/-- A change of what holds legs moves edges of gates and sends frames alone. -/
theorem State.syncLegs_gates (old s : State) : GatesOnly s (old.syncLegs s) :=
  (GatesOnly.forAll allLegs s fun t l _ => old.orderLocal_gates t l).trans (.forAll _ _ fun t n _ => old.stateFrame_gates t n)

/-- Each leg is taken there on its own. -/
theorem State.syncLegs_leg (old s : State) (l : LegNo) : ∃ t, GatesOnly s t ∧ t.leg[l] = s.leg[l] ∧ (old.syncLegs s).leg[l] = (old.orderLocal t l).leg[l] := by
  obtain ⟨t, ht, hleg, hall⟩ := forAll_observe (s := s) (f := fun t l => old.orderLocal t l) (P := GatesOnly s) (List.nodup_finRange 80) (List.mem_finRange l)
    (fun t => t.leg[l]) (.refl s) (fun t ht b _ => ht.trans (old.orderLocal_gates t b)) fun t _ b _ hb => old.orderLocal_ne t hb
  refine ⟨t, ht, hleg, Eq.trans ?_ hall⟩
  have hframes : (old.syncLegs s).leg = (forAll allLegs s (fun t l => old.orderLocal t l)).leg :=
    forAll_keeps (P := fun u => u.leg = (forAll allLegs s (fun t l => old.orderLocal t l)).leg) rfl fun u hu n _ => (old.stateFrame_leg u n).trans hu
  rw [hframes]
  rfl

/-- A leg that is held as before, and one without a pre-driver die, stays as it is. -/
theorem State.syncLegs_leg_same {old s : State} {l : LegNo} (h : old.heldKind l = s.heldKind l ∨ s.localLeg l = false) : (old.syncLegs s).leg[l] = s.leg[l] := by
  obtain ⟨t, ht, hleg, hl⟩ := old.syncLegs_leg s l
  have hlocal : t.localLeg l = s.localLeg l := by
    have hrest := ht.rest
    rw [LegsOnly] at hrest
    rw [hrest]
    rfl
  rw [hl, State.orderLocal, ht.heldKind, hlocal, if_neg, hleg]
  rcases h with h | h <;> simp [h]

/-- A leg of a pre-driver die that is held anew is brought into the kind that holds it. -/
theorem State.syncLegs_leg_held {old s : State} {l : LegNo} (hlocal : s.localLeg l = true) {k : LegKind} (hk : s.heldKind l = some k)
    (hne : old.heldKind l ≠ some k) : (old.syncLegs s).leg[l] = { s.leg[l] with
      high := recent (s.leg[l].hold k s.now (s.now + legDeadTime s l)).high s.now
      low := recent (s.leg[l].hold k s.now (s.now + legDeadTime s l)).low s.now } := by
  obtain ⟨t, ht, hleg, hl⟩ := old.syncLegs_leg s l
  have hrest := ht.rest
  rw [LegsOnly] at hrest
  have hnow : t.now = s.now := by rw [hrest]; rfl
  have hdead : legDeadTime t l = legDeadTime s l := by rw [hrest]; rfl
  have htl : t.localLeg l = true := by rw [hrest]; exact hlocal
  rw [hl, State.orderLocal, if_pos (by rw [htl, ht.heldKind, hk]; exact bne_iff_ne.2 hne), ht.heldKind, hk]
  dsimp only
  rw [State.modLeg_self, hleg, hnow, hdead]
  exact congrArg (fun z : Leg => { z with
    high := recent (s.leg[l].hold k s.now (s.now + legDeadTime s l)).high s.now
    low := recent (s.leg[l].hold k s.now (s.now + legDeadTime s l)).low s.now }) (s.leg[l].ungated_hold k s.now (s.now + legDeadTime s l))

end Sys2Proof.Machine
end

section
/-! ### Enable pins, HALT inputs and short circuits -/

namespace Sys2Proof.Machine

/-! #### Raising a source over a list -/

/-- A source that the step for `a` raises is on its way after all steps, where none takes a fault back. -/
theorem forAll_raises {α : Type} {xs : List α} {a : α} (ha : a ∈ xs) {s : State} {f : State → α → State} {P : State → Prop} {Q : FaultEvent → Prop}
    (h0 : P s) (hP : ∀ t, P t → ∀ b ∈ xs, P (f t b)) (hsub : ∀ t, ∀ b ∈ xs, t.flt.transit ⊆ (f t b).flt.transit)
    (hraise : ∀ t, P t → ∃ e ∈ (f t a).flt.transit, Q e) : ∃ e ∈ (forAll xs s f).flt.transit, Q e := by
  obtain ⟨pre, post, rfl⟩ := List.append_of_mem ha
  have hpre : P (forAll pre s f) := forAll_keeps h0 fun t ht b hb => hP t ht b (List.mem_append_left _ hb)
  obtain ⟨e, he, hq⟩ := hraise _ hpre
  rw [forAll_append, forAll_cons]
  have hpost : (f (forAll pre s f) a).flt.transit ⊆ (forAll post (f (forAll pre s f) a) f).flt.transit :=
    forAll_keeps (P := fun t => (f (forAll pre s f) a).flt.transit ⊆ t.flt.transit) (List.Subset.refl _) fun t ht b hb =>
      List.Subset.trans ht (hsub t b (List.mem_append_right _ (List.mem_cons_of_mem _ hb)))
  exact ⟨e, hpost he, hq⟩

/-- Steps that only raise keep the faults on their way. -/
theorem forAll_transit_subset {α : Type} {xs : List α} {s : State} {f : State → α → State} (hsub : ∀ t, ∀ b ∈ xs, t.flt.transit ⊆ (f t b).flt.transit) :
    s.flt.transit ⊆ (forAll xs s f).flt.transit :=
  forAll_keeps (P := fun t => s.flt.transit ⊆ t.flt.transit) (List.Subset.refl _) fun t ht b hb => List.Subset.trans ht (hsub t b hb)

theorem State.raise_transit_subset (s : State) (e : FaultEvent) : s.flt.transit ⊆ (s.raise e).flt.transit := List.subset_append_left _ _

theorem State.raise_mem (s : State) (e : FaultEvent) : e ∈ (s.raise e).flt.transit := List.mem_append_right _ (List.mem_singleton_self e)

@[simp] theorem State.raiseEnableLow_blank {ps : List Part} (s : State) (qs : List QuayNo) (h : .transit ∈ ps) :
    (s.raiseEnableLow qs).blank ps = s.blank ps := by
  simp [State.raiseEnableLow, State.ite_blank, h]

/-- ENABLE_LOW is raised for a quay concerned in ARMED to HOMING (R804). -/
theorem State.raiseEnableLow_raises {s : State} {qs : List QuayNo} {q : QuayNo} (hq : q ∈ qs)
    (hst : s.quay[q].core.st ≠ .off ∧ s.quay[q].core.st ≠ .faulted ∧ s.quay[q].core.st ≠ .safe) :
    ∃ e ∈ (s.raiseEnableLow qs).flt.transit, e.src = srcEnableLow ∧ e.quays = [q] ∧ e.time = s.now := by
  have hin : enableLowStates.contains s.quay[q].core.st = true := by
    obtain ⟨hoff, hfaulted, hsafe⟩ := hst
    cases h : s.quay[q].core.st <;> first | rfl | contradiction
  refine forAll_raises hq (P := fun t => t.now = s.now) rfl (fun t ht b _ => ?_) (fun t b _ => ?_) fun t ht => ?_
  · split <;> exact ht
  · split
    · exact t.raise_transit_subset _
    · exact List.Subset.refl _
  · rw [if_pos hin]
    exact ⟨_, t.raise_mem _, rfl, rfl, ht⟩

/-! #### What holds a leg -/

theorem State.heldKind_of_enLow {s : State} {l : LegNo} (h : s.legEnLow l = true) : s.heldKind l = some .off := by
  rw [State.heldKind, h, Bool.true_or, if_pos rfl]
  exact ite_self _

theorem State.heldKind_of_halt {s : State} {l : LegNo} (hc : s.isChopperLeg l = false) (h : s.haltOn = true) : s.heldKind l = some .off := by
  rw [State.heldKind, h, hc, Bool.not_false, Bool.and_self, Bool.or_true, if_pos rfl]
  exact ite_self _

theorem State.heldKind_of_latch {s : State} {l : LegNo} (h : s.leg[l].latch = some .off) : s.heldKind l = some .off := by
  rw [State.heldKind, h]
  simp only [ite_self]

theorem State.gates_off_of_enLow {s : State} {l : LegNo} (h : s.legEnLow l = true) : s.gateHigh l = false ∧ s.gateLow l = false := by
  constructor
  · rw [State.gateHigh, h]; simp
  · rw [State.gateLow, h]; simp

theorem State.mem_quaysWithLeg {s : State} {p : LegNo → Bool} {q : QuayNo} {l : LegNo} (hl : l ∈ s.legsOf q) (hp : p l = true) : q ∈ s.quaysWithLeg p :=
  List.mem_filter.2 ⟨List.mem_finRange q, List.any_eq_true.2 ⟨l, hl, hp⟩⟩

theorem GatesOnly.latch {s t : State} (h : GatesOnly s t) (l : LegNo) : t.leg[l].latch = s.leg[l].latch := (congrArg Leg.latch (h.leg l) :)

/-! #### ENABLE_LOW, HALT_ASSERT, HALT_RELEASE -/

theorem execEnableLow_of_high {g : GroupNo} {s : State} (hp : 2 ≤ g.val ∨ s.hasDies = true) (hh : s.pins.enHigh[g] = true) :
    execEnableLow g s = .next (s.syncLegs (
      let s2 := (s.modPins (fun p => { p with enHigh := p.enHigh.set g false, enLowAt := p.enLowAt.set g s.now })).raiseEnableLow
        (s.quaysWithLeg (fun l => s.groupOf l == some g))
      if g.val = 0 then s2.modBrk 0 (fun b => { b with on := false }) else if g.val = 1 then s2.modBrk 1 (fun b => { b with on := false }) else s2)) := by
  refine if_pos ?_
  rw [State.hasPin, hh, Bool.and_true]
  rcases hp with h | h <;> simp [h]

/-- BRK0 and BRK1 go off with the enable pin of their die (R795). -/
theorem State.brk_off_with_pin (s : State) (g : GroupNo) (m : Fin 4) :
    (if g.val = 0 then s.modBrk 0 (fun b => { b with on := false }) else if g.val = 1 then s.modBrk 1 (fun b => { b with on := false }) else s).brk[m] =
      if m.val < 2 ∧ m.val = g.val then { s.brk[m] with on := false } else s.brk[m] := by
  by_cases h0 : g.val = 0
  · rw [if_pos h0]
    by_cases hm : (0 : Fin 4) = m
    · subst hm
      rw [State.modBrk_self, if_pos ⟨by decide, h0.symm⟩]
    · rw [State.modBrk_ne s _ hm, if_neg fun h => hm (Fin.ext (h0.symm.trans h.2.symm))]
  · rw [if_neg h0]
    by_cases h1 : g.val = 1
    · rw [if_pos h1]
      by_cases hm : (1 : Fin 4) = m
      · subst hm
        rw [State.modBrk_self, if_pos ⟨by decide, h1.symm⟩]
      · rw [State.modBrk_ne s _ hm, if_neg fun h => hm (Fin.ext (h1.symm.trans h.2.symm))]
    · rw [if_neg h1, if_neg fun h => by omega]

theorem State.syncLegs_latch {s u : State} (h : u.leg = s.leg) (l : LegNo) : (s.syncLegs u).leg[l].latch = s.leg[l].latch := by
  rw [(s.syncLegs_gates u).latch, h]

/-- What a transition raises for the quays of some legs is on its way, and taking it to the legs leaves it. -/
theorem State.enableLow_raised {s u : State} {p : LegNo → Bool} {q : QuayNo} {l : LegNo} (hl : l ∈ s.legsOf q) (hp : p l = true)
    (hquay : u.quay = s.quay) (hnow : u.now = s.now) (hst : s.quay[q].core.st ≠ .off ∧ s.quay[q].core.st ≠ .faulted ∧ s.quay[q].core.st ≠ .safe)
    {v : State} (hv : v.flt.transit = (u.raiseEnableLow (s.quaysWithLeg p)).flt.transit) :
    ∃ e ∈ v.flt.transit, e.src = srcEnableLow ∧ e.quays = [q] ∧ e.time = s.now := by
  rw [hv, ← hnow]
  exact State.raiseEnableLow_raises (State.mem_quaysWithLeg hl hp) (by rw [hquay]; exact hst)

theorem State.syncLegs_transit (old s : State) : (old.syncLegs s).flt.transit = s.flt.transit :=
  State.transit_of_blank (State.syncLegs_blank (ps := [.leg, .lane]) s old (by simp)) (by simp)

/-- What ENABLE_LOW does (R742, R795, R803, R804). -/
theorem enableLow_holds {g : GroupNo} {s : State} (hp : 2 ≤ g.val ∨ s.hasDies = true) (hh : s.pins.enHigh[g] = true) :
    ∃ t, exec (.enableLow g) s = .next t ∧
      t.pins = { s.pins with enHigh := s.pins.enHigh.set g false, enLowAt := s.pins.enLowAt.set g s.now } ∧
      (∀ l : LegNo, s.groupOf l = some g → t.heldKind l = some .off ∧ t.gateHigh l = false ∧ t.gateLow l = false) ∧
      (∀ (q : QuayNo) (l : LegNo), l ∈ s.legsOf q → s.groupOf l = some g →
        s.quay[q].core.st ≠ .off ∧ s.quay[q].core.st ≠ .faulted ∧ s.quay[q].core.st ≠ .safe →
        ∃ e ∈ t.flt.transit, e.src = srcEnableLow ∧ e.quays = [q] ∧ e.time = s.now) ∧
      (∀ m : Fin 4, t.brk[m] = (if m.val < 2 ∧ m.val = g.val then { s.brk[m] with on := false } else s.brk[m])) ∧
      (∀ l : LegNo, t.leg[l].latch = s.leg[l].latch) ∧
      t = { s with pins := t.pins, leg := t.leg, lane := t.lane, brk := t.brk, flt := { s.flt with transit := t.flt.transit } } := by
  refine ⟨_, execEnableLow_of_high hp hh, ?_⟩
  extract_lets s2
  have hs2 : s2.blank [.pins, .transit] = s.blank [.pins, .transit] := by simp [s2]
  have hpins2 : s2.pins = { s.pins with enHigh := s.pins.enHigh.set g false, enLowAt := s.pins.enLowAt.set g s.now } :=
    State.pins_of_blank (State.raiseEnableLow_blank (ps := [.transit]) _ _ (by simp)) (by simp)
  have hbrk2 : s2.brk = s.brk := State.brk_of_blank hs2 (by simp)
  have hbrk := s2.brk_off_with_pin g
  generalize hu : (if g.val = 0 then s2.modBrk 0 (fun b => { b with on := false })
    else if g.val = 1 then s2.modBrk 1 (fun b => { b with on := false }) else s2) = u at hbrk ⊢
  have hu2 : u.blank [.brk] = s2.blank [.brk] := by
    rw [← hu]
    simp [State.ite_blank]
  have hus : u.blank [.pins, .brk, .transit] = s.blank [.pins, .brk, .transit] :=
    (State.blank_mono hu2 (by simp)).trans (State.blank_mono hs2 (by simp))
  have hsync := State.syncLegs_blank (ps := [.leg, .lane]) u s (by simp)
  have hall := (State.blank_mono (ps := [.pins, .leg, .lane, .brk, .transit]) hsync (by simp)).trans (State.blank_mono hus (by simp))
  have hrest := State.eq_take hall
  have hpins := (State.pins_of_blank hsync (by simp)).trans ((State.pins_of_blank hu2 (by simp)).trans hpins2)
  have htransit := (s.syncLegs_transit u).trans (State.transit_of_blank hu2 (by simp))
  refine ⟨hpins, fun l hl => ?_, fun q l hl hg hst => State.enableLow_raised (p := fun l => s.groupOf l == some g)
    (u := s.modPins (fun p => { p with enHigh := p.enHigh.set g false, enLowAt := p.enLowAt.set g s.now })) hl (beq_iff_eq.2 hg) rfl rfl hst htransit, fun m => ?_,
    State.syncLegs_latch (congrArg State.leg (State.eq_take hus) :), hrest⟩
  · have hlow : (s.syncLegs u).legEnLow l = true := by
      have hgroup : (s.syncLegs u).groupOf l = s.groupOf l := by rw [hrest]; rfl
      rw [State.legEnLow, hgroup, hl]
      dsimp only
      rw [hpins]
      exact congrArg (!·) (Vector.getElem_set_self _)
    exact ⟨State.heldKind_of_enLow hlow, State.gates_off_of_enLow hlow⟩
  · rw [State.brk_of_blank hsync (by simp), hbrk, hbrk2]

/-- What HALT_ASSERT does (R1039 to R1043). -/
theorem haltAssert_holds {ch : Side} {s : State} (hh : s.pins.halt.get ch = false) : ∃ t, exec (.haltAssert ch) s = .next t ∧
    t.pins = { s.pins with halt := s.pins.halt.set ch true } ∧ (∀ l : LegNo, s.isChopperLeg l = false → t.heldKind l = some .off) ∧
    (∀ q : QuayNo, s.phaseLegs q ≠ [] → s.quay[q].core.st ≠ .off ∧ s.quay[q].core.st ≠ .faulted ∧ s.quay[q].core.st ≠ .safe →
      ∃ e ∈ t.flt.transit, e.src = srcEnableLow ∧ e.quays = [q] ∧ e.time = s.now) ∧
    (∀ l : LegNo, t.leg[l].latch = s.leg[l].latch) ∧
    t = { s with pins := t.pins, leg := t.leg, lane := t.lane, flt := { s.flt with transit := t.flt.transit } } := by
  refine ⟨_, if_neg (by simp [hh]), ?_⟩
  have hus : ((s.modPins (fun p => { p with halt := p.halt.set ch true })).raiseEnableLow (s.quaysWithLeg (fun l => !s.isChopperLeg l))).blank
      [.pins, .transit] = s.blank [.pins, .transit] := by simp
  have hpins : ((s.modPins (fun p => { p with halt := p.halt.set ch true })).raiseEnableLow (s.quaysWithLeg (fun l => !s.isChopperLeg l))).pins =
      { s.pins with halt := s.pins.halt.set ch true } := State.pins_of_blank (State.raiseEnableLow_blank (ps := [.transit]) _ _ (by simp)) (by simp)
  generalize hu : (s.modPins (fun p => { p with halt := p.halt.set ch true })).raiseEnableLow (s.quaysWithLeg (fun l => !s.isChopperLeg l)) = u at hus hpins ⊢
  have hsync := State.syncLegs_blank (ps := [.leg, .lane]) u s (by simp)
  have hrest := State.eq_take ((State.blank_mono (ps := [.pins, .leg, .lane, .transit]) hsync (by simp)).trans (State.blank_mono hus (by simp)))
  have hpins' := (State.pins_of_blank hsync (by simp)).trans hpins
  refine ⟨hpins', fun l hl => State.heldKind_of_halt ?_ ?_, fun q hq hst => ?_, State.syncLegs_latch (congrArg State.leg (State.eq_take hus) :), hrest⟩
  · rw [hrest]; exact hl
  · rw [State.haltOn, hpins']
    cases ch <;> simp [Pair.set]
  · obtain ⟨l, hl⟩ := List.exists_mem_of_ne_nil _ hq
    obtain ⟨hleg, hphase⟩ := List.mem_filter.1 hl
    exact State.enableLow_raised (p := fun l => !s.isChopperLeg l) (u := s.modPins (fun p => { p with halt := p.halt.set ch true }))
      hleg hphase rfl rfl hst ((s.syncLegs_transit u).trans (hu ▸ rfl))

/-- What HALT_RELEASE does (R1039, R1044). -/
theorem haltRelease_holds (ch : Side) (s : State) : ∃ t, exec (.haltRelease ch) s = .next t ∧
    t.pins = { s.pins with halt := s.pins.halt.set ch false } ∧ (∀ l : LegNo, t.leg[l].latch = s.leg[l].latch) ∧
    t = { s with pins := t.pins, leg := t.leg, lane := t.lane } := by
  have hsync := State.syncLegs_blank (ps := [.leg, .lane]) (s.modPins (fun p => { p with halt := p.halt.set ch false })) s (by simp)
  exact ⟨_, rfl, State.pins_of_blank hsync (by simp), State.syncLegs_latch rfl,
    State.eq_take ((State.blank_mono (ps := [.pins, .leg, .lane]) hsync (by simp)).trans (by simp))⟩

/-! #### ENABLE_TOGGLE -/

theorem State.unlatch_ne (s : State) {k l : LegNo} (h : k ≠ l) : (s.unlatch k).leg[l] = s.leg[l] := State.modLeg_ne s _ h

/-- The legs of a list released, and the others kept (R806, R809). -/
theorem forAll_unlatch {ls : List LegNo} (hn : ls.Nodup) (s : State) (l : LegNo) :
    (l ∈ ls → (forAll ls s State.unlatch).leg[l].latch = none ∧ (forAll ls s State.unlatch).leg[l].inForce.kind = .off) ∧
      (l ∉ ls → (forAll ls s State.unlatch).leg[l] = s.leg[l]) := by
  constructor
  · intro hl
    obtain ⟨t, -, -, hall⟩ := forAll_observe (s := s) (f := State.unlatch) (P := fun _ => True) hn hl (fun t => t.leg[l]) trivial
      (fun _ _ _ _ => trivial) fun t _ b _ hb => t.unlatch_ne hb
    rw [hall, State.unlatch, State.modLeg_self]
    exact ⟨rfl, rfl⟩
  · intro hl
    exact forAll_keeps (P := fun t => t.leg[l] = s.leg[l]) rfl fun t ht b hb =>
      (t.unlatch_ne (fun e : b = l => hl (e ▸ hb))).trans ht

@[simp] theorem State.unlatch_blank {ps : List Part} (s : State) (l : LegNo) (h : .legAt l ∈ ps ∨ .leg ∈ ps) : (s.unlatch l).blank ps = s.blank ps := by
  simp [State.unlatch, h]

theorem State.latchReleasable_iff (s : State) (l : LegNo) (fall : Nat) : s.latchReleasable l fall = true ↔
    s.leg[l].latchWait = false ∧ ∀ no ∈ s.leg[l].latchRecs, ∃ r, s.flt.record no = some r ∧ r.acked = true ∧ r.ackedAt < fall := by
  rw [State.latchReleasable, Bool.and_eq_true, Bool.not_eq_true', List.all_eq_true]
  refine and_congr_right fun _ => forall₂_congr fun no _ => ?_
  cases s.flt.record no <;> simp

theorem State.sendMask_leg (s : State) (ls : List LegNo) (mk : Byte → GwFrame) : (s.sendMask ls mk).leg = s.leg :=
  forAll_keeps (P := fun t => t.leg = s.leg) rfl fun t ht b _ => by
    dsimp only
    split
    · exact ht
    · exact ht

/-- The legs of a group that a latch holds; those that a long low level releases, and those it does not (R806). -/
def State.heldLegs (s : State) (g : GroupNo) : List LegNo := allLegs.filter (fun l => s.groupOf l == some g && s.leg[l].latch.isSome)

def State.freedLegs (s : State) (g : GroupNo) : List LegNo := (s.heldLegs g).filter (fun l => s.latchReleasable l s.pins.enLowAt[g])
def State.keptLegs (s : State) (g : GroupNo) : List LegNo := (s.heldLegs g).filter (fun l => !s.latchReleasable l s.pins.enLowAt[g])

/-- The device with the latches that may be released released, and BOLLARD_EARLY raised for the quays of the others. -/
def State.toggled (s : State) (g : GroupNo) : State :=
  forAll (allQuays.filter (fun q => (s.keptLegs g).any (fun l => s.legQuay l == some q)))
    (forAll (s.freedLegs g) (s.modPins (fun p => { p with enHigh := p.enHigh.set g true })) State.unlatch) (fun t q => t.raiseQuay srcBollardEarly q)

theorem execEnableToggle_of_long {g : GroupNo} {s : State} (hp : 2 ≤ g.val ∨ s.hasDies = true) (hh : s.pins.enHigh[g] = false)
    (hl : s.pins.enLowAt[g] + 64000 ≤ s.now) : execEnableToggle g s =
      .next (if g.val < 2 then s.syncLegs (s.toggled g) else (s.syncLegs (s.toggled g)).sendMask (s.freedLegs g) .rearm) := by
  have hpin : s.hasPin g = true := by
    rw [State.hasPin]
    rcases hp with h | h <;> simp [h]
  rw [execEnableToggle, if_neg (by rw [hpin, hh]; decide)]
  exact if_neg (Nat.not_lt.2 hl)

theorem State.mem_heldLegs {s : State} {g : GroupNo} {l : LegNo} : l ∈ s.heldLegs g ↔ s.groupOf l = some g ∧ s.leg[l].latch ≠ none := by
  simp [State.heldLegs, allLegs, Option.isSome_iff_ne_none]

theorem State.mem_freedLegs {s : State} {g : GroupNo} {l : LegNo} :
    l ∈ s.freedLegs g ↔ (s.groupOf l = some g ∧ s.leg[l].latch ≠ none) ∧ s.latchReleasable l s.pins.enLowAt[g] = true := by
  rw [State.freedLegs, List.mem_filter, State.mem_heldLegs]

/-- What the releases of a toggle do to legs, pins and faults on their way. -/
theorem State.toggled_spec (s : State) (g : GroupNo) :
    (s.toggled g).blank [.leg, .pins, .transit] = s.blank [.leg, .pins, .transit] ∧
      (s.toggled g).pins = { s.pins with enHigh := s.pins.enHigh.set g true } ∧
      (∀ l, (l ∈ s.freedLegs g → (s.toggled g).leg[l].latch = none ∧ (s.toggled g).leg[l].inForce.kind = .off) ∧
        (l ∉ s.freedLegs g → (s.toggled g).leg[l] = s.leg[l])) ∧
      ∀ l q, l ∈ s.keptLegs g → s.legQuay l = some q →
        ∃ e ∈ (s.toggled g).flt.transit, e.src = srcBollardEarly ∧ e.quays = [q] ∧ e.time = s.now := by
  have hnodup : (s.freedLegs g).Nodup := ((List.nodup_finRange 80).filter _).filter _
  have hun := forAll_unlatch hnodup (s.modPins (fun p => { p with enHigh := p.enHigh.set g true }))
  have hpins := State.pins_of_blank (forAll_blank (ps := [.leg]) (s := s.modPins (fun p => { p with enHigh := p.enHigh.set g true })) (s.freedLegs g)
    State.unlatch (by simp)) (by simp)
  have htb := State.tb_of_blank (forAll_blank (ps := [.leg]) (s := s.modPins (fun p => { p with enHigh := p.enHigh.set g true })) (s.freedLegs g)
    State.unlatch (by simp)) (by simp)
  refine ⟨by simp [State.toggled], ?_, ?_, fun l q hl hq => ?_⟩
  · exact (State.pins_of_blank (ps := [.transit]) (forAll_blank _ _ _ (by simp)) (by simp)).trans hpins
  · have hleg : (s.toggled g).leg = (forAll (s.freedLegs g) (s.modPins (fun p => { p with enHigh := p.enHigh.set g true })) State.unlatch).leg :=
      forAll_keeps (P := fun t => t.leg = (forAll (s.freedLegs g) (s.modPins (fun p => { p with enHigh := p.enHigh.set g true })) State.unlatch).leg)
        rfl fun _ ht _ _ => ht
    rw [hleg]
    exact hun
  · have hmem : q ∈ allQuays.filter (fun q => (s.keptLegs g).any (fun l => s.legQuay l == some q)) :=
      List.mem_filter.2 ⟨List.mem_finRange q, List.any_eq_true.2 ⟨l, hl, by rw [hq]; exact beq_self_eq_true _⟩⟩
    exact forAll_raises hmem (P := fun t => t.now = s.now)
      (congrArg TimeBase.now htb) (fun _ ht _ _ => ht) (fun t _ _ => t.raise_transit_subset _) fun t ht => ⟨_, t.raise_mem _, rfl, rfl, ht⟩

/-- What ENABLE_TOGGLE does after a low level of at least 10 us (R805 to R810). -/
theorem enableToggle_releases {g : GroupNo} {s : State} (hp : 2 ≤ g.val ∨ s.hasDies = true) (hh : s.pins.enHigh[g] = false)
    (hlong : s.pins.enLowAt[g] + 64000 ≤ s.now) : ∃ t, exec (.enableToggle g) s = .next t ∧
    t.pins = { s.pins with enHigh := s.pins.enHigh.set g true } ∧
    (∀ l : LegNo, (s.groupOf l ≠ some g → t.leg[l].latch = s.leg[l].latch) ∧
      (s.groupOf l = some g → s.leg[l].latch ≠ none →
        (s.latchReleasable l s.pins.enLowAt[g] = true → t.leg[l].latch = none ∧ t.leg[l].inForce.kind = .off) ∧
        (s.latchReleasable l s.pins.enLowAt[g] = false → t.leg[l].latch = s.leg[l].latch ∧
          ∀ q, s.legQuay l = some q → ∃ e ∈ t.flt.transit, e.src = srcBollardEarly ∧ e.quays = [q] ∧ e.time = s.now))) ∧
    t = { s with pins := t.pins, leg := t.leg, lane := t.lane, flt := { s.flt with transit := t.flt.transit } } := by
  obtain ⟨hblank, hpins, hlegs, hraised⟩ := s.toggled_spec g
  refine ⟨_, execEnableToggle_of_long hp hh hlong, ?_⟩
  generalize s.toggled g = u at hblank hpins hlegs hraised ⊢
  have hsync := State.syncLegs_blank (ps := [.leg, .lane]) u s (by simp)
  have hgates := s.syncLegs_gates u
  have hlast : (if g.val < 2 then s.syncLegs u else (s.syncLegs u).sendMask (s.freedLegs g) .rearm).leg = (s.syncLegs u).leg ∧
      (if g.val < 2 then s.syncLegs u else (s.syncLegs u).sendMask (s.freedLegs g) .rearm).blank [.leg, .lane] = u.blank [.leg, .lane] := by
    split
    · exact ⟨rfl, hsync⟩
    · exact ⟨State.sendMask_leg _ _ _, (State.sendMask_blank _ _ _ (by simp)).trans hsync⟩
  generalize (if g.val < 2 then s.syncLegs u else (s.syncLegs u).sendMask (s.freedLegs g) .rearm) = t at hlast ⊢
  obtain ⟨htleg, htblank⟩ := hlast
  have hlatch : ∀ l : LegNo, t.leg[l].latch = u.leg[l].latch := fun l => by rw [htleg, hgates.latch]
  have hforce : ∀ l : LegNo, t.leg[l].inForce = u.leg[l].inForce := fun l => by
    rw [htleg]
    exact (congrArg Leg.inForce (hgates.leg l) :)
  refine ⟨(State.pins_of_blank htblank (by simp)).trans hpins, fun l => ⟨fun hg => ?_, fun hg hne => ⟨fun hgood => ?_, fun hbad => ⟨?_, fun q hq => ?_⟩⟩⟩, ?_⟩
  · rw [hlatch, (hlegs l).2 fun hl => hg (State.mem_freedLegs.1 hl).1.1]
  · rw [hlatch, hforce]
    exact (hlegs l).1 (State.mem_freedLegs.2 ⟨⟨hg, hne⟩, hgood⟩)
  · rw [hlatch, (hlegs l).2 fun hl => Bool.false_ne_true (hbad.symm.trans (State.mem_freedLegs.1 hl).2)]
  · rw [State.transit_of_blank htblank (by simp)]
    exact hraised l q (List.mem_filter.2 ⟨State.mem_heldLegs.2 ⟨hg, hne⟩, by rw [hbad]; rfl⟩) hq
  · exact State.eq_take ((State.blank_mono (ps := [.pins, .leg, .lane, .transit]) htblank (by simp)).trans (State.blank_mono hblank (by simp)))

/-- Settles O26, by the pin event; a pin at its level already, or absent, changes nothing. -/
theorem pinsHold : Obligations.PinsHold := by
  refine ⟨?_, fun g s hp hh => ?_⟩
  · intro active raised latches
    refine ⟨fun g s hp hh => enableLow_holds hp hh, fun ch s hh => haltAssert_holds hh, fun ch s => haltRelease_holds ch s, fun s => ?_,
      fun g ch s => ⟨fun hg hd => ?_, fun hh => if_neg (by simp [hh]), fun hh => if_pos (by simp [hh]), fun hh => if_pos hh⟩⟩
    · rw [exec, execHaltDisc]
      by_cases h : s.pins.halt.a = s.pins.halt.b
      · rw [if_pos h, if_neg (by simp [h])]
      · rw [if_neg h, if_pos (by simp [h])]
        rfl
    · have hpin : s.hasPin g = false := by simp [State.hasPin, hd, hg]
      exact ⟨if_neg (by simp [hpin]), if_pos (by simp [hpin])⟩
  · by_cases hl : s.pins.enLowAt[g] + 64000 ≤ s.now
    · obtain ⟨t, ht, hpins, hlegs, hrest⟩ := enableToggle_releases hp hh hl
      refine ⟨t, ht, hpins, fun h => absurd hl (Nat.not_le.2 h), fun _ l => ⟨(hlegs l).1, fun hg hne => ?_⟩, hrest⟩
      obtain ⟨hfree, hkeep⟩ := (hlegs l).2 hg hne
      rw [State.latchReleasable_iff] at hfree
      exact ⟨hfree, fun hno => hkeep (Bool.eq_false_iff.2 (mt (State.latchReleasable_iff _ _ _).1 hno))⟩
    · have hshort : exec (.enableToggle g) s = .next (s.syncLegs (s.modPins (fun p => { p with enHigh := p.enHigh.set g true }))) := by
        have hpin : s.hasPin g = true := by
          rw [State.hasPin]
          rcases hp with h | h <;> simp [h]
        rw [exec, execEnableToggle, if_neg (by rw [hpin, hh]; decide)]
        exact if_pos (Nat.not_le.1 hl)
      have hsync := State.syncLegs_blank (ps := [.leg, .lane]) (s.modPins (fun p => { p with enHigh := p.enHigh.set g true })) s (by simp)
      refine ⟨_, hshort, State.pins_of_blank hsync (by simp), fun _ => State.syncLegs_latch rfl, fun h => absurd h hl, ?_⟩
      exact State.eq_take ((State.blank_mono (ps := [.pins, .leg, .lane, .transit]) hsync (by simp)).trans (by simp))

end Sys2Proof.Machine
end

section
/-! ### Short circuits (R769 to R785) -/

namespace Sys2Proof.Machine

/-- What holds a leg depends on boot, pins, parameters and the leg alone. -/
theorem State.heldKind_congr {s t : State} (h : t.blank [.quay, .leg, .lane, .flt, .transit, .brk, .free, .port, .groups, .hm, .ih, .half] =
    s.blank [.quay, .leg, .lane, .flt, .transit, .brk, .free, .port, .groups, .hm, .ih, .half]) {l : LegNo} (hl : t.leg[l] = s.leg[l]) :
    t.heldKind l = s.heldKind l := by
  have hrest := State.eq_take h
  have h10 : t.afterStep10 = s.afterStep10 := by rw [hrest]; rfl
  have hlow : t.legEnLow l = s.legEnLow l := by rw [hrest]; rfl
  have hchop : t.isChopperLeg l = s.isChopperLeg l := by rw [hrest]; rfl
  have hhalt : t.haltOn = s.haltOn := by rw [hrest]; rfl
  rw [State.heldKind, State.heldKind, h10, hlow, hchop, hhalt, hl]

@[simp] theorem State.raiseLeg_blank {ps : List Part} (s : State) (src : Nat) (l : LegNo) (suspect : Nat) (ctx : Ctx) (latched : List LegNo)
    (h : Covers ps [.legAt l, .transit]) : (s.raiseLeg src l suspect ctx latched).blank ps = s.blank ps := by
  simp at h
  unfold State.raiseLeg
  split <;> simp [h]

@[simp] theorem State.latchOff_blank {ps : List Part} (s : State) (l : LegNo) (h : .legAt l ∈ ps ∨ .leg ∈ ps) : (s.latchOff l).blank ps = s.blank ps := by
  simp [State.latchOff, h]

@[simp] theorem State.reactLegs_blank {ps : List Part} (s : State) (q : QuayNo) (code : Nat) (latch : Bool) (rec : Option Nat) (h : .leg ∈ ps) :
    (s.reactLegs q code latch rec).blank ps = s.blank ps := by
  simp [State.reactLegs, h]

/-- The leg that a short circuit has tripped (R775): both gates to sink, the latch set in OFF. -/
def Leg.tripped (x : Leg) (now : Nat) : Leg := ({ x with latch := some .off, latchWait := true } : Leg).hold .off now now

/-- The device after a trip, before an active short is judged (R775, R777, R800). -/
def State.trip (s : State) (l : LegNo) (suspect edge : Nat) (bits : Byte) (current : Int) : State :=
  ((s.latchOff l).modLeg l (fun x => x.hold .off s.now s.now)).raiseLeg srcShortCircuit l suspect (legCtx l suspect bits current edge) [l]

/-- What a trip does to legs and faults. -/
theorem State.trip_spec (s : State) (l : LegNo) (suspect edge : Nat) (bits : Byte) (current : Int) :
    (s.trip l suspect edge bits current).leg[l] =
      { s.leg[l].tripped s.now with suspect := if s.legQuay l = none then s.leg[l].suspect else suspect } ∧
    (∀ q, s.legQuay l = some q → ∃ e : FaultEvent, (s.trip l suspect edge bits current).flt = { s.flt with transit := s.flt.transit ++ [e] } ∧
      e.src = srcShortCircuit ∧ e.time = s.now ∧ e.scope = BitVec.ofNat 8 q.val ∧ e.quays = [q]) ∧
    (s.legQuay l = none → (s.trip l suspect edge bits current).flt = s.flt) ∧
    (∀ k : LegNo, k ≠ l → (s.trip l suspect edge bits current).leg[k] = s.leg[k]) ∧
    (s.trip l suspect edge bits current).blank [.legAt l, .transit] = s.blank [.legAt l, .transit] := by
  have hleg : ((s.latchOff l).modLeg l (fun x => x.hold .off s.now s.now)).leg[l] = s.leg[l].tripped s.now := by
    rw [State.modLeg_self, State.latchOff, State.modLeg_self]
    rfl
  have hne : ∀ k : LegNo, k ≠ l → ((s.latchOff l).modLeg l (fun x => x.hold .off s.now s.now)).leg[k] = s.leg[k] := fun k hk => by
    rw [State.modLeg_ne _ _ (Ne.symm hk), State.latchOff, State.modLeg_ne _ _ (Ne.symm hk)]
  have hq : ((s.latchOff l).modLeg l (fun x => x.hold .off s.now s.now)).legQuay l = s.legQuay l := rfl
  have hblank : (s.trip l suspect edge bits current).blank [.legAt l, .transit] = s.blank [.legAt l, .transit] := by simp [State.trip]
  refine ⟨?_, ?_, ?_, ?_, hblank⟩
  all_goals unfold State.trip State.raiseLeg
  all_goals rw [hq]
  · cases s.legQuay l with
    | none => exact hleg
    | some q =>
      refine (State.modLeg_self _ l _).trans ?_
      rw [hleg]
      rfl
  · cases s.legQuay l with
    | none => exact nofun
    | some q =>
      intro p hp
      cases hp
      exact ⟨_, rfl, rfl, rfl, rfl, rfl⟩
  · intro h
    rw [h]
    rfl
  · intro k hk
    cases s.legQuay l with
    | none => exact hne k hk
    | some q => exact (State.modLeg_ne _ _ (Ne.symm hk)).trans (hne k hk)

theorem State.shortCircuit_of_no_asc {s : State} {l : LegNo} (h : ∀ q, s.legQuay l = some q → s.inAsc q = false) (suspect edge : Nat) (bits : Byte) (current : Int) :
    s.shortCircuit l suspect edge bits current = s.trip l suspect edge bits current := by
  unfold State.shortCircuit
  cases hq : s.legQuay l with
  | none => rfl
  | some q =>
    simp only [h q hq]
    rw [State.ascTrip, if_neg]
    · rfl
    · have hquay : (s.trip l suspect edge bits current).quay = s.quay :=
        (congrArg State.quay (State.eq_take (s.trip_spec l suspect edge bits current).2.2.2.2) :)
      have hasc : (s.trip l suspect edge bits current).inAsc q = s.inAsc q := by rw [State.inAsc, hquay, State.inAsc]
      exact fun hc => Bool.false_ne_true ((h q hq).symm.trans (hasc.symm.trans hc))

theorem Leg.tripped_off (x : Leg) {t u : Nat} (h : t ≤ u) : levelAt (x.tripped t).high u = false ∧ levelAt (x.tripped t).low u = false := by
  obtain ⟨hhigh, hlow, -⟩ := Leg.hold_off_levels ({ x with latch := some .off, latchWait := true } : Leg) t h
  exact ⟨hhigh, hlow⟩

/-- A trip taken to the legs: the tripped leg with both gates off from then on, the others as they were. -/
theorem State.syncLegs_trip {s u : State} {l : LegNo} (hlocal : s.localLeg l = true) (hne : ∀ k : LegNo, k ≠ l → u.leg[k] = s.leg[k])
    (hblank : u.blank [.legAt l, .transit] = s.blank [.legAt l, .transit]) {x : Leg} (hx : u.leg[l].ungated = { x.ungated with latch := some .off, latchWait := true })
    (hoff : ∀ v, s.now ≤ v → levelAt u.leg[l].high v = false ∧ levelAt u.leg[l].low v = false) :
    (s.syncLegs u).leg[l] = { x with latch := some .off, latchWait := true, high := (s.syncLegs u).leg[l].high, low := (s.syncLegs u).leg[l].low } ∧
    (∀ v, s.now ≤ v → levelAt (s.syncLegs u).leg[l].high v = false ∧ levelAt (s.syncLegs u).leg[l].low v = false) ∧
    (∀ k : LegNo, k ≠ l → (s.syncLegs u).leg[k] = s.leg[k]) ∧ (s.syncLegs u).flt = u.flt ∧
    s.syncLegs u = { s with leg := (s.syncLegs u).leg, lane := (s.syncLegs u).lane, flt := (s.syncLegs u).flt } := by
  have hgates := s.syncLegs_gates u
  have hrest := hgates.rest
  refine ⟨?_, fun v hv => ?_, fun k hk => ?_, hrest.rest.2.2.1, ?_⟩
  · exact Leg.eq_of_ungated (y := { x with latch := some .off, latchWait := true }) ((hgates.leg l).trans hx)
  · have hlatch : u.leg[l].latch = some .off := (congrArg Leg.latch hx :)
    have hheld : u.heldKind l = some .off := State.heldKind_of_latch hlatch
    by_cases hsame : s.heldKind l = some .off
    · rw [State.syncLegs_leg_same (.inl (hsame.trans hheld.symm))]
      exact hoff v hv
    · have hnow : u.now = s.now := congrArg TimeBase.now (State.tb_of_blank hblank (by simp))
      have hl : u.localLeg l = true := by
        rw [State.eq_take hblank]
        exact hlocal
      rw [State.syncLegs_leg_held hl hheld hsame]
      obtain ⟨-, -, hhigh, hlow⟩ := Leg.hold_off_levels u.leg[l] (u.now + legDeadTime u l) (hnow ▸ hv)
      exact ⟨hhigh, hlow⟩
  · rw [State.syncLegs_leg_same (.inl (State.heldKind_congr (State.blank_mono hblank (by simp)) (hne k hk)).symm), hne k hk]
  · exact State.eq_take ((State.syncLegs_blank (ps := [.leg, .lane, .flt, .transit]) u s (by simp)).trans (State.blank_mono hblank (by simp)))

/-- A short circuit on a leg whose quay is under no active short, from a device `s1` that differs from `s` in that leg alone. -/
theorem State.shortCircuit_acts {s s1 : State} {l : LegNo} (hlocal : s.localLeg l = true) (h1 : s1.blank [.legAt l] = s.blank [.legAt l])
    (hne1 : ∀ k : LegNo, k ≠ l → s1.leg[k] = s.leg[k]) (hasc : ∀ q, s.legQuay l = some q → s.inAsc q = false) (suspect edge : Nat) (bits : Byte) (current : Int) :
    ∃ t, s.syncLegs (s1.shortCircuit l suspect edge bits current) = t ∧
    t.leg[l] = { s1.leg[l] with
      latch := some .off, latchWait := true, high := t.leg[l].high, low := t.leg[l].low
      suspect := if s.legQuay l = none then s1.leg[l].suspect else suspect } ∧
    (∀ v, s.now ≤ v → levelAt t.leg[l].high v = false ∧ levelAt t.leg[l].low v = false) ∧
    ((∀ q, s.legQuay l = some q → Raised s t srcShortCircuit (BitVec.ofNat 8 q.val)) ∧ (s.legQuay l = none → t.flt = s.flt)) ∧
    (∀ k : LegNo, k ≠ l → t.leg[k] = s.leg[k]) ∧ t = { s with leg := t.leg, lane := t.lane, flt := t.flt } := by
  have hrest := State.eq_take h1
  have hq : s1.legQuay l = s.legQuay l := by rw [hrest]; rfl
  have hnow : s1.now = s.now := by rw [hrest]; rfl
  have hflt : s1.flt = s.flt := by rw [hrest]; rfl
  have hno : ∀ q, s1.legQuay l = some q → s1.inAsc q = false := fun q h => by
    rw [State.inAsc, show s1.quay = s.quay by rw [hrest]; rfl]
    exact hasc q (hq.symm.trans h)
  obtain ⟨hleg, hraised, hnone, hne, hblank⟩ := s1.trip_spec l suspect edge bits current
  rw [State.shortCircuit_of_no_asc hno]
  generalize s1.trip l suspect edge bits current = u at hleg hraised hnone hne hblank ⊢
  rw [hq] at hleg hraised hnone
  rw [hflt] at hraised hnone
  rw [hnow] at hraised hleg
  obtain ⟨hl, hoff, hothers, htflt, hall⟩ := State.syncLegs_trip (u := u) (x := { s1.leg[l] with suspect := if s.legQuay l = none then s1.leg[l].suspect else suspect })
    hlocal (fun k hk => (hne k hk).trans (hne1 k hk)) (hblank.trans (State.blank_mono h1 (by simp)))
    (by rw [hleg]; rfl) (fun v hv => by rw [hleg]; exact s1.leg[l].tripped_off hv)
  refine ⟨_, rfl, hl, hoff, ⟨fun q h => ?_, fun h => htflt.trans (hnone h)⟩, hothers, hall⟩
  obtain ⟨e, he, hsrc, htime, hscope, -⟩ := hraised q h
  exact ⟨e, htflt.trans he, hsrc, htime, hscope⟩

/-! #### Under an active short (R782) -/

theorem State.heldKind_of_react {s : State} {l : LegNo} (hl : s.leg[l].latch = some .off ∨ s.leg[l].latch = none) (hr : s.leg[l].react = some .off) :
    s.heldKind l = some .off := by
  rcases hl with h | h
  · exact State.heldKind_of_latch h
  · rw [State.heldKind, h, hr]
    simp only [ite_self]

theorem State.phaseLegs_nodup (s : State) (q : QuayNo) : (s.phaseLegs q).Nodup := ((List.nodup_finRange 80).filter _).filter _

/-- A leg under pulse block (R743, R800). -/
def Leg.blocked (latch : Bool) (x : Leg) : Leg :=
  if latch || x.latch.isSome then { x with latch := some .off, react := some .off } else { x with react := some .off }

theorem Leg.blocked_off (latch : Bool) (x : Leg) :
    ((x.blocked latch).latch = some .off ∨ (x.blocked latch).latch = none) ∧ (x.blocked latch).react = some .off := by
  unfold Leg.blocked
  split
  · exact ⟨.inl rfl, rfl⟩
  · next hc =>
    simp only [Bool.or_eq_true, Option.isSome_iff_ne_none, not_or, not_not] at hc
    exact ⟨.inr hc.2, rfl⟩

theorem Leg.blocked_latch (latch : Bool) {x : Leg} (h : x.latch = some .off) : (x.blocked latch).latch = some .off := by
  unfold Leg.blocked
  split
  · rfl
  · exact h

theorem State.reactLegs_eq (s : State) (q : QuayNo) (latch : Bool) :
    s.reactLegs q 4 latch none = forAll (s.phaseLegs q) s (fun t l => t.modLeg l (Leg.blocked latch)) := rfl

/-- Pulse block on the phase legs of a quay: each is held OFF by its latch or the reaction, and a latch in OFF stays (R743, R800). -/
theorem State.reactLegs_off (s : State) (q : QuayNo) (latch : Bool) (k : LegNo) :
    (k ∈ s.phaseLegs q → ((s.reactLegs q 4 latch none).leg[k].latch = some .off ∨ (s.reactLegs q 4 latch none).leg[k].latch = none) ∧
      (s.reactLegs q 4 latch none).leg[k].react = some .off) ∧
    (s.leg[k].latch = some .off → (s.reactLegs q 4 latch none).leg[k].latch = some .off) := by
  rw [State.reactLegs_eq]
  constructor
  · intro hk
    obtain ⟨t, -, -, hall⟩ := forAll_observe (s := s) (f := fun t l => t.modLeg l (Leg.blocked latch)) (P := fun _ => True) (s.phaseLegs_nodup q) hk
      (fun t => t.leg[k]) trivial (fun _ _ _ _ => trivial) fun t _ b _ hb => State.modLeg_ne t _ hb
    rw [hall, State.modLeg_self]
    exact Leg.blocked_off latch _
  · intro h
    refine forAll_keeps (P := fun t => t.leg[k].latch = some .off) h fun t ht b _ => ?_
    by_cases hb : b = k
    · subst hb
      rw [State.modLeg_self]
      exact Leg.blocked_latch latch ht
    · rw [State.modLeg_ne t _ hb]
      exact ht

/-- What a change of other fields of a leg leaves of latch and reaction. -/
theorem State.modLeg_latch (s : State) (l k : LegNo) {f : Leg → Leg} (hf : ∀ x, (f x).latch = x.latch ∧ (f x).react = x.react) :
    (s.modLeg l f).leg[k].latch = s.leg[k].latch ∧ (s.modLeg l f).leg[k].react = s.leg[k].react := by
  by_cases h : l = k
  · subst h
    rw [State.modLeg_self]
    exact hf _
  · rw [State.modLeg_ne s f h]
    exact ⟨rfl, rfl⟩

theorem State.raiseLeg_latch (s : State) (src : Nat) (l : LegNo) (suspect : Nat) (ctx : Ctx) (latched : List LegNo) (k : LegNo) :
    (s.raiseLeg src l suspect ctx latched).leg[k].latch = s.leg[k].latch ∧ (s.raiseLeg src l suspect ctx latched).leg[k].react = s.leg[k].react := by
  unfold State.raiseLeg
  split
  · exact s.modLeg_latch l k fun _ => ⟨rfl, rfl⟩
  · exact ⟨rfl, rfl⟩

/-- An over-current trip under an active short: pulse block on every phase leg of the quay, and ASC_OVERCURRENT (R782). -/
theorem State.ascTrip_spec {s : State} {q : QuayNo} {l : LegNo} (hasc : s.inAsc q = true) (hq : s.legQuay l = some q) (suspect : Nat) (current : Int) :
    (s.ascTrip q l suspect current).quay[q].react = some 4 ∧
    (s.leg[l].latch = some .off → (s.ascTrip q l suspect current).leg[l].latch = some .off) ∧
    (∀ k ∈ s.phaseLegs q, (s.ascTrip q l suspect current).heldKind k = some .off) ∧
    (∃ e ∈ (s.ascTrip q l suspect current).flt.transit, e.src = srcAscOvercurrent ∧ e.quays = [q] ∧ e.time = s.now) ∧
    s.flt.transit ⊆ (s.ascTrip q l suspect current).flt.transit ∧
    (s.ascTrip q l suspect current).blank [.quay, .leg, .transit] = s.blank [.quay, .leg, .transit] := by
  rw [State.ascTrip, if_pos hasc]
  dsimp only
  obtain hreact := (s.modQuay q (fun x => { x with react := some 4 })).reactLegs_off q (s.entry srcAscOvercurrent).latchBase
  have hphase : (s.modQuay q (fun x => { x with react := some 4 })).phaseLegs q = s.phaseLegs q := rfl
  have hquay1 : ((s.modQuay q (fun x => { x with react := some 4 })).reactLegs q 4 (s.entry srcAscOvercurrent).latchBase none).quay =
      (s.modQuay q (fun x => { x with react := some 4 })).quay := (congrArg State.quay (State.eq_take (ps := [.leg]) (State.reactLegs_blank _ _ _ _ _ (by simp))) :)
  have hblank1 : ((s.modQuay q (fun x => { x with react := some 4 })).reactLegs q 4 (s.entry srcAscOvercurrent).latchBase none).blank [.quay, .leg] =
      s.blank [.quay, .leg] := by simp
  generalize ((s.modQuay q (fun x => { x with react := some 4 })).reactLegs q 4 (s.entry srcAscOvercurrent).latchBase none) = u at hreact hquay1 hblank1 ⊢
  have hkept : ∀ ks : List LegNo, ∀ k : LegNo, (forAll ks u (fun t m => t.modLeg m (fun x => { x with latchWait := true }))).leg[k].latch = u.leg[k].latch ∧
      (forAll ks u (fun t m => t.modLeg m (fun x => { x with latchWait := true }))).leg[k].react = u.leg[k].react := fun ks k =>
    forAll_keeps (P := fun t => t.leg[k].latch = u.leg[k].latch ∧ t.leg[k].react = u.leg[k].react) ⟨rfl, rfl⟩ fun t ht b _ =>
      have hb := t.modLeg_latch b k (f := fun x => { x with latchWait := true }) fun _ => ⟨rfl, rfl⟩
      ⟨hb.1.trans ht.1, hb.2.trans ht.2⟩
  have hblank2 : ∀ ks : List LegNo, (forAll ks u (fun t m => t.modLeg m (fun x => { x with latchWait := true }))).blank [.leg] = u.blank [.leg] := fun ks => by
    simp
  have hall : ∀ ks : List LegNo, ∃ v, forAll ks u (fun t m => t.modLeg m (fun x => { x with latchWait := true })) = v ∧
      (∀ k : LegNo, v.leg[k].latch = u.leg[k].latch ∧ v.leg[k].react = u.leg[k].react) ∧ v.blank [.leg] = u.blank [.leg] :=
    fun ks => ⟨_, rfl, hkept ks, hblank2 ks⟩
  obtain ⟨v, hv, hvleg, hvblank⟩ := hall ((s.phaseLegs q).filter (fun m => u.leg[m].latch.isSome))
  rw [hv]
  have hvall := (State.blank_mono (ps := [.quay, .leg]) hvblank (by simp)).trans hblank1
  have hvrest := State.eq_take hvall
  have hvq : v.legQuay l = some q := by rw [hvrest]; exact hq
  obtain ⟨hsome, -, -, -⟩ := v.raiseLeg_spec srcAscOvercurrent l suspect (legCtx l suspect 0x10 current 0) ((s.phaseLegs q).filter (fun m => u.leg[m].latch.isSome))
  obtain ⟨-, e, he, hsrc, hquays, -, htime⟩ := hsome q hvq
  have hvflt : v.flt = s.flt := by rw [hvrest]; rfl
  have hvnow : v.now = s.now := by rw [hvrest]; rfl
  refine ⟨?_, fun h => ?_, fun k hk => State.heldKind_of_react ?_ ?_, ⟨e, ?_, hsrc, hquays, htime.trans hvnow⟩, ?_, ?_⟩
  · have hquay : (v.raiseLeg srcAscOvercurrent l suspect (legCtx l suspect 0x10 current 0) ((s.phaseLegs q).filter (fun m => u.leg[m].latch.isSome))).quay = v.quay :=
      (congrArg State.quay (State.eq_take (ps := [.leg, .transit]) (State.raiseLeg_blank _ _ _ _ _ _ (by simp))) :)
    have hvquay : v.quay = u.quay := (congrArg State.quay (State.eq_take hvblank) :)
    rw [hquay, hvquay, hquay1, State.modQuay_self]
  · rw [(v.raiseLeg_latch _ _ _ _ _ l).1, (hvleg l).1]
    exact (hreact l).2 h
  · rw [(v.raiseLeg_latch _ _ _ _ _ k).1, (hvleg k).1]
    exact ((hreact k).1 (hphase ▸ hk)).1
  · rw [(v.raiseLeg_latch _ _ _ _ _ k).2, (hvleg k).2]
    exact ((hreact k).1 (hphase ▸ hk)).2
  · rw [he]
    exact List.mem_append_right _ (List.mem_singleton_self e)
  · rw [he, hvflt]
    exact List.subset_append_left _ _
  · exact (State.raiseLeg_blank _ _ _ _ _ _ (by simp)).trans (State.blank_mono hvall (by simp))

/-- A short circuit on a leg whose quay is under an active short, from a device `s1` that differs from `s` in that leg alone (R782). -/
theorem State.shortCircuit_trips {s s1 : State} {l : LegNo} {q : QuayNo} (h1 : s1.blank [.legAt l] = s.blank [.legAt l])
    (hq : s.legQuay l = some q) (hasc : s.inAsc q = true) (suspect edge : Nat) (bits : Byte) (current : Int) :
    ∃ t, s.syncLegs (s1.shortCircuit l suspect edge bits current) = t ∧
      t.quay[q].react = some 4 ∧ t.leg[l].latch = some .off ∧ (∀ k ∈ s.phaseLegs q, t.heldKind k = some .off) ∧
      (∃ e ∈ t.flt.transit, e.src = srcAscOvercurrent ∧ e.quays = [q] ∧ e.time = s.now) ∧
      (∃ e ∈ t.flt.transit, e.src = srcShortCircuit ∧ e.quays = [q] ∧ e.time = s.now) ∧
      t = { s with quay := t.quay, leg := t.leg, lane := t.lane, flt := t.flt } := by
  have hrest := State.eq_take h1
  have hq1 : s1.legQuay l = some q := by rw [hrest]; exact hq
  have hasc1 : s1.inAsc q = true := by rw [hrest]; exact hasc
  have hnow1 : s1.now = s.now := by rw [hrest]; rfl
  have heq : s1.shortCircuit l suspect edge bits current = (s1.trip l suspect edge (bits ||| 0x10) current).ascTrip q l suspect current := by
    unfold State.shortCircuit
    rw [hq1]
    simp only [hasc1]
    rfl
  obtain ⟨hleg, hraised, -, -, hblank⟩ := s1.trip_spec l suspect edge (bits ||| 0x10) current
  rw [heq]
  generalize s1.trip l suspect edge (bits ||| 0x10) current = u at hleg hraised hblank
  have hublank := hblank.trans (State.blank_mono h1 (by simp))
  have hurest := State.eq_take hublank
  have hqu : u.legQuay l = some q := by rw [hurest]; exact hq
  have hascu : u.inAsc q = true := by rw [hurest]; exact hasc
  have hnowu : u.now = s.now := by rw [hurest]; rfl
  have hphase : u.phaseLegs q = s.phaseLegs q := by rw [hurest]; rfl
  have hlatch : u.leg[l].latch = some .off := by rw [hleg]; rfl
  obtain ⟨e, he, hsrc, htime, -, hquays⟩ := hraised q hq1
  obtain ⟨hreact, hl, hheld, ⟨f, hf, hfsrc, hfquays, hftime⟩, hsub, hvblank⟩ := State.ascTrip_spec hascu hqu suspect current
  generalize u.ascTrip q l suspect current = v at hreact hl hheld hf hsub hvblank
  have hgates := s.syncLegs_gates v
  obtain ⟨hquay, -, hflt, -⟩ := hgates.rest.rest
  refine ⟨_, rfl, ?_, ?_, fun k hk => ?_, ⟨f, ?_, hfsrc, hfquays, hftime.trans hnowu⟩, ⟨e, ?_, hsrc, hquays, htime.trans hnow1⟩, ?_⟩
  · rw [hquay, hreact]
  · rw [hgates.latch, hl hlatch]
  · rw [hgates.heldKind]
    exact hheld k (hphase ▸ hk)
  · rw [hflt]
    exact hf
  · rw [hflt]
    exact hsub (by rw [he]; exact List.mem_append_right _ (List.mem_singleton_self e))
  · exact State.eq_take (ps := [.quay, .leg, .lane, .flt, .transit]) ((State.syncLegs_blank _ _ (by simp)).trans
      ((State.blank_mono hvblank (by simp)).trans (State.blank_mono hublank (by simp))))

/-! #### SHORT_CIRCUIT and BLANKING_END -/

theorem State.blankingOpen_local {s : State} {l : LegNo} (h : s.blankingOpen l = true) : s.localLeg l = true := by
  rw [State.blankingOpen, Bool.and_eq_true] at h
  exact h.1

section
variable {l : LegNo} {s : State}

theorem execShortCircuit_absolute (h : s.localLeg l = true) (i : Int) :
    execShortCircuit l .absolute i s = .next (s.syncLegs (s.shortCircuit l (s.shortSuspect l).1 (s.shortSuspect l).2 0x02 i)) := by
  rw [execShortCircuit, h]
  rfl

theorem execShortCircuit_slope (h : s.localLeg l = true) (hb : s.blankingOpen l = false) (i : Int) :
    execShortCircuit l .slope i s = .next (s.syncLegs (s.shortCircuit l (s.shortSuspect l).1 (s.shortSuspect l).2 0x01 i)) := by
  rw [execShortCircuit, if_neg (by simp [h])]
  exact if_neg (by simp [hb])

theorem execBlankingEnd_above (h : s.localLeg l = true) (hs : s.leg[l].slopeLatched = true) {i : Int} (hi : (legPbLevel s l : Int) < |i|) :
    execBlankingEnd l i s = .next (s.syncLegs ((s.modLeg l (fun x => { x with slopeLatched := false })).shortCircuit l
      (s.blankSuspect l).1 (s.blankSuspect l).2 0x05 i)) := by
  rw [execBlankingEnd, if_pos (by rw [h, hs]; rfl)]
  exact if_pos hi

theorem execBlankingEnd_below (h : s.localLeg l = true) (hs : s.leg[l].slopeLatched = true) {i : Int} (hi : |i| ≤ (legPbLevel s l : Int)) :
    execBlankingEnd l i s = .next (((s.modLeg l (fun x => { x with slopeLatched := false })).modLeg l (fun x => { x with blanks := x.blanks + 1 })).raiseFor (s.legQuay l)
      srcBlankedTransient { inst := BitVec.ofNat 8 l.val, value := BitVec.ofInt 32 i }) := by
  rw [execBlankingEnd, if_pos (by rw [h, hs]; rfl)]
  exact if_neg (Int.not_lt.2 hi)

end

/-- Settles O24, by the detector and whether the quay of the leg is under an active short. -/
theorem shortCircuits : Obligations.ShortCircuits := by
  refine ⟨⟨fun l i s hl hd hno => ?_, fun l i s hb => ?_, fun l d i s => ⟨fun hno => ?_, fun hno => if_neg (by rw [hno, Bool.and_false]; exact Bool.false_ne_true)⟩⟩,
    fun l q i s hl hd hq hreact => ?_⟩
  · have hlocal := State.localLeg_of_die hl hd
    intro raises acts
    have hasc : ∀ q, s.legQuay l = some q → s.inAsc q = false := fun q hq => by
      rw [State.inAsc, beq_false_of_ne (hno q hq).1, beq_false_of_ne (hno q hq).2]
      rfl
    have hself : (s.modLeg l (fun x => { x with slopeLatched := false })).leg[l] = { s.leg[l] with slopeLatched := false } := State.modLeg_self s l _
    refine ⟨?_, fun hb => ?_, fun hs hi => ?_, fun hs hi => ?_⟩
    · obtain ⟨t, ht, hacts⟩ := State.shortCircuit_acts hlocal rfl (fun _ _ => rfl) hasc (s.shortSuspect l).1 (s.shortSuspect l).2 0x02 i
      exact ⟨t, (execShortCircuit_absolute hlocal i).trans (congrArg _ ht), hacts⟩
    · obtain ⟨t, ht, hacts⟩ := State.shortCircuit_acts hlocal rfl (fun _ _ => rfl) hasc (s.shortSuspect l).1 (s.shortSuspect l).2 0x01 i
      exact ⟨t, (execShortCircuit_slope hlocal hb i).trans (congrArg _ ht), hacts⟩
    · obtain ⟨t, ht, hacts⟩ := State.shortCircuit_acts hlocal (s1 := s.modLeg l (fun x => { x with slopeLatched := false })) (by simp)
        (fun k hk => State.modLeg_ne s _ (Ne.symm hk)) hasc (s.blankSuspect l).1 (s.blankSuspect l).2 0x05 i
      rw [hself] at hacts
      exact ⟨t, (execBlankingEnd_above hlocal hs hi).trans (congrArg _ ht), hacts⟩
    · obtain ⟨hraise, hnone, hrest⟩ := s.raiseFor_spec ((s.modLeg l (fun x => { x with slopeLatched := false })).modLeg l (fun x => { x with blanks := x.blanks + 1 }))
        (s.legQuay l) srcBlankedTransient { inst := BitVec.ofNat 8 l.val, value := BitVec.ofInt 32 i } rfl rfl
      refine ⟨_, execBlankingEnd_below hlocal hs hi, ?_, ⟨hraise, hnone⟩, ?_⟩
      · rw [hrest]
        refine (State.modLeg_self _ l _).trans ?_
        rw [hself]
      · rw [hrest]
        exact ⟨fun k hk => (State.modLeg_ne _ _ (Ne.symm hk)).trans (State.modLeg_ne s _ (Ne.symm hk)), rfl⟩
  · have hopen : execShortCircuit l .slope i s = .next (s.modLeg l (fun x => { x with slopeLatched := true })) := by
      rw [execShortCircuit, State.blankingOpen_local hb]
      exact if_pos hb
    exact ⟨_, hopen, State.modLeg_self s l _, fun k hk => State.modLeg_ne s _ (Ne.symm hk), rfl⟩
  · have hloc := State.localLeg_eq_false hno
    exact ⟨if_pos (by simp [hloc]), if_neg (by simp [hloc])⟩
  · have hlocal := State.localLeg_of_die hl hd
    have hasc : s.inAsc q = true := by
      rw [State.inAsc]
      rcases hreact with h | h <;> rw [h] <;> rfl
    refine ⟨?_, fun hb => ?_, fun hs hi => ?_⟩
    · obtain ⟨t, ht, htrips⟩ := State.shortCircuit_trips rfl hq hasc (s.shortSuspect l).1 (s.shortSuspect l).2 0x02 i
      exact ⟨t, (execShortCircuit_absolute hlocal i).trans (congrArg _ ht), htrips⟩
    · obtain ⟨t, ht, htrips⟩ := State.shortCircuit_trips rfl hq hasc (s.shortSuspect l).1 (s.shortSuspect l).2 0x01 i
      exact ⟨t, (execShortCircuit_slope hlocal hb i).trans (congrArg _ ht), htrips⟩
    · obtain ⟨t, ht, htrips⟩ := State.shortCircuit_trips (s1 := s.modLeg l (fun x => { x with slopeLatched := false })) (by simp) hq hasc
        (s.blankSuspect l).1 (s.blankSuspect l).2 0x05 i
      exact ⟨t, (execBlankingEnd_above hlocal hs hi).trans (congrArg _ ht), htrips⟩

end Sys2Proof.Machine
end

section
/-! ### Commands that arrive at the legs (R46 to R53, R957 to R971) -/

namespace Sys2Proof.Machine

/-- A leg without what the comparison of its commands notes. -/
def Leg.uncompared (x : Leg) : Leg := { x with diverge := 0, divergeDone := false, compared := false }

theorem Leg.eq_of_uncompared {x y : Leg} (h : x.uncompared = y.uncompared) :
    x = { y with diverge := x.diverge, divergeDone := x.divergeDone, compared := x.compared } :=
  congrArg (fun z : Leg => { z with diverge := x.diverge, divergeDone := x.divergeDone, compared := x.compared }) h

theorem State.compareLeg_blank {ps : List Part} (s : State) (q : QuayNo) (l : LegNo) (h : Covers ps [.legAt l, .transit]) :
    (s.compareLeg q l).blank ps = s.blank ps := by
  simp at h
  unfold State.compareLeg
  split
  · simp [State.ite_blank, h]
  · rfl

@[simp] theorem State.raiseQuay_leg (s : State) (src : Nat) (q : QuayNo) (ctx : Ctx) : (s.raiseQuay src q ctx).leg = s.leg := rfl

/-- The comparison of two commands changes its notes in that leg alone (R51 to R53). -/
theorem State.compareLeg_spec (s : State) (q : QuayNo) (l : LegNo) :
    (s.compareLeg q l).leg[l].uncompared = s.leg[l].uncompared ∧ ∀ k : LegNo, k ≠ l → (s.compareLeg q l).leg[k] = s.leg[k] := by
  unfold State.compareLeg
  split
  · split
    · split
      · dsimp only
        split
        · refine ⟨?_, fun k hk => State.modLeg_ne s _ (Ne.symm hk)⟩
          simp only [State.raiseQuay_leg, State.modLeg_self]
          rfl
        · refine ⟨?_, fun k hk => State.modLeg_ne s _ (Ne.symm hk)⟩
          simp only [State.modLeg_self]
          rfl
      · refine ⟨?_, fun k hk => State.modLeg_ne s _ (Ne.symm hk)⟩
        simp only [State.modLeg_self]
        rfl
    · exact ⟨rfl, fun _ _ => rfl⟩
  · exact ⟨rfl, fun _ _ => rfl⟩

/-- A mismatch is counted for its half, once per quay and update point, and may raise ROLE_MISMATCH (R968, R969). -/
theorem State.countMismatch_spec (s : State) (h : Side) (q : QuayNo) :
    (¬ (s.half.get h).mismatchKeys.contains (q, s.nextUpdate q) = true → ((s.countMismatch h q).half.get h).mismatch = (s.half.get h).mismatch + 1) ∧
      (s.countMismatch h q).blank [.half, .transit] = s.blank [.half, .transit] := by
  unfold State.countMismatch
  dsimp only
  split
  · next hc => exact ⟨fun hn => absurd hc hn, rfl⟩
  · refine ⟨fun _ => ?_, by simp [State.ite_blank]⟩
    cases h <;> split <;> rfl

@[simp] theorem State.sendCmd_blank {ps : List Part} (s : State) (q : QuayNo) (l : LegNo) (h : .lane ∈ ps) : (s.sendCmd q l).blank ps = s.blank ps := by
  unfold State.sendCmd
  split
  · rfl
  · simp [State.ite_blank, h]

/-- A claim that does not match is counted, then the commands are compared (R51, R968). -/
def State.judged (s : State) (mismatch : Bool) (h : Side) (q : QuayNo) (l : LegNo) : State := (if mismatch then s.countMismatch h q else s).compareLeg q l

/-- What judging an arriving command leaves: its leg but for the notes of the comparison, other legs, and a count of the half at most. -/
theorem State.judged_spec (s : State) (mismatch : Bool) (h : Side) (q : QuayNo) (l : LegNo) :
    (s.judged mismatch h q l).leg[l].uncompared = s.leg[l].uncompared ∧ (∀ k : LegNo, k ≠ l → (s.judged mismatch h q l).leg[k] = s.leg[k]) ∧
      (mismatch = false → (s.judged mismatch h q l).half = s.half) ∧
      (mismatch = true → ¬ (s.half.get h).mismatchKeys.contains (q, s.nextUpdate q) = true →
        ((s.judged mismatch h q l).half.get h).mismatch = (s.half.get h).mismatch + 1) ∧
      (s.judged mismatch h q l).blank [.legAt l, .half, .transit] = s.blank [.legAt l, .half, .transit] := by
  obtain ⟨hcount, hblank⟩ := s.countMismatch_spec h q
  have hfirst : ∃ u, (if mismatch then s.countMismatch h q else s) = u ∧ u.leg = s.leg ∧ (mismatch = false → u.half = s.half) ∧
      (mismatch = true → ¬ (s.half.get h).mismatchKeys.contains (q, s.nextUpdate q) = true → (u.half.get h).mismatch = (s.half.get h).mismatch + 1) ∧
      u.blank [.half, .transit] = s.blank [.half, .transit] := by
    cases mismatch with
    | false => exact ⟨s, rfl, rfl, fun _ => rfl, nofun, rfl⟩
    | true => exact ⟨_, rfl, (congrArg State.leg (State.eq_take hblank) :), nofun, fun _ => hcount, hblank⟩
  obtain ⟨u, hu, huleg, hsame, hmis, hublank⟩ := hfirst
  obtain ⟨hleg, hne⟩ := u.compareLeg_spec q l
  have hcmp := u.compareLeg_blank (ps := [.legAt l, .transit]) q l (by simp)
  rw [State.judged, hu]
  have hhalf : (u.compareLeg q l).half = u.half := State.half_of_blank hcmp (by simp)
  rw [huleg] at hleg hne
  exact ⟨hleg, hne, fun h0 => hhalf.trans (hsame h0), fun h1 hn => by rw [hhalf]; exact hmis h1 hn,
    (State.blank_mono hcmp (by simp)).trans (State.blank_mono hublank (by simp))⟩

section
variable {s : State} {l : LegNo} {q : QuayNo} {h : Side} {c : LegCmd} {src : LegCmdSource} (claim : Claim)

/-- From the half in charge (R46, R957). -/
theorem execLegCommandArrival_in_charge (hq : s.legQuay l = some q) (hc : s.isChopperLeg l = false) (ha : s.arriving q l src = some c)
    (hr : (s.half.get h).run = true) (hg : s.hm.grant = some h) : execLegCommandArrival l h claim src s =
      .next (((s.modLeg l (fun x => { x with active := some c, fresh := true })).judged (decide (claim = .shadow)) h q l).sendCmd q l) := by
  have hin : s.inCharge h = true := by rw [State.inCharge, hg]; exact beq_self_eq_true _
  rw [execLegCommandArrival, hq]
  dsimp only
  rw [ha]
  dsimp only
  rw [if_neg (by simp [hc]), if_neg (by simp [hr]), if_pos hin]
  cases claim <;> rfl

/-- From the other half where it is admitted, or is by this command (R47, R957). -/
theorem execLegCommandArrival_admitted (hq : s.legQuay l = some q) (hc : s.isChopperLeg l = false) (ha : s.arriving q l src = some c)
    (hr : (s.half.get h).run = true) (hg : s.hm.grant ≠ some h)
    (had : s.hm.admission[q] = true ∨ (claim = .shadow ∧ s.hm.synced[q] = true ∧ (s.half.get h).coreSync = true ∧ s.hm.grant ≠ none)) :
    execLegCommandArrival l h claim src s = .next (((s.modLeg l (fun x => { x with standby := some c, sbFresh := true })).modHm
      (fun m => { m with admission := m.admission.set q true })).judged (decide (claim = .active)) h q l).evalForce := by
  have hin : s.inCharge h = false := by rw [State.inCharge]; exact beq_false_of_ne hg
  have hcond : (s.hm.admission[q] || (claim == .shadow && s.hm.synced[q] && (s.half.get h).coreSync && s.hm.grant.isSome)) = true := by
    rcases had with h1 | ⟨h1, h2, h3, h4⟩
    · rw [h1, Bool.true_or]
    · rw [h1, h2, h3, Option.isSome_iff_ne_none.2 h4]
      simp
  rw [execLegCommandArrival, hq]
  dsimp only
  rw [ha]
  dsimp only
  rw [if_neg (by simp [hc]), if_neg (by simp [hr]), if_neg (by simp [hin]), if_pos hcond]
  cases claim <;> rfl

/-- From the other half, not admitted: discarded and counted (R50). -/
theorem execLegCommandArrival_discarded (hq : s.legQuay l = some q) (hc : s.isChopperLeg l = false) (ha : s.arriving q l src = some c)
    (hr : (s.half.get h).run = true) (hg : s.hm.grant ≠ some h)
    (had : ¬ (s.hm.admission[q] = true ∨ (claim = .shadow ∧ s.hm.synced[q] = true ∧ (s.half.get h).coreSync = true ∧ s.hm.grant ≠ none))) :
    execLegCommandArrival l h claim src s = .next (if claim = .active ∧ ¬ (s.hm.everGranted = true ∧ s.now < s.hm.lastMove + us 20) then
      (s.modLeg l (fun x => { x with discards := x.discards + 1 })).countMismatch h q else s.modLeg l (fun x => { x with discards := x.discards + 1 })) := by
  have hin : s.inCharge h = false := by rw [State.inCharge]; exact beq_false_of_ne hg
  have hcond : ¬ (s.hm.admission[q] || (claim == .shadow && s.hm.synced[q] && (s.half.get h).coreSync && s.hm.grant.isSome)) = true := fun hyes => by
    simp only [Bool.or_eq_true, Bool.and_eq_true, beq_iff_eq, Option.isSome_iff_ne_none] at hyes
    exact had (hyes.imp_right fun ⟨⟨⟨h1, h2⟩, h3⟩, h4⟩ => ⟨h1, h2, h3, h4⟩)
  rw [execLegCommandArrival, hq]
  dsimp only
  rw [ha]
  dsimp only
  rw [if_neg (by simp [hc]), if_neg (by simp [hr]), if_neg (by simp [hin]), if_neg hcond]
  refine congrArg Host.Outcome.next (ite_congr ?_ (fun _ => rfl) fun _ => rfl)
  simp only [Bool.and_eq_true, Bool.not_eq_true', Bool.and_eq_false_iff, decide_eq_true_eq, decide_eq_false_iff_not, not_and_or, Bool.not_eq_true]

/-- A command of a half that does not run (R50). -/
theorem execLegCommandArrival_dead (hq : s.legQuay l = some q) (hc : s.isChopperLeg l = false) (ha : s.arriving q l src = some c)
    (hr : (s.half.get h).run = false) : execLegCommandArrival l h claim src s =
      .next (if s.hm.grant = some h then s else s.modLeg l (fun x => { x with discards := x.discards + 1 })) := by
  rw [execLegCommandArrival, hq]
  dsimp only
  rw [ha]
  dsimp only
  rw [if_neg (by simp [hc]), if_pos (by simp [hr])]
  refine congrArg Host.Outcome.next (ite_congr ?_ (fun _ => rfl) fun _ => rfl)
  simp [State.inCharge]

end

theorem State.evalForce_of_no_force {s : State} (h : s.prot.hmForce = false) :
    s.evalForce = { s with hm := { s.hm with forcePend := false } } := by
  rw [State.evalForce, if_pos (by simp [h]), h]
  rfl

/-- Settles O21, by whether the half of the command is in charge, admitted, or neither. -/
theorem legCommandsArrive : Obligations.LegCommandsArrive := by
  refine ⟨fun l q h claim src c s hq hc ha => ?_, fun l h claim src s hno => ?_⟩
  · intro others counts admitted
    refine ⟨fun hr hg => ?_, fun hr hg had => ?_, fun hr hg had => ?_, fun hr hg => ?_, fun hr hg => ?_⟩
    · refine ⟨_, execLegCommandArrival_in_charge claim hq hc ha hr hg, ?_⟩
      obtain ⟨hleg, hne, hsame, hmis, hblank⟩ := (s.modLeg l (fun x => { x with active := some c, fresh := true })).judged_spec (decide (claim = .shadow)) h q l
      generalize (s.modLeg l (fun x => { x with active := some c, fresh := true })).judged (decide (claim = .shadow)) h q l = u at hleg hne hsame hmis hblank ⊢
      have hsend := u.sendCmd_blank (ps := [.lane]) q l (by simp)
      generalize u.sendCmd q l = t at hsend
      have htleg : t.leg = u.leg := (congrArg State.leg (State.eq_take hsend) :)
      have hthalf : t.half = u.half := State.half_of_blank hsend (by simp)
      rw [State.modLeg_self] at hleg
      refine ⟨?_, fun k hk => ?_, fun hcl => ?_, fun hcl hn => ?_, ?_⟩
      · rw [htleg]
        exact Leg.eq_of_uncompared hleg
      · rw [htleg, hne k hk]
        exact State.modLeg_ne s _ (Ne.symm hk)
      · rw [hthalf, hsame (by rw [hcl]; rfl)]
        rfl
      · rw [hthalf, hmis (by rw [hcl]; rfl) hn]
        rfl
      · exact State.eq_take ((State.blank_mono (ps := [.leg, .half, .lane, .transit]) hsend (by simp)).trans
          ((State.blank_mono hblank (by simp)).trans (by simp)))
    · refine ⟨_, execLegCommandArrival_admitted claim hq hc ha hr hg had, ?_⟩
      obtain ⟨hleg, hne, hsame, hmis, hblank⟩ := ((s.modLeg l (fun x => { x with standby := some c, sbFresh := true })).modHm
        (fun m => { m with admission := m.admission.set q true })).judged_spec (decide (claim = .active)) h q l
      have hhm : ∀ u : State, u.blank [.legAt l, .half, .transit] = ((s.modLeg l (fun x => { x with standby := some c, sbFresh := true })).modHm
          (fun m => { m with admission := m.admission.set q true })).blank [.legAt l, .half, .transit] →
          u.hm = { s.hm with admission := s.hm.admission.set q true } := fun u hu => State.hm_of_blank hu (by simp)
      generalize ((s.modLeg l (fun x => { x with standby := some c, sbFresh := true })).modHm
        (fun m => { m with admission := m.admission.set q true })).judged (decide (claim = .active)) h q l = u at hleg hne hsame hmis hblank ⊢
      have hus : u.blank [.leg, .half, .hm, .transit] = s.blank [.leg, .half, .hm, .transit] := (State.blank_mono hblank (by simp)).trans (by simp)
      have hall := State.eq_take hus
      have huhm := hhm u hblank
      refine ⟨fun hf => State.evalForce_of_no_force ?_, ?_, fun k hk => ?_, fun hcl => ?_, fun hcl hn => ?_, ?_⟩
      · rw [hall]
        exact hf
      · exact Leg.eq_of_uncompared (y := { s.leg[l] with standby := some c, sbFresh := true })
          (hleg.trans (congrArg Leg.uncompared (State.modLeg_self s l _)))
      · rw [hne k hk]
        exact State.modLeg_ne s _ (Ne.symm hk)
      · rw [hsame (by rw [hcl]; rfl)]
        rfl
      · exact hmis (by rw [hcl]; rfl) hn
      · rw [← huhm]
        exact hall
    · refine ⟨_, execLegCommandArrival_discarded claim hq hc ha hr hg had, ?_⟩
      have hself : (s.modLeg l (fun x => { x with discards := x.discards + 1 })).leg[l] = { s.leg[l] with discards := s.leg[l].discards + 1 } :=
        State.modLeg_self s l _
      have hne : ∀ k : LegNo, k ≠ l → (s.modLeg l (fun x => { x with discards := x.discards + 1 })).leg[k] = s.leg[k] :=
        fun k hk => State.modLeg_ne s _ (Ne.symm hk)
      obtain ⟨hmis, hblank⟩ := (s.modLeg l (fun x => { x with discards := x.discards + 1 })).countMismatch_spec h q
      by_cases hcond : claim = .active ∧ ¬ (s.hm.everGranted = true ∧ s.now < s.hm.lastMove + us 20)
      · rw [if_pos hcond]
        have hcleg : ((s.modLeg l (fun x => { x with discards := x.discards + 1 })).countMismatch h q).leg =
            (s.modLeg l (fun x => { x with discards := x.discards + 1 })).leg := (congrArg State.leg (State.eq_take hblank) :)
        rw [hcleg]
        refine ⟨hself, fun k hk => ?_, fun hcl => ?_, fun _ _ hn => hmis hn, ?_⟩
        · rw [hcleg]
          exact hne k hk
        · rw [hcl] at hcond
          exact nomatch hcond.1
        · exact hcleg ▸ State.eq_take ((State.blank_mono (ps := [.leg, .half, .transit]) hblank (by simp)).trans (by simp))
      · rw [if_neg hcond]
        refine ⟨hself, hne, fun _ => rfl, fun hcl hearly hn => ?_, rfl⟩
        refine absurd ⟨hcl, ?_⟩ hcond
        rintro ⟨hever, hlt⟩
        rcases hearly with h0 | h0
        · exact Bool.false_ne_true (h0.symm.trans hever)
        · exact absurd hlt (Nat.not_lt.2 h0)
    · refine ⟨_, by rw [exec, execLegCommandArrival_dead claim hq hc ha hr, if_neg hg], State.modLeg_self s l _, fun k hk => State.modLeg_ne s _ (Ne.symm hk), rfl⟩
    · rw [exec, execLegCommandArrival_dead claim hq hc ha hr, if_pos hg]
  · rw [exec, execLegCommandArrival]
    cases hq : s.legQuay l with
    | none => rfl
    | some q =>
      dsimp only
      cases ha : s.arriving q l src with
      | none => rfl
      | some c =>
        dsimp only
        refine if_pos ((hno.resolve_left (by simp [hq])).resolve_right fun h => ?_)
        exact nomatch (h q hq).symm.trans ha

end Sys2Proof.Machine
end

section
/-! ### Halves and the grant (R940 to R986) -/

namespace Sys2Proof.Machine

/-! #### What a grant leaves of the mailboxes -/

/-- What a port shows of its mailboxes: that one was lost, its staging area, its busy bits. -/
def Port.mail (p : Port) : Bool × List (Word × Word) × Word := (p.irqLost, p.staging, p.busy)

/-- What the ports show of their mailboxes. -/
def State.mail (s : State) (g : Side) : Bool × List (Word × Word) × Word := (s.port.get g).mail

theorem State.mail_of_port {s t : State} (h : t.port = s.port) : t.mail = s.mail := by
  funext g
  rw [mail, h, mail]

theorem State.modPort_mail (s : State) (p : Side) {f : Port → Port} (hf : ∀ x, (f x).mail = x.mail) : (s.modPort p f).mail = s.mail := by
  funext g
  by_cases hg : p = g
  · subst hg
    rw [mail, modPort_self, hf, mail]
  · rw [mail, modPort_ne _ _ hg, mail]

theorem State.event_mail (s : State) (o : AcceptedOp) (st : Byte) (a : U16) (n : Nat) : (s.event o st a n).mail = s.mail :=
  s.modPort_mail _ fun x => by
    unfold Port.pushEvq
    split <;> rfl

theorem State.eventAll_mail (s : State) (os : List AcceptedOp) (st : Byte) (a : U16) (n : Nat) : (s.eventAll os st a n).mail = s.mail :=
  forAll_keeps (P := fun t => t.mail = s.mail) rfl fun t ht o _ => (t.event_mail o st a n).trans ht

theorem State.dropGroup_mail (s : State) (g : GroupMove) : (s.dropGroup g).mail = s.mail :=
  forAll_keeps (P := fun t => t.mail = s.mail) (State.eventAll_mail _ _ _ _ _) fun _ ht _ _ => ht

theorem State.continueCopy_mail (s : State) (q : QuayNo) : (s.continueCopy q).mail = s.mail := s.eventAll_mail _ _ _ _

/-! #### What a grant makes of the Harbourmaster -/

/-- The Harbourmaster once a half has the grant (R950, R955, R957). -/
def State.grantedHm (s : State) (h : Side) : Harbour :=
  { s.hm with
    grant := some h, everGranted := true, forcePend := false
    failovers := if s.hm.everGranted then s.hm.failovers + 1 else s.hm.failovers
    lastMove := if s.hm.everGranted then s.now else s.hm.lastMove
    admission := Vector.replicate 12 false, synced := Vector.replicate 12 false }

/-- The device once the quays of a moved grant continue with the shadow's copies (R957 to R961). -/
def State.continued (s : State) : State := s.lostGroups.foldl State.dropGroup (forAll allQuays s.promote State.continueCopy)

@[simp] theorem State.continued_blank {ps : List Part} (s : State) (h : Covers ps [.groups, .port, .quay, .leg, .lane]) : s.continued.blank ps = s.blank ps := by
  simp at h
  simp [State.continued, h]

theorem State.foldl_eq_forAll {α : Type} (xs : List α) (s : State) (f : State → α → State) : xs.foldl f s = forAll xs s f := rfl

theorem State.continued_mail (s : State) : s.continued.mail = s.mail := by
  have hpromote : s.promote.mail = s.mail := State.mail_of_port (State.port_of_blank (ps := [.leg, .lane]) (State.promote_blank _ (by simp)) (by simp))
  have hcopy : (forAll allQuays s.promote State.continueCopy).mail = s.mail :=
    forAll_keeps (P := fun t => t.mail = s.mail) hpromote fun t ht q _ => (t.continueCopy_mail q).trans ht
  exact forAll_keeps (P := fun t => t.mail = s.mail) hcopy fun t ht g _ => (t.dropGroup_mail g).trans ht

/-- The channel after a grant: forwarded commands and replies alone stay on it (R955, R983). -/
def State.channelCleared (s : State) (now : Nat) : State :=
  s.modIh (fun c =>
    let keep (l : List IhMsg) := l.filter IhMsg.isForward
    { c with changes := [], from_ := ⟨keep c.from_.a, keep c.from_.b⟩, unacked := ⟨(keep c.from_.a).map (fun _ => now), (keep c.from_.b).map (fun _ => now)⟩ })

theorem State.grantTo_eq (s : State) (h : Side) : s.grantTo h =
    let u := (forAll allQuays (if s.hm.everGranted then (s.modHm (fun _ => s.grantedHm h)).continued else s.modHm (fun _ => s.grantedHm h))
      (fun t q => t.rewriteTable q)).channelCleared s.now
    if s.hm.everGranted then (u.modPort .a (fun p => { p with irqRole := true })).modPort .b (fun p => { p with irqRole := true }) else u := rfl

theorem State.grantTo_spec (s : State) (h : Side) : (s.grantTo h).hm = s.grantedHm h ∧ (s.grantTo h).mail = s.mail := by
  have hmoved : ∀ b : Bool, (if b then (s.modHm (fun _ => s.grantedHm h)).continued else s.modHm (fun _ => s.grantedHm h)).hm = s.grantedHm h ∧
      (if b then (s.modHm (fun _ => s.grantedHm h)).continued else s.modHm (fun _ => s.grantedHm h)).mail = s.mail := fun b => by
    split
    · exact ⟨State.hm_of_blank (State.continued_blank (ps := [.groups, .port, .quay, .leg, .lane]) _ (by simp)) (by simp), State.continued_mail _⟩
    · exact ⟨rfl, rfl⟩
  obtain ⟨hhm, hmail⟩ := hmoved s.hm.everGranted
  rw [State.grantTo_eq]
  generalize (if s.hm.everGranted then (s.modHm (fun _ => s.grantedHm h)).continued else s.modHm (fun _ => s.grantedHm h)) = u at hhm hmail ⊢
  have htable : (forAll allQuays u (fun t q => t.rewriteTable q)).blank [.quay] = u.blank [.quay] := by simp
  have hthm : (forAll allQuays u (fun t q => t.rewriteTable q)).hm = s.grantedHm h := (State.hm_of_blank htable (by simp)).trans hhm
  have htmail : (forAll allQuays u (fun t q => t.rewriteTable q)).mail = s.mail := (State.mail_of_port (State.port_of_blank htable (by simp))).trans hmail
  generalize forAll allQuays u (fun t q => t.rewriteTable q) = v at hthm htmail
  dsimp only
  split
  · refine ⟨hthm, (State.modPort_mail _ _ ?_).trans ((State.modPort_mail _ _ ?_).trans htmail)⟩
    · exact fun _ => rfl
    · exact fun _ => rfl
  · exact ⟨hthm, htmail⟩

/-! #### The force pins -/

/-- A force that names no half to move the grant to only shows (R950 to R954). -/
theorem State.evalForce_shows {s : State} (h : ∀ g, s.forced = some g → s.hm.grant = some g ∨ s.hm.grant = none ∨ (s.half.get g).run = false) :
    ∃ b, s.evalForce = s.modHm (fun m => { m with forcePend := b }) := by
  unfold State.evalForce
  split
  · exact ⟨_, rfl⟩
  · next hg =>
    split
    · exact ⟨_, rfl⟩
    · next g hf =>
      split
      · exact ⟨_, rfl⟩
      · next hin =>
        rw [if_neg]
        · exact ⟨_, rfl⟩
        · intro hc
          rcases h g hf with h1 | h1 | h1
          · exact hin (beq_iff_eq.2 h1)
          · exact hg (by rw [h1]; simp)
          · rw [h1] at hc
            exact Bool.false_ne_true hc

/-! #### A half is reset -/

@[simp] theorem State.grantNone_blank {ps : List Part} (s : State) (h : .hm ∈ ps) : s.grantNone.blank ps = s.blank ps := by
  simp [State.grantNone, h]

theorem State.resetHalf_blank {ps : List Part} (s : State) (h : Side) (held : Bool) (hc : Covers ps [.half, .port, .ih, .hm, .quay, .groups, .leg, .lane]) :
    (s.resetHalf h held).blank ps = s.blank ps := by
  simp at hc
  simp [State.resetHalf, State.ite_blank, hc]

/-- The device with a half in reset and the requests of its mailboxes lost, before the grant is judged. -/
def State.stopped (s : State) (h : Side) (held : Bool) : State :=
  ((s.modHalf h (fun x =>
    { x with run := false, selfOk := false, held := x.held || held, req := false, patchOk := false, coreSync := false
             resets := x.resets + 1, resetAt := s.now, mismatchAt := [], mismatchKeys := [], roleRecAt := none, check := {} })).modPort h Port.lose).modIh (fun c =>
    { c with from_ := ⟨[], []⟩, unacked := ⟨[], []⟩, changes := [], waiting := c.waiting.filter (fun e => e.1.port != h), linkDown := false })

/-- The grant once a half is in reset (R955, R958). -/
def State.regranted (s : State) (h : Side) : State :=
  if s.inCharge h then (if (s.half.get h.other).run then s.grantTo h.other else s.grantNone)
  else s.modHm (fun m => { m with admission := Vector.replicate 12 false, synced := Vector.replicate 12 false })

theorem Side.other_ne (h : Side) : h ≠ h.other := by cases h <;> decide

theorem Side.eq_or_other (g h : Side) : g = h ∨ g = h.other := by cases g <;> cases h <;> decide

theorem State.resetHalf_eq (s : State) (h : Side) (held : Bool) : s.resetHalf h held =
    let s4 := forAll allLegs ((s.stopped h held).regranted h) (fun t l => t.modLeg l (fun x => { x with standby := none, sbFresh := false }))
    if s.hm.grant.isSome then s4.evalForce else s4 := by
  cases h <;> rfl

theorem State.inCharge_iff (s : State) (h : Side) : s.inCharge h = true ↔ s.hm.grant = some h := beq_iff_eq

/-- What judging the grant does with the half in reset. -/
theorem State.regranted_spec (s : State) (h : Side) :
    (s.regranted h).half = s.half ∧ (s.regranted h).mail = s.mail ∧
      (s.regranted h).hm.grant = (if s.hm.grant = some h then (if (s.half.get h.other).run = true then some h.other else none) else s.hm.grant) ∧
      (s.regranted h).hm.failovers = if s.hm.grant = some h ∧ (s.half.get h.other).run = true ∧ s.hm.everGranted = true then s.hm.failovers + 1
        else s.hm.failovers := by
  unfold State.regranted
  by_cases hg : s.hm.grant = some h
  · rw [if_pos ((s.inCharge_iff h).2 hg), if_pos hg]
    by_cases hr : (s.half.get h.other).run = true
    · rw [if_pos hr, if_pos hr]
      obtain ⟨hhm, hmail⟩ := s.grantTo_spec h.other
      have hhalf : (s.grantTo h.other).half = s.half :=
        State.half_of_blank (State.grantTo_blank (ps := [.hm, .ih, .quay, .port, .groups, .leg, .lane]) s _ (by simp)) (by simp)
      refine ⟨hhalf, hmail, by rw [hhm]; rfl, ?_⟩
      rw [hhm]
      by_cases he : s.hm.everGranted = true
      · rw [if_pos ⟨hg, hr, he⟩]
        exact if_pos he
      · rw [if_neg fun hc => he hc.2.2]
        exact if_neg he
    · rw [if_neg hr, if_neg hr, if_neg fun hc => hr hc.2.1]
      exact ⟨rfl, rfl, rfl, rfl⟩
  · rw [if_neg (mt (s.inCharge_iff h).1 hg), if_neg hg, if_neg fun hc => hg hc.1]
    exact ⟨rfl, rfl, rfl, rfl⟩

/-- What the reset of a half does (R943, R944, R955, R958). -/
theorem State.resetHalf_lost (s : State) (h : Side) (held : Bool) :
    HalfLost s (s.resetHalf h held) h ∧ ((s.resetHalf h held).half.get h).held = ((s.half.get h).held || held) := by
  have hbase := s.resetHalf_base h held
  obtain ⟨hhalf, hmail, hgrant, hfail⟩ := (s.stopped h held).regranted_spec h
  have hother : ((s.stopped h held).half.get h.other) = s.half.get h.other := Pair.get_set_ne _ _ (Side.other_ne h)
  have hself : ((s.stopped h held).half.get h) = { s.half.get h with
      run := false, selfOk := false, held := (s.half.get h).held || held, req := false, patchOk := false, coreSync := false
      resets := (s.half.get h).resets + 1, resetAt := s.now, mismatchAt := [], mismatchKeys := [], roleRecAt := none, check := {} } := Pair.get_set _ _ _
  have hlost : (s.stopped h held).mail h = (true, [], (s.port.get h).busy &&& 0x0000000F#32) := congrArg Port.mail (Pair.get_set _ _ _)
  have hhm : (s.stopped h held).hm = s.hm := rfl
  rw [State.resetHalf_eq] at hbase ⊢
  generalize (s.stopped h held).regranted h = u at hhalf hmail hgrant hfail hbase ⊢
  rw [hother, hhm] at hgrant hfail
  have hlegs : (forAll allLegs u (fun t l => t.modLeg l (fun x => { x with standby := none, sbFresh := false }))).blank [.leg] = u.blank [.leg] := by simp
  have hv := State.eq_take hlegs
  generalize forAll allLegs u (fun t l => t.modLeg l (fun x => { x with standby := none, sbFresh := false })) = v at hv hbase ⊢
  have hvhm : v.hm = u.hm := by rw [hv]; rfl
  have hvhalf : v.half = u.half := by rw [hv]; rfl
  have hvmail : v.mail = u.mail := State.mail_of_port (by rw [hv]; rfl)
  have hlast : ∃ b, (if s.hm.grant.isSome then v.evalForce else v) = v.modHm (fun m => { m with forcePend := b }) := by
    split
    · next hsome =>
      refine State.evalForce_shows fun g _ => ?_
      rw [hvhm, hvhalf, hhalf, hgrant]
      rcases Side.eq_or_other g h with rfl | rfl
      · refine .inr (.inr ?_)
        rw [hself]
      · split
        · split
          · exact .inl rfl
          · exact .inr (.inl rfl)
        · next hne =>
          obtain ⟨k, hk⟩ := Option.isSome_iff_exists.1 hsome
          rcases Side.eq_or_other k h with rfl | rfl
          · exact absurd hk hne
          · exact .inl hk
    · exact ⟨_, rfl⟩
  dsimp only at hbase ⊢
  obtain ⟨b, hb⟩ := hlast
  rw [hb] at hbase ⊢
  have htmail : (v.modHm (fun m => { m with forcePend := b })).mail h = (true, [], (s.port.get h).busy &&& 0x0000000F#32) :=
    (congrFun (hvmail.trans hmail) h).trans hlost
  have hhalf' : (v.modHm (fun m => { m with forcePend := b })).half = (s.stopped h held).half := hvhalf.trans hhalf
  refine ⟨⟨?_, ?_, ?_, ?_, ?_, ?_, ?_, hbase⟩, ?_⟩
  · rw [hhalf', hself]
  · rw [hhalf', hself]
  · rw [hhalf', hself]
  · rw [hhalf', hother]
  · obtain ⟨hlost, hstage, hbusy⟩ := (Prod.mk.injEq _ _ _ _).mp htmail |>.imp_right (Prod.mk.injEq _ _ _ _).mp
    refine ⟨hlost, hstage, ?_⟩
    rw [show ((v.modHm (fun m => { m with forcePend := b })).port.get h).busy = (s.port.get h).busy &&& 0x0000000F#32 from hbusy, BitVec.and_assoc]
    exact BitVec.and_zero
  · exact (congrArg Harbour.grant hvhm).trans hgrant
  · exact (congrArg Harbour.failovers hvhm).trans hfail
  · rw [hhalf', hself]

/-! #### CHECK_TRIP, HEARTBEAT_TIMEOUT, CHECK_SELFTEST -/

/-- A half is reset under a source raised for it (R965, R966, R986). -/
theorem State.raise_resetHalf (s : State) (h : Side) (held : Bool) (src : Nat) (ctx : Ctx) :
    HalfLost s ((s.raiseHalf src h ctx).resetHalf h held) h ∧
      (((s.raiseHalf src h ctx).resetHalf h held).half.get h).held = ((s.half.get h).held || held) ∧
      ∃ e ∈ ((s.raiseHalf src h ctx).resetHalf h held).flt.transit, e.src = src ∧ e.time = s.now ∧ e.scope = (if h = .a then 0xE0 else 0xE1) ∧ e.ctx = ctx := by
  obtain ⟨hl, hheld⟩ := (s.raiseHalf src h ctx).resetHalf_lost h held
  refine ⟨⟨hl.run, hl.resets, hl.since, hl.other, hl.lost, hl.grant, hl.moves, hl.base.trans (s.raiseHalf_base _ _ _)⟩, hheld, ?_⟩
  have hb := State.transit_of_blank ((s.raiseHalf src h ctx).resetHalf_blank (ps := [.half, .port, .ih, .hm, .quay, .groups, .leg, .lane]) h held (by simp)) (by simp)
  rw [hb]
  exact ⟨_, s.raise_mem _, rfl, rfl, rfl, rfl⟩

theorem State.tripHolds_iff (s : State) (h : Side) (c : TripCause) : s.tripHolds h c = true ↔ match c with
    | .role => ∃ u, (s.half.get h).roleRecAt = some u ∧ ∃ m ∈ (s.half.get h).mismatchAt, u + 6400000 ≤ m
    | .link => s.ih.linkDown = true ∧ s.hm.grant ≠ some h ∧ s.ih.linkSince + 64000 * halfLinkTimeout s h ≤ s.now
    | _ => True := by
  cases c with
  | role =>
    rw [State.tripHolds]
    dsimp only
    cases (s.half.get h).roleRecAt with
    | none => simp
    | some u =>
      simp only [List.any_eq_true, decide_eq_true_eq, Option.some.injEq, exists_eq_left']
      exact Iff.rfl
  | link =>
    have hten : 10 * us (halfLinkTimeout s h) = 64000 * halfLinkTimeout s h := by
      rw [us]
      omega
    simp only [State.tripHolds, State.inCharge, hten, Bool.and_eq_true, Bool.not_eq_true', beq_eq_false_iff_ne, decide_eq_true_eq, and_assoc]
  | _ => simp [State.tripHolds]

/-- Settles O45, by the cause of the trip. -/
theorem halvesTrip : Obligations.HalvesTrip := by
  unfold Obligations.HalvesTrip
  intro raised
  refine ⟨fun h c engine s => ?_, fun h s => ⟨fun hr => ?_, fun hr => if_neg (by simp [hr])⟩, fun h s => ?_⟩
  · intro holds
    have hiff := s.tripHolds_iff h c
    refine ⟨fun hr hh => ?_, fun hno => if_neg fun hc => ?_⟩
    · obtain ⟨hl, hheld, hraised⟩ := s.raise_resetHalf h false srcCheckTrip
        (tripCtx h (if c = .engineMiss ∨ c = .engineSig then engine else 0xFF) (1#8 <<< tripBit c))
      refine ⟨_, if_pos (by rw [hr, hiff.2 hh]; rfl), hl, hheld.trans (Bool.or_false _), ?_⟩
      obtain ⟨e, he, hsrc, htime, hscope, hctx⟩ := hraised
      refine ⟨e, he, hsrc, htime, hscope, hctx.trans ?_⟩
      cases c <;> rfl
    · rw [Bool.and_eq_true] at hc
      rcases hno with h0 | h0
      · exact Bool.false_ne_true (h0.symm.trans hc.1)
      · exact h0 (hiff.1 hc.2)
  · obtain ⟨hl, hheld, hraised⟩ := s.raise_resetHalf h false srcCheckTrip (tripCtx h 0xFF 0x40)
    exact ⟨_, if_pos hr, hl, hheld.trans (Bool.or_false _), hraised⟩
  · intro tested
    refine ⟨fun ⟨h1, h2, h3⟩ => ?_, fun hno pass => if_pos ?_⟩
    · obtain ⟨hl, hheld, hraised⟩ := s.raise_resetHalf h true srcCheckSelftest (tripCtx h 0xFF 0)
      refine ⟨_, ?_, hl, hheld.trans (Bool.or_true _), hraised⟩
      rw [exec, execCheckSelftest, if_neg (by rintro (h | h | h) <;> simp_all), if_neg Bool.false_ne_true]
    · by_contra hc
      simp only [not_or, Bool.not_eq_true] at hc
      exact hno hc

end Sys2Proof.Machine
end

section
/-! ### The inter-half channel (R957 to R983) and the force pins (R950 to R955) -/

namespace Sys2Proof.Machine

/-! #### Messages on the channel -/

section
variable {s : State} {g h : Side} {q : QuayNo}

theorem execIhChange_of_head {c : AxisCore} {u : Nat} (hg : s.hm.grant = some g) (hh : (s.ih.from_.get g).head? = some (.change q c u)) :
    execIhChange s = .next (((s.popFrom g).modQuay q (fun x => { x with coreCopy := c })).modIh
      (fun x => { x with from_ := x.from_.set g.other (x.from_.get g.other ++ [.changeAck q]) })) := by
  unfold execIhChange State.headFrom
  rw [hg]
  dsimp only
  rw [hh]

theorem execIhChangeAck_of_head (hg : s.hm.grant = some g) (hh : (s.ih.from_.get g.other).head? = some (.changeAck q)) :
    execIhChangeAck s = .next (((s.popFrom g.other).ackFrom g).modIh (fun c => { c with changes := dropChange q c.changes })) := by
  unfold execIhChangeAck State.headFrom
  rw [hg]
  dsimp only
  rw [hh]

theorem execIhKstate_of_head (hg : s.hm.grant = some g) (hh : (s.ih.from_.get g).head? = some (.kstate q)) :
    execIhKstate s = .next ((((s.popFrom g).ackFrom g).modQuay q (fun x => { x with kernCopy := x.kern, coreCopy := x.core })).modHm
      (fun m => { m with synced := m.synced.set q true })) := by
  unfold execIhKstate State.headFrom
  rw [hg]
  dsimp only
  rw [hh]

end

/-- The oldest change of a quay leaves the list; a list without one stays (R963). -/
theorem dropChange_spec (q : QuayNo) (xs : List (QuayNo × Nat)) :
    (∀ pre u rest, xs = pre ++ (q, u) :: rest → (∀ e ∈ pre, e.1 ≠ q) → dropChange q xs = pre ++ rest) ∧ ((∀ e ∈ xs, e.1 ≠ q) → dropChange q xs = xs) := by
  induction xs with
  | nil => exact ⟨fun pre u rest h => by simp at h, fun _ => rfl⟩
  | cons x xs ih =>
    obtain ⟨p, t⟩ := x
    rw [dropChange]
    refine ⟨fun pre u rest h hpre => ?_, fun h => ?_⟩
    · cases pre with
      | nil =>
        simp only [List.nil_append, List.cons.injEq, Prod.mk.injEq] at h
        rw [if_pos h.1.1, h.2, List.nil_append]
      | cons y pre =>
        simp only [List.cons_append, List.cons.injEq] at h
        have hy := hpre y List.mem_cons_self
        rw [← h.1] at hy
        rw [if_neg hy, ih.1 pre u rest h.2 fun e he => hpre e (List.mem_cons_of_mem _ he), ← h.1]
        rfl
    · rw [if_neg (h (p, t) List.mem_cons_self), ih.2 fun e he => h e (List.mem_cons_of_mem _ he)]

/-- An ALIVE at the head of a half's messages is acknowledged (R983). -/
def State.ackAlive (s : State) (h : Side) : State :=
  match s.headFrom h with
  | some .alive => (s.popFrom h).ackFrom h
  | _ => s

theorem execIhAck_eq (s : State) : execIhAck s = .next ((s.ackAlive .a).ackAlive .b) := rfl

theorem State.ackAlive_of_alive {s : State} {h : Side} (hh : (s.ih.from_.get h).head? = some .alive) : s.ackAlive h = (s.popFrom h).ackFrom h := by
  unfold State.ackAlive State.headFrom
  rw [hh]

theorem State.ackAlive_of_ne {s : State} {h : Side} (hh : (s.ih.from_.get h).head? ≠ some .alive) : s.ackAlive h = s := by
  unfold State.ackAlive State.headFrom
  split
  · next he => exact absurd he hh
  · rfl

/-- Settles O47, by the message at the head of the channel. -/
theorem channelServes : Obligations.ChannelServes := by
  unfold Obligations.ChannelServes
  intro popped acked
  refine ⟨fun g q c u s hg hh => ?_, fun s hno => ?_, fun g q s hg hh => ?_, fun s hno => ?_, fun g q s hg hh => ?_, fun s hno => ?_, fun h s => ?_,
    fun h s hh => ?_, fun s hno => ?_⟩
  · rw [exec, execIhChange_of_head hg hh]
    cases g <;> rfl
  · rw [exec, execIhChange]
    unfold State.headFrom
    split
    · rfl
    · next g hg =>
      split
      · next q c u hh => exact absurd hh (hno g hg q c u)
      · rfl
  · refine ⟨_, execIhChangeAck_of_head hg hh, rfl, (dropChange_spec q s.ih.changes).1, (dropChange_spec q s.ih.changes).2, rfl⟩
  · rw [exec, execIhChangeAck]
    unfold State.headFrom
    split
    · rfl
    · next g hg =>
      split
      · next q hh => exact absurd hh (hno g hg q)
      · rfl
  · rw [exec, execIhKstate_of_head hg hh]
    rfl
  · rw [exec, execIhKstate]
    unfold State.headFrom
    split
    · rfl
    · next g hg =>
      split
      · next q hh => exact absurd hh (hno g hg q)
      · rfl
  · intro idle
    have hiff : ((s.half.get h).run && (s.half.get h.other).run && (s.ih.from_.get h).isEmpty) = true ↔ idle := by
      simp only [Bool.and_eq_true, List.isEmpty_iff, and_assoc, idle]
    refine ⟨fun hi => ?_, fun hno => if_neg (mt hiff.1 hno)⟩
    obtain ⟨hrun, hother, hnil⟩ := hi
    have hone : s.ih.from_.get h ++ [IhMsg.alive] = [IhMsg.alive] := by rw [hnil, List.nil_append]
    rw [exec, execIhAliveSend, if_pos (hiff.2 ⟨hrun, hother, hnil⟩), ← hone]
    rfl
  · rw [exec, execIhAck_eq]
    by_cases ho : (s.ih.from_.get h.other).head? = some .alive
    · cases h with
      | a =>
        have h2 : (((s.popFrom .a).ackFrom .a).ih.from_.get .b).head? = some .alive := ho
        rw [State.ackAlive_of_alive hh, State.ackAlive_of_alive h2]
        exact ⟨_, rfl, rfl, rfl, rfl, rfl, fun hc => absurd ho hc⟩
      | b =>
        have h2 : (((s.popFrom .a).ackFrom .a).ih.from_.get .b).head? = some .alive := hh
        rw [State.ackAlive_of_alive (h := .a) ho, State.ackAlive_of_alive h2]
        exact ⟨_, rfl, rfl, rfl, rfl, rfl, fun hc => absurd ho hc⟩
    · cases h with
      | a =>
        have h2 : (((s.popFrom .a).ackFrom .a).ih.from_.get .b).head? ≠ some .alive := ho
        rw [State.ackAlive_of_alive hh, State.ackAlive_of_ne h2]
        exact ⟨_, rfl, rfl, rfl, rfl, rfl, fun _ => ⟨rfl, rfl⟩⟩
      | b =>
        rw [State.ackAlive_of_ne (h := .a) ho, State.ackAlive_of_alive hh]
        exact ⟨_, rfl, rfl, rfl, rfl, rfl, fun _ => ⟨rfl, rfl⟩⟩
  · rw [exec, execIhAck_eq, State.ackAlive_of_ne (hno .a), State.ackAlive_of_ne (hno .b)]

/-! #### HALF_LINK -/

/-- What one step establishes and no step takes back holds after all of them. -/
theorem forAll_establishes {α : Type} {xs : List α} {a : α} (ha : a ∈ xs) {s : State} {f : State → α → State} {P Q : State → Prop}
    (h0 : P s) (hP : ∀ t, P t → ∀ b ∈ xs, P (f t b)) (hest : ∀ t, P t → Q (f t a)) (hkeep : ∀ t, P t → Q t → ∀ b ∈ xs, Q (f t b)) : Q (forAll xs s f) := by
  obtain ⟨pre, post, rfl⟩ := List.append_of_mem ha
  have hpre : P (forAll pre s f) := forAll_keeps h0 fun t ht b hb => hP t ht b (List.mem_append_left _ hb)
  rw [forAll_append, forAll_cons]
  exact (forAll_keeps (P := fun t => P t ∧ Q t) ⟨hP _ hpre a ha, hest _ hpre⟩ fun t ht b hb =>
    have hmem := List.mem_append_right pre (List.mem_cons_of_mem a hb)
    ⟨hP t ht.1 b hmem, hkeep t ht.1 ht.2 b hmem⟩).2

theorem State.linkExpired_iff (s : State) (h : Side) : s.linkExpired h = true ↔ ∃ u ∈ s.ih.unacked.get h, u + 6400 * halfLinkTimeout s h ≤ s.now := by
  simp only [State.linkExpired, List.any_eq_true, decide_eq_true_eq]
  exact Iff.rfl

/-- HALF_LINK takes effect while both halves run and a message of one waits too long for its acknowledgement (R983). -/
abbrev State.linkDue (s : State) : Prop :=
  s.half.a.run = true ∧ s.half.b.run = true ∧ ∃ h, ∃ u ∈ s.ih.unacked.get h, u + 6400 * halfLinkTimeout s h ≤ s.now

theorem State.linkDue_iff (s : State) : ((s.half.a).run && (s.half.b).run && (s.linkExpired .a || s.linkExpired .b)) = true ↔ s.linkDue := by
  simp only [Bool.and_eq_true, Bool.or_eq_true, State.linkExpired_iff, and_assoc]
  refine and_congr_right fun _ => and_congr_right fun _ => ⟨?_, ?_⟩
  · rintro (h | h)
    · exact ⟨.a, h⟩
    · exact ⟨.b, h⟩
  · rintro ⟨_ | _, h⟩
    · exact .inl h
    · exact .inr h

/-- The device with the link down and the messages that wait too long no longer awaited. -/
def State.linkLost (s : State) : State :=
  (s.raiseDevice srcHalfLink).modIh (fun c => { c with
    linkDown := true, linkSince := if c.linkDown then c.linkSince else s.now
    unacked := ⟨c.unacked.a.filter (fun t => decide (s.now < t + us (halfLinkTimeout s .a)))
              , c.unacked.b.filter (fun t => decide (s.now < t + us (halfLinkTimeout s .b)))⟩ })

/-- The changes that waited too long for the acknowledgement of the shadow. -/
def State.lateChanges (s : State) (g : Side) : List (QuayNo × Nat) := s.ih.changes.filter (fun e => decide (e.2 + us (halfLinkTimeout s g) ≤ s.now))

/-- The device with the link down and those changes no longer pending. -/
def State.lateCut (s : State) (g : Side) : State :=
  s.linkLost.modIh (fun c => { c with changes := c.changes.filter (fun e => decide (s.now < e.2 + us (halfLinkTimeout s g))) })

/-- The device with those changes applied and the admission of their quays lost (R963, R964). -/
def State.lateApplied (s : State) (g : Side) : State := forAll (s.lateChanges g) (s.lateCut g) (fun t e => t.loseAdmission g e.1)

theorem execHalfLink_of_due {s : State} (h : s.linkDue) :
    (∀ g, s.hm.grant = some g → execHalfLink s = .next (s.lateApplied g)) ∧ (s.hm.grant = none → execHalfLink s = .next s.linkLost) := by
  constructor
  · intro g hg
    rw [execHalfLink, if_pos (s.linkDue_iff.2 h), hg]
    rfl
  · intro hg
    rw [execHalfLink, if_pos (s.linkDue_iff.2 h), hg]
    rfl

@[simp] theorem State.loseAdmission_blank {ps : List Part} (s : State) (g : Side) (q : QuayNo) (h : Covers ps [.hm, .quayAt q, .ih]) :
    (s.loseAdmission g q).blank ps = s.blank ps := by
  simp at h
  simp [State.loseAdmission, h]

/-- What losing admission does to each quay (R963, R964). -/
theorem State.loseAdmission_spec (s : State) (g : Side) (q p : QuayNo) :
    (s.loseAdmission g q).quay[p].core = s.quay[p].core ∧ (s.loseAdmission g q).ih.changes = s.ih.changes ∧
      (s.loseAdmission g q).ih.linkDown = s.ih.linkDown ∧ (s.loseAdmission g q).ih.linkSince = s.ih.linkSince ∧
      (q ≠ p → (s.loseAdmission g q).quay[p] = s.quay[p] ∧ (s.loseAdmission g q).hm.admission[p] = s.hm.admission[p]) ∧
      ((s.loseAdmission g q).quay[q].eff = s.quay[q].core ∧ (s.loseAdmission g q).hm.admission[q] = false ∧ .kstate q ∈ (s.loseAdmission g q).ih.from_.get g) ∧
      s.ih.from_.get g ⊆ (s.loseAdmission g q).ih.from_.get g := by
  have hfrom : (s.loseAdmission g q).ih.from_.get g = s.ih.from_.get g ++ [.kstate q] := Pair.get_set _ _ _
  have hself : (s.loseAdmission g q).quay[q] = { s.quay[q] with eff := s.quay[q].core, oldCfg := none } := State.modQuay_self _ _ _
  refine ⟨?_, rfl, rfl, rfl, fun hq => ⟨State.modQuay_ne _ _ hq, Vector.getElem_set_ne q.isLt p.isLt (Fin.val_ne_of_ne hq)⟩,
    ⟨congrArg Quay.eff hself, Vector.getElem_set_self _, ?_⟩, ?_⟩
  · by_cases hq : q = p
    · subst hq
      rw [hself]
    · exact congrArg Quay.core (State.modQuay_ne _ _ hq)
  · rw [hfrom]
    exact List.mem_append_right _ (List.mem_singleton_self _)
  · rw [hfrom]
    exact List.subset_append_left _ _

/-- What the late changes do, over all quays. -/
theorem State.lateApplied_spec (s : State) (g : Side) :
    (∀ q c, (q, c) ∈ s.ih.changes → c + 6400 * halfLinkTimeout s g ≤ s.now → (s.lateApplied g).hm.admission[q] = false ∧
      (s.lateApplied g).quay[q].eff = s.quay[q].core ∧ .kstate q ∈ (s.lateApplied g).ih.from_.get g ∧ (q, c) ∉ (s.lateApplied g).ih.changes) ∧
    (∀ q : QuayNo, (∀ c, (q, c) ∈ s.ih.changes → ¬ c + 6400 * halfLinkTimeout s g ≤ s.now) →
      (s.lateApplied g).hm.admission[q] = s.hm.admission[q] ∧ (s.lateApplied g).quay[q] = s.quay[q]) ∧
    (∀ q : QuayNo, (s.lateApplied g).quay[q].core = s.quay[q].core) ∧
    (s.lateApplied g).ih.linkDown = true ∧ (s.lateApplied g).ih.linkSince = (if s.ih.linkDown = true then s.ih.linkSince else s.now) ∧
    (s.lateApplied g).blank [.hm, .quay, .ih] = s.linkLost.blank [.hm, .quay, .ih] := by
  have hmem : ∀ q c, (q, c) ∈ s.lateChanges g ↔ (q, c) ∈ s.ih.changes ∧ c + 6400 * halfLinkTimeout s g ≤ s.now := fun q c => by
    rw [State.lateChanges, List.mem_filter, decide_eq_true_eq]
    exact Iff.rfl
  have hblank : (s.lateApplied g).blank [.hm, .quay, .ih] = s.linkLost.blank [.hm, .quay, .ih] := by simp [State.lateApplied, State.lateCut]
  have hfix : (∀ q : QuayNo, (s.lateApplied g).quay[q].core = s.quay[q].core) ∧
      (s.lateApplied g).ih.changes = s.ih.changes.filter (fun e => decide (s.now < e.2 + us (halfLinkTimeout s g))) ∧
      (s.lateApplied g).ih.linkDown = true ∧ (s.lateApplied g).ih.linkSince = (if s.ih.linkDown = true then s.ih.linkSince else s.now) :=
    forAll_keeps (P := fun t => (∀ q : QuayNo, t.quay[q].core = s.quay[q].core) ∧
        t.ih.changes = s.ih.changes.filter (fun e => decide (s.now < e.2 + us (halfLinkTimeout s g))) ∧ t.ih.linkDown = true ∧
        t.ih.linkSince = (if s.ih.linkDown = true then s.ih.linkSince else s.now)) ⟨fun _ => rfl, rfl, rfl, rfl⟩ fun t ⟨h1, h2, h3, h4⟩ e _ => by
      refine ⟨fun q => ?_, h2, h3, h4⟩
      rw [(t.loseAdmission_spec g e.1 q).1, h1 q]
  obtain ⟨hcore, hchanges, hdown, hsince⟩ := hfix
  refine ⟨fun q c hq hlate => ?_, fun q hno => ?_, hcore, hdown, hsince, hblank⟩
  · have hin := (hmem q c).2 ⟨hq, hlate⟩
    have hall : (s.lateApplied g).hm.admission[q] = false ∧ (s.lateApplied g).quay[q].eff = s.quay[q].core ∧ .kstate q ∈ (s.lateApplied g).ih.from_.get g := by
      rw [State.lateApplied]
      refine forAll_establishes hin (s := s.lateCut g) (P := fun t => ∀ q : QuayNo, t.quay[q].core = s.quay[q].core)
        (Q := fun t => t.hm.admission[q] = false ∧ t.quay[q].eff = s.quay[q].core ∧ .kstate q ∈ t.ih.from_.get g) (fun _ => rfl)
        (fun t ht e _ p => (t.loseAdmission_spec g e.1 p).1.trans (ht p)) (fun t ht => ?_) fun t ht hq e _ => ?_
      · obtain ⟨heff, hadm, hk⟩ := (t.loseAdmission_spec g q q).2.2.2.2.2.1
        exact ⟨hadm, heff.trans (ht q), hk⟩
      · obtain ⟨-, -, -, -, hne, hself, hsub⟩ := t.loseAdmission_spec g e.1 q
        by_cases he : e.1 = q
        · rw [he] at hself ⊢
          exact ⟨hself.2.1, hself.1.trans (ht q), hself.2.2⟩
        · obtain ⟨hquay, hadm⟩ := hne he
          exact ⟨hadm.trans hq.1, (congrArg Quay.eff hquay).trans hq.2.1, hsub hq.2.2⟩
    refine ⟨hall.1, hall.2.1, hall.2.2, fun hc => ?_⟩
    rw [hchanges, List.mem_filter, decide_eq_true_eq] at hc
    exact absurd hlate (Nat.not_le.2 hc.2)
  · refine forAll_keeps (P := fun t => t.hm.admission[q] = s.hm.admission[q] ∧ t.quay[q] = s.quay[q]) ⟨rfl, rfl⟩ fun t ht e he => ?_
    have hne : e.1 ≠ q := fun heq => by
      obtain ⟨hin, hlate⟩ := (hmem e.1 e.2).1 he
      rw [heq] at hin
      exact hno e.2 hin hlate
    obtain ⟨hquay, hadm⟩ := (t.loseAdmission_spec g e.1 q).2.2.2.2.1 hne
    exact ⟨hadm.trans ht.1, hquay.trans ht.2⟩

/-! #### A grant that moves -/

/-- Each leg takes the standby command of the shadow, if it has one (R957). -/
theorem State.promote_leg (s : State) (l : LegNo) : s.promote.leg[l] = match s.leg[l].standby with
    | some c => { s.leg[l] with active := some c, fresh := s.leg[l].sbFresh, standby := none, sbFresh := false }
    | none => { s.leg[l] with fresh := false } := by
  have hframes : s.promote.leg = (forAll allLegs s (fun t l => t.modLeg l (fun x =>
      match x.standby with
      | some c => { x with active := some c, fresh := x.sbFresh, standby := none, sbFresh := false }
      | none => { x with fresh := false }))).leg := by
    refine forAll_keeps (P := fun t => t.leg = _) rfl fun t ht q _ => ?_
    split
    · exact ht
    · refine forAll_keeps (P := fun v => v.leg = _) ht fun v hv n _ => ?_
      split
      · unfold State.cmdFrame
        dsimp only
        split
        · exact hv
        · exact hv
      · exact hv
  rw [hframes]
  obtain ⟨t, -, hleg, hall⟩ := forAll_observe (s := s) (f := fun t l => t.modLeg l (fun x =>
      match x.standby with
      | some c => { x with active := some c, fresh := x.sbFresh, standby := none, sbFresh := false }
      | none => { x with fresh := false })) (P := fun _ => True) (List.nodup_finRange 80) (List.mem_finRange l) (fun t => t.leg[l]) trivial
    (fun _ _ _ _ => trivial) fun t _ b _ hb => State.modLeg_ne t _ hb
  rw [State.modLeg_self, hleg] at hall
  exact hall

theorem State.eventAll_quay (s : State) (os : List AcceptedOp) (st : Byte) (a : U16) (n : Nat) : (s.eventAll os st a n).quay = s.quay :=
  forAll_keeps (P := fun t => t.quay = s.quay) rfl fun _ ht _ _ => ht

theorem State.continueCopy_ne (s : State) {p q : QuayNo} (h : p ≠ q) : (s.continueCopy p).quay[q] = s.quay[q] := by
  unfold State.continueCopy
  dsimp only
  rw [State.modQuay_ne _ _ h, State.eventAll_quay]

theorem State.continueCopy_core (s : State) (q : QuayNo) : (s.continueCopy q).quay[q].core = s.quay[q].coreCopy.keepOps s.quay[q].core.ops := by
  unfold State.continueCopy
  dsimp only
  rw [State.modQuay_self, State.eventAll_quay]

theorem State.dropGroup_ne (s : State) {g : GroupMove} {q : QuayNo} (h : ∀ a ∈ g.axes, a.1 ≠ q) : (s.dropGroup g).quay[q] = s.quay[q] := by
  refine forAll_keeps (P := fun t => t.quay[q] = s.quay[q]) ?_ fun t ht p hp => ?_
  · rw [State.eventAll_quay]
  · obtain ⟨a, ha, rfl⟩ := List.mem_map.1 hp
    exact (State.modQuay_ne t _ (h a ha)).trans ht

/-- What a moved grant makes of legs and of the quays that no lost group motion names (R957 to R961). -/
theorem State.grantTo_moved {s : State} (h : Side) (he : s.hm.everGranted = true) :
    (∀ l : LegNo, (s.grantTo h).leg[l] = s.promote.leg[l]) ∧
      ∀ q : QuayNo, (∀ g ∈ s.lostGroups, ∀ a ∈ g.axes, a.1 ≠ q) → (s.grantTo h).quay[q].core = s.quay[q].coreCopy.keepOps s.quay[q].core.ops := by
  rw [State.grantTo_eq]
  dsimp only
  rw [if_pos he, if_pos he]
  have hpromote : (s.modHm (fun _ => s.grantedHm h)).promote.leg = s.promote.leg := by
    refine Vector.ext fun i hi => ?_
    exact ((s.modHm (fun _ => s.grantedHm h)).promote_leg ⟨i, hi⟩).trans (s.promote_leg ⟨i, hi⟩).symm
  have hlost : (s.modHm (fun _ => s.grantedHm h)).lostGroups = s.lostGroups := rfl
  have hpquay : (s.modHm (fun _ => s.grantedHm h)).promote.quay = s.quay :=
    (congrArg State.quay (State.eq_take (State.promote_blank (ps := [.leg, .lane]) _ (by simp))) :)
  have hcleg : (s.modHm (fun _ => s.grantedHm h)).continued.leg = s.promote.leg := by
    have hc : (s.modHm (fun _ => s.grantedHm h)).continued.blank [.groups, .port, .quay] = (s.modHm (fun _ => s.grantedHm h)).promote.blank [.groups, .port, .quay] := by
      simp [State.continued]
    have hleg : (s.modHm (fun _ => s.grantedHm h)).continued.leg = (s.modHm (fun _ => s.grantedHm h)).promote.leg := (congrArg State.leg (State.eq_take hc) :)
    exact hleg.trans hpromote
  have hccore : ∀ q : QuayNo, (∀ g ∈ s.lostGroups, ∀ a ∈ g.axes, a.1 ≠ q) →
      (s.modHm (fun _ => s.grantedHm h)).continued.quay[q].core = s.quay[q].coreCopy.keepOps s.quay[q].core.ops := by
    intro q hq
    obtain ⟨t, -, ht, hall⟩ := forAll_observe (s := (s.modHm (fun _ => s.grantedHm h)).promote) (f := State.continueCopy) (P := fun _ => True)
      (List.nodup_finRange 12) (List.mem_finRange q) (fun t => t.quay[q]) trivial (fun _ _ _ _ => trivial) fun t _ b _ hb => t.continueCopy_ne hb
    have hfirst : (forAll allQuays (s.modHm (fun _ => s.grantedHm h)).promote State.continueCopy).quay[q].core = s.quay[q].coreCopy.keepOps s.quay[q].core.ops := by
      rw [allQuays, hall, State.continueCopy_core, ht, hpquay]
    refine forAll_keeps (P := fun t => t.quay[q].core = s.quay[q].coreCopy.keepOps s.quay[q].core.ops) hfirst fun t ht g hg => ?_
    rw [hlost] at hg
    rw [t.dropGroup_ne (hq g hg)]
    exact ht
  generalize (s.modHm (fun _ => s.grantedHm h)).continued = u at hcleg hccore ⊢
  have htable : (forAll allQuays u (fun t q => t.rewriteTable q)).leg = u.leg ∧
      ∀ q : QuayNo, (forAll allQuays u (fun t q => t.rewriteTable q)).quay[q].core = u.quay[q].core :=
    forAll_keeps (P := fun t => t.leg = u.leg ∧ ∀ q : QuayNo, t.quay[q].core = u.quay[q].core) ⟨rfl, fun _ => rfl⟩ fun t ht p _ => by
      unfold State.rewriteTable
      split
      · exact ht
      · refine ⟨ht.1, fun q => Eq.trans ?_ (ht.2 q)⟩
        dsimp only
        by_cases hp : p = q
        · subst hp
          rw [State.modQuay_self]
        · rw [State.modQuay_ne t _ hp]
  generalize forAll allQuays u (fun t q => t.rewriteTable q) = v at htable ⊢
  refine ⟨fun l => ?_, fun q hq => (htable.2 q).trans (hccore q hq)⟩
  have hleg : v.leg = s.promote.leg := htable.1.trans hcleg
  exact congrArg (fun w : Vector Leg 80 => w[l]) hleg

/-! #### MFORCE_ASSERT and MFORCE_RELEASE -/

/-- The device with its force pins at other levels. -/
def State.withForce (s : State) (f : Pair Bool) : State := s.modHm (fun m => { m with force := f })

theorem execMforceAssert_of_force {s : State} {h : Side} (hf : s.prot.hmForce = true) (ho : s.hm.force.get h.other = false) :
    execMforceAssert h s = .next (s.withForce (s.hm.force.set h true)).evalForce := by
  rw [execMforceAssert, if_neg (by simp [hf])]
  refine if_neg ?_
  cases h <;> simp_all [State.modHm, Pair.get, Pair.set, Side.other]

theorem execMforceRelease_of_force {s : State} {h : Side} (hf : s.prot.hmForce = true) :
    execMforceRelease h s = .next (s.withForce (s.hm.force.set h false)).evalForce := if_neg (by simp [hf])

theorem Pair.eq_of_get {p : Pair Bool} {h : Side} {a b : Bool} (h1 : p.get h = a) (h2 : p.get h.other = b) :
    p = (Pair.mk b b).set h a := by
  cases h <;> cases p <;> cases h1 <;> cases h2 <;> rfl

/-- One asserted pin: the grant moves to its half, or waits, or stays (R950 to R954). -/
theorem State.evalForce_one {s : State} {h : Side} (hf : s.prot.hmForce = true) (hh : s.hm.force = (Pair.mk false false).set h true) :
    (s.hm.grant = none → s.evalForce = s.modHm (fun m => { m with forcePend := s.hm.everGranted })) ∧
    (s.hm.grant = some h → s.evalForce = s.modHm (fun m => { m with forcePend := false })) ∧
    (s.hm.grant = some h.other → ¬ ((s.half.get h).run = true ∧ ∀ q ∈ s.kernelQuays, s.hm.admission[q] = true) →
      s.evalForce = s.modHm (fun m => { m with forcePend := true })) ∧
    (s.hm.grant = some h.other → (s.half.get h).run = true ∧ (∀ q ∈ s.kernelQuays, s.hm.admission[q] = true) → s.evalForce = s.grantTo h) := by
  have hforced : s.forced = some h := by
    rw [State.forced, hh]
    cases h <;> rfl
  have hadm : ((s.half.get h).run && s.admittedAll) = true ↔ (s.half.get h).run = true ∧ ∀ q ∈ s.kernelQuays, s.hm.admission[q] = true := by
    rw [Bool.and_eq_true, State.admittedAll, List.all_eq_true]
  have hother : s.hm.grant = some h.other → s.evalForce =
      if (s.half.get h).run && s.admittedAll then s.grantTo h else s.modHm (fun m => { m with forcePend := true }) := fun hg => by
    rw [State.evalForce, if_neg (by rw [hf, hg]; exact Bool.false_ne_true), hforced]
    exact if_neg fun hc => Side.other_ne h (Option.some.inj (((s.inCharge_iff h).1 hc).symm.trans hg))
  refine ⟨fun hg => ?_, fun hg => ?_, fun hg hno => ?_, fun hg had => ?_⟩
  · rw [State.evalForce, if_pos (by rw [hg]; simp), hf, hforced]
    simp
  · rw [State.evalForce, if_neg (by rw [hf, hg]; exact Bool.false_ne_true), hforced]
    exact if_pos ((s.inCharge_iff h).2 hg)
  · rw [hother hg, if_neg (mt hadm.1 hno)]
  · rw [hother hg, if_pos (hadm.2 had)]

/-- Settles O48: of HALF_LINK, by whether a message waited too long; of the pins, by FORCE and the half that they name. -/
theorem linkAndForce : Obligations.LinkAndForce := by
  refine ⟨fun s => ?_, fun h s hf => ⟨if_pos (by simp [hf]), if_pos (by simp [hf])⟩, fun h s hf ho => ?_, fun h s hf ho => ?_, fun h c s hf hc => ?_⟩
  · intro late due
    refine ⟨fun hd => ?_, fun hno => if_neg (mt s.linkDue_iff.1 hno)⟩
    obtain ⟨hsome, hnone⟩ := execHalfLink_of_due hd
    cases hg : s.hm.grant with
    | none =>
      exact ⟨_, hnone hg, rfl, rfl, ⟨_, rfl, rfl, rfl, rfl⟩, nofun, fun _ => ⟨rfl, rfl⟩, fun _ => rfl, rfl⟩
    | some g =>
      obtain ⟨hlate, hother, hcore, hdown, hsince, hblank⟩ := s.lateApplied_spec g
      have hrest := State.eq_take hblank
      refine ⟨_, hsome g hg, hdown, hsince, ⟨_, by rw [hrest]; rfl, rfl, rfl, rfl⟩, fun p hp => ?_, nofun, hcore, ?_⟩
      · cases hp
        exact ⟨hlate, hother⟩
      · exact State.eq_take (ps := [.ih, .hm, .quay, .flt, .transit]) ((State.blank_mono hblank (by simp)).trans (by simp [State.linkLost]))
  · have hpins : s.hm.force.set h true = ⟨true, true⟩ := by
      rw [Pair.eq_of_get (p := s.hm.force) rfl ho]
      cases h <;> simp_all [Pair.set, Pair.get, Side.other]
    have hexec : execMforceAssert h s = .next (((s.withForce ⟨true, true⟩).raiseDevice srcForceConflict).modHm (fun m => { m with forcePend := false })) := by
      have hw : s.modHm (fun m => { m with force := m.force.set h true }) = s.withForce ⟨true, true⟩ := by
        rw [← hpins]
        rfl
      rw [execMforceAssert, if_neg (by simp [hf]), hw]
      rfl
    exact ⟨_, hexec, rfl, ⟨_, rfl, rfl, rfl, rfl⟩, rfl⟩
  · have hpins : s.hm.force.set h false = ⟨false, false⟩ := by
      rw [Pair.eq_of_get (p := s.hm.force) rfl ho]
      cases h <;> rfl
    rw [exec, execMforceRelease_of_force hf, hpins, State.evalForce]
    have hnone : (s.withForce ⟨false, false⟩).forced = none := rfl
    rw [hnone]
    split
    · simp only [Option.isSome_none, Bool.and_false]
      rfl
    · rfl
  · intro only shows admitted
    have hexec : exec c s = .next (s.withForce only).evalForce := by
      rcases hc with ⟨rfl, ho⟩ | ⟨rfl, ho⟩
      · rw [exec, execMforceAssert_of_force hf ho, Pair.eq_of_get (p := s.hm.force) rfl ho]
        cases h <;> rfl
      · rw [exec, execMforceRelease_of_force hf, Pair.eq_of_get (p := s.hm.force) ho rfl]
        cases h <;> rfl
    obtain ⟨hnone, hin, hpend, hmove⟩ := State.evalForce_one (s := s.withForce only) (h := h) hf rfl
    refine ⟨fun hg => ?_, fun hg => ?_, fun hg hno => ?_, fun hg had => ?_⟩
    · change exec c s = _
      rw [hexec, hnone hg]
      rfl
    · change exec c s = _
      rw [hexec, hin hg]
      rfl
    · change exec c s = _
      rw [hexec, hpend hg hno]
      rfl
    · obtain ⟨hhm, -⟩ := (s.withForce only).grantTo_spec h
      refine ⟨_, hexec.trans (congrArg _ (hmove hg had)), ?_⟩
      have hbase := (s.withForce only).grantTo_base h
      rw [hhm, hbase]
      refine ⟨rfl, rfl, rfl, rfl, rfl, fun he => ?_⟩
      obtain ⟨hlegs, hquays⟩ := State.grantTo_moved (s := s.withForce only) h he
      refine ⟨if_pos he, if_pos he, fun l x hx => ?_, hquays⟩
      have hx' : (s.withForce only).leg[l].standby = some x := hx
      rw [hlegs l, State.promote_leg, hx']
      exact ⟨rfl, rfl⟩

end Sys2Proof.Machine
end

section
/-! ### Bring-up and service of lanes and ports (R825 to R876) -/

namespace Sys2Proof.Machine

theorem vmod_vmod {α : Type} {n : Nat} (v : Vector α n) (i : Fin n) (f g : α → α) : vmod (vmod v i f) i g = vmod v i (fun x => g (f x)) := by
  unfold vmod
  rw [Vector.set_set]
  congr 2
  exact Vector.getElem_set_self _

theorem State.modLane_modLane (s : State) (n : LaneNo) (f g : Lane → Lane) : (s.modLane n f).modLane n g = s.modLane n (fun x => g (f x)) :=
  congrArg (fun v => { s with lane := v }) (vmod_vmod s.lane n f g)

/-! #### SIGNAL_DETECT, TRAIN_RETRY -/

/-- A lane in DOWN that may transmit (R840). -/
abbrev State.laneOpen (s : State) (n : LaneNo) : Prop := s.laneLive n = true ∧ s.lane[n].st = .down

/-- The 10 ms after a failed training have passed, where one failed (R846). -/
abbrev State.laneRested (s : State) (n : LaneNo) : Prop := ∀ u, s.lane[n].downAt = some u → u + 64000000 ≤ s.now

theorem State.laneRested_iff (s : State) (n : LaneNo) :
    (match s.lane[n].downAt with | some t => decide (t + us 10000 ≤ s.now) | none => true) = true ↔ s.laneRested n := by
  rw [State.laneRested]
  cases s.lane[n].downAt with
  | none => simp
  | some t =>
    simp only [decide_eq_true_eq, Option.some.injEq, forall_eq']
    exact Iff.rfl

/-- SIGNAL_DETECT trains a lane in DOWN that has rested, and does nothing else. -/
theorem execSignalDetect_cases (n : LaneNo) (s : State) :
    (s.laneOpen n → s.laneRested n → execSignalDetect n s = .next (s.modLane n (fun y => y.train s.now))) ∧
      (¬ (s.laneOpen n ∧ s.laneRested n) → execSignalDetect n s = .next s) := by
  have hrest := s.laneRested_iff n
  constructor
  · intro ho hr
    refine if_pos ?_
    rw [Bool.and_eq_true, Bool.and_eq_true, beq_iff_eq]
    exact ⟨ho, hrest.2 hr⟩
  · intro hno
    refine if_neg fun hc => ?_
    rw [Bool.and_eq_true, Bool.and_eq_true, beq_iff_eq] at hc
    exact hno ⟨hc.1, hrest.1 hc.2⟩

/-- TRAIN_RETRY trains it again where a training failed (R846). -/
theorem execTrainRetry_cases (n : LaneNo) (s : State) :
    (∀ u, s.lane[n].downAt = some u → s.laneOpen n → u + 64000000 ≤ s.now → execTrainRetry n s = .next (s.modLane n (fun y => y.train s.now))) ∧
      ((∀ u, s.lane[n].downAt = some u → ¬ (s.laneOpen n ∧ u + 64000000 ≤ s.now)) → execTrainRetry n s = .next s) := by
  constructor
  · intro u hu ho hl
    rw [execTrainRetry, hu]
    refine if_pos ?_
    rw [Bool.and_eq_true, Bool.and_eq_true, beq_iff_eq]
    exact ⟨ho, decide_eq_true hl⟩
  · intro hno
    unfold execTrainRetry
    split
    · next u hu =>
      refine if_neg fun hc => ?_
      rw [Bool.and_eq_true, Bool.and_eq_true, beq_iff_eq] at hc
      exact hno u hu ⟨hc.1, of_decide_eq_true hc.2⟩
    · rfl

/-! #### GW_PONG -/

theorem spreadOk_iff (rs : List Int) : spreadOk rs = true ↔ ∀ a ∈ rs, ∀ b ∈ rs, a - b ≤ 128 := by
  simp [spreadOk]

/-- The SEQ of a frame of a lane, noted (R829). -/
theorem execGwPong_of_aligning {n : LaneNo} {s : State} (h : s.lane[n].st = .aligning) (seq : Byte) (w : Word) :
    execGwPong n seq w s =
      let rs := s.lane[n].rs ++ [(s.now : Int) - s.lane[n].pingAt - w.toNat]
      if rs.length < 4 then .next (s.modLane n (fun x => { x.takeSeq seq with rs := rs, pingAt := s.now, tx := x.tx ++ [.ping] }))
      else if spreadOk rs && decide (delayOf rs ≤ gwDelayMax s n) then .next (s.modLane n (fun x => { x.takeSeq seq with
        st := .identifying, rs := [], delay := BitVec.ofInt 32 (delayOf rs), syncAt := s.now, identReqs := 1, identReqAt := s.now
        tx := x.tx ++ [.delay (delayOf rs).toNat, .sync s.now, .identReq] }))
      else .next (s.modLane n (fun x => { x.takeSeq seq with rs := [], pingAt := s.now, tx := x.tx ++ [.ping] })) := by
  rw [execGwPong, if_pos h]
  dsimp only
  rw [State.modLane_modLane, State.modLane_modLane, State.modLane_modLane]
  rfl

/-- Settles O36, by the state of the lane or port. -/
theorem lanesTrain : Obligations.LanesTrain := by
  refine ⟨fun n s => ?_, fun n s => ⟨?_, ?_⟩, fun p s => ⟨?_, ?_⟩, fun n seq w s => ?_⟩
  · intro trains open_
    obtain ⟨hdetect, hdetectNot⟩ := execSignalDetect_cases n s
    obtain ⟨hretry, hretryNot⟩ := execTrainRetry_cases n s
    refine ⟨fun ho hn => ⟨hdetect ho (fun u hu => nomatch hn.symm.trans hu), hretryNot (fun u hu => nomatch hn.symm.trans hu)⟩,
      fun u ho hu hl => ⟨hdetect ho fun v hv => ?_, hretry u hu ho hl⟩, fun u hu he => ⟨hdetectNot fun h => ?_, hretryNot fun v hv h => ?_⟩,
      fun hno => ⟨hdetectNot fun h => hno h.1, hretryNot fun u hu h => hno h.1⟩⟩
    · cases hu.symm.trans hv
      exact hl
    · exact absurd (h.2 u hu) (Nat.not_le.2 he)
    · cases hu.symm.trans hv
      exact absurd h.2 (Nat.not_le.2 he)
  · rw [exec, execRxOkSet]
    split <;> rfl
  · rw [exec, execTrainingComplete]
    split <;> rfl
  · have hcond : (s.afterStep10 && !(s.hw.ports.get p).up && !(s.hw.ports.get p).rxOk) = true ↔
        s.afterStep10 = true ∧ (s.hw.ports.get p).up = false ∧ (s.hw.ports.get p).rxOk = false := by
      simp only [Bool.and_eq_true, Bool.not_eq_true', and_assoc]
    rw [exec, execRxOkSet]
    dsimp only
    split
    · next h => rw [if_pos (hcond.1 h)]; rfl
    · next h => rw [if_neg (mt hcond.2 h)]
  · have hcond : ((s.hw.ports.get p).training && (s.hw.ports.get p).rxOk) = true ↔ (s.hw.ports.get p).training = true ∧ (s.hw.ports.get p).rxOk = true := by
      simp only [Bool.and_eq_true]
    rw [exec, execTrainingComplete]
    dsimp only
    split
    · next h => rw [if_pos (hcond.1 h)]; rfl
    · next h => rw [if_neg (mt hcond.2 h)]
  · intro x gaps rs close ends
    have hlen : rs.length = x.rs.length + 1 := by simp [rs]
    have hclose : (spreadOk rs && decide (delayOf rs ≤ gwDelayMax s n)) = true ↔ close := by
      rw [Bool.and_eq_true, spreadOk_iff, decide_eq_true_eq]
    refine ⟨fun h => if_neg h, fun h hl => ?_, fun h hl hc => ?_, fun h hl hc => ?_⟩
    · change execGwPong n seq w s = _
      rw [execGwPong_of_aligning h]
      exact if_pos (show rs.length < 4 by omega)
    · change execGwPong n seq w s = _
      rw [execGwPong_of_aligning h]
      exact (if_neg (show ¬ rs.length < 4 by omega)).trans (if_pos (hclose.2 hc))
    · change execGwPong n seq w s = _
      rw [execGwPong_of_aligning h]
      exact (if_neg (show ¬ rs.length < 4 by omega)).trans (if_neg (mt hclose.1 hc))

/-! #### GW_IDENT, IDENT_TIMEOUT, GW_TRAIN_FAIL -/

/-- The event entries that commands leave depend on ports and time alone. -/
theorem State.eventAll_port {s t : State} (hp : t.port = s.port) (hn : t.now = s.now) (os : List AcceptedOp) (st : Byte) (a : U16) (n : Nat) :
    (t.eventAll os st a n).port = (s.eventAll os st a n).port := by
  unfold State.eventAll
  induction os generalizing s t with
  | nil => exact hp
  | cons o os ih =>
    rw [forAll_cons, forAll_cons]
    refine ih ?_ hn
    rw [State.event, State.event, State.modPort, State.modPort, hp, hn]

/-- An identity fits the roster entry of its lane (R849, R850). -/
def State.identFits (s : State) (n : LaneNo) (i : Ident) : Prop :=
  ∃ e, s.rosterOf n = some e ∧ i.unitType.toNat = e.unitType ∧ i.legs.toNat = e.legs ∧ e.fwMin ≤ i.fwLevel.toNat ∧
    i.caps &&& e.capsReq = e.capsReq ∧ (e.serial = 0 ∨ i.serial = e.serial) ∧ (n.val < 16 → s.ownedSlots n ≤ i.legs.toNat)

theorem ite_eq_zero_iff {c : Prop} [Decidable c] {k : Nat} (hk : k ≠ 0) : (if c then k else 0) = 0 ↔ ¬ c := by
  by_cases h : c
  · simp [h, hk]
  · simp [h]

theorem State.identBits_eq_zero (s : State) (n : LaneNo) (i : Ident) : s.identBits n i = 0 ↔ s.identFits n i := by
  rw [State.identBits, State.identFits]
  cases s.rosterOf n with
  | none => simp
  | some e =>
    simp only [Nat.add_eq_zero_iff, ite_eq_zero_iff (Nat.succ_ne_zero _), ne_eq, not_not, not_lt, not_and, and_assoc, Option.some.injEq, exists_eq_left']
    refine and_congr_right fun _ => and_congr_right fun _ => and_congr_right fun _ => and_congr_right fun _ => and_congr_left fun _ => ?_
    exact Decidable.imp_iff_not_or.trans (or_congr_left not_not)

/-- The lane of a partner that has identified itself (R853). -/
def Lane.identified (x : Lane) (i : Ident) (st : LaneState) : Lane := { (x.takeSeq i.seq).identify i with attachOps := [], st := st }

section
variable {n : LaneNo} {i : Ident} {s : State}

theorem execGwIdent_of_fits (h : s.lane[n].st = .identifying) (hf : s.identFits n i) :
    execGwIdent n i s = .next (
      let s3 := (s.modLane n (fun x => x.identified i .attached)).eventAll s.lane[n].attachOps stDone 0 0
      if (s3.chopperLegsOn n).isEmpty then s3 else s3.sendLane n (.arm (s3.armEntries (s3.chopperLegsOn n) n))) := by
  rw [execGwIdent, if_pos h]
  dsimp only
  rw [if_pos ((s.identBits_eq_zero n i).2 hf), State.modLane_modLane]
  rfl

theorem execGwIdent_of_misfits (h : s.lane[n].st = .identifying) (hf : ¬ s.identFits n i) :
    execGwIdent n i s = .next (((s.modLane n (fun x => x.identified i .quarantined)).raiseLane srcGwQuarantine n
      (quarantineCtx n i (s.identBits n i))).eventAll s.lane[n].attachOps stRefused 0x0006 0) := by
  rw [execGwIdent, if_pos h]
  dsimp only
  rw [if_neg (mt (s.identBits_eq_zero n i).1 hf), State.modLane_modLane]
  rfl

end

theorem State.raiseLane_blank {ps : List Part} (s : State) (h : .transit ∈ ps) (src : Nat) (n : LaneNo) (ctx : Ctx) :
    (s.raiseLane src n ctx).blank ps = s.blank ps := s.raise_blank h _

/-- What a lane keeps while a frame is handed to its transmitter. -/
theorem State.sendLane_lane (s : State) (n m : LaneNo) (f : GwFrame) : ({ (s.sendLane n f).lane[m] with tx := [] } : Lane) = { s.lane[m] with tx := [] } :=
  (GatesOnly.sendLane s n f).lane m

/-- Settles the part of O37 about GW_IDENT, where the partner identifies itself. -/
theorem gwIdent_attaches {n : LaneNo} {i : Ident} {s : State} (h : s.lane[n].st = .identifying) : ∃ t, exec (.gwIdent n i) s = .next t ∧
    (∃ st tx, t.lane[n] = { s.lane[n].identified i st with tx := tx } ∧ (s.identFits n i → st = .attached) ∧
      (¬ s.identFits n i → st = .quarantined ∧ tx = s.lane[n].tx)) ∧
    (∀ m : LaneNo, m ≠ n → t.lane[m] = s.lane[m]) ∧
    (s.identFits n i → t.flt = s.flt ∧ t.port = (s.eventAll s.lane[n].attachOps 0x00 0 0).port) ∧
    (¬ s.identFits n i → Raised s t srcGwQuarantine (laneScope n) ∧ t.port = (s.eventAll s.lane[n].attachOps 0x10 0x0006 0).port) ∧
    t = { s with lane := t.lane, port := t.port, flt := t.flt } := by
  have hself : ∀ st, (s.modLane n (fun x => x.identified i st)).lane[n] = s.lane[n].identified i st := fun st => State.modLane_self s n _
  have hne : ∀ st, ∀ m : LaneNo, m ≠ n → (s.modLane n (fun x => x.identified i st)).lane[m] = s.lane[m] := fun st m hm => State.modLane_ne s _ (Ne.symm hm)
  by_cases hf : s.identFits n i
  · refine ⟨_, execGwIdent_of_fits h hf, ?_⟩
    have hport := State.eventAll_port (s := s) (t := s.modLane n (fun x => x.identified i .attached)) rfl rfl s.lane[n].attachOps stDone 0 0
    have hev := State.eq_take (ps := [.port]) (State.eventAll_blank (s.modLane n (fun x => x.identified i .attached)) (by simp) s.lane[n].attachOps stDone 0 0)
    dsimp only
    generalize (s.modLane n (fun x => x.identified i .attached)).eventAll s.lane[n].attachOps stDone 0 0 = u at hport hev ⊢
    have hlane : u.lane = (s.modLane n (fun x => x.identified i .attached)).lane := by rw [hev]; rfl
    have hlast : ∃ tx : Lane → List GwFrame, (if (u.chopperLegsOn n).isEmpty then u else u.sendLane n (.arm (u.armEntries (u.chopperLegsOn n) n))) =
        u.modLane n (fun x => { x with tx := tx x }) := by
      split
      · refine ⟨fun x => x.tx, ?_⟩
        have hid : vmod u.lane n (fun x => { x with tx := x.tx }) = u.lane := by
          refine Vector.ext fun j hj => ?_
          exact (vmod_get u.lane n ⟨j, hj⟩ _).trans (ite_self _)
        exact (congrArg (fun v => { u with lane := v }) hid).symm
      · exact ⟨fun x => x.tx ++ [.arm (u.armEntries (u.chopperLegsOn n) n)], rfl⟩
    obtain ⟨tx, htx⟩ := hlast
    rw [htx]
    refine ⟨⟨.attached, tx (s.lane[n].identified i .attached), ?_, fun _ => rfl, fun hc => absurd hf hc⟩, fun m hm => ?_, fun _ => ⟨by rw [hev]; rfl, hport⟩, fun hc => absurd hf hc, ?_⟩
    · rw [State.modLane_self, hlane, hself]
    · rw [State.modLane_ne _ _ (Ne.symm hm), hlane, hne _ m hm]
    · rw [hev]
      rfl
  · refine ⟨_, execGwIdent_of_misfits h hf, ?_⟩
    have hport := State.eventAll_port (s := s) (t := (s.modLane n (fun x => x.identified i .quarantined)).raiseLane srcGwQuarantine n
      (quarantineCtx n i (s.identBits n i))) rfl rfl s.lane[n].attachOps stRefused 0x0006 0
    have hev := State.eq_take (ps := [.port]) (State.eventAll_blank ((s.modLane n (fun x => x.identified i .quarantined)).raiseLane srcGwQuarantine n
      (quarantineCtx n i (s.identBits n i))) (by simp) s.lane[n].attachOps stRefused 0x0006 0)
    generalize ((s.modLane n (fun x => x.identified i .quarantined)).raiseLane srcGwQuarantine n
      (quarantineCtx n i (s.identBits n i))).eventAll s.lane[n].attachOps stRefused 0x0006 0 = u at hport hev ⊢
    have hlane : u.lane = (s.modLane n (fun x => x.identified i .quarantined)).lane := by rw [hev]; rfl
    refine ⟨⟨.quarantined, s.lane[n].tx, ?_, fun hc => absurd hc hf, fun _ => ⟨rfl, rfl⟩⟩, fun m hm => ?_, fun hc => absurd hc hf,
      fun _ => ⟨⟨_, by rw [hev]; rfl, rfl, rfl, rfl⟩, hport⟩, ?_⟩
    · rw [hlane, hself]
      rfl
    · rw [hlane, hne _ m hm]
    · rw [hev]
      rfl

/-- Settles the part of O37 about IDENT_TIMEOUT. -/
theorem identTimeout_repeats (n : LaneNo) (s : State) : exec (.identTimeout n) s = .next (if s.lane[n].st = .identifying ∧ s.lane[n].identReqAt + 6400000 ≤ s.now then
    { s with lane := s.lane.set n (if s.lane[n].identReqs < 3 then { s.lane[n] with
        identReqs := s.lane[n].identReqs + 1, identReqAt := s.now, tx := s.lane[n].tx ++ [.identReq] }
      else { s.lane[n] with st := .down, rxOk := false }) } else s) := by
  by_cases h : s.lane[n].st = .identifying ∧ s.lane[n].identReqAt + 6400000 ≤ s.now
  · rw [if_pos h]
    by_cases hk : s.lane[n].identReqs < 3
    · rw [if_pos hk]
      exact (if_pos h).trans (if_pos hk)
    · rw [if_neg hk]
      exact (if_pos h).trans (if_neg hk)
  · rw [if_neg h]
    exact if_neg h

/-- A lane whose bring-up has failed (R846). -/
def Lane.failed (x : Lane) (now : Nat) : Lane := { x with st := .down, rxOk := false, downAt := some now, attachOps := [] }

theorem execGwTrainFail_of_busy {n : LaneNo} {s : State} (hlate : s.lane[n].detectAt + 6400 * gwTrainTimeout s n ≤ s.now)
    (hb : s.lane[n].st = .training ∨ s.lane[n].st = .aligning ∨ s.lane[n].st = .identifying) :
    execGwTrainFail n s = .next (((s.modLane n (fun x => x.failed s.now)).raiseLane srcGwTrainFail n).eventAll s.lane[n].attachOps stRefused 0x0006 0) := by
  have hc : (decide (s.lane[n].detectAt + us (gwTrainTimeout s n) ≤ s.now) &&
      (s.lane[n].st == .training || s.lane[n].st == .aligning || s.lane[n].st == .identifying)) = true := by
    rw [decide_eq_true (show s.lane[n].detectAt + us (gwTrainTimeout s n) ≤ s.now from hlate)]
    obtain h | h | h := hb <;> rw [h] <;> rfl
  rw [execGwTrainFail, if_pos hc, State.modLane_modLane]
  rfl

/-- Settles the part of O37 about GW_TRAIN_FAIL. -/
theorem gwTrainFail_drops (n : LaneNo) (s : State) :
    (s.lane[n].detectAt + 6400 * gwTrainTimeout s n ≤ s.now → (s.lane[n].st = .training ∨ s.lane[n].st = .aligning ∨ s.lane[n].st = .identifying) →
      ∃ t, exec (.gwTrainFail n) s = .next t ∧
      t.lane = s.lane.set n { s.lane[n] with st := .down, rxOk := false, downAt := some s.now, attachOps := [] } ∧
      Raised s t srcGwTrainFail (laneScope n) ∧ t.port = (s.eventAll s.lane[n].attachOps 0x10 0x0006 0).port ∧
      t = { s with lane := t.lane, port := t.port, flt := t.flt }) ∧
    (s.lane[n].detectAt + 6400 * gwTrainTimeout s n ≤ s.now → s.lane[n].st = .down → s.lane[n].attachOps ≠ [] → exec (.gwTrainFail n) s = .next { s with
      lane := s.lane.set n { s.lane[n] with attachOps := [] }, port := (s.eventAll s.lane[n].attachOps 0x10 0x0006 0).port }) ∧
    (¬ s.lane[n].detectAt + 6400 * gwTrainTimeout s n ≤ s.now ∨ ¬ (s.lane[n].st = .training ∨ s.lane[n].st = .aligning ∨ s.lane[n].st = .identifying) ∧
      ¬ (s.lane[n].st = .down ∧ s.lane[n].attachOps ≠ []) → exec (.gwTrainFail n) s = .next s) := by
  refine ⟨fun hlate hb => ?_, fun hlate hd ho => ?_, fun h => ?_⟩
  · refine ⟨_, execGwTrainFail_of_busy hlate hb, ?_⟩
    have hport := State.eventAll_port (s := s) (t := (s.modLane n (fun x => x.failed s.now)).raiseLane srcGwTrainFail n) rfl rfl s.lane[n].attachOps stRefused 0x0006 0
    have hev := State.eq_take (ps := [.port]) (State.eventAll_blank ((s.modLane n (fun x => x.failed s.now)).raiseLane srcGwTrainFail n)
      (by simp) s.lane[n].attachOps stRefused 0x0006 0)
    generalize ((s.modLane n (fun x => x.failed s.now)).raiseLane srcGwTrainFail n).eventAll s.lane[n].attachOps stRefused 0x0006 0 = u at hport hev ⊢
    refine ⟨?_, ⟨_, by rw [hev]; rfl, rfl, rfl, rfl⟩, hport, ?_⟩ <;> rw [hev] <;> rfl
  · have hport := State.eventAll_port (s := s) (t := s.modLane n (fun y => { y with attachOps := [] })) rfl rfl s.lane[n].attachOps stRefused 0x0006 0
    have hev := State.eq_take (ps := [.port]) (State.eventAll_blank (s.modLane n (fun y => { y with attachOps := [] })) (by simp) s.lane[n].attachOps stRefused 0x0006 0)
    rw [exec, execGwTrainFail]
    dsimp only
    rw [if_neg (by rw [hd]; simp), if_pos (by rw [hd, decide_eq_true (show s.lane[n].detectAt + us (gwTrainTimeout s n) ≤ s.now from hlate)]; simpa using ho)]
    rw [hev, State.take, hport]
    rfl
  · have hno : ¬ (s.lane[n].detectAt + us (gwTrainTimeout s n) ≤ s.now) ∨ ¬ (s.lane[n].st = .training ∨ s.lane[n].st = .aligning ∨ s.lane[n].st = .identifying) ∧
        ¬ (s.lane[n].st = .down ∧ s.lane[n].attachOps ≠ []) := h
    rw [exec, execGwTrainFail, if_neg (by simp only [Bool.and_eq_true, decide_eq_true_eq, Bool.or_eq_true, beq_iff_eq, or_assoc]; tauto),
      if_neg (by simp only [Bool.and_eq_true, decide_eq_true_eq, beq_iff_eq, Bool.not_eq_true', List.isEmpty_eq_false_iff]; tauto)]

/-- Settles O37: each event in the state of the lane it is about, and without effect in the others. -/
theorem lanesIdentify : Obligations.LanesIdentify := by
  refine ⟨fun n i s => ?_, fun n s => identTimeout_repeats n s, fun n s => gwTrainFail_drops n s⟩
  refine ⟨fun h => if_neg h, fun h => ?_⟩
  obtain ⟨t, ht, ⟨st, tx, hl, hfit, hmis⟩, hne, hgood, hbad, hrest⟩ := gwIdent_attaches (i := i) h
  refine ⟨t, ht, ?_, ?_, ?_, ?_, ?_, ?_, ?_, ?_, hne, fun hf => ⟨?_, hgood hf⟩, fun hf => ⟨?_, ?_, hbad hf⟩, hrest⟩
  all_goals rw [hl]
  case refine_9 => exact hfit hf
  case refine_10 => exact (hmis hf).1
  case refine_11 => exact (hmis hf).2
  all_goals rfl

end Sys2Proof.Machine
end

section
namespace Sys2Proof.Machine

/-! ### The winding sets of a quay that R717 lets go -/

/-- The marks of dropped sets, with those of `js` set. -/
def markSets (v : Vector Bool 4) (js : List (Fin 4)) : Vector Bool 4 := js.foldl (fun (v : Vector Bool 4) (j : Fin 4) => v.set j true) v

theorem markSets_get (v : Vector Bool 4) (js : List (Fin 4)) (j : Fin 4) : (markSets v js)[j] = (v[j] || js.contains j) := by
  induction js generalizing v with
  | nil => simp [markSets]
  | cons k ks ih =>
    have hset : (v.set k true)[j] = (v[j] || j == k) := by
      by_cases hk : k = j
      · subst hk
        rw [beq_self_eq_true, Bool.or_true]
        exact Vector.getElem_set_self _
      · rw [beq_false_of_ne (Ne.symm hk), Bool.or_false]
        exact Vector.getElem_set_ne _ _ (Fin.val_ne_of_ne hk)
    rw [markSets, List.foldl_cons, ← markSets, ih, hset, List.contains_cons, Bool.or_assoc]

/-- A quay with the sets of `js` marked dropped, in the shadow's copy too. -/
def Quay.drop (x : Quay) (js : List (Fin 4)) : Quay :=
  { x with
    kern := { x.kern with reg := { x.kern.reg with dropped := markSets x.kern.reg.dropped js } }
    kernCopy := { x.kernCopy with reg := { x.kernCopy.reg with dropped := markSets x.kernCopy.reg.dropped js } } }

theorem State.dropSets_cons (s : State) (q : QuayNo) (j : Fin 4) (js : List (Fin 4)) :
    s.dropSets q (j :: js) = ((s.modQuay q (fun x => x.drop [j])).raiseQuay srcSetDropped q (instCtx j.val)).dropSets q js := rfl

@[simp] theorem State.dropSets_blank {ps : List Part} (s : State) (q : QuayNo) (js : List (Fin 4)) (h : .quayAt q ∈ ps ∨ .quay ∈ ps)
    (ht : .transit ∈ ps) : (s.dropSets q js).blank ps = s.blank ps :=
  foldl_blank s js _ fun t _ => (State.raise_blank _ ht _).trans (State.modQuay_blank t q h _)

theorem State.dropSets_self (s : State) (q : QuayNo) (js : List (Fin 4)) : (s.dropSets q js).quay[q] = s.quay[q].drop js := by
  induction js generalizing s with
  | nil => rfl
  | cons j js ih =>
    rw [State.dropSets_cons, ih]
    have hq : ((s.modQuay q (fun x => x.drop [j])).raiseQuay srcSetDropped q (instCtx j.val)).quay[q] = s.quay[q].drop [j] := State.modQuay_self s q _
    rw [hq]
    rfl

theorem State.dropSets_ne (s : State) {q p : QuayNo} (js : List (Fin 4)) (h : q ≠ p) : (s.dropSets q js).quay[p] = s.quay[p] := by
  induction js generalizing s with
  | nil => rfl
  | cons j js ih =>
    rw [State.dropSets_cons, ih]
    exact State.modQuay_ne s _ h

theorem State.dropSets_transit_subset (s : State) (q : QuayNo) (js : List (Fin 4)) : s.flt.transit ⊆ (s.dropSets q js).flt.transit := by
  induction js generalizing s with
  | nil => exact List.Subset.refl _
  | cons j js ih =>
    rw [State.dropSets_cons]
    exact List.Subset.trans (State.raise_transit_subset (s.modQuay q (fun x => x.drop [j])) _) (ih _)

theorem State.dropSets_raises (s : State) (q : QuayNo) {js : List (Fin 4)} (h : js ≠ []) :
    ∃ e ∈ (s.dropSets q js).flt.transit, e.src = srcSetDropped ∧ e.quays = [q] ∧ e.time = s.now := by
  obtain ⟨j, js, rfl⟩ := List.exists_cons_of_ne_nil h
  rw [State.dropSets_cons]
  exact ⟨_, State.dropSets_transit_subset _ q js (State.raise_mem _ _), rfl, rfl, rfl⟩

/-! ### The loss of a lane (R717 to R720, R857, R862) -/

/-- The sets of a quay that it can lose with a lane. -/
def State.setsLost (s : State) (n : LaneNo) (q : QuayNo) : List (Fin 4) :=
  s.droppable q (fun j => (s.setLegs q j.val).any (fun l => s.laneOf l == some n))

/-- What the loss of a lane does to a quay with legs on it: sets dropped, or GW_LANE_LOSS. -/
def State.loseLane (n : LaneNo) (s : State) (q : QuayNo) : State :=
  if (s.setsLost n q).isEmpty then s.raiseQuay srcGwLaneLoss q (instCtx n.val) else s.dropSets q (s.setsLost n q)

/-- Which sets are lost depends on the quay and on the configuration. -/
theorem State.setsLost_congr {s t : State} {n : LaneNo} {q : QuayNo} (h : t.blank [.quay, .transit] = s.blank [.quay, .transit])
    (hq : t.quay[q] = s.quay[q]) : t.setsLost n q = s.setsLost n q := by
  rw [State.eq_take h]
  change State.setsLost { s with quay := t.quay, flt := _ } n q = _
  simp only [State.setsLost, State.droppable, State.setActive, hq]
  rfl

section
variable (n : LaneNo) (s : State) (q : QuayNo)

@[simp] theorem State.loseLane_blank {ps : List Part} (h : .quayAt q ∈ ps ∨ .quay ∈ ps) (ht : .transit ∈ ps) : (s.loseLane n q).blank ps = s.blank ps := by
  unfold State.loseLane
  split
  · exact State.raise_blank _ ht _
  · exact State.dropSets_blank s q _ h ht

theorem State.loseLane_self : (s.loseLane n q).quay[q] = s.quay[q].drop (s.setsLost n q) := by
  unfold State.loseLane
  split
  next h => exact (congrArg s.quay[q].drop (List.isEmpty_iff.1 h)).symm
  next => exact State.dropSets_self s q _

theorem State.loseLane_ne {p : QuayNo} (h : q ≠ p) : (s.loseLane n q).quay[p] = s.quay[p] := by
  unfold State.loseLane
  split
  · rfl
  · exact State.dropSets_ne s _ h

theorem State.loseLane_transit_subset : s.flt.transit ⊆ (s.loseLane n q).flt.transit := by
  unfold State.loseLane
  split
  · exact List.subset_append_left _ _
  · exact State.dropSets_transit_subset s q _

theorem State.loseLane_raises : ∃ e ∈ (s.loseLane n q).flt.transit,
    e.src = (if (s.setsLost n q).isEmpty then srcGwLaneLoss else srcSetDropped) ∧ e.quays = [q] ∧ e.time = s.now := by
  unfold State.loseLane
  split
  · exact ⟨_, State.raise_mem _ _, rfl, rfl, rfl⟩
  next h => exact State.dropSets_raises s q (by simpa using h)

end

/-- The quays that the loss of a lane reaches: with legs on it, outside OFF, the lane ATTACHED. -/
def State.laneHit (s : State) (n : LaneNo) (q : QuayNo) : Bool := (s.laneQuays n).contains q && s.outsideOff q && s.lane[n].st == .attached

/-- The quays' side of a lane loss. -/
def State.loseQuays (s : State) (n : LaneNo) : State :=
  if s.lane[n].st = .attached then forAll ((s.laneQuays n).filter s.outsideOff) s (State.loseLane n) else s

@[simp] theorem State.loseQuays_blank {ps : List Part} (s : State) (n : LaneNo) (h : .quay ∈ ps) (ht : .transit ∈ ps) :
    (s.loseQuays n).blank ps = s.blank ps := by
  unfold State.loseQuays
  split
  · exact forAll_blank s _ _ fun t q => State.loseLane_blank n t q (.inr h) ht
  · rfl

theorem State.laneHit_iff {s : State} {n : LaneNo} {q : QuayNo} :
    s.laneHit n q = true ↔ q ∈ (s.laneQuays n).filter s.outsideOff ∧ s.lane[n].st = .attached := by
  rw [State.laneHit, Bool.and_eq_true, Bool.and_eq_true, List.contains_iff_mem, List.mem_filter, beq_iff_eq]

theorem State.laneQuays_nodup (s : State) (n : LaneNo) : (s.laneQuays n).Nodup := by
  rw [State.laneQuays, State.quaysWithLeg]
  exact (List.nodup_finRange 12).filter _

/-- A quay that is hit loses its sets; another stays as it is. -/
theorem State.loseQuays_quay (s : State) (n : LaneNo) (q : QuayNo) :
    (s.loseQuays n).quay[q] = s.quay[q].drop (if s.laneHit n q then s.setsLost n q else []) := by
  by_cases hit : s.laneHit n q = true
  · obtain ⟨hq, hst⟩ := State.laneHit_iff.1 hit
    rw [if_pos hit, State.loseQuays, if_pos hst]
    obtain ⟨t, ht, hsame, hlast⟩ := forAll_observe (P := fun t => t.blank [.quay, .transit] = s.blank [.quay, .transit])
      ((s.laneQuays_nodup n).filter _) hq (fun t => t.quay[q]) (f := State.loseLane n) rfl
      (fun t ht b _ => by simpa using ht) (fun t _ b _ hb => State.loseLane_ne n t b hb)
    rw [hlast, State.loseLane_self, hsame, State.setsLost_congr ht hsame]
  · rw [if_neg hit, State.loseQuays]
    split
    next hst =>
      exact forAll_keeps (P := fun t => t.quay[q] = s.quay[q]) rfl fun t ht b hb =>
        (State.loseLane_ne n t b fun (e : b = q) => hit (State.laneHit_iff.2 ⟨e ▸ hb, hst⟩)).trans ht
    · rfl

theorem State.loseQuays_raises {s : State} {n : LaneNo} {q : QuayNo} (hit : s.laneHit n q = true) : ∃ e ∈ (s.loseQuays n).flt.transit,
    e.src = (if (s.setsLost n q).isEmpty then srcGwLaneLoss else srcSetDropped) ∧ e.quays = [q] ∧ e.time = s.now := by
  obtain ⟨hq, hst⟩ := State.laneHit_iff.1 hit
  obtain ⟨pre, post, hl⟩ := List.append_of_mem hq
  have hn := (s.laneQuays_nodup n).filter s.outsideOff
  rw [hl] at hn
  obtain ⟨-, -, hdis⟩ := List.nodup_append.1 hn
  have hpre : (forAll pre s (State.loseLane n)).blank [.quay, .transit] = s.blank [.quay, .transit] ∧ (forAll pre s (State.loseLane n)).quay[q] = s.quay[q] :=
    forAll_keeps (P := fun t => t.blank [.quay, .transit] = s.blank [.quay, .transit] ∧ t.quay[q] = s.quay[q]) ⟨rfl, rfl⟩ fun t ht b hb =>
      ⟨by simpa using ht.1, (State.loseLane_ne n t b fun e => hdis b hb q List.mem_cons_self e).trans ht.2⟩
  obtain ⟨e, he, hsrc, hqs, htime⟩ := State.loseLane_raises n (forAll pre s (State.loseLane n)) q
  rw [State.setsLost_congr hpre.1 hpre.2] at hsrc
  rw [State.loseQuays, if_pos hst, hl, forAll_append, forAll_cons]
  refine ⟨e, ?_, hsrc, hqs, htime.trans (congrArg TimeBase.now (State.tb_of_blank hpre.1 (by simp)) :)⟩
  exact forAll_transit_subset (fun t b _ => State.loseLane_transit_subset n t b) he

/-- Disarming a list of legs. -/
theorem forAll_disarm (ls : List LegNo) (s : State) (l : LegNo) :
    (forAll ls s (fun t k => t.modLeg k (fun y => { y with armed := false }))).leg[l] = { s.leg[l] with armed := s.leg[l].armed && !ls.contains l } := by
  induction ls generalizing s with
  | nil => exact congrArg (fun b => ({ s.leg[l] with armed := b } : Leg)) (Bool.and_true _).symm
  | cons k ks ih =>
    rw [forAll_cons, ih, List.contains_cons]
    by_cases hk : k = l
    · subst hk
      rw [State.modLeg_self, beq_self_eq_true]
      simp
    · rw [State.modLeg_ne s _ hk, beq_false_of_ne (Ne.symm hk), Bool.false_or]

theorem execLaneLoss_of_live {n : LaneNo} {s : State} (hd : s.lane[n].st ≠ .down) (hx : s.lane[n].st ≠ .detached) :
    execLaneLoss n s = .next ((forAll (s.legsOnLane n) ((s.loseQuays n).modLane n (fun y =>
      { y with st := .down, rxOk := false, rxSeq := none, timeOk := false, losses := y.losses + 1 }))
        (fun t l => t.modLeg l (fun y => { y with armed := false }))).raiseLane srcGwLinkDown n) :=
  (if_neg (by rintro (h | h); exacts [hx h, hd h])).trans rfl

/-- Settles the part of O38 about LANE_LOSS. -/
theorem laneLoss_drops {n : LaneNo} {s : State} (hd : s.lane[n].st ≠ .down) (hx : s.lane[n].st ≠ .detached) : ∃ t, exec (.laneLoss n) s = .next t ∧
    t.lane = s.lane.set n { s.lane[n] with st := .down, rxOk := false, rxSeq := none, timeOk := false, losses := s.lane[n].losses + 1 } ∧
    (∀ l : LegNo, t.leg[l] = { s.leg[l] with armed := s.leg[l].armed && !(s.legsOnLane n).contains l }) ∧
    (∃ e ∈ t.flt.transit, e.src = srcGwLinkDown ∧ e.scope = laneScope n ∧ e.time = s.now) ∧
    (∀ q, s.laneHit n q = true → ∃ e ∈ t.flt.transit,
      e.src = (if (s.setsLost n q).isEmpty then srcGwLaneLoss else srcSetDropped) ∧ e.quays = [q] ∧ e.time = s.now) ∧
    (∀ q : QuayNo, t.quay[q] = s.quay[q].drop (if s.laneHit n q then s.setsLost n q else [])) ∧
    t = { s with lane := t.lane, leg := t.leg, quay := t.quay, flt := { s.flt with transit := t.flt.transit } } := by
  have hb : (s.loseQuays n).blank [.quay, .transit] = s.blank [.quay, .transit] := State.loseQuays_blank s n (by simp) (by simp)
  have hraises := fun q => State.loseQuays_raises (s := s) (n := n) (q := q)
  have hquay := State.loseQuays_quay s n
  refine ⟨_, execLaneLoss_of_live hd hx, ?_⟩
  generalize s.loseQuays n = u at hb hraises hquay ⊢
  have hleg := forAll_disarm (s.legsOnLane n) (u.modLane n (fun y =>
      { y with st := .down, rxOk := false, rxSeq := none, timeOk := false, losses := y.losses + 1 }))
  have hls := forAll_blank_of_mem (ps := [.leg]) (u.modLane n (fun y =>
      { y with st := .down, rxOk := false, rxSeq := none, timeOk := false, losses := y.losses + 1 })) (s.legsOnLane n)
        (fun t l => t.modLeg l (fun y => { y with armed := false })) fun t l _ => by simp
  generalize forAll (s.legsOnLane n) _ _ = v at hleg hls ⊢
  have hu := State.eq_take hb
  have hv := State.eq_take hls
  have hvu : v = { u with lane := v.lane, leg := v.leg } := by
    rw [hv]
    rfl
  have hnow : v.now = s.now := by
    rw [hv, hu]
    rfl
  have htr : v.flt.transit = u.flt.transit := by
    rw [hv]
    rfl
  have hmem : ∀ {e}, e ∈ u.flt.transit → e ∈ (v.raiseLane srcGwLinkDown n).flt.transit := fun he =>
    State.raise_transit_subset v _ (htr ▸ he)
  refine ⟨?_, fun l => ?_, ⟨_, State.raise_mem _ _, rfl, rfl, hnow⟩, fun q hq => ?_, fun q => ?_, ?_⟩
  · change v.lane = _
    rw [hv, hu]
    rfl
  · exact (hleg l).trans (by rw [hu]; rfl)
  · obtain ⟨e, he, h⟩ := hraises q hq
    exact ⟨e, hmem he, h⟩
  · refine Eq.trans ?_ (hquay q)
    rw [hvu]
    rfl
  · rw [hvu, hu]
    rfl

theorem Quay.drop_dropped (x : Quay) (js : List (Fin 4)) : x.drop js = { x with
    kern := { x.kern with reg := { x.kern.reg with dropped := (x.drop js).kern.reg.dropped } }
    kernCopy := { x.kernCopy with reg := { x.kernCopy.reg with dropped := (x.drop js).kernCopy.reg.dropped } } } := rfl

/-- Settles O38: SYNC by its condition, a discarded frame by its reason, a lost lane by `laneLoss_drops`. -/
theorem lanesServe : Obligations.LanesServe := by
  refine ⟨fun n s => ?_, fun n r s => ⟨fun h => ?_, fun h => ?_⟩, fun n s => ⟨fun h => if_pos h.symm, fun hd hx => ?_⟩⟩
  · by_cases h : (s.lane[n].st = .attached ∨ s.lane[n].st = .quarantined) ∧ s.lane[n].syncAt + 6400 * gwSyncPeriod s n ≤ s.now
    · rw [if_pos h]
      exact if_pos h
    · rw [if_neg h]
      exact if_neg h
  · obtain ⟨hlive, hd, hx⟩ := h
    refine ⟨_, if_pos (by simp only [Bool.and_eq_true, bne_iff_ne]; exact ⟨⟨hlive, hd⟩, hx⟩), rfl, ⟨_, rfl, rfl, rfl, rfl⟩, rfl⟩
  · exact if_neg (by simp only [Bool.and_eq_true, bne_iff_ne, and_assoc]; exact h)
  · obtain ⟨t, ht, hlane, hleg, hdown, hhit, hquay, hrest⟩ := laneLoss_drops hd hx
    refine ⟨t, ht, hlane, hleg, hdown, fun q hq hg => ?_, fun q hq hg => ?_, fun q j => ?_, fun q => ?_, hrest⟩
    · obtain ⟨e, he, hsrc, h⟩ := hhit q hq
      exact ⟨e, he, hsrc.trans (if_pos (List.isEmpty_iff.2 hg)), h⟩
    · obtain ⟨e, he, hsrc, h⟩ := hhit q hq
      exact ⟨e, he, hsrc.trans (if_neg (mt List.isEmpty_iff.1 hg)), h⟩
    · rw [hquay q]
      refine (markSets_get _ _ j).trans (congrArg (s.quay[q].kern.reg.dropped[j] || ·) ?_)
      change _ = (s.laneHit n q && (s.setsLost n q).contains j)
      cases s.laneHit n q <;> rfl
    · rw [hquay q]
      exact Quay.drop_dropped _ _

end Sys2Proof.Machine
end

section
namespace Sys2Proof.Machine

/-! ### GW_STATUS (R58, R835 to R838): what flags do, what an entry gives, what a snapshot takes -/

/-- A leg without what its flags and reactions move: latch, reaction, suspect, boot voltage. -/
def Leg.measures (x : Leg) : Leg :=
  { x with latch := none, latchWait := false, latchRecs := [], react := none, suspect := 0, vboot := 0 }

/-- What the entries of a status frame leave: all but quays, legs, supplies and faults on their way, and the snapshots. -/
structure Entered (s t : State) : Prop where
  rest : t.blank [.quay, .leg, .supply, .transit] = s.blank [.quay, .leg, .supply, .transit]
  form : ∀ q : QuayNo, t.quay[q].form = s.quay[q].form

/-- What the flags of an entry leave besides: measured values, latches in state OFF, and the faults raised before. -/
structure Flagged (s t : State) : Prop extends Entered s t where
  measures : ∀ l : LegNo, t.leg[l].measures = s.leg[l].measures
  latch : ∀ l : LegNo, s.leg[l].latch = some .off → t.leg[l].latch = some .off
  transit : s.flt.transit ⊆ t.flt.transit

namespace Entered
variable {s t u : State}

theorem refl (s : State) : Entered s s := ⟨rfl, fun _ => rfl⟩

theorem trans (h : Entered s t) (k : Entered t u) : Entered s u := ⟨k.rest.trans h.rest, fun q => (k.form q).trans (h.form q)⟩

theorem modLeg (s : State) (l : LegNo) (f : Leg → Leg) : Entered s (s.modLeg l f) := ⟨State.modLeg_blank s l (by simp) f, fun _ => rfl⟩

end Entered

namespace Flagged
variable {s t u : State}

theorem refl (s : State) : Flagged s s := ⟨.refl s, fun _ => rfl, fun _ h => h, List.Subset.refl _⟩

theorem trans (h : Flagged s t) (k : Flagged t u) : Flagged s u :=
  ⟨h.toEntered.trans k.toEntered, fun l => (k.measures l).trans (h.measures l), fun l hl => k.latch l (h.latch l hl), List.Subset.trans h.transit k.transit⟩

theorem ite {c : Prop} [Decidable c] (h : Flagged s t) (k : Flagged s u) : Flagged s (if c then t else u) := by
  split
  · exact h
  · exact k

theorem raise (s : State) (e : FaultEvent) : Flagged s (s.raise e) :=
  ⟨⟨State.raise_blank s (by simp) e, fun _ => rfl⟩, fun _ => rfl, fun _ h => h, s.raise_transit_subset e⟩

theorem modLeg (s : State) (l : LegNo) {f : Leg → Leg} (hm : ∀ x, (f x).measures = x.measures) (hf : ∀ x, x.latch = some .off → (f x).latch = some .off) :
    Flagged s (s.modLeg l f) := by
  refine ⟨.modLeg s l f, fun k => ?_, fun k hk => ?_, List.Subset.refl _⟩
  · by_cases h : l = k
    · subst h
      rw [State.modLeg_self, hm]
    · rw [State.modLeg_ne s f h]
  · by_cases h : l = k
    · subst h
      rw [State.modLeg_self]
      exact hf _ hk
    · rw [State.modLeg_ne s f h]
      exact hk

theorem forAll {α : Type} (xs : List α) (s : State) {f : State → α → State} (hf : ∀ t, ∀ b ∈ xs, Flagged t (f t b)) : Flagged s (Machine.forAll xs s f) :=
  forAll_keeps (P := Flagged s) (.refl s) fun t ht b hb => ht.trans (hf t b hb)

theorem modQuay (s : State) (q : QuayNo) {f : Quay → Quay} (hf : ∀ x, (f x).form = x.form) : Flagged s (s.modQuay q f) := by
  refine ⟨⟨State.modQuay_blank s q (by simp) f, fun p => ?_⟩, fun _ => rfl, fun _ h => h, List.Subset.refl _⟩
  by_cases h : q = p
  · subst h
    rw [State.modQuay_self, hf]
  · rw [State.modQuay_ne s f h]

theorem latchOff (s : State) (l : LegNo) : Flagged s (s.latchOff l) := modLeg s l (fun _ => rfl) fun _ _ => rfl

theorem raiseLeg (s : State) (src : Nat) (l : LegNo) (suspect : Nat) (ctx : Ctx) (latched : List LegNo) : Flagged s (s.raiseLeg src l suspect ctx latched) := by
  unfold State.raiseLeg
  split
  · refine Flagged.trans ?_ (raise _ _)
    exact modLeg s l (fun _ => rfl) fun _ h => h
  · exact refl s

theorem raiseChopper (s : State) (src : Nat) (c : ChopperRef) (ctx : Ctx) (latched : List LegNo) : Flagged s (s.raiseChopper src c ctx latched) := raise s _

theorem reactLegs (s : State) (q : QuayNo) (latch : Bool) : Flagged s (s.reactLegs q 4 latch none) := by
  rw [State.reactLegs_eq]
  refine forAll _ s fun t l _ => modLeg t l (fun x => ?_) fun x hx => Leg.blocked_latch latch hx
  unfold Leg.blocked
  split <;> rfl

theorem ascTrip (s : State) (q : QuayNo) (l : LegNo) (suspect : Nat) (current : Int) : Flagged s (s.ascTrip q l suspect current) := by
  refine ite ?_ (refl s)
  refine Flagged.trans (Flagged.trans (Flagged.trans ?_ (reactLegs _ q _)) (forAll _ _ fun t m _ => ?_)) (raiseLeg _ _ _ _ _ _)
  · exact modQuay s q fun _ => rfl
  · exact modLeg t m (fun _ => rfl) fun _ h => h

theorem dropSets (s : State) (q : QuayNo) (js : List (Fin 4)) : Flagged s (s.dropSets q js) :=
  forAll js s fun t _ _ => Flagged.trans (by exact modQuay t q fun _ => rfl) (raise _ _)

/-- The flags of an entry (R766, R786); the short of a phase leg with no short circuit of its quay in force is raised at once. -/
theorem entryFlags (s : State) (l : LegNo) (old : Leg) (e : StatusEntry) : Flagged s (s.entryFlags l old e) ∧
    (∀ r, e.short = true → old.short = false → s.isChopperLeg l = false → s.legQuay l = some r → s.inAsc r = false →
      ∃ sp ctx, Flagged ((s.latchOff l).raiseLeg srcGuShort l sp ctx [l]) (s.entryFlags l old e)) := by
  unfold State.entryFlags
  extract_lets chop cur asc sp t s1 s2 s3
  have ht : Flagged s t := (latchOff s l).trans (raiseLeg _ _ _ _ _ _)
  have h1 : Flagged s s1 := by
    refine ite (ite ((latchOff s l).trans (raiseChopper _ _ _ _ _)) ?_) (refl s)
    refine ht.trans ?_
    split
    · exact ascTrip _ _ _ _ _
    · exact refl _
  have h12 : Flagged s1 s2 := ite (raiseLeg _ _ _ _ _ _) (refl _)
  have h23 : Flagged s2 s3 := ite (raiseLeg _ _ _ _ _ _) (refl _)
  refine ⟨(h1.trans (h12.trans h23)).trans ?_, fun r hs ho hc hr ha => ⟨sp, _, Flagged.trans (?_ : Flagged t s1) ((h12.trans h23).trans ?_)⟩⟩
  case refine_2 =>
    have hs1 : s1 = t.ascTrip r l sp cur := by
      refine (if_pos (by rw [hs, ho]; rfl)).trans ((if_neg (by rw [show chop = false from hc]; simp)).trans ?_)
      rw [hr]
    rw [hs1]
    exact ascTrip _ _ _ _ _
  all_goals
    refine ite (ite ((latchOff _ l).trans (raiseChopper _ _ _ _ _)) ?_) (refl _)
    split
    · exact refl _
    · exact ite (dropSets _ _ _) (ite (refl _) (raiseLeg _ _ _ _ _ _))

theorem internalBlock (s : State) (n : LaneNo) (b : InternalBlock) : Flagged s (s.internalBlock n b) := by
  unfold State.internalBlock
  have hvm : ∀ d : DieNo, Flagged s (s.modSupply (fun x => { x with vm := x.vm.set d (b.vm.toNat : Rat) })) := fun d =>
    ⟨⟨State.modSupply_blank s (by simp) _, fun _ => rfl⟩, fun _ => rfl, fun _ h => h, List.Subset.refl _⟩
  refine (hvm _).trans (forAll b.vboot _ fun t e _ => ?_)
  split
  · exact modLeg t _ (fun _ => rfl) fun _ h => h
  · exact refl t

end Flagged

section
variable {s : State} {n : LaneNo} {e : StatusEntry}

theorem State.statusEntry_of_slot {l : LegNo} (h : s.slotLeg n e.slot.toNat = some l) :
    s.statusEntry n e = if n.val < 16 then (s.takeEntry n l e).entryFlags l s.leg[l] e else s.takeEntry n l e := by
  rw [State.statusEntry, h]

theorem State.statusEntry_of_none (h : s.slotLeg n e.slot.toNat = none) : s.statusEntry n e = s := by
  rw [State.statusEntry, h]

theorem State.statusEntry_flagged {l : LegNo} (h : s.slotLeg n e.slot.toNat = some l) : Flagged (s.takeEntry n l e) (s.statusEntry n e) := by
  rw [State.statusEntry_of_slot h]
  exact Flagged.ite (Flagged.entryFlags _ _ _ _).1 (.refl _)

theorem State.statusEntry_entered (s : State) (n : LaneNo) (e : StatusEntry) : Entered s (s.statusEntry n e) := by
  cases h : s.slotLeg n e.slot.toNat with
  | none =>
    rw [State.statusEntry_of_none h]
    exact .refl s
  | some l => exact (Entered.modLeg s l _).trans (State.statusEntry_flagged h).toEntered

/-- The entry of a slot gives its leg the armed flag, the current and the phase voltage (R765, R766). -/
theorem State.statusEntry_values {l : LegNo} (h : s.slotLeg n e.slot.toNat = some l) :
    (s.statusEntry n e).leg[l].armed = e.armed ∧ (s.statusEntry n e).leg[l].current = s.entryCurrent n l e.current ∧
      (s.statusEntry n e).leg[l].vphase = s.entryVolts n e.volts := by
  have hm := (State.statusEntry_flagged h).measures l
  have hself := State.modLeg_self s l (fun x => { x with
    armed := e.armed, short := e.short, supply := e.supply, overtemp := e.overtemp, trip := e.trip
    current := s.entryCurrent n l e.current, vphase := s.entryVolts n e.volts
    temp := if n.val < 16 then e.temp.toInt else x.temp, derate := (e.derate.toNat : Rat) / 255 })
  rw [State.takeEntry, hself] at hm
  exact ⟨(congrArg Leg.armed hm :), (congrArg Leg.current hm :), (congrArg Leg.vphase hm :)⟩

/-- A SHORT flag that goes from clear to set on a phase leg of an external lane (R786). -/
theorem State.statusEntry_short {l : LegNo} {r : QuayNo} (h : s.slotLeg n e.slot.toNat = some l) (hn : n.val < 16) (hs : e.short = true)
    (ho : s.leg[l].short = false) (hc : s.isChopperLeg l = false) (hr : s.legQuay l = some r) (ha : s.inAsc r = false) :
    (s.statusEntry n e).leg[l].latch = some .off ∧ ∃ x ∈ (s.statusEntry n e).flt.transit, x.src = srcGuShort ∧ x.quays = [r] ∧ x.time = s.now := by
  rw [State.statusEntry_of_slot h, if_pos hn]
  obtain ⟨sp, ctx, hf⟩ := (Flagged.entryFlags (s.takeEntry n l e) l s.leg[l] e).2 r hs ho hc hr ha
  obtain ⟨hraise, -, -, -⟩ := ((s.takeEntry n l e).latchOff l).raiseLeg_spec srcGuShort l sp ctx [l]
  obtain ⟨-, x, hx, hsrc, hqs, -, htime⟩ := hraise r hr
  refine ⟨hf.latch l ?_, x, hf.transit ?_, hsrc, hqs, htime⟩
  · rw [(State.raiseLeg_latch _ _ _ _ _ _ l).1, State.latchOff, State.modLeg_self]
  · rw [hx]
    exact List.mem_append_right _ (List.mem_singleton_self x)

end

/-! ### What the snapshots of a lane's quays take (R835) -/

theorem mem_setKey_of_mem {α β : Type} [DecidableEq α] {xs : List (α × β)} {k l : α} {v : α → β} (h : l = k ∨ (l, v l) ∈ xs) : (l, v l) ∈ setKey xs k (v k) := by
  by_cases hk : l = k
  · subst hk
    exact List.mem_cons_self
  · exact List.mem_cons_of_mem _ (List.mem_filter.2 ⟨h.resolve_left hk, decide_eq_true hk⟩)

theorem mem_foldl_setKey {α β : Type} [DecidableEq α] {ls : List α} {xs : List (α × β)} {l : α} {v : α → β} (h : l ∈ ls ∨ (l, v l) ∈ xs) :
    (l, v l) ∈ ls.foldl (fun m k => setKey m k (v k)) xs := by
  induction ls generalizing xs with
  | nil => exact h.resolve_left List.not_mem_nil
  | cons k ks ih =>
    refine ih ?_
    obtain h | h := h
    · exact (List.mem_cons.1 h).symm.imp_right fun hk => mem_setKey_of_mem (.inl hk)
    · exact .inr (mem_setKey_of_mem (.inr h))

/-- The snapshot of a quay when the input of a lane arrives. -/
def State.withLane (s : State) (q : QuayNo) (n : LaneNo) (x : Snapshot) : Snapshot :=
  if x.isOpen then s.takeLane q n { x with missing := x.missing.filter (· != .lane n) } else x

theorem State.laneArrives_self (s : State) (q : QuayNo) (n : LaneNo) :
    (s.inputArrived q (.lane n) (s.takeLane q n)).quay[q].form = s.withLane q n s.quay[q].form := by
  rw [State.inputArrived, State.modQuay_self, State.withLane]
  split <;> rfl

theorem State.laneArrives_ne (s : State) {q p : QuayNo} (n : LaneNo) (h : q ≠ p) :
    (s.inputArrived q (.lane n) (s.takeLane q n)).quay[p] = s.quay[p] := State.modQuay_ne s _ h

theorem State.mem_sampleMatches {s : State} {n : LaneNo} {w : Word} {q : QuayNo} : q ∈ s.sampleMatches n w ↔
    q ∈ s.laneQuays n ∧ s.quay[q].form.time ≠ 0 ∧ BitVec.ofNat 32 s.quay[q].form.time = w := by
  rw [State.sampleMatches, List.mem_filter, Bool.and_eq_true, bne_iff_ne, beq_iff_eq]

/-- The input of a lane reaches the quays of a list. -/
def State.laneArrives (s : State) (n : LaneNo) (qs : List QuayNo) : State := forAll qs s (fun t q => t.inputArrived q (.lane n) (t.takeLane q n))

@[simp] theorem State.laneArrives_blank {ps : List Part} (s : State) (n : LaneNo) (qs : List QuayNo) (h : .quay ∈ ps) :
    (s.laneArrives n qs).blank ps = s.blank ps := forAll_blank s qs _ fun t q => State.modQuay_blank t q (.inr h) _

theorem State.laneArrives_form (s : State) (n : LaneNo) {qs : List QuayNo} (hn : qs.Nodup) (q : QuayNo) :
    (s.laneArrives n qs).quay[q].form = if q ∈ qs then s.withLane q n s.quay[q].form else s.quay[q].form := by
  split
  next hq =>
    obtain ⟨t, ht, hsame, hlast⟩ := forAll_observe (P := fun t => t.blank [.quay] = s.blank [.quay]) hn hq (fun t => t.quay[q].form)
      (f := fun t q => t.inputArrived q (.lane n) (t.takeLane q n)) rfl
      (fun t ht b _ => (State.modQuay_blank t b (by simp) _).trans ht) (fun t _ b _ hb => congrArg Quay.form (State.laneArrives_ne t n hb))
    rw [State.laneArrives, hlast, State.laneArrives_self, hsame]
    rw [State.eq_take ht]
    rfl
  next hq =>
    exact forAll_keeps (P := fun t => t.quay[q].form = s.quay[q].form) rfl fun t ht b hb =>
      (congrArg Quay.form (State.laneArrives_ne t n fun (e : b = q) => hq (e ▸ hb))).trans ht

/-! ### O39 -/

/-- The device as a matched status frame finds it: SEQ, TIME_OK and the DC link taken over, GW_TIME raised where TIME_OK is lost. -/
def State.statusHead (s : State) (n : LaneNo) (f : StatusFrame) : State :=
  let u := (s.modLane n (fun x => x.takeSeq f.seq)).modLane n (fun x => { x with
    timeOk := f.timeOk, dcMv := if f.dcValid then f.udc.toNat * x.uLsb.toNat else x.dcMv })
  if s.lane[n].timeOk && !f.timeOk then forAll ((s.laneQuays n).filter s.outsideOff) u (fun t q => t.raiseQuay srcGwTime q (instCtx n.val)) else u

theorem State.statusHead_spec (s : State) (n : LaneNo) (f : StatusFrame) : (s.statusHead n f).blank [.lane, .transit] = s.blank [.lane, .transit] ∧
    (s.statusHead n f).lane[n] = { s.lane[n].takeSeq f.seq with
      timeOk := f.timeOk, dcMv := if f.dcValid then f.udc.toNat * s.lane[n].uLsb.toNat else s.lane[n].dcMv } := by
  have hu : ((s.modLane n (fun x => x.takeSeq f.seq)).modLane n (fun x => { x with
      timeOk := f.timeOk, dcMv := if f.dcValid then f.udc.toNat * x.uLsb.toNat else x.dcMv })).lane[n] = { s.lane[n].takeSeq f.seq with
      timeOk := f.timeOk, dcMv := if f.dcValid then f.udc.toNat * s.lane[n].uLsb.toNat else s.lane[n].dcMv } := by
    rw [State.modLane_self, State.modLane_self]
    rfl
  unfold State.statusHead
  dsimp only
  split
  · refine ⟨by simp [State.raiseQuay], ?_⟩
    exact forAll_keeps (P := fun t => t.lane[n] = _) hu fun t ht _ _ => ht
  · exact ⟨by simp, hu⟩

/-- The internal part of a status frame, where it has one and its lane is internal. -/
def State.internalPart (s : State) (n : LaneNo) (f : StatusFrame) : State :=
  match f.internal with
  | some b => if 16 ≤ n.val then s.internalBlock n b else s
  | none => s

theorem State.internalPart_flagged (s : State) (n : LaneNo) (f : StatusFrame) : Flagged s (s.internalPart n f) := by
  unfold State.internalPart
  split
  · exact .ite (.internalBlock s n _) (.refl s)
  · exact .refl s

/-- The device after the entries of a status frame and its internal part. -/
def State.statusRead (s : State) (n : LaneNo) (f : StatusFrame) : State :=
  (f.entries.foldl (fun t e => t.statusEntry n e) (s.statusHead n f)).internalPart n f

theorem State.entries_entered (s : State) (n : LaneNo) (es : List StatusEntry) : Entered s (es.foldl (fun t e => t.statusEntry n e) s) :=
  forAll_keeps (P := Entered s) (.refl s) fun t ht e _ => ht.trans (t.statusEntry_entered n e)

theorem State.statusRead_entered (s : State) (n : LaneNo) (f : StatusFrame) : Entered (s.statusHead n f) (s.statusRead n f) :=
  (State.entries_entered _ n f.entries).trans (State.internalPart_flagged _ n f).toEntered

theorem execGwStatus_of_match {n : LaneNo} {f : StatusFrame} {s : State} (h : s.lane[n].st = .attached) (hm : s.sampleMatches n f.sampleTime ≠ []) :
    execGwStatus n f s = .next (s.syncLegs ((s.statusRead n f).laneArrives n (s.sampleMatches n f.sampleTime))) := by
  rw [execGwStatus, if_pos h]
  dsimp only
  rw [if_neg (mt List.isEmpty_iff.1 hm)]
  rfl

theorem execGwStatus_of_stray {n : LaneNo} {f : StatusFrame} {s : State} (h : s.lane[n].st = .attached) (hm : s.sampleMatches n f.sampleTime = []) :
    execGwStatus n f s = .next ((s.modLane n (fun x => x.takeSeq f.seq)).modLane n (fun x => { x with stray := x.stray + 1 })) := by
  rw [execGwStatus, if_pos h]
  dsimp only
  rw [if_pos (List.isEmpty_iff.2 hm)]

/-- What the reading of an entry asks of the device: its slot, its units and the owner of its leg. -/
theorem State.entry_reads {s u : State} {n : LaneNo} (h : u.blank [.quay, .leg, .supply, .transit, .lane] = s.blank [.quay, .leg, .supply, .transit, .lane])
    (hi : u.lane[n].iLsb = s.lane[n].iLsb) (hv : u.lane[n].uLsb = s.lane[n].uLsb) (l : LegNo) :
    (∀ k, u.slotLeg n k = s.slotLeg n k) ∧ u.entryCurrent n l = s.entryCurrent n l ∧ u.entryVolts n = s.entryVolts n ∧
      u.isChopperLeg l = s.isChopperLeg l ∧ u.legQuay l = s.legQuay l ∧ u.now = s.now := by
  refine ⟨fun k => ?_, funext fun raw => ?_, funext fun raw => ?_, ?_, ?_, ?_⟩
  · rw [State.eq_take h]
    rfl
  · rw [State.entryCurrent, hi, State.eq_take h]
    rfl
  · rw [State.entryVolts, hv, State.entryVolts]
  all_goals
    rw [State.eq_take h]
    rfl

/-- The device just before the last entry of a frame is read. -/
theorem State.statusHead_entries {s : State} {n : LaneNo} {f : StatusFrame} (es : List StatusEntry) (l : LegNo) :
    let u := es.foldl (fun t e => t.statusEntry n e) (s.statusHead n f)
    (∀ k, u.slotLeg n k = s.slotLeg n k) ∧ u.entryCurrent n l = s.entryCurrent n l ∧ u.entryVolts n = s.entryVolts n ∧
      u.isChopperLeg l = s.isChopperLeg l ∧ u.legQuay l = s.legQuay l ∧ u.now = s.now := by
  obtain ⟨hhead, hlane⟩ := s.statusHead_spec n f
  have hpre := (State.entries_entered (s.statusHead n f) n es).rest
  intro u
  have hu : u.lane[n] = (s.statusHead n f).lane[n] := State.lane_of_blank hpre (by simp)
  refine State.entry_reads ((State.blank_mono hpre (by simp)).trans (State.blank_mono hhead (by simp))) ?_ ?_ l <;> rw [hu, hlane] <;> rfl

/-- The last entry of a frame gives its leg its values. -/
theorem State.statusRead_values {s : State} {n : LaneNo} {f : StatusFrame} {pre : List StatusEntry} {e : StatusEntry} {l : LegNo}
    (he : f.entries = pre ++ [e]) (hl : s.slotLeg n e.slot.toNat = some l) : (s.statusRead n f).leg[l].armed = e.armed ∧
      (s.statusRead n f).leg[l].current = s.entryCurrent n l e.current ∧ (s.statusRead n f).leg[l].vphase = s.entryVolts n e.volts := by
  obtain ⟨hslot, hcur, hvolt, -⟩ := State.statusHead_entries (s := s) (n := n) (f := f) pre l
  have hm := (State.internalPart_flagged (f.entries.foldl (fun t e => t.statusEntry n e) (s.statusHead n f)) n f).measures l
  rw [State.statusRead]
  generalize State.internalPart _ n f = v at hm ⊢
  rw [he, List.foldl_append] at hm
  generalize pre.foldl (fun t e => t.statusEntry n e) (s.statusHead n f) = u at hslot hcur hvolt hm
  obtain ⟨h1, h2, h3⟩ := State.statusEntry_values ((hslot _).trans hl)
  rw [hcur] at h2
  rw [hvolt] at h3
  exact ⟨(congrArg Leg.armed hm :).trans h1, (congrArg Leg.current hm :).trans h2, (congrArg Leg.vphase hm :).trans h3⟩

/-- A new SHORT flag in a frame of one entry latches its leg and raises GU_SHORT. -/
theorem State.statusRead_short {s : State} {n : LaneNo} {f : StatusFrame} {e : StatusEntry} {l : LegNo} {r : QuayNo}
    (he : f.entries = [e]) (hl : s.slotLeg n e.slot.toNat = some l) (hn : n.val < 16) (hs : e.short = true) (ho : s.leg[l].short = false)
    (hc : s.isChopperLeg l = false) (hr : s.legQuay l = some r) (h5 : s.quay[r].react ≠ some 5) (h6 : s.quay[r].react ≠ some 6) :
    (s.statusRead n f).leg[l].latch = some .off ∧ ∃ x ∈ (s.statusRead n f).flt.transit, x.src = srcGuShort ∧ x.quays = [r] ∧ x.time = s.now := by
  obtain ⟨hslot, -, -, hchop, hquay, hnow⟩ := State.statusHead_entries (s := s) (n := n) (f := f) [] l
  have hhead := (s.statusHead_spec n f).1
  have hleg : (s.statusHead n f).leg[l] = s.leg[l] := State.leg_of_blank hhead (by simp)
  have hq : (s.statusHead n f).quay[r] = s.quay[r] := State.quay_of_blank hhead (by simp)
  have hf := State.internalPart_flagged ((s.statusHead n f).statusEntry n e) n f
  have hasc : (s.statusHead n f).inAsc r = false := by
    rw [State.inAsc, hq, Bool.or_eq_false_iff]
    exact ⟨beq_false_of_ne h5, beq_false_of_ne h6⟩
  obtain ⟨hlatch, x, hx, hsrc, hqs, htime⟩ := State.statusEntry_short ((hslot _).trans hl) hn hs ((congrArg Leg.short hleg).trans ho)
    (hchop.trans hc) (hquay.trans hr) hasc
  rw [State.statusRead, he]
  exact ⟨hf.latch l hlatch, x, hf.transit hx, hsrc, hqs, htime.trans hnow⟩

theorem State.statusRead_blank (s : State) (n : LaneNo) (f : StatusFrame) :
    (s.statusRead n f).blank [.quay, .leg, .supply, .transit, .lane] = s.blank [.quay, .leg, .supply, .transit, .lane] :=
  (State.blank_mono (s.statusRead_entered n f).rest (by simp)).trans (State.blank_mono (s.statusHead_spec n f).1 (by simp))

/-- What a matched frame leaves when all has been taken. -/
theorem gwStatus_matches {n : LaneNo} {f : StatusFrame} {s : State} (h : s.lane[n].st = .attached) (hm : s.sampleMatches n f.sampleTime ≠ []) :
    ∃ t, exec (.gwStatus n f) s = .next t ∧
    (∀ q : QuayNo, t.quay[q].form = if q ∈ s.sampleMatches n f.sampleTime then (s.statusRead n f).withLane q n s.quay[q].form else s.quay[q].form) ∧
    (∀ l : LegNo, t.leg[l].ungated = (s.statusRead n f).leg[l].ungated) ∧
    ({ t.lane[n] with tx := [] } : Lane) = { s.lane[n].takeSeq f.seq with
      timeOk := f.timeOk, dcMv := (if f.dcValid then f.udc.toNat * s.lane[n].uLsb.toNat else s.lane[n].dcMv), tx := [] } ∧
    t.lane[n].dcMv = (s.statusRead n f).lane[n].dcMv ∧ t.flt.transit = (s.statusRead n f).flt.transit := by
  obtain ⟨hhead, hlane⟩ := s.statusHead_spec n f
  have hread := s.statusRead_entered n f
  refine ⟨_, execGwStatus_of_match h hm, ?_⟩
  have hnodup : (s.sampleMatches n f.sampleTime).Nodup := (s.laneQuays_nodup n).filter _
  have hform := State.laneArrives_form (s.statusRead n f) n hnodup
  have harr := State.laneArrives_blank (ps := [.quay]) (s.statusRead n f) n (s.sampleMatches n f.sampleTime) (by simp)
  have hq0 : ∀ q : QuayNo, (s.statusRead n f).quay[q].form = s.quay[q].form := fun q =>
    (hread.form q).trans (congrArg Quay.form (State.quay_of_blank hhead (by simp)))
  have hl0 : (s.statusRead n f).lane[n] = (s.statusHead n f).lane[n] := State.lane_of_blank hread.rest (by simp)
  generalize s.statusRead n f = u at hform harr hq0 hl0 ⊢
  generalize u.laneArrives n (s.sampleMatches n f.sampleTime) = v at hform harr ⊢
  have hg := State.syncLegs_gates s v
  have hv : v.lane[n] = u.lane[n] := State.lane_of_blank harr (by simp)
  have hd : (s.syncLegs v).lane[n].dcMv = v.lane[n].dcMv := (congrArg Lane.dcMv (hg.lane n) :)
  refine ⟨fun q => ?_, fun l => (hg.leg l).trans (congrArg Leg.ungated (State.leg_of_blank harr (by simp))), (hg.lane n).trans ?_,
    hd.trans (congrArg Lane.dcMv hv),
    (State.syncLegs_transit s v).trans (State.transit_of_blank harr (by simp))⟩
  · have hquay : (s.syncLegs v).quay = v.quay := hg.rest.rest.1
    rw [hquay, hform q, hq0 q]
  · rw [hv, hl0, hlane]

theorem State.withLane_open {s : State} {q : QuayNo} {n : LaneNo} {x : Snapshot} (h : x.isOpen = true) :
    (s.withLane q n x).missing = x.missing.filter (fun i => i ≠ InputId.lane n) ∧ (n.val, (s.lane[n].dcMv : Rat)) ∈ (s.withLane q n x).dc ∧
    ∀ l ∈ s.phaseLegs q, s.laneOf l = some n → (l, s.leg[l].current) ∈ (s.withLane q n x).legs ∧ (l, s.leg[l].vphase) ∈ (s.withLane q n x).volts := by
  rw [State.withLane, if_pos h]
  refine ⟨?_, List.mem_cons_self, fun l hl hn => ?_⟩
  · refine List.filter_congr fun i _ => ?_
    by_cases hi : i = .lane n <;> simp [hi]
  · have hmem : l ∈ (s.phaseLegs q).filter (fun l => s.laneOf l == some n) := List.mem_filter.2 ⟨hl, beq_iff_eq.2 hn⟩
    exact ⟨mem_foldl_setKey (v := fun l => s.leg[l].current) (.inl hmem), mem_foldl_setKey (v := fun l => s.leg[l].vphase) (.inl hmem)⟩

/-- Settles O39: `gwStatus_matches` with the values of the last entry and the SHORT flag of a frame of one. -/
theorem statusFrames : Obligations.StatusFrames := by
  unfold Obligations.StatusFrames
  refine ⟨fun n f s h => if_neg h, fun n f s h => ?_⟩
  intro gaps
  refine ⟨fun q => State.mem_sampleMatches, fun hm => ?_, fun hm => ?_⟩
  · refine (execGwStatus_of_stray h hm).trans ?_
    rw [State.modLane_modLane]
    rfl
  · obtain ⟨t, ht, hform, hleg, hlane, hread, htr⟩ := gwStatus_matches h hm
    have hdc : t.lane[n].dcMv = (if f.dcValid then f.udc.toNat * s.lane[n].uLsb.toNat else s.lane[n].dcMv) := (congrArg Lane.dcMv hlane :)
    refine ⟨t, ht, fun q hq ho => ?_, fun q hq => ?_, (congrArg Lane.timeOk hlane :), hdc, (congrArg Lane.stray hlane :), (congrArg Lane.rxSeq hlane :),
      (congrArg Lane.seqGaps hlane :), fun e pre l he hl => ?_, fun e l r he hl hn hs ho hc hr h5 h6 => ?_⟩
    · obtain ⟨hmiss, hdcs, hls⟩ := State.withLane_open (s := s.statusRead n f) (q := q) (n := n) ho
      have hphase : (s.statusRead n f).phaseLegs q = s.phaseLegs q := by
        rw [State.eq_take (s.statusRead_blank n f)]
        rfl
      have hlaneOf : ∀ l, (s.statusRead n f).laneOf l = s.laneOf l := fun l => by
        rw [State.eq_take (s.statusRead_blank n f)]
        rfl
      rw [hform q, if_pos hq, hread]
      refine ⟨hmiss, hdcs, fun l hl hn => ?_⟩
      have hcur : t.leg[l].current = (s.statusRead n f).leg[l].current := (congrArg Leg.current (hleg l) :)
      have hvolt : t.leg[l].vphase = (s.statusRead n f).leg[l].vphase := (congrArg Leg.vphase (hleg l) :)
      rw [hcur, hvolt]
      exact hls l (hphase ▸ hl) ((hlaneOf l).trans hn)
    · rw [hform q]
      split
      next hmem =>
        rw [State.withLane, if_neg (by rw [hq.resolve_left (not_not.2 hmem)]; simp)]
      next => rfl
    · obtain ⟨h1, h2, h3⟩ := State.statusRead_values he hl
      have hcur : t.leg[l].current = s.entryCurrent n l e.current := (congrArg Leg.current (hleg l) :).trans h2
      have hvolt : t.leg[l].vphase = s.entryVolts n e.volts := (congrArg Leg.vphase (hleg l) :).trans h3
      rw [hcur, hvolt, State.entryCurrent, State.entryVolts]
      refine ⟨(congrArg Leg.armed (hleg l) :).trans h1, fun hn => ?_, fun hn => ?_⟩
      · rw [if_pos hn, if_pos hn]
        exact ⟨rfl, rfl⟩
      · rw [if_neg (Nat.not_lt.2 hn), if_neg (Nat.not_lt.2 hn)]
        exact ⟨rfl, rfl⟩
    · obtain ⟨hlatch, hx⟩ := State.statusRead_short he hl hn hs ho hc hr h5 h6
      exact ⟨(congrArg Leg.latch (hleg l) :).trans hlatch, htr ▸ hx⟩

end Sys2Proof.Machine
end

section
namespace Sys2Proof.Machine

/-! ### What sending on the Hawser ports changes (R865, R866, R872) -/

/-- The state `t` is `s` with frames handed to the Hawser ports. -/
structure Sent (s t : State) : Prop where
  rest : t = { s with hw := { s.hw with ports := t.hw.ports } }
  port (p : Side) : t.hw.ports.get p = { s.hw.ports.get p with tx := (t.hw.ports.get p).tx }
  tx (p : Side) : (s.hw.ports.get p).tx ⊆ (t.hw.ports.get p).tx

namespace Sent
variable {s t u : State}

theorem refl (s : State) : Sent s s := ⟨rfl, fun _ => rfl, fun _ => List.Subset.refl _⟩

theorem trans (h : Sent s t) (k : Sent t u) : Sent s u := by
  refine ⟨?_, fun p => ?_, fun p => List.Subset.trans (h.tx p) (k.tx p)⟩
  · have hk := k.rest
    rw [h.rest] at hk
    exact hk
  · have hk := k.port p
    rw [h.port p] at hk
    exact hk

theorem hwSend (s : State) (p : Side) (f : HwFrame) : Sent s (s.hwSend p f) := by
  refine ⟨rfl, fun q => by cases p <;> cases q <;> rfl, fun q => ?_⟩
  change _ ⊆ ((s.hw.ports.set p { s.hw.ports.get p with tx := (s.hw.ports.get p).tx ++ [f] }).get q).tx
  by_cases h : p = q
  · subst h
    rw [Pair.get_set]
    exact List.subset_append_left _ _
  · rw [Pair.get_set_ne _ _ h]
    exact List.Subset.refl _

end Sent

theorem State.hwSend_mem (s : State) (p : Side) (f : HwFrame) : f ∈ ((s.hwSend p f).hw.ports.get p).tx := by
  cases p <;> exact List.mem_append_right _ (List.mem_singleton_self f)

/-- A frame of this device leaves by every port that originates (R866), with TTL 8. -/
theorem State.originate_spec (s : State) (src : Word) (ty : Nat) (mk : HwHeader → HwFrame) :
    ∃ seqs, Sent { s with hw := { s.hw with seqs := seqs } } (s.originate src ty mk) ∧
      ∃ n, ∀ p ∈ s.originPorts, mk ⟨8, n, src⟩ ∈ ((s.originate src ty mk).hw.ports.get p).tx := by
  unfold State.originate
  split
  next h => exact ⟨s.hw.seqs, .refl s, 0, fun p hp => absurd hp (by rw [List.isEmpty_iff.1 h]; exact List.not_mem_nil)⟩
  next h =>
    refine ⟨_, forAll_keeps (P := Sent _) (.refl _) fun t ht r _ => ht.trans (.hwSend t r _), s.nextSeq src ty, fun p hp => ?_⟩
    exact forAll_establishes (P := fun _ => True) hp trivial (fun _ _ _ _ => trivial) (fun t _ => t.hwSend_mem p _)
      fun t _ h r _ => (Sent.hwSend t r _).tx p h

/-- This device's DISC leaves (R872). -/
theorem State.sendDisc_spec (s : State) : ∃ seqs, Sent { s with hw := { s.hw with seqs := seqs, lastDisc := s.now } } s.sendDisc ∧
    ∀ p ∈ s.originPorts, ∃ h d, HwFrame.disc h d ∈ (s.sendDisc.hw.ports.get p).tx ∧ h.src = s.prot.hwAddress ∧ h.ttl = 8 := by
  obtain ⟨seqs, hsent, n, hmem⟩ := s.originate_spec s.prot.hwAddress 0x10 (fun h => .disc h s.discPayload)
  refine ⟨seqs, ⟨?_, hsent.port, hsent.tx⟩, fun p hp => ⟨_, _, hmem p hp, rfl, rfl⟩⟩
  have hr := hsent.rest
  unfold State.sendDisc
  generalize s.originate s.prot.hwAddress 0x10 (fun h => .disc h s.discPayload) = t at hr ⊢
  rw [hr]
  rfl

theorem State.mem_originPorts_of_up {s : State} {p : Side} (hm : s.hw.mode = .line) (hu : (s.hw.ports.get p).up = true) : p ∈ s.originPorts := by
  rw [State.originPorts, hm]
  exact List.mem_filter.2 ⟨by cases p <;> simp, hu⟩

/-! ### HW_PING, HW_PONG -/

theorem execHwPong_of_measures {p : Side} {w : Word} {s : State} (hu : (s.hw.ports.get p).up = false) (ht : (s.hw.ports.get p).training = false)
    (hr : (s.hw.ports.get p).rxOk = true) (hl : (s.hw.ports.get p).rs.length < 4) : execHwPong p w s =
      let rs := (s.hw.ports.get p).rs ++ [(s.now : Int) - (s.hw.ports.get p).pingAt - w.toNat]
      if rs.length < 4 then .next (s.modHwPort p (fun y => { y with rs := rs, pingAt := s.now, tx := y.tx ++ [.ping] }))
      else if spreadOk rs then .next (s.modHwPort p (fun y => { y with rs := rs, delay := BitVec.ofInt 32 (delayOf rs) }))
      else .next (s.modHwPort p (fun y => { y with rs := [], pingAt := s.now, tx := y.tx ++ [.ping] })) :=
  if_pos (by rw [hu, ht, hr, decide_eq_true hl]; rfl)

/-- Settles the part of O40 about HW_PONG. -/
theorem hwPong_measures (p : Side) (w : Word) (s : State) :
    let x := s.hw.ports.get p
    let rs : List Int := x.rs ++ [(s.now : Int) - x.pingAt - w.toNat]
    let measures : Prop := x.up = false ∧ x.training = false ∧ x.rxOk = true ∧ x.rs.length < 4
    let gives (y : HwPort) : Prop := exec (.hwPong p w) s = .next { s with hw := { s.hw with ports := s.hw.ports.set p y } }
    (measures → x.rs.length < 3 → gives { x with rs := rs, pingAt := s.now, tx := x.tx ++ [.ping] }) ∧
    (measures → x.rs.length = 3 → (∀ a ∈ rs, ∀ b ∈ rs, a - b ≤ 128) → gives { x with rs := rs, delay := BitVec.ofInt 32 (delayOf rs) }) ∧
    (measures → x.rs.length = 3 → (∃ a ∈ rs, ∃ b ∈ rs, 128 < a - b) → gives { x with rs := [], pingAt := s.now, tx := x.tx ++ [.ping] }) ∧
    (¬ measures → exec (.hwPong p w) s = .next s) := by
  intro x rs measures gives
  have hlen : rs.length = x.rs.length + 1 := List.length_append
  have hspread := spreadOk_iff rs
  refine ⟨fun ⟨hu, ht, hr, hl⟩ hn => ?_, fun ⟨hu, ht, hr, hl⟩ hn hc => ?_, fun ⟨hu, ht, hr, hl⟩ hn hc => ?_, fun h => if_neg ?_⟩
  · exact (execHwPong_of_measures hu ht hr hl).trans (if_pos (show rs.length < 4 by omega))
  · exact (execHwPong_of_measures hu ht hr hl).trans ((if_neg (show ¬ rs.length < 4 by omega)).trans (if_pos (hspread.2 hc)))
  · obtain ⟨a, ha, b, hb, hab⟩ := hc
    have hno : ¬ spreadOk rs = true := fun h => by
      have := hspread.1 h a ha b hb
      omega
    exact (execHwPong_of_measures hu ht hr hl).trans ((if_neg (show ¬ rs.length < 4 by omega)).trans (if_neg hno))
  · simp only [Bool.and_eq_true, Bool.not_eq_true', decide_eq_true_eq, and_assoc]
    exact h

/-! ### HW_PORT_UP, HW_PORT_LOSS -/

/-- A membership window that opens (R875). -/
theorem State.openWindowHw_eq (s : State) : ∃ w, s.openWindowHw =
    { s with hw := { s.hw with members := [], windowAt := some (s.now + 6400 * hwMemberWindow s), wholeSince := w } } := ⟨_, rfl⟩

/-- A window opens and DISC leaves. -/
theorem State.openAndSend_spec (s : State) : ∃ w seqs, Sent { s with hw := { s.hw with
      members := [], windowAt := some (s.now + 6400 * hwMemberWindow s), wholeSince := w, seqs := seqs, lastDisc := s.now } } s.openWindowHw.sendDisc ∧
    ∀ p ∈ s.originPorts, ∃ h d, HwFrame.disc h d ∈ (s.openWindowHw.sendDisc.hw.ports.get p).tx ∧ h.src = s.prot.hwAddress := by
  obtain ⟨w, hw⟩ := s.openWindowHw_eq
  obtain ⟨seqs, hsent, hmem⟩ := s.openWindowHw.sendDisc_spec
  generalize s.openWindowHw.sendDisc = t at hsent hmem ⊢
  rw [hw] at hsent hmem
  refine ⟨w, seqs, hsent, fun p hp => ?_⟩
  obtain ⟨h, d, hd, hsrc, -⟩ := hmem p hp
  exact ⟨h, d, hd, hsrc⟩

/-- A port that is up, with the mode it brings. -/
def State.portUp (s : State) (p : Side) : State :=
  (s.modHwPort p (fun y => { y with up := true })).modHw (fun h => { h with mode := if h.mode = .alone then .line else h.mode })

theorem execHwPortUp_of_ready {p : Side} {s : State} (hs : s.afterStep10 = true) (hu : (s.hw.ports.get p).up = false)
    (ht : (s.hw.ports.get p).training = false) (hr : (s.hw.ports.get p).rxOk = true) (hl : (s.hw.ports.get p).rs.length = 4) :
    execHwPortUp p s = .next (s.portUp p).openWindowHw.sendDisc := if_pos (by rw [hs, hu, ht, hr, hl]; rfl)

/-- Settles the part of O40 about HW_PORT_UP. -/
theorem hwPortUp_opens {p : Side} {s : State} (hs : s.afterStep10 = true) (hu : (s.hw.ports.get p).up = false) (ht : (s.hw.ports.get p).training = false)
    (hr : (s.hw.ports.get p).rxOk = true) (hl : (s.hw.ports.get p).rs.length = 4) : ∃ t, exec (.hwPortUp p) s = .next t ∧
      (t.hw.ports.get p).up = true ∧ t.hw.mode = (if s.hw.mode = .alone then .line else s.hw.mode) ∧
      t.hw.windowAt = some (s.now + 6400 * hwMemberWindow s) ∧ t.hw.members = [] ∧ t.hw.memberSet = s.hw.memberSet ∧ t.hw.lastDisc = s.now ∧
      (s.hw.mode ≠ .ring → ∃ h d, HwFrame.disc h d ∈ (t.hw.ports.get p).tx ∧ h.src = s.prot.hwAddress) ∧ t = { s with hw := t.hw } := by
  obtain ⟨w, seqs, hsent, hmem⟩ := (s.portUp p).openAndSend_spec
  have hup : ((s.portUp p).hw.ports.get p).up = true := by
    change ((s.hw.ports.set p { s.hw.ports.get p with up := true }).get p).up = true
    rw [Pair.get_set]
  refine ⟨_, execHwPortUp_of_ready hs hu ht hr hl, ?_⟩
  generalize (s.portUp p).openWindowHw.sendDisc = t at hsent hmem ⊢
  have hrest := hsent.rest
  refine ⟨?_, ?_, ?_, ?_, ?_, ?_, fun hm => hmem p (State.mem_originPorts_of_up ?_ hup), ?_⟩
  · rw [hsent.port p]
    exact hup
  case refine_7 =>
    change (if s.hw.mode = .alone then HwMode.line else s.hw.mode) = .line
    cases h : s.hw.mode with
    | ring => exact absurd h hm
    | alone => rfl
    | line => rfl
  all_goals rw [hrest]
  all_goals rfl

/-- A port that is lost, with the mode it leaves. -/
def State.portLost (s : State) (p : Side) : State :=
  let u := s.modHwPort p (fun y => { y with up := false, rxOk := false, training := false, rs := [] })
  u.modHw (fun h => { h with mode := u.lineOrAlone })

/-- TOPO leaves by the other port, where it is up (R873). -/
def State.sendTopo (s : State) (p : Side) : State :=
  if (s.hw.ports.get p.other).up then s.originate s.prot.hwAddress 0x11 (fun h => .topo h true p) else s

theorem State.sendTopo_spec (s : State) (p : Side) : ∃ seqs, Sent { s with hw := { s.hw with seqs := seqs } } (s.sendTopo p) ∧
    ((s.hw.ports.get p.other).up = true → s.hw.mode = .line → ∃ h, HwFrame.topo h true p ∈ ((s.sendTopo p).hw.ports.get p.other).tx ∧ h.src = s.prot.hwAddress) := by
  unfold State.sendTopo
  split
  next hup =>
    obtain ⟨seqs, hsent, n, hmem⟩ := s.originate_spec s.prot.hwAddress 0x11 (fun h => .topo h true p)
    exact ⟨seqs, hsent, fun _ hm => ⟨_, hmem _ (State.mem_originPorts_of_up hm hup), rfl⟩⟩
  next hup => exact ⟨s.hw.seqs, .refl s, fun h => absurd h hup⟩

theorem State.portLost_spec (s : State) (p : Side) : (s.portLost p).hw.mode = (if (s.hw.ports.get p.other).up = true then .line else .alone) ∧
    (s.portLost p).hw.ports.get p = { s.hw.ports.get p with up := false, rxOk := false, training := false, rs := [] } ∧
    (s.portLost p).hw.ports.get p.other = s.hw.ports.get p.other := by
  refine ⟨?_, Pair.get_set _ _ _, Pair.get_set_ne _ _ (Side.other_ne p)⟩
  cases p
  · change (if (false || s.hw.ports.b.up) = true then HwMode.line else .alone) = _
    rw [Bool.false_or]
    rfl
  · change (if (s.hw.ports.a.up || false) = true then HwMode.line else .alone) = _
    rw [Bool.or_false]
    rfl

theorem execHwPortLoss_of_up {p : Side} {s : State} (hu : (s.hw.ports.get p).up = true) :
    execHwPortLoss p s = .next ((s.portLost p).sendTopo p).openWindowHw.sendDisc := if_pos hu

/-- Settles the part of O40 about HW_PORT_LOSS. -/
theorem hwPortLoss_opens {p : Side} {s : State} (hu : (s.hw.ports.get p).up = true) : ∃ t, exec (.hwPortLoss p) s = .next t ∧
      t.hw.ports.get p = { s.hw.ports.get p with up := false, rxOk := false, training := false, rs := [], tx := (t.hw.ports.get p).tx } ∧
      t.hw.mode = (if (s.hw.ports.get p.other).up = true then .line else .alone) ∧ t.hw.windowAt = some (s.now + 6400 * hwMemberWindow s) ∧
      t.hw.members = [] ∧ t.hw.lastDisc = s.now ∧
      ((s.hw.ports.get p.other).up = true → (∃ h, HwFrame.topo h true p ∈ (t.hw.ports.get p.other).tx ∧ h.src = s.prot.hwAddress) ∧
        ∃ h d, HwFrame.disc h d ∈ (t.hw.ports.get p.other).tx ∧ h.src = s.prot.hwAddress) ∧ t = { s with hw := t.hw } := by
  obtain ⟨hmode, hself, hother⟩ := s.portLost_spec p
  obtain ⟨seqs, htopo, htmem⟩ := (s.portLost p).sendTopo_spec p
  obtain ⟨w, seqs', hsent, hmem⟩ := ((s.portLost p).sendTopo p).openAndSend_spec
  refine ⟨_, execHwPortLoss_of_up hu, ?_⟩
  generalize ((s.portLost p).sendTopo p).openWindowHw.sendDisc = t at hsent hmem ⊢
  generalize (s.portLost p).sendTopo p = v at htopo htmem hsent hmem
  have htr := htopo.rest
  have hrest := hsent.rest
  have hvmode : v.hw.mode = (if (s.hw.ports.get p.other).up = true then .line else .alone) := by
    rw [htr]
    exact hmode
  have hvup : (v.hw.ports.get p.other).up = (s.hw.ports.get p.other).up := by
    rw [htopo.port]
    exact (congrArg HwPort.up hother :)
  have hvs : v = { s with hw := v.hw } := by
    rw [htr]
    rfl
  refine ⟨?_, ?_, ?_, ?_, ?_, fun ho => ⟨?_, ?_⟩, ?_⟩
  · rw [hsent.port p]
    change ({ v.hw.ports.get p with tx := (t.hw.ports.get p).tx } : HwPort) = _
    rw [htopo.port p]
    exact congrArg (fun x : HwPort => { x with tx := (t.hw.ports.get p).tx }) hself
  case refine_6 =>
    obtain ⟨h, hh, hsrc⟩ := htmem ((congrArg HwPort.up hother).trans ho) (hmode.trans (if_pos ho))
    exact ⟨h, hsent.tx p.other hh, hsrc⟩
  case refine_7 =>
    obtain ⟨h, d, hd, hsrc⟩ := hmem p.other (State.mem_originPorts_of_up (hvmode.trans (if_pos ho)) (hvup.trans ho))
    exact ⟨h, d, hd, hsrc.trans (by rw [hvs])⟩
  · rw [hrest]
    exact hvmode
  all_goals rw [hrest, hvs]
  all_goals rfl

/-! ### O40 -/

/-- Settles O40: each event of a port by its condition. -/
theorem hawserPorts : Obligations.HawserPorts := by
  unfold Obligations.HawserPorts
  refine ⟨fun p s => ⟨fun h => ⟨_, _, if_pos h, rfl, rfl⟩, fun h => if_neg (by rw [h]; exact Bool.false_ne_true)⟩, hwPong_measures, fun p s => ?_,
    fun p s => ?_, fun s => ?_, fun p r s => ⟨fun h => ⟨_, if_pos h, ⟨_, rfl, rfl, rfl, rfl⟩, rfl⟩, fun h => if_neg (by rw [h]; exact Bool.false_ne_true)⟩⟩
  · intro x ready
    refine ⟨fun ⟨hs, hu, ht, hr, hl⟩ => hwPortUp_opens hs hu ht hr hl, fun h => if_neg ?_⟩
    simp only [Bool.and_eq_true, Bool.not_eq_true', beq_iff_eq, and_assoc]
    exact h
  · intro lost
    exact ⟨fun h => if_neg (by rw [h]; exact Bool.false_ne_true), hwPortLoss_opens⟩
  · intro due
    refine ⟨fun h => ?_, fun h => if_neg h⟩
    obtain ⟨seqs, hsent, hmem⟩ := s.sendDisc_spec
    refine ⟨_, if_pos h, ?_, hmem, hsent.port, ?_⟩ <;> rw [hsent.rest]

end Sys2Proof.Machine
end

section
namespace Sys2Proof.Machine

/-! ### Receipt of Hawser frames (R869 to R871) -/

theorem State.receipt_drop_iff (s : State) (p : Side) (ty : Nat) (h : HwHeader) : s.receipt p ty h = .drop ↔
    s.hw.mode = .alone ∨ (s.hw.ports.get p).up = false ∨ devicePart h.src = devicePart s.prot.hwAddress ∨
      ∃ at_, (h.src, ty, h.seq, at_) ∈ s.hw.recent ∧ s.now < at_ + 6400000 := by
  have hdup : s.hw.recent.any (fun e => e.1 == h.src && e.2.1 == ty && e.2.2.1 == h.seq && decide (s.now < e.2.2.2 + us 1000)) = true ↔
      ∃ at_, (h.src, ty, h.seq, at_) ∈ s.hw.recent ∧ s.now < at_ + 6400000 := by
    rw [List.any_eq_true]
    constructor
    · rintro ⟨⟨a, b, c, d⟩, hmem, he⟩
      simp only [Bool.and_eq_true, beq_iff_eq, us, Nat.reduceMul] at he
      obtain ⟨⟨⟨rfl, rfl⟩, rfl⟩, hlt⟩ := he
      exact ⟨d, hmem, of_decide_eq_true hlt⟩
    · rintro ⟨d, hmem, hlt⟩
      exact ⟨_, hmem, by simp only [beq_self_eq_true, Bool.true_and, us, Nat.reduceMul]; exact decide_eq_true hlt⟩
  rw [← hdup, State.receipt]
  split
  next hc => exact ⟨fun _ => hc, fun _ => rfl⟩
  next hc =>
    refine ⟨fun he => ?_, fun he => absurd he hc⟩
    dsimp only at he
    split at he <;> cases he

theorem State.receipt_forward {s : State} {p : Side} {ty : Nat} {h : HwHeader} {ttl : Byte} (he : s.receipt p ty h = .forward ttl) : ttl = h.ttl - 1 := by
  rw [State.receipt] at he
  split at he
  · cases he
  · dsimp only at he
    split at he
    · cases he
    · cases he
      rfl

theorem State.receive_of_drop {s : State} {p : Side} {ty : Nat} {h : HwHeader} (hd : s.receipt p ty h = .drop) (mk : HwHeader → HwFrame)
    (f : State → State) : s.receive p ty h mk f = s := by
  rw [State.receive, hd]

/-- A frame that is not dropped is consumed, and handed to the other port where it goes on. -/
theorem State.receive_spec {s : State} {p : Side} {ty : Nat} {h : HwHeader} (hd : s.receipt p ty h ≠ .drop) (mk : HwHeader → HwFrame) (f : State → State) :
    Sent (f (s.noteFrame ty h)) (s.receive p ty h mk f) ∧ ∀ ttl, s.receipt p ty h = .forward ttl → ttl = h.ttl - 1 ∧
      mk { h with ttl := ttl } ∈ ((s.receive p ty h mk f).hw.ports.get p.other).tx := by
  cases hr : s.receipt p ty h with
  | drop => exact absurd hr hd
  | consume =>
    rw [State.receive, hr]
    exact ⟨.refl _, nofun⟩
  | forward ttl =>
    rw [State.receive, hr]
    refine ⟨.hwSend _ _ _, fun u hu => ?_⟩
    cases hu
    exact ⟨State.receipt_forward hr, State.hwSend_mem _ _ _⟩

/-! ### Membership (R874 to R877) -/

/-- The devices that have been heard, with this one. -/
def State.heardDevices (s : State) : List Nat :=
  s.ownDevice :: ((List.range 8).filter (fun d => d != s.ownDevice && s.hw.members.any (fun m => m.device == d)))

theorem State.mem_heardDevices {s : State} {d : Nat} : d ∈ s.heardDevices ↔ d = s.ownDevice ∨ (d < 8 ∧ ∃ m ∈ s.hw.members, m.device = d) := by
  rw [State.heardDevices, List.mem_cons, List.mem_filter, List.mem_range, Bool.and_eq_true, bne_iff_ne, List.any_eq_true]
  simp only [beq_iff_eq]
  tauto

/-- The membership as taken, with its time master, before a change is announced. -/
def State.membered (s : State) : State :=
  let u := s.modHw (fun h => { h with memberSet := s.heardDevices })
  u.modHw (fun h => { h with master := u.electMaster })

theorem State.formMembership_eq (s : State) (heard : Bool) : s.formMembership heard =
    if ((s.hw.memberSet.filter (fun d => !s.heardDevices.contains d)).isEmpty && s.heardDevices.all s.hw.memberSet.contains) then s.membered
    else (forAll allQuays (s.membered.raiseDevice srcHwRingChange)
      (fun t q => t.loseDevices (s.hw.memberSet.filter (fun d => !s.heardDevices.contains d)) q)).formGroups heard := rfl

theorem State.same_members_iff (s : State) : ((s.hw.memberSet.filter (fun d => !s.heardDevices.contains d)).isEmpty &&
    s.heardDevices.all s.hw.memberSet.contains) = true ↔ ∀ d, d ∈ s.heardDevices ↔ d ∈ s.hw.memberSet := by
  rw [Bool.and_eq_true, List.isEmpty_iff, List.filter_eq_nil_iff, List.all_eq_true]
  simp only [List.contains_iff_mem, Bool.not_eq_true', Bool.not_eq_false]
  exact ⟨fun ⟨h1, h2⟩ d => ⟨h2 d, h1 d⟩, fun h => ⟨fun d hd => (h d).2 hd, fun d hd => (h d).1 hd⟩⟩

/-- What losing devices and forming groups touches. -/
@[simp] theorem State.loseDevices_blank {ps : List Part} (s : State) (gone : List Nat) (q : QuayNo)
    (h : Covers ps [.quay, .port, .groups, .leg, .lane, .ih, .transit]) : (s.loseDevices gone q).blank ps = s.blank ps := by
  simp at h
  unfold State.loseDevices State.loseMaster State.dropShare
  simp [State.ite_blank, State.raiseQuay, h]

/-- No fault on its way is lost. -/
theorem State.raised_keeps {s t : State} (h : t.blank [.quay, .port, .groups, .leg, .lane, .ih] = s.blank [.quay, .port, .groups, .leg, .lane, .ih]) :
    s.flt.transit ⊆ t.flt.transit := by
  rw [State.transit_of_blank h (by simp)]
  exact List.Subset.refl _

theorem State.loseDevices_transit (s : State) (gone : List Nat) (q : QuayNo) : s.flt.transit ⊆ (s.loseDevices gone q).flt.transit := by
  unfold State.loseDevices
  extract_lets x away lost s1 s2
  have h12 : s1.flt.transit ⊆ s2.flt.transit := forAll_transit_subset (s := s1) fun t _ _ => t.raise_transit_subset _
  have hgo := (s.raiseQuay srcShareLost q).goAlone_blank (ps := [.quay, .port, .groups, .leg, .lane, .ih]) q (by simp)
  have hstand := s2.standAlone_blank (ps := [.quay, .port, .groups, .leg, .lane, .ih]) q (by simp)
  split
  · exact List.Subset.refl _
  · split
    · split
      · exact List.Subset.refl _
      · split
        · exact List.Subset.trans (s.raise_transit_subset _) (State.raised_keeps hgo)
        · exact List.Subset.refl _
    · split
      · have hst := State.raised_keeps hstand
        generalize s2.standAlone q = u at hst ⊢
        exact List.Subset.trans h12 hst
      · exact h12

theorem State.formGroup_transit (s : State) (heard : Bool) (g : Nat) : s.flt.transit ⊆ (s.formGroup heard g).flt.transit := by
  unfold State.formGroup
  dsimp only
  split
  · exact List.Subset.refl _
  · split
    · refine List.Subset.trans (State.raised_keeps ?_) (forAll_transit_subset fun t _ _ => t.raise_transit_subset _)
      simp
    · exact State.raised_keeps (by simp)

theorem State.formGroups_transit (s : State) (heard : Bool) : s.flt.transit ⊆ (s.formGroups heard).flt.transit := by
  unfold State.formGroups
  exact forAll_transit_subset fun t g _ => t.formGroup_transit heard g

/-- The membership formed: its set and its master, and HW_RING_CHANGE where it is another. -/
theorem State.formMembership_spec (s : State) (heard : Bool) :
    (s.formMembership heard).hw = s.membered.hw ∧
    (s.formMembership heard).blank [.hw, .quay, .port, .groups, .leg, .lane, .ih, .transit] = s.blank [.hw, .quay, .port, .groups, .leg, .lane, .ih, .transit] ∧
    ((∀ d, d ∈ s.heardDevices ↔ d ∈ s.hw.memberSet) → s.formMembership heard = { s with hw := s.membered.hw }) ∧
    ((¬ ∀ d, d ∈ s.heardDevices ↔ d ∈ s.hw.memberSet) → ∃ e ∈ (s.formMembership heard).flt.transit, e.src = srcHwRingChange ∧ e.time = s.now) := by
  rw [State.formMembership_eq]
  by_cases hsame : ∀ d, d ∈ s.heardDevices ↔ d ∈ s.hw.memberSet
  · rw [if_pos (s.same_members_iff.2 hsame)]
    exact ⟨rfl, by simp [State.membered], fun _ => rfl, fun hc => absurd hsame hc⟩
  · rw [if_neg (mt s.same_members_iff.1 hsame)]
    have hb : ((forAll allQuays (s.membered.raiseDevice srcHwRingChange) (fun t q => t.loseDevices
        (s.hw.memberSet.filter (fun d => !s.heardDevices.contains d)) q)).formGroups heard).blank [.quay, .port, .groups, .leg, .lane, .ih, .transit] =
        s.membered.blank [.quay, .port, .groups, .leg, .lane, .ih, .transit] := by
      simp [State.raiseDevice]
    refine ⟨State.hw_of_blank hb (by simp), (State.blank_mono hb (by simp)).trans (by simp [State.membered]), fun hc => absurd hc hsame, fun _ => ?_⟩
    have hlost := forAll_transit_subset (xs := allQuays) (s := s.membered.raiseDevice srcHwRingChange)
      (f := fun t q => t.loseDevices (s.hw.memberSet.filter (fun d => !s.heardDevices.contains d)) q) fun t q _ => t.loseDevices_transit _ q
    generalize forAll allQuays (s.membered.raiseDevice srcHwRingChange) _ = u at hlost ⊢
    exact ⟨faultOf s.membered srcHwRingChange 0xFF [] {}, u.formGroups_transit heard (hlost (State.raise_mem _ _)), rfl, rfl⟩

/-! ### The time master (R877) -/

/-- The better of two candidates: lower priority value, then lower device. -/
def better (best c : Nat × Nat) : Nat × Nat := if c.1 < best.1 ∨ (c.1 = best.1 ∧ c.2 < best.2) then c else best

/-- One candidate is at least as good as another. -/
def AsGood (b c : Nat × Nat) : Prop := b.1 < c.1 ∨ (b.1 = c.1 ∧ b.2 ≤ c.2)

theorem AsGood.trans {a b c : Nat × Nat} (h : AsGood a b) (k : AsGood b c) : AsGood a c := by
  unfold AsGood at *
  omega

theorem better_asGood (a c : Nat × Nat) : AsGood (better a c) a ∧ AsGood (better a c) c ∧ (better a c = a ∨ better a c = c) := by
  unfold better AsGood
  split
  next h => exact ⟨by omega, by omega, .inr rfl⟩
  next h => exact ⟨by omega, by omega, .inl rfl⟩

theorem foldl_better (cs : List (Nat × Nat)) (a : Nat × Nat) : AsGood (cs.foldl better a) a ∧ (∀ c ∈ cs, AsGood (cs.foldl better a) c) ∧
    (cs.foldl better a = a ∨ cs.foldl better a ∈ cs) := by
  induction cs generalizing a with
  | nil => exact ⟨by unfold AsGood; exact .inr ⟨rfl, Nat.le_refl _⟩, fun _ h => absurd h List.not_mem_nil, .inl rfl⟩
  | cons c cs ih =>
    obtain ⟨h1, h2, h3⟩ := ih (better a c)
    obtain ⟨ha, hc, hbest⟩ := better_asGood a c
    rw [List.foldl_cons]
    refine ⟨h1.trans ha, fun d hd => ?_, ?_⟩
    · obtain rfl | hd := List.mem_cons.1 hd
      · exact h1.trans hc
      · exact h2 d hd
    · obtain h3 | h3 := h3
      · rw [h3]
        exact hbest.imp_right fun h => by rw [h]; exact List.mem_cons_self
      · exact .inr (List.mem_cons_of_mem c h3)

/-- The candidates for time master. -/
def State.candidates (s : State) : List (Nat × Nat) := (s.prot.hwTimePrio.toNat, s.ownDevice) ::
  (s.hw.members.filter (fun m => s.hw.memberSet.contains m.device)).map (fun m => (m.prio.toNat, m.device))

theorem State.electMaster_spec (s : State) : ∃ prio, (prio, s.electMaster) ∈ s.candidates ∧
    ∀ c ∈ s.candidates, prio < c.1 ∨ (prio = c.1 ∧ s.electMaster ≤ c.2) := by
  obtain ⟨hown, hall, hmem⟩ := foldl_better s.candidates (s.prot.hwTimePrio.toNat, s.ownDevice)
  refine ⟨(s.candidates.foldl better (s.prot.hwTimePrio.toNat, s.ownDevice)).1, ?_, hall⟩
  obtain h | h := hmem
  · rw [State.candidates, List.mem_cons]
    exact .inl h
  · exact h

/-- The candidates once the membership is formed: this device and the members heard. -/
theorem State.candidates_membered (s : State) : (s.modHw (fun h => { h with memberSet := s.heardDevices })).candidates =
    (s.prot.hwTimePrio.toNat, s.ownDevice) ::
      (s.hw.members.filter (fun m => decide (m.device < 8) || m.device == s.ownDevice)).map (fun m => (m.prio.toNat, m.device)) := by
  refine congrArg (fun ms : List Member => (s.prot.hwTimePrio.toNat, s.ownDevice) :: ms.map (fun m => (m.prio.toNat, m.device))) ?_
  refine List.filter_congr fun m hm => ?_
  rw [Bool.eq_iff_iff, Bool.or_eq_true, decide_eq_true_eq, beq_iff_eq]
  refine List.contains_iff_mem.trans (State.mem_heardDevices.trans ?_)
  constructor
  · rintro (h | ⟨h, -⟩)
    exacts [.inr h, .inl h]
  · rintro (h | h)
    exacts [.inr ⟨h, m, hm, rfl⟩, .inl h]

/-! ### MEMBER_WINDOW_END (R874, R875) -/

/-- What entering a mode leaves of the Hawser side (R872). -/
theorem State.setHwMode_spec (s : State) (m : HwMode) : ∃ seqs last, Sent { s with hw := { s.hw with mode := m, seqs := seqs, lastDisc := last } } (s.setHwMode m) := by
  unfold State.setHwMode
  split
  next h =>
    subst h
    exact ⟨s.hw.seqs, s.hw.lastDisc, .refl s⟩
  next =>
    obtain ⟨seqs, hsent, -⟩ := (s.modHw (fun h => { h with mode := m })).sendDisc_spec
    exact ⟨seqs, _, hsent⟩

theorem State.ringWhole_iff (s : State) : s.ringWhole = true ↔ s.hw.ports.a.up = true ∧ s.hw.ports.b.up = true ∧
    ∀ m ∈ s.hw.members, m.h0Up = true ∧ m.h1Up = true := by
  simp only [State.ringWhole, Bool.and_eq_true, List.all_eq_true, and_assoc]

/-- The window goes on where the ring has become whole within it. -/
def State.extendWindow (s : State) : State :=
  match s.hw.wholeSince with
  | some u => if s.now < u + us (hwMemberWindow s) then s.modHw (fun h => { h with windowAt := some (u + us (hwMemberWindow s)) }) else s
  | none => s

/-- The window that follows at the end of one. -/
def State.nextWindow (s : State) : Option Nat :=
  match s.hw.wholeSince with
  | some w => if s.now < w + 6400 * hwMemberWindow s then some (w + 6400 * hwMemberWindow s) else none
  | none => none

theorem State.extendWindow_eq {s : State} (h : s.hw.windowAt = none) : s.extendWindow = { s with hw := { s.hw with windowAt := s.nextWindow } } := by
  unfold State.extendWindow State.nextWindow
  cases s.hw.wholeSince with
  | none => exact congrArg (fun w => ({ s with hw := { s.hw with windowAt := w } } : State)) h
  | some u =>
    by_cases hlt : s.now < u + us (hwMemberWindow s)
    · exact (if_pos hlt).trans (congrArg (fun w => ({ s with hw := { s.hw with windowAt := w } } : State)) (if_pos hlt).symm)
    · exact (if_neg hlt).trans (congrArg (fun w => ({ s with hw := { s.hw with windowAt := w } } : State)) (h.trans (if_neg hlt).symm))

/-- The mode judged at the end of a window (R874). -/
def State.judgedMode (s : State) : HwMode := if s.ringWhole && s.hw.windowAt.isNone then .ring else s.lineOrAlone

theorem execMemberWindowEnd_of_past {s : State} {u : Nat} (h : s.hw.windowAt = some u) (hu : u ≤ s.now) :
    execMemberWindowEnd s = .next (let v := ((s.modHw (fun h => { h with windowAt := none })).formMembership true).extendWindow
      v.setHwMode v.judgedMode) := by
  rw [execMemberWindowEnd, h]
  exact if_neg (Nat.not_lt.2 hu)

/-- Settles the part of O41 about MEMBER_WINDOW_END, where the window is over. -/
theorem memberWindowEnd_forms {s : State} {u : Nat} (h : s.hw.windowAt = some u) (hu : u ≤ s.now) : ∃ t, exec .memberWindowEnd s = .next t ∧
    t.hw.memberSet = s.heardDevices ∧ t.hw.windowAt = s.nextWindow ∧
    t.hw.mode = (if t.hw.windowAt = none ∧ s.hw.ports.a.up = true ∧ s.hw.ports.b.up = true ∧
        ∀ m ∈ s.hw.members, m.h0Up = true ∧ m.h1Up = true then .ring
      else if s.hw.ports.a.up = true ∨ s.hw.ports.b.up = true then .line else .alone) ∧
    t.hw.master = s.membered.hw.master ∧
    ((∀ d, d ∈ s.heardDevices ↔ d ∈ s.hw.memberSet) → t = { s with hw := t.hw }) ∧
    (¬ (∀ d, d ∈ s.heardDevices ↔ d ∈ s.hw.memberSet) → ∃ e ∈ t.flt.transit, e.src = srcHwRingChange ∧ e.time = s.now) := by
  obtain ⟨hhw, hblank, hsame, hring⟩ := (s.modHw (fun h => { h with windowAt := none })).formMembership_spec true
  refine ⟨_, execMemberWindowEnd_of_past h hu, ?_⟩
  dsimp only
  generalize (s.modHw (fun h => { h with windowAt := none })).formMembership true = v at hhw hblank hsame hring ⊢
  have hwin : v.hw.windowAt = none := by
    rw [hhw]
    rfl
  have hrest := State.eq_take hblank
  have hnext : v.nextWindow = s.nextWindow := by
    unfold State.nextWindow
    rw [hhw, hrest]
    rfl
  rw [State.extendWindow_eq hwin, hnext]
  obtain ⟨seqs, last, hsent⟩ := State.setHwMode_spec { v with hw := { v.hw with windowAt := s.nextWindow } }
    (State.judgedMode { v with hw := { v.hw with windowAt := s.nextWindow } })
  have hmode : State.judgedMode { v with hw := { v.hw with windowAt := s.nextWindow } } = (if s.nextWindow = none ∧ s.hw.ports.a.up = true ∧
      s.hw.ports.b.up = true ∧ ∀ m ∈ s.hw.members, m.h0Up = true ∧ m.h1Up = true then .ring
      else if s.hw.ports.a.up = true ∨ s.hw.ports.b.up = true then .line else .alone) := by
    have hwhole := State.ringWhole_iff { v with hw := { v.hw with windowAt := s.nextWindow } }
    rw [hhw] at hwhole ⊢
    unfold State.judgedMode
    refine if_congr ?_ rfl (if_congr ?_ rfl rfl)
    · rw [Bool.and_eq_true, hwhole, Option.isNone_iff_eq_none]
      exact and_comm
    · exact Bool.or_eq_true _ _ ▸ Iff.rfl
  generalize State.setHwMode _ _ = t at hsent ⊢
  have ht := hsent.rest
  refine ⟨?_, ?_, ?_, ?_, fun hs => ?_, fun hs => ?_⟩
  · rw [ht]
    exact (congrArg Hawser.memberSet hhw :)
  · rw [ht]
  · rw [ht]
    exact hmode
  · rw [ht]
    exact (congrArg Hawser.master hhw :)
  · rw [ht, hsame hs]
    rfl
  · obtain ⟨e, he, hsrc, htime⟩ := hring hs
    refine ⟨e, ?_, hsrc, htime⟩
    rw [ht]
    exact he

/-! ### HW_DISC, HW_TOPO, DISC_EXPIRY -/

/-- The members heard, with what a DISC tells of its sender. -/
def State.withMember (s : State) (h : HwHeader) (d : HwDisc) : List Member :=
  ⟨h.src.toNat / 512 % 8, d.serial, d.h0Up, d.h1Up, d.timePrio, s.now⟩ :: s.hw.members.filter (fun m => m.device != h.src.toNat / 512 % 8)

/-- The device with a DISC heard. -/
def State.hear (s : State) (h : HwHeader) (d : HwDisc) : State := s.modHw (fun x => { x with members := s.withMember h d })

theorem State.takeDisc_eq (s : State) (h : HwHeader) (d : HwDisc) : s.takeDisc h d =
    let s1 := (s.hear h d).trackWhole
    if s1.hw.windowAt.isSome then s1
    else
      let s2 := s1.formMembership false
      if s2.hw.mode = .line ∧ s2.ringWhole = true then s2.modHw (fun x => { x with windowAt := some (x.wholeSince.getD s2.now + us (hwMemberWindow s2)) })
      else s2 := rfl

theorem State.takeDisc_spec (s : State) (h : HwHeader) (d : HwDisc) : (s.takeDisc h d).hw.members = s.withMember h d ∧
    (∀ u, s.hw.windowAt = some u → (s.takeDisc h d).hw.memberSet = s.hw.memberSet ∧ (s.takeDisc h d).hw.windowAt = some u ∧
      s.takeDisc h d = { s with hw := (s.takeDisc h d).hw }) ∧
    (s.hw.windowAt = none → ∀ x : Nat, x ∈ (s.takeDisc h d).hw.memberSet ↔ x = s.ownDevice ∨ (x < 8 ∧ ∃ m ∈ s.withMember h d, m.device = x)) := by
  obtain ⟨w, hw⟩ : ∃ w, (s.hear h d).trackWhole = { s with hw := { s.hw with members := s.withMember h d, wholeSince := w } } := ⟨_, rfl⟩
  rw [State.takeDisc_eq]
  dsimp only
  rw [hw]
  cases hwin : s.hw.windowAt with
  | some u =>
    rw [if_pos (show (some u).isSome = true from rfl)]
    exact ⟨rfl, fun v hv => ⟨rfl, hwin.trans hv, rfl⟩, nofun⟩
  | none =>
    obtain ⟨hhw, -⟩ := State.formMembership_spec { s with hw := { s.hw with members := s.withMember h d, wholeSince := w } } false
    rw [if_neg (show ¬ (none : Option Nat).isSome = true from Bool.false_ne_true)]
    generalize State.formMembership _ false = v at hhw ⊢
    have hlast : ∀ c : Prop, ∀ [Decidable c], ∀ a : Hawser → Option Nat, (if c then v.modHw (fun x => { x with windowAt := a x }) else v).hw.members = v.hw.members ∧
        (if c then v.modHw (fun x => { x with windowAt := a x }) else v).hw.memberSet = v.hw.memberSet := fun c _ a => by
      split <;> exact ⟨rfl, rfl⟩
    refine ⟨(hlast _ _).1.trans (congrArg Hawser.members hhw :), nofun, fun _ x => ?_⟩
    have hset : v.hw.memberSet = State.heardDevices { s with hw := { s.hw with members := s.withMember h d, wholeSince := w } } := (congrArg Hawser.memberSet hhw :)
    rw [(hlast _ _).2, hset]
    exact State.mem_heardDevices

theorem State.raiseConflict_spec (s : State) (h : HwHeader) (d : HwDisc) : ∃ cs, (s.raiseConflict h d).hw = { s.hw with conflicts := cs } ∧
    (h.src, d.serial) ∈ cs ∧ ((h.src, d.serial) ∉ s.hw.conflicts → Raised s (s.raiseConflict h d) srcHwIdConflict 0xFF) ∧
    ((h.src, d.serial) ∈ s.hw.conflicts → (s.raiseConflict h d).flt = s.flt) ∧
    s.raiseConflict h d = { s with hw := (s.raiseConflict h d).hw, flt := (s.raiseConflict h d).flt } := by
  unfold State.raiseConflict
  split
  next hc => exact ⟨s.hw.conflicts, rfl, List.contains_iff_mem.1 hc, fun hn => absurd (List.contains_iff_mem.1 hc) hn, fun _ => rfl, rfl⟩
  next hc => exact ⟨_, rfl, List.mem_cons_self, fun _ => ⟨_, rfl, rfl, rfl, rfl⟩, fun hm => absurd (List.contains_iff_mem.2 hm) hc, rfl⟩

/-- Receipt asks nothing of the senders in conflict. -/
theorem State.receipt_raiseConflict (s : State) (h : HwHeader) (d : HwDisc) (p : Side) (ty : Nat) (k : HwHeader) :
    (s.raiseConflict h d).receipt p ty k = s.receipt p ty k := by
  unfold State.raiseConflict
  split <;> rfl

/-- Settles the part of O41 about a DISC of another hierarchy. -/
theorem hwDisc_conflicts {p : Side} {h : HwHeader} {d : HwDisc} {s : State} (hm : s.hw.mode ≠ .alone) (hu : (s.hw.ports.get p).up = true)
    (hc : s.discConflict h d = true) : ∃ t, exec (.hwDisc p h d) s = .next t ∧ t.hw.members = s.hw.members ∧ t.hw.memberSet = s.hw.memberSet ∧
      t.hw.mode = s.hw.mode ∧ (h.src, d.serial) ∈ t.hw.conflicts ∧ ((h.src, d.serial) ∉ s.hw.conflicts → Raised s t srcHwIdConflict 0xFF) ∧
      ((h.src, d.serial) ∈ s.hw.conflicts → t.flt = s.flt) ∧
      (∀ ttl, s.receipt p 0x10 h = .forward ttl → ttl = h.ttl - 1 ∧ HwFrame.disc { h with ttl := ttl } d ∈ (t.hw.ports.get p.other).tx) ∧
      t = { s with hw := t.hw, flt := t.flt } := by
  have hno : ¬ (s.hw.mode = .alone ∨ (s.hw.ports.get p).up = false) := by
    rintro (h | h)
    · exact hm h
    · rw [hu] at h
      cases h
  obtain ⟨cs, hhw, hmem, hnew, hold, hrest⟩ := s.raiseConflict_spec h d
  have hrec := s.receipt_raiseConflict h d p 0x10 h
  refine ⟨_, (if_neg hno).trans (if_pos hc), ?_⟩
  generalize s.raiseConflict h d = u at hhw hnew hold hrest hrec ⊢
  by_cases hd : u.receipt p 0x10 h = .drop
  · rw [State.receive_of_drop hd, hhw]
    refine ⟨rfl, rfl, rfl, hmem, hnew, hold, fun ttl ht => ?_, hhw ▸ hrest⟩
    rw [← hrec, hd] at ht
    cases ht
  · obtain ⟨hsent, hfwd⟩ := State.receive_spec hd (fun k => .disc k d) id
    rw [hrec] at hfwd
    generalize u.receive p 0x10 h _ id = t at hsent hfwd ⊢
    have ht := hsent.rest
    have hflt : t.flt = u.flt := by
      rw [ht]
      rfl
    refine ⟨?_, ?_, ?_, ?_, fun hn => ?_, fun ho => hflt.trans (hold ho), hfwd, ?_⟩
    · rw [ht]
      exact (congrArg Hawser.members hhw :)
    · rw [ht]
      exact (congrArg Hawser.memberSet hhw :)
    · rw [ht]
      exact (congrArg Hawser.mode hhw :)
    · rw [ht]
      change _ ∈ u.hw.conflicts
      rw [hhw]
      exact hmem
    · obtain ⟨e, he⟩ := hnew hn
      exact ⟨e, hflt.trans he.1, he.2⟩
    · rw [ht, hrest]
      rfl

/-- Settles the part of O41 about the DISC of a member. -/
theorem hwDisc_takes {p : Side} {h : HwHeader} {d : HwDisc} {s : State} (hc : s.discConflict h d = false) (hd : s.receipt p 0x10 h ≠ .drop) :
    ∃ t, exec (.hwDisc p h d) s = .next t ∧ t.hw.members = s.withMember h d ∧
      (∀ ttl, s.receipt p 0x10 h = .forward ttl → ttl = h.ttl - 1 ∧ HwFrame.disc { h with ttl := ttl } d ∈ (t.hw.ports.get p.other).tx) ∧
      (∀ u, s.hw.windowAt = some u → t.hw.memberSet = s.hw.memberSet ∧ t.hw.windowAt = some u ∧ t = { s with hw := t.hw }) ∧
      (s.hw.windowAt = none → ∀ x : Nat, x ∈ t.hw.memberSet ↔ x = s.ownDevice ∨ (x < 8 ∧ ∃ m ∈ s.withMember h d, m.device = x)) := by
  have hno : ¬ (s.hw.mode = .alone ∨ (s.hw.ports.get p).up = false) := fun h => hd ((s.receipt_drop_iff p _ _).2 (h.elim .inl fun h => .inr (.inl h)))
  obtain ⟨hmem, hopen, hclosed⟩ := (s.noteFrame 0x10 h).takeDisc_spec h d
  obtain ⟨hsent, hfwd⟩ := State.receive_spec hd (fun k => .disc k d) (fun t => t.takeDisc h d)
  refine ⟨_, (if_neg hno).trans (if_neg (by rw [hc]; exact Bool.false_ne_true)), ?_⟩
  generalize s.receive p 0x10 h _ _ = t at hsent hfwd ⊢
  generalize (s.noteFrame 0x10 h).takeDisc h d = v at hmem hopen hclosed hsent
  have ht := hsent.rest
  refine ⟨?_, hfwd, fun u hu => ?_, fun hn x => ?_⟩
  · rw [ht]
    exact hmem
  · obtain ⟨h1, h2, h3⟩ := hopen u hu
    rw [ht]
    refine ⟨h1, h2, ?_⟩
    rw [h3]
    rfl
  · rw [ht]
    exact hclosed hn x

/-- Settles the part of O41 about TOPO (R872, R873). -/
theorem hwTopo_opens {p : Side} {h : HwHeader} {lost : Bool} {port : Side} {s : State} (hd : s.receipt p 0x11 h ≠ .drop) :
    ∃ t, exec (.hwTopo p h lost port) s = .next t ∧
      t.hw.mode = .line ∧ t.hw.windowAt = some (s.now + 6400 * hwMemberWindow s) ∧ t.hw.members = [] ∧ t.hw.memberSet = s.hw.memberSet ∧
      (∀ ttl, s.receipt p 0x11 h = .forward ttl → ttl = h.ttl - 1 ∧ HwFrame.topo { h with ttl := ttl } lost port ∈ (t.hw.ports.get p.other).tx) ∧
      t = { s with hw := t.hw } := by
  obtain ⟨hsent, hfwd⟩ := State.receive_spec hd (fun k => .topo k lost port) (fun t => (t.setHwMode .line).openWindowHw)
  obtain ⟨seqs, last, hmode⟩ := (s.noteFrame 0x11 h).setHwMode_spec .line
  refine ⟨_, rfl, ?_⟩
  generalize s.receive p 0x11 h _ _ = t at hsent hfwd ⊢
  generalize (s.noteFrame 0x11 h).setHwMode .line = v at hmode hsent
  obtain ⟨w, hw⟩ := v.openWindowHw_eq
  rw [hw] at hsent
  have ht := hsent.rest
  have hv := hmode.rest
  rw [hv] at ht
  refine ⟨?_, ?_, ?_, ?_, hfwd, ?_⟩
  all_goals rw [ht]
  all_goals rfl

/-- Settles the part of O41 about DISC_EXPIRY, where all that was heard of a member is old. -/
theorem discExpiry_forms {dev : BitVec 3} {s : State} (hex : ∃ m ∈ s.hw.members, m.device = dev.toNat ∧ m.at_ + 3 * (6400 * hwDiscPeriod s) ≤ s.now)
    (hall : ∀ m ∈ s.hw.members, m.device = dev.toNat → m.device = dev.toNat ∧ m.at_ + 3 * (6400 * hwDiscPeriod s) ≤ s.now) :
    ∃ t, exec (.discExpiry dev) s = .next t ∧ t.hw.members = s.hw.members.filter (fun m => m.device != dev.toNat) ∧
      (∀ d : Nat, d ∈ t.hw.memberSet ↔ d = s.ownDevice ∨ (d < 8 ∧ ∃ m ∈ t.hw.members, m.device = d)) ∧
      (¬ (∀ d, d ∈ t.hw.memberSet ↔ d ∈ s.hw.memberSet) → ∃ e ∈ t.flt.transit, e.src = srcHwRingChange ∧ e.time = s.now) := by
  have hany : s.hw.members.any (fun m => m.device == dev.toNat && decide (m.at_ + 3 * us (hwDiscPeriod s) ≤ s.now)) = true := by
    obtain ⟨m, hm, hd, hlt⟩ := hex
    exact List.any_eq_true.2 ⟨m, hm, by rw [hd, beq_self_eq_true]; exact decide_eq_true hlt⟩
  have hfilter : s.hw.members.filter (fun m => !(m.device == dev.toNat && decide (m.at_ + 3 * us (hwDiscPeriod s) ≤ s.now))) =
      s.hw.members.filter (fun m => m.device != dev.toNat) := by
    refine List.filter_congr fun m hm => ?_
    by_cases hd : m.device = dev.toNat
    · have hlt : decide (m.at_ + 3 * us (hwDiscPeriod s) ≤ s.now) = true := decide_eq_true (hall m hm hd).2
      rw [hlt, Bool.and_true]
      rfl
    · rw [beq_false_of_ne hd, Bool.false_and]
      exact (bne_iff_ne.2 hd).symm
  have hs1 : ∃ w, (s.modHw (fun h => { h with members := h.members.filter (fun m =>
      !(m.device == dev.toNat && decide (m.at_ + 3 * us (hwDiscPeriod s) ≤ s.now))) })).trackWhole =
      { s with hw := { s.hw with members := s.hw.members.filter (fun m => m.device != dev.toNat), wholeSince := w } } := by
    rw [State.modHw, hfilter]
    exact ⟨_, rfl⟩
  obtain ⟨w, hw⟩ := hs1
  refine ⟨_, if_pos hany, ?_⟩
  rw [hw]
  obtain ⟨hhw, -, -, hring⟩ := State.formMembership_spec
    { s with hw := { s.hw with members := s.hw.members.filter (fun m => m.device != dev.toNat), wholeSince := w } } true
  generalize State.formMembership _ true = t at hhw hring ⊢
  have hset : ∀ d, d ∈ t.hw.memberSet ↔ d ∈ State.heardDevices
      { s with hw := { s.hw with members := s.hw.members.filter (fun m => m.device != dev.toNat), wholeSince := w } } := fun d => by
    rw [hhw]
    rfl
  have hmem : t.hw.members = s.hw.members.filter (fun m => m.device != dev.toNat) := (congrArg Hawser.members hhw :)
  refine ⟨hmem, fun d => ?_, fun hn => hring fun h => hn fun d => (hset d).trans (h d)⟩
  rw [hset, hmem]
  exact State.mem_heardDevices

/-! ### O41 -/

/-- Settles O41: receipt, DISC, TOPO, the end of the window and the expiry of a member. -/
theorem hawserMembers : Obligations.HawserMembers := by
  unfold Obligations.HawserMembers
  refine ⟨fun p ty h s => s.receipt_drop_iff p ty h, fun p h d s => ?_, fun p h lost port s => ⟨fun hd => ?_, hwTopo_opens⟩, fun s => ⟨fun hlate => ?_, fun u h hu => ?_⟩,
    fun dev s => ?_⟩
  · intro heard onward
    refine ⟨fun h => if_pos h, fun hm hu hc => hwDisc_conflicts hm hu hc, fun hc hd => ?_, fun hc hd => hwDisc_takes hc hd⟩
    have hrec : s.receive p 0x10 h (fun k => .disc k d) (fun t => t.takeDisc h d) = s := State.receive_of_drop hd _ _
    rw [exec, execHwDisc]
    split
    · rfl
    · rw [if_neg (by rw [hc]; exact Bool.false_ne_true), hrec]
  · rw [exec, execHwTopo, State.receive_of_drop hd]
  · rw [exec, execMemberWindowEnd]
    cases hw : s.hw.windowAt with
    | none => rfl
    | some u => exact if_pos (hlate u hw)
  · obtain ⟨t, ht, hset, hwin, hmode, hmaster, hsame, hring⟩ := memberWindowEnd_forms h hu
    refine ⟨t, ht, fun d => hset ▸ State.mem_heardDevices, ?_, hmode, ?_, fun hs => hsame (hset ▸ hs), fun hs => hring (hset ▸ hs)⟩
    · rw [hwin]
      rfl
    · rw [hmaster, ← s.candidates_membered]
      exact State.electMaster_spec _
  · intro old
    refine ⟨fun hn => if_neg ?_, fun hex hall => discExpiry_forms hex hall⟩
    rw [List.any_eq_true]
    rintro ⟨m, hm, he⟩
    rw [Bool.and_eq_true, beq_iff_eq] at he
    exact hn ⟨m, hm, he.1, of_decide_eq_true he.2⟩

end Sys2Proof.Machine
end

section
namespace Sys2Proof.Machine

/-! ### Time alignment (R877 to R880) -/

theorem execHwTimeSend_of_due {s : State} (h : s.hw.mode ≠ .alone ∧ s.hw.master = s.ownDevice ∧ s.hw.lastSent + 6400 * hwTimePeriod s ≤ s.now) :
    execHwTimeSend s = .next ((s.originate s.prot.hwAddress 0x12 (fun h => .time h (BitVec.ofNat 64 s.now) 0)).modHw (fun h => { h with lastSent := s.now })) :=
  if_pos h

/-- Settles the part of O42 about HW_TIME_SEND. -/
theorem hwTimeSend_sends {s : State} (h : s.hw.mode ≠ .alone ∧ s.hw.master = s.ownDevice ∧ s.hw.lastSent + 6400 * hwTimePeriod s ≤ s.now) :
    ∃ t, exec .hwTimeSend s = .next t ∧
      (∀ p : Side, p ∈ s.originPorts → ∃ h, HwFrame.time h (BitVec.ofNat 64 s.now) 0 ∈ (t.hw.ports.get p).tx ∧ h.ttl = 8 ∧ h.src = s.prot.hwAddress) ∧
      (∀ p : Side, t.hw.ports.get p = { s.hw.ports.get p with tx := (t.hw.ports.get p).tx }) ∧
      t = { s with hw := { s.hw with ports := t.hw.ports, seqs := t.hw.seqs, lastSent := s.now } } := by
  obtain ⟨seqs, hsent, n, hmem⟩ := s.originate_spec s.prot.hwAddress 0x12 (fun h => .time h (BitVec.ofNat 64 s.now) 0)
  refine ⟨_, execHwTimeSend_of_due h, ?_⟩
  generalize s.originate s.prot.hwAddress 0x12 _ = t at hsent hmem ⊢
  refine ⟨fun p hp => ⟨_, hmem p hp, rfl, rfl⟩, hsent.port, ?_⟩
  have ht := hsent.rest
  rw [ht]
  rfl

theorem State.allOff_iff (s : State) : allQuays.all (fun q => !s.outsideOff q) = true ↔ ∀ q : QuayNo, s.quay[q].core.st = .off := by
  rw [List.all_eq_true]
  have hq : ∀ q, (!s.outsideOff q) = true ↔ s.quay[q].core.st = .off := fun q => by
    rw [Bool.not_eq_true', State.outsideOff, bne_eq_false_iff_eq]
  exact ⟨fun h q => (hq q).1 (h q (List.mem_finRange q)), fun h q _ => (hq q).2 (h q)⟩

/-- What the correction by an offset makes of the time base (R89 to R91). -/
def State.Corrects (s : State) (off : Int) (u : TimeBase) : Prop :=
  ((∀ q : QuayNo, s.quay[q].core.st = .off) → 0 < off → (u.now : Int) = min ((s.now : Int) + off) 18446744073709551615 ∧
    (∀ m : Fin 4, u.sdc[m] = s.tb.sdc[m] + off) ∧
    u = { s.tb with now := u.now, sdc := u.sdc, slewing := false, slewRate := 0, slewLeft := 0, slewAcc := 0 }) ∧
  ((∃ q : QuayNo, s.quay[q].core.st ≠ .off) ∨ off ≤ 0 → u = { s.tb with
    slewing := decide (off ≠ 0), slewLeft := off, slewAcc := u.slewAcc,
    slewRate := if off = 0 then 0 else if 0 < off then (tbSlewLimit s : Int) else -(tbSlewLimit s : Int) })

theorem State.correct_spec (s : State) (off : Int) : s.Corrects off (s.correct off).tb ∧ s.correct off = { s with tb := (s.correct off).tb } := by
  unfold State.correct
  split
  next h =>
    obtain ⟨hpos, hoff⟩ := h
    have hall := s.allOff_iff.1 hoff
    refine ⟨⟨fun _ _ => ⟨?_, fun m => ?_, rfl⟩, fun hc => ?_⟩, rfl⟩
    · change ((min ((s.now : Int) + off).toNat lastTime : Nat) : Int) = _
      rw [lastTime]
      omega
    · exact Vector.getElem_map _ _
    · obtain ⟨q, hq⟩ | hle := hc
      · exact absurd (hall q) hq
      · omega
  next h =>
    refine ⟨⟨fun hall hpos => absurd ⟨hpos, s.allOff_iff.2 hall⟩ h, fun _ => rfl⟩, rfl⟩

/-- The time base where alignment ends: no correction goes on (R880). -/
def TimeBase.settled (u : TimeBase) : TimeBase := { u with slewing := false, slewRate := 0, slewLeft := 0 }

theorem State.loseAlignment_spec (s : State) : s.loseAlignment.hw = { s.hw with aligned := false } ∧ s.loseAlignment.tb = s.tb.settled ∧
    Raised s s.loseAlignment srcHwAlignLost 0xFF ∧ s.loseAlignment = { s with hw := s.loseAlignment.hw, tb := s.loseAlignment.tb, flt := s.loseAlignment.flt } :=
  ⟨rfl, rfl, ⟨_, rfl, rfl, rfl, rfl⟩, rfl⟩

/-- What a TIME frame of the master does with its offset (R879, R880). -/
def State.Aligns (s : State) (off : Int) (t : State) : Prop :=
  t.hw.offset = off ∧ t.hw.lastTime = s.now ∧
  (off.natAbs ≤ hwAlignLost s → t.hw.aligned = (s.hw.aligned || decide (off.natAbs ≤ 6)) ∧ t.flt = s.flt ∧ s.Corrects off t.tb) ∧
  (hwAlignLost s < off.natAbs → s.hw.aligned = false → t.hw.aligned = false ∧ t.flt = s.flt ∧ s.Corrects off t.tb) ∧
  (hwAlignLost s < off.natAbs → s.hw.aligned = true → t.hw.aligned = false ∧ Raised s t srcHwAlignLost 0xFF ∧ t.tb = s.tb.settled) ∧
  t = { s with hw := t.hw, tb := t.tb, flt := t.flt, free := t.free }

theorem State.takeTime_spec (s : State) (p : Side) (stamp : Dword) (corr : Word) :
    s.Aligns ((stamp.toNat : Int) + corr.toNat + (s.hw.ports.get p).delay.toNat - s.now) (s.takeTime p stamp corr) := by
  have hcast : ((stamp.toNat + corr.toNat + (s.hw.ports.get p).delay.toNat : Nat) : Int) - (s.now : Int) =
      (stamp.toNat : Int) + corr.toNat + (s.hw.ports.get p).delay.toNat - s.now := by
    rw [Nat.cast_add, Nat.cast_add]
  unfold State.takeTime
  dsimp only
  rw [hcast]
  generalize (stamp.toNat : Int) + corr.toNat + (s.hw.ports.get p).delay.toNat - s.now = off
  by_cases hfar : (hwAlignLost s : Int) < off.natAbs
  · rw [if_pos hfar]
    by_cases ha : s.hw.aligned = true
    · rw [if_pos ha]
      refine ⟨rfl, rfl, fun h => absurd hfar (by omega), fun _ h => ?_, fun _ _ => ⟨rfl, ⟨_, rfl, rfl, rfl, rfl⟩, rfl⟩, rfl⟩
      rw [ha] at h
      cases h
    · rw [if_neg ha]
      obtain ⟨hc, hrest⟩ := (s.modHw (fun h => { h with offset := off, lastTime := s.now })).correct_spec off
      generalize State.correct _ off = t at hc hrest ⊢
      have hal : s.hw.aligned = false := Bool.eq_false_iff.2 ha
      refine ⟨?_, ?_, fun h => absurd hfar (by omega), fun _ _ => ⟨?_, ?_, hc⟩, fun _ h => absurd h ha, ?_⟩
      all_goals rw [hrest]
      case refine_3 => exact hal
      all_goals rfl
  · rw [if_neg hfar]
    obtain ⟨hc, hrest⟩ := ((s.modHw (fun h => { h with offset := off, lastTime := s.now })).modHw
      (fun h => { h with aligned := h.aligned || decide (off.natAbs ≤ 6) })).correct_spec off
    generalize State.correct _ off = t at hc hrest ⊢
    refine ⟨?_, ?_, fun _ => ⟨?_, ?_, hc⟩, fun h => absurd h (by omega), fun h => absurd h (by omega), ?_⟩
    all_goals rw [hrest]
    all_goals rfl

/-- A TIME frame that is not dropped, of the master or of another device. -/
theorem hwTime_received {p : Side} {h : HwHeader} {stamp : Dword} {corr : Word} {s : State} (hd : s.receipt p 0x12 h ≠ .drop) :
    ∃ t, exec (.hwTime p h stamp corr) s = .next t ∧
      Sent (if deviceField h.src = s.hw.master then (s.noteFrame 0x12 h).drawn.takeTime p stamp corr else (s.noteFrame 0x12 h).drawn) t :=
  ⟨_, rfl, (State.receive_spec hd (fun k => .time k stamp (corr + (s.hw.ports.get p).delay + Config.freeWord s.free))
    (fun t => if deviceField h.src = t.hw.master then t.drawn.takeTime p stamp corr else t.drawn)).1⟩

/-- Settles the part of O42 about the TIME frame of the master. -/
theorem hwTime_aligns {p : Side} {h : HwHeader} {stamp : Dword} {corr : Word} {s : State} (hd : s.receipt p 0x12 h ≠ .drop)
    (hm : deviceField h.src = s.hw.master) : ∃ t, exec (.hwTime p h stamp corr) s = .next t ∧
      s.Aligns ((stamp.toNat : Int) + corr.toNat + (s.hw.ports.get p).delay.toNat - s.now) t := by
  obtain ⟨t, ht, hsent⟩ := hwTime_received (stamp := stamp) (corr := corr) hd
  rw [if_pos hm] at hsent
  obtain ⟨hoff, hlast, hnear, hfar, hlost, hrest⟩ := (s.noteFrame 0x12 h).drawn.takeTime_spec p stamp corr
  generalize (s.noteFrame 0x12 h).drawn.takeTime p stamp corr = u at *
  have htu := hsent.rest
  have hflt : t.flt = u.flt := by rw [htu]
  have htb : t.tb = u.tb := by rw [htu]
  have hal : t.hw.aligned = u.hw.aligned := by rw [htu]
  refine ⟨t, ht, ?_, ?_, ?_, ?_, ?_, ?_⟩
  · rw [htu]
    exact hoff
  · rw [htu]
    exact hlast
  · rw [hal, hflt, htb]
    exact hnear
  · rw [hal, hflt, htb]
    exact hfar
  · rw [hal, htb]
    refine fun h1 h2 => ?_
    obtain ⟨ha, ⟨e, he⟩, hs⟩ := hlost h1 h2
    exact ⟨ha, ⟨e, hflt.trans he.1, he.2⟩, hs⟩
  · rw [htu, hrest]
    rfl

/-! ### Share frames (R559, R566, R567) -/

/-- What the arrival of a share value leaves: all but quays, and the slots in force. -/
structure ShareOnly (s t : State) : Prop where
  rest : t.blank [.quay] = s.blank [.quay]
  slot : ∀ q : QuayNo, t.quay[q].slotOld = s.quay[q].slotOld

namespace ShareOnly
variable {s t u : State}

theorem refl (s : State) : ShareOnly s s := ⟨rfl, fun _ => rfl⟩

theorem trans (h : ShareOnly s t) (k : ShareOnly t u) : ShareOnly s u := ⟨k.rest.trans h.rest, fun q => (k.slot q).trans (h.slot q)⟩

theorem modQuay (s : State) (q : QuayNo) {f : Quay → Quay} (hf : ∀ x, (f x).slotOld = x.slotOld) : ShareOnly s (s.modQuay q f) := by
  refine ⟨State.modQuay_blank s q (by simp) f, fun p => ?_⟩
  by_cases h : q = p
  · subst h
    rw [State.modQuay_self, hf]
  · rw [State.modQuay_ne s f h]

theorem loopPeriod (h : ShareOnly s t) (q : QuayNo) : t.loopPeriod q = s.loopPeriod q := by
  unfold State.loopPeriod State.slotInForce
  rw [h.slot q, State.eq_take h.rest]
  rfl

/-- Whether a share value is due depends on the value and the one before it. -/
theorem shareDue (h : ShareOnly s t) (k : ShareOnly s u) {q : QuayNo} (hv : t.quay[q].share.value = u.quay[q].share.value)
    (hp : t.quay[q].share.prior = u.quay[q].share.prior) (tm : Nat) : t.shareDue q tm = u.shareDue q tm := by
  have reads : ∀ {v : State}, ShareOnly s v → v.isMember = s.isMember ∧ quayShareRole v = quayShareRole s ∧ quayShaftGroup v = quayShaftGroup s ∧
      v.loopPeriod = s.loopPeriod := fun hv => by
    refine ⟨?_, ?_, ?_, funext hv.loopPeriod⟩ <;>
    · rw [State.eq_take hv.rest]
      rfl
  obtain ⟨h1, h2, h3, h4⟩ := reads h
  obtain ⟨k1, k2, k3, k4⟩ := reads k
  simp only [State.shareDue, State.masterPeriod, h1, h2, h3, h4, k1, k2, k3, k4, hv, hp]

end ShareOnly

/-- A share value at a follower (R566). -/
def Quay.shared (x : Quay) (src : Word) (v : HwShare) : Quay :=
  { x with share := { x.share with value := some v, prior := x.share.value, sender := src } }

theorem State.takeShare_eq (s : State) (q : QuayNo) (src : Word) (v : HwShare) : s.takeShare q src v =
    if (s.modQuay q (fun x => x.shared src v)).shareDue q s.quay[q].form.time then s.modQuay q (fun x => x.shared src v)
    else (s.modQuay q (fun x => x.shared src v)).inputArrived q .share := rfl

theorem State.inputArrived_share (s : State) (q : QuayNo) : ShareOnly s (s.inputArrived q .share) :=
  .modQuay s q fun x => by split <;> rfl

theorem State.takeShare_only (s : State) (q : QuayNo) (src : Word) (v : HwShare) : ShareOnly s (s.takeShare q src v) := by
  have h1 : ShareOnly s (s.modQuay q (fun x => x.shared src v)) := .modQuay s q fun _ => rfl
  rw [State.takeShare_eq]
  split
  · exact h1
  · exact h1.trans (State.inputArrived_share _ q)

theorem State.takeShare_ne (s : State) {q p : QuayNo} (src : Word) (v : HwShare) (h : q ≠ p) : (s.takeShare q src v).quay[p] = s.quay[p] := by
  rw [State.takeShare_eq]
  split
  · exact State.modQuay_ne s _ h
  · exact (State.modQuay_ne _ _ h).trans (State.modQuay_ne s _ h)

/-- What a share value does at a follower, where `due` says whether it is still waited for. -/
def Quay.taken (x : Quay) (src : Word) (v : HwShare) (due : Bool) : Quay :=
  { x with
    share := { x.share with value := some v, prior := x.share.value, sender := src }
    form := if due = false ∧ x.form.isOpen = true then { x.form with missing := x.form.missing.filter (fun i => i ≠ InputId.share) } else x.form }

theorem State.takeShare_self (s : State) (q : QuayNo) (src : Word) (v : HwShare) : (s.takeShare q src v).quay[q] =
    s.quay[q].taken src v ((s.modQuay q (fun x => x.shared src v)).shareDue q s.quay[q].form.time) := by
  have hfilter : ∀ ms : List InputId, ms.filter (fun i => i != InputId.share) = ms.filter (fun i => i ≠ InputId.share) := fun ms =>
    List.filter_congr fun i _ => by by_cases hi : i = .share <;> simp [hi]
  rw [State.takeShare_eq, Quay.taken]
  generalize hdue : (s.modQuay q (fun x => x.shared src v)).shareDue q s.quay[q].form.time = due
  cases due with
  | true =>
    rw [if_pos rfl, if_neg (by simp), State.modQuay_self]
    rfl
  | false =>
    rw [if_neg Bool.false_ne_true, State.inputArrived, State.modQuay_self, State.modQuay_self]
    change (if s.quay[q].form.isOpen then _ else _) = _
    by_cases ho : s.quay[q].form.isOpen = true
    · rw [if_pos ho, if_pos ⟨rfl, ho⟩, ← hfilter]
      rfl
    · rw [if_neg ho, if_neg fun h => ho h.2]
      rfl

/-- A share value with its sender's address, at the followers and the masters of its group. -/
def State.shareHeard (s : State) (g : Nat) (src : Word) (v : HwShare) : State :=
  forAll (if g = 0 then [] else s.localMasters g) (forAll (if g = 0 then [] else s.localFollowers g) s (fun u q => u.takeShare q src v))
    (fun u q => u.modQuay q (fun x => { x with share := { x.share with sender := src } }))

theorem mem_ite_nil {α : Type} {g : Nat} {a : α} {xs : List α} : a ∈ (if g = 0 then [] else xs) ↔ g ≠ 0 ∧ a ∈ xs := by
  by_cases h : g = 0
  · simp [h]
  · simp [h]

theorem nodup_ite_nil {α : Type} {g : Nat} {xs : List α} (h : xs.Nodup) : (if g = 0 then [] else xs).Nodup := by
  split
  · exact List.nodup_nil
  · exact h

theorem State.localFollowers_nodup (s : State) (g : Nat) : (s.localFollowers g).Nodup := by
  rw [State.localFollowers]
  exact (List.nodup_finRange 12).filter _

theorem State.localMasters_nodup (s : State) (g : Nat) : (s.localMasters g).Nodup := by
  rw [State.localMasters]
  exact (List.nodup_finRange 12).filter _

/-- A quay follows or leads. -/
theorem State.follower_not_master {s : State} {g : Nat} {q : QuayNo} (h : q ∈ s.localFollowers g) : q ∉ s.localMasters g := by
  intro hm
  have h1 := (List.mem_filter.1 h).2
  have h2 := (List.mem_filter.1 hm).2
  simp only [Bool.and_eq_true, beq_iff_eq] at h1 h2
  omega

theorem State.shareHeard_spec (s : State) (g : Nat) (src : Word) (v : HwShare) : ShareOnly s (s.shareHeard g src v) ∧
    (∀ q, g ≠ 0 ∧ q ∈ s.localFollowers g → (s.shareHeard g src v).quay[q] =
      s.quay[q].taken src v ((s.shareHeard g src v).shareDue q s.quay[q].form.time)) ∧
    (∀ q, g ≠ 0 ∧ q ∈ s.localMasters g → (s.shareHeard g src v).quay[q] = { s.quay[q] with share := { s.quay[q].share with sender := src } }) ∧
    (∀ q, ¬ (g ≠ 0 ∧ q ∈ s.localFollowers g) → ¬ (g ≠ 0 ∧ q ∈ s.localMasters g) → (s.shareHeard g src v).quay[q] = s.quay[q]) := by
  have hone : ∀ t q, ShareOnly t (t.takeShare q src v) := fun t q => t.takeShare_only q src v
  have htwo : ∀ t q, ShareOnly t (State.modQuay t q (fun x => { x with share := { x.share with sender := src } })) := fun t q => .modQuay t q fun _ => rfl
  have hfirst : ShareOnly s (forAll (if g = 0 then [] else s.localFollowers g) s (fun u q => u.takeShare q src v)) :=
    forAll_keeps (P := ShareOnly s) (.refl s) fun t ht q _ => ht.trans (hone t q)
  have hfoll : ∀ q, g ≠ 0 ∧ q ∈ s.localFollowers g → ∃ t, ShareOnly s t ∧ t.quay[q] = s.quay[q] ∧
      (forAll (if g = 0 then [] else s.localFollowers g) s (fun u q => u.takeShare q src v)).quay[q] = (t.takeShare q src v).quay[q] := fun q hq =>
    forAll_observe (P := ShareOnly s) (nodup_ite_nil (s.localFollowers_nodup g)) (mem_ite_nil.2 hq) (fun t => t.quay[q])
      (f := fun u q => u.takeShare q src v) (.refl s) (fun t ht q _ => ht.trans (hone t q)) fun t _ p _ hp => t.takeShare_ne src v hp
  have hrest : ∀ q, ¬ (g ≠ 0 ∧ q ∈ s.localFollowers g) →
      (forAll (if g = 0 then [] else s.localFollowers g) s (fun u q => u.takeShare q src v)).quay[q] = s.quay[q] := fun q hq =>
    forAll_keeps (P := fun t => t.quay[q] = s.quay[q]) rfl fun t ht p hp => (t.takeShare_ne src v fun (e : p = q) => hq (mem_ite_nil.1 (e ▸ hp))).trans ht
  unfold State.shareHeard
  generalize forAll (if g = 0 then [] else s.localFollowers g) s (fun u q => u.takeShare q src v) = u at hfirst hfoll hrest ⊢
  have hall : ShareOnly s (forAll (if g = 0 then [] else s.localMasters g) u
      (fun u q => u.modQuay q (fun x => { x with share := { x.share with sender := src } }))) :=
    hfirst.trans (forAll_keeps (P := ShareOnly u) (.refl u) fun t ht q _ => ht.trans (htwo t q))
  have hmast : ∀ q, g ≠ 0 ∧ q ∈ s.localMasters g → (forAll (if g = 0 then [] else s.localMasters g) u
      (fun u q => u.modQuay q (fun x => { x with share := { x.share with sender := src } }))).quay[q] =
      { u.quay[q] with share := { u.quay[q].share with sender := src } } := fun q hq => by
    obtain ⟨t, -, ht, hlast⟩ := forAll_observe (P := fun _ => True) (nodup_ite_nil (s.localMasters_nodup g)) (mem_ite_nil.2 hq) (fun t => t.quay[q]) (s := u)
      (f := fun u q => u.modQuay q (fun x => { x with share := { x.share with sender := src } })) trivial (fun _ _ _ _ => trivial)
      fun t _ p _ hp => State.modQuay_ne t _ hp
    rw [hlast, State.modQuay_self, ht]
  have hothers : ∀ q, ¬ (g ≠ 0 ∧ q ∈ s.localMasters g) → (forAll (if g = 0 then [] else s.localMasters g) u
      (fun u q => u.modQuay q (fun x => { x with share := { x.share with sender := src } }))).quay[q] = u.quay[q] := fun q hq =>
    forAll_keeps (P := fun t => t.quay[q] = u.quay[q]) rfl fun t ht p hp =>
      (State.modQuay_ne t _ fun (e : p = q) => hq (mem_ite_nil.1 (e ▸ hp))).trans ht
  refine ⟨hall, fun q hq => ?_, fun q hq => ?_, fun q hf hm => (hothers q hm).trans (hrest q hf)⟩
  · obtain ⟨t, ht, hsame, hlast⟩ := hfoll q hq
    have hq2 := hothers q fun hm => State.follower_not_master hq.2 hm.2
    have hself := t.takeShare_self q src v
    rw [hq2, hlast, hself, hsame]
    refine congrArg (s.quay[q].taken src v) (ShareOnly.shareDue (ht.trans (.modQuay t q (f := fun x => x.shared src v) fun _ => rfl)) hall ?_ ?_ _)
    · rw [State.modQuay_self, hq2, hlast, hself]
      rfl
    · rw [State.modQuay_self, hq2, hlast, hself]
      rfl
  · rw [hmast q hq, hrest q fun hf => State.follower_not_master hf.2 hq.2]

/-- The state after a share value, its group formed anew where it shows it otherwise than it was held (R559). -/
def State.shareFormed (u : State) (g : Nat) : State :=
  if g = 0 || (u.misformed true g == (u.groupMembers g).any (fun q => u.quay[q].share.config)) then u else u.formGroup true g

theorem execHwShare_eq (p : Side) (h : HwHeader) (v : HwShare) (s : State) : execHwShare p h v s =
    .next (s.receive p 0x20 h (fun h => .share h v) (fun t => (t.shareHeard (shaftField h.src) h.src v).shareFormed (shaftField h.src))) := rfl

/-- The groups of the frame are asked of a state that a noted frame leaves as it is. -/
theorem State.noteFrame_share (s : State) (ty : Nat) (h : HwHeader) (g : Nat) (src : Word) (v : HwShare) :
    ShareOnly (s.noteFrame ty h) ((s.noteFrame ty h).shareHeard g src v) := ((s.noteFrame ty h).shareHeard_spec g src v).1

/-- Settles the part of O42 about a share value that is not dropped. -/
theorem hwShare_shares {p : Side} {h : HwHeader} {v : HwShare} {s : State} (hd : s.receipt p 0x20 h ≠ .drop) :
    ∃ t, exec (.hwShare p h v) s = .next t ∧
      (∀ ttl, s.receipt p 0x20 h = .forward ttl → ttl = h.ttl - 1 ∧ HwFrame.share { h with ttl := ttl } v ∈ (t.hw.ports.get p.other).tx) ∧
      ∃ u : State, u = { s with quay := u.quay, hw := { s.hw with recent := u.hw.recent } } ∧
        (∀ q, shaftField h.src ≠ 0 ∧ q ∈ s.localFollowers (shaftField h.src) →
          u.quay[q] = s.quay[q].taken h.src v (u.shareDue q s.quay[q].form.time)) ∧
        (∀ q, shaftField h.src ≠ 0 ∧ q ∈ s.localMasters (shaftField h.src) → u.quay[q] = { s.quay[q] with share := { s.quay[q].share with sender := h.src } }) ∧
        (∀ q, ¬ (shaftField h.src ≠ 0 ∧ q ∈ s.localFollowers (shaftField h.src)) → ¬ (shaftField h.src ≠ 0 ∧ q ∈ s.localMasters (shaftField h.src)) →
          u.quay[q] = s.quay[q]) ∧ Sent (u.shareFormed (shaftField h.src)) t := by
  obtain ⟨hsent, hfwd⟩ := State.receive_spec hd (fun k => .share k v) (fun t => (t.shareHeard (shaftField h.src) h.src v).shareFormed (shaftField h.src))
  obtain ⟨honly, hf, hm, hn⟩ := (s.noteFrame 0x20 h).shareHeard_spec (shaftField h.src) h.src v
  refine ⟨_, congrArg Host.Outcome.next rfl, hfwd, _, ?_, hf, hm, hn, hsent⟩
  generalize (s.noteFrame 0x20 h).shareHeard (shaftField h.src) h.src v = u at honly
  rw [State.eq_take honly.rest]
  rfl

theorem State.shareFormed_spec {u : State} {g : Nat} :
    (g = 0 ∨ u.misformed true g = (u.groupMembers g).any (fun q => u.quay[q].share.config) → u.shareFormed g = u) ∧
    (¬ (g = 0 ∨ u.misformed true g = (u.groupMembers g).any (fun q => u.quay[q].share.config)) → u.shareFormed g = u.formGroup true g) := by
  have hc : (decide (g = 0) || (u.misformed true g == (u.groupMembers g).any (fun q => u.quay[q].share.config))) = true ↔
      (g = 0 ∨ u.misformed true g = (u.groupMembers g).any (fun q => u.quay[q].share.config)) := by
    rw [Bool.or_eq_true, decide_eq_true_eq, beq_iff_eq]
  exact ⟨fun h => if_pos (hc.2 h), fun h => if_neg (mt hc.1 h)⟩

/-! ### HW_SHARE_STAT -/

theorem State.takeStat_ne (s : State) {q p : QuayNo} (src : Word) (st : HwShareStat) (h : q ≠ p) : (s.takeStat q src st).quay[p] = s.quay[p] :=
  State.modQuay_ne s _ h

@[simp] theorem State.takeStat_blank {ps : List Part} (s : State) (q : QuayNo) (src : Word) (st : HwShareStat) (h : .quay ∈ ps) :
    (s.takeStat q src st).blank ps = s.blank ps := State.modQuay_blank s q (.inr h) _

/-- A follower's status stands at its master, fresh; other followers stay (R567). -/
theorem State.takeStat_self (s : State) (q : QuayNo) (src : Word) (st : HwShareStat) :
    (∃ f ∈ (s.takeStat q src st).quay[q].share.followers, f.addr = src ∧ f.stat = st ∧ f.fresh = true) ∧
    (∀ f : Follower, f.addr ≠ src → (f ∈ (s.takeStat q src st).quay[q].share.followers ↔ f ∈ s.quay[q].share.followers)) ∧
    (s.takeStat q src st).quay[q] = { s.quay[q] with share := { s.quay[q].share with followers := (s.takeStat q src st).quay[q].share.followers } } := by
  rw [State.takeStat, State.modQuay_self]
  have hcons : ∀ f : Follower, f.addr = src → ∀ g : Follower, g.addr ≠ src →
      (g ∈ f :: s.quay[q].share.followers.filter (fun e => e.addr != src) ↔ g ∈ s.quay[q].share.followers) := fun f hf g hg => by
    rw [List.mem_cons, List.mem_filter, bne_iff_ne]
    exact ⟨fun h => h.elim (fun e => absurd (e ▸ hf) hg) And.left, fun h => .inr ⟨h, hg⟩⟩
  cases hfind : s.quay[q].share.followers.find? (fun e => e.addr == src) with
  | none =>
    dsimp only
    rw [hfind]
    exact ⟨⟨_, List.mem_cons_self, rfl, rfl, rfl⟩, hcons _ rfl, rfl⟩
  | some e =>
    have he : e.addr = src := beq_iff_eq.1 (List.find?_some hfind :)
    dsimp only
    rw [hfind]
    exact ⟨⟨_, List.mem_cons_self, he, rfl, rfl⟩, hcons _ he, rfl⟩

/-- A share status at the masters of its group. -/
def State.statHeard (s : State) (g : Nat) (src : Word) (v : HwShareStat) : State :=
  forAll (if g = 0 then [] else s.localMasters g) s (fun u q => u.takeStat q src v)

theorem execHwShareStat_eq (p : Side) (h : HwHeader) (v : HwShareStat) (s : State) : execHwShareStat p h v s =
    .next (s.receive p 0x21 h (fun h => .shareStat h v) (fun t => t.statHeard (shaftField h.src) h.src v)) := rfl

theorem State.statHeard_spec (s : State) (g : Nat) (src : Word) (v : HwShareStat) : (s.statHeard g src v).blank [.quay] = s.blank [.quay] ∧
    (∀ q, g ≠ 0 ∧ q ∈ s.localMasters g → ∃ t : State, t.quay[q] = s.quay[q] ∧ (s.statHeard g src v).quay[q] = (t.takeStat q src v).quay[q]) ∧
    (∀ q, ¬ (g ≠ 0 ∧ q ∈ s.localMasters g) → (s.statHeard g src v).quay[q] = s.quay[q]) := by
  refine ⟨by simp [State.statHeard], fun q hq => ?_, fun q hq => ?_⟩
  · obtain ⟨t, -, ht, hlast⟩ := forAll_observe (P := fun _ => True) (nodup_ite_nil (s.localMasters_nodup g)) (mem_ite_nil.2 hq) (fun t => t.quay[q])
      (f := fun u q => u.takeStat q src v) trivial (fun _ _ _ _ => trivial) fun t _ p _ hp => t.takeStat_ne src v hp
    exact ⟨t, ht, hlast⟩
  · exact forAll_keeps (P := fun t => t.quay[q] = s.quay[q]) rfl fun t ht p hp =>
      (t.takeStat_ne src v fun (e : p = q) => hq (mem_ite_nil.1 (e ▸ hp))).trans ht

/-- Settles the part of O42 about a share status that is not dropped. -/
theorem hwShareStat_tells {p : Side} {h : HwHeader} {v : HwShareStat} {s : State} (hd : s.receipt p 0x21 h ≠ .drop) :
    ∃ t, exec (.hwShareStat p h v) s = .next t ∧
      (∀ ttl, s.receipt p 0x21 h = .forward ttl → ttl = h.ttl - 1 ∧ HwFrame.shareStat { h with ttl := ttl } v ∈ (t.hw.ports.get p.other).tx) ∧
      (∀ q, shaftField h.src ≠ 0 ∧ q ∈ s.localMasters (shaftField h.src) →
        (∃ f ∈ t.quay[q].share.followers, f.addr = h.src ∧ f.stat = v ∧ f.fresh = true) ∧
        (∀ f : Follower, f.addr ≠ h.src → (f ∈ t.quay[q].share.followers ↔ f ∈ s.quay[q].share.followers)) ∧
        t.quay[q] = { s.quay[q] with share := { s.quay[q].share with followers := t.quay[q].share.followers } }) ∧
      (∀ q, ¬ (shaftField h.src ≠ 0 ∧ q ∈ s.localMasters (shaftField h.src)) → t.quay[q] = s.quay[q]) ∧
      t = { s with quay := t.quay, hw := { s.hw with ports := t.hw.ports, recent := t.hw.recent } } := by
  obtain ⟨hsent, hfwd⟩ := State.receive_spec hd (fun k => .shareStat k v) (fun t => t.statHeard (shaftField h.src) h.src v)
  obtain ⟨hblank, hin, hout⟩ := (s.noteFrame 0x21 h).statHeard_spec (shaftField h.src) h.src v
  refine ⟨_, execHwShareStat_eq p h v s, ?_⟩
  generalize s.receive p 0x21 h _ _ = t at hsent hfwd ⊢
  generalize (s.noteFrame 0x21 h).statHeard (shaftField h.src) h.src v = u at hblank hin hout hsent
  have ht := hsent.rest
  have hquay : t.quay = u.quay := by rw [ht]
  refine ⟨hfwd, fun q hq => ?_, fun q hq => ?_, ?_⟩
  · obtain ⟨w, hw, hu⟩ := hin q hq
    have hself := w.takeStat_self q h.src v
    rw [hquay, hu]
    rw [hw] at hself
    exact hself
  · rw [hquay]
    exact hout q hq
  · rw [ht, State.eq_take hblank]
    rfl

/-! ### O42 -/

theorem exec_hwTime_of_drop {p : Side} {h : HwHeader} {s : State} (hd : s.receipt p 0x12 h = .drop) (stamp : Dword) (corr : Word) :
    exec (.hwTime p h stamp corr) s = .next s := congrArg Host.Outcome.next (State.receive_of_drop hd _ _)

/-- Settles O42: time alignment, share values and share statuses. -/
theorem hawserTime : Obligations.HawserTime := by
  unfold Obligations.HawserTime
  refine ⟨fun s => ⟨hwTimeSend_sends, fun h => if_neg h⟩, fun p h stamp corr s => ⟨fun hd => exec_hwTime_of_drop hd stamp corr, fun hd hm => ?_, fun hd hm => ?_⟩,
    fun s => ⟨fun h => ?_, fun h => if_neg h⟩, fun p h s => ?_⟩
  · obtain ⟨t, ht, hsent⟩ := hwTime_received (stamp := stamp) (corr := corr) hd
    rw [if_neg hm] at hsent
    refine ⟨t, ht, ?_⟩
    rw [hsent.rest]
    rfl
  · exact hwTime_aligns hd hm
  · obtain ⟨hhw, htb, hraise, hrest⟩ := s.loseAlignment_spec
    exact ⟨_, if_pos h, hhw, htb, hraise, hrest⟩
  · intro g hears leads
    refine ⟨fun v => ⟨fun hd => congrArg Host.Outcome.next (State.receive_of_drop hd _ _), fun hd => ?_⟩,
      fun v => ⟨fun hd => congrArg Host.Outcome.next (State.receive_of_drop hd _ _), hwShareStat_tells⟩⟩
    obtain ⟨t, ht, hfwd, u, hu, hf, hm, hn, hsent⟩ := hwShare_shares (v := v) hd
    refine ⟨t, ht, hfwd, u, hu, hf, hm, hn, fun ha => ?_, fun ha => ?_⟩
    · rw [(State.shareFormed_spec (g := shaftField h.src)).1 ha] at hsent
      exact hsent.rest
    · rw [(State.shareFormed_spec (g := shaftField h.src)).2 ha] at hsent
      exact hsent.rest

end Sys2Proof.Machine
end

section
namespace Sys2Proof.Machine

/-! ### What writing a record changes (R896, R922, R926) -/

/-- A record with COINCIDENT as the log gives it. -/
def Collector.entered (f : Collector) (r : Record) : Record := { r with coincident := f.log.any (fun x => coincide x.time r.time) }

/-- The log with a record written. -/
def Collector.logged (f : Collector) (r : Record) : List Record :=
  f.entered r :: f.log.map (fun x => if coincide x.time r.time then { x with coincident := true } else x)

/-- The first-fault register of the device after a record. -/
def Collector.firstAfter (f : Collector) (r : Record) : Option Nat :=
  if r.severity = 0 || r.merged || r.consequential then f.devFirst else some (f.devFirst.getD r.no)

/-- A quay apart from its first-fault register. -/
def Quay.unfirst (x : Quay) : Quay := { x with first := none }

section
variable (s : State) (r : Record)

theorem State.traceFault_blank {ps : List Part} (level : Nat) (h : .trace ∈ ps) : (s.traceFault level).blank ps = s.blank ps := by
  refine forAll_blank s _ _ fun t k => ?_
  split
  · split
    · exact State.modTrace_blank t k (.inr h) _
    · rfl
  · rfl

theorem State.faultIrq_blank {ps : List Part} (level : Nat) (h : .port ∈ ps) : (s.faultIrq level).blank ps = s.blank ps := by
  simp [State.faultIrq, State.ite_blank, h]

theorem State.enterFirst_spec : (s.enterFirst r).blank [.flt, .transit, .quay] = s.blank [.flt, .transit, .quay] ∧
    (s.enterFirst r).flt = { s.flt with devFirst := s.flt.firstAfter r } ∧ ∀ q : QuayNo, (s.enterFirst r).quay[q].unfirst = s.quay[q].unfirst := by
  unfold State.enterFirst Collector.firstAfter
  split
  · exact ⟨rfl, rfl, fun _ => rfl⟩
  · have hdev : (if s.flt.devFirst.isNone then s.modFlt (fun f => { f with devFirst := some r.no }) else s) =
        { s with flt := { s.flt with devFirst := some (s.flt.devFirst.getD r.no) } } := by
      split
      next h => rw [Option.isNone_iff_eq_none.1 h]; rfl
      next h =>
        obtain ⟨n, hn⟩ := Option.ne_none_iff_exists'.1 (mt Option.isNone_iff_eq_none.2 h)
        rw [hn]
        exact congrArg (fun d => ({ s with flt := { s.flt with devFirst := d } } : State)) hn
    dsimp only
    rw [hdev]
    have hone : ∀ (t : State) (q : QuayNo), (if t.quay[q].first.isNone then t.modQuay q (fun x => { x with first := some r.no }) else t).blank [.quay] =
        t.blank [.quay] := fun t q => by
      split
      · exact State.modQuay_blank t q (by simp) _
      · rfl
    have hall := forAll_blank (ps := [.quay]) { s with flt := { s.flt with devFirst := some (s.flt.devFirst.getD r.no) } } r.quays _ hone
    refine ⟨(State.blank_mono hall (by simp)).trans rfl, State.flt_of_blank hall (by simp) |>.trans ?_, fun q => ?_⟩
    · rw [State.transit_of_blank hall (by simp)]
      rfl
    · refine forAll_keeps (P := fun t => t.quay[q].unfirst = s.quay[q].unfirst) rfl fun t ht p _ => Eq.trans ?_ ht
      split
      · by_cases hp : p = q
        · subst hp
          rw [State.modQuay_self]
          rfl
        · rw [State.modQuay_ne t _ hp]
      · rfl

/-- A record written: the log, its number, the first-fault registers; beside them the FAULT interrupt and trace triggers. -/
theorem State.writeRecord_spec : (s.writeRecord r).blank [.flt, .transit, .quay, .port, .trace] = s.blank [.flt, .transit, .quay, .port, .trace] ∧
    (s.writeRecord r).flt = { s.flt with log := s.flt.logged r, total := s.flt.total + 1, devFirst := s.flt.firstAfter r } ∧
    ∀ q : QuayNo, (s.writeRecord r).quay[q].unfirst = s.quay[q].unfirst := by
  obtain ⟨hb, hf, hq⟩ := (s.modFlt (fun f => { f with log := s.flt.logged r, total := f.total + 1 })).enterFirst_spec (s.flt.entered r)
  have hlast : (s.writeRecord r).blank [.port, .trace] =
      ((s.modFlt (fun f => { f with log := s.flt.logged r, total := f.total + 1 })).enterFirst (s.flt.entered r)).blank [.port, .trace] :=
    (State.traceFault_blank _ _ (by simp)).trans (State.faultIrq_blank _ _ (by simp))
  generalize (s.modFlt (fun f => { f with log := s.flt.logged r, total := f.total + 1 })).enterFirst (s.flt.entered r) = u at hb hf hq hlast
  refine ⟨(State.blank_mono hlast (by simp)).trans ((State.blank_mono hb (by simp)).trans (by simp)), ?_, fun q => ?_⟩
  · rw [State.flt_of_blank hlast (by simp), State.transit_of_blank hlast (by simp), hf]
    rfl
  · rw [State.quay_of_blank hlast (by simp)]
    exact hq q

end

/-- What an older record is found to be after another has been written. -/
theorem Collector.record_logged {f : Collector} {r : Record} {o : Nat} (h : o ≠ r.no) (g : Collector) (hg : g.log = f.logged r) :
    g.record o = (f.record o).map (fun x => if coincide x.time r.time then { x with coincident := true } else x) := by
  unfold Collector.record
  rw [hg, Collector.logged, List.find?_cons, decide_eq_false (show ¬ (f.entered r).no = o from fun e => h e.symm)]
  dsimp only
  rw [List.find?_map]
  refine congrArg _ (congrArg (fun p => List.find? p f.log) (funext fun x => ?_))
  dsimp only [Function.comp]
  split <;> rfl

/-! ### What a reaction does to a quay (R270 to R273, R889 to R891, R911 to R913) -/

/-- Axis state machine, reaction in force and open record of a quay. -/
def State.fate (s : State) (q : QuayNo) : AxisCore × Option Nat × Option Nat := (s.quay[q].core, s.quay[q].react, s.quay[q].openRec)

theorem State.fate_of_quay {s t : State} {q : QuayNo} (h : t.quay[q] = s.quay[q]) : t.fate q = s.fate q := by rw [State.fate, h, State.fate]

theorem State.fate_of_blank {ps : List Part} {s t : State} (h : t.blank ps = s.blank ps) {q : QuayNo} (hp : .quay ∉ ps ∧ .quayAt q ∉ ps) :
    t.fate q = s.fate q := State.fate_of_quay (State.quay_of_blank h hp)

theorem State.fate_of_unfirst {s t : State} {q : QuayNo} (h : t.quay[q].unfirst = s.quay[q].unfirst) : t.fate q = s.fate q :=
  (congrArg (fun x : Quay => (x.core, x.react, x.openRec)) h :)

theorem State.modQuay_fate (s : State) (p q : QuayNo) {f : Quay → Quay} (h : ∀ x, ((f x).core, (f x).react, (f x).openRec) = (x.core, x.react, x.openRec)) :
    (s.modQuay p f).fate q = s.fate q := by
  by_cases hp : p = q
  · subst hp
    rw [State.fate, State.modQuay_self]
    exact h _
  · exact State.fate_of_quay (State.modQuay_ne s f hp)

section
variable (s : State) (q : QuayNo) (st : AxisState)

@[simp] theorem State.refreshChanges_blank {ps : List Part} (h : .ih ∈ ps) : (s.refreshChanges q).blank ps = s.blank ps := State.modIh_blank s h _

@[simp] theorem State.enterFault_blank {ps : List Part} (h : Covers ps [.quayAt q, .port, .groups, .leg, .lane, .ih]) :
    (s.enterFault q st).blank ps = s.blank ps := by
  simp at h
  simp [State.enterFault, h]

@[simp] theorem State.blockLeg_blank {ps : List Part} (l : LegNo) (h : .legAt l ∈ ps ∨ .leg ∈ ps) : (s.blockLeg l).blank ps = s.blank ps :=
  State.modLeg_blank s l h _

@[simp] theorem State.blockPulses_blank {ps : List Part} (h : Covers ps [.quayAt q, .leg]) : (s.blockPulses q).blank ps = s.blank ps := by
  simp at h
  simp [State.blockPulses, h]

@[simp] theorem State.putReaction_blank {ps : List Part} (code : Nat) (latch : Bool) (rec : Nat) (ran : Bool) (h : Covers ps [.quayAt q, .leg]) :
    (s.putReaction q code latch rec ran).blank ps = s.blank ps := by
  simp at h
  simp [State.putReaction, State.ite_blank, h]

@[simp] theorem State.moveQuay_blank {ps : List Part} (level rec : Nat) (h : Covers ps [.quayAt q, .port, .groups, .leg, .lane, .ih]) :
    (s.moveQuay q level rec).blank ps = s.blank ps := by
  simp at h
  simp [State.moveQuay, State.ite_blank, h]

@[simp] theorem State.reactOn_blank {ps : List Part} (f : FaultEvent) (level rx : Nat) (latch : Bool) (quays : List QuayNo) (rec opens : Nat)
    (h : Covers ps [.quayAt q, .port, .groups, .leg, .lane, .ih]) : (s.reactOn f level rx latch quays rec opens q).blank ps = s.blank ps := by
  simp at h
  simp [State.reactOn, State.ite_blank, h]

@[simp] theorem State.opposeAsc_blank {ps : List Part} (f : FaultEvent) (latch : Bool) (rec : Nat) (h : Covers ps [.quayAt q, .leg]) :
    (s.opposeAsc f latch rec q).blank ps = s.blank ps := by
  simp at h
  simp [State.opposeAsc, State.ite_blank, h]

end

/-! ### Reaction and open record under a transition -/

/-- Reaction in force and open record of a quay. -/
def State.heldBy (s : State) (q : QuayNo) : Option Nat × Option Nat := (s.quay[q].react, s.quay[q].openRec)

theorem State.modQuay_heldBy (s : State) (p q : QuayNo) {f : Quay → Quay} (h : ∀ x, ((f x).react, (f x).openRec) = (x.react, x.openRec)) :
    (s.modQuay p f).heldBy q = s.heldBy q := by
  by_cases hp : p = q
  · subst hp
    rw [State.heldBy, State.modQuay_self]
    exact h _
  · rw [State.heldBy, State.modQuay_ne s f hp, State.heldBy]

section
variable (s : State) (q : QuayNo)

theorem State.zeroRefs_heldBy (p : QuayNo) : (s.zeroRefs p).heldBy q = s.heldBy q := by
  unfold State.zeroRefs
  split
  · rfl
  · exact s.modQuay_heldBy p q fun _ => rfl

theorem State.rewriteTable_heldBy (p : QuayNo) : (s.rewriteTable p).heldBy q = s.heldBy q := by
  unfold State.rewriteTable
  split
  · rfl
  · exact s.modQuay_heldBy p q fun _ => rfl

theorem State.leaveShare_heldBy (p : QuayNo) : (s.leaveShare p).heldBy q = s.heldBy q := by
  unfold State.leaveShare
  split
  · exact s.modQuay_heldBy p q fun _ => rfl
  · rfl

theorem State.abandon_heldBy (p : QuayNo) (arm start : Bool) : (s.abandon p arm start).heldBy q = s.heldBy q := by
  unfold State.abandon
  refine Eq.trans (State.modQuay_heldBy _ p q ?_) ?_
  · exact fun _ => rfl
  have h : ∀ u : State, u.quay = s.quay → u.heldBy q = s.heldBy q := fun u hu => by rw [State.heldBy, hu, State.heldBy]
  exact h _ (by cases arm <;> cases start <;> simp)

theorem State.afterEnter_heldBy {st : AxisState} (h : st ≠ .off) (p : QuayNo) : (s.afterEnter p st).heldBy q = s.heldBy q := by
  unfold State.afterEnter
  dsimp only
  rw [if_neg h, State.rewriteTable_heldBy]
  split
  · exact s.zeroRefs_heldBy q p
  · rfl

/-- The quay that enters FAULTED or SAFE is in that state; its reaction and its open record stay. -/
theorem State.enterFault_fate {st : AxisState} (h : st ≠ .off) : (s.enterFault q st).quay[q].core.st = st ∧ (s.enterFault q st).heldBy q = s.heldBy q := by
  unfold State.enterFault
  dsimp only
  have hlast : ∀ u : State, ((u.modQuay q (fun x => { x with eff := x.core, coreCopy := x.core })).refreshChanges q).core q = u.core q ∧
      ((u.modQuay q (fun x => { x with eff := x.core, coreCopy := x.core })).refreshChanges q).heldBy q = u.heldBy q := fun u =>
    ⟨u.modQuay_core q q _ fun _ => rfl, u.modQuay_heldBy q q fun _ => rfl⟩
  refine ⟨?_, ?_⟩
  · refine (congrArg AxisCore.st ((hlast _).1.trans (State.afterEnter_core _ q q st))).trans ?_
    rw [State.core, State.modQuay_self, AxisCore.enter_st]
  · rw [(hlast _).2, State.afterEnter_heldBy _ q h q]
    refine Eq.trans (State.modQuay_heldBy _ q q ?_) ?_
    · exact fun _ => rfl
    · rw [State.abandon_heldBy]
      exact s.leaveShare_heldBy q q

/-- A record of a level from 2 on moves its quay (R270 rows 16 and 17, R889 to R891). -/
def State.movesTo (s : State) (q : QuayNo) (level : Nat) : Prop :=
  level = 2 ∧ s.quay[q].core.st ≠ .faulted ∧ s.quay[q].core.st ≠ .safe ∨ 3 ≤ level ∧ s.quay[q].core.st ≠ .safe

theorem State.moveQuay_of_moves {level : Nat} (rec : Nat) (h : s.movesTo q level) :
    (s.moveQuay q level rec).quay[q].core.st = (if level = 2 then .faulted else .safe) ∧
    (s.moveQuay q level rec).quay[q].openRec = some rec ∧ (s.moveQuay q level rec).quay[q].react = s.quay[q].react := by
  have hmove : ∃ st : AxisState, st ≠ .off ∧ st = (if level = 2 then .faulted else .safe) ∧
      s.moveQuay q level rec = (s.enterFault q st).modQuay q (fun x => { x with openRec := some rec }) := by
    unfold State.moveQuay
    obtain ⟨hl, hf, hs⟩ | ⟨hl, hs⟩ := h
    · refine ⟨.faulted, by decide, (if_pos hl).symm, ?_⟩
      rw [if_neg (by omega), if_pos hl, if_neg (not_or.2 ⟨hf, hs⟩)]
    · refine ⟨.safe, by decide, (if_neg (by omega)).symm, ?_⟩
      rw [if_neg (by omega), if_neg (by omega), if_neg hs]
  obtain ⟨st, hoff, hst, heq⟩ := hmove
  obtain ⟨hcore, hheld⟩ := s.enterFault_fate q hoff
  rw [heq, State.modQuay_self]
  exact ⟨hcore.trans hst, rfl, (congrArg Prod.fst hheld :)⟩

theorem State.moveQuay_of_stays {level : Nat} (rec : Nat) (h : ¬ s.movesTo q level) : s.moveQuay q level rec = s := by
  unfold State.moveQuay State.movesTo at *
  dsimp only
  split
  · rfl
  · split
    · split
      · rfl
      next hl h2 hn => exact absurd (.inl ⟨h2, not_or.1 hn⟩) h
    · split
      · rfl
      next hl h2 hn => exact absurd (.inr ⟨by omega, hn⟩) h

theorem State.cutSteps_fate : (s.cutSteps q).fate q = s.fate q := by
  refine State.modQuay_fate _ q q ?_
  exact fun _ => rfl

theorem State.blockPulses_fate : (s.blockPulses q).fate q = s.fate q := by
  unfold State.blockPulses
  refine Eq.trans (State.modQuay_fate _ q q ?_) ?_
  · exact fun _ => rfl
  · refine (State.cutSteps_fate _ q).trans ?_
    exact State.fate_of_blank (ps := [.leg]) (forAll_blank s _ _ fun t l => State.blockLeg_blank t l (by simp)) (by simp)

/-- The reaction of a code of 2 to 6 is in force on its quay (R912, R913); state machine and open record stay. -/
theorem State.putReaction_fate (code : Nat) (latch : Bool) (rec : Nat) (ran : Bool) :
    (s.putReaction q code latch rec ran).fate q = (s.quay[q].core, some (combine s.quay[q].react code), s.quay[q].openRec) := by
  unfold State.putReaction
  dsimp only
  split
  next h => exact congrArg (fun r => (s.quay[q].core, r, s.quay[q].openRec)) h
  · have h1 : ∀ b, (s.modQuay q (fun x => { x with react := some (combine s.quay[q].react code), rampReact := b })).fate q =
        (s.quay[q].core, some (combine s.quay[q].react code), s.quay[q].openRec) := fun b => by
      rw [State.fate, State.modQuay_self]
    generalize hu : s.modQuay q (fun x => { x with react := some (combine s.quay[q].react code)
                                                   rampReact := (combine s.quay[q].react code == 2 || combine s.quay[q].react code == 3) && ran }) = u
    have hufate := (congrArg (State.fate · q) hu).symm.trans (h1 _)
    split
    · refine (State.cutSteps_fate _ q).trans (Eq.trans ?_ hufate)
      exact State.fate_of_blank (ps := [.leg]) (State.reactLegs_blank _ _ _ _ _ (by simp)) (by simp)
    · split
      · exact hufate
      · exact (u.blockPulses_fate q).trans hufate

end

theorem reactRank_le (c : Nat) : reactRank c ≤ 4 := by
  unfold reactRank
  split <;> omega

theorem combine_self (c : Nat) : combine (some c) c = c := by
  rw [combine, if_neg (by omega), if_neg (Nat.lt_irrefl _)]

/-- Pulse block stays in force. -/
theorem combine_four (c : Nat) : combine (some 4) c = 4 := by
  rw [combine, if_neg (by omega), if_neg (Nat.not_lt.2 (show reactRank c ≤ reactRank 4 from reactRank_le c))]

/-- A reaction put in force twice is in force once. -/
theorem combine_combine (old : Option Nat) (c : Nat) : combine (some (combine old c)) c = combine old c := by
  cases old with
  | none => exact combine_self c
  | some o =>
    by_cases h56 : (o = 5 ∧ c = 6) ∨ (o = 6 ∧ c = 5)
    · rw [combine.eq_2 c o, if_pos h56, combine_four]
    · by_cases hr : reactRank o < reactRank c
      · rw [combine.eq_2 c o, if_neg h56, if_pos hr, combine_self]
      · rw [combine.eq_2 c o, if_neg h56, if_neg hr, combine.eq_2, if_neg h56, if_neg hr]

/-- What a code makes of the reaction in force: codes of 2 to 6 alone act. -/
def reactedTo (old : Option Nat) (c : Nat) : Option Nat := if 2 ≤ c ∧ c ≤ 6 then some (combine old c) else old

theorem reactedTo_reactedTo (old : Option Nat) (c : Nat) : reactedTo (reactedTo old c) c = reactedTo old c := by
  unfold reactedTo
  split
  · rw [combine_combine]
  · rfl

/-! ### One quay under a reaction, and all its quays -/

/-- What a quay holds once a record of a level with a code has acted on it. -/
def State.ActedOn (s t : State) (q : QuayNo) (level code opens : Nat) : Prop :=
  t.quay[q].react = reactedTo s.quay[q].react code ∧
  (s.movesTo q level → t.quay[q].core.st = (if level = 2 then .faulted else .safe) ∧ t.quay[q].openRec = some opens) ∧
  (¬ s.movesTo q level → t.quay[q].core = s.quay[q].core ∧ t.quay[q].openRec = s.quay[q].openRec)

theorem State.fate_ext {s t : State} {q : QuayNo} (h : t.fate q = s.fate q) :
    t.quay[q].core = s.quay[q].core ∧ t.quay[q].react = s.quay[q].react ∧ t.quay[q].openRec = s.quay[q].openRec :=
  ⟨congrArg Prod.fst h, congrArg (fun x => x.2.1) h, congrArg (fun x => x.2.2) h⟩

theorem State.ActedOn.of_fate {s t u : State} {q : QuayNo} {level code opens : Nat} (h : s.ActedOn t q level code opens) (hf : u.fate q = t.fate q) :
    s.ActedOn u q level code opens := by
  obtain ⟨hc, hr, ho⟩ := State.fate_ext hf
  unfold State.ActedOn
  rw [hc, hr, ho]
  exact h

/-- The level at which a record acts on the quays of its reaction. -/
def actLevel (level rx : Nat) : Nat := if putsSafe level rx then max level 3 else level

theorem State.reactOn_eq (s : State) (f : FaultEvent) (level rx : Nat) (latch : Bool) (quays : List QuayNo) (rec opens : Nat) (q : QuayNo) :
    s.reactOn f level rx latch quays rec opens q =
      if 2 ≤ s.codeAt f level rx quays q ∧ s.codeAt f level rx quays q ≤ 6 then
        (s.moveQuay q (actLevel level rx) opens).putReaction q (s.codeAt f level rx quays q) latch rec s.quay[q].driving
      else s.moveQuay q (actLevel level rx) opens := rfl

/-- Acting on a quay that is as it was, or on which the record has acted already. -/
theorem State.reactOn_acts {s t : State} (f : FaultEvent) (level rx : Nat) (latch : Bool) (quays : List QuayNo) (rec opens : Nat) (q : QuayNo)
    (h : t.fate q = s.fate q ∨ s.ActedOn t q (actLevel level rx) (t.codeAt f level rx quays q) opens) :
    s.ActedOn (t.reactOn f level rx latch quays rec opens q) q (actLevel level rx) (t.codeAt f level rx quays q) opens := by
  rw [State.reactOn_eq]
  generalize t.codeAt f level rx quays q = c at h ⊢
  generalize actLevel level rx = lv at h ⊢
  have hmove : t.quay[q].react = (t.moveQuay q lv opens).quay[q].react ∧
      (s.movesTo q lv → (t.moveQuay q lv opens).quay[q].core.st = (if lv = 2 then .faulted else .safe) ∧ (t.moveQuay q lv opens).quay[q].openRec = some opens) ∧
      (¬ s.movesTo q lv → (t.moveQuay q lv opens).quay[q].core = s.quay[q].core ∧ (t.moveQuay q lv opens).quay[q].openRec = s.quay[q].openRec) := by
    obtain h | ⟨hr, hm, hn⟩ := h
    · obtain ⟨hc, hr, ho⟩ := State.fate_ext h
      have hiff : t.movesTo q lv ↔ s.movesTo q lv := by
        unfold State.movesTo
        rw [hc]
      by_cases hmv : t.movesTo q lv
      · obtain ⟨h1, h2, h3⟩ := t.moveQuay_of_moves q opens hmv
        exact ⟨h3.symm, fun _ => ⟨h1, h2⟩, fun hc => absurd (hiff.1 hmv) hc⟩
      · rw [t.moveQuay_of_stays q opens hmv]
        exact ⟨rfl, fun hc => absurd (hiff.2 hc) hmv, fun _ => ⟨hc, ho⟩⟩
    · have hno : ¬ t.movesTo q lv := by
        by_cases hmv : s.movesTo q lv
        · unfold State.movesTo
          rw [(hm hmv).1]
          unfold State.movesTo at hmv
          split
          next h2 => rintro (⟨-, h, -⟩ | ⟨h3, -⟩); exacts [h rfl, by omega]
          next h2 => rintro (⟨h3, -⟩ | ⟨-, h⟩); exacts [h2 h3, h rfl]
        · unfold State.movesTo at *
          rw [(hn hmv).1]
          exact hmv
      rw [t.moveQuay_of_stays q opens hno]
      exact ⟨rfl, hm, hn⟩
  have hreact : reactedTo t.quay[q].react c = reactedTo s.quay[q].react c := by
    obtain h | ⟨hr, -, -⟩ := h
    · rw [(State.fate_ext h).2.1]
    · rw [hr, reactedTo_reactedTo]
  obtain ⟨hsame, hm, hn⟩ := hmove
  split
  next hc =>
    have hput := (t.moveQuay q lv opens).putReaction_fate q c latch rec t.quay[q].driving
    have hput' := congrArg Prod.fst hput
    have hput2 := congrArg (fun x => x.2.1) hput
    have hput3 := congrArg (fun x => x.2.2) hput
    refine ⟨?_, fun hmv => ?_, fun hmv => ?_⟩
    · refine Eq.trans hput2 ?_
      rw [← hsame, ← hreact, reactedTo, if_pos hc]
    · exact ⟨(congrArg AxisCore.st hput').trans (hm hmv).1, Eq.trans hput3 (hm hmv).2⟩
    · exact ⟨hput'.trans (hn hmv).1, Eq.trans hput3 (hn hmv).2⟩
  next hc =>
    refine ⟨?_, hm, hn⟩
    rw [← hsame, ← hreact, reactedTo, if_neg hc]

end Sys2Proof.Machine
end

section
namespace Sys2Proof.Machine

/-! ### A reaction on the quays of a record, and what it opens (R892, R907, R911) -/

/-- What reactions on quays leave: all but these parts. -/
abbrev reactParts : List Part := [.quay, .port, .groups, .leg, .lane, .ih]

/-- The code of a record on a quay depends on the configuration and on the suspicions noted. -/
theorem State.codeAt_congr {s t : State} (h : t.blank reactParts = s.blank reactParts) (f : FaultEvent) (level rx : Nat) (quays : List QuayNo) (q : QuayNo) :
    t.codeAt f level rx quays q = s.codeAt f level rx quays q := by
  rw [State.eq_take h]
  rfl

theorem State.reactOn_fate_ne (s : State) (f : FaultEvent) (level rx : Nat) (latch : Bool) (quays : List QuayNo) (rec opens : Nat) {p q : QuayNo} (h : p ≠ q) :
    (s.reactOn f level rx latch quays rec opens p).fate q = s.fate q := by
  refine State.fate_of_blank (ps := [.quayAt p, .port, .groups, .leg, .lane, .ih]) (State.reactOn_blank _ _ _ _ _ _ _ _ _ (by simp)) ?_
  simp [Ne.symm h]

/-- A record acts on each quay of a list, however often the list names it; the others stay. -/
theorem State.forAll_reactOn (s : State) (f : FaultEvent) (level rx : Nat) (latch : Bool) (quays : List QuayNo) (rec opens : Nat) (qs : List QuayNo) :
    (forAll qs s (fun t q => t.reactOn f level rx latch quays rec opens q)).blank reactParts = s.blank reactParts ∧
    (∀ q ∈ qs, s.ActedOn (forAll qs s (fun t q => t.reactOn f level rx latch quays rec opens q)) q (actLevel level rx) (s.codeAt f level rx quays q) opens) ∧
    (∀ q, q ∉ qs → (forAll qs s (fun t q => t.reactOn f level rx latch quays rec opens q)).fate q = s.fate q) := by
  have hstep : ∀ (t : State) (q : QuayNo), (t.reactOn f level rx latch quays rec opens q).blank reactParts = t.blank reactParts := fun t q =>
    State.reactOn_blank t q f level rx latch quays rec opens (by simp)
  refine ⟨forAll_blank s qs _ hstep, fun q hq => ?_, fun q hq => ?_⟩
  · refine forAll_establishes (P := fun t => t.blank reactParts = s.blank reactParts ∧
        (t.fate q = s.fate q ∨ s.ActedOn t q (actLevel level rx) (s.codeAt f level rx quays q) opens))
      (Q := fun t => s.ActedOn t q (actLevel level rx) (s.codeAt f level rx quays q) opens) hq ⟨rfl, .inl rfl⟩
      (fun t ht p _ => ⟨(hstep t p).trans ht.1, ?_⟩) (fun t ht => ?_) fun t ht hdone p _ => ?_
    all_goals have hcode := State.codeAt_congr ht.1 f level rx quays q
    · by_cases hp : p = q
      · subst hp
        have hact := State.reactOn_acts f level rx latch quays rec opens p (hcode.symm ▸ ht.2)
        exact .inr (hcode ▸ hact)
      · have hne := t.reactOn_fate_ne f level rx latch quays rec opens hp
        exact ht.2.imp hne.trans fun h => h.of_fate hne
    · have hact := State.reactOn_acts f level rx latch quays rec opens q (hcode.symm ▸ ht.2)
      exact hcode ▸ hact
    · by_cases hp : p = q
      · subst hp
        have hact := State.reactOn_acts f level rx latch quays rec opens p (hcode.symm ▸ ht.2)
        exact hcode ▸ hact
      · exact hdone.of_fate (t.reactOn_fate_ne f level rx latch quays rec opens hp)
  · exact forAll_keeps (P := fun t => t.fate q = s.fate q) rfl fun t ht p hp =>
      (t.reactOn_fate_ne f level rx latch quays rec opens fun (e : p = q) => hq (e ▸ hp)).trans ht

/-! ### Consequence windows (R907) -/

/-- A consequence window that opens now. -/
def State.conseqWindow (s : State) (code : Nat) (quays : List QuayNo) (all : Bool) (rec : Nat) : ConseqWindow :=
  { code := code, since := s.now, quays := quays, all := all, until_ := s.now + us (fltConseqWindow s (code - 2)), record := rec }

/-- The states differ in open consequence windows, of which none is lost. -/
structure Opened (s t : State) : Prop where
  rest : t = { s with flt := { s.flt with conseq := t.flt.conseq } }
  keeps : s.flt.conseq ⊆ t.flt.conseq

namespace Opened
variable {s t u : State}

theorem refl (s : State) : Opened s s := ⟨rfl, List.Subset.refl _⟩

theorem trans (h : Opened s t) (k : Opened t u) : Opened s u := by
  refine ⟨?_, List.Subset.trans h.keeps k.keeps⟩
  have hk := k.rest
  rw [h.rest] at hk
  exact hk

theorem openConseq (s : State) (code : Nat) (quays : List QuayNo) (all : Bool) (rec : Nat) : Opened s (s.openConseq code quays all rec) :=
  ⟨rfl, List.subset_cons_self _ _⟩

theorem window (h : Opened s t) (code : Nat) (quays : List QuayNo) (all : Bool) (rec : Nat) :
    t.conseqWindow code quays all rec = s.conseqWindow code quays all rec := by
  rw [h.rest]
  rfl

end Opened

theorem State.openConseq_mem (s : State) (code : Nat) (quays : List QuayNo) (all : Bool) (rec : Nat) :
    s.conseqWindow code quays all rec ∈ (s.openConseq code quays all rec).flt.conseq := List.mem_cons_self

/-- A window over quays, where there are any. -/
def State.openOver (s : State) (rec code : Nat) (qs : List QuayNo) : State := if qs.isEmpty then s else s.openConseq code qs false rec

theorem State.openOver_opened (s : State) (rec code : Nat) (qs : List QuayNo) : Opened s (s.openOver rec code qs) := by
  unfold State.openOver
  split
  · exact .refl s
  · exact .openConseq s code qs false rec

theorem State.openOver_mem (s : State) (rec code : Nat) {qs : List QuayNo} {q : QuayNo} (h : q ∈ qs) :
    s.conseqWindow code qs false rec ∈ (s.openOver rec code qs).flt.conseq := by
  rw [State.openOver, if_neg (mt List.isEmpty_iff.1 (List.ne_nil_of_mem h))]
  exact s.openConseq_mem code qs false rec

/-- The quays on which codes were applied that a test admits. -/
def appliedOn (applied : List (QuayNo × Nat)) (p : Nat → Bool) : List QuayNo := (applied.filter (fun e => e.2 != 0 && p e.2)).map (·.1)

theorem mem_appliedOn {applied : List (QuayNo × Nat)} {p : Nat → Bool} {q : QuayNo} {c : Nat} (h : (q, c) ∈ applied) (hc : c ≠ 0) (hp : p c = true) :
    q ∈ appliedOn applied p :=
  List.mem_map.2 ⟨(q, c), List.mem_filter.2 ⟨h, by rw [bne_iff_ne.2 hc, hp]; rfl⟩, rfl⟩

theorem State.openWindows_eq (s : State) (level rx : Nat) (applied : List (QuayNo × Nat)) (rec : Nat) : s.openWindows level rx applied rec =
    let u := if putsSafe level rx then s.openConseq 9 [] true rec else s
    if rx = 9 then u
    else if rx = 7 then u.openOver rec 7 (appliedOn applied (fun _ => true))
    else ([2, 3, 4, 5, 6].foldl (fun t c => t.openOver rec c (appliedOn applied (· == c))) u) := rfl

/-- The windows of a reaction: that of the device safe state, and one for each code over its quays. -/
theorem State.openWindows_spec (s : State) (level rx : Nat) (applied : List (QuayNo × Nat)) (rec : Nat) : Opened s (s.openWindows level rx applied rec) ∧
    (putsSafe level rx = true → s.conseqWindow 9 [] true rec ∈ (s.openWindows level rx applied rec).flt.conseq) ∧
    (rx ≠ 9 → ∀ q c, (q, c) ∈ applied → 2 ≤ c → c ≤ 6 → ∃ qs, q ∈ qs ∧
      s.conseqWindow (if rx = 7 then 7 else c) qs false rec ∈ (s.openWindows level rx applied rec).flt.conseq) := by
  rw [State.openWindows_eq]
  have hfirst : Opened s (if putsSafe level rx then s.openConseq 9 [] true rec else s) ∧
      (putsSafe level rx = true → s.conseqWindow 9 [] true rec ∈ (if putsSafe level rx then s.openConseq 9 [] true rec else s).flt.conseq) := by
    split
    · exact ⟨.openConseq s _ _ _ _, fun _ => s.openConseq_mem _ _ _ _⟩
    next h => exact ⟨.refl s, fun hc => absurd hc h⟩
  dsimp only
  generalize (if putsSafe level rx then s.openConseq 9 [] true rec else s) = u at hfirst ⊢
  obtain ⟨hu, hsafe⟩ := hfirst
  by_cases h9 : rx = 9
  · rw [if_pos h9]
    exact ⟨hu, hsafe, fun hn => absurd h9 hn⟩
  · rw [if_neg h9]
    by_cases h7 : rx = 7
    · rw [if_pos h7]
      have hone := u.openOver_opened rec 7 (appliedOn applied (fun _ => true))
      refine ⟨hu.trans hone, fun hp => hone.keeps (hsafe hp), fun _ q c hq h2 h6 => ?_⟩
      have hmem : q ∈ appliedOn applied (fun _ => true) := mem_appliedOn hq (by omega) rfl
      rw [if_pos h7]
      exact ⟨_, hmem, hu.window 7 _ false rec ▸ u.openOver_mem rec 7 hmem⟩
    · rw [if_neg h7]
      have hstep : ∀ (t : State) (c : Nat), Opened t (t.openOver rec c (appliedOn applied (· == c))) := fun t c => t.openOver_opened rec c _
      have hall : Opened u ([2, 3, 4, 5, 6].foldl (fun t c => t.openOver rec c (appliedOn applied (· == c))) u) :=
        forAll_keeps (xs := [2, 3, 4, 5, 6]) (f := fun t c => t.openOver rec c (appliedOn applied (· == c))) (P := Opened u) (.refl u)
          fun t ht c _ => ht.trans (hstep t c)
      refine ⟨hu.trans hall, fun hp => hall.keeps (hsafe hp), fun _ q c hq h2 h6 => ?_⟩
      have hmem : q ∈ appliedOn applied (· == c) := mem_appliedOn hq (by omega) (beq_self_eq_true c)
      have hc : c ∈ [2, 3, 4, 5, 6] := by
        simp only [List.mem_cons, List.not_mem_nil, or_false]
        omega
      rw [if_neg h7]
      refine ⟨_, hmem, ?_⟩
      exact forAll_establishes (xs := [2, 3, 4, 5, 6]) (f := fun t c => t.openOver rec c (appliedOn applied (· == c))) hc
        (P := fun t => Opened s t) (Q := fun t => s.conseqWindow c (appliedOn applied (· == c)) false rec ∈ t.flt.conseq) hu
        (fun t ht d _ => ht.trans (hstep t d)) (fun t ht => ht.window c _ false rec ▸ t.openOver_mem rec c hmem)
        fun t _ h d _ => (hstep t d).keeps h

/-- A code that is applied is one of 2 to 6. -/
theorem State.appliedCode_range {s : State} {f : FaultEvent} {level rx : Nat} {q : QuayNo} (h : s.appliedCode f level rx q ≠ 0) :
    2 ≤ s.appliedCode f level rx q ∧ s.appliedCode f level rx q ≤ 6 := by
  unfold State.appliedCode at h ⊢
  dsimp only at h ⊢
  generalize s.codeOn f level rx q = c at h ⊢
  split at h
  next hc =>
    rw [if_pos hc]
    obtain ⟨h2, h6, hne⟩ := hc
    cases hr : s.quay[q].react with
    | none => exact ⟨h2, h6⟩
    | some o =>
      rw [hr] at hne
      by_cases h56 : (o = 5 ∧ c = 6) ∨ (o = 6 ∧ c = 5)
      · rw [combine.eq_2 c o, if_pos h56]
        omega
      · by_cases hlt : reactRank o < reactRank c
        · rw [combine.eq_2 c o, if_neg h56, if_pos hlt]
          exact ⟨h2, h6⟩
        · rw [combine.eq_2 c o, if_neg h56, if_neg hlt] at hne
          exact absurd rfl hne
  next => exact absurd rfl h

/-! ### The reaction of a record as a whole -/

theorem HalfLost.of_before {s u t : State} {h : Side} (k : HalfLost u t h) (hhalf : u.half = s.half) (hhm : u.hm = s.hm) (hnow : u.now = s.now)
    (hbase : u.base = s.base) : HalfLost s t h :=
  ⟨k.run, by rw [k.resets, hhalf], by rw [k.since, hnow], by rw [k.other, hhalf], k.lost, by rw [k.grant, hhalf, hhm], by rw [k.moves, hhalf, hhm],
    k.base.trans hbase⟩

theorem HalfLost.of_after {s t u : State} {h : Side} (k : HalfLost s t h) (hhalf : u.half = t.half) (hport : u.port = t.port) (hhm : u.hm = t.hm)
    (hbase : u.base = t.base) : HalfLost s u h :=
  ⟨by rw [hhalf, k.run], by rw [hhalf, k.resets], by rw [hhalf, k.since], by rw [hhalf, k.other], by rw [hport]; exact k.lost, by rw [hhm, k.grant],
    by rw [hhm, k.moves], hbase.trans k.base⟩

/-- The device safe state, where a reaction puts it in force. -/
def State.madeSafe (s : State) (level rx : Nat) : State := if putsSafe level rx then s.modFlt (fun c => { c with devSafe := true }) else s

theorem State.madeSafe_eq (s : State) (level rx : Nat) : s.madeSafe level rx = { s with flt := { s.flt with devSafe := s.flt.devSafe || putsSafe level rx } } := by
  unfold State.madeSafe
  cases h : putsSafe level rx with
  | true => rw [Bool.or_true]; rfl
  | false => rw [Bool.or_false]; rfl

/-- The half that a reaction resets, reset where it runs. -/
def State.halfReset (s : State) (o : Option Side) (run : Side → Bool) (rec : Nat) : State :=
  match o with
  | some h => (if run h then s.resetHalf h false else s).openConseq 8 [] true rec
  | none => s

theorem State.applyReaction_eq (s : State) (f : FaultEvent) (level rx : Nat) (latch : Bool) (quays : List QuayNo) (rec opens : Nat) :
    s.applyReaction f level rx latch quays rec opens =
      ((((forAll (s.reactQuays level rx quays) s (fun t q => t.reactOn f level rx latch quays rec opens q)).madeSafe level rx).halfReset
        (resetOf f level rx) (fun h => (s.half.get h).run) rec).openWindows level rx (quays.map (fun q => (q, s.appliedCode f level rx q))) rec) := rfl

theorem State.halfReset_spec (s : State) (o : Option Side) (run : Side → Bool) (rec : Nat) :
    (s.halfReset o run rec).blank ([.flt, .transit, .half, .hm] ++ reactParts) = s.blank ([.flt, .transit, .half, .hm] ++ reactParts) ∧
    (s.halfReset o run rec).flt = { s.flt with conseq := (s.halfReset o run rec).flt.conseq } ∧ s.flt.conseq ⊆ (s.halfReset o run rec).flt.conseq ∧
    (o = none → s.halfReset o run rec = s) ∧
    ∀ h, o = some h → (s.conseqWindow 8 [] true rec ∈ (s.halfReset o run rec).flt.conseq ∧ (run h = true → HalfLost s (s.halfReset o run rec) h)) := by
  cases o with
  | none => exact ⟨rfl, rfl, List.Subset.refl _, fun _ => rfl, nofun⟩
  | some h =>
    have hreset : ∀ ps : List Part, Covers ps [.half, .port, .ih, .hm, .quay, .groups, .leg, .lane] →
        (if run h then s.resetHalf h false else s).blank ps = s.blank ps := fun ps hps => by
      split
      · exact s.resetHalf_blank h false hps
      · rfl
    have hflt : (if run h then s.resetHalf h false else s).flt = s.flt := by
      have hb := hreset [.half, .port, .ih, .hm, .quay, .groups, .leg, .lane] (by simp)
      rw [State.flt_of_blank hb (by simp), State.transit_of_blank hb (by simp)]
      rfl
    have hnow : (if run h then s.resetHalf h false else s).conseqWindow 8 [] true rec = s.conseqWindow 8 [] true rec := by
      rw [State.eq_take (hreset [.half, .port, .ih, .hm, .quay, .groups, .leg, .lane] (by simp))]
      rfl
    have hlost : run h = true → HalfLost s (if run h then s.resetHalf h false else s) h := fun hr => by
      rw [if_pos hr]
      exact (s.resetHalf_lost h false).1
    have hall := hreset ([.flt, .transit, .half, .hm] ++ reactParts) (by simp)
    unfold State.halfReset
    dsimp only
    generalize (if run h then s.resetHalf h false else s) = u at hflt hnow hlost hall ⊢
    refine ⟨(State.modFlt_blank u (by simp) (by simp) _).trans hall, ?_, ?_, nofun, fun k hk => ?_⟩
    · exact congrArg (fun c : Collector => { c with conseq := (u.openConseq 8 [] true rec).flt.conseq }) hflt
    · exact hflt ▸ (Opened.openConseq u 8 [] true rec).keeps
    · cases hk
      exact ⟨hnow ▸ u.openConseq_mem 8 [] true rec, fun hr => (hlost hr).of_after rfl rfl rfl (State.openConseq_base u _ _ _ _)⟩

/-- The reaction of a record: on its quays, on the device safe state, on the half it resets, and in its consequence windows. -/
theorem State.applyReaction_spec (s : State) (f : FaultEvent) (level rx : Nat) (latch : Bool) (quays : List QuayNo) (rec opens : Nat) :
    (s.applyReaction f level rx latch quays rec opens).blank ([.flt, .transit, .half, .hm] ++ reactParts) = s.blank ([.flt, .transit, .half, .hm] ++ reactParts) ∧
    (s.applyReaction f level rx latch quays rec opens).flt = { s.flt with
      devSafe := s.flt.devSafe || putsSafe level rx, conseq := (s.applyReaction f level rx latch quays rec opens).flt.conseq } ∧
    (resetOf f level rx = none →
      (∀ q ∈ s.reactQuays level rx quays, s.ActedOn (s.applyReaction f level rx latch quays rec opens) q (actLevel level rx)
        (s.codeAt f level rx quays q) opens) ∧
      (∀ q, q ∉ s.reactQuays level rx quays → (s.applyReaction f level rx latch quays rec opens).fate q = s.fate q)) ∧
    (∀ h, resetOf f level rx = some h → (s.half.get h).run = true → HalfLost s (s.applyReaction f level rx latch quays rec opens) h) ∧
    (∀ n, (n = 9 ∧ putsSafe level rx = true) ∨ (n = 8 ∧ (resetOf f level rx).isSome = true) →
      s.conseqWindow n [] true rec ∈ (s.applyReaction f level rx latch quays rec opens).flt.conseq) ∧
    (∀ q ∈ quays, s.appliedCode f level rx q ≠ 0 → rx ≠ 9 → ∃ qs, q ∈ qs ∧
      s.conseqWindow (if rx = 7 then 7 else s.appliedCode f level rx q) qs false rec ∈ (s.applyReaction f level rx latch quays rec opens).flt.conseq) := by
  rw [State.applyReaction_eq]
  have happ : ∀ q ∈ quays, (q, s.appliedCode f level rx q) ∈ quays.map (fun q => (q, s.appliedCode f level rx q)) := fun q hq =>
    List.mem_map_of_mem hq
  have hrange := fun q => State.appliedCode_range (s := s) (f := f) (level := level) (rx := rx) (q := q)
  generalize quays.map (fun q => (q, s.appliedCode f level rx q)) = applied at happ ⊢
  obtain ⟨hb1, hin, hout⟩ := s.forAll_reactOn f level rx latch quays rec opens (s.reactQuays level rx quays)
  generalize forAll (s.reactQuays level rx quays) s _ = u1 at hb1 hin hout ⊢
  have hu1 := State.eq_take hb1
  have hflt1 : u1.flt = s.flt := by
    rw [State.flt_of_blank hb1 (by simp), State.transit_of_blank hb1 (by simp)]
    rfl
  have hbase1 : ∀ n qs b, u1.conseqWindow n qs b rec = s.conseqWindow n qs b rec := fun n qs b => by
    rw [hu1]
    rfl
  rw [State.madeSafe_eq]
  have hsafe : State.blank ([.flt, .transit, .half, .hm] ++ reactParts) { u1 with flt := { u1.flt with devSafe := u1.flt.devSafe || putsSafe level rx } } =
      s.blank ([.flt, .transit, .half, .hm] ++ reactParts) :=
    (State.modFlt_blank u1 (by simp) (by simp) (fun c => { c with devSafe := c.devSafe || putsSafe level rx })).trans (State.blank_mono hb1 (by simp))
  obtain ⟨hb3, hflt3, hkeep3, hnone, hsome⟩ := State.halfReset_spec { u1 with flt := { u1.flt with devSafe := u1.flt.devSafe || putsSafe level rx } }
    (resetOf f level rx) (fun h => (s.half.get h).run) rec
  generalize hu3 : State.halfReset _ (resetOf f level rx) (fun h => (s.half.get h).run) rec = u3 at hb3 hflt3 hkeep3 hnone hsome ⊢
  obtain ⟨hopen, hnine, hcodes⟩ := u3.openWindows_spec level rx applied rec
  have hbase3 : ∀ n qs b, u3.conseqWindow n qs b rec = s.conseqWindow n qs b rec := fun n qs b => by
    refine Eq.trans ?_ (hbase1 n qs b)
    rw [State.eq_take hb3]
    rfl
  have htbase := State.openWindows_base u3 level rx applied rec
  generalize u3.openWindows level rx applied rec = t at hopen hnine hcodes htbase ⊢
  have ht := hopen.rest
  have htb : t.blank ([.flt, .transit, .half, .hm] ++ reactParts) = u3.blank ([.flt, .transit, .half, .hm] ++ reactParts) := by
    rw [ht]
    exact State.modFlt_blank u3 (by simp) (by simp) (fun c => { c with conseq := t.flt.conseq })
  refine ⟨htb.trans (hb3.trans hsafe), ?_, fun hno => ?_, fun h hh hr => ?_, fun n hn => ?_, fun q hq hc h9 => ?_⟩
  · have h1 : t.flt = { u3.flt with conseq := t.flt.conseq } := by
      rw [ht]
    refine h1.trans ?_
    rw [hflt3]
    exact congrArg (fun c : Collector => { c with devSafe := c.devSafe || putsSafe level rx, conseq := t.flt.conseq }) hflt1
  · have hfate : ∀ q, t.fate q = u1.fate q := fun q => State.fate_of_quay (by rw [ht, hnone hno])
    exact ⟨fun q hq => (hin q hq).of_fate (hfate q), fun q hq => (hfate q).trans (hout q hq)⟩
  · have hl := (hsome h hh).2 hr
    refine (hl.of_before (s := s) ?_ ?_ ?_ ?_).of_after ?_ ?_ ?_ htbase
    · exact (State.half_of_blank hb1 (by simp) :)
    · exact (State.hm_of_blank hb1 (by simp) :)
    · rw [hu1]
      rfl
    · rw [hu1]
      rfl
    all_goals rw [ht]
  · obtain ⟨rfl, hp⟩ | ⟨rfl, hh⟩ := hn
    · exact hbase3 9 [] true ▸ hnine hp
    · obtain ⟨h, hh⟩ := Option.isSome_iff_exists.1 hh
      exact hopen.keeps (hbase1 8 [] true ▸ (hsome h hh).1)
  · obtain ⟨h2, h6⟩ := hrange q hc
    obtain ⟨qs, hqs, hw⟩ := hcodes h9 q _ (happ q hq) h2 h6
    exact ⟨qs, hqs, hbase3 _ qs false ▸ hw⟩

end Sys2Proof.Machine
end

section
namespace Sys2Proof.Machine

/-! ### Counting a fault (R898, R899, R939) -/

theorem assoc_assocSet_self {β : Type} (l : List (Nat × β)) (a : Nat) (v : β) : assoc (assocSet l a v) a = some v := by
  induction l with
  | nil => exact if_pos rfl
  | cons e es ih =>
    obtain ⟨k, w⟩ := e
    rw [assocSet]
    split
    · exact if_pos rfl
    · split
      · exact if_pos rfl
      next hne => exact (if_neg (Ne.symm hne)).trans ih

/-- The counted fault: windows and event counts of the collector alone. -/
theorem State.countFault_spec (s : State) (f : FaultEvent) :
    s.countFault f = { s with flt := { s.flt with windows := (s.countFault f).flt.windows, events := (s.countFault f).flt.events } } ∧
      assoc (s.countFault f).flt.events f.src = some ((assoc s.flt.events f.src).getD 0 + 1) :=
  ⟨rfl, assoc_assocSet_self _ _ _⟩

theorem State.countFault_blank {ps : List Part} (s : State) (f : FaultEvent) (hf : .flt ∈ ps) (ht : .transit ∈ ps) : (s.countFault f).blank ps = s.blank ps := by
  unfold State.countFault
  exact State.modFlt_blank s hf ht _

/-! ### FABRIC_STALL (R54, R917) -/

/-- The fault that the fabric's hard path records. -/
def State.stallFault (s : State) : FaultEvent := faultOf s srcFabricStall 0xFF [] {}

/-- The level of a record: that of its count, one higher where an unacknowledged one stands (R901). -/
def State.stallLevel (s : State) : Nat :=
  if s.unackedSame s.stallFault && decide (s.countedLevel s.stallFault < 4) then s.countedLevel s.stallFault + 1 else s.countedLevel s.stallFault

/-- The HARD record. -/
def State.stallRecord (s : State) : Record := { newRecord s s.stallFault s.stallLevel (s.scopeQuays s.stallFault s.stallLevel) with
  hard := true, escalated := s.unackedSame s.stallFault && decide (s.countedLevel s.stallFault < 4), severe := s.countsSevere s.stallFault
  reaction := s.reactionByte s.stallFault s.stallLevel 9 [], count := s.eventNo s.stallFault }

/-- The hard path's own lines: HARD safe state, BRK2 and BRK3 off. -/
def State.stallLines (s : State) : State :=
  ((s.modFlt (fun c => { c with hardSafe := true })).modBrk 2 (fun b => { b with on := false })).modBrk 3 (fun b => { b with on := false })

theorem State.stallLines_brk (s : State) : s.stallLines.brk[2] = { s.brk[2] with on := false } ∧ s.stallLines.brk[3] = { s.brk[3] with on := false } ∧
    s.stallLines.brk[0] = s.brk[0] ∧ s.stallLines.brk[1] = s.brk[1] := by
  unfold State.stallLines
  refine ⟨?_, ?_, ?_, ?_⟩
  · exact (State.modBrk_ne _ (i := 3) (j := 2) _ (by decide)).trans (State.modBrk_self _ 2 _)
  · exact (State.modBrk_self _ 3 _).trans (congrArg (fun b : Chopper => { b with on := false }) (State.modBrk_ne _ (i := 2) (j := 3) _ (by decide)))
  · exact (State.modBrk_ne _ (i := 3) (j := 0) _ (by decide)).trans (State.modBrk_ne _ (i := 2) (j := 0) _ (by decide))
  · exact (State.modBrk_ne _ (i := 3) (j := 1) _ (by decide)).trans (State.modBrk_ne _ (i := 2) (j := 1) _ (by decide))

theorem execFabricStall_eq (s : State) : execFabricStall s = .next (s.syncLegs (((((s.countFault s.stallFault).writeRecord s.stallRecord).applyReaction
    s.stallFault s.stallLevel 9 false [] s.flt.total s.flt.total).stallLines).pulse 4)) := rfl

theorem State.pulse_spec (s : State) (level : Nat) : s.pulse level = { s with flt := { s.flt with pulseUntil := (s.pulse level).flt.pulseUntil } } ∧
    (s.afterStep10 = true → fltErrLevel s ≤ level → (s.pulse level).flt.pulseUntil = some (s.now + 6400 * fltErrPulse s)) := by
  unfold State.pulse
  split
  · exact ⟨rfl, fun _ _ => rfl⟩
  next h => exact ⟨rfl, fun h10 hl => absurd (by rw [h10, decide_eq_true hl]; rfl) h⟩

theorem State.stallRecord_level (s : State) : s.stallRecord.severity =
      (if s.unackedSame s.stallFault = true ∧ s.countedLevel s.stallFault < 4 then s.countedLevel s.stallFault + 1 else s.countedLevel s.stallFault) ∧
    (s.stallRecord.escalated = true ↔ s.stallRecord.severity ≠ s.countedLevel s.stallFault) := by
  have hcond : (s.unackedSame s.stallFault && decide (s.countedLevel s.stallFault < 4)) = true ↔
      s.unackedSame s.stallFault = true ∧ s.countedLevel s.stallFault < 4 := by
    rw [Bool.and_eq_true, decide_eq_true_eq]
  refine ⟨if_congr hcond rfl rfl, ?_⟩
  change (s.unackedSame s.stallFault && decide (s.countedLevel s.stallFault < 4)) = true ↔ s.stallLevel ≠ _
  unfold State.stallLevel
  split
  next h => exact ⟨fun _ => by omega, fun _ => h⟩
  next h => exact ⟨fun hc => absurd hc h, fun hc => absurd rfl hc⟩

theorem State.scopeQuays_device (s : State) {f : FaultEvent} (h : f.scope = 0xFF) (hq : f.quays = []) (level : Nat) :
    s.scopeQuays f level = if level = 4 then s.kernelQuays else [] := if_pos (.inr (.inr ⟨h, hq⟩))

theorem Collector.head_logged (f : Collector) (r : Record) : (f.logged r).head? = some (f.entered r) := rfl

/-- The device once the HARD record stands: what the reaction of the device safe state finds. -/
theorem State.stallRecorded_spec (s : State) : ∃ u, u = (s.countFault s.stallFault).writeRecord s.stallRecord ∧
    u.blank [.flt, .transit, .quay, .port, .trace] = s.blank [.flt, .transit, .quay, .port, .trace] ∧
    u.flt.log.head? = some (s.flt.entered s.stallRecord) ∧ u.flt.total = s.flt.total + 1 ∧ u.flt.stage = s.flt.stage ∧
    assoc u.flt.events srcFabricStall = some ((assoc s.flt.events srcFabricStall).getD 0 + 1) ∧ (∀ q, u.fate q = s.fate q) := by
  obtain ⟨hcount, hevents⟩ := s.countFault_spec s.stallFault
  obtain ⟨hb, hflt, hq⟩ := (s.countFault s.stallFault).writeRecord_spec s.stallRecord
  refine ⟨_, rfl, ?_, ?_, ?_, ?_, ?_, fun q => ?_⟩
  · exact hb.trans (s.countFault_blank s.stallFault (by simp) (by simp))
  · rw [hflt, hcount]
    rfl
  · rw [hflt, hcount]
  · rw [hflt, hcount]
  · rw [hflt]
    exact hevents
  · refine (State.fate_of_unfirst (hq q)).trans (State.fate_of_quay ?_)
    rw [hcount]

/-- Settles the part of O43 about FABRIC_STALL. -/
theorem fabricStall_safes (s : State) : ∃ t, exec .fabricStall s = .next t ∧ t.flt.log.head? = some (s.flt.entered s.stallRecord) ∧
    t.flt.total = s.flt.total + 1 ∧ t.flt.devSafe = true ∧ t.flt.hardSafe = true ∧
    assoc t.flt.events srcFabricStall = some ((assoc s.flt.events srcFabricStall).getD 0 + 1) ∧
    (∃ w ∈ t.flt.conseq, w.code = 9 ∧ w.all = true ∧ w.since = s.now ∧ w.until_ = s.now + 6400 * fltConseqWindow s 7 ∧ w.record = s.flt.total) ∧
    t.brk[2] = { s.brk[2] with on := false } ∧ t.brk[3] = { s.brk[3] with on := false } ∧ t.brk[0] = s.brk[0] ∧ t.brk[1] = s.brk[1] ∧
    t.flt.stage = s.flt.stage ∧
    (∀ q ∈ s.kernelQuays, s.ActedOn t q (actLevel s.stallLevel 9) (s.safeCode q) s.flt.total) ∧ (∀ q, q ∉ s.kernelQuays → t.fate q = s.fate q) ∧
    (s.afterStep10 = true → fltErrLevel s ≤ 4 → t.flt.pulseUntil = some (s.now + 6400 * fltErrPulse s)) ∧
    t.params = s.params ∧ t.prot = s.prot := by
  obtain ⟨u, hu, hb, hhead, htotal, hstage, hevents, hfate⟩ := s.stallRecorded_spec
  refine ⟨_, execFabricStall_eq s, ?_⟩
  rw [← hu]
  obtain ⟨hvb, hvflt, hvq, -, hvwin, -⟩ := u.applyReaction_spec s.stallFault s.stallLevel 9 false [] s.flt.total s.flt.total
  obtain ⟨hvin, hvout⟩ := hvq (if_neg (by omega))
  have hsafe : putsSafe s.stallLevel 9 = true := by
    rw [putsSafe]
    exact Bool.or_true _
  have hwin := hvwin 9 (.inl ⟨rfl, hsafe⟩)
  have hu' := State.eq_take hb
  have hkernel : u.reactQuays s.stallLevel 9 [] = s.kernelQuays := by
    rw [State.reactQuays, if_pos hsafe, hu']
    rfl
  have hcode : ∀ q, u.codeAt s.stallFault s.stallLevel 9 [] q = s.safeCode q := fun q => by
    rw [State.codeAt, hsafe, if_pos (show (true && !List.contains [] q) = true from rfl), hu']
    rfl
  have hwindow : u.conseqWindow 9 [] true s.flt.total = s.conseqWindow 9 [] true s.flt.total := by
    rw [hu']
    rfl
  rw [hkernel] at hvin hvout
  generalize u.applyReaction s.stallFault s.stallLevel 9 false [] s.flt.total s.flt.total = v at hvb hvflt hvin hvout hwin ⊢
  have hvall := (State.blank_mono (ps := [.flt, .transit, .half, .hm, .trace] ++ reactParts) hvb (by simp)).trans (State.blank_mono hb (by simp))
  have hv := State.eq_take hvall
  obtain ⟨hpulse, hpulses⟩ := v.stallLines.pulse_spec 4
  generalize v.stallLines.pulse 4 = w at hpulse hpulses ⊢
  have hlines : v.stallLines = { v with flt := { v.flt with hardSafe := true }, brk := v.stallLines.brk } := rfl
  have hwq : w.quay = v.quay := by
    rw [hpulse]
    rfl
  have hwb : w.brk = v.stallLines.brk := by rw [hpulse]
  have hvbrk : v.brk = s.brk := by
    rw [hv]
    rfl
  obtain ⟨hquay, -, hflt, -, -, -, -, -, -, -, -, hbrk, -, -⟩ := (LegsOnly.syncLegs s w).rest
  have hparams : (s.syncLegs w).params = w.params ∧ (s.syncLegs w).prot = w.prot := by
    rw [LegsOnly.syncLegs s w]
    exact ⟨rfl, rfl⟩
  generalize s.syncLegs w = t at hquay hflt hbrk hparams ⊢
  have htflt : t.flt = { v.flt with hardSafe := true, pulseUntil := w.flt.pulseUntil } := by
    rw [hflt, hpulse]
    rfl
  have hback : ∀ q, u.ActedOn v q (actLevel s.stallLevel 9) (s.safeCode q) s.flt.total → s.ActedOn v q (actLevel s.stallLevel 9) (s.safeCode q) s.flt.total := by
    intro q h
    obtain ⟨hc, hr, ho⟩ := State.fate_ext (hfate q)
    unfold State.ActedOn State.movesTo at *
    rw [hc, hr, ho] at h
    exact h
  have htfate : ∀ q, t.fate q = v.fate q := fun q => State.fate_of_quay (by rw [hquay, hwq])
  obtain ⟨hb2, hb3, hb0, hb1⟩ := v.stallLines_brk
  rw [← hwb, ← hbrk, hvbrk] at hb2 hb3 hb0 hb1
  refine ⟨?_, ?_, ?_, ?_, ?_, ⟨s.conseqWindow 9 [] true s.flt.total, ?_, rfl, rfl, rfl, rfl, rfl⟩, hb2, hb3, hb0, hb1, ?_, fun q hq => ?_, fun q hq => ?_, fun h10 hl => ?_, ?_, ?_⟩
  · rw [htflt, hvflt]
    exact hhead
  · rw [htflt, hvflt]
    exact htotal
  · rw [htflt, hvflt]
    exact (congrArg (u.flt.devSafe || ·) hsafe).trans (Bool.or_true _)
  · rw [htflt]
  · rw [htflt, hvflt]
    exact hevents
  · rw [htflt, ← hwindow]
    exact hwin
  · rw [htflt, hvflt]
    exact hstage
  · exact (hback q (hcode q ▸ hvin q hq)).of_fate (htfate q)
  · exact (htfate q).trans ((hvout q hq).trans (hfate q))
  · have h := hpulses (by rw [hlines, hv]; exact h10) (by rw [hlines, hv]; exact hl)
    rw [hflt, h, hlines, hv]
    rfl
  · rw [hparams.1, hpulse, hlines, hv]
    rfl
  · rw [hparams.2, hpulse, hlines, hv]
    rfl

/-! ### FAULT_ARRIVAL, CONSEQ_WINDOW_END, ERR_PULSE_END, SCRUB_PASS -/

/-- Settles the part of O43 about CONSEQ_WINDOW_END (R907, R908). -/
theorem conseqWindowEnd_ends (i : Nat) (s : State) :
    let ends (w : ConseqWindow) : Prop := s.flt.conseq[i]? = some w ∧ w.until_ ≤ s.now ∧ ∀ x ∈ s.flt.stage, w.until_ < x.arrived
    ((∃ w, ends w) → exec (.conseqWindowEnd i) s = .next { s with flt := { s.flt with conseq := s.flt.conseq.eraseIdx i } }) ∧
    ((∀ w, ¬ ends w) → exec (.conseqWindowEnd i) s = .next s) := by
  intro ends
  have hany : ∀ w : ConseqWindow, s.flt.stage.any (fun x => decide (x.arrived ≤ w.until_)) = true ↔ ¬ ∀ x ∈ s.flt.stage, w.until_ < x.arrived := fun w => by
    simp only [List.any_eq_true, decide_eq_true_eq, not_forall, not_lt, exists_prop]
  refine ⟨fun ⟨w, hw, hu, hs⟩ => ?_, fun h => ?_⟩
  · rw [exec, execConseqWindowEnd, hw]
    exact if_neg (not_or.2 ⟨Nat.not_lt.2 hu, fun ha => (hany w).1 ha hs⟩)
  · rw [exec, execConseqWindowEnd]
    cases hw : s.flt.conseq[i]? with
    | none => rfl
    | some w =>
      refine if_pos (Classical.byContradiction fun hc => h w ⟨hw, ?_, ?_⟩)
      · exact Nat.not_lt.1 (not_or.1 hc).1
      · exact Classical.byContradiction fun hs => (not_or.1 hc).2 ((hany w).2 hs)

/-- Settles the part of O43 about ERR_PULSE_END (R930, R932). -/
theorem errPulseEnd_ends (s : State) :
    ((∃ u, s.flt.pulseUntil = some u ∧ u ≤ s.now) → exec .errPulseEnd s = .next { s with flt := { s.flt with pulseUntil := none } }) ∧
    ((∀ u, s.flt.pulseUntil = some u → s.now < u) → exec .errPulseEnd s = .next s) := by
  refine ⟨fun ⟨u, hu, hle⟩ => ?_, fun h => ?_⟩
  · rw [exec, execErrPulseEnd, hu]
    exact if_neg (Nat.not_lt.2 hle)
  · rw [exec, execErrPulseEnd]
    cases hu : s.flt.pulseUntil with
    | none => rfl
    | some u => exact if_pos (h u hu)

theorem exec_scrubPass {s : State} (h : s.portsDead = false) (xs : List ScrubFinding) : exec (.scrubPass xs) s = .next (forAll xs s State.scrubbed) :=
  if_neg (by rw [h]; exact Bool.false_ne_true)

/-- Settles the part of O43 about SCRUB_PASS (R37 to R41). -/
theorem scrubPass_raises (s : State) : (∀ xs, s.portsDead = true → exec (.scrubPass xs) s = .next s) ∧ exec (.scrubPass []) s = .next s ∧
    (s.portsDead = false → ∀ x : ScrubFinding, ∃ t, exec (.scrubPass [x]) s = .next t ∧
      (x = .single → Raised s t srcEccCorr 0xFF) ∧ (∀ h : Side, x = .doubleHalf h → Raised s t srcEccHalf (if h = .a then 0xE0 else 0xE1)) ∧
      (∀ r, x = .doubleTrace r → Raised s t srcEccTrace 0xFF ∧ t.trace = s.trace.set r { s.trace[r] with invalid := true }) ∧
      (x = .doubleParam → Raised s t srcEccParam 0xFF) ∧ ((∀ r, x ≠ .doubleTrace r) → t.trace = s.trace) ∧
      t = { s with flt := t.flt, trace := t.trace } ∧ ∀ xs, exec (.scrubPass (x :: xs)) s = exec (.scrubPass xs) t) := by
  refine ⟨fun xs h => if_pos h, ite_self _, fun h x => ⟨s.scrubbed x, exec_scrubPass h [x], ?_⟩⟩
  have hagain : ∀ xs, exec (.scrubPass (x :: xs)) s = exec (.scrubPass xs) (s.scrubbed x) := fun xs => by
    rw [exec_scrubPass h, exec_scrubPass]
    · rfl
    · cases x <;> exact h
  cases x with
  | single => exact ⟨fun _ => ⟨_, rfl, rfl, rfl, rfl⟩, nofun, nofun, nofun, fun _ => rfl, rfl, hagain⟩
  | doubleHalf g =>
    refine ⟨nofun, fun k hk => ?_, nofun, nofun, fun _ => rfl, rfl, hagain⟩
    cases hk
    exact ⟨_, rfl, rfl, rfl, rfl⟩
  | doubleTrace r =>
    refine ⟨nofun, nofun, fun k hk => ?_, nofun, fun hn => absurd rfl (hn r), rfl, hagain⟩
    cases hk
    exact ⟨⟨_, rfl, rfl, rfl, rfl⟩, rfl⟩
  | doubleParam => exact ⟨nofun, nofun, nofun, fun _ => ⟨_, rfl, rfl, rfl, rfl⟩, fun _ => rfl, rfl, hagain⟩

theorem State.mem_kernelQuays {s : State} {q : QuayNo} : q ∈ s.kernelQuays ↔ s.hasKernel q = true := by
  rw [State.kernelQuays, List.mem_filter]
  exact ⟨And.right, fun h => ⟨List.mem_finRange q, h⟩⟩

/-- The device safe state puts its quays in SAFE. -/
theorem actLevel_safe (level : Nat) : 3 ≤ actLevel level 9 := by
  have hsafe : putsSafe level 9 = true := Bool.or_true _
  rw [actLevel, if_pos hsafe]
  exact Nat.le_max_right _ _

/-- Settles O43: the collector's events one by one. -/
theorem collectorEvents : Obligations.CollectorEvents := by
  unfold Obligations.CollectorEvents
  refine ⟨⟨fun i s => ⟨fun e he => ?_, fun h => ?_⟩, conseqWindowEnd_ends, errPulseEnd_ends, scrubPass_raises⟩, fun s => ?_⟩
  · rw [exec, execFaultArrival, he]
    rfl
  · rw [exec, execFaultArrival, h]
  · obtain ⟨t, ht, hhead, htotal, hdev, hhard, hevents, hwin, hb2, hb3, hb0, hb1, hstage, hin, hout, hpulse, hparams, hprot⟩ := fabricStall_safes s
    obtain ⟨hlevel, hesc⟩ := s.stallRecord_level
    refine ⟨t, _, ht, hhead, htotal, rfl, ⟨hlevel, hesc, State.scopeQuays_device s (f := s.stallFault) rfl rfl s.stallLevel⟩, rfl, rfl, rfl, rfl, hdev, hhard, hevents, hwin, hb2, hb3, hb0, hb1,
      hstage, fun q => ⟨fun hk => ?_, fun hk => ?_⟩, hpulse, hparams, hprot⟩
    · obtain ⟨hreact, hmoves, hstays⟩ := hin q (State.mem_kernelQuays.2 hk)
      have hlv := actLevel_safe s.stallLevel
      generalize actLevel s.stallLevel 9 = lv at hlv hmoves hstays
      refine ⟨?_, fun h2 h6 => hreact.trans (if_pos ⟨h2, h6⟩), fun hn => (hmoves (.inr ⟨hlv, hn⟩)).2⟩
      by_cases hn : s.quay[q].core.st = .safe
      · rw [(hstays fun hm => ?_).1, hn]
        obtain ⟨h2, -⟩ | ⟨-, hne⟩ := hm
        · omega
        · exact hne hn
      · exact (hmoves (.inr ⟨hlv, hn⟩)).1.trans (if_neg (by omega))
    · obtain ⟨hc, hr, -⟩ := State.fate_ext (hout q fun hm => by rw [State.mem_kernelQuays.1 hm] at hk; cases hk)
      exact ⟨hc, hr⟩

end Sys2Proof.Machine
end

section
namespace Sys2Proof.Machine

/-! ### The stage of the collector is left by all that one fault does (R894, R895) -/

theorem forAll_id {α : Type} (xs : List α) (s : State) {f : State → α → State} (h : ∀ a ∈ xs, f s a = s) : forAll xs s f = s :=
  forAll_keeps (P := fun t => t = s) rfl fun t ht a ha => by rw [ht, h a ha]

/-- Where nothing changes what holds the legs, nothing is ordered. -/
theorem State.syncLegs_same {old s : State} (h : ∀ l, old.heldKind l = s.heldKind l) (hlow : ∀ l, old.legEnLow l = s.legEnLow l)
    (hhalt : old.haltOn = s.haltOn) (hkind : ∀ l, old.kindInForce l = s.kindInForce l) : old.syncLegs s = s := by
  have hlocal : ∀ l ∈ allLegs, old.orderLocal s l = s := fun l _ => by
    rw [State.orderLocal, if_neg]
    rw [h l, bne_self_eq_false, Bool.and_false]
    exact Bool.false_ne_true
  have hframe : ∀ n ∈ List.finRange 20, old.stateFrame s n = s := fun n _ => by
    have hes : old.stateEntries s n = [] := by
      rw [State.stateEntries, List.filterMap_eq_nil_iff]
      intro slot _
      split
      next l _ =>
        refine if_neg ?_
        rw [h l, hlow l, hhalt, hkind l]
        simp
      next => rfl
    rw [State.stateFrame, hes]
    rfl
  rw [State.syncLegs, forAll_id _ _ hlocal, forAll_id _ _ hframe]

section
variable (s : State)

theorem State.joinLatch_blank {ps : List Part} (ls : List LegNo) (rec : Nat) (h : .leg ∈ ps) : (s.joinLatch ls rec).blank ps = s.blank ps :=
  forAll_blank s ls _ fun t l => State.modLeg_blank t l (.inr h) _

theorem State.endLatchWait_blank {ps : List Part} (ls : List LegNo) (h : .leg ∈ ps) : (s.endLatchWait ls).blank ps = s.blank ps :=
  forAll_blank s ls _ fun t l => State.modLeg_blank t l (.inr h) _

/-- Parts besides the collector that one fault can touch. -/
abbrev faultParts : List Part := [.flt, .transit, .half, .hm, .trace] ++ reactParts

theorem State.writeRecord_stage (r : Record) : (s.writeRecord r).flt.stage = s.flt.stage := by
  rw [(s.writeRecord_spec r).2.1]

theorem State.flt_of_legs {t : State} (h : t.blank [.quay, .leg] = s.blank [.quay, .leg]) : t.flt = s.flt := by
  rw [State.flt_of_blank h (by simp), State.transit_of_blank h (by simp)]
  rfl

theorem State.joinLatch_flt (ls : List LegNo) (rec : Nat) : (s.joinLatch ls rec).flt = s.flt := s.flt_of_legs (s.joinLatch_blank ls rec (by simp))

theorem State.endLatchWait_flt (ls : List LegNo) : (s.endLatchWait ls).flt = s.flt := s.flt_of_legs (s.endLatchWait_blank ls (by simp))

theorem State.opposeAsc_flt (f : FaultEvent) (latch : Bool) (rec : Nat) (q : QuayNo) : (s.opposeAsc f latch rec q).flt = s.flt :=
  s.flt_of_legs (s.opposeAsc_blank q f latch rec (by simp))

theorem State.applyReaction_stage (f : FaultEvent) (level rx : Nat) (latch : Bool) (quays : List QuayNo) (rec opens : Nat) :
    (s.applyReaction f level rx latch quays rec opens).flt.stage = s.flt.stage := by
  rw [(s.applyReaction_spec f level rx latch quays rec opens).2.1]

theorem State.pulse_stage (level : Nat) : (s.pulse level).flt.stage = s.flt.stage := by
  rw [(s.pulse_spec level).1]

theorem State.merge_stage (f : FaultEvent) (level rx : Nat) (latch severe above : Bool) (quays : List QuayNo) (q : QuayNo) :
    (s.merge f level rx latch severe above quays q).flt.stage = s.flt.stage := by
  unfold State.merge
  split
  · rfl
  · dsimp only
    rw [State.opposeAsc_flt]
    split
    · rw [State.applyReaction_stage, State.joinLatch_flt, State.writeRecord_stage]
      rfl
    · rw [State.joinLatch_flt, State.writeRecord_stage]
      rfl

end

/-! ### One fault in its parts (R910) -/

section
variable (s : State) (f : FaultEvent)

/-- The reaction configured for a fault at its count. -/
def State.rxOf : Nat := if s.countsSevere f then (s.faultEntry f).rSevere else (s.faultEntry f).rBase

/-- The reaction of a fault latches at its count. -/
def State.latchOf : Bool := if s.countsSevere f then (s.faultEntry f).latchSevere else (s.faultEntry f).latchBase

/-- A fault of no path class with an unacknowledged record of its own is raised one level (R901). -/
def State.escalates : Bool := !isPath f.src && s.unackedSame f && decide (s.countedLevel f < 4)

/-- The level at which a fault is recorded. -/
def State.levelOf : Nat := if s.escalates f then s.countedLevel f + 1 else s.countedLevel f

/-- The quays into whose open records a fault of the path class merges (R903). -/
def State.mergeQuays (qs : List QuayNo) : List QuayNo := if isPath f.src then qs.filter (fun q => s.quay[q].openRec.isSome) else []

/-- A fault recorded, and its reaction on the quays it does not merge into. -/
def State.recordFault (level rx : Nat) (latch severe esc : Bool) (n : Nat) (qs r : List QuayNo) : State :=
  r.foldl (fun t q => t.opposeAsc f latch s.flt.total q)
    ((((s.writeRecord { newRecord s f level qs with
      escalated := esc, severe := severe, reaction := s.reactionByte f level rx r
      latch := latch && decide (4 ≤ s.reactionByte f level rx r ∧ s.reactionByte f level rx r ≤ 6) || !f.latched.isEmpty
      count := if isPath f.src then 0 else n }).joinLatch f.latched s.flt.total).applyReaction f level rx latch r s.flt.total s.flt.total))

end

/-- A covered fault is a consequential record (R907, R908). -/
theorem State.processFault_of_covered {s : State} {x : Staged} {w : ConseqWindow} (h : s.covering x = some w) : s.processFault x =
    (s.endLatchWait x.ev.latched).writeRecord { newRecord s x.ev (s.entry x.ev.src).base (s.scopeQuays x.ev (s.entry x.ev.src).base) with
      consequential := true, count := w.record % 65536 } := by
  rw [State.processFault, h]

/-- Another fault is counted, and with no reaction that is all. -/
theorem State.processFault_of_open {s : State} {x : Staged} (h : s.covering x = none) : s.processFault x =
    let u := s.countFault x.ev
    let level := s.levelOf x.ev
    let qs := u.scopeQuays x.ev level
    let m := u.mergeQuays x.ev qs
    let r := qs.filter (fun q => !m.contains q)
    let v := m.foldl (fun t q => t.merge x.ev level (s.rxOf x.ev) (s.latchOf x.ev) (s.countsSevere x.ev) (u.aboveOpen level q) qs q) u
    if s.rxOf x.ev = 0 then u.endLatchWait x.ev.latched
    else ((if m.isEmpty || !r.isEmpty then
      v.recordFault x.ev level (s.rxOf x.ev) (s.latchOf x.ev) (s.countsSevere x.ev) (s.escalates x.ev) (s.eventNo x.ev) qs r else v).pulse level) := by
  rw [State.processFault, h]
  rfl

theorem State.recordFault_stage (s : State) (f : FaultEvent) (level rx : Nat) (latch severe esc : Bool) (n : Nat) (qs r : List QuayNo) :
    (s.recordFault f level rx latch severe esc n qs r).flt.stage = s.flt.stage := by
  unfold State.recordFault
  refine forAll_keeps (f := fun t q => t.opposeAsc f latch s.flt.total q) (P := fun t => t.flt.stage = s.flt.stage) ?_ fun t ht q _ => ?_
  · rw [State.applyReaction_stage, State.joinLatch_flt, State.writeRecord_stage]
  · rw [State.opposeAsc_flt, ht]

theorem State.processFault_stage (s : State) (x : Staged) : (s.processFault x).flt.stage = s.flt.stage := by
  cases h : s.covering x with
  | some w => rw [State.processFault_of_covered h, State.writeRecord_stage, State.endLatchWait_flt]
  | none =>
    rw [State.processFault_of_open h]
    extract_lets u level qs m r v
    split
    · exact (congrArg Collector.stage (u.endLatchWait_flt x.ev.latched) :)
    · have hv : v.flt.stage = s.flt.stage :=
        forAll_keeps (f := fun t q => t.merge x.ev level (s.rxOf x.ev) (s.latchOf x.ev) (s.countsSevere x.ev) (u.aboveOpen level q) qs q)
          (P := fun t => t.flt.stage = s.flt.stage) rfl fun t ht q _ => (t.merge_stage _ _ _ _ _ _ _ q).trans ht
      rw [State.pulse_stage]
      split
      · rw [State.recordFault_stage, hv]
      · exact hv

theorem State.noteSuspect_stage (s : State) (f : FaultEvent) : (s.noteSuspect f).flt.stage = s.flt.stage := rfl

/-! ### FAULT_ORDERED before and after its time -/

theorem execFaultOrdered_of_early {s : State} {x : Staged} {rest : List Staged} (h : s.flt.stage = x :: rest) (hn : s.now < x.arrived + 128) :
    execFaultOrdered s = .next s := by
  rw [execFaultOrdered, h]
  exact if_pos hn

/-- The device with a fault taken from the stage, its suspicion noted (R778, R897). -/
def State.unstaged (s : State) (rest : List Staged) (f : FaultEvent) : State := (s.modFlt (fun c => { c with stage := rest })).noteSuspect f

theorem execFaultOrdered_of_due {s : State} {x : Staged} {rest : List Staged} (h : s.flt.stage = x :: rest) (hn : x.arrived + 128 ≤ s.now) :
    execFaultOrdered s = .next (s.syncLegs ((sortSeverity (fun y => s.countedLevel y.ev) (x :: rest.filter (fun y => coincide x.ev.time y.ev.time))).foldl
      (fun t y => t.processFault y) ((x :: rest.filter (fun y => coincide x.ev.time y.ev.time)).foldl (fun t y => t.noteSuspect y.ev)
        (s.modFlt (fun f => { f with stage := rest.filter (fun y => !coincide x.ev.time y.ev.time) }))))) := by
  rw [execFaultOrdered, h]
  exact if_neg (Nat.not_lt.2 hn)

/-- A fault that coincides with no other is processed on its own. -/
theorem execFaultOrdered_of_single {s : State} {x : Staged} {rest : List Staged} (h : s.flt.stage = x :: rest)
    (hrest : ∀ y ∈ rest, coincide x.ev.time y.ev.time = false) (hn : x.arrived + 128 ≤ s.now) :
    execFaultOrdered s = .next (s.syncLegs ((s.unstaged rest x.ev).processFault x)) := by
  have hno : rest.filter (fun y => coincide x.ev.time y.ev.time) = [] := List.filter_eq_nil_iff.2 fun y hy => by
    rw [hrest y hy]
    exact Bool.false_ne_true
  have hall : rest.filter (fun y => !coincide x.ev.time y.ev.time) = rest := List.filter_eq_self.2 fun y hy => by rw [hrest y hy]; rfl
  rw [execFaultOrdered_of_due h hn, hno, hall]
  rfl

/-- Settles the part of O44 about the stage. -/
theorem faultOrdered_unstages {s : State} {x : Staged} {rest : List Staged} (h : s.flt.stage = x :: rest) (hn : x.arrived + 128 ≤ s.now) :
    ∃ t, exec .faultOrdered s = .next t ∧ t.flt.stage = rest.filter (fun y => !coincide x.ev.time y.ev.time) := by
  refine ⟨_, execFaultOrdered_of_due h hn, ?_⟩
  obtain ⟨-, -, hflt, -⟩ := (LegsOnly.syncLegs s ((sortSeverity (fun y => s.countedLevel y.ev) (x :: rest.filter (fun y => coincide x.ev.time y.ev.time))).foldl
      (fun t y => t.processFault y) ((x :: rest.filter (fun y => coincide x.ev.time y.ev.time)).foldl (fun t y => t.noteSuspect y.ev)
        (s.modFlt (fun f => { f with stage := rest.filter (fun y => !coincide x.ev.time y.ev.time) }))))).rest
  rw [hflt]
  refine forAll_keeps (f := fun t (y : Staged) => t.processFault y) (P := fun t => t.flt.stage = rest.filter (fun y => !coincide x.ev.time y.ev.time)) ?_
    fun t ht y _ => (t.processFault_stage y).trans ht
  exact forAll_keeps (f := fun t (y : Staged) => t.noteSuspect y.ev) (P := fun t => t.flt.stage = rest.filter (fun y => !coincide x.ev.time y.ev.time)) rfl
    fun t ht y _ => ht

/-! ### A fault covered by a consequence window (R907, R908) -/

theorem State.endLatchWait_leg (ls : List LegNo) (s : State) (l : LegNo) :
    (s.endLatchWait ls).leg[l] = { s.leg[l] with latchWait := s.leg[l].latchWait && !ls.contains l } := by
  unfold State.endLatchWait
  induction ls generalizing s with
  | nil => exact congrArg (fun b => ({ s.leg[l] with latchWait := b } : Leg)) (Bool.and_true _).symm
  | cons k ks ih =>
    rw [forAll_cons, ih, List.contains_cons]
    by_cases hk : k = l
    · subst hk
      rw [State.modLeg_self, beq_self_eq_true]
      simp
    · rw [State.modLeg_ne s _ hk, beq_false_of_ne (Ne.symm hk), Bool.false_or]

/-- A consequential record enters no first-fault register. -/
theorem State.writeRecord_consequential (s : State) {r : Record} (h : r.consequential = true) :
    (s.writeRecord r).blank [.flt, .transit, .port, .trace] = s.blank [.flt, .transit, .port, .trace] := by
  have hfirst : ∀ u : State, u.enterFirst (s.flt.entered r) = u := fun u => if_pos (by
    rw [show (s.flt.entered r).consequential = true from h, Bool.or_true])
  have hlast : (s.writeRecord r).blank [.port, .trace] =
      ((s.modFlt (fun f => { f with log := s.flt.logged r, total := f.total + 1 })).enterFirst (s.flt.entered r)).blank [.port, .trace] :=
    (State.traceFault_blank _ _ (by simp)).trans (State.faultIrq_blank _ _ (by simp))
  rw [hfirst] at hlast
  exact (State.blank_mono hlast (by simp)).trans (State.modFlt_blank s (by simp) (by simp) _)

/-- Settles the part of O44 about a covered fault. -/
theorem faultOrdered_covered {x : Staged} {rest : List Staged} {w : ConseqWindow} {s : State} (h : s.flt.stage = x :: rest)
    (hrest : ∀ y ∈ rest, coincide x.ev.time y.ev.time = false) (hn : x.arrived + 128 ≤ s.now) (hw : s.covering x = some w) :
    ∃ t r, exec .faultOrdered s = .next t ∧ t.flt.stage = rest ∧ t.flt.total = s.flt.total + 1 ∧ t.flt.log.head? = some r ∧
      r.no = s.flt.total ∧ r.src = x.ev.src ∧ r.time = x.ev.time ∧ r.severity = (s.entry x.ev.src).base ∧ r.consequential = true ∧
      r.count = w.record % 65536 ∧ t.flt.events = s.flt.events ∧
      (∀ l : LegNo, t.leg[l] = { s.leg[l] with latchWait := s.leg[l].latchWait && !x.ev.latched.contains l }) ∧
      t = { s with flt := t.flt, port := t.port, trace := t.trace, leg := t.leg } := by
  have hcov : (s.unstaged rest x.ev).covering x = some w := hw
  have hproc := State.processFault_of_covered hcov
  generalize hr : ({ newRecord (s.unstaged rest x.ev) x.ev ((s.unstaged rest x.ev).entry x.ev.src).base
    ((s.unstaged rest x.ev).scopeQuays x.ev ((s.unstaged rest x.ev).entry x.ev.src).base) with
      consequential := true, count := w.record % 65536 } : Record) = r at hproc
  have hcons : r.consequential = true := by rw [← hr]
  have hb := ((s.unstaged rest x.ev).endLatchWait x.ev.latched).writeRecord_consequential hcons
  have hflt := (((s.unstaged rest x.ev).endLatchWait x.ev.latched).writeRecord_spec r).2.1
  rw [← hproc] at hb hflt
  have hlatch := (s.unstaged rest x.ev).endLatchWait_blank (ps := [.leg]) x.ev.latched (by simp)
  have hlegs := State.endLatchWait_leg x.ev.latched (s.unstaged rest x.ev)
  have hfl := (s.unstaged rest x.ev).endLatchWait_flt x.ev.latched
  rw [hfl] at hflt
  generalize (s.unstaged rest x.ev).endLatchWait x.ev.latched = u at hb hlatch hlegs
  have hall : ((s.unstaged rest x.ev).processFault x).blank [.flt, .transit, .port, .trace, .leg] = s.blank [.flt, .transit, .port, .trace, .leg] :=
    (State.blank_mono hb (by simp)).trans ((State.blank_mono hlatch (by simp)).trans (State.modFlt_blank s (by simp) (by simp)
      fun c => (({ s with flt := { c with stage := rest } } : State).noteSuspect x.ev).flt))
  have hleg : ∀ l : LegNo, ((s.unstaged rest x.ev).processFault x).leg[l] = { s.leg[l] with latchWait := s.leg[l].latchWait && !x.ev.latched.contains l } :=
    fun l => (State.leg_of_blank hb (by simp)).trans (hlegs l)
  have hexec := execFaultOrdered_of_single h hrest hn
  generalize (s.unstaged rest x.ev).processFault x = v at hb hflt hall hleg hexec
  have hv := State.eq_take hall
  have hlow : ∀ l, s.legEnLow l = v.legEnLow l := fun l => by rw [hv]; rfl
  have hhalt : s.haltOn = v.haltOn := by rw [hv]; rfl
  have hchop : ∀ l, s.isChopperLeg l = v.isChopperLeg l := fun l => by rw [hv]; rfl
  have hheld : ∀ l, s.heldKind l = v.heldKind l := fun l => by
    have h10 : s.afterStep10 = v.afterStep10 := by rw [hv]; rfl
    rw [State.heldKind, State.heldKind, h10, hlow, hchop, hhalt, hleg l]
  have hkind : ∀ l, s.kindInForce l = v.kindInForce l := fun l => by
    have hchops : s.legChops l = v.legChops l := by
      have hlaneOf : s.laneOf l = v.laneOf l := by rw [hv]; rfl
      have hlane : s.lane = v.lane := by rw [hv]; rfl
      have hhard : s.flt.hardSafe = v.flt.hardSafe := by rw [hflt]; rfl
      rw [State.legChops, State.legChops, hlow, hlaneOf, hlane, hhard, hleg l]
    have hswitch : legChopSwitch s l = legChopSwitch v l := by rw [hv]; rfl
    rw [State.kindInForce, State.kindInForce, hheld, hchop, hchops, hswitch, hleg l]
  rw [State.syncLegs_same hheld hlow hhalt hkind] at hexec
  refine ⟨v, s.flt.entered r, hexec, ?_, ?_, ?_, ?_, ?_, ?_, ?_, hcons, ?_, ?_, hleg, ?_⟩
  · rw [hflt]
    rfl
  · rw [hflt]
    rfl
  · rw [hflt]
    rfl
  · exact (congrArg Record.no hr :).symm
  · exact (congrArg Record.src hr :).symm
  · exact (congrArg Record.time hr :).symm
  · exact (congrArg Record.severity hr :).symm
  · exact (congrArg Record.count hr :).symm
  · rw [hflt]
    rfl
  · exact hv

end Sys2Proof.Machine
end

section
namespace Sys2Proof.Machine

/-! ### What a suspicion changes at a short circuit in force (R779, R780) -/

/-- The reaction after a suspicion has been held against it. -/
def opposedTo (suspect : Nat) (old : Option Nat) : Option Nat :=
  if suspect ≠ 0 ∧ (old = some 5 ∧ suspect ≠ 2 ∨ old = some 6 ∧ suspect ≠ 1) then some 4 else old

theorem opposedTo_opposedTo (n : Nat) (old : Option Nat) : opposedTo n (opposedTo n old) = opposedTo n old := by
  unfold opposedTo
  split
  · exact if_neg (by simp)
  · rfl

theorem State.opposeAsc_ne (s : State) (f : FaultEvent) (latch : Bool) (rec : Nat) {p q : QuayNo} (h : p ≠ q) :
    (s.opposeAsc f latch rec p).fate q = s.fate q :=
  State.fate_of_blank (ps := [.quayAt p, .leg]) (s.opposeAsc_blank p f latch rec (by simp)) (by simp [Ne.symm h])

theorem State.opposeAsc_self (s : State) (f : FaultEvent) (latch : Bool) (rec : Nat) (q : QuayNo) :
    (s.opposeAsc f latch rec q).fate q = (s.quay[q].core, opposedTo f.suspect s.quay[q].react, s.quay[q].openRec) := by
  have hcond : ((s.quay[q].react == some 5 || s.quay[q].react == some 6) && f.suspect != 0 &&
      !((f.suspect == 1 && s.quay[q].react == some 6) || (f.suspect == 2 && s.quay[q].react == some 5))) = true ↔
      f.suspect ≠ 0 ∧ (s.quay[q].react = some 5 ∧ f.suspect ≠ 2 ∨ s.quay[q].react = some 6 ∧ f.suspect ≠ 1) := by
    simp only [Bool.and_eq_true, Bool.or_eq_true, Bool.not_eq_true', Bool.or_eq_false_iff, Bool.and_eq_false_iff, beq_iff_eq, bne_iff_ne,
      beq_eq_false_iff_ne]
    constructor
    · rintro ⟨⟨h5 | h6, h0⟩, h1, h2⟩
      · exact ⟨h0, .inl ⟨h5, h2.resolve_right fun h => h h5⟩⟩
      · exact ⟨h0, .inr ⟨h6, h1.resolve_right fun h => h h6⟩⟩
    · rintro ⟨h0, ⟨h5, h2⟩ | ⟨h6, h1⟩⟩
      · exact ⟨⟨.inl h5, h0⟩, .inr (by rw [h5]; decide), .inl h2⟩
      · exact ⟨⟨.inr h6, h0⟩, .inl h1, .inr (by rw [h6]; decide)⟩
  unfold State.opposeAsc opposedTo
  dsimp only
  by_cases hc : f.suspect ≠ 0 ∧ (s.quay[q].react = some 5 ∧ f.suspect ≠ 2 ∨ s.quay[q].react = some 6 ∧ f.suspect ≠ 1)
  · rw [if_pos (hcond.2 hc), if_pos hc, State.putReaction_fate]
    obtain ⟨-, ⟨h5, -⟩ | ⟨h6, -⟩⟩ := hc
    · rw [h5]
      rfl
    · rw [h6]
      rfl
  · rw [if_neg (mt hcond.1 hc), if_neg hc, State.fate]

/-- A suspicion held against the quays of a list, however often it names them. -/
theorem State.foldl_opposeAsc (s : State) (f : FaultEvent) (latch : Bool) (rec : Nat) (qs : List QuayNo) (q : QuayNo) :
    (qs.foldl (fun t q => t.opposeAsc f latch rec q) s).fate q =
      (s.quay[q].core, (if q ∈ qs then opposedTo f.suspect s.quay[q].react else s.quay[q].react), s.quay[q].openRec) := by
  by_cases hq : q ∈ qs
  · rw [if_pos hq]
    have hstep : ∀ t : State, (t.fate q = s.fate q ∨ t.fate q = (s.quay[q].core, opposedTo f.suspect s.quay[q].react, s.quay[q].openRec)) →
        (t.opposeAsc f latch rec q).fate q = (s.quay[q].core, opposedTo f.suspect s.quay[q].react, s.quay[q].openRec) := by
      rintro t (ht | ht)
      · obtain ⟨hc, hr, ho⟩ := State.fate_ext ht
        rw [State.opposeAsc_self, hc, hr, ho]
      · have hc := congrArg Prod.fst ht
        have hr := congrArg (fun x => x.2.1) ht
        have ho := congrArg (fun x => x.2.2) ht
        simp only [State.fate] at hc hr ho
        rw [State.opposeAsc_self, hc, hr, ho, opposedTo_opposedTo]
    refine forAll_establishes (f := fun t q => t.opposeAsc f latch rec q) hq
      (P := fun t => t.fate q = s.fate q ∨ t.fate q = (s.quay[q].core, opposedTo f.suspect s.quay[q].react, s.quay[q].openRec))
      (Q := fun t => t.fate q = (s.quay[q].core, opposedTo f.suspect s.quay[q].react, s.quay[q].openRec)) (.inl rfl) (fun t ht p _ => ?_) hstep
      fun t _ ht p _ => ?_
    · by_cases hp : p = q
      · exact .inr (hp ▸ hstep t ht)
      · exact ht.imp (t.opposeAsc_ne f latch rec hp).trans (t.opposeAsc_ne f latch rec hp).trans
    · by_cases hp : p = q
      · exact hp ▸ hstep t (.inr ht)
      · exact (t.opposeAsc_ne f latch rec hp).trans ht
  · rw [if_neg hq]
    exact forAll_keeps (f := fun t q => t.opposeAsc f latch rec q) (P := fun t => t.fate q = s.fate q) rfl fun t ht p hp =>
      (t.opposeAsc_ne f latch rec fun (e : p = q) => hq (e ▸ hp)).trans ht

/-! ### A fault recorded with its reaction -/

/-- The record of a fault. -/
def State.faultRecord (s : State) (f : FaultEvent) (level rx : Nat) (latch severe esc : Bool) (n : Nat) (qs r : List QuayNo) : Record :=
  { newRecord s f level qs with
      escalated := esc, severe := severe, reaction := s.reactionByte f level rx r
      latch := latch && decide (4 ≤ s.reactionByte f level rx r ∧ s.reactionByte f level rx r ≤ 6) || !f.latched.isEmpty
      count := if isPath f.src then 0 else n }

theorem State.recordFault_eq (s : State) (f : FaultEvent) (level rx : Nat) (latch severe esc : Bool) (n : Nat) (qs r : List QuayNo) :
    s.recordFault f level rx latch severe esc n qs r = r.foldl (fun t q => t.opposeAsc f latch s.flt.total q)
      (((s.writeRecord (s.faultRecord f level rx latch severe esc n qs r)).joinLatch f.latched s.flt.total).applyReaction f level rx latch r
        s.flt.total s.flt.total) := rfl

theorem State.foldl_opposeAsc_blank {ps : List Part} (s : State) (f : FaultEvent) (latch : Bool) (rec : Nat) (qs : List QuayNo) (h : Covers ps [.quay, .leg]) :
    (qs.foldl (fun t q => t.opposeAsc f latch rec q) s).blank ps = s.blank ps := by
  simp at h
  exact forAll_blank s qs (fun t q => t.opposeAsc f latch rec q) fun t q => t.opposeAsc_blank q f latch rec (by simp [h])

theorem State.foldl_opposeAsc_flt (s : State) (f : FaultEvent) (latch : Bool) (rec : Nat) (qs : List QuayNo) :
    (qs.foldl (fun t q => t.opposeAsc f latch rec q) s).flt = s.flt := s.flt_of_legs (s.foldl_opposeAsc_blank f latch rec qs (by simp))

theorem State.foldl_opposeAsc_base (s : State) (f : FaultEvent) (latch : Bool) (rec : Nat) (qs : List QuayNo) :
    (qs.foldl (fun t q => t.opposeAsc f latch rec q) s).base = s.base :=
  forAll_keeps (f := fun t q => t.opposeAsc f latch rec q) (P := fun t => t.base = s.base) rfl fun t ht q _ => (t.opposeAsc_base f latch rec q).trans ht

/-- What is asked of a device at a reaction: the quays' fates and the configuration. -/
theorem State.ActedOn.congr {s u t : State} {q : QuayNo} {level code opens : Nat} (h : u.ActedOn t q level code opens) (hf : u.fate q = s.fate q) :
    s.ActedOn t q level code opens := by
  obtain ⟨hc, hr, ho⟩ := State.fate_ext hf
  unfold State.ActedOn State.movesTo at *
  rw [hc, hr, ho] at h
  exact h

theorem State.recordFault_spec (s : State) (f : FaultEvent) (level rx : Nat) (latch severe esc : Bool) (n : Nat) (qs r : List QuayNo) :
    let t := s.recordFault f level rx latch severe esc n qs r
    let rc := s.faultRecord f level rx latch severe esc n qs r
    t.blank faultParts = s.blank faultParts ∧
    t.flt = { s.flt with log := s.flt.logged rc, total := s.flt.total + 1, devFirst := s.flt.firstAfter rc
                         devSafe := s.flt.devSafe || putsSafe level rx, conseq := t.flt.conseq } ∧
    (resetOf f level rx = none → ∀ q,
      (q ∈ s.reactQuays level rx r → s.movesTo q (actLevel level rx) →
        t.quay[q].core.st = (if actLevel level rx = 2 then .faulted else .safe) ∧ t.quay[q].openRec = some s.flt.total) ∧
      (¬ (q ∈ s.reactQuays level rx r ∧ s.movesTo q (actLevel level rx)) → t.quay[q].core = s.quay[q].core ∧ t.quay[q].openRec = s.quay[q].openRec) ∧
      t.quay[q].react = (let put := if q ∈ s.reactQuays level rx r then reactedTo s.quay[q].react (s.codeAt f level rx r q) else s.quay[q].react
        if q ∈ r then opposedTo f.suspect put else put)) ∧
    (∀ h, resetOf f level rx = some h → (s.half.get h).run = true → HalfLost s t h) ∧
    (∀ n, (n = 9 ∧ putsSafe level rx = true) ∨ (n = 8 ∧ (resetOf f level rx).isSome = true) → s.conseqWindow n [] true s.flt.total ∈ t.flt.conseq) ∧
    (∀ q ∈ r, s.appliedCode f level rx q ≠ 0 → rx ≠ 9 → ∃ qs, q ∈ qs ∧
      s.conseqWindow (if rx = 7 then 7 else s.appliedCode f level rx q) qs false s.flt.total ∈ t.flt.conseq) := by
  intro t rc
  obtain ⟨hwb, hwf, hwq⟩ := s.writeRecord_spec rc
  have hjb := (s.writeRecord rc).joinLatch_blank (ps := [.leg]) f.latched s.flt.total (by simp)
  have hjf := (s.writeRecord rc).joinLatch_flt f.latched s.flt.total
  have hbase2 : ((s.writeRecord rc).joinLatch f.latched s.flt.total).base = s.base := by simp
  have ht : t = r.foldl (fun t q => t.opposeAsc f latch s.flt.total q)
      (((s.writeRecord rc).joinLatch f.latched s.flt.total).applyReaction f level rx latch r s.flt.total s.flt.total) := rfl
  have hsusp := congrArg Collector.suspects hwf
  generalize hu : (s.writeRecord rc).joinLatch f.latched s.flt.total = u at hjb hjf hbase2 ht
  have hub : u.blank [.flt, .transit, .quay, .port, .trace, .leg] = s.blank [.flt, .transit, .quay, .port, .trace, .leg] :=
    (State.blank_mono hjb (by simp)).trans (State.blank_mono hwb (by simp))
  have hu' := State.eq_take hub
  have hufate : ∀ q, u.fate q = s.fate q := fun q =>
    (State.fate_of_blank hjb (by simp)).trans (State.fate_of_unfirst (hwq q))
  have hususp : u.flt.suspects = s.flt.suspects := by
    rw [hjf]
    exact hsusp
  have hcodeOn : ∀ q, u.codeOn f level rx q = s.codeOn f level rx q := fun q => by
    have hsf : u.suspectsFor f q = s.suspectsFor f q := by
      rw [State.suspectsFor, State.suspectsFor, hususp, hu']
      rfl
    rw [State.codeOn, hsf, State.codeOn, hu']
    rfl
  have hsafe : ∀ q, u.safeCode q = s.safeCode q := fun q => by
    rw [hu']
    rfl
  have hcode : ∀ q, u.codeAt f level rx r q = s.codeAt f level rx r q := fun q => by
    rw [State.codeAt, State.codeAt, hcodeOn, hsafe]
  have happ : ∀ q, u.appliedCode f level rx q = s.appliedCode f level rx q := fun q => by
    have hr : u.quay[q].react = s.quay[q].react := (State.fate_ext (hufate q)).2.1
    rw [State.appliedCode, State.appliedCode, hcodeOn, hr]
  have hquays : u.reactQuays level rx r = s.reactQuays level rx r := by
    rw [hu']
    rfl
  have hwin : ∀ n qs b, u.conseqWindow n qs b s.flt.total = s.conseqWindow n qs b s.flt.total := fun n qs b => by
    rw [hu']
    rfl
  obtain ⟨hab, haf, haq, hal, haw, hac⟩ := u.applyReaction_spec f level rx latch r s.flt.total s.flt.total
  rw [hquays] at haq
  generalize u.applyReaction f level rx latch r s.flt.total s.flt.total = v at hab haf haq hal haw hac ht
  have hob := v.foldl_opposeAsc_blank (ps := [.quay, .leg]) f latch s.flt.total r (by simp)
  have hof := v.foldl_opposeAsc_flt f latch s.flt.total r
  have hoq := v.foldl_opposeAsc f latch s.flt.total r
  have hobase := v.foldl_opposeAsc_base f latch s.flt.total r
  rw [← ht] at hob hof hoq hobase
  clear_value t
  refine ⟨?_, ?_, fun hno q => ?_, fun h hh hr => ?_, fun n hn => ?_, fun q hq hc h9 => ?_⟩
  · exact (State.blank_mono hob (by simp)).trans ((State.blank_mono hab (by simp)).trans (State.blank_mono hub (by simp)))
  · rw [hof, haf, hjf, hwf]
  · obtain ⟨hin, hout⟩ := haq hno
    have hfin := hoq q
    have hcore : t.quay[q].core = v.quay[q].core := congrArg Prod.fst hfin
    have hopen : t.quay[q].openRec = v.quay[q].openRec := congrArg (fun x => x.2.2) hfin
    have hreact : t.quay[q].react = if q ∈ r then opposedTo f.suspect v.quay[q].react else v.quay[q].react := congrArg (fun x => x.2.1) hfin
    rw [hcore, hopen, hreact]
    by_cases hq : q ∈ s.reactQuays level rx r
    · obtain ⟨hre, hmv, hst⟩ := (hin q hq).congr (hufate q)
      rw [hcode] at hre
      exact ⟨fun _ hm => hmv hm, fun hn => hst fun hm => hn ⟨hq, hm⟩, by rw [hre, if_pos hq]⟩
    · obtain ⟨hc, hr, ho⟩ := State.fate_ext ((hout q hq).trans (hufate q))
      exact ⟨fun hc => absurd hc hq, fun _ => ⟨hc, ho⟩, by rw [hr, if_neg hq]⟩
  · have hhalf : u.half = s.half := State.half_of_blank hub (by simp)
    have hhm : u.hm = s.hm := State.hm_of_blank hub (by simp)
    have hnow : u.now = s.now := by
      rw [hu']
      rfl
    refine ((hal h hh (by rw [hhalf]; exact hr)).of_before hhalf hhm hnow hbase2).of_after ?_ ?_ ?_ hobase
    · exact State.half_of_blank hob (by simp)
    · exact State.port_of_blank hob (by simp)
    · exact State.hm_of_blank hob (by simp)
  · rw [hof]
    exact hwin n [] true ▸ haw n hn
  · rw [← happ q] at hc ⊢
    obtain ⟨qs, hqs, hw⟩ := hac q hq hc h9
    rw [hof]
    exact ⟨qs, hqs, hwin _ qs false ▸ hw⟩

end Sys2Proof.Machine
end

section
namespace Sys2Proof.Machine

/-! ### A suspicion noted changes no code (R778, R897) -/

theorem State.suspects_all (s : State) (rest : List Staged) (f : FaultEvent) (q : QuayNo) (p : Nat → Bool) :
    ((s.unstaged rest f).suspectsFor f q).all p = (s.suspectsFor f q).all p := by
  have hnew : ∀ e ∈ (if f.suspect = 0 then [] else f.quays.map (fun q => (q, s.now, f.suspect))), e.2.2 = f.suspect := by
    intro e he
    split at he
    · exact absurd he List.not_mem_nil
    · obtain ⟨p, -, rfl⟩ := List.mem_map.1 he
      rfl
  have hsus : (s.unstaged rest f).flt.suspects = (if f.suspect = 0 then [] else f.quays.map (fun q => (q, s.now, f.suspect))) ++
      s.flt.suspects.filter (fun e => coincide e.2.1 s.now) := rfl
  have hnow : (s.unstaged rest f).now = s.now := rfl
  rw [State.suspectsFor, State.suspectsFor, hsus, hnow]
  generalize (if f.suspect = 0 then [] else f.quays.map (fun q => (q, s.now, f.suspect))) = new at hnew
  rw [Bool.eq_iff_iff]
  simp only [List.filter_append, List.filter_filter, List.map_append, List.all_cons, List.all_append, Bool.and_eq_true, List.all_map,
    List.all_eq_true, List.mem_filter, Function.comp_apply]
  constructor
  · rintro ⟨hp, -, hold⟩
    exact ⟨hp, fun e ⟨he, hq, hc⟩ => hold e ⟨he, ⟨hq, hc⟩, hc⟩⟩
  · rintro ⟨hp, hold⟩
    exact ⟨hp, fun e ⟨he, _⟩ => by rw [hnew e he]; exact hp, fun e ⟨he, ⟨hq, hc⟩, _⟩ => hold e ⟨he, hq, hc⟩⟩

theorem State.codeOn_unstaged (s : State) (rest : List Staged) (f : FaultEvent) (level rx : Nat) (q : QuayNo) :
    (s.unstaged rest f).codeOn f level rx q = s.codeOn f level rx q := by
  have hres : resolveSuspicion ((s.unstaged rest f).suspectsFor f q) = resolveSuspicion (s.suspectsFor f q) := by
    rw [resolveSuspicion, resolveSuspicion, s.suspects_all, s.suspects_all]
  rw [State.codeOn, State.codeOn, hres]
  rfl

/-! ### The record of a fault that merges into none -/

/-- The device as a fault finds it that is to be recorded: taken from the stage, its suspicion noted, counted. -/
def State.counted (s : State) (rest : List Staged) (f : FaultEvent) : State := (s.unstaged rest f).countFault f

section
variable (s : State) (rest : List Staged) (f : FaultEvent)

theorem State.counted_blank : (s.counted rest f).blank [.flt, .transit] = s.blank [.flt, .transit] := by
  refine (State.countFault_blank _ f (by simp) (by simp)).trans ?_
  exact State.modFlt_blank s (by simp) (by simp) fun c => (({ s with flt := { c with stage := rest } } : State).noteSuspect f).flt

theorem State.counted_flt : (s.counted rest f).flt = { s.flt with
    stage := rest, suspects := (s.counted rest f).flt.suspects, windows := (s.counted rest f).flt.windows, events := (s.counted rest f).flt.events } ∧
    assoc (s.counted rest f).flt.events f.src = some ((assoc s.flt.events f.src).getD 0 + 1) :=
  ⟨rfl, (State.countFault_spec (s.unstaged rest f) f).2⟩

theorem State.counted_codeOn (level rx : Nat) (q : QuayNo) : (s.counted rest f).codeOn f level rx q = s.codeOn f level rx q :=
  s.codeOn_unstaged rest f level rx q

theorem State.counted_appliedCode (level rx : Nat) (q : QuayNo) : (s.counted rest f).appliedCode f level rx q = s.appliedCode f level rx q := by
  rw [State.appliedCode, s.counted_codeOn]
  rfl

theorem State.counted_codeAt (level rx : Nat) (quays : List QuayNo) (q : QuayNo) : (s.counted rest f).codeAt f level rx quays q = s.codeAt f level rx quays q := by
  rw [State.codeAt, s.counted_codeOn]
  rfl

theorem State.counted_reactionByte (level rx : Nat) (quays : List QuayNo) : (s.counted rest f).reactionByte f level rx quays = s.reactionByte f level rx quays := by
  have h : (s.counted rest f).appliedCode f level rx = s.appliedCode f level rx := funext (s.counted_appliedCode rest f level rx)
  have hk : (s.counted rest f).kernelQuays = s.kernelQuays := rfl
  rw [State.reactionByte, State.reactionByte, h, hk]

end

theorem State.faultRecord_reaction (s : State) (f : FaultEvent) (level rx : Nat) (latch severe esc : Bool) (n : Nat) (qs r : List QuayNo) :
    (s.faultRecord f level rx latch severe esc n qs r).reaction = s.reactionByte f level rx r := rfl

/-- A fault that is covered by no window and merges into no open record. -/
theorem execFaultOrdered_records {s : State} {x : Staged} {rest : List Staged} (h : s.flt.stage = x :: rest)
    (hrest : ∀ y ∈ rest, coincide x.ev.time y.ev.time = false) (hn : x.arrived + 128 ≤ s.now) (hw : s.covering x = none) (hrx : s.rxOf x.ev ≠ 0)
    (hopen : isPath x.ev.src = true → ∀ q ∈ s.scopeQuays x.ev (s.levelOf x.ev), s.quay[q].openRec = none) :
    execFaultOrdered s = .next (s.syncLegs (((s.counted rest x.ev).recordFault x.ev (s.levelOf x.ev) (s.rxOf x.ev) (s.latchOf x.ev) (s.countsSevere x.ev)
      (s.escalates x.ev) (s.eventNo x.ev) (s.scopeQuays x.ev (s.levelOf x.ev)) (s.scopeQuays x.ev (s.levelOf x.ev))).pulse (s.levelOf x.ev))) := by
  have hcov : (s.unstaged rest x.ev).covering x = none := hw
  have hmerge : (s.counted rest x.ev).mergeQuays x.ev (s.scopeQuays x.ev (s.levelOf x.ev)) = [] := by
    unfold State.mergeQuays
    split
    next hp =>
      refine List.filter_eq_nil_iff.2 fun q hq => ?_
      have hnone : (s.counted rest x.ev).quay[q].openRec = none := hopen hp q hq
      rw [hnone]
      exact Bool.false_ne_true
    · rfl
  have hall : (s.scopeQuays x.ev (s.levelOf x.ev)).filter (fun q => !([] : List QuayNo).contains q) = s.scopeQuays x.ev (s.levelOf x.ev) :=
    List.filter_eq_self.2 fun _ _ => rfl
  rw [execFaultOrdered_of_single h hrest hn, State.processFault_of_open hcov]
  extract_lets u level qs m r v
  have hm : m = [] := hmerge
  have hr : r = s.scopeQuays x.ev (s.levelOf x.ev) := by
    change qs.filter (fun q => !m.contains q) = _
    rw [hm]
    exact hall
  have hv : v = s.counted rest x.ev := by
    change m.foldl _ u = _
    rw [hm]
    rfl
  have hrx' : ¬ (s.unstaged rest x.ev).rxOf x.ev = 0 := hrx
  rw [if_neg hrx', hm, if_pos (show (([] : List QuayNo).isEmpty || !r.isEmpty) = true from rfl), hv, hr]
  rfl

/-- The reaction of a quay once a record has put its own. -/
def State.putOn (s : State) (f : FaultEvent) (level rx : Nat) (qs : List QuayNo) (q : QuayNo) : Option Nat :=
  if q ∈ s.reactQuays level rx qs then reactedTo s.quay[q].react (s.codeAt f level rx qs q) else s.quay[q].react

theorem resetOf_iff {f : FaultEvent} {level rx : Nat} {h : Side} :
    resetOf f level rx = some h ↔ rx = 8 ∧ level < 3 ∧ f.scope = (if h = .a then 0xE0 else 0xE1) := by
  unfold resetOf scopeHalf
  by_cases hc : rx = 8 ∧ level < 3
  · rw [if_pos hc]
    by_cases ha : f.scope = 0xE0
    · rw [if_pos ha, ha]
      cases h <;> simp [hc]
    · rw [if_neg ha]
      by_cases hb : f.scope = 0xE1
      · rw [if_pos hb, hb]
        cases h <;> simp [hc]
      · rw [if_neg hb]
        refine ⟨nofun, fun hh => ?_⟩
        cases h
        · exact absurd hh.2.2 ha
        · exact absurd hh.2.2 hb
  · rw [if_neg hc]
    exact ⟨nofun, fun hh => absurd ⟨hh.1, hh.2.1⟩ hc⟩

theorem putsSafe_iff (level rx : Nat) : putsSafe level rx = true ↔ rx = 9 ∨ level = 4 := by
  rw [putsSafe, Bool.or_eq_true, beq_iff_eq, beq_iff_eq, or_comm]

/-- Settles the part of O44 about a fault recorded with its reaction. -/
theorem faultOrdered_recorded {x : Staged} {rest : List Staged} {s : State} (h : s.flt.stage = x :: rest)
    (hrest : ∀ y ∈ rest, coincide x.ev.time y.ev.time = false) (hn : x.arrived + 128 ≤ s.now) (hw : s.covering x = none) (hrx : s.rxOf x.ev ≠ 0)
    (hopen : isPath x.ev.src = true → ∀ q ∈ s.scopeQuays x.ev (s.levelOf x.ev), s.quay[q].openRec = none) :
    ∃ t, exec .faultOrdered s = .next t ∧
      t.flt = { (s.counted rest x.ev).flt with
        log := t.flt.log, total := s.flt.total + 1, devFirst := (if s.levelOf x.ev = 0 then s.flt.devFirst else some (s.flt.devFirst.getD s.flt.total))
        devSafe := s.flt.devSafe || putsSafe (s.levelOf x.ev) (s.rxOf x.ev), conseq := t.flt.conseq, pulseUntil := t.flt.pulseUntil } ∧
      t.flt.log.head? = some ((s.counted rest x.ev).flt.entered ((s.counted rest x.ev).faultRecord x.ev (s.levelOf x.ev) (s.rxOf x.ev) (s.latchOf x.ev)
        (s.countsSevere x.ev) (s.escalates x.ev) (s.eventNo x.ev) (s.scopeQuays x.ev (s.levelOf x.ev)) (s.scopeQuays x.ev (s.levelOf x.ev)))) ∧
      (resetOf x.ev (s.levelOf x.ev) (s.rxOf x.ev) = none → ∀ q : QuayNo,
        (q ∈ s.reactQuays (s.levelOf x.ev) (s.rxOf x.ev) (s.scopeQuays x.ev (s.levelOf x.ev)) → s.movesTo q (actLevel (s.levelOf x.ev) (s.rxOf x.ev)) →
          t.quay[q].core.st = (if actLevel (s.levelOf x.ev) (s.rxOf x.ev) = 2 then .faulted else .safe) ∧ t.quay[q].openRec = some s.flt.total) ∧
        (¬ (q ∈ s.reactQuays (s.levelOf x.ev) (s.rxOf x.ev) (s.scopeQuays x.ev (s.levelOf x.ev)) ∧ s.movesTo q (actLevel (s.levelOf x.ev) (s.rxOf x.ev))) →
          t.quay[q].core = s.quay[q].core ∧ t.quay[q].openRec = s.quay[q].openRec) ∧
        t.quay[q].react = (if q ∈ s.scopeQuays x.ev (s.levelOf x.ev) then
            opposedTo x.ev.suspect (s.putOn x.ev (s.levelOf x.ev) (s.rxOf x.ev) (s.scopeQuays x.ev (s.levelOf x.ev)) q)
          else s.putOn x.ev (s.levelOf x.ev) (s.rxOf x.ev) (s.scopeQuays x.ev (s.levelOf x.ev)) q)) ∧
      (∀ g, resetOf x.ev (s.levelOf x.ev) (s.rxOf x.ev) = some g → (s.half.get g).run = true → HalfLost s t g) ∧
      (∀ n, (n = 9 ∧ putsSafe (s.levelOf x.ev) (s.rxOf x.ev) = true) ∨ (n = 8 ∧ (resetOf x.ev (s.levelOf x.ev) (s.rxOf x.ev)).isSome = true) →
        s.conseqWindow n [] true s.flt.total ∈ t.flt.conseq) ∧
      (∀ q ∈ s.scopeQuays x.ev (s.levelOf x.ev), s.appliedCode x.ev (s.levelOf x.ev) (s.rxOf x.ev) q ≠ 0 → s.rxOf x.ev ≠ 9 → ∃ qs, q ∈ qs ∧
        s.conseqWindow (if s.rxOf x.ev = 7 then 7 else s.appliedCode x.ev (s.levelOf x.ev) (s.rxOf x.ev) q) qs false s.flt.total ∈ t.flt.conseq) ∧
      (s.afterStep10 = true → fltErrLevel s ≤ s.levelOf x.ev → t.flt.pulseUntil = some (s.now + 6400 * fltErrPulse s)) := by
  have hexec := execFaultOrdered_records h hrest hn hw hrx hopen
  generalize s.levelOf x.ev = level at hexec ⊢
  generalize s.rxOf x.ev = rx at hexec hrx ⊢
  generalize s.scopeQuays x.ev level = qs at hexec ⊢
  have hcb := s.counted_blank rest x.ev
  have hc' := State.eq_take hcb
  have hcflt := (s.counted_flt rest x.ev).1
  have hcq : ∀ q : QuayNo, (s.counted rest x.ev).quay[q] = s.quay[q] := fun q => rfl
  have hcode := s.counted_codeAt rest x.ev level rx qs
  have happ := s.counted_appliedCode rest x.ev level rx
  have hbase : (s.counted rest x.ev).base = s.base := rfl
  obtain ⟨hrb, hrf, hrq, hrl, hrw, hrc⟩ := (s.counted rest x.ev).recordFault_spec x.ev level rx (s.latchOf x.ev) (s.countsSevere x.ev) (s.escalates x.ev)
    (s.eventNo x.ev) qs qs
  have hsev : ((s.counted rest x.ev).faultRecord x.ev level rx (s.latchOf x.ev) (s.countsSevere x.ev) (s.escalates x.ev) (s.eventNo x.ev) qs qs).severity = level := rfl
  have hmc : ((s.counted rest x.ev).faultRecord x.ev level rx (s.latchOf x.ev) (s.countsSevere x.ev) (s.escalates x.ev) (s.eventNo x.ev) qs qs).merged = false ∧
      ((s.counted rest x.ev).faultRecord x.ev level rx (s.latchOf x.ev) (s.countsSevere x.ev) (s.escalates x.ev) (s.eventNo x.ev) qs qs).consequential = false ∧
      ((s.counted rest x.ev).faultRecord x.ev level rx (s.latchOf x.ev) (s.countsSevere x.ev) (s.escalates x.ev) (s.eventNo x.ev) qs qs).no = s.flt.total :=
    ⟨rfl, rfl, rfl⟩
  generalize hrec : (s.counted rest x.ev).faultRecord x.ev level rx (s.latchOf x.ev) (s.countsSevere x.ev) (s.escalates x.ev) (s.eventNo x.ev) qs qs = rc at hrf hsev hmc ⊢
  generalize (s.counted rest x.ev).recordFault x.ev level rx _ _ _ _ qs qs = v at hexec hrb hrf hrq hrl hrw hrc
  obtain ⟨hp, hpulse⟩ := v.pulse_spec level
  have hpbase : (v.pulse level).base = v.base := v.pulse_base level
  generalize v.pulse level = w at hexec hp hpulse hpbase
  obtain ⟨htq, htp, htf, -, hthm, hthalf, -⟩ := (LegsOnly.syncLegs s w).rest
  have htbase : (s.syncLegs w).base = w.base := by simp
  refine ⟨_, hexec, ?_⟩
  generalize s.syncLegs w = t at htq htp htf hthm hthalf htbase ⊢
  have hflt : t.flt = { v.flt with pulseUntil := t.flt.pulseUntil } := by
    rw [htf, hp]
  have hquay : t.quay = v.quay := by
    rw [htq, hp]
  have hvb := hrb.trans (State.blank_mono hcb (by simp))
  have hv := State.eq_take hvb
  refine ⟨?_, ?_, fun hno q => ?_, fun g hg hrun => ?_, fun n hnn => ?_, fun q hq hc h9 => ?_, fun h10 hl => ?_⟩
  · have hfirst : (s.counted rest x.ev).flt.firstAfter rc = if level = 0 then s.flt.devFirst else some (s.flt.devFirst.getD s.flt.total) := by
      obtain ⟨hm, hcq, hno⟩ := hmc
      rw [Collector.firstAfter, hm, hcq, hsev, hno, Bool.or_false, Bool.or_false]
      by_cases h0 : level = 0
      · rw [if_pos h0, if_pos (decide_eq_true h0)]
        rfl
      · rw [if_neg h0, if_neg (by rw [decide_eq_false h0]; exact Bool.false_ne_true)]
        rfl
    rw [hflt, hrf, hfirst]
    rfl
  · rw [hflt, hrf]
    rfl
  · have hq := hrq hno q
    rw [hcode, hcq] at hq
    rw [hquay]
    exact hq
  · refine (((hrl g hg hrun).of_before (s := s) rfl rfl rfl hbase).of_after ?_ ?_ ?_ (htbase.trans hpbase))
    · rw [hthalf, hp]
    · rw [htp, hp]
    · rw [hthm, hp]
  · rw [hflt]
    exact hrw n hnn
  · rw [← happ q] at hc ⊢
    rw [hflt]
    exact hrc q hq hc h9
  · have hpl := hpulse (by rw [hv]; exact h10) (by rw [hv]; exact hl)
    rw [htf, hpl, hv]
    rfl

end Sys2Proof.Machine
end

section
namespace Sys2Proof.Machine

/-! ### FAULT_ORDERED of a fault that is recorded with its reaction -/

section
variable (s : State) (f : FaultEvent)

theorem State.escalates_iff : s.escalates f = true ↔ isPath f.src = false ∧ s.unackedSame f = true ∧ s.countedLevel f < 4 := by
  rw [State.escalates, Bool.and_eq_true, Bool.and_eq_true, Bool.not_eq_true', decide_eq_true_eq, and_assoc]

theorem State.levelOf_eq : s.levelOf f =
    if isPath f.src = false ∧ s.unackedSame f = true ∧ s.countedLevel f < 4 then s.countedLevel f + 1 else s.countedLevel f := by
  rw [State.levelOf]
  exact if_congr (s.escalates_iff f) rfl rfl

theorem State.escalates_iff_levelOf : s.escalates f = true ↔ s.levelOf f ≠ s.countedLevel f := by
  rw [State.levelOf]
  split
  next h => exact iff_of_true h (Nat.succ_ne_self _)
  next h => exact iff_of_false h fun hne => hne rfl

/-- A fault of the path class is recorded at its counted level. -/
theorem State.levelOf_of_path (h : isPath f.src = true) : s.levelOf f = s.countedLevel f :=
  if_neg fun he => by
    rw [((s.escalates_iff f).1 he).1] at h
    exact Bool.false_ne_true h

variable (level rx : Nat) (qs : List QuayNo)

theorem State.reactQuays_eq : s.reactQuays level rx qs = if rx = 9 ∨ level = 4 then s.kernelQuays else qs :=
  if_congr (putsSafe_iff level rx) rfl rfl

theorem actLevel_eq : actLevel level rx = if rx = 9 ∨ level = 4 then max level 3 else level :=
  if_congr (putsSafe_iff level rx) rfl rfl

theorem State.codeAt_eq (q : QuayNo) : s.codeAt f level rx qs q = if (rx = 9 ∨ level = 4) ∧ q ∉ qs then s.safeCode q else s.codeOn f level rx q := by
  rw [State.codeAt]
  refine if_congr ?_ rfl rfl
  rw [Bool.and_eq_true, Bool.not_eq_true', putsSafe_iff, ← Bool.not_eq_true, List.contains_iff_mem]

theorem State.putOn_eq (q : QuayNo) : s.putOn f level rx qs q =
    if q ∈ s.reactQuays level rx qs ∧ 2 ≤ s.codeAt f level rx qs q ∧ s.codeAt f level rx qs q ≤ 6 then some (combine s.quay[q].react (s.codeAt f level rx qs q))
    else s.quay[q].react := by
  rw [State.putOn]
  by_cases hq : q ∈ s.reactQuays level rx qs
  · rw [if_pos hq, reactedTo]
    exact if_congr (and_iff_right hq).symm rfl rfl
  · rw [if_neg hq, if_neg fun h => hq h.1]

end

theorem ite_opposedTo_of_opposed {p : Prop} [Decidable p] {n : Nat} {old : Option Nat} (h : p ∧ n ≠ 0 ∧ (old = some 5 ∧ n ≠ 2 ∨ old = some 6 ∧ n ≠ 1)) :
    (if p then opposedTo n old else old) = some 4 := by
  rw [if_pos h.1, opposedTo, if_pos h.2]

theorem ite_opposedTo_of_not_opposed {p : Prop} [Decidable p] {n : Nat} {old : Option Nat}
    (h : ¬ (p ∧ n ≠ 0 ∧ (old = some 5 ∧ n ≠ 2 ∨ old = some 6 ∧ n ≠ 1))) : (if p then opposedTo n old else old) = old := by
  split
  next hp => exact if_neg fun hn => h ⟨hp, hn⟩
  · rfl

/-! ### A fault of the path class that merges into an open record (R903 to R906) -/

/-- The open record after a fault has been merged into it. -/
def mergedRecord (f : FaultEvent) (level : Nat) (same : Bool) (r : Record) : Record :=
  { r with count := r.count + 1, severity := max r.severity level, ctx := if same then { r.ctx with sub := r.ctx.sub ||| f.ctx.sub } else r.ctx }

/-- The open record was opened by the same source. -/
def State.sameSource (s : State) (f : FaultEvent) (o : Nat) : Bool :=
  match s.flt.record o with
  | some r => r.src == f.src
  | none => false

/-- The collector with a fault merged into an open record. -/
def State.mergeInto (s : State) (f : FaultEvent) (level o : Nat) : State :=
  s.modFlt (fun c => c.modRecord o (mergedRecord f level (s.sameSource f o)))

/-- The record of a fault that merges at no level above that of the open record. -/
def State.mergeRecord (s : State) (f : FaultEvent) (level : Nat) (latch severe : Bool) (o : Nat) (quays : List QuayNo) : Record :=
  { newRecord s f level quays with
      merged := true, severe := severe, count := o % 65536, reaction := 0, latch := latch && decide (4 ≤ 0 ∧ 0 ≤ 6) || !f.latched.isEmpty }

theorem State.merge_of_not_above {s : State} {q : QuayNo} {o : Nat} (f : FaultEvent) (level rx : Nat) (latch severe : Bool) (quays : List QuayNo)
    (h : s.quay[q].openRec = some o) : s.merge f level rx latch severe false quays q =
    ((((s.mergeInto f level o).writeRecord ((s.mergeInto f level o).mergeRecord f level latch severe o quays)).joinLatch f.latched s.flt.total).opposeAsc f latch
      s.flt.total q) := by
  unfold State.merge
  rw [h]
  rfl

theorem Collector.record_modRecord {c : Collector} {o : Nat} {g : Record → Record} {r : Record} (h : c.record o = some r) (hg : ∀ r, (g r).no = r.no) :
    (c.modRecord o g).record o = some (g r) := by
  have hno : r.no = o := of_decide_eq_true (List.find?_some (p := fun r : Record => decide (r.no = o)) h)
  unfold Collector.record Collector.modRecord at *
  rw [List.find?_map]
  have hcomp : ((fun r : Record => decide (r.no = o)) ∘ fun r => if r.no = o then g r else r) = fun r => decide (r.no = o) := funext fun x => by
    dsimp only [Function.comp]
    split
    · rw [hg]
    · rfl
  rw [hcomp, h]
  exact congrArg some (if_pos hno)

theorem State.fate_opposeAsc_of_unsuspected {f : FaultEvent} (hf : f.suspect = 0) (s : State) (latch : Bool) (rec : Nat) (q p : QuayNo) :
    (s.opposeAsc f latch rec q).fate p = s.fate p := by
  by_cases hp : q = p
  · subst hp
    rw [State.opposeAsc_self, opposedTo, if_neg fun h => h.1 hf, State.fate]
  · exact s.opposeAsc_ne f latch rec hp

theorem State.merge_keeps {s : State} {q : QuayNo} {o : Nat} {ro : Record} (f : FaultEvent) (level rx : Nat) (latch severe : Bool) (quays : List QuayNo)
    (h : s.quay[q].openRec = some o) (hr : s.flt.record o = some ro) (ho : o ≠ s.flt.total) (hf : f.suspect = 0) (hl : level ≤ ro.severity) :
    let t := s.merge f level rx latch severe false quays q
    ∃ r, t.flt.total = s.flt.total + 1 ∧ t.flt.log.head? = some r ∧ r.no = s.flt.total ∧ r.merged = true ∧ r.src = f.src ∧
      r.severity = level ∧ r.reaction = 0 ∧ r.count = o % 65536 ∧
      (∃ r', t.flt.record o = some r' ∧ r'.count = ro.count + 1 ∧ r'.severity = ro.severity) ∧ ∀ p, t.fate p = s.fate p := by
  intro t
  have ht : t = _ := State.merge_of_not_above f level rx latch severe quays h
  have hmr : (s.mergeInto f level o).flt.record o = some (mergedRecord f level (s.sameSource f o) ro) := Collector.record_modRecord hr fun _ => rfl
  have hmf : ∀ p, (s.mergeInto f level o).fate p = s.fate p := fun p => rfl
  have hmt : (s.mergeInto f level o).flt.total = s.flt.total := rfl
  generalize hu : s.mergeInto f level o = u at ht hmr hmf hmt
  generalize hrec : u.mergeRecord f level latch severe o quays = r at ht
  obtain ⟨-, hwf, hwq⟩ := u.writeRecord_spec r
  have hno : r.no = s.flt.total := by
    rw [← hrec, ← hmt]
    rfl
  have hflt : t.flt = (u.writeRecord r).flt := by
    rw [ht, State.opposeAsc_flt, State.joinLatch_flt]
  have hlog : t.flt.log = u.flt.logged r := by
    rw [hflt, hwf]
  refine ⟨u.flt.entered r, ?_, ?_, hno, ?_, ?_, ?_, ?_, ?_, ?_, fun p => ?_⟩
  · rw [hflt, hwf, ← hmt]
  · rw [hlog]
    rfl
  · exact (congrArg Record.merged hrec :).symm
  · exact (congrArg Record.src hrec :).symm
  · exact (congrArg Record.severity hrec :).symm
  · exact (congrArg Record.reaction hrec :).symm
  · exact (congrArg Record.count hrec :).symm
  · have hfound := Collector.record_logged (f := u.flt) (o := o) (fun e => ho (e.trans hno)) t.flt hlog
    rw [hmr, Option.map_some] at hfound
    have hmax : max ro.severity level = ro.severity := Nat.max_eq_left hl
    refine ⟨_, hfound, ?_, ?_⟩
    · split <;> rfl
    · split <;> exact hmax
  · rw [ht, State.fate_opposeAsc_of_unsuspected hf]
    refine (State.fate_of_blank ((u.writeRecord r).joinLatch_blank (ps := [.leg]) f.latched s.flt.total (by simp)) (by simp)).trans ?_
    exact (State.fate_of_unfirst (hwq p)).trans (hmf p)

/-- Settles the part of O44 about a fault that merges into the open record of its quay. -/
theorem faultOrdered_merges {x : Staged} {rest : List Staged} {q : QuayNo} {o : Nat} {ro : Record} {s : State} (h : s.flt.stage = x :: rest)
    (hrest : ∀ y ∈ rest, coincide x.ev.time y.ev.time = false) (hn : x.arrived + 128 ≤ s.now) (hw : s.covering x = none)
    (hpath : isPath x.ev.src = true) (hscope : s.scopeQuays x.ev (s.countedLevel x.ev) = [q]) (hsus : x.ev.suspect = 0)
    (hopen : s.quay[q].openRec = some o) (hro : s.flt.record o = some ro) (ho : o ≠ s.flt.total) (hl : s.countedLevel x.ev ≤ ro.severity)
    (hrx : s.rxOf x.ev ≠ 0) : ∃ t r, exec .faultOrdered s = .next t ∧
      t.flt.total = s.flt.total + 1 ∧ t.flt.log.head? = some r ∧ r.no = s.flt.total ∧ r.merged = true ∧ r.src = x.ev.src ∧
      r.severity = s.countedLevel x.ev ∧ r.reaction = 0 ∧ r.count = o % 65536 ∧
      (∃ r', t.flt.record o = some r' ∧ r'.count = ro.count + 1 ∧ r'.severity = ro.severity) ∧ ∀ p, t.fate p = s.fate p := by
  have hcov : (s.unstaged rest x.ev).covering x = none := hw
  have hexec := execFaultOrdered_of_single h hrest hn
  rw [State.processFault_of_open hcov] at hexec
  extract_lets u level qs m r v at hexec
  have hlevel : level = s.countedLevel x.ev := s.levelOf_of_path x.ev hpath
  have hqs : qs = [q] := by
    change s.scopeQuays x.ev level = [q]
    rw [hlevel, hscope]
  have huq : u.quay[q].openRec = some o := hopen
  have hur : u.flt.record o = some ro := hro
  have hm : m = [q] := by
    have hall : qs.filter (fun p => u.quay[p].openRec.isSome) = [q] := by
      rw [hqs]
      exact List.filter_cons_of_pos (by rw [huq]; rfl)
    exact (if_pos hpath).trans hall
  have hr : r = [] := by
    change qs.filter (fun p => !m.contains p) = []
    rw [hm, hqs]
    simp
  have habove : u.aboveOpen level q = false := by
    rw [State.aboveOpen, huq, Option.bind_some, hur]
    exact decide_eq_false (Nat.not_lt.2 (hlevel ▸ hl))
  have hv : v = u.merge x.ev level ((s.unstaged rest x.ev).rxOf x.ev) ((s.unstaged rest x.ev).latchOf x.ev) ((s.unstaged rest x.ev).countsSevere x.ev)
      false [q] q := by
    change m.foldl _ u = _
    rw [hm, hqs, ← habove]
    rfl
  have hrx' : ¬ (s.unstaged rest x.ev).rxOf x.ev = 0 := hrx
  have hskip : ¬ (m.isEmpty || !r.isEmpty) = true := by
    rw [hm, hr]
    exact Bool.false_ne_true
  rw [if_neg hrx', if_neg hskip, hv] at hexec
  obtain ⟨rc, htot, hhead, hno, hmerged, hsrc, hsev, hreact, hcount, hrec, hfate⟩ := State.merge_keeps (s := u) x.ev level
    ((s.unstaged rest x.ev).rxOf x.ev) ((s.unstaged rest x.ev).latchOf x.ev) ((s.unstaged rest x.ev).countsSevere x.ev) [q] huq hur ho hsus
    (hlevel ▸ hl)
  generalize u.merge x.ev level _ _ _ false [q] q = y at hexec htot hhead hrec hfate
  obtain ⟨hp, -⟩ := y.pulse_spec level
  generalize y.pulse level = w at hexec hp
  obtain ⟨htq, -, htf, -⟩ := (LegsOnly.syncLegs s w).rest
  refine ⟨_, rc, hexec, ?_⟩
  generalize s.syncLegs w = t at htq htf ⊢
  have hlog : t.flt.log = y.flt.log := by
    rw [htf, hp]
  refine ⟨?_, ?_, hno, hmerged, hsrc, hsev.trans hlevel, hreact, hcount, ?_, fun p => ?_⟩
  · rw [htf, hp]
    exact htot
  · rw [hlog]
    exact hhead
  · obtain ⟨r', hr', hcs⟩ := hrec
    refine ⟨r', ?_, hcs⟩
    rw [Collector.record, hlog]
    exact hr'
  · have hq : t.quay = y.quay := by
      rw [htq, hp]
    refine Eq.trans ?_ (hfate p)
    rw [State.fate, State.fate, hq]

/-- Settles O44: the stage gives up what coincides with its oldest fault, and that fault is covered, merged or recorded with its reaction. -/
theorem faultsOrdered : Obligations.FaultsOrdered := by
  unfold Obligations.FaultsOrdered
  refine ⟨fun s => ⟨fun h => ?_, fun x rest h => ⟨execFaultOrdered_of_early h, faultOrdered_unstages h⟩⟩,
    fun x rest w s => faultOrdered_covered, fun x rest s h hrest hn hw => ?_, fun x rest q o ro s h hrest hn hw hp hs hsus hq hro ho hl hrx => ?_⟩
  · change execFaultOrdered s = _
    rw [execFaultOrdered, h]
  · intro rx counted level scope acts eff code resets moves put opposed hrx hopen
    have hlevel : s.levelOf x.ev = level := s.levelOf_eq x.ev
    have hrxOf : s.rxOf x.ev = rx := rfl
    have hscope : s.scopeQuays x.ev level = scope := rfl
    have hacts : s.reactQuays level rx scope = acts := s.reactQuays_eq level rx scope
    have heff : actLevel level rx = eff := actLevel_eq level rx
    have hcode : ∀ q, s.codeAt x.ev level rx scope q = code q := s.codeAt_eq x.ev level rx scope
    have hput : ∀ q, s.putOn x.ev level rx scope q = put q := fun q => by
      rw [s.putOn_eq, hacts, hcode]
    have hesc : s.escalates x.ev = true ↔ level ≠ counted := hlevel ▸ s.escalates_iff_levelOf x.ev
    have hresets : ∀ g, resetOf x.ev level rx = some g ↔ resets g := fun g => resetOf_iff
    have hopen' : isPath x.ev.src = true → ∀ q ∈ s.scopeQuays x.ev (s.levelOf x.ev), s.quay[q].openRec = none := by
      rw [hlevel]
      exact hopen
    obtain ⟨t, hexec, hflt, hhead, hquay, hlost, hwide, hcodes, hpulse⟩ := faultOrdered_recorded h hrest hn hw hrx hopen'
    obtain ⟨hcflt, hevents⟩ := s.counted_flt rest x.ev
    rw [hlevel, hrxOf, hscope] at hquay hcodes hhead
    rw [hlevel, hrxOf] at hflt hlost hwide
    rw [hlevel] at hpulse
    rw [hacts, heff] at hquay
    refine ⟨t, _, hexec, ?_, ?_, hhead, ?_, rfl, rfl, rfl, rfl, rfl, rfl, rfl, ?_, hesc, ?_, ?_, ?_, fun hno q => ?_, fun g hg => hlost g ((hresets g).2 hg),
      fun q hq hc h9 => ?_, fun n hnn => ?_, hpulse⟩
    · rw [hflt]
      exact congrArg Collector.stage hcflt
    · rw [hflt]
    · exact (congrArg Collector.total hcflt :)
    · exact s.counted_reactionByte rest x.ev level rx scope
    · rw [hflt]
      exact hevents
    · rw [hflt]
    · rw [hflt]
      change (s.flt.devSafe || putsSafe level rx) = true ↔ _
      rw [Bool.or_eq_true, putsSafe_iff, or_comm (a := rx = 9)]
    · have hnone : resetOf x.ev level rx = none := Option.eq_none_iff_forall_ne_some.2 fun g hg => hno g ((hresets g).1 hg)
      obtain ⟨hmv, hst, hre⟩ := hquay hnone q
      rw [hput] at hre
      exact ⟨fun hm => hmv hm.1 hm.2, hst, fun hop => hre.trans (ite_opposedTo_of_opposed hop), fun hop => hre.trans (ite_opposedTo_of_not_opposed hop)⟩
    · obtain ⟨qs, hqs, hmem⟩ := hcodes q hq hc h9
      exact ⟨_, hmem, rfl, hqs, rfl, rfl, rfl⟩
    · refine ⟨_, hwide n ?_, rfl, rfl, rfl, rfl, rfl⟩
      refine hnn.imp (fun h9 => ⟨h9.1, (putsSafe_iff level rx).2 h9.2⟩) fun h8 => ⟨h8.1, ?_⟩
      obtain ⟨g, hg⟩ := h8.2
      rw [(hresets g).2 hg]
      rfl
  · obtain ⟨t, r, hexec, htot, hhead, hno, hm, hsrc, hsev, hre, hc, hrec, hfate⟩ := faultOrdered_merges h hrest hn hw hp hs hsus hq hro ho hl hrx
    exact ⟨t, r, hexec, htot, hhead, hno, hm, hsrc, hsev, hre, hc, hrec, fun p => State.fate_ext (hfate p)⟩

end Sys2Proof.Machine
end

section
namespace Sys2Proof.Machine

/-! ### Feedback cells: flags, HOMED and sources (R427, R630) -/

section
variable {ps : List Part} (s : State) (k : CellNo)

/-- The context of a source of a cell. -/
def cellCtx (k : CellNo) (sub : Byte) : Ctx := { inst := BitVec.ofNat 8 k.val, sub := sub }

theorem State.raiseCell_eq (src : Nat) (sub : Byte) : s.raiseCell src k sub = s.raiseFor (s.cellQuay k) src (cellCtx k sub) := rfl

@[simp] theorem State.raiseCell_blank (src : Nat) (sub : Byte) (h : .transit ∈ ps) : (s.raiseCell src k sub).blank ps = s.blank ps := by
  rw [s.raiseCell_eq]
  exact s.raiseFor_blank h _ _ _

theorem State.raiseCell_cell (src : Nat) (sub : Byte) (j : CellNo) : (s.raiseCell src k sub).cell[j] = s.cell[j] :=
  State.cell_of_blank (s.raiseCell_blank (ps := [.transit]) k src sub (by simp)) (by simp)

theorem State.clearHomed_cell (q : QuayNo) (j : CellNo) : (s.clearHomed q).cell[j] = s.cell[j] :=
  State.cell_of_blank (s.clearHomed_blank (ps := [.quay, .ih]) q (by simp)) (by simp)

@[simp] theorem State.setUnsure_blank (h : Covers ps [.cellAt k, .quay, .ih]) : (s.setUnsure k).blank ps = s.blank ps := by
  simp at h
  unfold State.setUnsure
  split
  · simp [State.ite_blank, h]
  · simp [h]

theorem State.setUnsure_cell : (s.setUnsure k).cell[k] = { s.cell[k] with unsure := true } := by
  have hmod := s.modCell_self k (fun c => { c with unsure := true })
  unfold State.setUnsure
  dsimp only
  split
  · split
    · rw [State.clearHomed_cell, hmod]
    · exact hmod
  · exact hmod

theorem State.setUnsure_flt : (s.setUnsure k).flt = s.flt :=
  (congrArg State.flt (State.eq_take (s.setUnsure_blank (ps := [.cell, .quay, .ih]) k (by simp))) :)

end

/-- A source of a cell raised, from a device `u` that differs from `s` in the cell alone. -/
theorem State.raiseCell_spec {s u : State} {k : CellNo} (hu : u.blank [.cellAt k] = s.blank [.cellAt k]) (src : Nat) (sub : Byte) :
    (u.raiseCell src k sub).cell[k] = u.cell[k] ∧
    (∀ q, s.cellQuay k = some q → Raised s (u.raiseCell src k sub) src (BitVec.ofNat 8 q.val)) ∧
    (s.cellQuay k = none → (u.raiseCell src k sub).flt = s.flt) ∧
    (u.raiseCell src k sub).blank [.cellAt k, .transit] = s.blank [.cellAt k, .transit] := by
  have he := State.eq_take hu
  obtain ⟨hraised, hflt, -⟩ := State.raiseFor_spec s u (u.cellQuay k) src (cellCtx k sub) (congrArg State.flt he :) (by rw [he]; rfl)
  have hq : u.cellQuay k = s.cellQuay k := by
    rw [he]
    rfl
  rw [← u.raiseCell_eq] at hraised hflt
  rw [hq] at hraised hflt
  refine ⟨by rw [u.raiseCell_cell], hraised, hflt, ?_⟩
  exact (u.raiseCell_blank k src sub (by simp)).trans (State.blank_mono hu (by simp))

/-- A cell set UNSURE with a source, from a device `u` that differs from `s` in the cell alone. -/
theorem State.unsureRaised_spec {s u : State} {k : CellNo} (hu : u.blank [.cellAt k] = s.blank [.cellAt k]) (src : Nat) (sub : Byte) :
    ((u.setUnsure k).raiseCell src k sub).cell[k] = { u.cell[k] with unsure := true } ∧
    (∀ q, s.cellQuay k = some q → Raised s ((u.setUnsure k).raiseCell src k sub) src (BitVec.ofNat 8 q.val)) ∧
    ((u.setUnsure k).raiseCell src k sub).blank [.cellAt k, .quay, .ih, .transit] = s.blank [.cellAt k, .quay, .ih, .transit] := by
  have hub : (u.setUnsure k).blank [.cellAt k, .quay, .ih] = s.blank [.cellAt k, .quay, .ih] :=
    (u.setUnsure_blank k (by simp)).trans (State.blank_mono hu (by simp))
  have he := State.eq_take hub
  have hq : (u.setUnsure k).cellQuay k = s.cellQuay k := by
    rw [he]
    rfl
  obtain ⟨hraised, -, -⟩ := State.raiseFor_spec s (u.setUnsure k) ((u.setUnsure k).cellQuay k) src (cellCtx k sub) (congrArg State.flt he :) (by rw [he]; rfl)
  rw [← State.raiseCell_eq, hq] at hraised
  refine ⟨by rw [State.raiseCell_cell, State.setUnsure_cell], hraised, ?_⟩
  exact (State.raiseCell_blank _ k src sub (by simp)).trans (State.blank_mono hub (by simp))

/-- A change of one cell, in the form of the statements. -/
theorem State.modCell_spec (s : State) (k : CellNo) (f : Cell → Cell) :
    (∀ j : CellNo, j ≠ k → (s.modCell k f).cell[j] = s.cell[j]) ∧ s.modCell k f = { s with cell := (s.modCell k f).cell } :=
  ⟨fun _ h => s.modCell_ne f (Ne.symm h), rfl⟩

theorem State.modCell_modCell (s : State) (k : CellNo) (f g : Cell → Cell) : (s.modCell k f).modCell k g = s.modCell k (fun c => g (f c)) :=
  congrArg (fun v => ({ s with cell := v } : State)) (vmod_vmod s.cell k f g)

/-! ### INDEX_LATCH (R350 to R357) -/

/-- A difference folded to half a revolution either way is the only one there with the same remainder (R353). -/
theorem foldRev_eq {x d : Int} {c : Nat} (hc : 0 < c) (hx : ∃ m : Int, x = d + m * c) (hlo : -(c : Int) ≤ 2 * d) (hhi : 2 * d < c) : foldRev x c = d := by
  obtain ⟨m, rfl⟩ := hx
  have hmod : (d + m * c) % (c : Int) = d % c := Int.add_mul_emod_self_right d m c
  rw [foldRev, if_neg (Nat.ne_of_gt hc), hmod]
  dsimp only
  by_cases hd : 0 ≤ d
  · rw [Int.emod_eq_of_lt hd (by omega), if_pos hhi]
  · have hneg : d % (c : Int) = d + c := by
      rw [← Int.add_emod_right, Int.emod_eq_of_lt (by omega) (by omega)]
    rw [hneg, if_neg (by omega)]
    omega

/-- An index latch takes place (R350 to R352). -/
def State.latches (s : State) (k : CellNo) : Prop :=
  s.afterStep10 = true ∧ s.cellUsed k = true ∧ (fbMode s k = 1 ∨ fbMode s k = 4) ∧ fbIndexEnable s k = 1 ∧
    (fbIndexGate s k < 4 ∨ (s.cell[k].a = decide (fbIndexGate s k % 2 = 1) ∧ s.cell[k].b = decide (fbIndexGate s k / 2 % 2 = 1)))

/-- The cell with an index latched. -/
def Cell.latched (c : Cell) (l : Int) : Cell := { c with indexLatch := l, latches := c.latches + 1 }

/-- What an index latch does after the count is latched. -/
def State.indexAt (s : State) (k : CellNo) (l : Int) : State :=
  let s1 := s.modCell k (fun x => x.latched l)
  match s.cell[k].indexRef with
  | none => s1.modCell k (fun x => { x with indexRef := some l })
  | some r =>
    if s.cell[k].illegalHere then s1
    else
      let d := foldRev (l - r) (s.countsPerRev k)
      let s2 := s1.modCell k (fun x => { x with indexDev := d })
      if fbDriftTol s k < d.natAbs then ((s2.modCell k (fun x => { x with drift := d })).setUnsure k).raiseCell srcCountDrift k
      else (s2.modCell k (fun x => { x with drift := 0 })).clearUnsure k

theorem execIndexLatch_eq (k : CellNo) (s : State) [Decidable (s.latches k)] :
    execIndexLatch k s = if s.latches k then .next (s.indexAt k (s.latchCount k)) else .next s := by
  have hc : (s.afterStep10 && s.cellUsed k && decide (fbMode s k = 1 ∨ fbMode s k = 4) && decide (fbIndexEnable s k = 1) &&
      (decide (fbIndexGate s k < 4) || (s.cell[k].a == decide (fbIndexGate s k % 2 = 1) && s.cell[k].b == decide (fbIndexGate s k / 2 % 2 = 1)))) = true ↔
      s.latches k := by
    simp only [State.latches, Bool.and_eq_true, Bool.or_eq_true, decide_eq_true_eq, beq_iff_eq, and_assoc]
  unfold execIndexLatch State.indexAt
  dsimp only
  refine if_congr hc ?_ rfl
  cases s.cell[k].indexRef with
  | none => rfl
  | some r =>
    dsimp only
    by_cases hi : s.cell[k].illegalHere = true
    · rw [if_pos hi, if_pos hi]
      rfl
    · rw [if_neg hi, if_neg hi]
      by_cases hd : fbDriftTol s k < (foldRev (s.latchCount k - r) (s.countsPerRev k)).natAbs
      · rw [if_pos hd, if_pos hd]
        rfl
      · rw [if_neg hd, if_neg hd]
        rfl

/-- Settles O29: an index latch sets the reference, is not compared, agrees with it or has drifted. -/
theorem indexLatches : Obligations.IndexLatches := by
  unfold Obligations.IndexLatches
  intro gate runs
  classical
  refine ⟨fun k s hr => ?_, fun k s hr => (execIndexLatch_eq k s).trans (if_neg hr)⟩
  intro l
  have hexec : exec (.indexLatch k) s = .next (s.indexAt k l) := (execIndexLatch_eq k s).trans (if_pos hr)
  refine ⟨fun h1 => ?_, fun hn => ⟨_, hexec, ?_⟩, fun r href hill => ⟨_, hexec, ?_⟩, fun r d href hill hc hm hlo hhi => ?_⟩
  · exact if_neg (by rw [h1]; decide)
  · have hat : s.indexAt k l = s.modCell k (fun x => { x.latched l with indexRef := some l }) := by
      rw [State.indexAt, hn]
      exact s.modCell_modCell k _ _
    rw [hat]
    exact ⟨s.modCell_self k _, s.modCell_spec k _⟩
  · have hat : s.indexAt k l = s.modCell k (fun x => x.latched l) := by
      rw [State.indexAt, href]
      exact if_pos hill
    rw [hat]
    exact ⟨s.modCell_self k _, s.modCell_spec k _⟩
  · have hd : foldRev (l - r) (s.countsPerRev k) = d := foldRev_eq hc hm hlo hhi
    have hill' : ¬ s.cell[k].illegalHere = true := by
      rw [hill]
      exact Bool.false_ne_true
    refine ⟨fun hin => ⟨_, hexec, ?_⟩, fun hout => ⟨_, hexec, ?_⟩⟩
    · have hat : s.indexAt k l = s.modCell k (fun x => { x.latched l with indexDev := d, drift := 0, unsure := false }) := by
        rw [State.indexAt, href]
        dsimp only
        rw [if_neg hill', hd, if_neg (Nat.not_lt.2 hin), State.clearUnsure, State.modCell_modCell, State.modCell_modCell, State.modCell_modCell]
      rw [hat]
      exact ⟨s.modCell_self k _, s.modCell_spec k _⟩
    · have hat : s.indexAt k l = ((s.modCell k (fun x => { x.latched l with indexDev := d, drift := d })).setUnsure k).raiseCell srcCountDrift k := by
        rw [State.indexAt, href]
        dsimp only
        rw [if_neg hill', hd, if_pos hout, State.modCell_modCell, State.modCell_modCell]
      obtain ⟨hcell, hraised, hb⟩ := State.unsureRaised_spec (State.modCell_blank (ps := [.cellAt k]) (s := s) k (by simp)
        (fun x => { x.latched l with indexDev := d, drift := d })) srcCountDrift 0
      rw [← hat] at hcell hraised hb
      refine ⟨hcell.trans ?_, hraised, fun j hj => State.cell_of_blank hb (by simp [hj]), State.eq_take (State.blank_mono hb (by simp) :
        _ = s.blank [.cell, .quay, .ih, .flt, .transit])⟩
      rw [State.modCell_self]
      rfl

end Sys2Proof.Machine
end

section
namespace Sys2Proof.Machine

/-! ### What counting changes around a cell (R393, R396 to R425)

Compare unit, emulation, delivery and probe follow a count; they write their own registers of the cell, the inputs of the open snapshot and the
probe of the cell's quay. -/

/-- A cell apart from its compare unit, its emulation and what it has delivered. -/
def Cell.bare (c : Cell) : Cell :=
  { c with
      cmpDone := false, cmpNext := 0, cmpHits := 0, cmpSkips := 0, cmpLast := 0, cmpUntil := none, emuLagF := false, emuOut := 0, emuLag := 0, emuE := 0
      emuGoal := 0, emuZ := false, emuBase := 0, emuSteps := 0, emuStart := 0, emuPeriod := 0, given := none }

/-- What follows a count of a cell: its compare unit, its emulation, its delivery, and of its quay the open snapshot and the probe. -/
structure Follows (k : CellNo) (s t : State) : Prop where
  rest : t.blank [.cellAt k, .quay, .transit] = s.blank [.cellAt k, .quay, .transit]
  cell : t.cell[k].bare = s.cell[k].bare
  quay : ∀ r : QuayNo, t.quay[r] = { s.quay[r] with form := t.quay[r].form, probe := t.quay[r].probe }
  others : ∀ r : QuayNo, s.cellQuay k ≠ some r → t.quay[r] = s.quay[r]
  quiet : fbEmuSource s k ≠ 1 → t.flt = s.flt
  raises : s.flt.transit ⊆ t.flt.transit

namespace Follows
variable {k : CellNo} {s t u : State}

theorem refl (k : CellNo) (s : State) : Follows k s s := ⟨rfl, rfl, fun _ => rfl, fun _ _ => rfl, fun _ => rfl, List.Subset.refl _⟩

theorem cellQuay (h : Follows k s t) : t.cellQuay k = s.cellQuay k := by
  rw [State.eq_take h.rest]
  rfl

theorem emuSource (h : Follows k s t) : fbEmuSource t k = fbEmuSource s k := by
  rw [State.eq_take h.rest]
  rfl

theorem trans (h : Follows k s t) (g : Follows k t u) : Follows k s u where
  rest := g.rest.trans h.rest
  cell := g.cell.trans h.cell
  quay r := (g.quay r).trans (by rw [h.quay r])
  others r hr := (g.others r (by rw [h.cellQuay]; exact hr)).trans (h.others r hr)
  quiet hq := (g.quiet (by rw [h.emuSource]; exact hq)).trans (h.quiet hq)
  raises := List.Subset.trans h.raises g.raises

/-- A change of registers of the cell that counting does not use. -/
theorem modCell (s : State) (k : CellNo) (f : Cell → Cell) (hf : (f s.cell[k]).bare = s.cell[k].bare) : Follows k s (s.modCell k f) where
  rest := s.modCell_blank k (by simp) f
  cell := by rw [State.modCell_self, hf]
  quay _ := rfl
  others _ _ := rfl
  quiet _ := rfl
  raises := List.Subset.refl _

/-- A change of the open snapshot or the probe of the cell's quay. -/
theorem modQuay {q : QuayNo} (hq : s.cellQuay k = some q) (f : Quay → Quay)
    (hf : ∀ x : Quay, f x = { x with form := (f x).form, probe := (f x).probe }) : Follows k s (s.modQuay q f) where
  rest := s.modQuay_blank q (by simp) f
  cell := rfl
  quay r := by
    by_cases hr : q = r
    · subst hr
      rw [State.modQuay_self]
      exact hf _
    · rw [State.modQuay_ne s f hr]
  others r hr := State.modQuay_ne s f fun e => hr (e ▸ hq)
  quiet _ := rfl
  raises := List.Subset.refl _

theorem ite {c : Prop} [Decidable c] (h : Follows k s t) (g : Follows k s u) : Follows k s (if c then t else u) := by
  split
  · exact h
  · exact g

/-- What a fold of such changes does. -/
theorem forAll {α : Type} {xs : List α} {f : State → α → State} (h : ∀ t x, Follows k s t → Follows k t (f t x)) : Follows k s (forAll xs s f) :=
  forAll_keeps (P := fun t => Follows k s t) (refl k s) fun t ht x _ => ht.trans (h t x ht)

end Follows

section
variable (s : State) (k : CellNo)

theorem State.compareMove_follows (old new : Int) (t0 t1 : Nat) : Follows k s (s.compareMove k old new t0 t1) := by
  unfold State.compareMove
  dsimp only
  split
  · exact (Follows.refl k s).ite (Follows.modCell s k _ rfl)
  · exact Follows.refl k s

theorem State.give_follows : Follows k s (s.give k) := by
  have hgiven : Follows k s (s.modCell k (fun c => { c with given := some (s.viewNow k) })) := Follows.modCell s k _ rfl
  unfold State.give
  dsimp only
  split
  next q hq => exact Follows.ite (hgiven.trans (Follows.modQuay (s := s.modCell k (fun c => { c with given := some (s.viewNow k) })) hq
      (fun x => { x with form := x.form.setView (s.viewNow k) }) fun _ => rfl)) hgiven
  · exact hgiven

theorem State.give_blank {ps : List Part} (h : Covers ps [.cellAt k, .quay]) : (s.give k).blank ps = s.blank ps := by
  simp at h
  unfold State.give
  dsimp only
  split
  · simp [State.ite_blank, h]
  · simp [h]

theorem State.give_flt : (s.give k).flt = s.flt := (congrArg State.flt (State.eq_take (s.give_blank (ps := [.cell, .quay]) k (by simp))) :)

theorem State.emuHold_follows : Follows k s (s.emuHold k) := Follows.modCell s k _ rfl

theorem State.emulate_follows (e target : Int) (period : Nat) (h : fbEmuSource s k = 1) : Follows k s (s.emulate k e target period) := by
  unfold State.emulate
  extract_lets c out todo n steps lag s1
  have hs : Follows k s s1 := Follows.modCell s k _ rfl
  have hraise : ∀ q, Follows k s (s1.raiseQuay srcEmuOverrun q (instCtx k.val)) := fun q =>
    { rest := (State.raiseQuay_blank (s := s1) (by simp) srcEmuOverrun q (instCtx k.val)).trans hs.rest
      cell := hs.cell, quay := hs.quay, others := hs.others, quiet := fun hq => absurd h hq
      raises := List.Subset.trans hs.raises (s1.raise_transit_subset _) }
  split
  · split
    · exact hraise _
    · exact hs
  · exact hs

theorem State.emulateOwn_follows (stale : Bool) : Follows k s (s.emulateOwn k stale) := by
  unfold State.emulateOwn
  split
  · exact Follows.refl k s
  next hc =>
    split
    · exact s.emuHold_follows k
    · exact s.emulate_follows k _ _ _ (Decidable.not_not.1 fun h => hc (.inl h))

theorem State.probeStoreRat_follows {s : State} {k : CellNo} {q : QuayNo} (hq : s.cellQuay k = some q) (t : Nat) (falling : Bool) (p : Rat) :
    Follows k s (s.probeStoreRat q t falling p) := Follows.modQuay hq _ fun _ => rfl

/-- Captures of a probe of the cell's quay. -/
theorem State.probeStores_follows {s : State} {k : CellNo} {q : QuayNo} (hq : s.cellQuay k = some q) (xs : List (Nat × Bool)) (p : State → Nat × Bool → Rat) :
    Follows k s (Machine.forAll xs s (fun u e => u.probeStoreRat q e.1 e.2 (p u e))) :=
  Follows.forAll fun t e ht => State.probeStoreRat_follows (ht.cellQuay.trans hq) e.1 e.2 (p t e)

theorem State.probeSettle_follows {s : State} {k : CellNo} {q : QuayNo} (hq : s.cellQuay k = some q) : Follows k s (s.probeSettle q) := by
  unfold State.probeSettle
  split
  · exact Follows.refl k s
  next j _ =>
    split
    · exact Follows.refl k s
    · have hst := State.probeStores_follows hq (s.quay[q].probe.waiting.filter fun e => decide (e.1 + 16 * fbFilter s j ≤ s.now))
        fun u e => (u.cell[j].heldAt e.1).probed e.1
      exact hst.trans (Follows.modQuay (hst.cellQuay.trans hq) _ fun _ => rfl)

theorem State.probeCell_follows : Follows k s (s.probeCell k) := by
  unfold State.probeCell
  split
  next q hq => exact (State.probeSettle_follows hq).ite (Follows.refl k s)
  · exact Follows.refl k s

theorem State.probeResolve_follows : Follows k s (s.probeResolve k) := by
  unfold State.probeResolve
  split
  next q t1 p1 hq _ =>
    split
    · exact Follows.refl k s
    · have hst := State.probeStores_follows hq (s.quay[q].probe.waiting.filter fun e => decide (e.1 ≤ t1))
        fun _ e => bracket (Config.freeInt s.free) e.1 s.cell[k].evals
      exact hst.trans (Follows.modQuay (hst.cellQuay.trans hq) _ fun _ => rfl)
  · exact Follows.refl k s

end

/-! ### A counted step and an illegal transition (R344 to R348, R393, R394) -/

/-- The stamp of a change that comes through its filter now lies at or before the sample event of a preset (R394). -/
def State.countsEarly (s : State) (k : CellNo) : Prop :=
  ∃ e d, s.cell[k].presetAt = some (e, d) ∧ (s.now - 16 * fbFilter s k) / 16 * 16 ≤ e

theorem State.beforePreset_isSome (s : State) (k : CellNo) : (s.cell[k].beforePreset (stampOf s.now (fbFilter s k))).isSome = true ↔ s.countsEarly k := by
  unfold Cell.beforePreset State.countsEarly
  split
  next e d hp =>
    rw [hp]
    split
    next ht => exact iff_of_true rfl ⟨e, d, rfl, ht⟩
    next ht =>
      refine iff_of_false Bool.false_ne_true ?_
      rintro ⟨e', d', he, ht'⟩
      cases he
      exact ht ht'
  next hp => exact iff_of_false Bool.false_ne_true fun ⟨e, d, he, _⟩ => nomatch hp.symm.trans he

/-- Levels and flags of a cell that neither a counted step nor its measurement touches. -/
def Cell.marks (c : Cell) : Bool × Bool × BitVec 3 × Option (BitVec 3) × Word := (c.a, c.b, c.hall, c.lastHall, c.illegal)

theorem Cell.evaluate_pos (c : Cell) (hi lo : Nat) (f : Rat) : (c.evaluate hi lo f).pos = c.pos ∧ (c.evaluate hi lo f).marks = c.marks := by
  unfold Cell.evaluate
  dsimp only
  split <;> exact ⟨rfl, rfl⟩

theorem Cell.countedEdge_marks (c : Cell) (dir : Int) (t : Nat) : (c.countedEdge dir t).marks = c.marks := by
  unfold Cell.countedEdge
  dsimp only
  split
  · rfl
  · split <;> rfl

theorem State.countStep_spec (s : State) (k : CellNo) (dir : Int) :
    let t := s.countStep k dir
    t.blank [.cellAt k, .quay, .transit] = s.blank [.cellAt k, .quay, .transit] ∧
    (¬ s.countsEarly k → t.cell[k].pos = s.cell[k].pos + dir) ∧ (s.countsEarly k → t.cell[k].pos = s.cell[k].pos) ∧
    t.cell[k].marks = s.cell[k].marks ∧ (∀ r : QuayNo, t.quay[r] = { s.quay[r] with form := t.quay[r].form, probe := t.quay[r].probe }) ∧
    (∀ r : QuayNo, s.cellQuay k ≠ some r → t.quay[r] = s.quay[r]) ∧ (fbEmuSource s k ≠ 1 → t.flt = s.flt) := by
  intro t
  have ht : t = s.countStep k dir := rfl
  unfold State.countStep at ht
  extract_lets u c0 early moved c old late before counted c1 s1 s2 from_ at ht
  have hc : c.pos = (if early.isSome then s.cell[k].pos - dir else s.cell[k].pos) ∧ c.marks = s.cell[k].marks := by
    change (if early.isSome then _ else _ : Cell).pos = _ ∧ (if early.isSome then _ else _ : Cell).marks = _
    split <;> exact ⟨rfl, rfl⟩
  have hcell : s1.cell[k].pos = c.pos + dir ∧ s1.cell[k].marks = c.marks := by
    change (s.modCell k _).cell[k].pos = _ ∧ (s.modCell k _).cell[k].marks = _
    rw [State.modCell_self]
    split
    · obtain ⟨hp, hm⟩ := Cell.evaluate_pos _ _ _ _
      exact ⟨hp, hm.trans (c.countedEdge_marks dir u)⟩
    · exact ⟨rfl, c.countedEdge_marks dir u⟩
  have h2 : Follows k s1 s2 := ((s1.give_follows k).trans (State.emulateOwn_follows _ k false)).ite (Follows.refl k s1)
  have hf : Follows k s1 t := by
    rw [ht]
    exact (h2.trans (State.compareMove_follows s2 k _ _ _ _)).trans (State.probeCell_follows _ k)
  have hpos : t.cell[k].pos = s1.cell[k].pos := (congrArg Cell.pos hf.cell :)
  have hmarks : t.cell[k].marks = s1.cell[k].marks := (congrArg Cell.marks hf.cell :)
  have hearly := s.beforePreset_isSome k
  refine ⟨hf.rest.trans (s.modCell_blank k (by simp) _), fun hn => ?_, fun hy => ?_, ?_, hf.quay, hf.others, hf.quiet⟩
  · have hno : ¬ early.isSome = true := fun h => hn (hearly.1 h)
    rw [hpos, hcell.1, hc.1, if_neg hno]
  · have hyes : early.isSome = true := hearly.2 hy
    rw [hpos, hcell.1, hc.1, if_pos hyes]
    omega
  · rw [hmarks, hcell.2, hc.2]

/-- An illegal transition, from a device `u` that differs from `s` in the cell alone. -/
theorem State.illegal_spec {s u : State} {k : CellNo} (hu : u.blank [.cellAt k] = s.blank [.cellAt k]) :
    (u.illegal k).cell[k].bare = { u.cell[k] with illegal := u.cell[k].illegal + 1, illegalHere := true, unsure := true : Cell }.bare ∧
    (∀ q, s.cellQuay k = some q → Raised s (u.illegal k) srcIllegalEdge (BitVec.ofNat 8 q.val)) ∧
    (u.illegal k).blank [.cellAt k, .quay, .ih, .transit] = s.blank [.cellAt k, .quay, .ih, .transit] := by
  have hmod : (u.modCell k (fun c => { c with illegal := c.illegal + 1, illegalHere := true })).blank [.cellAt k] = s.blank [.cellAt k] :=
    (u.modCell_blank k (by simp) _).trans hu
  obtain ⟨hcell, hraised, hb⟩ := State.unsureRaised_spec hmod srcIllegalEdge 0
  rw [State.modCell_self] at hcell
  unfold State.illegal
  dsimp only
  generalize ((u.modCell k (fun c => { c with illegal := c.illegal + 1, illegalHere := true })).setUnsure k).raiseCell srcIllegalEdge k = v at hcell hraised hb
  split
  · have hg := v.give_follows k
    refine ⟨hg.cell.trans (congrArg Cell.bare hcell), fun q hq => ?_, (State.blank_mono hg.rest (by simp)).trans hb⟩
    obtain ⟨e, he, hes⟩ := hraised q hq
    exact ⟨e, (v.give_flt k).trans he, hes⟩
  · exact ⟨congrArg Cell.bare hcell, hraised, hb⟩

end Sys2Proof.Machine
end

section
namespace Sys2Proof.Machine

/-! ### FB_EDGE (R339, R344, R345) -/

theorem Cell.noteLines_eq (c : Cell) (ls : List (Fin 3 × Bool)) (now : Nat) :
    c.noteLines ls now = { c with lineAt := (c.noteLines ls now).lineAt } := by
  unfold Cell.noteLines
  induction ls generalizing c with
  | nil => rfl
  | cons e es ih =>
    rw [List.foldl_cons]
    split
    · exact ih _
    · exact ih c

/-- The lines A and B of a cell with the changes to two levels. -/
def Cell.abLines (c : Cell) (a b : Bool) : List (Fin 3 × Bool) := [(0, c.a != a), (1, c.b != b)]

/-- The cell with the levels of A and B noted. -/
def Cell.noted (c : Cell) (a b : Bool) (now : Nat) : Cell := { c.noteLines (c.abLines a b) now with a := a, b := b }

theorem Cell.noted_eq (c : Cell) (a b : Bool) (now : Nat) : c.noted a b now = { c with a := a, b := b, lineAt := (c.noted a b now).lineAt } := by
  unfold Cell.noted
  rw [c.noteLines_eq]

/-- The device with the levels of A and B of a cell noted. -/
def State.noted (s : State) (k : CellNo) (a b : Bool) : State := s.modCell k (fun x => x.noted a b s.now)

theorem State.noted_cell (s : State) (k : CellNo) (a b : Bool) :
    (s.noted k a b).cell[k] = { s.cell[k] with a := a, b := b, lineAt := ((s.noted k a b).cell[k]).lineAt } := by
  unfold State.noted
  rw [State.modCell_self]
  exact s.cell[k].noted_eq a b s.now

theorem State.noted_blank (s : State) (k : CellNo) (a b : Bool) : (s.noted k a b).blank [.cellAt k] = s.blank [.cellAt k] := s.modCell_blank k (by simp) _

/-- One of the two lines changes, and how the pair moves in the sequence 00, 10, 11, 01 (R344). -/
theorem quadPlace_step (a₀ b₀ a b : Bool) (h : (a₀ ≠ a ∧ b₀ = b) ∨ (a₀ = a ∧ b₀ ≠ b)) :
    (quadPlace a₀ b₀ + 1) % 4 = quadPlace a b ↔ (if b₀ = b then a ≠ b else a = b) := by
  revert h
  revert a₀ b₀ a b
  decide

theorem dirSign_step (s : State) (k : CellNo) (p : Prop) [Decidable p] :
    dirSign s k (if p then 1 else -1) = if p ↔ fbDir s k ≠ 1 then 1 else -1 := by
  unfold dirSign
  by_cases hd : fbDir s k = 1 <;> by_cases hp : p <;> simp [hd, hp]

section
variable {s : State} {k : CellNo}

theorem execFbEdge_of_accepted {a b : Bool} (h10 : s.afterStep10 = true) (hm : fbMode s k = 1) (hu : s.cellUsed k = true)
    (hc : ¬ (s.cell[k].a = a ∧ s.cell[k].b = b)) (hacc : s.linesAccept k (s.cell[k].abLines a b) = true) :
    execFbEdge k a b s = if s.cell[k].a ≠ a ∧ s.cell[k].b ≠ b then .next ((s.noted k a b).illegal k)
      else .next ((s.noted k a b).countStep k (dirSign s k (if (quadPlace s.cell[k].a s.cell[k].b + 1) % 4 = quadPlace a b then 1 else -1))) := by
  have hmu : ¬ (fbMode s k ≠ 1 ∨ s.cellUsed k = false) := by rw [hm, hu]; decide
  have hacc' : ¬ (!s.linesAccept k (s.cell[k].abLines a b)) = true := by rw [hacc]; decide
  have h10' : ¬ (!s.afterStep10) = true := by rw [h10]; decide
  rw [execFbEdge]
  refine (if_neg h10').trans ((if_neg (by rw [hm]; decide)).trans ((if_neg hmu).trans ((if_neg hc).trans ((if_neg hacc').trans ?_))))
  simp only [decide_eq_true_eq]
  rfl

theorem execFbEdge_of_rejected {a b : Bool} (h10 : s.afterStep10 = true) (hm : fbMode s k = 1) (hu : s.cellUsed k = true)
    (h : (s.cell[k].a = a ∧ s.cell[k].b = b) ∨ s.linesAccept k (s.cell[k].abLines a b) = false) : execFbEdge k a b s = .next s := by
  have hmu : ¬ (fbMode s k ≠ 1 ∨ s.cellUsed k = false) := by rw [hm, hu]; decide
  have h10' : ¬ (!s.afterStep10) = true := by rw [h10]; decide
  rw [execFbEdge]
  refine (if_neg h10').trans ((if_neg (by rw [hm]; decide)).trans ((if_neg hmu).trans ?_))
  by_cases hc : s.cell[k].a = a ∧ s.cell[k].b = b
  · exact if_pos hc
  · refine (if_neg hc).trans (if_pos ?_)
    change (!s.linesAccept k (s.cell[k].abLines a b)) = true
    rw [h.resolve_left hc]
    rfl

theorem execFbEdge_of_noted (a b : Bool) (h : s.afterStep10 = false ∨ (fbMode s k ≠ 1 ∧ fbMode s k ≠ 4) ∨ (fbMode s k = 1 ∧ s.cellUsed k = false)) :
    execFbEdge k a b s = .next (s.noted k a b) := by
  rw [execFbEdge]
  by_cases h10 : s.afterStep10 = true
  · have h10' : ¬ (!s.afterStep10) = true := by rw [h10]; decide
    have hmode : ¬ fbMode s k = 4 ∧ (fbMode s k ≠ 1 ∨ s.cellUsed k = false) := by
      rcases h with h | ⟨h1, h4⟩ | ⟨h1, hu⟩
      · rw [h10] at h
        exact absurd h (by decide)
      · exact ⟨h4, .inl h1⟩
      · exact ⟨by rw [h1]; decide, .inr hu⟩
    exact (if_neg h10').trans ((if_neg hmode.1).trans (if_pos hmode.2))
  · exact if_pos (by rw [Bool.eq_false_iff.2 h10]; rfl)

end

/-- Settles O27: a single change counts in its direction, a double one is illegal, the rest is noted or nothing. -/
theorem quadratureCounts : Obligations.QuadratureCounts := by
  unfold Obligations.QuadratureCounts
  intro lines
  refine ⟨fun k a b s h10 hm hu hacc => ⟨fun hone => ?_, fun htwo => ?_⟩, fun k a b s h10 hm hu h => execFbEdge_of_rejected h10 hm hu h,
    fun k a b s h10 hm => ?_, fun k a b s h => ⟨_, execFbEdge_of_noted a b h, s.noted_cell k a b, s.modCell_spec k _⟩⟩
  · have hc : ¬ (s.cell[k].a = a ∧ s.cell[k].b = b) := fun h => hone.elim (fun g => g.1 h.1) fun g => g.2 h.2
    have hn : ¬ (s.cell[k].a ≠ a ∧ s.cell[k].b ≠ b) := fun h => hone.elim (fun g => h.2 g.2) fun g => h.1 g.1
    have hexec := execFbEdge_of_accepted h10 hm hu hc hacc
    rw [if_neg hn] at hexec
    have hstep : dirSign s k (if (quadPlace s.cell[k].a s.cell[k].b + 1) % 4 = quadPlace a b then 1 else -1) =
        if (if s.cell[k].b = b then a ≠ b else a = b) ↔ fbDir s k ≠ 1 then 1 else -1 := by
      rw [dirSign_step]
      exact if_congr (iff_congr (quadPlace_step _ _ a b hone) Iff.rfl) rfl rfl
    rw [hstep] at hexec
    have hcell := s.noted_cell k a b
    have hnb := s.noted_blank k a b
    refine ⟨_, hexec, ?_⟩
    generalize (if (if s.cell[k].b = b then a ≠ b else a = b) ↔ fbDir s k ≠ 1 then (1 : Int) else -1) = dir
    intro early
    have hq : (s.noted k a b).cellQuay k = s.cellQuay k := rfl
    have he : fbEmuSource (s.noted k a b) k = fbEmuSource s k := rfl
    have hearly : (s.noted k a b).countsEarly k ↔ early := by
      unfold State.countsEarly
      rw [hcell]
      rfl
    have hquay : (s.noted k a b).quay = s.quay := rfl
    have hflt : (s.noted k a b).flt = s.flt := rfl
    obtain ⟨hb, hlate, hpre, hmarks, hform, hothers, hquiet⟩ := (s.noted k a b).countStep_spec k dir
    generalize (s.noted k a b).countStep k dir = t at hb hlate hpre hmarks hform hothers hquiet
    have htb := hb.trans (State.blank_mono hnb (by simp))
    rw [hearly] at hlate hpre
    have hpos : (s.noted k a b).cell[k].pos = s.cell[k].pos := by rw [hcell]
    rw [hpos] at hlate hpre
    have hmk : t.cell[k].marks = (a, b, s.cell[k].hall, s.cell[k].lastHall, s.cell[k].illegal) := by
      rw [hmarks, hcell]
      rfl
    refine ⟨hlate, hpre, congrArg Prod.fst hmk, congrArg (fun x => x.2.1) hmk, congrArg (fun x => x.2.2.2.2) hmk,
      fun j hj => State.cell_of_blank htb (by simp [hj]), hform, hothers, hquiet, ?_⟩
    exact State.eq_take (State.blank_mono htb (by simp) : t.blank [.cell, .quay, .transit] = s.blank [.cell, .quay, .transit])
  · have hc : ¬ (s.cell[k].a = a ∧ s.cell[k].b = b) := fun h => htwo.1 h.1
    have hexec := execFbEdge_of_accepted h10 hm hu hc hacc
    rw [if_pos htwo] at hexec
    obtain ⟨hbare, hraised, hb⟩ := State.illegal_spec (s.noted_blank k a b)
    rw [s.noted_cell k a b] at hbare
    refine ⟨_, hexec, ?_⟩
    generalize (s.noted k a b).illegal k = t at hbare hraised hb
    refine ⟨(congrArg Cell.pos hbare :), (congrArg Cell.a hbare :), (congrArg Cell.b hbare :), (congrArg Cell.illegal hbare :), (congrArg Cell.unsure hbare :),
      hraised, fun j hj => State.cell_of_blank hb (by simp [hj]), ?_⟩
    exact State.eq_take (State.blank_mono hb (by simp) : t.blank [.cell, .quay, .ih, .flt, .transit] = s.blank [.cell, .quay, .ih, .flt, .transit])
  · change execFbEdge k a b s = _
    rw [execFbEdge]
    exact (if_neg (by rw [h10]; decide)).trans (if_pos hm)

end Sys2Proof.Machine
end

section
namespace Sys2Proof.Machine

/-! ### HALL_CHANGE (R339, R346 to R349) -/

/-- The cell with a state of the Hall sensors noted. -/
def Cell.hallNoted (c : Cell) (st : BitVec 3) (now : Nat) : Cell := { c.noteLines (hallLines c.hall st) now with hall := st }

/-- The device with a state of the Hall sensors of a cell noted. -/
def State.hallNoted (s : State) (k : CellNo) (st : BitVec 3) : State := s.modCell k (fun x => x.hallNoted st s.now)

theorem State.hallNoted_cell (s : State) (k : CellNo) (st : BitVec 3) :
    (s.hallNoted k st).cell[k] = { s.cell[k] with hall := st, lineAt := ((s.hallNoted k st).cell[k]).lineAt } := by
  unfold State.hallNoted
  rw [State.modCell_self]
  unfold Cell.hallNoted
  rw [Cell.noteLines_eq]

/-- The device with a valid state of the Hall sensors taken. -/
def State.hallTaken (s : State) (k : CellNo) (o : Option (BitVec 3)) (st : BitVec 3) : State := (s.hallNoted k st).modCell k (fun x => { x with lastHall := o })

theorem State.hallTaken_cell (s : State) (k : CellNo) (o : Option (BitVec 3)) (st : BitVec 3) :
    (s.hallTaken k o st).cell[k] = { s.cell[k] with hall := st, lastHall := o, lineAt := ((s.hallTaken k o st).cell[k]).lineAt } := by
  unfold State.hallTaken
  rw [State.modCell_self, State.hallNoted_cell]

theorem State.hallTaken_blank (s : State) (k : CellNo) (o : Option (BitVec 3)) (st : BitVec 3) :
    (s.hallTaken k o st).blank [.cellAt k] = s.blank [.cellAt k] :=
  ((s.hallNoted k st).modCell_blank k (by simp) _).trans (s.modCell_blank k (by simp) _)

/-- Every state of the sensors but 0 and 7 has a place in the sequence (R346, R349). -/
theorem hallSector_isSome (order : Nat) {st : BitVec 3} (h0 : st ≠ 0) (h7 : st ≠ 7) : ∃ p, hallSector order st = some p := by
  have hall : ∀ st : BitVec 3, st ≠ 0 → st ≠ 7 → (hallPlace st).isSome = true := by decide
  obtain ⟨p, hp⟩ := Option.isSome_iff_exists.1 (hall st h0 h7)
  exact ⟨_, by rw [hallSector, hp, Option.map_some]⟩

/-- Places in a sequence of six. -/
theorem hallSector_lt {order : Nat} {st : BitVec 3} {p : Nat} (h : hallSector order st = some p) : p < 6 := by
  have hall : ∀ st : BitVec 3, ∀ p ∈ hallPlace st, p < 6 := by decide
  rw [hallSector, Option.map_eq_some_iff] at h
  obtain ⟨n, hn, rfl⟩ := h
  split
  · exact Nat.mod_lt _ (by decide)
  · exact hall st n hn

theorem dirSign_one (s : State) (k : CellNo) : dirSign s k 1 = if fbDir s k = 1 then -1 else 1 := rfl
theorem dirSign_neg_one (s : State) (k : CellNo) : dirSign s k (-1) = if fbDir s k = 1 then 1 else -1 := rfl

section
variable {s : State} {k : CellNo} {st : BitVec 3}

/-- What an accepted change of the Hall sensors does. -/
def State.hallMoves (s : State) (k : CellNo) (st : BitVec 3) : State :=
  match hallSector (fbHallOrder s k) st with
  | none => (s.hallTaken k none st).raiseCell srcHallIllegal k
  | some p =>
    match s.cell[k].lastHall.bind (hallSector (fbHallOrder s k)) with
    | none => s.hallTaken k (some st) st
    | some p0 =>
      if (p0 + 1) % 6 = p then (s.hallTaken k (some st) st).countStep k (dirSign s k 1)
      else if (p + 1) % 6 = p0 then (s.hallTaken k (some st) st).countStep k (dirSign s k (-1))
      else (s.hallTaken k (some st) st).illegal k

theorem execHallChange_of_accepted (h10 : s.afterStep10 = true) (hm : fbMode s k = 2) (hu : s.cellUsed k = true) (hc : s.cell[k].hall ≠ st)
    (hacc : s.linesAccept k (hallLines s.cell[k].hall st) = true) : execHallChange k st s = .next (s.hallMoves k st) := by
  have h10' : ¬ (!s.afterStep10) = true := by rw [h10]; decide
  have hmu : ¬ (fbMode s k ≠ 2 ∨ s.cellUsed k = false) := by rw [hm, hu]; decide
  have hacc' : ¬ (!s.linesAccept k (hallLines s.cell[k].hall st)) = true := by rw [hacc]; decide
  rw [execHallChange, State.hallMoves]
  refine (if_neg h10').trans ((if_neg hmu).trans ((if_neg hc).trans ((if_neg hacc').trans ?_)))
  cases hallSector (fbHallOrder s k) st with
  | none => rfl
  | some p =>
    dsimp only
    cases s.cell[k].lastHall.bind (hallSector (fbHallOrder s k)) with
    | none => rfl
    | some p0 =>
      dsimp only
      rw [apply_ite Host.Outcome.next, apply_ite Host.Outcome.next]
      rfl

theorem execHallChange_of_rejected (h10 : s.afterStep10 = true) (hm : fbMode s k = 2) (hu : s.cellUsed k = true)
    (h : s.cell[k].hall = st ∨ s.linesAccept k (hallLines s.cell[k].hall st) = false) : execHallChange k st s = .next s := by
  have h10' : ¬ (!s.afterStep10) = true := by rw [h10]; decide
  have hmu : ¬ (fbMode s k ≠ 2 ∨ s.cellUsed k = false) := by rw [hm, hu]; decide
  rw [execHallChange]
  refine (if_neg h10').trans ((if_neg hmu).trans ?_)
  by_cases hc : s.cell[k].hall = st
  · exact if_pos hc
  · refine (if_neg hc).trans (if_pos ?_)
    rw [h.resolve_left hc]
    rfl

theorem execHallChange_of_noted (st : BitVec 3) (h : s.afterStep10 = false ∨ fbMode s k ≠ 2 ∨ s.cellUsed k = false) :
    execHallChange k st s = .next (s.hallNoted k st) := by
  rw [execHallChange]
  by_cases h10 : s.afterStep10 = true
  · have hmu : fbMode s k ≠ 2 ∨ s.cellUsed k = false := h.resolve_left (by rw [h10]; decide)
    exact (if_neg (by rw [h10]; decide)).trans (if_pos hmu)
  · exact if_pos (by rw [Bool.eq_false_iff.2 h10]; rfl)

end

/-- A state of the Hall sensors taken with a counted step. -/
theorem State.hallTaken_counts (s : State) (k : CellNo) (st : BitVec 3) (dir : Int) :
    let t := (s.hallTaken k (some st) st).countStep k dir
    (¬ s.countsEarly k → t.cell[k].pos = s.cell[k].pos + dir) ∧ (s.countsEarly k → t.cell[k].pos = s.cell[k].pos) ∧ t.cell[k].hall = st ∧
    t.cell[k].lastHall = some st ∧ (∀ j : CellNo, j ≠ k → t.cell[j] = s.cell[j]) ∧
    (∀ r : QuayNo, t.quay[r] = { s.quay[r] with form := t.quay[r].form, probe := t.quay[r].probe }) ∧
    (∀ r : QuayNo, s.cellQuay k ≠ some r → t.quay[r] = s.quay[r]) ∧ (fbEmuSource s k ≠ 1 → t.flt = s.flt) ∧
    t = { s with cell := t.cell, quay := t.quay, flt := { s.flt with transit := t.flt.transit } } := by
  intro t
  have hcell := s.hallTaken_cell k (some st) st
  have hnb := s.hallTaken_blank k (some st) st
  have hearly : (s.hallTaken k (some st) st).countsEarly k ↔ s.countsEarly k := by
    unfold State.countsEarly
    rw [hcell]
    rfl
  obtain ⟨hb, hlate, hpre, hmarks, hform, hothers, hquiet⟩ := (s.hallTaken k (some st) st).countStep_spec k dir
  have hpos : (s.hallTaken k (some st) st).cell[k].pos = s.cell[k].pos := by rw [hcell]
  rw [hearly, hpos] at hlate hpre
  have htb := hb.trans (State.blank_mono hnb (by simp))
  have hmk : t.cell[k].marks = (s.cell[k].a, s.cell[k].b, st, some st, s.cell[k].illegal) := by
    rw [hmarks, hcell]
    rfl
  refine ⟨hlate, hpre, congrArg (fun x => x.2.2.1) hmk, congrArg (fun x => x.2.2.2.1) hmk, fun j hj => State.cell_of_blank htb (by simp [hj]), hform,
    hothers, hquiet, ?_⟩
  exact State.eq_take (State.blank_mono htb (by simp) : t.blank [.cell, .quay, .transit] = s.blank [.cell, .quay, .transit])

/-- Settles O28: the sequence as a table; a neighbour counts, another state is illegal, an invalid one is raised, the first valid one taken. -/
theorem hallCounts : Obligations.HallCounts := by
  unfold Obligations.HallCounts
  refine ⟨⟨by decide, by decide, fun o => ⟨rfl, rfl⟩⟩, fun k st s h10 hm hu hc hacc => ?_, fun k st s h10 hm hu h => execHallChange_of_rejected h10 hm hu h,
    fun k st s h => ⟨_, execHallChange_of_noted st h, s.hallNoted_cell k st, s.modCell_spec k _⟩⟩
  intro early counts
  have hexec : exec (.hallChange k st) s = .next (s.hallMoves k st) := execHallChange_of_accepted h10 hm hu hc hacc
  refine ⟨fun p0 p hp0 hp => ⟨fun hup => ⟨_, hexec, ?_⟩, fun hdown => ⟨_, hexec, ?_⟩, fun hnu hnd => ⟨_, hexec, ?_⟩⟩, fun hbad => ⟨_, hexec, ?_⟩,
    fun h0 h7 hnone => ⟨_, hexec, ?_⟩⟩
  · have hmove : s.hallMoves k st = (s.hallTaken k (some st) st).countStep k (dirSign s k 1) := by
      rw [State.hallMoves, hp, hp0]
      exact if_pos hup
    rw [hmove, ← dirSign_one]
    exact s.hallTaken_counts k st _
  · have hnot : ¬ (p0 + 1) % 6 = p := by
      have := hallSector_lt hp
      omega
    have hmove : s.hallMoves k st = (s.hallTaken k (some st) st).countStep k (dirSign s k (-1)) := by
      rw [State.hallMoves, hp, hp0]
      exact (if_neg hnot).trans (if_pos hdown)
    rw [hmove, ← dirSign_neg_one]
    exact s.hallTaken_counts k st _
  · have hmove : s.hallMoves k st = (s.hallTaken k (some st) st).illegal k := by
      rw [State.hallMoves, hp, hp0]
      exact (if_neg hnu).trans (if_neg hnd)
    obtain ⟨hbare, hraised, hb⟩ := State.illegal_spec (s.hallTaken_blank k (some st) st)
    rw [s.hallTaken_cell k (some st) st] at hbare
    rw [hmove]
    generalize (s.hallTaken k (some st) st).illegal k = t at hbare hraised hb
    refine ⟨(congrArg Cell.pos hbare :), (congrArg Cell.hall hbare :), (congrArg Cell.illegal hbare :), (congrArg Cell.unsure hbare :),
      hraised, fun j hj => State.cell_of_blank hb (by simp [hj]), ?_⟩
    exact State.eq_take (State.blank_mono hb (by simp) : t.blank [.cell, .quay, .ih, .flt, .transit] = s.blank [.cell, .quay, .ih, .flt, .transit])
  · have hno : hallSector (fbHallOrder s k) st = none := by
      rcases hbad with rfl | rfl <;> rfl
    have hmove : s.hallMoves k st = (s.hallTaken k none st).raiseCell srcHallIllegal k := by
      rw [State.hallMoves, hno]
    obtain ⟨hcell, hraised, hflt, hb⟩ := State.raiseCell_spec (s.hallTaken_blank k none st) srcHallIllegal 0
    have htaken := s.hallTaken_cell k none st
    rw [hmove]
    generalize (s.hallTaken k none st).raiseCell srcHallIllegal k = t at hcell hraised hflt hb
    rw [← hcell] at htaken
    refine ⟨htaken, hraised, hflt, fun j hj => State.cell_of_blank hb (by simp [hj]), ?_⟩
    exact State.eq_take (State.blank_mono hb (by simp) : t.blank [.cell, .flt, .transit] = s.blank [.cell, .flt, .transit])
  · obtain ⟨p, hp⟩ := hallSector_isSome (fbHallOrder s k) h0 h7
    have hmove : s.hallMoves k st = s.hallTaken k (some st) st := by
      rw [State.hallMoves, hp, hnone]
    have hb := s.hallTaken_blank k (some st) st
    rw [hmove]
    refine ⟨s.hallTaken_cell k (some st) st, fun j hj => State.cell_of_blank hb (by simp [hj]), ?_⟩
    exact State.eq_take (State.blank_mono hb (by simp) : _ = s.blank [.cell])

end Sys2Proof.Machine
end

section
namespace Sys2Proof.Machine

/-! ### Line faults, standstill and compare pulse (R342, R386, R403) -/

section
variable (s : State) (k : CellNo)

theorem execFbWire_eq : execFbWire k s =
    if s.afterStep10 = true ∧ s.cellUsed k = true ∧ (fbMode s k = 1 ∨ fbMode s k = 4) ∧ s.cell[k].wire = false then
      .next ((s.modCell k (fun c => { c with wire := true })).raiseCell srcFbWire k) else .next s := by
  unfold execFbWire
  refine if_congr ?_ rfl rfl
  simp only [Bool.and_eq_true, Bool.not_eq_true', decide_eq_true_eq, and_assoc]

/-- The cell at standstill (R386). -/
def Cell.stood (c : Cell) : Cell :=
  { c with still := true, provisional := false, speed := 0, methodF := false, wasF := false, freq := none, period := none }

/-- A cell whose last edge lies `fb.t_still` back at a sample event stands still from it on. -/
def State.standsStill : Prop := s.afterStep10 = true ∧ fbMode s k ≠ 0 ∧ s.cell[k].eventAt = s.now ∧
  s.cell[k].lastEdge + us (fbTStill s k) ≤ s.now ∧ s.cell[k].still = false

theorem execFbStillTimeout_eq [Decidable (s.standsStill k)] : execFbStillTimeout k s =
    if s.standsStill k then
      .next (if fbMode s k ≤ 2 then (s.modCell k Cell.stood).give k else s.modCell k Cell.stood) else .next s := by
  unfold execFbStillTimeout
  refine if_congr ?_ rfl rfl
  simp only [State.standsStill, Bool.and_eq_true, Bool.not_eq_true', decide_eq_true_eq, and_assoc]

/-- The delivery of a cell, and the open snapshot that it goes to. -/
theorem State.give_spec : (s.give k).cell[k] = { s.cell[k] with given := some (s.viewNow k) } ∧
    (∀ r : QuayNo, (s.give k).quay[r] = { s.quay[r] with form := (s.give k).quay[r].form }) ∧
    (∀ r : QuayNo, s.cellQuay k ≠ some r → (s.give k).quay[r] = s.quay[r]) := by
  refine ⟨?_, fun r => ?_, (s.give_follows k).others⟩
  · have hmod := s.modCell_self k (fun c => { c with given := some (s.viewNow k) })
    unfold State.give
    dsimp only
    split
    · split <;> exact hmod
    · exact hmod
  · unfold State.give
    dsimp only
    split
    next q _ =>
      split
      · by_cases hr : q = r
        · subst hr
          rw [State.modQuay_self]
          rfl
        · rw [State.modQuay_ne _ _ hr]
          rfl
      · rfl
    · rfl

end

theorem execComparePulseEnd_of_due {s : State} {k : CellNo} {u : Nat} (hu : s.cell[k].cmpUntil = some u) (hn : u ≤ s.now) :
    execComparePulseEnd k s = .next (s.modCell k (fun c => { c with cmpUntil := none })) := by
  rw [execComparePulseEnd, hu]
  exact if_neg (Nat.not_lt.2 hn)

theorem execComparePulseEnd_of_early {s : State} {k : CellNo} (h : ∀ u, s.cell[k].cmpUntil = some u → s.now < u) : execComparePulseEnd k s = .next s := by
  rw [execComparePulseEnd]
  split
  next u hu => exact if_pos (h u hu)
  · rfl

theorem fbWire_raises {k : CellNo} {s : State} (h10 : s.afterStep10 = true) (hu : s.cellUsed k = true) (hm : fbMode s k = 1 ∨ fbMode s k = 4)
    (hw : s.cell[k].wire = false) : ∃ t, exec (.fbWire k) s = .next t ∧ t.cell[k] = { s.cell[k] with wire := true } ∧
      (∀ q, s.cellQuay k = some q → Raised s t srcFbWire (BitVec.ofNat 8 q.val)) ∧ (s.cellQuay k = none → t.flt = s.flt) ∧
      (∀ j : CellNo, j ≠ k → t.cell[j] = s.cell[j]) ∧ t = { s with cell := t.cell, flt := t.flt } := by
  refine ⟨_, (execFbWire_eq s k).trans (if_pos ⟨h10, hu, hm, hw⟩), ?_⟩
  have hmb := s.modCell_blank (ps := [.cellAt k]) k (by simp) (fun c => { c with wire := true })
  obtain ⟨hcell, hraised, hflt, hb⟩ := State.raiseCell_spec hmb srcFbWire 0
  rw [State.modCell_self] at hcell
  refine ⟨hcell, hraised, hflt, fun j hj => State.cell_of_blank hb (by simp [hj]), ?_⟩
  exact State.eq_take (State.blank_mono hb (by simp) : _ = s.blank [.cell, .flt, .transit])

theorem fbWire_idle {k : CellNo} {s : State}
    (h : s.afterStep10 = false ∨ s.cellUsed k = false ∨ (fbMode s k ≠ 1 ∧ fbMode s k ≠ 4) ∨ s.cell[k].wire = true) : exec (.fbWire k) s = .next s := by
  refine (execFbWire_eq s k).trans (if_neg ?_)
  rintro ⟨h10, hu, hm, hw⟩
  rcases h with h | h | ⟨h1, h4⟩ | h
  · exact absurd (h10.symm.trans h) (by decide)
  · exact absurd (hu.symm.trans h) (by decide)
  · exact hm.elim h1 h4
  · exact absurd (h.symm.trans hw) (by decide)

theorem fbStillTimeout_stands {k : CellNo} {s : State} (h : s.standsStill k) : ∃ t, exec (.fbStillTimeout k) s = .next t ∧
    t.cell[k] = { s.cell[k] with
      still := true, provisional := false, speed := 0, methodF := false, wasF := false, freq := none, period := none, given := t.cell[k].given } ∧
    (3 ≤ fbMode s k → t.cell[k].given = s.cell[k].given ∧ t.quay = s.quay) ∧
    (fbMode s k ≤ 2 → ∃ v, t.cell[k].given = some v ∧ v.still = true ∧ v.speed = 0 ∧ v.pos = s.cell[k].sampled) ∧
    (∀ r : QuayNo, t.quay[r] = { s.quay[r] with form := t.quay[r].form }) ∧ (∀ r : QuayNo, s.cellQuay k ≠ some r → t.quay[r] = s.quay[r]) ∧
    (∀ j : CellNo, j ≠ k → t.cell[j] = s.cell[j]) ∧ t = { s with cell := t.cell, quay := t.quay } := by
  classical
  have hexec := (execFbStillTimeout_eq s k).trans (if_pos h)
  have hself := s.modCell_self k Cell.stood
  have hmb := s.modCell_blank (ps := [.cellAt k]) k (by simp) Cell.stood
  by_cases h2 : fbMode s k ≤ 2
  · rw [if_pos h2] at hexec
    refine ⟨_, hexec, ?_⟩
    have hview : ((s.modCell k Cell.stood).viewNow k).still = true ∧ ((s.modCell k Cell.stood).viewNow k).speed = 0 ∧
        ((s.modCell k Cell.stood).viewNow k).pos = s.cell[k].sampled := by
      unfold State.viewNow
      rw [hself]
      exact ⟨rfl, rfl, rfl⟩
    obtain ⟨hcell, hform, hothers⟩ := (s.modCell k Cell.stood).give_spec k
    have hb := (State.give_blank (s.modCell k Cell.stood) (ps := [.cellAt k, .quay]) k (by simp)).trans (State.blank_mono hmb (by simp))
    rw [hself] at hcell
    generalize (s.modCell k Cell.stood).viewNow k = v at hcell hview
    generalize (s.modCell k Cell.stood).give k = t at hcell hform hothers hb
    refine ⟨?_, fun h3 => absurd h3 (by omega), fun _ => ⟨v, ?_, hview⟩, hform, hothers, fun j hj => State.cell_of_blank hb (by simp [hj]), ?_⟩
    · rw [hcell]
      rfl
    · rw [hcell]
    · exact State.eq_take (State.blank_mono hb (by simp) : t.blank [.cell, .quay] = s.blank [.cell, .quay])
  · rw [if_neg h2] at hexec
    refine ⟨_, hexec, ?_, fun _ => ⟨by rw [hself]; rfl, rfl⟩, fun h => absurd h h2, fun _ => rfl, fun _ _ => rfl, s.modCell_spec k _⟩
    rw [hself]
    rfl

theorem fbStillTimeout_idle {k : CellNo} {s : State} (h : s.afterStep10 = false ∨ fbMode s k = 0 ∨ s.cell[k].eventAt ≠ s.now ∨ s.cell[k].still = true ∨
    s.now < s.cell[k].lastEdge + 6400 * fbTStill s k) : exec (.fbStillTimeout k) s = .next s := by
  classical
  refine (execFbStillTimeout_eq s k).trans (if_neg ?_)
  rintro ⟨h10, hm, hat, hedge, hst⟩
  rcases h with h | h | h | h | h
  · exact absurd (h10.symm.trans h) (by decide)
  · exact hm h
  · exact h hat
  · exact absurd (h.symm.trans hst) (by decide)
  · exact Nat.not_le.2 h hedge

/-! ### SSI_FRAME_END (R343, R358 to R364) -/

section
variable (s : State) (k : CellNo)

theorem State.cellArrived_follows : Follows k s (s.cellArrived k) := by
  unfold State.cellArrived
  split
  next q hq =>
    refine Follows.ite (Follows.modQuay hq _ fun x => ?_) (Follows.refl k s)
    split <;> rfl
  · exact Follows.refl k s

/-- The cell with the position of a sample event in mode 3 or 4. -/
def Cell.positioned (c : Cell) (t window band : Nat) (f : Rat) (ssi : Bool) : Cell :=
  ({ c.applyPresetNow with sampled := c.applyPresetNow.pos, sampledAt := t, await := none, stale := false
                           ssiErr := c.applyPresetNow.ssiErr && ssi }).measureDiff t window band f

/-- The device with the position of a sample event in mode 3 or 4 measured. -/
def State.measured (t : Nat) : State :=
  (s.modCell k (fun c => c.positioned t (fbFreqWindow s k) (fbStillBand s k) (Config.freeRat s.free) (decide (fbMode s k = 3)))).drawn

theorem State.deliverPosition_follows (t : Nat) : Follows k (s.measured k t) (s.deliverPosition k t) :=
  ((State.give_follows _ k).trans (State.emulateOwn_follows _ k false)).trans (State.cellArrived_follows _ k)

theorem State.deliverStale_follows (t : Nat) : Follows k (s.modCell k (fun c => c.staleAt t)) (s.deliverStale k t) :=
  ((State.give_follows _ k).trans (State.emulateOwn_follows _ k true)).trans (State.cellArrived_follows _ k)

/-- What a cell shows of its position, and what it keeps for the next one. -/
def Cell.shown (c : Cell) : (Int × Int × Nat × Option Nat) × (Bool × Bool × Bool × Bool) × Option Nat × Option Int :=
  ((c.pos, c.sampled, c.sampledAt, c.await), (c.stale, c.wire, c.ssiErr, c.unsure), c.ssiPrev, c.quad)

theorem Cell.measureDiff_shown (c : Cell) (t window band : Nat) (f : Rat) : (c.measureDiff t window band f).shown = c.shown := by
  unfold Cell.measureDiff
  dsimp only
  split <;> rfl

theorem Cell.bare_shown (c : Cell) : c.bare.shown = c.shown := rfl
theorem Cell.bare_presetNow (c : Cell) : c.bare.presetNow = c.presetNow := rfl

theorem Cell.positioned_shown {c : Cell} (h : c.presetNow = none) (t window band : Nat) (f : Rat) (ssi : Bool) :
    (c.positioned t window band f ssi).shown = ((c.pos, c.pos, t, none), (false, c.wire, c.ssiErr && ssi, c.unsure), c.ssiPrev, c.quad) := by
  have hpre : c.applyPresetNow = c := by
    unfold Cell.applyPresetNow
    rw [h]
  rw [Cell.positioned, Cell.measureDiff_shown, hpre]
  rfl

/-- A delivery with a new position, with no preset due: what the cell shows, and what else changes. -/
theorem State.deliverPosition_spec {s : State} {k : CellNo} (h : s.cell[k].presetNow = none) (t : Nat) :
    let u := s.deliverPosition k t
    u.blank [.cellAt k, .quay, .transit, .free] = s.blank [.cellAt k, .quay, .transit, .free] ∧ s.flt.transit ⊆ u.flt.transit ∧
    u.cell[k].shown = ((s.cell[k].pos, s.cell[k].pos, t, none), (false, s.cell[k].wire, s.cell[k].ssiErr && decide (fbMode s k = 3), s.cell[k].unsure),
      s.cell[k].ssiPrev, s.cell[k].quad) := by
  intro u
  have hf : Follows k (s.measured k t) u := s.deliverPosition_follows k t
  have hm : (s.measured k t).cell[k] = s.cell[k].positioned t (fbFreqWindow s k) (fbStillBand s k) (Config.freeRat s.free) (decide (fbMode s k = 3)) :=
    s.modCell_self k _
  have hb : (s.measured k t).blank [.cellAt k, .quay, .transit, .free] = s.blank [.cellAt k, .quay, .transit, .free] :=
    (State.drawn_blank _ (by simp)).trans (s.modCell_blank k (by simp) _)
  refine ⟨(State.blank_mono hf.rest (by simp)).trans hb, hf.raises, ?_⟩
  rw [← Cell.bare_shown, hf.cell, hm, Cell.bare_shown, Cell.positioned_shown h]

/-- A delivery flagged stale, with no preset due. -/
theorem State.deliverStale_spec {s : State} {k : CellNo} (h : s.cell[k].presetNow = none) (t : Nat) :
    let u := s.deliverStale k t
    u.blank [.cellAt k, .quay, .transit] = s.blank [.cellAt k, .quay, .transit] ∧ s.flt.transit ⊆ u.flt.transit ∧
    u.cell[k].pos = s.cell[k].pos ∧ u.cell[k].sampled = s.cell[k].sampled ∧ u.cell[k].speed = s.cell[k].speed ∧ u.cell[k].ssiErr = s.cell[k].ssiErr ∧
    u.cell[k].stale = true ∧ u.cell[k].ssiPrev = s.cell[k].ssiPrev ∧ u.cell[k].await = none ∧ u.cell[k].wire = s.cell[k].wire := by
  intro u
  have hf : Follows k (s.modCell k (fun c => c.staleAt t)) u := s.deliverStale_follows k t
  have hpre : s.cell[k].applyPresetNow = s.cell[k] := by
    unfold Cell.applyPresetNow
    rw [h]
  have hcell := hf.cell
  rw [State.modCell_self] at hcell
  unfold Cell.staleAt at hcell
  rw [hpre] at hcell
  refine ⟨hf.rest.trans (s.modCell_blank k (by simp) _), hf.raises, ?_⟩
  generalize u.cell[k] = c at hcell
  exact ⟨(congrArg Cell.pos hcell :), (congrArg Cell.sampled hcell :), (congrArg Cell.speed hcell :), (congrArg Cell.ssiErr hcell :),
    (congrArg Cell.stale hcell :), (congrArg Cell.ssiPrev hcell :), (congrArg Cell.await hcell :), (congrArg Cell.wire hcell :)⟩

/-- An evaluation of a position from a device `u`: the compare unit looks at the move from the one before, and waiting probe edges are captured. -/
def State.evaluatedAt (u : State) (pos : Int) (t : Nat) : State :=
  ((match s.cell[k].evals.head? with
    | some (t0, p0) => u.compareMove k p0 pos t0 t
    | none => u).modCell k (fun x => x.addEval t pos)).probeResolve k

theorem State.evaluatedAt_spec (u : State) (pos : Int) (t : Nat) :
    (s.evaluatedAt k u pos t).blank [.cellAt k, .quay, .transit] = u.blank [.cellAt k, .quay, .transit] ∧
    u.flt.transit ⊆ (s.evaluatedAt k u pos t).flt.transit ∧ (s.evaluatedAt k u pos t).cell[k].shown = u.cell[k].shown ∧
    (s.evaluatedAt k u pos t).cell[k].presetNow = u.cell[k].presetNow := by
  have hcmp : ∃ v, Follows k u v ∧ s.evaluatedAt k u pos t = (v.modCell k (fun x => x.addEval t pos)).probeResolve k := by
    unfold State.evaluatedAt
    cases s.cell[k].evals.head? with
    | none => exact ⟨u, Follows.refl k u, rfl⟩
    | some e => exact ⟨_, u.compareMove_follows k e.2 pos e.1 t, rfl⟩
  obtain ⟨v, hv, heq⟩ := hcmp
  have hp := (v.modCell k (fun x => x.addEval t pos)).probeResolve_follows k
  rw [← heq] at hp
  have hcell := hp.cell
  rw [State.modCell_self] at hcell
  refine ⟨hp.rest.trans ((v.modCell_blank k (by simp) _).trans hv.rest), List.Subset.trans hv.raises hp.raises, ?_, ?_⟩
  · rw [← Cell.bare_shown, hcell, Cell.bare_shown, ← u.cell[k].bare_shown, ← hv.cell]
    rfl
  · rw [← Cell.bare_presetNow, hcell, Cell.bare_presetNow, ← u.cell[k].bare_presetNow, ← hv.cell]
    rfl

/-- The bits of data of a frame. -/
def State.ssiMask : BitVec 32 := BitVec.ofNat 32 (2 ^ fbSsiBits s k - 1)

/-- The masked data are the data modulo the length of a frame. -/
theorem State.ssiMask_mod (d : BitVec 32) : BitVec.ofNat 32 ((d &&& s.ssiMask k).toNat % 2 ^ fbSsiBits s k) = BitVec.ofNat 32 (d.toNat % 2 ^ fbSsiBits s k) := by
  refine congrArg _ (Nat.eq_of_testBit_eq fun i => ?_)
  rw [State.ssiMask, BitVec.toNat_and, BitVec.toNat_ofNat, Nat.testBit_mod_two_pow, Nat.testBit_mod_two_pow, Nat.testBit_and, Nat.testBit_mod_two_pow,
    Nat.testBit_two_pow_sub_one]
  by_cases hi : i < fbSsiBits s k
  · by_cases h32 : i < 32
    · simp [hi, h32]
    · have hz : d.toNat.testBit i = false := Nat.testBit_lt_two_pow (Nat.lt_of_lt_of_le d.isLt (Nat.pow_le_pow_right (by decide) (Nat.not_lt.1 h32)))
      simp [hz]
  · simp [hi]

theorem State.ssiValue_plain (d : BitVec 32) (hc : fbSsiCode s k ≠ 1) (hd : fbDir s k ≠ 1) :
    s.ssiValue k (d &&& s.ssiMask k) = d.toNat % 2 ^ fbSsiBits s k := by
  rw [State.ssiValue, s.ssiMask_mod]
  rw [if_neg hd, if_neg hc, BitVec.toNat_ofNat]
  exact Nat.mod_eq_of_lt (Nat.lt_of_le_of_lt (Nat.mod_le _ _) d.isLt)

/-- The line is high throughout a frame (R343). -/
def State.ssiHigh (f : SsiFrame) : Bool :=
  f.ready && (f.data &&& s.ssiMask k) == s.ssiMask k && (decide (fbSsiParity s k = 0) || f.parity) && f.tail

/-- The step from the value of the frame before is too large (R363). -/
def State.ssiJumps (f : SsiFrame) : Bool :=
  match s.cell[k].ssiPrev with
  | some p => decide (fbSsiMaxStep s k < (ssiDelta (fbSsiBits s k) p (s.ssiValue k (f.data &&& s.ssiMask k))).natAbs)
  | none => false

/-- The sub-cause of a frame that fails (R359 to R364). -/
def State.ssiFail (f : SsiFrame) : Option Byte :=
  if !f.ready then some 1 else if !ssiParityOk (fbSsiParity s k) (f.data &&& s.ssiMask k) f.parity then some 2
  else if f.tail then some 4 else if s.ssiJumps k f then some 8 else none

/-- The position of a good frame. -/
def State.ssiPos (f : SsiFrame) : Int :=
  match s.cell[k].ssiPrev with
  | some p => s.cell[k].pos + ssiDelta (fbSsiBits s k) p (s.ssiValue k (f.data &&& s.ssiMask k))
  | none => (s.ssiValue k (f.data &&& s.ssiMask k) : Int)

/-- The device with the value of a good frame taken. -/
def State.ssiTaken (f : SsiFrame) : State :=
  s.modCell k (fun x => { x with ssiErr := false, wire := false, pos := s.ssiPos k f, ssiPrev := some (s.ssiValue k (f.data &&& s.ssiMask k)) })

theorem execSsiFrameEnd_of_due {s : State} {k : CellNo} {u : Nat} (f : SsiFrame) (hu : s.cell[k].await = some u) (hm : fbMode s k = 3)
    (hn : u + s.ssiTicks k ≤ s.now) : execSsiFrameEnd k f s =
      if s.ssiHigh k f then .next (((s.modCell k (fun x => { x with wire := true, ssiErr := true })).raiseCell srcFbWire k).deliverStale k u)
      else match s.ssiFail k f with
        | some sub => .next (((s.modCell k (fun x => { x with ssiErr := true, wire := false })).raiseCell srcSsiFrame k sub).deliverStale k u)
        | none => .next ((s.evaluatedAt k (s.ssiTaken k f) (s.ssiPos k f) u).deliverPosition k u) := by
  rw [execSsiFrameEnd, hu]
  have hdue : ¬ (fbMode s k ≠ 3 ∨ s.now < u + s.ssiTicks k) := by omega
  exact if_neg hdue

theorem execSsiFrameEnd_idle {s : State} {k : CellNo} (f : SsiFrame) (h : fbMode s k ≠ 3 ∨ ∀ u, s.cell[k].await = some u → s.now < u + s.ssiTicks k) :
    execSsiFrameEnd k f s = .next s := by
  rw [execSsiFrameEnd]
  dsimp only
  cases hu : s.cell[k].await with
  | none => rfl
  | some u => exact if_pos (h.imp_right fun hn => hn u hu)

end

section
variable {s : State} {k : CellNo} {f : SsiFrame}

theorem State.ssiHigh_iff : s.ssiHigh k f = true ↔
    f.ready = true ∧ f.data &&& s.ssiMask k = s.ssiMask k ∧ (fbSsiParity s k = 0 ∨ f.parity = true) ∧ f.tail = true := by
  simp only [State.ssiHigh, Bool.and_eq_true, Bool.or_eq_true, beq_iff_eq, decide_eq_true_eq, and_assoc]

theorem State.ssiJumps_iff : s.ssiJumps k f = true ↔ ∃ p, s.cell[k].ssiPrev = some p ∧
    fbSsiMaxStep s k < (ssiDelta (fbSsiBits s k) p (s.ssiValue k (f.data &&& s.ssiMask k))).natAbs := by
  unfold State.ssiJumps
  cases s.cell[k].ssiPrev with
  | none => exact iff_of_false Bool.false_ne_true fun ⟨_, h, _⟩ => nomatch h
  | some p => exact ⟨fun h => ⟨p, rfl, of_decide_eq_true h⟩, fun ⟨p', he, h⟩ => by cases he; exact decide_eq_true h⟩

/-- A frame that delivers nothing new, from the cell with its line flag set and its source raised. -/
theorem State.ssiStale_spec {u : Nat} (src : Nat) (sub : Byte) (wire : Bool) (hp : s.cell[k].presetNow = none) :
    let t := ((s.modCell k (fun x => { x with ssiErr := true, wire := wire })).raiseCell src k sub).deliverStale k u
    (t.cell[k].pos = s.cell[k].pos ∧ t.cell[k].sampled = s.cell[k].sampled ∧ t.cell[k].speed = s.cell[k].speed ∧ t.cell[k].ssiErr = true ∧
      t.cell[k].stale = true ∧ t.cell[k].ssiPrev = s.cell[k].ssiPrev ∧ t.cell[k].await = none ∧ ∀ j : CellNo, j ≠ k → t.cell[j] = s.cell[j]) ∧
    t.cell[k].wire = wire ∧ ∀ q, s.cellQuay k = some q → ∃ e ∈ t.flt.transit, e.src = src ∧ e.quays = [q] ∧ e.ctx.sub = sub := by
  intro t
  have hmb := s.modCell_blank (ps := [.cellAt k]) k (by simp) (fun x => { x with ssiErr := true, wire := wire })
  have hself := s.modCell_self k (fun x => { x with ssiErr := true, wire := wire })
  have hq : (s.modCell k (fun x => { x with ssiErr := true, wire := wire })).cellQuay k = s.cellQuay k := rfl
  have hrq := (s.modCell k (fun x => { x with ssiErr := true, wire := wire })).raiseCell_eq k src sub
  obtain ⟨hcell, -, -, hb⟩ := State.raiseCell_spec hmb src sub
  rw [hself] at hcell
  rw [hq] at hrq
  have ht : t = ((s.modCell k (fun x => { x with ssiErr := true, wire := wire })).raiseCell src k sub).deliverStale k u := rfl
  have hraised : ∀ q, s.cellQuay k = some q → ∃ e ∈ ((s.modCell k (fun x => { x with ssiErr := true, wire := wire })).raiseCell src k sub).flt.transit,
      e.src = src ∧ e.quays = [q] ∧ e.ctx.sub = sub := fun q hsq => by
    rw [hrq, hsq]
    exact ⟨_, State.raise_mem _ _, rfl, rfl, rfl⟩
  generalize (s.modCell k (fun x => { x with ssiErr := true, wire := wire })).raiseCell src k sub = v at hcell hb ht hraised
  obtain ⟨hdb, hsub, hpos, hsam, hspd, herr, hstale, hprev, haw, hwire⟩ := State.deliverStale_spec (s := v) (k := k) (by rw [hcell]; exact hp) u
  rw [hcell] at hpos hsam hspd herr hprev hwire
  have hall := hdb.trans (State.blank_mono hb (by simp) : v.blank [.cellAt k, .quay, .transit] = s.blank [.cellAt k, .quay, .transit])
  rw [ht]
  refine ⟨⟨hpos, hsam, hspd, herr, hstale, hprev, haw, fun j hj => State.cell_of_blank hall (by simp [hj])⟩, hwire, fun q hsq => ?_⟩
  obtain ⟨e, he, hes⟩ := hraised q hsq
  exact ⟨e, hsub he, hes⟩

/-- A good frame, with no preset due. -/
theorem State.ssiGood_spec {u : Nat} (hp : s.cell[k].presetNow = none) :
    let t := (s.evaluatedAt k (s.ssiTaken k f) (s.ssiPos k f) u).deliverPosition k u
    t.cell[k].pos = s.ssiPos k f ∧ t.cell[k].sampled = t.cell[k].pos ∧ t.cell[k].sampledAt = u ∧ t.cell[k].await = none ∧ t.cell[k].ssiErr = false ∧
    t.cell[k].stale = false ∧ t.cell[k].wire = false ∧ t.cell[k].ssiPrev = some (s.ssiValue k (f.data &&& s.ssiMask k)) ∧
    ∀ j : CellNo, j ≠ k → t.cell[j] = s.cell[j] := by
  intro t
  obtain ⟨hb, -, hshown, hpre⟩ := s.evaluatedAt_spec k (s.ssiTaken k f) (s.ssiPos k f) u
  have hself : (s.ssiTaken k f).cell[k] = _ := s.modCell_self k _
  rw [hself] at hshown hpre
  have ht : t = (s.evaluatedAt k (s.ssiTaken k f) (s.ssiPos k f) u).deliverPosition k u := rfl
  obtain ⟨hdb, -, hdel⟩ := State.deliverPosition_spec (hpre.trans hp) u
  rw [← ht] at hdb hdel
  have hall : t.blank [.cellAt k, .quay, .transit, .free] = s.blank [.cellAt k, .quay, .transit, .free] :=
    hdb.trans ((State.blank_mono hb (by simp)).trans (s.modCell_blank k (by simp) _))
  clear_value t
  generalize s.evaluatedAt k (s.ssiTaken k f) (s.ssiPos k f) u = w at hshown hdel
  have hpos : w.cell[k].pos = s.ssiPos k f := congrArg (fun x => x.1.1) hshown
  have hwire : w.cell[k].wire = false := congrArg (fun x => x.2.1.2.1) hshown
  have herr : w.cell[k].ssiErr = false := congrArg (fun x => x.2.1.2.2.1) hshown
  have hprev : w.cell[k].ssiPrev = some (s.ssiValue k (f.data &&& s.ssiMask k)) := congrArg (fun x => x.2.2.1) hshown
  rw [hpos, hwire, herr, hprev] at hdel
  have htpos : t.cell[k].pos = s.ssiPos k f := congrArg (fun x => x.1.1) hdel
  exact ⟨htpos, (congrArg (fun x => x.1.2.1) hdel :).trans htpos.symm, (congrArg (fun x => x.1.2.2.1) hdel :), (congrArg (fun x => x.1.2.2.2) hdel :),
    (congrArg (fun x => x.2.1.2.2.1) hdel :), (congrArg (fun x => x.2.1.1) hdel :), (congrArg (fun x => x.2.1.2.1) hdel :),
    (congrArg (fun x => x.2.2.1) hdel :), fun j hj => State.cell_of_blank hall (by simp [hj])⟩

end

/-- Settles O30: line faults, standstill, compare pulses and frames, each at its condition alone. -/
theorem cellFlags : Obligations.CellFlags := by
  unfold Obligations.CellFlags
  refine ⟨⟨fun k s => fbWire_raises, fun k s => fbWire_idle, fun k s hm => ⟨_, if_neg hm, s.modCell_self k _, s.modCell_spec k _⟩, fun k s hm => if_pos hm,
    fun k s h10 hm hat hst hedge => fbStillTimeout_stands ⟨h10, hm, hat, hedge, hst⟩, fun k s => fbStillTimeout_idle,
    fun k u s hu hn => ⟨_, execComparePulseEnd_of_due hu hn, s.modCell_self k _, s.modCell_spec k _⟩, fun k s => execComparePulseEnd_of_early⟩,
    fun k f u s hm hu hn hp => ?_, fun k f s h => execSsiFrameEnd_idle f h⟩
  intro mask v parity jump high others stale
  have hexec := execSsiFrameEnd_of_due f hu hm hn
  have hhigh : s.ssiHigh k f = true ↔ high := State.ssiHigh_iff
  have hjump : s.ssiJumps k f = true ↔ jump := State.ssiJumps_iff
  have hpar : ssiParityOk (fbSsiParity s k) (f.data &&& s.ssiMask k) f.parity = parity := rfl
  refine ⟨s.ssiValue_plain k f.data, fun hr hpk ht hj => ?_, fun sub hnh hsub => ?_, fun hh => ?_⟩
  · have hnh : ¬ s.ssiHigh k f = true := fun h => absurd (ht.symm.trans (hhigh.1 h).2.2.2) (by decide)
    have hfail : s.ssiFail k f = none := by
      rw [State.ssiFail, hpar, hr, hpk, ht, if_neg (by decide), if_neg (by decide), if_neg (by decide), if_neg (fun h => hj (hjump.1 h))]
    rw [if_neg hnh, hfail] at hexec
    exact ⟨_, hexec, State.ssiGood_spec hp⟩
  · have hfail : s.ssiFail k f = some sub := by
      rw [State.ssiFail, hpar]
      rcases hsub with ⟨hr, rfl⟩ | ⟨hr, hpk, rfl⟩ | ⟨hr, hpk, ht, rfl⟩ | ⟨hr, hpk, ht, hj, rfl⟩
      · rw [hr]
        rfl
      · rw [hr, hpk]
        rfl
      · rw [hr, hpk, ht]
        rfl
      · rw [hr, hpk, ht, hjump.2 hj]
        rfl
    rw [if_neg (fun h => hnh (hhigh.1 h)), hfail] at hexec
    exact ⟨_, hexec, State.ssiStale_spec srcSsiFrame sub false hp⟩
  · rw [if_pos (hhigh.2 hh)] at hexec
    obtain ⟨hst, hw, hraised⟩ := State.ssiStale_spec (k := k) (u := u) srcFbWire 0 true hp
    refine ⟨_, hexec, hst, hw, fun q hq => ?_⟩
    obtain ⟨e, he, hes, heq, -⟩ := hraised q hq
    exact ⟨e, he, hes, heq⟩

end Sys2Proof.Machine
end

section
namespace Sys2Proof.Machine

/-! ### QUADRANT_CHANGE (R339, R345, R370) -/

/-- One of the two comparators changes, and how the quadrant moves (R370, R1074). -/
theorem signQuadrant_step (inv a₀ b₀ a b : Bool) (h : (a₀ ≠ a ∧ b₀ = b) ∨ (a₀ = a ∧ b₀ ≠ b)) :
    (signQuadrant inv a₀ b₀ + 1) % 4 = signQuadrant inv a b ↔ ¬ ((if b₀ = b then a ≠ b else a = b) ↔ inv = false) := by
  revert h
  revert inv a₀ b₀ a b
  decide

section
variable {s : State} {k : CellNo}

/-- The cell with a quadrant counted. -/
def Cell.turned (c : Cell) (d : Int) : Cell := { c with quad := c.quad.map (fun n => n + d), illegalHere := false }

theorem execQuadrantChange_of_accepted {a b : Bool} (h10 : s.afterStep10 = true) (hm : fbMode s k = 4) (hu : s.cellUsed k = true)
    (hc : ¬ (s.cell[k].a = a ∧ s.cell[k].b = b)) (hacc : s.linesAccept k (s.cell[k].abLines a b) = true) :
    execQuadrantChange k a b s = if s.cell[k].a ≠ a ∧ s.cell[k].b ≠ b then .next ((s.noted k a b).illegal k)
      else .next ((s.noted k a b).modCell k (fun c => c.turned (if (signQuadrant (decide (fbDir s k = 1)) s.cell[k].a s.cell[k].b + 1) % 4 =
        signQuadrant (decide (fbDir s k = 1)) a b then 1 else -1))) := by
  have hmu : ¬ (fbMode s k ≠ 4 ∨ s.cellUsed k = false) := by rw [hm, hu]; decide
  have hacc' : ¬ (!s.linesAccept k (s.cell[k].abLines a b)) = true := by rw [hacc]; decide
  have h10' : ¬ (!s.afterStep10) = true := by rw [h10]; decide
  rw [execQuadrantChange]
  exact (if_neg h10').trans ((if_neg (by rw [hm]; decide)).trans ((if_neg hmu).trans ((if_neg hc).trans (if_neg hacc'))))

theorem execQuadrantChange_of_rejected {a b : Bool} (h10 : s.afterStep10 = true) (hm : fbMode s k = 4) (hu : s.cellUsed k = true)
    (h : (s.cell[k].a = a ∧ s.cell[k].b = b) ∨ s.linesAccept k (s.cell[k].abLines a b) = false) : execQuadrantChange k a b s = .next s := by
  have hmu : ¬ (fbMode s k ≠ 4 ∨ s.cellUsed k = false) := by rw [hm, hu]; decide
  have h10' : ¬ (!s.afterStep10) = true := by rw [h10]; decide
  rw [execQuadrantChange]
  refine (if_neg h10').trans ((if_neg (by rw [hm]; decide)).trans ((if_neg hmu).trans ?_))
  by_cases hc : s.cell[k].a = a ∧ s.cell[k].b = b
  · exact if_pos hc
  · refine (if_neg hc).trans (if_pos ?_)
    change (!s.linesAccept k (s.cell[k].abLines a b)) = true
    rw [h.resolve_left hc]
    rfl

theorem execQuadrantChange_of_noted (a b : Bool)
    (h : s.afterStep10 = false ∨ (fbMode s k ≠ 1 ∧ fbMode s k ≠ 4) ∨ (fbMode s k = 4 ∧ s.cellUsed k = false)) :
    execQuadrantChange k a b s = .next (s.noted k a b) := by
  rw [execQuadrantChange]
  by_cases h10 : s.afterStep10 = true
  · have h10' : ¬ (!s.afterStep10) = true := by rw [h10]; decide
    have hmode : ¬ fbMode s k = 1 ∧ (fbMode s k ≠ 4 ∨ s.cellUsed k = false) := by
      rcases h with h | ⟨h1, h4⟩ | ⟨h4, hu⟩
      · rw [h10] at h
        exact absurd h (by decide)
      · exact ⟨h1, .inl h4⟩
      · exact ⟨by rw [h4]; decide, .inr hu⟩
    exact (if_neg h10').trans ((if_neg hmode.1).trans (if_pos hmode.2))
  · exact if_pos (by rw [Bool.eq_false_iff.2 h10]; rfl)

end

/-! ### SINCOS_CONVERSION (R368 to R374) -/

section
variable (s : State) (k : CellNo)

theorem State.amplitude_spec (x y : BitVec 16) :
    (s.amplitude k x y).blank [.cellAt k, .transit] = s.blank [.cellAt k, .transit] ∧ (s.amplitude k x y).cell[k].shown = s.cell[k].shown ∧
    (s.amplitude k x y).cell[k].presetNow = s.cell[k].presetNow := by
  unfold State.amplitude
  extract_lets sq lo hi out run bad s1
  have hb : s1.blank [.cellAt k, .transit] = s.blank [.cellAt k, .transit] := s.modCell_blank k (by simp) _
  have hself : s1.cell[k] = _ := s.modCell_self k _
  have hcell : s1.cell[k].shown = s.cell[k].shown ∧ s1.cell[k].presetNow = s.cell[k].presetNow := by
    rw [hself]
    exact ⟨rfl, rfl⟩
  clear_value s1
  split
  · rw [State.raiseCell_cell]
    exact ⟨(s1.raiseCell_blank k _ _ (by simp)).trans hb, hcell⟩
  · exact ⟨hb, hcell⟩

theorem State.fineAngle_lt (x y : BitVec 16) : s.fineAngle k x y < 4096 := by
  unfold State.fineAngle
  rw [BitVec.toNat_ushiftRight, Nat.shiftRight_eq_div_pow]
  exact Nat.div_lt_of_lt_mul (BitVec.isLt _)

/-- The end of a conversion from a device `u`: a conversion of a sample event is delivered. -/
def State.convEnds (u : State) : State := if s.cell[k].await.isSome then u.deliverPosition k (s.cell[k].convTime s.now) else u

theorem State.convEnds_spec {u : State} (hb : u.blank [.cellAt k, .quay, .ih, .transit, .free] = s.blank [.cellAt k, .quay, .ih, .transit, .free])
    (hp : s.cell[k].await ≠ none → u.cell[k].presetNow = none) :
    let t := s.convEnds k u
    (∀ j : CellNo, j ≠ k → t.cell[j] = s.cell[j]) ∧
    (∀ w, s.cell[k].await = some w → t.cell[k].await = none ∧ t.cell[k].sampledAt = w ∧ t.cell[k].sampled = t.cell[k].pos) ∧
    t.cell[k].pos = u.cell[k].pos ∧ t.cell[k].quad = u.cell[k].quad ∧ t.cell[k].unsure = u.cell[k].unsure ∧ u.flt.transit ⊆ t.flt.transit := by
  intro t
  have ht : t = s.convEnds k u := rfl
  clear_value t
  unfold State.convEnds at ht
  cases haw : s.cell[k].await with
  | none =>
    rw [haw, if_neg (by decide)] at ht
    rw [ht]
    exact ⟨fun j hj => State.cell_of_blank hb (by simp [hj]), nofun, rfl, rfl, rfl, List.Subset.refl _⟩
  | some w =>
    have hconv : s.cell[k].convTime s.now = w := by
      unfold Cell.convTime
      rw [haw]
      rfl
    rw [haw, hconv, Option.isSome_some, if_pos rfl] at ht
    obtain ⟨hdb, hsub, hshown⟩ := State.deliverPosition_spec (hp (by rw [haw]; exact nofun)) w
    rw [← ht] at hdb hsub hshown
    have hall := (State.blank_mono hdb (by simp) : t.blank [.cellAt k, .quay, .ih, .transit, .free] = u.blank _).trans hb
    have hpos : t.cell[k].pos = u.cell[k].pos := congrArg (fun x => x.1.1) hshown
    refine ⟨fun j hj => State.cell_of_blank hall (by simp [hj]), fun w' hw => ?_, hpos, congrArg (fun x => x.2.2.2) hshown, congrArg (fun x => x.2.1.2.2.2) hshown,
      hsub⟩
    cases hw
    exact ⟨congrArg (fun x => x.1.2.2.2) hshown, congrArg (fun x => x.1.2.2.1) hshown, (congrArg (fun x => x.1.2.1) hshown :).trans hpos.symm⟩

/-- The quadrant count before a conversion: that of the comparators, or at a restart that of the fine angle. -/
def State.quadBefore (x y : BitVec 16) : Int := s.cell[k].quad.getD ((s.fineAngle k x y / 1024 : Nat) : Int)

/-- A conversion whose quadrant gives the count `n`, with its source where the count is corrected. -/
def State.convTaken (x y : BitVec 16) (n : Int) (sync : Bool) : State :=
  let s1 := (s.amplitude k x y).modCell k (fun c => { c with quad := some n, pos := n / 4 * 4096 + s.fineAngle k x y + s.cell[k].offset })
  s.evaluatedAt k (if sync then s1.raiseCell srcSincosSync k else s1) (n / 4 * 4096 + s.fineAngle k x y + s.cell[k].offset) (s.cell[k].convTime s.now)

/-- A conversion whose quadrant is two off. -/
def State.convLost (x y : BitVec 16) : State := ((s.amplitude k x y).setUnsure k).raiseCell srcSincosLost k

/-- A conversion is evaluated: of a cell in mode 4 in use, of a sample event or later than the last one. -/
def State.converts : Prop := s.afterStep10 = true ∧ s.cellUsed k = true ∧ fbMode s k = 4 ∧
  (s.cell[k].await ≠ none ∨ ∀ e ∈ s.cell[k].evals.head?, e.1 < s.cell[k].convTime s.now)

/-- What an evaluated conversion does, by the quadrants that lie between it and the count. -/
def State.converted (x y : BitVec 16) : State :=
  let n := s.quadBefore k x y
  let diff := (((s.fineAngle k x y / 1024 : Nat) : Int) - n) % 4
  if diff = 2 then s.convEnds k (s.convLost k x y)
  else s.convEnds k (s.convTaken k x y (if diff = 1 then n + 1 else if diff = 3 then n - 1 else n) (decide (diff ≠ 0)))

theorem execSincosConversion_eq (x y : BitVec 16) [Decidable (s.converts k)] :
    execSincosConversion k x y s = if s.converts k then .next (s.converted k x y) else .next s := by
  have hguard : ((!(s.afterStep10 && s.cellUsed k && decide (fbMode s k = 4)) || ((match s.cell[k].evals.head? with
      | some (t0, _) => decide (s.cell[k].convTime s.now ≤ t0)
      | none => false) && s.cell[k].await.isNone)) = true) ↔ ¬ s.converts k := by
    rw [State.converts]
    cases s.cell[k].evals.head? with
    | none => cases s.cell[k].await <;> simp [-not_and, not_and_or, or_assoc]
    | some e => cases s.cell[k].await <;> simp [-not_and, not_and_or, or_assoc]
  unfold execSincosConversion
  dsimp only
  refine Eq.trans (if_congr hguard rfl rfl) ?_
  rw [ite_not]
  refine if_congr Iff.rfl ?_ rfl
  unfold State.converted
  extract_lets n diff
  by_cases h2 : diff = 2
  · exact (if_pos h2).trans (congrArg Host.Outcome.next (if_pos h2).symm)
  · refine (if_neg h2).trans (congrArg Host.Outcome.next (Eq.trans ?_ (if_neg h2).symm))
    unfold State.convTaken State.convEnds
    by_cases hd : diff = 0
    · rw [decide_eq_false (not_not_intro hd)]
      have hif : ∀ u v : State, (if diff = 0 then u else v) = u := fun u v => if_pos hd
      refine congrArg (fun w => if s.cell[k].await.isSome = true then State.deliverPosition (s.evaluatedAt k w _ _) k _ else s.evaluatedAt k w _ _) (hif _ _)
    · rw [decide_eq_true hd]
      have hif : ∀ u v : State, (if diff = 0 then u else v) = v := fun u v => if_neg hd
      refine congrArg (fun w => if s.cell[k].await.isSome = true then State.deliverPosition (s.evaluatedAt k w _ _) k _ else s.evaluatedAt k w _ _) (hif _ _)

/-- A source of the cell is on its way. -/
def State.cellRaised (t : State) (src : Nat) : Prop := ∀ q, s.cellQuay k = some q → ∃ e ∈ t.flt.transit, e.src = src ∧ e.quays = [q]

theorem State.raiseCell_cellRaised {u : State} (hu : u.cellQuay k = s.cellQuay k) (src : Nat) (sub : Byte) :
    s.cellRaised k (u.raiseCell src k sub) src := fun q hq => by
  rw [u.raiseCell_eq, hu, hq]
  exact ⟨_, State.raise_mem _ _, rfl, rfl⟩

theorem State.convLost_spec (x y : BitVec 16) :
    (s.convLost k x y).blank [.cellAt k, .quay, .ih, .transit, .free] = s.blank [.cellAt k, .quay, .ih, .transit, .free] ∧
    (s.convLost k x y).cell[k].pos = s.cell[k].pos ∧ (s.convLost k x y).cell[k].unsure = true ∧
    (s.convLost k x y).cell[k].presetNow = s.cell[k].presetNow ∧ s.cellRaised k (s.convLost k x y) srcSincosLost := by
  obtain ⟨hb, hshown, hpre⟩ := s.amplitude_spec k x y
  have hpos : (s.amplitude k x y).cell[k].pos = s.cell[k].pos := congrArg (fun c => c.1.1) hshown
  have hub : ((s.amplitude k x y).setUnsure k).blank [.cellAt k, .quay, .ih, .transit] = s.blank [.cellAt k, .quay, .ih, .transit] :=
    (State.setUnsure_blank _ k (by simp)).trans (State.blank_mono hb (by simp))
  have hq : ((s.amplitude k x y).setUnsure k).cellQuay k = s.cellQuay k := by
    rw [State.eq_take hub]
    rfl
  have hraised := s.raiseCell_cellRaised k hq srcSincosLost 0
  have hcell : (s.convLost k x y).cell[k] = { (s.amplitude k x y).cell[k] with unsure := true } :=
    (State.raiseCell_cell _ k _ _ k).trans (State.setUnsure_cell _ k)
  refine ⟨(State.raiseCell_blank _ k _ _ (by simp)).trans (State.blank_mono hub (by simp)), ?_, ?_, ?_, hraised⟩
  · rw [hcell, ← hpos]
  · rw [hcell]
  · rw [hcell, ← hpre]

theorem State.convTaken_spec (x y : BitVec 16) (n : Int) (sync : Bool) :
    (s.convTaken k x y n sync).blank [.cellAt k, .quay, .ih, .transit, .free] = s.blank [.cellAt k, .quay, .ih, .transit, .free] ∧
    (s.convTaken k x y n sync).cell[k].pos = n / 4 * 4096 + s.fineAngle k x y + s.cell[k].offset ∧ (s.convTaken k x y n sync).cell[k].quad = some n ∧
    (s.convTaken k x y n sync).cell[k].presetNow = s.cell[k].presetNow ∧ (sync = true → s.cellRaised k (s.convTaken k x y n sync) srcSincosSync) := by
  obtain ⟨hb, -, hpre⟩ := s.amplitude_spec k x y
  unfold State.convTaken
  extract_lets s1
  have hs1 : s1.blank [.cellAt k, .transit] = s.blank [.cellAt k, .transit] := (State.modCell_blank _ k (by simp) _).trans hb
  have hself : s1.cell[k] = _ := State.modCell_self _ k _
  have hfields : s1.cell[k].pos = n / 4 * 4096 + s.fineAngle k x y + s.cell[k].offset ∧ s1.cell[k].quad = some n ∧ s1.cell[k].presetNow = s.cell[k].presetNow := by
    rw [hself]
    exact ⟨rfl, rfl, hpre⟩
  clear_value s1
  have hq : s1.cellQuay k = s.cellQuay k := by
    rw [State.eq_take hs1]
    rfl
  have hs2 : (if sync then s1.raiseCell srcSincosSync k else s1).blank [.cellAt k, .transit] = s.blank [.cellAt k, .transit] := by
    split
    · exact (s1.raiseCell_blank k _ _ (by simp)).trans hs1
    · exact hs1
  have hcell : (if sync then s1.raiseCell srcSincosSync k else s1).cell[k] = s1.cell[k] := by
    split
    · exact s1.raiseCell_cell k _ _ k
    · rfl
  have hraised : sync = true → s.cellRaised k (if sync then s1.raiseCell srcSincosSync k else s1) srcSincosSync := fun hs => by
    rw [if_pos hs]
    exact s.raiseCell_cellRaised k hq _ _
  generalize (if sync then s1.raiseCell srcSincosSync k else s1) = u at hs2 hcell hraised
  obtain ⟨heb, hsub, hshown, hep⟩ := s.evaluatedAt_spec k u (n / 4 * 4096 + s.fineAngle k x y + s.cell[k].offset) (s.cell[k].convTime s.now)
  generalize s.evaluatedAt k u _ _ = v at heb hsub hshown hep ⊢
  rw [hcell] at hshown hep
  refine ⟨(State.blank_mono heb (by simp)).trans (State.blank_mono hs2 (by simp)), (congrArg (fun c => c.1.1) hshown :).trans hfields.1,
    (congrArg (fun c => c.2.2.2) hshown :).trans hfields.2.1, hep.trans hfields.2.2, fun hs q hsq => ?_⟩
  obtain ⟨e, he, hes⟩ := hraised hs q hsq
  exact ⟨e, hsub he, hes⟩

end

/-- A conversion by the quadrants between it and the count before it. -/
theorem State.converted_spec {s : State} {k : CellNo} (x y : BitVec 16) (hp : s.cell[k].await ≠ none → s.cell[k].presetNow = none) :
    let t := s.converted k x y
    let n := s.quadBefore k x y
    let fine : Int := s.fineAngle k x y
    let diff := (((s.fineAngle k x y / 1024 : Nat) : Int) - n) % 4
    (∀ j : CellNo, j ≠ k → t.cell[j] = s.cell[j]) ∧
    (∀ w, s.cell[k].await = some w → t.cell[k].await = none ∧ t.cell[k].sampledAt = w ∧ t.cell[k].sampled = t.cell[k].pos) ∧
    (∀ m, diff ≠ 2 → m = (if diff = 1 then n + 1 else if diff = 3 then n - 1 else n) → t.cell[k].quad = some m ∧
      t.cell[k].pos = m / 4 * 4096 + fine + s.cell[k].offset ∧ (diff ≠ 0 → s.cellRaised k t srcSincosSync)) ∧
    (diff = 2 → t.cell[k].pos = s.cell[k].pos ∧ t.cell[k].unsure = true ∧ s.cellRaised k t srcSincosLost) := by
  intro t n fine diff
  have ht : t = if diff = 2 then s.convEnds k (s.convLost k x y)
    else s.convEnds k (s.convTaken k x y (if diff = 1 then n + 1 else if diff = 3 then n - 1 else n) (decide (diff ≠ 0))) := rfl
  clear_value t
  by_cases h2 : diff = 2
  · rw [if_pos h2] at ht
    obtain ⟨hb, hpos, hun, hpre, hraised⟩ := s.convLost_spec k x y
    obtain ⟨hothers, hdel, hepos, -, heun, hsub⟩ := s.convEnds_spec k hb fun h => hpre.trans (hp h)
    rw [← ht] at hothers hdel hepos heun hsub
    refine ⟨hothers, hdel, fun m hn => absurd h2 hn, fun _ => ⟨hepos.trans hpos, heun.trans hun, fun q hq => ?_⟩⟩
    obtain ⟨e, he, hes⟩ := hraised q hq
    exact ⟨e, hsub he, hes⟩
  · rw [if_neg h2] at ht
    generalize (if diff = 1 then n + 1 else if diff = 3 then n - 1 else n) = m at ht ⊢
    obtain ⟨hb, hpos, hquad, hpre, hraised⟩ := s.convTaken_spec k x y m (decide (diff ≠ 0))
    obtain ⟨hothers, hdel, hepos, hequad, -, hsub⟩ := s.convEnds_spec k hb fun h => hpre.trans (hp h)
    rw [← ht] at hothers hdel hepos hequad hsub
    refine ⟨hothers, hdel, fun m' _ hm => ⟨?_, ?_, fun h0 q hq => ?_⟩, fun h => absurd h h2⟩
    · rw [hm]
      exact hequad.trans hquad
    · rw [hm]
      exact hepos.trans hpos
    · obtain ⟨e, he, hes⟩ := hraised (decide_eq_true h0) q hq
      exact ⟨e, hsub he, hes⟩

/-- Settles O31: comparators count quadrants, a conversion agrees, is corrected or lost. -/
theorem sineCosine : Obligations.SineCosine := by
  unfold Obligations.SineCosine
  intro lines others
  classical
  refine ⟨fun k a b s h10 hm hu hacc => ⟨fun hone => ?_, fun htwo => ?_⟩, fun k a b s h10 hm hu h => execQuadrantChange_of_rejected h10 hm hu h,
    fun k a b s h10 hm => ?_, fun k a b s h => ⟨_, execQuadrantChange_of_noted a b h, s.noted_cell k a b, s.modCell_spec k _⟩,
    fun k x y s h10 hu hm hdue hp => ?_, fun k x y s h => ?_⟩
  · have hc : ¬ (s.cell[k].a = a ∧ s.cell[k].b = b) := fun h => hone.elim (fun g => g.1 h.1) fun g => g.2 h.2
    have hn : ¬ (s.cell[k].a ≠ a ∧ s.cell[k].b ≠ b) := fun h => hone.elim (fun g => h.2 g.2) fun g => h.1 g.1
    have hexec := execQuadrantChange_of_accepted h10 hm hu hc hacc
    have hdir : (if (signQuadrant (decide (fbDir s k = 1)) s.cell[k].a s.cell[k].b + 1) % 4 = signQuadrant (decide (fbDir s k = 1)) a b then (1 : Int) else -1) =
        if (if s.cell[k].b = b then a ≠ b else a = b) ↔ fbDir s k ≠ 1 then -1 else 1 := by
      rw [← ite_not]
      refine if_congr ?_ rfl rfl
      rw [signQuadrant_step _ _ _ a b hone, not_not, decide_eq_false_iff_not]
    rw [if_neg hn, hdir] at hexec
    refine ⟨_, hexec, ?_, fun j hj => ?_, rfl⟩
    · rw [State.modCell_self, s.noted_cell k a b]
      rfl
    · rw [State.modCell_ne _ _ (Ne.symm hj)]
      exact s.modCell_ne _ (Ne.symm hj)
  · have hc : ¬ (s.cell[k].a = a ∧ s.cell[k].b = b) := fun h => htwo.1 h.1
    have hexec := execQuadrantChange_of_accepted h10 hm hu hc hacc
    rw [if_pos htwo] at hexec
    obtain ⟨hbare, hraised, hb⟩ := State.illegal_spec (s.noted_blank k a b)
    rw [s.noted_cell k a b] at hbare
    refine ⟨_, hexec, ?_⟩
    generalize (s.noted k a b).illegal k = t at hbare hraised hb
    refine ⟨(congrArg Cell.quad hbare :), (congrArg Cell.a hbare :), (congrArg Cell.b hbare :), (congrArg Cell.illegal hbare :), (congrArg Cell.unsure hbare :),
      hraised, fun j hj => State.cell_of_blank hb (by simp [hj]), ?_⟩
    exact State.eq_take (State.blank_mono hb (by simp) : t.blank [.cell, .quay, .ih, .flt, .transit] = s.blank [.cell, .quay, .ih, .flt, .transit])
  · change execQuadrantChange k a b s = _
    rw [execQuadrantChange]
    exact (if_neg (by rw [h10]; decide)).trans (if_pos hm)
  · intro fine n raises
    have hexec := (execSincosConversion_eq s k x y).trans (if_pos ⟨h10, hu, hm, hdue⟩)
    obtain ⟨hothers, hdel, htaken, hlost⟩ := State.converted_spec x y hp
    have hn : s.quadBefore k x y = n := rfl
    have hfine : s.fineAngle k x y = fine := rfl
    rw [hn, hfine] at htaken hlost
    refine ⟨s.fineAngle_lt k x y, _, hexec, hothers, hdel, fun h => ?_, fun h => ?_, fun h => ?_, fun h => hlost (by omega)⟩
    · have hd : (((fine / 1024 : Nat) : Int) - n) % 4 = 0 := by omega
      obtain ⟨hq, hpos, -⟩ := htaken n (by omega) (by rw [hd]; rfl)
      exact ⟨hq, hpos⟩
    · have hd : (((fine / 1024 : Nat) : Int) - n) % 4 = 1 := by omega
      obtain ⟨hq, hpos, hr⟩ := htaken (n + 1) (by omega) (by rw [hd]; rfl)
      exact ⟨hq, hpos, hr (by omega)⟩
    · have hd : (((fine / 1024 : Nat) : Int) - n) % 4 = 3 := by omega
      obtain ⟨hq, hpos, hr⟩ := htaken (n - 1) (by omega) (by rw [hd]; rfl)
      exact ⟨hq, hpos, hr (by omega)⟩
  · refine (execSincosConversion_eq s k x y).trans (if_neg ?_)
    rintro ⟨h10, hu, hm, hdue⟩
    rcases h with h | h | h | ⟨haw, e, he, hle⟩
    · exact absurd (h10.symm.trans h) (by decide)
    · exact absurd (hu.symm.trans h) (by decide)
    · exact h hm
    · exact Nat.not_lt.2 hle ((hdue.resolve_left fun hn => hn haw) e he)

end Sys2Proof.Machine
end

section
namespace Sys2Proof.Machine

/-! ### PROBE_EDGE (R406 to R416) -/

theorem State.cellQuay_of_primary {s : State} {q : QuayNo} {k : CellNo} (h : s.primaryCell q = some k) : s.cellQuay k = some q := by
  have hmem : k ∈ s.cellsOf q := List.mem_of_head? h
  have howner : s.ownerOf 2 k.val = .quay q := eq_of_beq (List.mem_filter.1 hmem).2
  rw [State.cellQuay, howner]

/-- The states differ in the probe of one quay, armed as it was. -/
structure Probing (q : QuayNo) (s t : State) : Prop where
  rest : t = { s with quay := t.quay }
  self : t.quay[q] = { s.quay[q] with probe := t.quay[q].probe }
  others : ∀ r : QuayNo, r ≠ q → t.quay[r] = s.quay[r]
  armed : t.quay[q].probe.armed = s.quay[q].probe.armed

namespace Probing
variable {q : QuayNo} {s t u : State}

theorem refl (q : QuayNo) (s : State) : Probing q s s := ⟨rfl, rfl, fun _ _ => rfl, rfl⟩

theorem trans (h : Probing q s t) (g : Probing q t u) : Probing q s u where
  rest := by
    have hg := g.rest
    rw [h.rest] at hg
    exact hg
  self := g.self.trans (by rw [h.self])
  others r hr := (g.others r hr).trans (h.others r hr)
  armed := g.armed.trans h.armed

/-- A change of the probe. -/
theorem modProbe (q : QuayNo) (s : State) (f : Probe → Probe) (hf : ∀ x, (f x).armed = x.armed) : Probing q s (s.modQuay q (fun x => { x with probe := f x.probe })) where
  rest := rfl
  self := by
    rw [State.modQuay_self]
  others r hr := State.modQuay_ne s _ (Ne.symm hr)
  armed := by
    rw [State.modQuay_self]
    exact hf _

theorem forAll {α : Type} {xs : List α} {f : State → α → State} (h : ∀ t x, Probing q t (f t x)) : Probing q s (Machine.forAll xs s f) :=
  forAll_keeps (P := fun t => Probing q s t) (refl q s) fun t ht x _ => ht.trans (h t x)

end Probing

/-- The probe with a capture stored. -/
def Probe.stored (p : Probe) (t : Nat) (falling : Bool) (pos : Int) (frac : Nat) : Probe :=
  { p with captured := true, falling := falling, time := t, pos := pos, frac := BitVec.ofNat 16 frac, count := p.count + 1 }

/-- The probe with a rational capture stored. -/
def Probe.storedRat (p : Probe) (t : Nat) (falling : Bool) (x : Rat) : Probe := p.stored t falling x.floor ((x - x.floor) * 65536).floor.toNat

section
variable (s : State) (q : QuayNo)

theorem State.probeStore_probing (t : Nat) (falling : Bool) (pos : Int) (frac : Nat) : Probing q s (s.probeStore q t falling pos frac) :=
  Probing.modProbe q s (fun p => p.stored t falling pos frac) fun _ => rfl

theorem State.probeSettle_probing : Probing q s (s.probeSettle q) := by
  unfold State.probeSettle
  split
  · exact Probing.refl q s
  · split
    · exact Probing.refl q s
    · exact (Probing.forAll fun t (e : Nat × Bool) => t.probeStore_probing q e.1 e.2 _ _).trans (Probing.modProbe q _ (fun p => { p with waiting := p.waiting.filter _ }) fun _ => rfl)

theorem State.probeResolve_probing {k : CellNo} (hp : s.cellQuay k = some q) : Probing q s (s.probeResolve k) := by
  unfold State.probeResolve
  split
  next q' t1 p1 hq' _ =>
    have hqq : q' = q := Option.some.inj (hq'.symm.trans hp)
    subst hqq
    split
    · exact Probing.refl q' s
    · exact (Probing.forAll fun t (e : Nat × Bool) => t.probeStore_probing q' e.1 e.2 _ _).trans (Probing.modProbe q' _ (fun p => { p with waiting := p.waiting.filter _ }) fun _ => rfl)
  · exact Probing.refl q s

end

section
variable {s : State} {q : QuayNo} {k : CellNo} {e : Nat × Bool}

/-- The one waiting edge of a probe before its counting cell is settled: it goes on waiting. -/
theorem State.probeSettle_of_waits (hp : s.primaryCell q = some k) (h3 : fbMode s k ≠ 3) (h4 : fbMode s k ≠ 4) (hw : s.quay[q].probe.waiting = [e])
    (hn : s.now < e.1 + 16 * fbFilter s k) : (s.probeSettle q).quay[q].probe = s.quay[q].probe := by
  have hdue : decide (e.1 + 16 * fbFilter s k ≤ s.now) = false := decide_eq_false (Nat.not_le.2 hn)
  unfold State.probeSettle
  rw [hp]
  dsimp only
  rw [if_neg (by tauto), hw, List.filter_cons_of_neg (by rw [hdue]; decide), List.filter_nil]
  change ((s.modQuay q _).quay[q]).probe = _
  rw [State.modQuay_self]
  dsimp only
  rw [hw, List.filter_cons_of_pos (by rw [hdue]; decide), List.filter_nil, ← hw]

/-- The one waiting edge of a probe that its counting cell has settled: it is captured. -/
theorem State.probeSettle_of_due (hp : s.primaryCell q = some k) (h3 : fbMode s k ≠ 3) (h4 : fbMode s k ≠ 4) (hw : s.quay[q].probe.waiting = [e])
    (hn : e.1 + 16 * fbFilter s k ≤ s.now) :
    (s.probeSettle q).quay[q].probe = { s.quay[q].probe.storedRat e.1 e.2 ((s.cell[k].heldAt e.1).probed e.1) with waiting := [] } := by
  have hdue : decide (e.1 + 16 * fbFilter s k ≤ s.now) = true := decide_eq_true hn
  unfold State.probeSettle
  rw [hp]
  dsimp only
  rw [if_neg (by tauto), hw, List.filter_cons_of_pos (p := fun e : Nat × Bool => decide (e.1 + 16 * fbFilter s k ≤ s.now)) hdue, List.filter_nil, forAll_cons]
  change (((s.probeStoreRat q e.1 e.2 ((s.cell[k].heldAt e.1).probed e.1)).modQuay q _).quay[q]).probe = _
  rw [State.modQuay_self]
  unfold State.probeStoreRat State.probeStore
  rw [State.modQuay_self]
  dsimp only
  rw [hw, List.filter_cons_of_neg (by rw [hdue]; decide), List.filter_nil]
  rfl

/-- The one waiting edge of a probe whose cell has no evaluation from its time on. -/
theorem State.probeResolve_of_waits (hp : s.primaryCell q = some k) (hw : s.quay[q].probe.waiting = [e]) (he : ∀ v ∈ s.cell[k].evals.head?, v.1 < e.1) :
    (s.probeResolve k).quay[q].probe = s.quay[q].probe := by
  unfold State.probeResolve
  rw [State.cellQuay_of_primary hp]
  cases hv : s.cell[k].evals.head? with
  | none => rfl
  | some v =>
    have hlate : v.1 < e.1 := he v hv
    dsimp only
    rw [if_neg (fun h => h hp), hw, List.filter_cons_of_neg (by simpa using hlate), List.filter_nil]
    change ((s.modQuay q _).quay[q]).probe = _
    rw [State.modQuay_self]
    dsimp only
    rw [hw, List.filter_cons_of_pos (by simpa using hlate), List.filter_nil, ← hw]

/-- The one waiting edge of a probe whose cell has an evaluation from its time on. -/
theorem State.probeResolve_of_due {v : Nat × Int} (hp : s.primaryCell q = some k) (hw : s.quay[q].probe.waiting = [e]) (hv : s.cell[k].evals.head? = some v)
    (he : e.1 ≤ v.1) : (s.probeResolve k).quay[q].probe =
      { s.quay[q].probe.storedRat e.1 e.2 (bracket (Config.freeInt s.free) e.1 s.cell[k].evals) with waiting := [] } := by
  unfold State.probeResolve
  rw [State.cellQuay_of_primary hp, hv]
  dsimp only
  rw [if_neg (fun h => h hp), hw, List.filter_cons_of_pos (by simpa using he), List.filter_nil, forAll_cons]
  change (((s.probeStoreRat q e.1 e.2 _).modQuay q _).quay[q]).probe = _
  rw [State.modQuay_self]
  unfold State.probeStoreRat State.probeStore
  rw [State.modQuay_self]
  dsimp only
  rw [hw, List.filter_cons_of_neg (by simpa using he), List.filter_nil]
  rfl

end

/-! ### The fraction of a probed position (R409, R413) -/

theorem floor_add_frac (n : Int) {f : Nat} (hf : f < 65536) : ((n : Rat) + (f : Rat) / 65536).floor = n := by
  change ⌊(n : Rat) + (f : Rat) / 65536⌋ = n
  have hf' : (f : Rat) < 65536 := by exact_mod_cast hf
  have h0 : (0 : Rat) ≤ f := by positivity
  rw [Int.floor_eq_iff]
  constructor
  · have : 0 ≤ (f : Rat) / 65536 := by positivity
    linarith
  · have : (f : Rat) / 65536 < 1 := by rw [div_lt_one (by norm_num)]; exact hf'
    linarith

theorem Probe.storedRat_eq (p : Probe) (t : Nat) (falling : Bool) (n : Int) {f : Nat} (hf : f < 65536) {x : Rat} (hx : x = n + f / 65536) :
    p.storedRat t falling x = p.stored t falling n f := by
  have hfrac : ((x - x.floor) * 65536).floor.toNat = f := by
    have hmul : (x - (n : Rat)) * 65536 = ((f : Int) : Rat) := by
      rw [hx]
      push_cast
      ring
    have hfloor : x.floor = n := by
      rw [hx]
      exact floor_add_frac n hf
    rw [hfloor, hmul, Rat.floor_intCast]
    rfl
  rw [Probe.storedRat, hfrac, hx, floor_add_frac n hf]

/-- The fraction of the edge period that has passed (R409). -/
def HeldCount.frac (h : HeldCount) (t : Nat) : Nat :=
  match h.period with
  | some p => if !h.moving || p == 0 then 0 else min 65535 (65536 * (t - h.lastEdge) / p)
  | none => 0

theorem HeldCount.probed_eq (h : HeldCount) (t : Nat) : h.probed t = (h.pos : Rat) + (h.lastDir : Rat) * (h.frac t : Rat) / 65536 := rfl

theorem HeldCount.frac_of_still {h : HeldCount} (t : Nat) (hh : h.moving = false ∨ h.period = none ∨ h.period = some 0) : h.frac t = 0 := by
  unfold HeldCount.frac
  split
  next p hp =>
    rcases hh with hm | hn | h0
    · rw [hm]
      rfl
    · exact nomatch hp.symm.trans hn
    · cases hp.symm.trans h0
      rw [beq_self_eq_true, Bool.or_true]
      rfl
  · rfl

theorem HeldCount.frac_of_moving {h : HeldCount} {T : Nat} (t : Nat) (hm : h.moving = true) (hp : h.period = some T) (hT : 0 < T) :
    h.frac t = min 65535 (65536 * (t - h.lastEdge) / T) := by
  unfold HeldCount.frac
  rw [hp]
  refine if_neg ?_
  rw [hm, beq_false_of_ne (Nat.ne_of_gt hT)]
  decide

end Sys2Proof.Machine
end

section
namespace Sys2Proof.Machine

/-! ### PROBE_EDGE, by what captures the position -/

/-- An edge that the probe of a quay selects (R406 to R408). -/
def State.probeSelects (s : State) (q : QuayNo) (rising : Bool) : Prop :=
  s.afterStep10 = true ∧ s.probeWired q = true ∧ quayProbeMode s q ≠ 0 ∧ (s.quay[q].probe.armed = true ∨ quayProbeMode s q = 2) ∧
    (if rising = true then quayProbeEdge s q % 2 = 1 else 2 ≤ quayProbeEdge s q)

/-- The device with a probe disarmed. -/
def State.disarmed (s : State) (q : QuayNo) : State := s.modQuay q (fun y => { y with probe := { y.probe with armed := false } })

/-- The device with a probe disarmed and an edge waiting for its cell. -/
def State.probeWaits (s : State) (q : QuayNo) (e : Nat × Bool) : State :=
  s.modQuay q (fun y => { y with probe := { y.probe with armed := false, waiting := y.probe.waiting ++ [e] } })

/-- The time of an edge that comes now through a probe's filter. -/
def State.probeTime (s : State) (q : QuayNo) : Nat := (s.now - 16 * quayProbeFilter s q) / 16 * 16

/-- What a selected edge does. -/
def State.probed (s : State) (q : QuayNo) (rising : Bool) : State :=
  match s.primaryCell q with
  | none =>
    if s.isStepper q then (s.disarmed q).probeStore q (s.probeTime q) (!rising) (s.quay[q].kern.step.mAt (s.probeTime q)) 0
    else if s.isPulse q then (s.disarmed q).probeStore q (s.probeTime q) (!rising) (s.quay[q].pulse.emittedAt (s.probeTime q)) 0
    else (s.disarmed q).drawn.probeStore q (s.probeTime q) (!rising) (Config.freeInt s.free) 0
  | some k =>
    if fbMode s k = 3 ∨ fbMode s k = 4 then (s.probeWaits q (s.probeTime q, !rising)).probeResolve k
    else (s.probeWaits q (s.probeTime q, !rising)).probeSettle q

theorem execProbeEdge_eq (q : QuayNo) (rising : Bool) (s : State) [Decidable (s.probeSelects q rising)] :
    execProbeEdge q rising s = if s.probeSelects q rising then .next (s.probed q rising) else .next s := by
  have hwaits : ∀ e, (s.disarmed q).modQuay q (fun y => { y with probe := { y.probe with waiting := y.probe.waiting ++ [e] } }) = s.probeWaits q e := fun e => by
    unfold State.disarmed State.probeWaits State.modQuay
    rw [vmod_vmod]
  unfold execProbeEdge State.probed
  dsimp only
  refine if_congr ?_ ?_ rfl
  · simp only [State.probeSelects, Bool.and_eq_true, Bool.or_eq_true, decide_eq_true_eq, and_assoc]
    exact ⟨fun ⟨h10, hw, hm, he, ha⟩ => ⟨h10, hw, hm, ha, he⟩, fun ⟨h10, hw, hm, ha, he⟩ => ⟨h10, hw, hm, he, ha⟩⟩
  · cases s.primaryCell q with
    | none =>
      dsimp only
      rw [apply_ite Host.Outcome.next, apply_ite Host.Outcome.next]
      rfl
    | some k =>
      exact congrArg (fun u => Host.Outcome.next (if fbMode s k = 3 ∨ fbMode s k = 4 then State.probeResolve u k else State.probeSettle u q)) (hwaits _)

section
variable (s : State) (q : QuayNo)

/-- A probe's captures change its quay's probe alone, and the counter of free values. -/
theorem Probing.only {s u t : State} {q : QuayNo} {p : Probe} (h : Probing q u t) (hself : u.quay[q] = { s.quay[q] with probe := p })
    (hothers : ∀ r : QuayNo, r ≠ q → u.quay[r] = s.quay[r]) (hu : u = { s with quay := u.quay, free := u.free }) :
    t.quay[q] = { s.quay[q] with probe := t.quay[q].probe } ∧ (∀ r : QuayNo, r ≠ q → t.quay[r] = s.quay[r]) ∧
      t = { s with quay := t.quay, free := t.free } ∧ t.free = u.free := by
  have hrest := h.rest
  refine ⟨h.self.trans (by rw [hself]), fun r hr => (h.others r hr).trans (hothers r hr), ?_, ?_⟩
  · rw [hu] at hrest
    rw [hrest]
  · rw [hrest]

theorem State.probeWaits_quay (e : Nat × Bool) :
    (s.probeWaits q e).quay[q] = { s.quay[q] with probe := { s.quay[q].probe with armed := false, waiting := s.quay[q].probe.waiting ++ [e] } } :=
  s.modQuay_self q _

theorem State.disarmed_quay : (s.disarmed q).quay[q] = { s.quay[q] with probe := { s.quay[q].probe with armed := false } } := s.modQuay_self q _

/-- The probe with an edge captured. -/
def Probe.captures (p : Probe) (t : Nat) (rising : Bool) (pos : Int) (frac : Nat) : Probe :=
  { p with captured := true, armed := false, falling := !rising, time := t, pos := pos, frac := BitVec.ofNat 16 frac, count := p.count + 1 }

end

section
variable {s : State} {q : QuayNo} {k : CellNo} {rising : Bool}

theorem State.probed_of_none (h : s.primaryCell q = none) :
    ∃ p, (s.isStepper q = true → p = s.quay[q].kern.step.mAt (s.probeTime q)) ∧
      (s.isStepper q = false → s.isPulse q = true → p = s.quay[q].pulse.emittedAt (s.probeTime q)) ∧
      (s.probed q rising).quay[q].probe = s.quay[q].probe.captures (s.probeTime q) rising p 0 ∧
      ((s.probed q rising).quay[q] = { s.quay[q] with probe := (s.probed q rising).quay[q].probe } ∧
        (∀ r : QuayNo, r ≠ q → (s.probed q rising).quay[r] = s.quay[r]) ∧
        s.probed q rising = { s with quay := (s.probed q rising).quay, free := (s.probed q rising).free }) := by
  have hstore : ∀ (u : State) (p : Int), u.quay = (s.disarmed q).quay → u = { s with quay := u.quay, free := u.free } →
      (u.probeStore q (s.probeTime q) (!rising) p 0).quay[q].probe = s.quay[q].probe.captures (s.probeTime q) rising p 0 ∧
      ((u.probeStore q (s.probeTime q) (!rising) p 0).quay[q] = { s.quay[q] with probe := (u.probeStore q (s.probeTime q) (!rising) p 0).quay[q].probe } ∧
        (∀ r : QuayNo, r ≠ q → (u.probeStore q (s.probeTime q) (!rising) p 0).quay[r] = s.quay[r]) ∧
        u.probeStore q (s.probeTime q) (!rising) p 0 =
          { s with quay := (u.probeStore q (s.probeTime q) (!rising) p 0).quay, free := (u.probeStore q (s.probeTime q) (!rising) p 0).free }) := by
    intro u p hquay hu
    have hself : u.quay[q] = _ := (by rw [hquay] : u.quay[q] = (s.disarmed q).quay[q]).trans (s.disarmed_quay q)
    have hothers : ∀ r : QuayNo, r ≠ q → u.quay[r] = s.quay[r] := fun r hr => by
      rw [hquay]
      exact s.modQuay_ne _ (Ne.symm hr)
    obtain ⟨h1, h2, h3, -⟩ := (u.probeStore_probing q (s.probeTime q) (!rising) p 0).only hself hothers hu
    refine ⟨?_, h1, h2, h3⟩
    unfold State.probeStore
    rw [State.modQuay_self, hself]
    rfl
  unfold State.probed
  rw [h]
  dsimp only
  by_cases hs : s.isStepper q = true
  · rw [if_pos hs]
    exact ⟨_, fun _ => rfl, fun hn => absurd (hs.symm.trans hn) (by decide), hstore _ _ rfl rfl⟩
  · rw [if_neg hs]
    by_cases hp : s.isPulse q = true
    · rw [if_pos hp]
      exact ⟨_, fun hn => absurd hn hs, fun _ _ => rfl, hstore _ _ rfl rfl⟩
    · rw [if_neg hp]
      exact ⟨_, fun hn => absurd hn hs, fun _ hn => absurd hn hp, hstore _ _ rfl rfl⟩

theorem State.probed_of_cell (h : s.primaryCell q = some k) :
    (s.probed q rising).quay[q] = { s.quay[q] with probe := (s.probed q rising).quay[q].probe } ∧
    (∀ r : QuayNo, r ≠ q → (s.probed q rising).quay[r] = s.quay[r]) ∧
    s.probed q rising = { s with quay := (s.probed q rising).quay, free := (s.probed q rising).free } ∧ (s.probed q rising).free = s.free ∧
    (s.probed q rising).quay[q].probe.armed = false := by
  have hcq : (s.probeWaits q (s.probeTime q, !rising)).cellQuay k = some q := State.cellQuay_of_primary h
  have hpr : Probing q (s.probeWaits q (s.probeTime q, !rising)) (s.probed q rising) := by
    unfold State.probed
    rw [h]
    dsimp only
    split
    · exact State.probeResolve_probing _ q hcq
    · exact State.probeSettle_probing _ q
  obtain ⟨h1, h2, h3, h4⟩ := hpr.only (s.probeWaits_quay q _) (fun r hr => s.modQuay_ne _ (Ne.symm hr)) rfl
  refine ⟨h1, h2, h3, h4, hpr.armed.trans ?_⟩
  rw [State.probeWaits_quay]

/-- What a counting cell holds that has seen no edge from a time on. -/
theorem Cell.heldAt_of_seen {c : Cell} {t : Nat} (h : ∀ x ∈ c.held, x.until_ ≤ t) : c.heldAt t =
    { until_ := t + 1, pos := c.pos, lastEdge := c.lastEdge, lastDir := c.lastDir, period := c.period, moving := !c.still && !c.provisional } := by
  have hnone : c.held.find? (fun x => decide (t < x.until_)) = none :=
    List.find?_eq_none.2 fun x hx => by rw [decide_eq_true_eq]; exact Nat.not_lt.2 (h x hx)
  rw [Cell.heldAt, hnone]
  rfl

/-- A counting cell whose filter still runs at an edge leaves it waiting. -/
theorem State.probed_of_waiting (h : s.primaryCell q = some k) (h3 : fbMode s k ≠ 3) (h4 : fbMode s k ≠ 4) (hw : s.quay[q].probe.waiting = [])
    (hn : s.now < s.probeTime q + 16 * fbFilter s k) :
    (s.probed q rising).quay[q].probe = { s.quay[q].probe with armed := false, waiting := [(s.probeTime q, !rising)] } := by
  have hself := s.probeWaits_quay q (s.probeTime q, !rising)
  rw [hw, List.nil_append] at hself
  unfold State.probed
  rw [h]
  dsimp only
  rw [if_neg (by tauto), State.probeSettle_of_waits (s := s.probeWaits q (s.probeTime q, !rising)) (k := k) (e := (s.probeTime q, !rising)) h h3 h4
    (by rw [hself]) hn, hself]

/-- A counting cell whose filter has let every edge through gives the position it held. -/
theorem State.probed_of_settled (h : s.primaryCell q = some k) (h3 : fbMode s k ≠ 3) (h4 : fbMode s k ≠ 4) (hw : s.quay[q].probe.waiting = [])
    (hn : s.probeTime q + 16 * fbFilter s k ≤ s.now) (n : Int) {f : Nat} (hf : f < 65536)
    (hx : (s.cell[k].heldAt (s.probeTime q)).probed (s.probeTime q) = n + f / 65536) :
    (s.probed q rising).quay[q].probe = s.quay[q].probe.captures (s.probeTime q) rising n f := by
  have hself := s.probeWaits_quay q (s.probeTime q, !rising)
  rw [hw, List.nil_append] at hself
  unfold State.probed
  rw [h]
  dsimp only
  rw [if_neg (by tauto), State.probeSettle_of_due (s := s.probeWaits q (s.probeTime q, !rising)) (k := k) (e := (s.probeTime q, !rising)) h h3 h4
    (by rw [hself]) hn, hself]
  have hcell : (s.probeWaits q (s.probeTime q, !rising)).cell = s.cell := rfl
  dsimp only
  simp only [hcell]
  rw [Probe.storedRat_eq _ _ _ n hf hx]
  unfold Probe.stored Probe.captures
  rw [← hw]

end

/-- Settles the part of O32 about an edge that a counting cell captures. -/
theorem probeEdge_counting {s : State} {q : QuayNo} {k : CellNo} {rising : Bool} (h : s.primaryCell q = some k) (h3 : fbMode s k ≠ 3) (h4 : fbMode s k ≠ 4)
    (hw : s.quay[q].probe.waiting = []) (hn : s.probeTime q + 16 * fbFilter s k ≤ s.now) :
    let h := s.cell[k].heldAt (s.probeTime q)
    let t := s.probed q rising
    (h.moving = false ∨ h.period = none ∨ h.period = some 0 → t.quay[q].probe = s.quay[q].probe.captures (s.probeTime q) rising h.pos 0) ∧
    (∀ T, h.moving = true → h.period = some T → 0 < T →
      let f : Nat := min 65535 (65536 * (s.probeTime q - h.lastEdge) / T)
      (h.lastDir = 1 → t.quay[q].probe = s.quay[q].probe.captures (s.probeTime q) rising h.pos f) ∧
      (h.lastDir = -1 → 0 < f → t.quay[q].probe = s.quay[q].probe.captures (s.probeTime q) rising (h.pos - 1) (65536 - f)) ∧
      (h.lastDir = -1 → f = 0 → t.quay[q].probe = s.quay[q].probe.captures (s.probeTime q) rising h.pos 0)) := by
  intro c t
  have hsettled := fun n f hf hx => State.probed_of_settled (rising := rising) h h3 h4 hw hn n (f := f) hf hx
  have hc := c.probed_eq (s.probeTime q)
  refine ⟨fun hst => hsettled _ 0 (by decide) ?_, fun T hm hp hT => ?_⟩
  · rw [HeldCount.frac_of_still _ hst] at hc
    refine hc.trans ?_
    push_cast
    ring
  · intro f
    have hf : f < 65536 := Nat.lt_of_le_of_lt (Nat.min_le_left _ _) (by decide)
    rw [HeldCount.frac_of_moving _ hm hp hT] at hc
    have hc' : c.probed (s.probeTime q) = (c.pos : Rat) + (c.lastDir : Rat) * (f : Rat) / 65536 := hc
    refine ⟨fun h1 => hsettled _ f hf ?_, fun h1 h0 => hsettled _ (65536 - f) (by omega) ?_, fun h1 h0 => hsettled _ 0 (by decide) ?_⟩
    · refine hc'.trans ?_
      rw [h1]
      push_cast
      ring
    · refine hc'.trans ?_
      rw [h1, Nat.cast_sub (Nat.le_of_lt hf)]
      push_cast
      ring
    · refine hc'.trans ?_
      rw [h1, h0]
      push_cast
      ring

end Sys2Proof.Machine
end

section
namespace Sys2Proof.Machine

/-! ### SD_VALUE_READY and SD_OVERRANGE (R451 to R456) -/

theorem State.modQuay_fixed (s : State) (q : QuayNo) {f : Quay → Quay} (h : f s.quay[q] = s.quay[q]) : s.modQuay q f = s := by
  refine congrArg (fun v => ({ s with quay := v } : State)) (Vector.ext fun j hj => ?_)
  have hget : (vmod s.quay q f)[(⟨j, hj⟩ : QuayNo)] = s.quay[(⟨j, hj⟩ : QuayNo)] := by
    rw [vmod_get]
    split
    next e =>
      cases e
      exact h
    · rfl
  exact hget

theorem lookup_setKey {α β : Type} [DecidableEq α] (xs : List (α × β)) (k : α) (v : β) : (setKey xs k v).lookup k = some v := by
  rw [setKey, List.lookup_cons, beq_self_eq_true]

section
variable {s : State} {n : Fin 16} {bits : List Bool}

/-- The input with a value of a window taken. -/
def State.sdTaken (s : State) (n : Fin 16) (bits : List Bool) (u : Nat) : State :=
  s.modSd n (fun y => { y with raw := sinc3 (devSdDecim s n.val) bits, value := s.sdConvert n (sinc3 (devSdDecim s n.val) bits), at_ := u, await := none })

theorem execSdValueReady_of_due {q : QuayNo} {u : Nat} (h10 : s.afterStep10 = true) (hclk : devSdClock s n.val ≠ 255)
    (hlen : bits.length = 3 * devSdDecim s n.val - 2) (ho : s.ownerOf 3 n.val = .quay q) (hu : s.sd[n].await = some u) (hn : s.sd[n].last ≤ s.now) :
    execSdValueReady n bits s = .next (if s.quay[q].form.time = u then (s.sdTaken n bits u).inputArrived q (.sd n)
      (fun x => { x with sdv := setKey x.sdv n.val (s.sdConvert n (sinc3 (devSdDecim s n.val) bits)) }) else s.sdTaken n bits u) := by
  unfold execSdValueReady
  refine (if_pos (by rw [h10, decide_eq_true hclk, decide_eq_true hlen]; rfl)).trans ?_
  dsimp only
  rw [ho, hu]
  exact if_neg (Nat.not_lt.2 hn)

theorem execSdValueReady_idle (h : s.afterStep10 = false ∨ devSdClock s n.val = 255 ∨ bits.length ≠ 3 * devSdDecim s n.val - 2 ∨
    s.ownerOf 3 n.val = .unassigned ∨ (∃ q, s.ownerOf 3 n.val = .quay q ∧ ∀ u, s.sd[n].await = some u → s.now < s.sd[n].last)) :
    execSdValueReady n bits s = .next s := by
  unfold execSdValueReady
  by_cases hc : (s.afterStep10 && decide (devSdClock s n.val ≠ 255) && decide (bits.length = 3 * devSdDecim s n.val - 2)) = true
  · refine (if_pos hc).trans ?_
    rw [Bool.and_eq_true, Bool.and_eq_true, decide_eq_true_eq, decide_eq_true_eq] at hc
    obtain ⟨⟨h10, hclk⟩, hlen⟩ := hc
    rcases h with h | h | h | h | ⟨q, h, hq⟩
    · exact absurd (h10.symm.trans h) (by decide)
    · exact absurd h hclk
    · exact absurd hlen h
    · dsimp only
      rw [h]
    · dsimp only
      rw [h]
      cases hu : s.sd[n].await with
      | none => rfl
      | some u => exact if_pos (hq u hu)
  · exact if_neg hc

/-- Settles the part of O32 about the value of a window. -/
theorem sdValueReady_delivers {q : QuayNo} {u : Nat} (h10 : s.afterStep10 = true) (hclk : devSdClock s n.val ≠ 255)
    (hlen : bits.length = 3 * devSdDecim s n.val - 2) (ho : s.ownerOf 3 n.val = .quay q) (hu : s.sd[n].await = some u) (hn : s.sd[n].last ≤ s.now) :
    let r : Int := sinc3 (devSdDecim s n.val) bits
    ∃ t, exec (.sdValueReady n bits) s = .next t ∧
      t.sd[n] = { s.sd[n] with
        value := (2 * (r : Rat) / (devSdDecim s n.val : Rat) ^ 3 - 1) * devSdGain s n.val - devSdOffset s n.val, raw := r, at_ := u, await := none } ∧
      (s.quay[q].form.time = u → s.quay[q].form.isOpen = true →
        t.quay[q].form.missing = s.quay[q].form.missing.filter (· != .sd n) ∧ t.quay[q].form.sdv.lookup n.val = some t.sd[n].value) ∧
      (s.quay[q].form.time ≠ u ∨ s.quay[q].form.isOpen = false → t.quay = s.quay) ∧
      t.quay[q] = { s.quay[q] with form := t.quay[q].form } ∧ (∀ r : QuayNo, r ≠ q → t.quay[r] = s.quay[r]) ∧
      (∀ m : Fin 16, m ≠ n → t.sd[m] = s.sd[m]) ∧ t = { s with sd := t.sd, quay := t.quay } := by
  intro r
  have hvalue : s.sdConvert n r = (2 * (r : Rat) / (devSdDecim s n.val : Rat) ^ 3 - 1) * devSdGain s n.val - devSdOffset s n.val := by
    rw [State.sdConvert, pow_succ, pow_two]
  have hself : (s.sdTaken n bits u).sd[n] = _ := s.modSd_self n _
  have hsd : ∀ m : Fin 16, m ≠ n → (s.sdTaken n bits u).sd[m] = s.sd[m] := fun m hm => s.modSd_ne _ (Ne.symm hm)
  refine ⟨_, execSdValueReady_of_due h10 hclk hlen ho hu hn, ?_⟩
  by_cases ht : s.quay[q].form.time = u
  · rw [if_pos ht]
    unfold State.inputArrived
    have hq := (s.sdTaken n bits u).modQuay_self q (fun x => if x.form.isOpen then { x with form :=
      { x.form with missing := x.form.missing.filter (· != .sd n), sdv := setKey x.form.sdv n.val (s.sdConvert n r) } } else x)
    have hne : ∀ p : QuayNo, p ≠ q → ((s.sdTaken n bits u).modQuay q (fun x => if x.form.isOpen then { x with form :=
      { x.form with missing := x.form.missing.filter (· != .sd n), sdv := setKey x.form.sdv n.val (s.sdConvert n r) } } else x)).quay[p] = s.quay[p] :=
      fun p hp => State.modQuay_ne _ _ (Ne.symm hp)
    have hquay : (s.sdTaken n bits u).quay = s.quay := rfl
    have hclosed : s.quay[q].form.isOpen = false → ((s.sdTaken n bits u).modQuay q (fun x => if x.form.isOpen then { x with form :=
      { x.form with missing := x.form.missing.filter (· != .sd n), sdv := setKey x.form.sdv n.val (s.sdConvert n r) } } else x)) = s.sdTaken n bits u :=
      fun hcl => State.modQuay_fixed _ q (if_neg (by rw [hquay, hcl]; decide))
    refine ⟨hself.trans (by rw [← hvalue]), fun _ hopen => ?_, fun hcl => ?_, ?_, hne, hsd, rfl⟩
    · have hq' := hq.trans (if_pos hopen)
      refine ⟨(congrArg (fun x => x.form.missing) hq' :), ?_⟩
      refine (congrArg (fun x => x.form.sdv.lookup n.val) hq' :).trans ?_
      refine (lookup_setKey _ _ _).trans ?_
      exact (congrArg (fun y => some y.value) hself :).symm
    · exact (congrArg State.quay (hclosed (hcl.resolve_left fun h => h ht)) :).trans hquay
    · refine hq.trans ?_
      cases ho : s.quay[q].form.isOpen with
      | true =>
        have hq' := hq.trans (if_pos ho)
        refine (if_pos ho).trans ?_
        rw [show _ = _ from hq']
        rfl
      | false =>
        rw [hclosed ho]
        exact if_neg (by rw [hquay, ho]; decide)
  · rw [if_neg ht]
    exact ⟨hself.trans (by rw [← hvalue]), fun h => absurd h ht, fun _ => rfl, rfl, fun _ _ => rfl, hsd, rfl⟩

end

theorem execSdOverrange_eq (n : Fin 16) (s : State) : execSdOverrange n s =
    if s.afterStep10 = true ∧ devSdClock s n.val ≠ 255 ∧ s.ownerOf 3 n.val ≠ .unassigned then
      .next ((s.modSd n (fun y => { y with ovr := true })).raiseFor (s.sdQuay n) srcSdOverrange (instCtx n.val))
    else .next s := by
  unfold execSdOverrange
  refine if_congr ?_ ?_ rfl
  · rw [Bool.and_eq_true, Bool.and_eq_true, decide_eq_true_eq, bne_iff_ne, and_assoc]
  · cases s.sdQuay n <;> rfl

/-- Settles the part of O32 about an over-range. -/
theorem sdOverrange_raises {n : Fin 16} {s : State} (h : s.afterStep10 = true ∧ devSdClock s n.val ≠ 255 ∧ s.ownerOf 3 n.val ≠ .unassigned) :
    ∃ t, exec (.sdOverrange n) s = .next t ∧ t.sd[n] = { s.sd[n] with ovr := true } ∧ (∀ m : Fin 16, m ≠ n → t.sd[m] = s.sd[m]) ∧
      (∀ q, s.ownerOf 3 n.val = .quay q → Raised s t srcSdOverrange (BitVec.ofNat 8 q.val)) ∧ t = { s with sd := t.sd, flt := t.flt } := by
  obtain ⟨hraised, -, hrest⟩ := State.raiseFor_spec s (s.modSd n (fun y => { y with ovr := true })) (s.sdQuay n) srcSdOverrange (instCtx n.val) rfl rfl
  refine ⟨_, (execSdOverrange_eq n s).trans (if_pos h), ?_⟩
  generalize (s.modSd n (fun y => { y with ovr := true })).raiseFor (s.sdQuay n) srcSdOverrange (instCtx n.val) = t at hraised hrest ⊢
  have hsd : t.sd = (s.modSd n (fun y => { y with ovr := true })).sd := (congrArg State.sd hrest :)
  refine ⟨?_, fun m hm => ?_, fun q hq => hraised q ?_, ?_⟩
  · rw [hsd]
    exact s.modSd_self n _
  · rw [hsd]
    exact s.modSd_ne _ (Ne.symm hm)
  · rw [State.sdQuay, hq]
  · rw [hsd]
    exact hrest

theorem sdOverrange_idle {n : Fin 16} {s : State} (h : s.afterStep10 = false ∨ devSdClock s n.val = 255 ∨ s.ownerOf 3 n.val = .unassigned) :
    exec (.sdOverrange n) s = .next s := by
  refine (execSdOverrange_eq n s).trans (if_neg ?_)
  rintro ⟨h10, hclk, ho⟩
  rcases h with h | h | h
  · exact absurd (h10.symm.trans h) (by decide)
  · exact hclk h
  · exact ho h

/-! ### LIMIT_INPUT_CHANGE (R611) -/

/-- The bit of a limit side in the masks of a quay. -/
def limitBit : LimitSide → Nat
  | .positive => 0
  | .negative => 1

/-- The level of a limit input of a quay. -/
def Quay.limit (x : Quay) : LimitSide → LimitLevel
  | .positive => x.limP
  | .negative => x.limN

/-- A quay with the level of a limit input shown. -/
def Quay.withLimit (x : Quay) (side : LimitSide) (shown : LimitLevel) : Quay :=
  match side with
  | .positive => { x with limP := shown }
  | .negative => { x with limN := shown }

theorem State.limitActive_iff (s : State) (q : QuayNo) (side : LimitSide) : s.limitActive q side = true ↔ s.ownerOf 6 (3 * q.val + limitBit side) = .quay q ∧
    ((s.quay[q].limit side).level = true ↔ quayLimActive s q / 2 ^ (limitBit side) % 2 = 1) ∧ (s.quay[q].limit side).since + us (quayLimFilter s q) ≤ s.now := by
  have hbit : ∀ (b : Bool) (n i : Nat), (b == n.testBit i) = true ↔ (b = true ↔ n / 2 ^ i % 2 = 1) := fun b n i => by
    rw [beq_iff_eq, Bool.eq_iff_iff, Nat.testBit_eq_decide_div_mod_eq, decide_eq_true_eq]
  have hactive : s.limitActive q side = (s.ownerOf 6 (3 * q.val + limitBit side) == .quay q && (s.quay[q].limit side).level == (quayLimActive s q).testBit (limitBit side) &&
      decide ((s.quay[q].limit side).since + us (quayLimFilter s q) ≤ s.now)) := by
    cases side <;> rfl
  rw [hactive, Bool.and_eq_true, Bool.and_eq_true, hbit, decide_eq_true_eq, beq_iff_eq, and_assoc]

/-- Settles the part of O32 about limit inputs. -/
theorem limitInputChange_shows (q : QuayNo) (side : LimitSide) (shown : LimitLevel) (s : State) : ∃ t, exec (.limitInputChange q side shown) s = .next t ∧
    t.quay[q] = (match side with | .positive => { s.quay[q] with limP := shown } | .negative => { s.quay[q] with limN := shown }) ∧
    (s.ownerOf 6 (3 * q.val + limitBit side) = .quay q → (t.limitActive q side = true ↔
      (shown.level = true ↔ quayLimActive s q / 2 ^ (limitBit side) % 2 = 1) ∧ shown.since + us (quayLimFilter s q) ≤ s.now)) ∧
    (s.ownerOf 6 (3 * q.val + limitBit side) ≠ .quay q → t.limitActive q side = false) ∧
    (∀ r : QuayNo, r ≠ q → t.quay[r] = s.quay[r]) ∧ t = { s with quay := t.quay } := by
  have hexec : exec (.limitInputChange q side shown) s = .next (s.modQuay q (fun x => x.withLimit side shown)) := by
    cases side <;> rfl
  refine ⟨_, hexec, (s.modQuay_self q _).trans ?_, fun ho => ?_, fun ho => ?_, fun r hr => s.modQuay_ne _ (Ne.symm hr), rfl⟩
  · cases side <;> rfl
  · have hlim : ((s.modQuay q (fun x => x.withLimit side shown)).quay[q]).limit side = shown := by
      rw [State.modQuay_self]
      cases side <;> rfl
    rw [State.limitActive_iff]
    exact (and_iff_right ho).trans (by rw [hlim]; rfl)
  · exact Bool.eq_false_iff.2 fun h => ho ((State.limitActive_iff _ q side).1 h).1

/-- Settles O32: probes capture at once, after their filter or with their cell; values, over-ranges and limit inputs are shown. -/
theorem probesCapture : Obligations.ProbesCapture := by
  unfold Obligations.ProbesCapture
  classical
  refine ⟨?_, fun n bits q u s => sdValueReady_delivers, fun n bits s => execSdValueReady_idle, fun n s h10 hclk ho => sdOverrange_raises ⟨h10, hclk, ho⟩,
    fun n s => sdOverrange_idle, fun q side shown s => ?_⟩
  · intro selects
    refine ⟨fun q rising s h => (execProbeEdge_eq q rising s).trans (if_neg h), fun q rising s hs => ?_⟩
    intro time captures only
    have hexec := (execProbeEdge_eq q rising s).trans (if_pos hs)
    refine ⟨fun k hk h3 h4 => ?_, fun k hk hm hw => ?_, fun hnone => ?_⟩
    · intro h
      obtain ⟨h1, h2, hrest, hfree, harmed⟩ := State.probed_of_cell (rising := rising) hk
      refine ⟨fun hseen => ?_, _, hexec, ⟨h1, h2, hrest⟩, hfree, harmed, fun hw hn => State.probed_of_waiting hk h3 h4 hw hn,
        fun hw hn => probeEdge_counting hk h3 h4 hw hn⟩
      have hh : h = _ := Cell.heldAt_of_seen hseen
      rw [hh, Bool.and_eq_true, Bool.not_eq_true', Bool.not_eq_true']
      exact ⟨rfl, rfl, rfl, rfl, Iff.rfl⟩
    · obtain ⟨h1, h2, hrest, hfree, harmed⟩ := State.probed_of_cell (rising := rising) hk
      have hself := s.probeWaits_quay q (time, !rising)
      rw [hw, List.nil_append] at hself
      have hprobed : s.probed q rising = (s.probeWaits q (time, !rising)).probeResolve k := by
        unfold State.probed
        rw [hk]
        exact if_pos hm
      refine ⟨_, hexec, ⟨h1, h2, hrest⟩, hfree, harmed, fun he => ?_, fun ⟨e, he, hle⟩ => ?_⟩
      · rw [hprobed, State.probeResolve_of_waits (s := s.probeWaits q (time, !rising)) (e := (time, !rising)) hk (by rw [hself]) he, hself]
      · rw [hprobed, State.probeResolve_of_due (s := s.probeWaits q (time, !rising)) (e := (time, !rising)) hk (by rw [hself]) he hle, hself]
        exact ⟨rfl, rfl, rfl, rfl, rfl⟩
    · obtain ⟨p, hst, hpu, hcap, honly⟩ := State.probed_of_none (rising := rising) hnone
      refine ⟨_, hexec, honly, fun h => ?_, fun h hp => ?_, fun _ _ => ⟨p, hcap⟩⟩
      · exact hst h ▸ hcap
      · exact hpu h hp ▸ hcap
  · cases side <;> exact limitInputChange_shows q _ shown s

end Sys2Proof.Machine
end

section
namespace Sys2Proof.Machine

/-! ### What a transition of a quay leaves of it (R270, R277) -/

section
variable {α : Type} (g : Quay → α) (s : State) (p q : QuayNo)

/-- A change of a quay that leaves what a function shows of it. -/
theorem State.modQuay_keeps {f : Quay → Quay} (h : ∀ x, g (f x) = g x) : g (s.modQuay p f).quay[q] = g s.quay[q] := by
  by_cases hp : p = q
  · subst hp
    rw [State.modQuay_self, h]
  · rw [State.modQuay_ne s f hp]

theorem State.publish_keeps (h : ∀ x : Quay, g { x with eff := x.core, coreCopy := x.core } = g x) : g (s.publish p).quay[q] = g s.quay[q] := by
  unfold State.publish
  split
  · split
    · rfl
    · exact s.modQuay_keeps g p q h
  · exact s.modQuay_keeps g p q h

theorem State.modCore_keeps (f : AxisCore → AxisCore) (hc : ∀ (x : Quay) (c : AxisCore), g { x with core := c } = g x)
    (h : ∀ x : Quay, g { x with eff := x.core, coreCopy := x.core } = g x) : g (s.modCore p f).quay[q] = g s.quay[q] :=
  (State.publish_keeps g _ p q h).trans (s.modQuay_keeps g p q fun x => hc x _)

theorem State.abandon_keeps (arm start : Bool) (hc : ∀ (x : Quay) (c : AxisCore), g { x with core := c } = g x) :
    g (s.abandon p arm start).quay[q] = g s.quay[q] := by
  have hq : ∀ u : State, u.quay = s.quay → g u.quay[q] = g s.quay[q] := fun u hu => by rw [hu]
  refine (State.modQuay_keeps g _ p q fun x => hc x _).trans (hq _ ?_)
  cases arm <;> cases start <;> simp

end

/-- A quay apart from its state machine with the copies of it, its setpoint buffer and its acceptance table. -/
def Quay.coreless (x : Quay) : Quay := { x with core := {}, eff := {}, coreCopy := {}, c0 := {} }

/-- The references of a setpoint buffer. -/
def C0Buffer.refs (c : C0Buffer) : U16 × U16 × U16 × U16 := (c.torque, c.speed, c.tension, c.ff)

section
variable (s : State) (q : QuayNo)

/-- A quay before the operations on its legs at a transition. -/
def State.entering (st : AxisState) (k : StopKind) : State :=
  ((if st == .running || st == .catching then s else s.leaveGroup q).abandon q (st == .faulted || st == .safe) (st != .running && st != .catching)).modQuay q
    (fun x => { x with core := x.core.enter st k (s.isStepped q) s.now })

theorem State.enter_eq (st : AxisState) (k : StopKind) : s.enter q st k = s.syncLegs (((s.entering q st k).afterEnter q st).publish q) := rfl

theorem State.entering_keeps {α : Type} (g : Quay → α) (st : AxisState) (k : StopKind) (hc : ∀ (x : Quay) (c : AxisCore), g { x with core := c } = g x)
    (p : QuayNo) : g (s.entering q st k).quay[p] = g s.quay[p] := by
  refine (State.modQuay_keeps g _ q p fun x => hc x _).trans ((State.abandon_keeps g _ q p _ _ hc).trans ?_)
  split <;> rfl

theorem State.afterEnter_of_not_off {st : AxisState} (h : st ≠ .off) :
    s.afterEnter q st = (if st = .faulted ∨ st = .safe then s.zeroRefs q else s).rewriteTable q := by
  have hz : (st = .off ∨ st = .faulted ∨ st = .safe) ↔ (st = .faulted ∨ st = .safe) := or_iff_right h
  unfold State.afterEnter
  simp only [hz, if_neg h]

/-- A transition to another state than OFF changes the state machine, its copies and the class-0 buffer of the quay alone. -/
theorem State.enter_coreless {st : AxisState} (k : StopKind) (h : st ≠ .off) (p : QuayNo) : (s.enter q st k).quay[p].coreless = s.quay[p].coreless := by
  have hz : ∀ u : State, (u.zeroRefs q).quay[p].coreless = u.quay[p].coreless := fun u => by
    unfold State.zeroRefs
    split
    · rfl
    · exact u.modQuay_keeps Quay.coreless q p fun _ => rfl
  have hr : ∀ u : State, (u.rewriteTable q).quay[p].coreless = u.quay[p].coreless := fun u => by
    unfold State.rewriteTable
    split
    · rfl
    · exact u.modQuay_keeps Quay.coreless q p fun _ => rfl
  rw [s.enter_eq, (LegsOnly.syncLegs _ _).quay, State.publish_keeps Quay.coreless _ q p fun _ => rfl, State.afterEnter_of_not_off _ q h, hr]
  refine Eq.trans ?_ (s.entering_keeps q Quay.coreless st k (fun _ _ => rfl) p)
  split
  · exact hz _
  · rfl

/-- A transition to a state that keeps the references. -/
theorem State.enter_refs {st : AxisState} (k : StopKind) (ho : st ≠ .off) (hf : st ≠ .faulted) (hs : st ≠ .safe) (p : QuayNo) :
    (s.enter q st k).quay[p].c0.refs = s.quay[p].c0.refs := by
  have hr : ∀ u : State, (u.rewriteTable q).quay[p].c0.refs = u.quay[p].c0.refs := fun u => by
    unfold State.rewriteTable
    split
    · rfl
    · exact u.modQuay_keeps (fun x => x.c0.refs) q p fun _ => rfl
  rw [s.enter_eq, (LegsOnly.syncLegs _ _).quay]
  refine (State.publish_keeps (fun x => x.c0.refs) _ q p fun _ => rfl).trans ?_
  rw [State.afterEnter_of_not_off _ q ho, if_neg (by tauto), hr]
  exact s.entering_keeps q (fun x => x.c0.refs) st k (fun _ _ => rfl) p

/-- The operations on a quay that enters OFF. -/
def State.releasing : State := (((s.zeroRefs q).rewriteTable q).releaseLegs q).sendMask (((s.zeroRefs q).rewriteTable q).phaseLegs q) .disarm

theorem State.afterEnter_off : s.afterEnter q .off = ((s.releasing q).cutSteps q).modQuay q (fun x => { x with openRec := none, react := none, rampReact := false }) := by
  unfold State.afterEnter State.releasing
  simp only [true_or, if_true]

/-- A quay in OFF has no open record and no reaction. -/
theorem State.enter_off (k : StopKind) : (s.enter q .off k).quay[q].openRec = none ∧ (s.enter q .off k).quay[q].react = none ∧
    (s.enter q .off k).quay[q].rampReact = false := by
  have h : (fun x : Quay => (x.openRec, x.react, x.rampReact)) (s.enter q .off k).quay[q] = (none, none, false) := by
    rw [s.enter_eq, (LegsOnly.syncLegs _ _).quay]
    refine (State.publish_keeps (fun x : Quay => (x.openRec, x.react, x.rampReact)) _ q q fun _ => rfl).trans ?_
    rw [State.afterEnter_off, State.modQuay_self]
  exact ⟨congrArg Prod.fst h, congrArg (fun x => x.2.1) h, congrArg (fun x => x.2.2) h⟩

/-- What entering OFF leaves of a quay. -/
theorem State.enter_off_keeps {α : Type} (g : Quay → α) (k : StopKind) (hc : ∀ (x : Quay) (c d e : AxisCore) (b : C0Buffer),
      g { x with core := c, eff := d, coreCopy := e, c0 := b } = g x)
    (hk : ∀ (x : Quay) (n : PulseGen) (y : Kern), g { x with pulse := n, kern := y } = g x)
    (hr : ∀ x : Quay, g { x with openRec := none, react := none, rampReact := false } = g x) (p : QuayNo) :
    g (s.enter q .off k).quay[p] = g s.quay[p] := by
  have hz : ∀ u : State, g (u.zeroRefs q).quay[p] = g u.quay[p] := fun u => by
    unfold State.zeroRefs
    split
    · rfl
    · exact u.modQuay_keeps g q p fun x => hc x x.core x.eff x.coreCopy _
  have hw : ∀ u : State, g (u.rewriteTable q).quay[p] = g u.quay[p] := fun u => by
    unfold State.rewriteTable
    split
    · rfl
    · exact u.modQuay_keeps g q p fun x => hc x x.core x.eff x.coreCopy _
  have hl : ∀ u : State, g (u.releasing q).quay[p] = g u.quay[p] := fun u => by
    rw [State.releasing, (LegsOnly.sendMask _ _ _).quay, (LegsOnly.releaseLegs _ _).quay, hw, hz]
  have hcut : ∀ u : State, g (u.cutSteps q).quay[p] = g u.quay[p] := fun u => u.modQuay_keeps g q p fun x => hk x _ _
  rw [s.enter_eq, (LegsOnly.syncLegs _ _).quay]
  refine (State.publish_keeps g _ q p fun x => hc x x.core x.core x.core x.c0).trans ?_
  rw [State.afterEnter_off]
  refine (State.modQuay_keeps g _ q p hr).trans ?_
  rw [hcut, hl]
  exact s.entering_keeps q g .off k (fun x c => hc x c x.eff x.coreCopy x.c0) p

theorem State.eventOpt_port_congr {s u : State} (hp : u.port = s.port) (hn : u.now = s.now) (o : Option AcceptedOp) (st : Byte) (a : U16) (n : Nat) :
    (u.eventOpt o st a n).port = (s.eventOpt o st a n).port := by
  cases o with
  | none => exact hp
  | some o =>
    unfold State.eventOpt State.event State.modPort
    dsimp only
    rw [hp, hn]

theorem State.abandon_port_congr {s u : State} (hp : u.port = s.port) (hq : u.quay = s.quay) (hn : u.now = s.now) (q : QuayNo) (arm start : Bool) :
    (u.abandon q arm start).port = (s.abandon q arm start).port := by
  have harm : (if arm then u.eventOpt u.quay[q].core.armOp stRefused 0x000E 0 else u).port =
      (if arm then s.eventOpt s.quay[q].core.armOp stRefused 0x000E 0 else s).port := by
    rw [hq]
    split
    · exact State.eventOpt_port_congr hp hn _ _ _ _
    · exact hp
  have hnow : ∀ v : State, (if arm then v.eventOpt v.quay[q].core.armOp stRefused 0x000E 0 else v).now = v.now := fun v => by
    split
    · cases v.quay[q].core.armOp <;> rfl
    · rfl
  unfold State.abandon
  dsimp only
  change (if start = true then _ else _ : State).port = (if start = true then _ else _ : State).port
  rw [hq] at harm ⊢
  split
  · refine State.eventOpt_port_congr harm ?_ _ _ _ _
    rw [← hq, hnow u, hq, hnow s, hn]
  · exact harm

/-- Port of a state before and after a transition: the entries of what it abandons (R234). -/
theorem State.enter_port (st : AxisState) (k : StopKind) :
    (s.enter q st k).port = (s.abandon q (st == .faulted || st == .safe) (st != .running && st != .catching)).port := by
  have hpub : ∀ u : State, (u.publish q).port = u.port := fun u => State.port_of_blank (ps := [.quay, .ih]) (u.publish_blank q (by simp)) (by simp)
  have haft : ∀ u : State, (u.afterEnter q st).port = u.port := fun u =>
    State.port_of_blank (ps := [.quay, .leg, .lane]) (u.afterEnter_blank q st (by simp)) (by simp)
  rw [s.enter_eq, (LegsOnly.syncLegs _ _).rest.2.1, hpub, haft]
  refine State.abandon_port_congr (u := if st == .running || st == .catching then s else s.leaveGroup q) ?_ ?_ ?_ q _ _ <;> split <;> rfl

end

end Sys2Proof.Machine
end

section
namespace Sys2Proof.Machine

/-! ### Legs and lanes at a transition to OFF (R742, R745, R855) -/

/-- A frame handed to each of the lanes by a step of its own. -/
theorem forAll_lanes_lane (s : State) (c : LaneNo → Prop) [DecidablePred c] (f : LaneNo → GwFrame) (n : LaneNo) :
    (forAll (List.finRange 20) s (fun t n => if c n then t else t.sendLane n (f n))).lane[n] =
      if c n then s.lane[n] else { s.lane[n] with tx := s.lane[n].tx ++ [f n] } := by
  obtain ⟨t, -, hlane, hall⟩ := forAll_observe (s := s) (f := fun t n => if c n then t else t.sendLane n (f n)) (P := fun _ => True)
    (List.nodup_finRange 20) (List.mem_finRange n) (fun t => t.lane[n]) trivial (fun _ _ _ _ => trivial) fun t _ b _ hb => by
      split
      · rfl
      · exact t.modLane_ne _ hb
  rw [hall]
  split
  · exact hlane
  · rw [State.sendLane, State.modLane_self, hlane]

theorem State.sendMask_lane (s : State) (ls : List LegNo) (mk : Byte → GwFrame) (n : LaneNo) : (s.sendMask ls mk).lane[n] =
    if s.slotMask ls n = 0 ∨ s.lane[n].st ≠ .attached then s.lane[n] else { s.lane[n] with tx := s.lane[n].tx ++ [mk (s.slotMask ls n)] } :=
  forAll_lanes_lane s (fun n => s.slotMask ls n = 0 ∨ s.lane[n].st ≠ .attached) (fun n => mk (s.slotMask ls n)) n

/-- Taking a change to the legs loses no frame that a lane has been handed. -/
theorem State.syncLegs_tx (old s : State) (n : LaneNo) : s.lane[n].tx ⊆ (old.syncLegs s).lane[n].tx := by
  unfold State.syncLegs
  have hlegs : (forAll allLegs s (fun t l => old.orderLocal t l)).lane = s.lane := forAll_keeps (P := fun t => t.lane = s.lane) rfl fun t ht l _ => by
    refine Eq.trans ?_ ht
    unfold State.orderLocal
    split
    · split
      · rfl
      · unfold State.resume
        split <;> rfl
    · rfl
  rw [← hlegs]
  generalize forAll allLegs s (fun t l => old.orderLocal t l) = u
  refine forAll_keeps (f := fun t n => old.stateFrame t n) (P := fun t => u.lane[n].tx ⊆ t.lane[n].tx) (List.Subset.refl _) fun t ht m _ => List.Subset.trans ht ?_
  unfold State.stateFrame
  dsimp only
  split
  · exact List.Subset.refl _
  · by_cases hm : m = n
    · subst hm
      rw [State.sendLane, State.modLane_self]
      exact List.subset_append_left _ _
    · rw [State.sendLane, State.modLane_ne _ _ hm]
      exact List.Subset.refl _

theorem State.releaseLegs_react {s : State} {q : QuayNo} {l : LegNo} (h : l ∈ s.phaseLegs q) : (s.releaseLegs q).leg[l].react = none := by
  obtain ⟨t, -, -, hall⟩ := forAll_observe (s := s) (f := fun t l => t.modLeg l (fun x => { x with react := none })) (P := fun _ => True) (s.phaseLegs_nodup q) h
    (fun t => t.leg[l]) trivial (fun _ _ _ _ => trivial) fun t _ b _ hb => State.modLeg_ne t _ hb
  rw [State.releaseLegs, hall, State.modLeg_self]

section
variable (s : State) (q : QuayNo)

theorem State.entering_blank {ps : List Part} (st : AxisState) (k : StopKind) (h : Covers ps [.quayAt q, .port, .groups]) :
    (s.entering q st k).blank ps = s.blank ps := by
  simp at h
  simp [State.entering, State.ite_blank, h]

theorem State.releaseLegs_lane : (s.releaseLegs q).lane = s.lane :=
  forAll_keeps (f := fun t l => t.modLeg l (fun x => { x with react := none })) (P := fun t => t.lane = s.lane) rfl fun _ ht _ _ => ht

theorem State.publish_leg : (s.publish q).leg = s.leg ∧ (s.publish q).lane = s.lane := by
  unfold State.publish
  split
  · split <;> exact ⟨rfl, rfl⟩
  · exact ⟨rfl, rfl⟩

theorem State.afterEnter_off_legs : (s.afterEnter q .off).leg = (s.releasing q).leg ∧ (s.afterEnter q .off).lane = (s.releasing q).lane := by
  rw [State.afterEnter_off]
  generalize s.releasing q = u
  exact ⟨rfl, rfl⟩

/-- Legs and lanes of a device on which a quay enters OFF, with the legs, lanes and configuration of `s`. -/
theorem State.releasing_legs {u : State} (hu : u.blank [.quay, .ih, .port, .groups] = s.blank [.quay, .ih, .port, .groups]) :
    (∀ l ∈ s.phaseLegs q, (u.releasing q).leg[l].react = none) ∧
    ∀ n : LaneNo, (u.releasing q).lane[n] = if s.slotMask (s.phaseLegs q) n = 0 ∨ s.lane[n].st ≠ .attached then s.lane[n]
      else { s.lane[n] with tx := s.lane[n].tx ++ [.disarm (s.slotMask (s.phaseLegs q) n)] } := by
  have hw : ((u.zeroRefs q).rewriteTable q).blank [.quay, .ih, .port, .groups] = s.blank [.quay, .ih, .port, .groups] :=
    (State.rewriteTable_blank _ q (by simp)).trans ((u.zeroRefs_blank q (by simp)).trans hu)
  unfold State.releasing
  generalize (u.zeroRefs q).rewriteTable q = w at hw
  have hwe := State.eq_take hw
  have hphase : w.phaseLegs q = s.phaseLegs q := by
    rw [hwe]
    rfl
  have hlane : w.lane = s.lane := by
    rw [hwe]
    rfl
  have hslot : ∀ ls n, (w.releaseLegs q).slotMask ls n = s.slotMask ls n := fun ls n => by
    have h := LegsOnly.releaseLegs w q
    rw [LegsOnly] at h
    rw [h, hwe]
    rfl
  rw [hphase]
  refine ⟨fun l hl => ?_, fun n => ?_⟩
  · rw [State.sendMask_leg]
    exact State.releaseLegs_react (hphase ▸ hl)
  · rw [State.sendMask_lane, hslot, State.releaseLegs_lane, hlane]

theorem State.enter_off_legs {u : State} (k : StopKind) (hu : u.blank [.quay, .ih, .port, .groups] = s.blank [.quay, .ih, .port, .groups]) :
    (∀ l ∈ s.phaseLegs q, (u.enter q .off k).leg[l].react = none) ∧
    (∀ n : LaneNo, s.lane[n].st = .attached → s.slotMask (s.phaseLegs q) n ≠ 0 →
      GwFrame.disarm (s.slotMask (s.phaseLegs q) n) ∈ (u.enter q .off k).lane[n].tx) := by
  have he : (u.entering q .off k).blank [.quay, .ih, .port, .groups] = s.blank [.quay, .ih, .port, .groups] :=
    (u.entering_blank q .off k (by simp)).trans hu
  obtain ⟨hreact, hlane⟩ := s.releasing_legs q he
  obtain ⟨hpleg, hplane⟩ := ((u.entering q .off k).afterEnter q .off).publish_leg q
  obtain ⟨haleg, halane⟩ := (u.entering q .off k).afterEnter_off_legs q
  rw [u.enter_eq]
  generalize ((u.entering q .off k).afterEnter q .off).publish q = v at hpleg hplane ⊢
  refine ⟨fun l hl => ?_, fun n hn hm => u.syncLegs_tx v n ?_⟩
  · have hv : (u.syncLegs v).leg[l].react = v.leg[l].react := (congrArg Leg.react ((u.syncLegs_gates v).leg l) :)
    rw [hv, hpleg, haleg]
    exact hreact l hl
  · rw [hplane, halane, hlane n, if_neg (by tauto)]
    exact List.mem_append_right _ (List.mem_singleton_self _)

end

end Sys2Proof.Machine
end

section
namespace Sys2Proof.Machine

/-! ### Group motions that end and quays that settle (R655, R745) -/

section
variable {ps : List Part} (s : State) (q : QuayNo)

/-- A group motion that ends: its entry, and its axes without it. -/
def State.endGroup (g : GroupMove) : State :=
  let t1 := match g.ended with
    | some q => s.event g.op stRefused 0 q.val
    | none => s.event g.op stDone 0 0
  let t2 := g.axes.foldl (fun u e =>
    if u.quay[e.1].core.motionOp = some g.op then u.modCore e.1 (fun c => { c with motionOp := none, motion := none }) else u) t1
  { t2 with groups := t2.groups.filter (fun x => x.op != g.op) }

theorem State.finishGroups_eq : s.finishGroups = (s.groups.filter (fun g => g.axes.all (fun e => s.axisDone g e.1))).foldl State.endGroup s := rfl

/-- The entry of a group motion that ends. -/
def State.groupEntry (g : GroupMove) : State :=
  match g.ended with
  | some q => s.event g.op stRefused 0 q.val
  | none => s.event g.op stDone 0 0

theorem State.groupEntry_blank (g : GroupMove) (h : .port ∈ ps) : (s.groupEntry g).blank ps = s.blank ps := by
  unfold State.groupEntry
  split <;> simp [h]

theorem State.groupEntry_quay (g : GroupMove) : (s.groupEntry g).quay = s.quay := by
  unfold State.groupEntry
  split <;> rfl

/-- The axes of a group motion without it. -/
def State.dropAxes (g : GroupMove) : State := g.axes.foldl (fun u e =>
    if u.quay[e.1].core.motionOp = some g.op then u.modCore e.1 (fun c => { c with motionOp := none, motion := none }) else u) s

theorem State.endGroup_eq (g : GroupMove) : s.endGroup g =
    { (s.groupEntry g).dropAxes g with groups := ((s.groupEntry g).dropAxes g).groups.filter (fun x => x.op != g.op) } := rfl

theorem State.dropAxes_blank (g : GroupMove) (h : Covers ps [.quay, .ih]) : (s.dropAxes g).blank ps = s.blank ps := by
  simp at h
  exact foldl_blank s g.axes _ fun t e => by simp [State.ite_blank, h]

@[simp] theorem State.endGroup_blank (g : GroupMove) (h : Covers ps [.quay, .ih, .port, .groups]) : (s.endGroup g).blank ps = s.blank ps := by
  simp at h
  rw [s.endGroup_eq]
  exact (State.groups_blank _ (by simp [h]) _).trans ((State.dropAxes_blank _ g (by simp [h])).trans (s.groupEntry_blank g (by simp [h])))

@[simp] theorem State.finishGroups_blank (h : Covers ps [.quay, .ih, .port, .groups]) : s.finishGroups.blank ps = s.blank ps := by
  rw [s.finishGroups_eq]
  exact foldl_blank s _ _ fun t g => t.endGroup_blank g h

@[simp] theorem State.settle_blank (h : Covers ps [.quay, .ih, .port, .groups]) : (s.settle q).blank ps = s.blank ps := by
  simp at h
  simp [State.settle, State.ite_blank, h]

/-- The device with the axis states of its quays, and what their reactions show. -/
def State.poise (r : QuayNo) : AxisState × Option Nat × Bool := (s.quay[r].core.st, s.quay[r].react, s.quay[r].rampReact)

theorem State.modCore_poise {f : AxisCore → AxisCore} (hf : ∀ c, (f c).st = c.st) (r : QuayNo) : (s.modCore q f).poise r = s.poise r :=
  (State.publish_keeps (fun x : Quay => (x.core.st, x.react, x.rampReact)) _ q r fun _ => rfl).trans
    (s.modQuay_keeps (fun x : Quay => (x.core.st, x.react, x.rampReact)) q r fun x => by rw [hf])

theorem State.poise_of_quay {s t : State} (h : t.quay = s.quay) (r : QuayNo) : t.poise r = s.poise r := by
  rw [State.poise, h, State.poise]

theorem State.endGroup_poise (g : GroupMove) (r : QuayNo) : (s.endGroup g).poise r = s.poise r := by
  rw [s.endGroup_eq]
  refine Eq.trans (b := ((s.groupEntry g).dropAxes g).poise r) rfl ?_
  refine Eq.trans ?_ (State.poise_of_quay (s.groupEntry_quay g) r)
  refine forAll_keeps (f := fun u (e : QuayNo × Int × Int) => if u.quay[e.1].core.motionOp = some g.op then
    u.modCore e.1 (fun c => { c with motionOp := none, motion := none }) else u) (P := fun u => u.poise r = (s.groupEntry g).poise r) rfl fun u hu e _ => ?_
  split
  · exact (u.modCore_poise e.1 (f := fun c => { c with motionOp := none, motion := none }) (fun _ => rfl) r).trans hu
  · exact hu

theorem State.settle_poise (r : QuayNo) : (s.settle q).poise r = s.poise r := by
  have hevent : ∀ (u : State) (o : Option AcceptedOp) (a : Byte) (b : U16) (n : Nat), (u.eventOpt o a b n).poise r = u.poise r := fun u o a b n =>
    State.poise_of_quay (u.eventOpt_quay o a b n) r
  have hcore : ∀ (u : State) (f : AxisCore → AxisCore), (∀ c, (f c).st = c.st) → (u.modCore q f).poise r = u.poise r := fun u f hf => u.modCore_poise q hf r
  have hgroups : ∀ u : State, u.finishGroups.poise r = u.poise r := fun u => by
    rw [u.finishGroups_eq]
    exact forAll_keeps (f := State.endGroup) (P := fun t => t.poise r = u.poise r) rfl fun t ht g _ => (t.endGroup_poise g r).trans ht
  unfold State.settle
  simp [apply_ite (fun u : State => u.poise r), hgroups, hcore, hevent]

end

end Sys2Proof.Machine
end

section
namespace Sys2Proof.Machine

/-! ### The end of an ARM and of a stop (O33) -/

section
variable (s : State) (q : QuayNo)

theorem State.remoteArmed_iff : s.remoteArmed q = true ↔ ∀ l ∈ s.legsOf q, 32 ≤ l.val → s.leg[l].armed = true := by
  have hlocal : ∀ l : LegNo, (isLocal l || s.leg[l].armed) = true ↔ (32 ≤ l.val → s.leg[l].armed = true) := fun l => by
    rw [Bool.or_eq_true, isLocal, decide_eq_true_eq, or_iff_not_imp_left, not_lt]
  rw [State.remoteArmed, List.all_eq_true]
  exact forall₂_congr fun l _ => hlocal l

/-- A quay whose ARM is done (R270). -/
def State.armDone : State :=
  ((s.eventOpt s.quay[q].core.armOp stDone 0 0).modQuay q (fun x => { x with core := { x.core with armOp := none } })).enter q .armed

theorem execArmComplete_eq (op : AcceptedOp) (hop : s.quay[q].core.armOp = some op) : execArmComplete q s =
    if s.quay[q].core.st = .off ∧ (∀ l ∈ s.legsOf q, 32 ≤ l.val → s.leg[l].armed = true) ∧ s.offsetsDone q = true ∧ s.hm.grant ≠ none then
      .next (s.armDone q) else .next s := by
  unfold execArmComplete
  refine if_congr ?_ rfl rfl
  rw [s.remoteArmed_iff, Option.isSome_iff_ne_none (o := s.hm.grant), hop]
  simp

theorem State.armDone_blank {ps : List Part} (h : Covers ps [.quayAt q, .port, .groups, .leg, .lane, .ih]) :
    (s.armDone q).blank ps = s.blank ps := by
  simp at h
  simp [State.armDone, h]

theorem State.armDone_core : (s.armDone q).quay[q].core.st = .armed ∧ (s.armDone q).quay[q].core.stAt = s.now ∧
    (s.armDone q).quay[q].core.armOp = none := by
  have hcore := ((s.eventOpt s.quay[q].core.armOp stDone 0 0).modQuay q (fun x => { x with core := { x.core with armOp := none } })).enter_core q .armed .none
  rw [State.modQuay_core_of _ q q _ (fun c => { c with armOp := none }) fun _ => rfl, if_pos rfl] at hcore
  refine ⟨State.enter_st _ q _ _, (congrArg AxisCore.stAt hcore).trans ?_, (congrArg AxisCore.armOp hcore).trans rfl⟩
  rw [AxisCore.enter_stAt]
  have hnow : ∀ o, (s.eventOpt o stDone 0 0).now = s.now := fun o => by cases o <;> rfl
  exact hnow _

theorem State.abandon_port_of_none (h : s.quay[q].core.startOp = none) : (s.abandon q false true).port = s.port := by
  unfold State.abandon
  simp only [h]
  rfl

theorem State.armDone_port {op : AcceptedOp} (hop : s.quay[q].core.armOp = some op) (h : s.quay[q].core.startOp = none) :
    (s.armDone q).port = s.port.set op.port ((s.port.get op.port).pushEvq (eventEntry op stDone 0 s.now 0)) := by
  have hstart : ((s.eventOpt s.quay[q].core.armOp stDone 0 0).modQuay q (fun x => { x with core := { x.core with armOp := none } })).quay[q].core.startOp = none := by
    rw [State.modQuay_self, State.eventOpt_quay]
    exact h
  refine (State.enter_port _ q .armed .none).trans ((State.abandon_port_of_none _ q hstart).trans ?_)
  rw [hop]
  rfl

theorem execArmTimeout_eq (op : AcceptedOp) (hop : s.quay[q].core.armOp = some op) :
    execArmTimeout q s = if s.quay[q].core.armAt + 6400 * quayArmTimeout s q ≤ s.now ∧ s.hm.grant ≠ none then .next (s.abandonArm q) else .next s := by
  unfold execArmTimeout
  refine if_congr ?_ rfl rfl
  rw [hop, Option.isSome_iff_ne_none (o := s.hm.grant)]
  simp [us]

/-- The statement's clause of one quay that stops and one whose reaction ramps down. -/
theorem execStopDwell_of_still {u : Nat} (hu : s.quay[q].kern.reg.stillSince = some u) :
    execStopDwellExpiry q s = if u + 6400 * quayStopDwell s q ≤ s.now ∧ s.hm.grant ≠ none then
      (if s.quay[q].core.st = .stopping then .next ((s.settle q).enter q .off)
       else if s.quay[q].core.st = .faulted ∧ s.quay[q].rampReact = true then .next ((s.settle q).rampEnds q) else .next s) else .next s := by
  unfold execStopDwellExpiry
  simp only [hu]
  refine if_congr ?_ rfl rfl
  rw [Option.isSome_iff_ne_none (o := s.hm.grant), us]

theorem State.settle_now : (s.settle q).now = s.now := by
  rw [State.eq_take (s.settle_blank q (ps := [.quay, .ih, .port, .groups]) (by simp))]
  rfl

theorem State.enter_off_core (u : State) : (u.enter q .off).quay[q].core.mode = .none ∧ (u.enter q .off).quay[q].core.stAt = u.now := by
  have hcore := u.enter_core q .off .none
  exact ⟨(congrArg AxisCore.mode hcore).trans rfl, (congrArg AxisCore.stAt hcore).trans (AxisCore.enter_stAt _ _ _ _ _)⟩

/-- The ramp of a reaction that ends: the phase legs are blocked (R855). -/
theorem State.rampEnds_spec : (s.rampEnds q).quay[q].core.st = s.quay[q].core.st ∧ (s.rampEnds q).quay[q].react = some 4 ∧
    (s.rampEnds q).quay[q].rampReact = false ∧ ∀ l ∈ s.phaseLegs q, (s.rampEnds q).leg[l].react = some .off := by
  have hlegs := State.reactLegs_off (s.modQuay q (fun x => { x with react := some 4, rampReact := false })) q false
  have hquay : ((s.modQuay q (fun x => { x with react := some 4, rampReact := false })).reactLegs q 4 false none).quay[q] =
      { s.quay[q] with react := some 4, rampReact := false } :=
    (State.quay_of_blank (ps := [.leg]) (State.reactLegs_blank _ q 4 false none (by simp)) (by simp)).trans (State.modQuay_self s q _)
  have hsync := s.syncLegs_gates ((((s.modQuay q (fun x => { x with react := some 4, rampReact := false })).reactLegs q 4 false none).cutSteps q))
  have hrq := hsync.rest.rest.1
  unfold State.rampEnds
  dsimp only
  generalize (s.modQuay q (fun x => { x with react := some 4, rampReact := false })).reactLegs q 4 false none = w at hlegs hquay hsync hrq ⊢
  rw [hrq]
  rw [State.cutSteps, State.modQuay_self, hquay]
  refine ⟨rfl, rfl, rfl, fun l hl => ?_⟩
  have hv : (s.syncLegs (w.cutSteps q)).leg[l].react = w.leg[l].react := (congrArg Leg.react (hsync.leg l) :)
  exact hv.trans ((hlegs l).1 hl).2

end

/-- Settles O33. -/
theorem armsAndStopsEnd : Obligations.ArmsAndStopsEnd := by
  refine ⟨⟨fun q op s hop hg => ⟨fun hst hlegs hoff => ⟨_, (execArmComplete_eq s q op hop).trans (if_pos ⟨hst, hlegs, hoff, hg⟩), ?_⟩,
    fun hat => ⟨_, (execArmTimeout_eq s q op hop).trans (if_pos ⟨hat, hg⟩), ?_⟩⟩, fun q s => ⟨fun h => ?_, fun h => ?_⟩⟩,
    fun q u s hu hdw hg => ⟨fun hst => ⟨_, (execStopDwell_of_still s q hu).trans ((if_pos ⟨hdw, hg⟩).trans (if_pos hst)), ?_⟩,
      fun hst hr => ⟨_, (execStopDwell_of_still s q hu).trans ((if_pos ⟨hdw, hg⟩).trans ((if_neg (by rw [hst]; decide)).trans (if_pos ⟨hst, hr⟩))), ?_⟩⟩,
    fun q s h => ?_⟩
  · obtain ⟨h1, h2, h3⟩ := s.armDone_core q
    exact ⟨h1, h2, h3, s.armDone_port q hop, fun r hr => State.quay_of_blank (s.armDone_blank q (ps := [.quayAt q, .port, .groups, .leg, .lane, .ih]) (by simp)) (by simpa using hr),
      State.eq_take (s.armDone_blank q (ps := [.quay, .port, .ih, .groups, .leg, .lane]) (by simp))⟩
  · have hcore := State.modCore_core (s.eventOpt s.quay[q].core.armOp stRefused 0x000E 0) q q (fun c => { c with armOp := none })
    have hb : (s.abandonArm q).blank [.quayAt q, .port, .ih] = s.blank [.quayAt q, .port, .ih] := by simp [State.abandonArm]
    refine ⟨hcore.trans ?_, ?_, fun r hr => State.quay_of_blank hb (by simpa using hr), State.eq_take (ps := [.quay, .port, .ih]) (State.blank_mono hb (by simp))⟩
    · rw [if_pos rfl, hop]
      rfl
    · refine (State.port_of_blank (ps := [.quay, .ih]) (State.modCore_blank _ q _ (by simp)) (by simp)).trans ?_
      rw [hop]
      rfl
  · cases hop : s.quay[q].core.armOp with
    | none => exact if_neg fun hc => absurd ((congrArg Option.isSome hop).symm.trans hc.2.1) (by simp)
    | some op =>
      refine (execArmComplete_eq s q op hop).trans (if_neg fun ⟨hst, hlegs, hoff, hg⟩ => ?_)
      rcases h with h | h | ⟨l, hl, hr, ha⟩ | h | h
      · exact h hst
      · exact absurd (hop.symm.trans h) (by simp)
      · exact absurd ((hlegs l hl hr).symm.trans ha) (by simp)
      · exact absurd (hoff.symm.trans h) (by simp)
      · exact hg h
  · cases hop : s.quay[q].core.armOp with
    | none => exact if_neg fun hc => absurd ((congrArg Option.isSome hop).symm.trans hc.1) (by simp)
    | some op =>
      refine (execArmTimeout_eq s q op hop).trans (if_neg fun ⟨hat, hg⟩ => ?_)
      rcases h with h | h | h
      · exact absurd (hop.symm.trans h) (by simp)
      · omega
      · exact hg h
  · have hb : (s.settle q).blank [.quay, .ih, .port, .groups] = s.blank [.quay, .ih, .port, .groups] := s.settle_blank q (by simp)
    obtain ⟨hrec, hreact, -⟩ := (s.settle q).enter_off q .none
    obtain ⟨hmode, hat⟩ := State.enter_off_core q (s.settle q)
    obtain ⟨hlegs, hlanes⟩ := s.enter_off_legs q .none hb
    exact ⟨State.enter_st _ q _ _, hmode, hat.trans (s.settle_now q), hreact, hrec, hlegs, hlanes⟩
  · have hphase : (s.settle q).phaseLegs q = s.phaseLegs q := by
      rw [State.eq_take (s.settle_blank q (ps := [.quay, .ih, .port, .groups]) (by simp))]
      rfl
    obtain ⟨hst', hreact, hramp, hlegs⟩ := (s.settle q).rampEnds_spec q
    exact ⟨hst'.trans ((congrArg Prod.fst (s.settle_poise q q)).trans hst), hreact, hramp, hphase ▸ hlegs⟩
  · cases hu : s.quay[q].kern.reg.stillSince with
    | none => exact (by unfold execStopDwellExpiry; simp only [hu] : execStopDwellExpiry q s = .next s)
    | some u =>
      refine (execStopDwell_of_still s q hu).trans ?_
      split
      next hc =>
        rcases h with h | h | ⟨v, hv, hlt⟩ | ⟨hns, hnf⟩
        · exact absurd (hu.symm.trans h) (by simp)
        · exact absurd h hc.2
        · rw [Option.some.inj (hv.symm.trans hu)] at hlt
          exact absurd hc.1 (by omega)
        · rw [if_neg hns, if_neg fun hf => hnf.elim (absurd hf.1) fun hr => absurd (hr.symm.trans hf.2) (by simp)]
      next => rfl

end Sys2Proof.Machine
end

section
namespace Sys2Proof.Machine

/-! ### A move that arrives (O34) -/

section
variable (s : State) (q : QuayNo)

theorem execMoveArrival_of_arrived {m : Motion} (hst : s.quay[q].core.st = .running) (hm : s.quay[q].core.motion = some m)
    (ha : s.arrived q m = true) : execMoveArrival q s =
      if (s.groupOfQuay q).isSome then .next (s.modGen q (fun g => { g with inPos := true })).finishGroups
      else .next (((s.modGen q (fun g => { g with inPos := true })).eventOpt (s.modGen q (fun g => { g with inPos := true })).quay[q].core.motionOp stDone 0
        ((s.modGen q (fun g => { g with inPos := true })).positionResult q)).modCore q (fun c => { c with motion := none, motionOp := none })) := by
  unfold execMoveArrival
  simp only [hm]
  rw [if_pos ⟨hst, ha⟩]

/-- A motion generator's state has no part in the position that the axis shows. -/
theorem State.modGen_position (f : ProfileGen → ProfileGen) : (s.modGen q f).position q = s.position q := by
  have hstep : (s.modGen q f).quay[q].kern.step.m = s.quay[q].kern.step.m := by rw [State.modGen, State.modQuay_self]
  have hpulse : (s.modGen q f).quay[q].pulse = s.quay[q].pulse := by rw [State.modGen, State.modQuay_self]
  unfold State.position
  rw [hstep, hpulse]
  rfl

/-- Where no group motion is done, none ends. -/
theorem State.finishGroups_of_none (h : ∀ g ∈ s.groups, ∃ e ∈ g.axes, s.axisDone g e.1 = false) : s.finishGroups = s := by
  have hnone : s.groups.filter (fun g => g.axes.all (fun e => s.axisDone g e.1)) = [] := by
    refine List.filter_eq_nil_iff.2 fun g hg hall => ?_
    obtain ⟨e, he, hd⟩ := h g hg
    exact absurd ((List.all_eq_true.1 hall e he).symm.trans hd) (by simp)
  rw [s.finishGroups_eq, hnone]
  rfl

end

/-- Settles O34. -/
theorem movesArrive : Obligations.MovesArrive := by
  unfold Obligations.MovesArrive
  refine ⟨fun q m s hst hm ha => ?_, fun q s h => ?_⟩
  · intro here
    have hhere : here = s.modGen q (fun g => { g with inPos := true }) := rfl
    have hexec := execMoveArrival_of_arrived s q hst hm ha
    rw [← hhere] at hexec
    have hquay : here.quay[q] = { s.quay[q] with kern := { s.quay[q].kern with gen := { s.quay[q].kern.gen with inPos := true } } } := by
      rw [hhere, State.modGen, State.modQuay_self]
    have hne : ∀ r : QuayNo, r ≠ q → here.quay[r] = s.quay[r] := fun r hr => by
      rw [hhere]
      exact State.modQuay_ne _ _ hr.symm
    have hb : here.blank [.quayAt q] = s.blank [.quayAt q] := by
      rw [hhere]
      simp [State.modGen]
    have hpos : here.positionResult q = (s.position q % 18446744073709551616).toNat := by
      rw [State.positionResult, hhere, State.modGen_position]
    have hport : here.port = s.port := State.port_of_blank hb (by simp)
    have hnow : here.now = s.now := by
      rw [State.eq_take hb]
      rfl
    clear_value here
    have hcoreq : here.quay[q].core = s.quay[q].core := by rw [hquay]
    refine ⟨fun op hop hg => ?_, fun hg hopen => ?_⟩
    · refine ⟨_, hexec.trans (if_neg (by simp [hg])), ?_⟩
      rw [hcoreq, hop, hpos]
      generalize hu : here.eventOpt (some op) stDone 0 (s.position q % 18446744073709551616).toNat = u
      have huq : u.quay = here.quay := by rw [← hu, State.eventOpt_quay]
      have hup : u.port = s.port.set op.port ((s.port.get op.port).pushEvq (eventEntry op stDone 0 s.now (s.position q % 18446744073709551616).toNat)) := by
        rw [← hu, ← hnow, ← hport]
        rfl
      have hub : (u.modCore q (fun c => { c with motion := none, motionOp := none })).blank [.quayAt q, .port, .ih] = s.blank [.quayAt q, .port, .ih] := by
        rw [← hu]
        exact (State.modCore_blank _ q _ (by simp)).trans ((State.eventOpt_blank (ps := [.quayAt q, .port, .ih]) _ (by simp) _ _ _ _).trans (State.blank_mono hb (by simp)))
      refine ⟨?_, ?_, ?_, fun r hr => State.quay_of_blank hub (by simpa using hr), State.eq_take (ps := [.quay, .port, .ih]) (State.blank_mono hub (by simp))⟩
      · have hcore := u.modCore_core q q (fun c => { c with motion := none, motionOp := none })
        rw [if_pos rfl, State.core_of_quay huq] at hcore
        refine hcore.trans ?_
        rw [State.core, hcoreq]
      · refine (State.modCore_keeps Quay.kern u q q _ (fun _ _ => rfl) fun _ => rfl).trans ?_
        rw [huq, hquay]
      · exact (State.port_of_blank (ps := [.quay, .ih]) (State.modCore_blank _ q _ (by simp)) (by simp)).trans hup
    · refine ⟨_, hexec.trans (if_pos (Option.isSome_iff_ne_none.2 hg)), ?_⟩
      have hgroups : here.groups = s.groups := by
        rw [State.eq_take hb]
        rfl
      rw [here.finishGroups_of_none (hgroups ▸ hopen)]
      exact ⟨hquay, hne, State.eq_take (ps := [.quay]) (State.blank_mono hb (by simp))⟩
  · change execMoveArrival q s = .next s
    unfold execMoveArrival
    cases hm : s.quay[q].core.motion with
    | none => rfl
    | some m => exact if_neg fun ⟨hst, ha⟩ => h.elim (absurd hst) fun h => absurd ((h m hm).symm.trans ha) (by simp)

end Sys2Proof.Machine
end

section
namespace Sys2Proof.Machine

/-! ### The timed monitors of a quay (O35) -/

section
variable (s : State) (q : QuayNo)

/-- A register change of a quay that raises a source for it. -/
theorem State.modReg_raise (f : Regs → Regs) (src : Nat) :
    ((s.modReg q f).raiseQuay src q).quay[q] = { s.quay[q] with kern := { s.quay[q].kern with reg := f s.quay[q].kern.reg } } ∧
    (∀ r : QuayNo, r ≠ q → ((s.modReg q f).raiseQuay src q).quay[r] = s.quay[r]) ∧ Raised s ((s.modReg q f).raiseQuay src q) src (BitVec.ofNat 8 q.val) ∧
    (s.modReg q f).raiseQuay src q = { s with quay := ((s.modReg q f).raiseQuay src q).quay, flt := ((s.modReg q f).raiseQuay src q).flt } :=
  ⟨s.modQuay_self q _, fun _ hr => s.modQuay_ne _ hr.symm, ⟨_, rfl, rfl, rfl, rfl⟩, rfl⟩

theorem State.modReg_spec (f : Regs → Regs) :
    (s.modReg q f).quay[q] = { s.quay[q] with kern := { s.quay[q].kern with reg := f s.quay[q].kern.reg } } ∧
    (∀ r : QuayNo, r ≠ q → (s.modReg q f).quay[r] = s.quay[r]) ∧ s.modReg q f = { s with quay := (s.modReg q f).quay } :=
  ⟨s.modQuay_self q _, fun _ hr => s.modQuay_ne _ hr.symm, rfl⟩

/-- A state machine that a function changes with its copies. -/
theorem State.modHoming_self (f : Homing → Homing) : (s.modHoming q f).quay[q] = { s.quay[q] with
    core := { s.quay[q].core with homing := s.quay[q].core.homing.map f },
    coreCopy := { s.quay[q].coreCopy with homing := s.quay[q].coreCopy.homing.map f } } := s.modQuay_self q _

theorem State.shiftPosition_blank {ps : List Part} (d : Int) (h : Covers ps [.quayAt q, .cell]) : (s.shiftPosition q d).blank ps = s.blank ps := by
  simp at h
  unfold State.shiftPosition State.modHoming
  cases s.primaryCell q with
  | none => simp [h]
  | some k => simp [h]

theorem State.homeReference_blank {ps : List Part} (hm : Homing) (ref : Int) (h : Covers ps [.quayAt q, .cell]) :
    (s.homeReference q hm ref).blank ps = s.blank ps := by
  have h' := h
  simp at h
  unfold State.homeReference
  dsimp only
  split
  · simp [State.modHoming, State.genZero, State.modGen, h, s.shiftPosition_blank q _ h']
  · simp [State.homeReached, State.modHoming, h, s.shiftPosition_blank q _ h']

theorem State.shiftPosition_self (d : Int) : (s.shiftPosition q d).quay[q].core =
      { s.quay[q].core with homing := s.quay[q].core.homing.map (fun h => { h with lastPos := h.lastPos + d }) } ∧
    (s.shiftPosition q d).quay[q].kern.reg = s.quay[q].kern.reg ∧
    (s.shiftPosition q d).quay[q].kern.gen = { s.quay[q].kern.gen with pos := s.quay[q].kern.gen.pos + d } := by
  unfold State.shiftPosition
  cases s.primaryCell q with
  | none =>
    rw [State.modHoming_self, State.modQuay_self]
    exact ⟨rfl, rfl, rfl⟩
  | some k =>
    rw [State.modHoming_self, State.modQuay_self]
    exact ⟨rfl, rfl, rfl⟩

/-- The reference of homing methods 4 and 5 (R623, R625): the generator stands at the shifted position. -/
theorem State.homeReference_stall {hm : Homing} (ref : Int) (h : s.quay[q].core.homing = some hm) (hmeth : hm.method = 4 ∨ hm.method = 5) :
    (s.homeReference q hm ref).quay[q].core.st = s.quay[q].core.st ∧
    (∃ h', (s.homeReference q hm ref).quay[q].core.homing = some h' ∧ h'.phase = 2 ∧ h'.method = hm.method ∧ h'.homePos = hm.homePos) ∧
    (s.homeReference q hm ref).quay[q].kern.gen.vel = 0 ∧ (s.homeReference q hm ref).quay[q].kern.reg = s.quay[q].kern.reg ∧
    (s.homeReference q hm ref).quay[q].kern.gen.pos = s.quay[q].kern.gen.pos + (hm.homePos - ref : Int) := by
  obtain ⟨hcore, hreg, hgen⟩ := s.shiftPosition_self q (hm.homePos - ref)
  unfold State.homeReference
  dsimp only
  rw [if_pos hmeth, State.modHoming_self, State.genZero, State.modGen, State.modQuay_self]
  dsimp only
  rw [hcore, hreg, hgen, h]
  exact ⟨rfl, ⟨_, rfl, rfl, rfl, rfl⟩, rfl, rfl, rfl⟩

/-- A stall outside a seek for one (R555). -/
theorem State.declareStall_of_not_homing (h : s.quay[q].core.st ≠ .homing) :
    s.declareStall q = (s.raiseQuay srcStall q).modCore q (fun c => { c with homed := false }) := by
  unfold State.declareStall
  cases hh : s.quay[q].core.homing with
  | none => simp only [hh, if_neg h]
  | some m =>
    have hs : s.quay[q].seeksStall = false := by
      simp only [Quay.seeksStall, hh]
      rw [beq_false_of_ne h, Bool.and_false]
    simp only [hh, hs, if_neg h, Bool.false_eq_true, if_false]

theorem Quay.seeksStall_of_seek {x : Quay} {h : Homing} (hst : x.core.st = .homing) (hh : x.core.homing = some h) (hp : h.phase = 0)
    (hm : h.method = 4 ∨ h.method = 5) : x.seeksStall = true := by
  unfold Quay.seeksStall
  simp [hh, hst, hp, hm]

theorem State.declareStall_of_seek {h : Homing} (hst : s.quay[q].core.st = .homing) (hh : s.quay[q].core.homing = some h) (hp : h.phase = 0)
    (hm : h.method = 4 ∨ h.method = 5) : s.declareStall q = s.homeReference q h (s.profilePos q) := by
  have hs := Quay.seeksStall_of_seek hst hh hp hm
  unfold State.declareStall
  simp only [hh, hs, if_true]

/-- A catch that completes (R298, R680). -/
theorem State.catchDone_spec : (s.catchDone q).quay[q].core.st = .running ∧ (s.catchDone q).quay[q].core.startOp = none ∧
    (s.catchDone q).quay[q].core.mode = s.quay[q].core.mode ∧
    (∀ op, s.quay[q].core.startOp = some op → (s.catchDone q).port = s.port.set op.port ((s.port.get op.port).pushEvq (eventEntry op stDone 0 s.now 3))) ∧
    ∀ r : QuayNo, r ≠ q → (s.catchDone q).quay[r] = s.quay[r] := by
  have hcd : s.catchDone q = (((s.eventOpt s.quay[q].core.startOp stDone 0 3).modCore q (fun c => { c with startOp := none })).modReg q
    (fun r => { r with catchPhase := 0, caught := r.n })).enter q .running := rfl
  have hmod := State.modCore_core (s.eventOpt s.quay[q].core.startOp stDone 0 3) q q (fun c => { c with startOp := none })
  rw [if_pos rfl, State.core_of_quay (State.eventOpt_quay s s.quay[q].core.startOp stDone 0 3)] at hmod
  have hport : ((s.eventOpt s.quay[q].core.startOp stDone 0 3).modCore q (fun c => { c with startOp := none })).port =
    (s.eventOpt s.quay[q].core.startOp stDone 0 3).port := State.port_of_blank (ps := [.quay, .ih]) (State.modCore_blank _ q _ (by simp)) (by simp)
  have hu : ((s.eventOpt s.quay[q].core.startOp stDone 0 3).modCore q (fun c => { c with startOp := none })).blank [.quayAt q, .port, .ih] =
      s.blank [.quayAt q, .port, .ih] := by simp
  rw [hcd]
  generalize (s.eventOpt s.quay[q].core.startOp stDone 0 3).modCore q (fun c => { c with startOp := none }) = u at hmod hport hu
  have hb : ((u.modReg q (fun r => { r with catchPhase := 0, caught := r.n })).enter q .running).blank [.quayAt q, .port, .groups, .leg, .lane, .ih] =
      s.blank [.quayAt q, .port, .groups, .leg, .lane, .ih] := by
    simp only [State.modReg]
    exact (State.enter_blank _ q _ _ (by simp)).trans ((State.modQuay_blank _ q (by simp) _).trans (State.blank_mono hu (by simp)))
  have henter := (u.modReg q (fun r => { r with catchPhase := 0, caught := r.n })).enter_core q .running .none
  have hreg : (u.modReg q (fun r => { r with catchPhase := 0, caught := r.n })).core q = { s.quay[q].core with startOp := none } := by
    rw [State.core, State.modReg, State.modQuay_self]
    exact hmod
  rw [hreg] at henter
  refine ⟨State.enter_st _ q _ _, (congrArg AxisCore.startOp henter).trans rfl, (congrArg AxisCore.mode henter).trans rfl, fun op hop => ?_,
    fun r hr => State.quay_of_blank hb (by simpa using hr)⟩
  refine (State.enter_port _ q .running .none).trans (hport.trans ?_)
  rw [hop]
  rfl

/-- What OBSERVE ends in (R678, R683, R684), for a device with the state machine and the ports of `s`. -/
theorem State.observed_spec {v : State} (n : Rat) (hcore : v.quay[q].core = s.quay[q].core) (hsig : v.quay[q].eff.sigma = s.quay[q].eff.sigma)
    (hport : v.port = s.port) (hnow : v.now = s.now) (hne : ∀ r : QuayNo, r ≠ q → v.quay[r] = s.quay[r]) :
    (backward s.quay[q].eff.sigma n = false → (v.observed q n false).quay[q].core.st = .running ∧ (v.observed q n false).quay[q].core.startOp = none ∧
      (v.observed q n false).quay[q].core.mode = s.quay[q].core.mode ∧
      (∀ op, s.quay[q].core.startOp = some op →
        (v.observed q n false).port = s.port.set op.port ((s.port.get op.port).pushEvq (eventEntry op stDone 0 s.now 3))) ∧
      ∀ r : QuayNo, r ≠ q → (v.observed q n false).quay[r] = s.quay[r]) ∧
    (backward s.quay[q].eff.sigma n = true → (v.observed q n false).quay[q].core = s.quay[q].core ∧ (v.observed q n false).quay[q].kern.reg.catchPhase = 4 ∧
      (v.observed q n false).quay[q].kern.reg.windowAt = s.now ∧ ∀ r : QuayNo, r ≠ q → (v.observed q n false).quay[r] = s.quay[r]) := by
  have hobs : v.observed q n false = if backward s.quay[q].eff.sigma n then v.enterPhase q 4 else v.enterPhase q 0 := by
    rw [State.observed, hsig]
    rfl
  refine ⟨fun hb => ?_, fun hb => ?_⟩
  · obtain ⟨h1, h2, h3, h4, h5⟩ := v.catchDone_spec q
    rw [hobs, hb, if_neg (by decide), State.enterPhase, if_pos rfl]
    exact ⟨h1, h2, h3.trans (by rw [hcore]), fun op hop => hport ▸ hnow ▸ h4 op (hcore ▸ hop), fun r hr => (h5 r hr).trans (hne r hr)⟩
  · rw [hobs, if_pos hb, State.enterPhase, if_neg (by decide), State.modReg]
    refine ⟨?_, ?_, ?_, fun r hr => (State.modQuay_ne _ _ hr.symm).trans (hne r hr)⟩
    · rw [State.modQuay_self]
      exact hcore
    · rw [State.modQuay_self]
    · rw [State.modQuay_self]
      exact hnow

theorem State.recatch_blank {ps : List Part} (h : Covers ps [.quayAt q, .port, .groups, .leg, .lane, .ih]) : (s.recatch q).blank ps = s.blank ps := by
  simp at h
  simp [State.recatch, State.modReg, h]

/-- A catch that starts again (R270 row 8). -/
theorem State.recatch_spec : (s.recatch q).quay[q].core.st = .catching ∧ (s.recatch q).quay[q].core.stAt = s.now ∧
    (s.recatch q).quay[q].kern.reg.ifMode = false ∧ (s.recatch q).flt = s.flt ∧ ∀ r : QuayNo, r ≠ q → (s.recatch q).quay[r] = s.quay[r] := by
  have hb : (s.recatch q).blank [.quayAt q, .port, .groups, .leg, .lane, .ih] = s.blank [.quayAt q, .port, .groups, .leg, .lane, .ih] :=
    s.recatch_blank q (by simp)
  have hflt : (s.recatch q).flt = s.flt := by
    rw [State.eq_take (s.recatch_blank q (ps := [.quay, .port, .groups, .leg, .lane, .ih]) (by simp))]
    rfl
  have hcore := (s.modReg q (fun r => { r with lossShort := false, ifMode := false, handover := 0, catchPhase := 0 })).enter_core q .catching .none
  have hkern := congrArg Quay.kern ((s.modReg q (fun r => { r with lossShort := false, ifMode := false, handover := 0, catchPhase := 0 })).enter_coreless q .none
    (st := .catching) (by decide) q)
  refine ⟨State.enter_st _ q _ _, (congrArg AxisCore.stAt hcore).trans (AxisCore.enter_stAt _ _ _ _ _), ?_,
    hflt, fun r hr => State.quay_of_blank hb (by simpa using hr)⟩
  refine (congrArg (fun k : Kern => k.reg.ifMode) hkern).trans ?_
  rw [State.modReg, State.modQuay_self]
  rfl

end

end Sys2Proof.Machine
end

section
namespace Sys2Proof.Machine

section
variable (s : State) (q : QuayNo)

/-- A stall outside HOMING: raised, and HOMED cleared (R555). -/
theorem State.declareStall_spec (h : s.quay[q].core.st ≠ .homing) : Raised s (s.declareStall q) srcStall (BitVec.ofNat 8 q.val) ∧
    (s.declareStall q).quay[q].core = { s.quay[q].core with homed := false } ∧ (s.declareStall q).quay[q].kern = s.quay[q].kern ∧
    (s.declareStall q).blank [.quayAt q, .ih, .transit] = s.blank [.quayAt q, .ih, .transit] := by
  rw [s.declareStall_of_not_homing q h]
  have hcore := (s.raiseQuay srcStall q).modCore_core q q (fun c => { c with homed := false })
  have hkern := State.modCore_keeps Quay.kern (s.raiseQuay srcStall q) q q (fun c => { c with homed := false }) (fun _ _ => rfl) fun _ => rfl
  have hb : ((s.raiseQuay srcStall q).modCore q (fun c => { c with homed := false })).blank [.quayAt q, .ih] =
      (s.raiseQuay srcStall q).blank [.quayAt q, .ih] := State.modCore_blank _ q _ (by simp)
  generalize (s.raiseQuay srcStall q).modCore q (fun c => { c with homed := false }) = t at hcore hkern hb ⊢
  rw [if_pos rfl] at hcore
  have hflt : t.flt = (s.raiseQuay srcStall q).flt := by
    rw [State.eq_take (ps := [.quay, .ih]) (State.blank_mono hb (by simp))]
    rfl
  exact ⟨⟨_, hflt.trans rfl, rfl, rfl, rfl⟩, hcore, hkern, (State.blank_mono hb (by simp)).trans (State.raiseQuay_blank s (by simp) _ _ _)⟩

/-- A catch whose window has passed, per machine and voltage (R683 to R687). -/
theorem execObserveWindowEnd_of_due (hst : s.quay[q].core.st = .catching) (hp : s.quay[q].kern.reg.catchPhase = 1)
    (hd : s.quay[q].kern.reg.windowAt + 6400 * quayCatchWindow s q ≤ s.now) : execObserveWindowEnd q s =
      if s.machine q = 5 then
        .next ((s.modReg q (fun y => { y with n := quot (s.armatureVolts q y) (quayPsiPm s q) (Config.freeRat s.free) })).drawn.observed q
          (s.modReg q (fun y => { y with n := quot (s.armatureVolts q y) (quayPsiPm s q) (Config.freeRat s.free) })).quay[q].kern.reg.n false)
      else if s.quay[q].kern.reg.emf < quayCatchEmfMin s q then .next (s.observed q s.quay[q].kern.reg.n true)
      else if quayObsLossCount s q ≤ s.quay[q].kern.reg.lockRun then .next (s.observed q s.quay[q].kern.reg.n false)
      else .next (s.modReg q (fun y => { y with windowAt := s.now })) := if_pos ⟨hst, hp, hd⟩

end

/-- Settles O35. -/
theorem quayMonitors : Obligations.QuayMonitors := by
  unfold Obligations.QuayMonitors
  refine ⟨fun q s => ?_, ?_, ?_, ?_⟩
  · intro reg others raises
    have hraises : ∀ (f : Regs → Regs) (src : Nat) (r : Regs), f s.quay[q].kern.reg = r → raises ((s.modReg q f).raiseQuay src q) src r :=
      fun f src r hr => hr ▸ s.modReg_raise q f src
    have hmod : ∀ (f : Regs → Regs) (r : Regs), f s.quay[q].kern.reg = r → (s.modReg q f).quay[q] = { s.quay[q] with kern := { s.quay[q].kern with reg := r } } ∧
        others (s.modReg q f) ∧ s.modReg q f = { s with quay := (s.modReg q f).quay } := fun f r hr => hr ▸ s.modReg_spec q f
    refine ⟨fun u hu hs hv hd => ?_, fun hst hd hn => ?_, fun u hu h0 hd hst hmode hf => ?_, fun u hu h0 hd => ?_, fun hst hmode ht hr hf => ⟨fun u hu hd => ?_,
      fun u hu' hu hd => ?_⟩, fun u hu h0 hs hd => ⟨fun hst => ?_, fun h hst hh hp hm => ?_⟩⟩
    · have hexec : exec (.holdDelayExpiry q) s = .next (s.modStep q (fun y => { y with held := true, current := quayHoldCurrent s q })) := by
        change execHoldDelayExpiry q s = _
        unfold execHoldDelayExpiry
        simp only [show s.quay[q].kern.reg.vZeroSince = some u from hu]
        exact if_pos ⟨hs, hv, hd⟩
      exact ⟨_, hexec, s.modQuay_self q _, fun r hr => s.modQuay_ne _ hr.symm, rfl⟩
    · exact ⟨_, if_pos ⟨hst, hd, fun h => absurd (hn.symm.trans h) (by simp)⟩, hraises _ _ _ rfl⟩
    · have hexec : exec (.speedError q) s = .next ((s.modReg q (fun r => { r with errSince := some 0 })).raiseQuay srcSpeedError q) := by
        change execSpeedError q s = _
        unfold execSpeedError
        simp only [show s.quay[q].kern.reg.errSince = some u from hu]
        exact if_pos ⟨hd, hst, hmode, hf, h0⟩
      exact ⟨_, hexec, hraises _ _ _ rfl⟩
    · have hexec : exec (.tensionHigh q) s = .next ((s.modReg q (fun r => { r with tensSince := some 0 })).raiseQuay srcTensionHigh q) := by
        change execTensionHigh q s = _
        unfold execTensionHigh
        simp only [show s.quay[q].kern.reg.tensSince = some u from hu]
        exact if_pos ⟨hd, h0⟩
      exact ⟨_, hexec, hraises _ _ _ rfl⟩
    · have hexec : exec (.tensionDwellExpiry q) s = .next (s.modReg q (fun y => { y with tensionState := 1 })) := by
        refine (if_pos ⟨hst, hmode, ht, hr, hf⟩).trans (if_pos ?_)
        simp only [show s.quay[q].kern.reg.renderSince = some u from hu]
        exact decide_eq_true hd
      exact ⟨_, hexec, hmod _ _ rfl⟩
    · have hexec : exec (.tensionDwellExpiry q) s = .next (s.modReg q (fun y => { y with tensionState := 2 })) := by
        refine (if_pos ⟨hst, hmode, ht, hr, hf⟩).trans ((if_neg ?_).trans (if_pos ?_))
        · cases hv : s.quay[q].kern.reg.renderSince with
          | none => exact Bool.false_ne_true
          | some v =>
            have hlt := hu' v hv
            simp only [decide_eq_true_eq]
            exact fun hle => absurd hlt (Nat.not_lt.2 hle)
        · simp only [show s.quay[q].kern.reg.recoverSince = some u from hu]
          exact decide_eq_true hd
      exact ⟨_, hexec, hmod _ _ rfl⟩
    all_goals
      have hexec : exec (.ibexSaturationStall q) s = .next ((s.modReg q (fun r => { r with satSince := some 0 })).declareStall q) := by
        change execIbexSaturationStall q s = _
        unfold execIbexSaturationStall
        simp only [show s.quay[q].kern.reg.satSince = some u from hu]
        exact if_pos ⟨hs, h0, hd⟩
      obtain ⟨hq, hne, -⟩ := hmod (fun r => { r with satSince := some 0 }) _ rfl
      have hb : (s.modReg q (fun r => { r with satSince := some 0 })).blank [.quayAt q] = s.blank [.quayAt q] := by simp [State.modReg]
      have hflt : (s.modReg q (fun r => { r with satSince := some 0 })).flt = s.flt := rfl
      have hnow : (s.modReg q (fun r => { r with satSince := some 0 })).now = s.now := rfl
      generalize s.modReg q (fun r => { r with satSince := some 0 }) = v at hexec hq hne hb hflt hnow
      have hcore : v.quay[q].core = s.quay[q].core := by rw [hq]
    · obtain ⟨⟨e, hflt', hsrc, htime, hscope⟩, hcore', hkern', hb'⟩ := v.declareStall_spec q (by rwa [hcore])
      refine ⟨_, hexec, ⟨e, hflt' ▸ hflt ▸ rfl, hsrc, htime.trans hnow, hscope⟩, hcore'.trans (by rw [hcore]), ?_,
        fun r hr => (State.quay_of_blank hb' (by simpa using hr)).trans (hne r hr),
        State.eq_take (ps := [.quay, .ih, .flt, .transit]) ((State.blank_mono hb' (by simp)).trans (State.blank_mono hb (by simp)))⟩
      rw [hkern', hq]
    · have hdecl := v.declareStall_of_seek q (by rwa [hcore]) (by rwa [hcore]) hp hm
      rw [hdecl] at hexec
      obtain ⟨hst', hh', hvel, hreg, -⟩ := v.homeReference_stall q (v.profilePos q) (hcore ▸ hh) hm
      have hb' : (v.homeReference q h (v.profilePos q)).blank [.quayAt q, .cell] = v.blank [.quayAt q, .cell] := v.homeReference_blank q h _ (by simp)
      have hf' : (v.homeReference q h (v.profilePos q)).flt = v.flt := by
        rw [State.eq_take (ps := [.quay, .cell]) (State.blank_mono hb' (by simp))]
        rfl
      refine ⟨_, hexec, hst'.trans (by rwa [hcore]), hh', hvel, ?_, fun r hr => (State.quay_of_blank hb' (by simpa using hr)).trans (hne r hr), hf'.trans hflt⟩
      rw [hreg, hq]
  · intro q s hst hp hd reg others completes turns
    have hexec := execObserveWindowEnd_of_due s q hst hp hd
    have hobs := fun n => s.observed_spec q (v := s) n rfl rfl rfl rfl fun _ _ => rfl
    refine ⟨fun hm he => ?_, fun hm he hl => ?_, fun hm he hl => ?_, fun hm => ?_⟩
    · refine ⟨_, hexec.trans ((if_neg hm).trans (if_pos he)), ?_⟩
      obtain ⟨hq, hne, -⟩ := s.modReg_spec q (fun r => { r with n := 0 })
      obtain ⟨h1, h2, h3, h4, h5⟩ := (s.modReg q (fun r => { r with n := 0 })).catchDone_spec q
      have hcore : (s.modReg q (fun r => { r with n := 0 })).quay[q].core = s.quay[q].core := by rw [hq]
      exact ⟨h1, h2, h3.trans (by rw [hcore]), fun op hop => h4 op (hcore ▸ hop), fun r hr => (h5 r hr).trans (hne r hr)⟩
    · exact ⟨_, hexec.trans ((if_neg hm).trans ((if_neg (not_lt.2 he)).trans (if_pos hl))), hobs _⟩
    · obtain ⟨hq, hne, hrest⟩ := s.modReg_spec q (fun y => { y with windowAt := s.now })
      refine ⟨_, hexec.trans ((if_neg hm).trans ((if_neg (not_lt.2 he)).trans (if_neg (Nat.not_le.2 hl)))), ?_, ?_, hne, hrest⟩ <;> rw [hq]
    · refine ⟨(s.modReg q (fun y => { y with n := quot (s.armatureVolts q y) (quayPsiPm s q) (Config.freeRat s.free) })).quay[q].kern.reg.n, _,
        hexec.trans (if_pos hm), fun hpsi => ?_, ?_⟩
      · obtain ⟨hq, -, -⟩ := s.modReg_spec q (fun y => { y with n := quot (s.armatureVolts q y) (quayPsiPm s q) (Config.freeRat s.free) })
        rw [hq]
        exact if_neg hpsi
      · obtain ⟨hq, hne, -⟩ := s.modReg_spec q (fun y => { y with n := quot (s.armatureVolts q y) (quayPsiPm s q) (Config.freeRat s.free) })
        have hport : (s.modReg q (fun y => { y with n := quot (s.armatureVolts q y) (quayPsiPm s q) (Config.freeRat s.free) })).port = s.port := rfl
        have hnow : (s.modReg q (fun y => { y with n := quot (s.armatureVolts q y) (quayPsiPm s q) (Config.freeRat s.free) })).now = s.now := rfl
        generalize s.modReg q (fun y => { y with n := quot (s.armatureVolts q y) (quayPsiPm s q) (Config.freeRat s.free) }) = v at hq hne hport hnow ⊢
        exact s.observed_spec q (v := v.drawn) _ (by rw [State.drawn, hq]) (by rw [State.drawn, hq]) hport hnow hne
  · intro q u s hu hst hif hh hd
    have hexec : exec (.ifTimeout q) s = .next ((s.raiseQuay srcObserverLoss q).recatch q) := by
      change execIfTimeout q s = _
      unfold execIfTimeout
      simp only [hu]
      exact if_pos ⟨hst, hif, hh, hd⟩
    obtain ⟨h1, h2, h3, h4, h5⟩ := (s.raiseQuay srcObserverLoss q).recatch_spec q
    exact ⟨_, hexec, h1, h2, h3, ⟨_, h4.trans rfl, rfl, rfl, rfl⟩, h5⟩
  · intro q u h s hu hst hh hp hm hs hd
    have hexec : exec (.homeStallDetect q) s = .next ((s.declareStall q).modReg q (fun r => { r with stallSince := none })) := by
      change execHomeStallDetect q s = _
      unfold execHomeStallDetect
      simp only [hu]
      exact if_pos ⟨Quay.seeksStall_of_seek hst hh hp hm, hs, hd⟩
    rw [s.declareStall_of_seek q hst hh hp hm] at hexec
    obtain ⟨hst', hh', hvel, -, hpos⟩ := s.homeReference_stall q (s.profilePos q) hh hm
    have hb : (s.homeReference q h (s.profilePos q)).blank [.quayAt q, .cell] = s.blank [.quayAt q, .cell] := s.homeReference_blank q h _ (by simp)
    generalize s.homeReference q h (s.profilePos q) = v at hexec hst' hh' hvel hpos hb
    have hflt : v.flt = s.flt := by
      rw [State.eq_take (ps := [.quay, .cell]) (State.blank_mono hb (by simp))]
      rfl
    obtain ⟨hq, hne, -⟩ := v.modReg_spec q (fun r => { r with stallSince := none })
    refine ⟨_, hexec, ?_, ?_, ?_, ?_, hflt, ?_, fun r hr => (hne r hr).trans (State.quay_of_blank hb (by simpa using hr))⟩
    · rw [hq]
      exact hst'.trans hst
    · rw [hq]
      exact hh'
    all_goals rw [hq]
    · exact hvel
    · exact hpos

end Sys2Proof.Machine
end

section
namespace Sys2Proof.Machine

/-! ### Sensor windows (O16) -/

theorem mem_of_highest {l : List (Option Int)} {v : Int} (h : highest l = some v) : some v ∈ l := by
  induction l generalizing v with
  | nil => exact absurd h (by simp [highest])
  | cons x xs ih =>
    cases x with
    | none => exact List.mem_cons_of_mem _ (ih h)
    | some a =>
      cases hx : highest xs with
      | none =>
        simp only [highest, hx, Option.some.injEq] at h
        exact h ▸ List.mem_cons_self
      | some b =>
        simp only [highest, hx, Option.some.injEq] at h
        rcases max_choice a b with hm | hm
        · exact (h.symm.trans hm) ▸ List.mem_cons_self
        · exact List.mem_cons_of_mem _ ((h.symm.trans hm) ▸ ih hx)

theorem le_highest {l : List (Option Int)} {w : Int} (h : some w ∈ l) : ∃ v, highest l = some v ∧ w ≤ v := by
  induction l with
  | nil => exact absurd h List.not_mem_nil
  | cons x xs ih =>
    cases x with
    | none => exact ih ((List.mem_cons.1 h).resolve_left (by simp))
    | some a =>
      cases hx : highest xs with
      | none =>
        rcases List.mem_cons.1 h with ha | hw
        · exact ⟨a, by simp [highest, hx], (Option.some.inj ha).le⟩
        · obtain ⟨v, hv, -⟩ := ih hw
          exact absurd (hx.symm.trans hv) (by simp)
      | some b =>
        refine ⟨max a b, by simp [highest, hx], ?_⟩
        rcases List.mem_cons.1 h with ha | hw
        · exact (Option.some.inj ha).le.trans (le_max_left _ _)
        · obtain ⟨v, hv, hle⟩ := ih hw
          exact (hle.trans (Option.some.inj (hv.symm.trans hx)).le).trans (le_max_right _ _)

/-- The highest valid temperature is one of them, and none is above it (R992). -/
theorem highest_eq {l : List (Option Int)} {v : Int} (h : some v ∈ l) (hmax : ∀ w, some w ∈ l → w ≤ v) : highest l = some v := by
  obtain ⟨b, hb, hle⟩ := le_highest h
  rw [hb, le_antisymm (hmax b (mem_of_highest hb)) hle]

theorem mem_drop_take {α : Type} {k : Nat} (v : Vector α k) (x : α) (a b : Nat) :
    x ∈ (v.toList.drop a).take b ↔ ∃ n : Fin k, a ≤ n.val ∧ n.val < a + b ∧ v[n] = x := by
  rw [List.mem_iff_getElem]
  constructor
  · rintro ⟨i, hi, rfl⟩
    have hlen : i < b ∧ a + i < k := by
      rw [List.length_take, List.length_drop, Vector.length_toList] at hi
      omega
    refine ⟨⟨a + i, hlen.2⟩, Nat.le_add_right _ _, Nat.add_lt_add_left hlen.1 _, ?_⟩
    rw [List.getElem_take, List.getElem_drop, Vector.getElem_toList]
    rfl
  · rintro ⟨n, ha, hb, rfl⟩
    refine ⟨n.val - a, ?_, ?_⟩
    · rw [List.length_take, List.length_drop, Vector.length_toList]
      have := n.isLt
      omega
    · rw [List.getElem_take, List.getElem_drop, Vector.getElem_toList]
      simp only [Nat.add_sub_cancel' ha]
      rfl

theorem mem_ctl (x : Thermal) (w : Int) : some w ∈ x.ctl ↔ ∃ n : Fin 24, n.val < 16 ∧ x.temp[n] = some w := by
  have h := mem_drop_take x.temp (some w) 0 16
  rw [List.drop_zero] at h
  exact h.trans (exists_congr fun n => by simp)

theorem mem_die (x : Thermal) (d : DieNo) (w : Int) : some w ∈ x.die d ↔ ∃ n : Fin 24, 16 + 4 * d.val ≤ n.val ∧ n.val < 20 + 4 * d.val ∧ x.temp[n] = some w :=
  (mem_drop_take x.temp (some w) (16 + 4 * d.val) 4).trans (exists_congr fun n => by rw [show 16 + 4 * d.val + 4 = 20 + 4 * d.val by omega])

theorem sensorTemp_eq_some {a w : Int} : sensorTemp a = some w ↔ a = w ∧ -600 ≤ w ∧ w ≤ 2000 := by
  unfold sensorTemp
  split
  · simp only [Option.some.injEq]
    exact ⟨fun h => ⟨h, h ▸ ‹_›⟩, And.left⟩
  · simp only [reduceCtorEq, false_iff]
    rintro ⟨rfl, h⟩
    contradiction

/-- The temperatures that a window shows (R2, R989). -/
def State.windowTemps (s : State) (temps : Vector Int 24) : Vector (Option Int) 24 :=
  if s.hasDies then temps.map sensorTemp else Vector.ofFn (fun n => if n.val < 16 then (temps.map sensorTemp)[n] else s.thm.temp[n])

theorem State.windowTemps_get (s : State) (temps : Vector Int 24) (n : Fin 24) :
    (s.windowTemps temps)[n] = if s.hasDies = true ∨ n.val < 16 then sensorTemp temps[n] else s.thm.temp[n] := by
  unfold State.windowTemps
  by_cases hd : s.hasDies = true
  · rw [if_pos hd, if_pos (.inl hd)]
    exact Vector.getElem_map _ _
  · rw [if_neg hd]
    refine (Vector.getElem_ofFn _).trans ?_
    by_cases hn : n.val < 16
    · rw [if_pos hn, if_pos (.inr hn)]
      exact Vector.getElem_map _ _
    · rw [if_neg hn, if_neg (by tauto)]

/-! What a window leaves of the thermal block once its factors are formed. -/

/-- Temperatures, margins and factors. -/
def Thermal.shown (x : Thermal) : Vector (Option Int) 24 × Vector Int 16 × Vector Rat 2 × Vector Rat 2 × Nat × Rat :=
  (x.temp, x.margin, x.factor, x.factorOld, x.factorAt, x.share)

/-- A device with the temperatures, margins and factors of another, apart from faults on their way. -/
structure Warned (s t : State) : Prop where
  shown : t.thm.shown = s.thm.shown
  rest : t.blank [.thm, .transit] = s.blank [.thm, .transit]

theorem Warned.trans {s t u : State} (h : Warned s t) (g : Warned t u) : Warned s u := ⟨g.shown.trans h.shown, g.rest.trans h.rest⟩

theorem Warned.ite {s t u : State} {c : Prop} [Decidable c] (h : Warned s t) (g : Warned s u) : Warned s (if c then t else u) := by
  split
  · exact h
  · exact g

@[simp] theorem State.raiseDie_blank {ps : List Part} (s : State) (h : .transit ∈ ps) (src : Nat) (d : DieNo) (quays : List QuayNo) (ctx : Ctx) :
    (s.raiseDie src d quays ctx).blank ps = s.blank ps := s.raise_blank h _

theorem State.throttleEpisode_warned (s : State) (i : Fin 3) (bits : Byte) (t : Option Int) : Warned s (s.throttleEpisode i bits t) := by
  unfold State.throttleEpisode
  dsimp only
  split
  · split
    · exact ⟨rfl, by simp⟩
    · exact ⟨rfl, by simp⟩
  · exact ⟨rfl, by simp⟩

theorem State.dieShutdown_warned (s : State) (d : DieNo) (t : Option Int) : Warned s (s.dieShutdown d t) := by
  unfold State.dieShutdown
  dsimp only
  split
  · exact ⟨rfl, by simp⟩
  · exact ⟨rfl, by simp⟩

theorem State.ctlShutdown_warned (s : State) (t : Option Int) : Warned s (s.ctlShutdown t) := by
  unfold State.ctlShutdown
  extract_lets hot s1
  split
  · exact ⟨rfl, (s1.raise_blank (by simp) _).trans (s.modThm_blank (by simp) _)⟩
  · exact ⟨rfl, s.modThm_blank (by simp) _⟩

/-- A margin of the window lies below zero (R105). -/
def State.belowZero (s : State) (counts : Vector Nat 16) (temp : Vector (Option Int) 24) : Bool :=
  (List.finRange 16).any (fun n => s.marginBelow n counts[n] temp[n.val])

/-- BOUND_VOID with its interrupt bits, where it was not set (R105, R209). -/
def State.boundVoided (s : State) : State :=
  let irq (p : Side) (t : State) : State := if s.boot.boundVoid then t else t.modPort p (fun x => { x with irqBound := true })
  irq .b (irq .a (s.modBoot (fun b => { b with boundVoid := true })))

theorem State.boundVoided_spec (s : State) : s.boundVoided.thm = s.thm ∧ s.boundVoided.boot = { s.boot with boundVoid := true } ∧
    (∀ p, s.boundVoided.port.get p = { s.port.get p with irqBound := (s.port.get p).irqBound || !s.boot.boundVoid }) ∧
    s.boundVoided.blank [.boot, .port] = s.blank [.boot, .port] := by
  unfold State.boundVoided
  dsimp only
  cases hv : s.boot.boundVoid with
  | true => exact ⟨rfl, rfl, fun p => by rw [Bool.not_true, Bool.or_false]; rfl, s.modBoot_blank (by simp) _⟩
  | false =>
    refine ⟨rfl, rfl, fun p => ?_, by simp⟩
    rw [Bool.not_false, Bool.or_true]
    cases p <;> rfl

/-- The margins of a window (R103 to R105, R209). -/
theorem State.marginWindow_spec (s : State) (counts : Vector Nat 16) (temp : Vector (Option Int) 24) :
    (∃ a b, (s.marginWindow counts temp).thm = { s.thm with margin := Vector.ofFn (fun n => s.marginOf n counts[n] temp[n.val]), inRun := a, clearRun := b }) ∧
    (s.marginWindow counts temp).boot = { s.boot with boundVoid := s.boot.boundVoid || s.belowZero counts temp } ∧
    (∀ p, (s.marginWindow counts temp).port.get p =
      { s.port.get p with irqBound := (s.port.get p).irqBound || (s.belowZero counts temp && !s.boot.boundVoid) }) ∧
    (s.marginWindow counts temp).blank [.thm, .boot, .port, .transit] = s.blank [.thm, .boot, .port, .transit] := by
  have hm : ∃ a b, s.marginWindow counts temp =
      let s1 := s.modThm (fun x => { x with margin := Vector.ofFn (fun n => s.marginOf n counts[n] temp[n.val]), inRun := a, clearRun := b })
      let s2 := if s.belowZero counts temp then s1.boundVoided else s1
      if s.belowZero counts temp && !s.thm.inRun then s2.raiseDevice srcSpeedMargin else s2 := ⟨_, _, rfl⟩
  obtain ⟨a, b, hm⟩ := hm
  have hblank := s.modThm_blank (ps := [.thm, .boot, .port, .transit]) (by simp)
    (fun x => { x with margin := Vector.ofFn (fun n => s.marginOf n counts[n] temp[n.val]), inRun := a, clearRun := b })
  have hboot : (s.modThm (fun x => { x with margin := Vector.ofFn (fun n => s.marginOf n counts[n] temp[n.val]), inRun := a, clearRun := b })).boot = s.boot := rfl
  have hport : (s.modThm (fun x => { x with margin := Vector.ofFn (fun n => s.marginOf n counts[n] temp[n.val]), inRun := a, clearRun := b })).port = s.port := rfl
  have hthm : (s.modThm (fun x => { x with margin := Vector.ofFn (fun n => s.marginOf n counts[n] temp[n.val]), inRun := a, clearRun := b })).thm =
      { s.thm with margin := Vector.ofFn (fun n => s.marginOf n counts[n] temp[n.val]), inRun := a, clearRun := b } := rfl
  rw [hm]
  generalize s.modThm (fun x => { x with margin := Vector.ofFn (fun n => s.marginOf n counts[n] temp[n.val]), inRun := a, clearRun := b }) = u at hblank hboot hport hthm
  obtain ⟨hvthm, hvboot, hvport, hvblank⟩ := u.boundVoided_spec
  have hraise : ∀ (w : State) (c : Bool), (if c then w.raiseDevice srcSpeedMargin else w).thm = w.thm ∧
      (if c then w.raiseDevice srcSpeedMargin else w).boot = w.boot ∧ (if c then w.raiseDevice srcSpeedMargin else w).port = w.port ∧
      (if c then w.raiseDevice srcSpeedMargin else w).blank [.thm, .boot, .port, .transit] = w.blank [.thm, .boot, .port, .transit] := fun w c => by
    cases c with
    | false => exact ⟨rfl, rfl, rfl, rfl⟩
    | true => exact ⟨rfl, rfl, rfl, w.raiseDevice_blank (by simp) _ _⟩
  obtain ⟨h1, h2, h3, h4⟩ := hraise (if s.belowZero counts temp then u.boundVoided else u) (s.belowZero counts temp && !s.thm.inRun)
  dsimp only
  rw [h1, h2, h3, h4]
  cases hb : s.belowZero counts temp with
  | true =>
    refine ⟨⟨a, b, hvthm.trans hthm⟩, hvboot.trans (by rw [hboot, Bool.or_true]), fun p => (hvport p).trans ?_, (State.blank_mono hvblank (by simp)).trans hblank⟩
    rw [hport, hboot, Bool.true_and]
  | false =>
    refine ⟨⟨a, b, hthm⟩, hboot.trans (by rw [Bool.or_false]), fun p => ?_, hblank⟩
    rw [Bool.false_and, Bool.or_false]
    exact congrArg (Pair.get · p) hport

/-- The device once the margins and factors of a window are formed. -/
def State.windowed (s : State) (counts : Vector Nat 16) (temps : Vector Int 24) : State :=
  let temp := s.windowTemps temps
  let x : Thermal := { s.thm with temp := temp }
  ((s.modThm (fun y => { y with temp := temp })).marginWindow counts temp).factorWindow (if s.hasDies then highest (x.die 0) else some 0)
    (if s.hasDies then highest (x.die 1) else some 0) (highest x.ctl)

theorem execSensorWindowEnd_warned {s : State} (h : s.tb.lock = true) (counts : Vector Nat 16) (temps : Vector Int 24) :
    ∃ t, execSensorWindowEnd counts temps s = .next t ∧ Warned (s.windowed counts temps) t := by
  refine ⟨_, if_pos h, ?_⟩
  have hself : Warned (s.windowed counts temps) (s.windowed counts temps) := ⟨rfl, rfl⟩
  have hdies : ∀ u, Warned (s.windowed counts temps) u → ∀ b0 b1 t0 t1,
      Warned (s.windowed counts temps) (if s.hasDies then (u.throttleEpisode 0 b0 t0).throttleEpisode 1 b1 t1 else u) := fun u hu b0 b1 t0 t1 =>
    .ite ((hu.trans (u.throttleEpisode_warned 0 b0 t0)).trans (State.throttleEpisode_warned _ 1 b1 t1)) hu
  have hshut : ∀ u, Warned (s.windowed counts temps) u → ∀ t0 t1,
      Warned (s.windowed counts temps) (if s.hasDies then (u.dieShutdown 0 t0).dieShutdown 1 t1 else u) := fun u hu t0 t1 =>
    .ite ((hu.trans (u.dieShutdown_warned 0 t0)).trans (State.dieShutdown_warned _ 1 t1)) hu
  exact hshut _ ((hdies _ (hself.trans (State.throttleEpisode_warned _ 2 _ _)) _ _ _ _).trans (State.ctlShutdown_warned _ _)) _ _

end Sys2Proof.Machine
end

section
namespace Sys2Proof.Machine

/-! ### What a sensor window shows (O16) -/

section
variable (s : State) (counts : Vector Nat 16) (temps : Vector Int 24)

/-- The thermal block with the temperatures of a window. -/
def State.seenThermal : Thermal := { s.thm with temp := s.windowTemps temps }

theorem State.windowed_spec :
    (s.windowed counts temps).thm.temp = s.windowTemps temps ∧
    (s.windowed counts temps).thm.margin = Vector.ofFn (fun n => s.marginOf n counts[n] (s.windowTemps temps)[n.val]) ∧
    (s.windowed counts temps).thm.factorOld = s.thm.factor ∧ (s.windowed counts temps).thm.factorAt = s.now ∧
    (s.hasDies = true → ∀ d : DieNo, (s.windowed counts temps).thm.factor[d] = s.throttle d (highest ((s.seenThermal temps).die d))) ∧
    (s.windowed counts temps).thm.share = s.shareOf (highest (s.seenThermal temps).ctl) ∧
    (s.windowed counts temps).boot = { s.boot with boundVoid := s.boot.boundVoid || s.belowZero counts (s.windowTemps temps) } ∧
    (∀ p, (s.windowed counts temps).port.get p =
      { s.port.get p with irqBound := (s.port.get p).irqBound || (s.belowZero counts (s.windowTemps temps) && !s.boot.boundVoid) }) ∧
    (s.windowed counts temps).blank [.thm, .boot, .port, .transit] = s.blank [.thm, .boot, .port, .transit] := by
  have hwin : s.windowed counts temps = ((s.modThm (fun y => { y with temp := s.windowTemps temps })).marginWindow counts (s.windowTemps temps)).factorWindow
      (if s.hasDies then highest ((s.seenThermal temps).die 0) else some 0) (if s.hasDies then highest ((s.seenThermal temps).die 1) else some 0)
      (highest (s.seenThermal temps).ctl) := rfl
  obtain ⟨⟨a, b, hthm⟩, hboot, hport, hblank⟩ := (s.modThm (fun y => { y with temp := s.windowTemps temps })).marginWindow_spec counts (s.windowTemps temps)
  rw [hwin]
  generalize (s.modThm (fun y => { y with temp := s.windowTemps temps })).marginWindow counts (s.windowTemps temps) = w at hthm hboot hport hblank
  have hw : w.blank [.thm, .boot, .port, .transit] = s.blank [.thm, .boot, .port, .transit] := hblank.trans (s.modThm_blank (by simp) _)
  have hnow : w.now = s.now := by
    rw [State.eq_take hw]
    rfl
  have hfactor : w.thm.factor = s.thm.factor := by rw [hthm]; rfl
  have hshare : w.thm.share = s.thm.share := by rw [hthm]; rfl
  have hthrottle : ∀ (d : DieNo) t, w.throttle d t = s.throttle d t := fun d t => by
    have hslope : thmThrSlope w d.val = thmThrSlope s d.val := by
      rw [State.eq_take hw]
      rfl
    have hstart : thmThrStart w d.val = thmThrStart s d.val := by
      rw [State.eq_take hw]
      rfl
    unfold State.throttle
    rw [hfactor, hslope, hstart]
  have hshareOf : ∀ t, w.shareOf t = s.shareOf t := fun t => by
    unfold State.shareOf
    rw [hshare]
  unfold State.factorWindow
  rw [hthrottle, hthrottle, hshareOf, hnow]
  refine ⟨by rw [State.modThm, hthm]; rfl, by rw [State.modThm, hthm]; rfl, hfactor, rfl, fun hd d => ?_, rfl, hboot, hport, (State.modThm_blank _ (by simp) _).trans hw⟩
  rw [if_pos hd, if_pos hd]
  match d with
  | 0 => rfl
  | 1 => rfl

end

section
variable {s : State} {counts : Vector Nat 16} {temps : Vector Int 24}

theorem State.belowZero_iff : s.belowZero counts (s.windowTemps temps) = true ↔
    ∃ n : Fin 16, ¬ (-600 ≤ temps[n.castLE (by decide : 16 ≤ 24)] ∧ temps[n.castLE (by decide : 16 ≤ 24)] ≤ 2000) ∨ counts[n] < s.fuse.cMin[n] := by
  have htemp : ∀ n : Fin 16, (s.windowTemps temps)[n.val] = sensorTemp temps[n.castLE (by decide : 16 ≤ 24)] := fun n =>
    (s.windowTemps_get temps (n.castLE (by decide : 16 ≤ 24))).trans (if_pos (.inr n.isLt))
  rw [State.belowZero, List.any_eq_true]
  refine ⟨fun ⟨n, _, hn⟩ => ⟨n, ?_⟩, fun ⟨n, hn⟩ => ⟨n, List.mem_finRange n, ?_⟩⟩
  · rw [State.marginBelow, htemp, Bool.or_eq_true] at hn
    refine hn.imp (fun hnone hv => ?_) of_decide_eq_true
    rw [sensorTemp, if_pos hv] at hnone
    exact Bool.false_ne_true hnone
  · rw [State.marginBelow, htemp, Bool.or_eq_true]
    refine hn.imp (fun hv => ?_) decide_eq_true
    rw [sensorTemp, if_neg hv]
    rfl

theorem State.marginOf_windowTemps (n : Fin 16) : s.marginOf n counts[n] (s.windowTemps temps)[n.val] =
    if -600 ≤ temps[n.castLE (by decide : 16 ≤ 24)] ∧ temps[n.castLE (by decide : 16 ≤ 24)] ≤ 2000 then
      max (-32768) (min 32767 (reportInt (((counts[n] : Rat) / (s.fuse.cMin[n] : Rat) - 1) * 10000))) else -32768 := by
  have htemp : (s.windowTemps temps)[n.val] = sensorTemp temps[n.castLE (by decide : 16 ≤ 24)] :=
    (s.windowTemps_get temps (n.castLE (by decide : 16 ≤ 24))).trans (if_pos (.inr n.isLt))
  rw [htemp]
  unfold sensorTemp
  split <;> rfl

theorem State.highest_die (h : s.hasDies = true) {d : DieNo} {v : Int}
    (hv : ∃ n : Fin 24, (-600 ≤ temps[n] ∧ temps[n] ≤ 2000) ∧ temps[n] = v ∧ 16 + 4 * d.val ≤ n.val ∧ n.val < 20 + 4 * d.val)
    (hmax : ∀ n : Fin 24, -600 ≤ temps[n] ∧ temps[n] ≤ 2000 → 16 + 4 * d.val ≤ n.val → n.val < 20 + 4 * d.val → temps[n] ≤ v) :
    highest ((s.seenThermal temps).die d) = some v := by
  have hget : ∀ n : Fin 24, (s.seenThermal temps).temp[n] = sensorTemp temps[n] := fun n => (s.windowTemps_get temps n).trans (if_pos (.inl h))
  obtain ⟨n, hn, rfl, hlo, hhi⟩ := hv
  refine highest_eq ((mem_die _ _ _).2 ⟨n, hlo, hhi, (hget n).trans (sensorTemp_eq_some.2 ⟨rfl, hn⟩)⟩) fun w hw => ?_
  obtain ⟨m, hlo', hhi', hm⟩ := (mem_die _ _ _).1 hw
  obtain ⟨rfl, hvalid⟩ := sensorTemp_eq_some.1 ((hget m).symm.trans hm)
  exact hmax m hvalid hlo' hhi'

theorem State.highest_ctl {v : Int} (hv : ∃ n : Fin 24, n.val < 16 ∧ temps[n] = v ∧ -600 ≤ v ∧ v ≤ 2000)
    (hmax : ∀ n : Fin 24, n.val < 16 → temps[n] ≤ 2000 → temps[n] ≤ v) : highest (s.seenThermal temps).ctl = some v := by
  have hget : ∀ n : Fin 24, n.val < 16 → (s.seenThermal temps).temp[n] = sensorTemp temps[n] := fun n hn =>
    (s.windowTemps_get temps n).trans (if_pos (.inr hn))
  obtain ⟨n, hn, hnv, hvalid⟩ := hv
  refine highest_eq ((mem_ctl _ _).2 ⟨n, hn, (hget n hn).trans (sensorTemp_eq_some.2 ⟨hnv, hvalid⟩)⟩) fun w hw => ?_
  obtain ⟨m, hm, hmw⟩ := (mem_ctl _ _).1 hw
  obtain ⟨rfl, -, hle⟩ := sensorTemp_eq_some.1 ((hget m hm).symm.trans hmw)
  exact hmax m hm hle

end

/-- Settles O16. -/
theorem sensorWindows : Obligations.SensorWindows := by
  refine ⟨⟨fun counts temps s hlock => ?_, fun counts temps s hlock => if_neg (by rw [hlock]; decide)⟩, fun counts temps s v hlock hv hmax => ?_⟩
  · intro valid
    obtain ⟨t, hexec, hwarn⟩ := execSensorWindowEnd_warned hlock counts temps
    obtain ⟨htemp, hmargin, hold, hat, hfactor, -, hboot, hport, hblank⟩ := s.windowed_spec counts temps
    generalize s.windowed counts temps = u at hwarn htemp hmargin hold hat hfactor hboot hport hblank
    obtain ⟨hshown, hrest⟩ := hwarn
    simp only [Thermal.shown, Prod.mk.injEq] at hshown
    obtain ⟨h1, h2, h3, h4, h5, -⟩ := hshown
    have ht : t.blank [.thm, .boot, .port, .transit] = s.blank [.thm, .boot, .port, .transit] := (State.blank_mono hrest (by simp)).trans hblank
    have htboot : t.boot = u.boot := State.boot_of_blank hrest (by simp)
    have htport : t.port = u.port := State.port_of_blank hrest (by simp)
    have hvoid : t.boot.boundVoid = (s.boot.boundVoid || s.belowZero counts (s.windowTemps temps)) := by rw [htboot, hboot]
    refine ⟨t, hexec, fun n => ⟨fun hn => ?_, fun hd hn => ?_⟩, fun n => ?_, ?_, fun p => ?_, fun hd d v hv hmax => ?_, h4.trans hold, h5.trans hat, ?_⟩
    · rw [h1, htemp, s.windowTemps_get, if_pos hn]
      rfl
    · rw [h1, htemp, s.windowTemps_get, if_neg (by rw [hd]; simp [hn])]
    · rw [h2, hmargin]
      exact (Vector.getElem_ofFn _).trans (State.marginOf_windowTemps n)
    · rw [hvoid, Bool.or_eq_true, State.belowZero_iff]
    · rw [htport, hport, hvoid]
      cases s.boot.boundVoid <;> cases s.belowZero counts (s.windowTemps temps) <;> rfl
    · rw [h3, hfactor hd, State.highest_die hd hv hmax]
      rfl
    · have hb : t.boot = { s.boot with boundVoid := t.boot.boundVoid } := by rw [htboot, hboot]
      exact (State.eq_take ht).trans (congrArg (fun b : Boot => { s with thm := t.thm, boot := b, port := t.port, flt := { s.flt with transit := t.flt.transit } }) hb)
  · obtain ⟨t, hexec, hwarn⟩ := execSensorWindowEnd_warned hlock counts temps
    obtain ⟨-, -, -, -, -, hshare, -⟩ := s.windowed_spec counts temps
    have h6 := hwarn.shown
    simp only [Thermal.shown, Prod.mk.injEq] at h6
    obtain ⟨-, -, -, -, -, h6⟩ := h6
    refine ⟨t, hexec, h6.trans (hshare.trans ?_)⟩
    rw [State.highest_ctl hv hmax]
    unfold State.shareOf
    push_cast
    norm_num

end Sys2Proof.Machine
end

section
namespace Sys2Proof.Machine

/-! ### The inputs of a snapshot at its sample event (R332, R358, R368, R452) -/

section
variable {ps : List Part} (s : State) (k : CellNo) (q : QuayNo)

@[simp] theorem State.emulateOwn_blank (stale : Bool) (h : Covers ps [.cellAt k, .transit]) : (s.emulateOwn k stale).blank ps = s.blank ps := by
  simp at h
  unfold State.emulateOwn
  split
  · rfl
  · split
    · exact s.modCell_blank k (by simp [h]) _
    · unfold State.emulate
      extract_lets e c out todo n steps lag s1
      have hs1 : s1.blank ps = s.blank ps := s.modCell_blank k (by simp [h]) _
      split
      · split
        · exact (s1.raiseQuay_blank h.2 _ _ _).trans hs1
        · exact hs1
      · exact hs1

/-- What a quay has but for the views of cells in its open snapshot. -/
def Quay.viewless (x : Quay) : Quay := { x with form := { x.form with cells := [] } }

theorem State.give_viewless (r : QuayNo) : (s.give k).quay[r].viewless = s.quay[r].viewless := by
  unfold State.give
  dsimp only
  split
  · split
    · exact State.modQuay_keeps Quay.viewless _ _ r fun _ => rfl
    · rfl
  · rfl

/-- A cell of a quay at a sample event. -/
def State.sampleCell : State :=
  if fbMode s k = 1 ∨ fbMode s k = 2 then s.deliverEdges k else if fbMode s k = 3 ∨ fbMode s k = 4 then s.startConversion k else s

theorem State.sampleCells_eq : s.sampleCells q = forAll (s.cellsOf q) s State.sampleCell := rfl

theorem State.mem_cellsOf : k ∈ s.cellsOf q ↔ s.cellQuay k = some q := by
  rw [State.cellsOf, List.mem_filter, beq_iff_eq, State.cellQuay]
  constructor
  · rintro ⟨-, h⟩
    rw [h]
  · intro h
    refine ⟨List.mem_finRange k, ?_⟩
    split at h
    next r hr => rw [hr, Option.some.inj h]
    next => exact absurd h (by simp)

/-- The cells of a quay at a sample event, seen from a device on the way. -/
structure CellsSampled (q : QuayNo) (s t : State) : Prop where
  rest : t.blank [.cell, .quayAt q, .transit, .free] = s.blank [.cell, .quayAt q, .transit, .free]
  quay : t.quay[q].viewless = s.quay[q].viewless
  others : ∀ k : CellNo, s.cellQuay k ≠ some q → t.cell[k] = s.cell[k]

variable {s k q}

theorem State.give_rest {t : State} (hq : t.cellQuay k = some q) (h : Covers ps [.cellAt k, .quayAt q]) : (t.give k).blank ps = t.blank ps := by
  simp at h
  unfold State.give
  rw [hq]
  dsimp only
  split
  · simp [h]
  · simp [h]

/-- One cell of the quay at a sample event (R332, R358, R368). -/
theorem State.sampleCell_spec (t : State) (hq : t.cellQuay k = some q) : (t.sampleCell k).blank [.cellAt k, .quayAt q, .transit, .free] = t.blank [.cellAt k, .quayAt q, .transit, .free] ∧
    (t.sampleCell k).quay[q].viewless = t.quay[q].viewless ∧ (fbMode t k = 3 ∨ fbMode t k = 4 → (t.sampleCell k).cell[k].await = some t.now) := by
  unfold State.sampleCell
  by_cases h1 : fbMode t k = 1 ∨ fbMode t k = 2
  · rw [if_pos h1]
    refine ⟨?_, ?_, fun h => absurd h1 (by omega)⟩
    · unfold State.deliverEdges
      extract_lets u
      have hu : u.blank [.cellAt k, .quayAt q, .transit, .free] = t.blank [.cellAt k, .quayAt q, .transit, .free] :=
        (State.drawn_blank _ (by simp)).trans (t.modCell_blank k (by simp) _)
      have huq : u.cellQuay k = some q := hq
      exact (State.emulateOwn_blank _ k false (by simp)).trans ((State.give_rest huq (by simp)).trans hu)
    · unfold State.deliverEdges
      extract_lets u
      have hemu : ((u.give k).emulateOwn k false).quay = (u.give k).quay :=
        (congrArg State.quay (State.eq_take ((u.give k).emulateOwn_blank (ps := [.cell, .transit]) k false (by simp))) :)
      rw [hemu]
      exact u.give_viewless k q
  · rw [if_neg h1]
    by_cases h3 : fbMode t k = 3 ∨ fbMode t k = 4
    · rw [if_pos h3]
      refine ⟨t.modCell_blank k (by simp) _, rfl, fun _ => ?_⟩
      rw [State.startConversion, State.modCell_self]
    · rw [if_neg h3]
      exact ⟨rfl, rfl, fun h => absurd h h3⟩

theorem CellsSampled.step {t : State} (h : CellsSampled q s t) (hq : s.cellQuay k = some q) : CellsSampled q s (t.sampleCell k) := by
  have htq : t.cellQuay k = some q := by
    rw [State.eq_take (State.blank_mono h.rest (by simp) : t.blank [.cell, .quay, .transit, .free] = s.blank [.cell, .quay, .transit, .free])]
    exact hq
  obtain ⟨hb, hv, -⟩ := t.sampleCell_spec htq
  refine ⟨(State.blank_mono hb (by simp)).trans h.rest, hv.trans h.quay, fun j hj => ?_⟩
  exact (State.cell_of_blank hb (by simpa using fun h : j = k => hj (h ▸ hq))).trans (h.others j hj)

theorem State.sampleCells_spec (s : State) (q : QuayNo) : CellsSampled q s (s.sampleCells q) ∧
    ∀ k : CellNo, s.cellQuay k = some q → fbMode s k = 3 ∨ fbMode s k = 4 → (s.sampleCells q).cell[k].await = some s.now := by
  rw [s.sampleCells_eq]
  have hstep : ∀ t, CellsSampled q s t → ∀ j ∈ s.cellsOf q, CellsSampled q s (t.sampleCell j) := fun t ht j hj => ht.step ((s.mem_cellsOf j q).1 hj)
  refine ⟨forAll_keeps ⟨rfl, rfl, fun _ _ => rfl⟩ hstep, fun k hq hm => ?_⟩
  refine forAll_establishes (P := CellsSampled q s) (Q := fun t => t.cell[k].await = some s.now) ((s.mem_cellsOf k q).2 hq) ⟨rfl, rfl, fun _ _ => rfl⟩
    hstep (fun t ht => ?_) fun t ht hQ j hj => ?_
  · have hte := State.eq_take (State.blank_mono ht.rest (by simp) : t.blank [.cell, .quay, .transit, .free] = s.blank [.cell, .quay, .transit, .free])
    have htq : t.cellQuay k = some q := by
      rw [hte]
      exact hq
    have hmode : fbMode t k = fbMode s k := by
      rw [hte]
      rfl
    have hnow : t.now = s.now := by
      rw [hte]
      rfl
    exact hnow ▸ (t.sampleCell_spec htq).2.2 (hmode ▸ hm)
  · have hte := State.eq_take (State.blank_mono ht.rest (by simp) : t.blank [.cell, .quay, .transit, .free] = s.blank [.cell, .quay, .transit, .free])
    have htq : t.cellQuay j = some q := by
      rw [hte]
      exact (s.mem_cellsOf j q).1 hj
    by_cases hjk : j = k
    · subst hjk
      have hmode : fbMode t j = fbMode s j := by
        rw [hte]
        rfl
      have hnow : t.now = s.now := by
        rw [hte]
        rfl
      exact hnow ▸ (t.sampleCell_spec htq).2.2 (hmode ▸ hm)
    · rw [State.cell_of_blank (t.sampleCell_spec htq).1 (by simp [Ne.symm hjk])]
      exact hQ

end

section
variable (s : State) (q : QuayNo)

/-- The sigma-delta inputs of a quay with their windows placed (R452). -/
theorem State.sampleSd_spec : (s.sampleSd q).blank [.sd] = s.blank [.sd] ∧
    ∀ n : Fin 16, (s.sampleSd q).sd[n] = if s.sdQuay n = some q ∧ devSdClock s n.val ≠ 255 then
      { s.sd[n] with await := some s.now, first := (s.sdWindow n s.now).1, last := (s.sdWindow n s.now).2 } else s.sd[n] := by
  have hstep : ∀ t : State, t.blank [.sd] = s.blank [.sd] → ∀ j, (t.placeWindow j).blank [.sd] = s.blank [.sd] := fun t ht j =>
    (show (t.placeWindow j).blank [.sd] = t.blank [.sd] from rfl).trans ht
  have hmem : ∀ n : Fin 16, n ∈ (List.finRange 16).filter (fun n => s.sdQuay n == some q && devSdClock s n.val != 255) ↔
      s.sdQuay n = some q ∧ devSdClock s n.val ≠ 255 := fun n => by simp
  have hne : ∀ (t : State) (j n : Fin 16), j ≠ n → (t.placeWindow j).sd[n] = t.sd[n] := fun t j n h => vmod_ne _ _ h
  refine ⟨forAll_keeps (P := fun t => t.blank [.sd] = s.blank [.sd]) rfl fun t ht j _ => hstep t ht j, fun n => ?_⟩
  split
  next hn =>
    obtain ⟨t, ht, hgt, hall⟩ := forAll_observe (s := s) (f := State.placeWindow) (P := fun t => t.blank [.sd] = s.blank [.sd])
      ((List.nodup_finRange 16).filter _) ((hmem n).2 hn) (fun t => t.sd[n]) rfl (fun t ht j _ => hstep t ht j) fun t _ j _ hj => hne t j n hj
    have hw : t.sdWindow n t.now = s.sdWindow n s.now := by
      rw [State.eq_take ht]
      rfl
    have hnow : t.now = s.now := by
      rw [State.eq_take ht]
      rfl
    have hself : (t.placeWindow n).sd[n] = { t.sd[n] with await := some t.now, first := (t.sdWindow n t.now).1, last := (t.sdWindow n t.now).2 } := vmod_self _ _ _
    refine hall.trans (hself.trans ?_)
    rw [hgt, hw, hnow]
  next hn =>
    exact forAll_keeps (f := State.placeWindow) (P := fun t => t.sd[n] = s.sd[n]) rfl fun t ht j hj =>
      (hne t j n fun h => hn ((hmem n).1 (h ▸ hj))).trans ht

end

end Sys2Proof.Machine
end

section
namespace Sys2Proof.Machine

/-! ### The conversions of a sample event (R58, R75, R765 to R767) -/

section
variable {ps : List Part} (s : State) (q : QuayNo)

/-- One conversion of a sample event. -/
def State.takeSample (t : State) (e : LegSample) : State :=
  if isLocal e.leg && t.legQuay e.leg == some q then
    let i := t.adcCurrent e.leg e.code
    let t1 := t.modLeg e.leg (fun x => { x with current := some i, vphase := (e.volts.toNat : Rat) * 25 / 4 })
    if t.awaitsLane q (t.laneOf e.leg) then t1
    else t1.modQuay q (fun x => { x with form := { x.form with
      legs := setKey x.form.legs e.leg (some i), volts := setKey x.form.volts e.leg ((e.volts.toNat : Rat) * 25 / 4) } })
  else t

theorem State.takeSamples_eq (legs : List LegSample) : s.takeSamples q legs = forAll legs s (State.takeSample q) := rfl

theorem State.awaitsLane_iff (o : Option LaneNo) : s.awaitsLane q o = true ↔ ∃ n, o = some n ∧ InputId.lane n ∈ s.quay[q].form.missing := by
  cases o with
  | none => simp [State.awaitsLane]
  | some m => simp [State.awaitsLane]

/-- What a quay has but for the conversions of its open snapshot. -/
def Quay.sampleless (x : Quay) : Quay := { x with form := { x.form with legs := [], volts := [] } }

/-- The legs of a quay at a sample event, seen from a device on the way. -/
structure LegsSampled (q : QuayNo) (s t : State) : Prop where
  rest : t.blank [.leg, .quayAt q] = s.blank [.leg, .quayAt q]
  quay : t.quay[q].sampleless = s.quay[q].sampleless

variable {s q} {t : State}

theorem LegsSampled.take (h : LegsSampled q s t) : t = { s with leg := t.leg, quay := t.quay } :=
  State.eq_take (ps := [.leg, .quay]) (State.blank_mono h.rest (by simp))

theorem LegsSampled.legQuay (h : LegsSampled q s t) (l : LegNo) : t.legQuay l = s.legQuay l := by
  rw [h.take]
  rfl

theorem LegsSampled.laneOf (h : LegsSampled q s t) (l : LegNo) : t.laneOf l = s.laneOf l := by
  rw [h.take]
  rfl

theorem LegsSampled.adcCurrent (h : LegsSampled q s t) (l : LegNo) (c : BitVec 14) : t.adcCurrent l c = s.adcCurrent l c := by
  rw [h.take]
  rfl

theorem LegsSampled.missing (h : LegsSampled q s t) : t.quay[q].form.missing = s.quay[q].form.missing := (congrArg (fun x : Quay => x.form.missing) h.quay :)

theorem LegsSampled.awaits (h : LegsSampled q s t) (l : LegNo) : t.awaitsLane q (t.laneOf l) = s.awaitsLane q (s.laneOf l) := by
  rw [Bool.eq_iff_iff, State.awaitsLane_iff, State.awaitsLane_iff, h.missing, h.laneOf]

theorem State.takeSample_spec (e : LegSample) : LegsSampled q t (t.takeSample q e) := by
  unfold State.takeSample
  dsimp only
  split
  · split
    · exact ⟨t.modLeg_blank e.leg (by simp) _, rfl⟩
    · exact ⟨by simp, State.modQuay_keeps Quay.sampleless _ q q fun _ => rfl⟩
  · exact ⟨rfl, rfl⟩

theorem LegsSampled.trans {u : State} (h : LegsSampled q s t) (g : LegsSampled q t u) : LegsSampled q s u := ⟨g.rest.trans h.rest, g.quay.trans h.quay⟩

theorem State.takeSamples_spec (legs : List LegSample) : LegsSampled q s (s.takeSamples q legs) := by
  rw [State.takeSamples_eq]
  exact forAll_keeps ⟨rfl, rfl⟩ fun t ht e _ => ht.trans (t.takeSample_spec e)

/-- A leg that no conversion of the sample event is for. -/
theorem State.takeSamples_leg_ne {legs : List LegSample} {l : LegNo} (h : (∀ e ∈ legs, e.leg ≠ l) ∨ 32 ≤ l.val ∨ s.legQuay l ≠ some q) :
    (s.takeSamples q legs).leg[l] = s.leg[l] := by
  rw [State.takeSamples_eq]
  refine (forAll_keeps (P := fun t => LegsSampled q s t ∧ t.leg[l] = s.leg[l]) ⟨⟨rfl, rfl⟩, rfl⟩ fun t ht e he => ⟨ht.1.trans (t.takeSample_spec e), ?_⟩).2
  unfold State.takeSample
  dsimp only
  split
  next hc =>
    rw [Bool.and_eq_true, isLocal, decide_eq_true_eq, beq_iff_eq, ht.1.legQuay] at hc
    have hl : e.leg ≠ l := by
      rintro rfl
      rcases h with h | h | h
      · exact h e he rfl
      · exact absurd hc.1 (Nat.not_lt.2 h)
      · exact h hc.2
    have hm : ∀ f, (t.modLeg e.leg f).leg[l] = s.leg[l] := fun f => (State.modLeg_ne t f hl).trans ht.2
    split
    · exact hm _
    · exact hm _
  next => exact ht.2

theorem lookup_setKey_ne {α β : Type} [DecidableEq α] (xs : List (α × β)) {k j : α} (v : β) (h : j ≠ k) : (setKey xs k v).lookup j = xs.lookup j := by
  rw [setKey, List.lookup_cons, beq_false_of_ne h]
  change List.lookup j (List.filter (fun e => decide (e.1 ≠ k)) xs) = List.lookup j xs
  induction xs with
  | nil => rfl
  | cons x xs ih =>
    by_cases hx : x.1 = k
    · rw [List.filter_cons_of_neg (by simpa using hx), ih, List.lookup_cons, beq_false_of_ne (hx ▸ h)]
    · rw [List.filter_cons_of_pos (by simpa using hx), List.lookup_cons, List.lookup_cons, ih]

/-- A snapshot that waits for the link of a leg takes no conversion of it (R75). -/
theorem State.takeSample_lookup_awaits {l : LegNo} (e : LegSample) (h : t.awaitsLane q (t.laneOf l) = true) :
    (t.takeSample q e).quay[q].form.legs.lookup l = t.quay[q].form.legs.lookup l ∧
    (t.takeSample q e).quay[q].form.volts.lookup l = t.quay[q].form.volts.lookup l := by
  unfold State.takeSample
  dsimp only
  split
  · split
    · exact ⟨rfl, rfl⟩
    next hw =>
      have hl : l ≠ e.leg := fun hl => hw (hl ▸ h)
      rw [State.modQuay_self]
      exact ⟨lookup_setKey_ne _ _ hl, lookup_setKey_ne _ _ hl⟩
  · exact ⟨rfl, rfl⟩

theorem State.takeSamples_lookup_awaits {l : LegNo} (legs : List LegSample) (h : s.awaitsLane q (s.laneOf l) = true) :
    (s.takeSamples q legs).quay[q].form.legs.lookup l = s.quay[q].form.legs.lookup l ∧
    (s.takeSamples q legs).quay[q].form.volts.lookup l = s.quay[q].form.volts.lookup l := by
  rw [State.takeSamples_eq]
  refine (forAll_keeps (P := fun t => LegsSampled q s t ∧ t.quay[q].form.legs.lookup l = s.quay[q].form.legs.lookup l ∧
    t.quay[q].form.volts.lookup l = s.quay[q].form.volts.lookup l) ⟨⟨rfl, rfl⟩, rfl, rfl⟩ fun t ht e _ => ?_).2
  obtain ⟨hs, h1, h2⟩ := ht
  obtain ⟨g1, g2⟩ := t.takeSample_lookup_awaits e ((hs.awaits l).trans h)
  exact ⟨hs.trans (t.takeSample_spec e), g1.trans h1, g2.trans h2⟩

/-- The last conversion for a leg of the quay (R765, R766). -/
theorem State.takeSamples_last {l : LegNo} (code volts : BitVec 14) (pre : List LegSample) (hl : l.val < 32) (hq : s.legQuay l = some q) :
    (s.takeSamples q (pre ++ [⟨l, code, volts⟩])).leg[l].current = some (s.adcCurrent l code) ∧
    (s.takeSamples q (pre ++ [⟨l, code, volts⟩])).leg[l].vphase = (volts.toNat : Rat) * 25 / 4 ∧
    (s.awaitsLane q (s.laneOf l) = false →
      (s.takeSamples q (pre ++ [⟨l, code, volts⟩])).quay[q].form.legs.lookup l = some (some (s.adcCurrent l code)) ∧
      (s.takeSamples q (pre ++ [⟨l, code, volts⟩])).quay[q].form.volts.lookup l = some ((volts.toNat : Rat) * 25 / 4)) := by
  have hpre : LegsSampled q s (s.takeSamples q pre) := State.takeSamples_spec pre
  have hlast : s.takeSamples q (pre ++ [⟨l, code, volts⟩]) = (s.takeSamples q pre).takeSample q ⟨l, code, volts⟩ := by
    rw [State.takeSamples_eq, forAll_append, State.takeSamples_eq]
    rfl
  rw [hlast]
  generalize s.takeSamples q pre = t at hpre
  unfold State.takeSample
  dsimp only
  rw [if_pos (by rw [Bool.and_eq_true, isLocal, decide_eq_true_eq, beq_iff_eq, hpre.legQuay]; exact ⟨hl, hq⟩), hpre.awaits, hpre.adcCurrent]
  have hleg := State.modLeg_self t l (fun x => { x with current := some (s.adcCurrent l code), vphase := (volts.toNat : Rat) * 25 / 4 })
  generalize t.modLeg l (fun x => { x with current := some (s.adcCurrent l code), vphase := (volts.toNat : Rat) * 25 / 4 }) = u at hleg
  cases hw : s.awaitsLane q (s.laneOf l) with
  | true =>
    rw [if_pos rfl, hleg]
    exact ⟨rfl, rfl, fun h => absurd h (by decide)⟩
  | false =>
    rw [if_neg (by decide), State.modQuay_self]
    refine ⟨(congrArg Leg.current hleg :), (congrArg Leg.vphase hleg :), fun _ => ⟨lookup_setKey _ _ _, lookup_setKey _ _ _⟩⟩

/-- The conversion of VM (R445, R767). -/
theorem State.takeVm_spec (vm : BitVec 14) : (s.takeVm q vm).blank [.supply, .quayAt q] = s.blank [.supply, .quayAt q] ∧
    (s.takeVm q vm).quay[q] = { s.quay[q] with form := { s.quay[q].form with vm := (s.takeVm q vm).quay[q].form.vm } } ∧
    (∀ d, s.vmDie q = some d → (s.takeVm q vm).supply = { s.supply with vm := s.supply.vm.set d ((vm.toNat : Rat) * 25 / 4) } ∧
      ((s.takeVm q vm).quay[q].form.vm = if (s.phaseLegs q).any (fun l => isLocal l && s.awaitsLane q (s.laneOf l)) then s.quay[q].form.vm
        else (vm.toNat : Rat) * 25 / 4)) ∧
    (s.vmDie q = none → (s.takeVm q vm).supply = s.supply) := by
  unfold State.takeVm
  cases hd : s.vmDie q with
  | none => exact ⟨rfl, rfl, fun d h => absurd h (by simp), fun _ => rfl⟩
  | some d =>
    dsimp only
    split
    · exact ⟨s.modSupply_blank (by simp) _, rfl, fun e he => Option.some.inj he ▸ ⟨rfl, rfl⟩, fun h => absurd h (by simp)⟩
    · rw [State.modQuay_self]
      exact ⟨by simp, rfl, fun e he => Option.some.inj he ▸ ⟨rfl, rfl⟩, fun h => absurd h (by simp)⟩

theorem State.capture_blank (r : Fin 16) (h : .trace ∈ ps) : (s.capture r).blank ps = s.blank ps := by
  unfold State.capture
  dsimp only
  split
  · rfl
  · split
    · rfl
    · exact s.modTrace_blank r (.inr h) _

theorem State.captureAtSample_blank (q : QuayNo) (h : Covers ps [.trace, .free]) : (s.captureAtSample q).blank ps = s.blank ps := by
  simp at h
  refine forAll_blank s _ _ fun t r => ?_
  split
  · split
    · split
      · exact t.capture_blank r h.1
      · split
        · exact (State.capture_blank r h.1).trans (t.drawn_blank h.2)
        · exact t.drawn_blank h.2
    · rfl
  · rfl

end

end Sys2Proof.Machine
end

section
namespace Sys2Proof.Machine

/-! ### The snapshot of a sample event (O18) -/

section
variable (s : State) (q : QuayNo)

/-- A quay whose slot fires: the event slot in force stays (R100). -/
def State.slotTaken : State :=
  s.modQuay q (fun x => { x.slotFiring s.now with
    eff := if s.ih.changes.any (fun c => c.1 == q) then x.eff else x.core, oldCfg := if s.ih.changes.any (fun c => c.1 == q) then x.oldCfg else none })

theorem State.slotInForce_slotTaken (r : QuayNo) : (s.slotTaken q).slotInForce r = s.slotInForce r := by
  by_cases hr : q = r
  · subst hr
    have hslot : (s.slotTaken q).quay[q].slotOld = (s.quay[q].slotFiring s.now).slotOld := by rw [State.slotTaken, State.modQuay_self]
    have hperiod : (s.slotTaken q).paramPeriod q = s.paramPeriod q := rfl
    have hphase : (s.slotTaken q).paramPhase q = s.paramPhase q := rfl
    have hnow : (s.slotTaken q).now = s.now := rfl
    unfold State.slotInForce
    rw [hslot, hperiod, hphase, hnow]
    unfold Quay.slotFiring
    rcases hs : s.quay[q].slotOld with _ | ⟨p, f, _ | t⟩
    · rfl
    · exact if_pos (le_refl _)
    · by_cases ht : t < s.now
      · simp only [ht, if_true, if_neg (Nat.not_le.2 ht)]
      · simp only [ht, if_false]
  · have hslot : (s.slotTaken q).quay[r] = s.quay[r] := State.modQuay_ne _ _ hr
    unfold State.slotInForce
    rw [hslot]
    rfl

theorem State.shareDue_slotTaken : (s.slotTaken q).shareDue q s.now = s.shareDue q s.now := by
  have hshare : (s.slotTaken q).quay[q].share = s.quay[q].share := by
    rw [State.slotTaken, State.modQuay_self]
    rfl
  have hperiod : ∀ r, (s.slotTaken q).loopPeriod r = s.loopPeriod r := fun r => congrArg Prod.fst (s.slotInForce_slotTaken q r)
  have hmaster : (s.slotTaken q).masterPeriod q = s.masterPeriod q := by
    unfold State.masterPeriod
    rw [hshare]
    simp only [hperiod]
    rfl
  unfold State.shareDue
  rw [hshare, hmaster]
  rfl

theorem State.awaited_slotTaken : (s.slotTaken q).awaited q = s.awaited q := by
  unfold State.awaited
  rw [show (s.slotTaken q).now = s.now from rfl, s.shareDue_slotTaken]
  rfl

/-- The device with the snapshot of a sample event open. -/
def State.snapOpened : State := (s.slotTaken q).openSnapshot q

/-- What the sample event gives the open snapshot, and what it leaves of the quay. -/
def Quay.opening (x : Quay) : (Bool × Bool × Nat × List InputId × List InputId) × (Rat × Rat × Rat × Rat × Bool × Bool × Bool) ×
    (C0Buffer × Snapshot × AxisCore) :=
  ((x.form.isOpen, x.form.complete, x.form.time, x.form.missing, x.form.stale),
    (x.form.torque, x.form.speed, x.form.tension, x.form.ff, x.form.quick, x.form.stop, x.form.release), (x.c0, x.snap, x.core))

/-- The conversions that a snapshot holds. -/
def Quay.conversions (x : Quay) : List (LegNo × Option Rat) × List (LegNo × Rat) × Rat := (x.form.legs, x.form.volts, x.form.vm)

theorem State.snapOpened_spec : (s.snapOpened q).blank [.quayAt q] = s.blank [.quayAt q] ∧
    (s.snapOpened q).quay[q].opening = ((true, false, s.now, s.awaited q, []),
      (q14 s.quay[q].c0.torque, q14 s.quay[q].c0.speed, q14 s.quay[q].c0.tension, q14 s.quay[q].c0.ff, s.quay[q].c0.quick, s.quay[q].c0.stop,
        s.quay[q].c0.release), (s.quay[q].c0, s.quay[q].snap, s.quay[q].core)) ∧
    (s.snapOpened q).quay[q].conversions = s.quay[q].conversions := by
  have hself : (s.slotTaken q).quay[q] = { s.quay[q].slotFiring s.now with
      eff := if s.ih.changes.any (fun c => c.1 == q) then s.quay[q].eff else s.quay[q].core
      oldCfg := if s.ih.changes.any (fun c => c.1 == q) then s.quay[q].oldCfg else none } := State.modQuay_self _ _ _
  refine ⟨by simp [State.snapOpened, State.openSnapshot, State.slotTaken], ?_, ?_⟩
  · rw [State.snapOpened, State.openSnapshot, s.awaited_slotTaken, State.modQuay_self, hself]
    rfl
  · rw [State.snapOpened, State.openSnapshot, State.modQuay_self, hself]
    rfl

end

/-- What the sample event gives the open snapshot. -/
def State.openingOf (s : State) (q : QuayNo) : (Bool × Bool × Nat × List InputId × List InputId) × (Rat × Rat × Rat × Rat × Bool × Bool × Bool) ×
    (C0Buffer × Snapshot × AxisCore) :=
  ((true, false, s.now, s.awaited q, []),
    (q14 s.quay[q].c0.torque, q14 s.quay[q].c0.speed, q14 s.quay[q].c0.tension, q14 s.quay[q].c0.ff, s.quay[q].c0.quick, s.quay[q].c0.stop,
      s.quay[q].c0.release), (s.quay[q].c0, s.quay[q].snap, s.quay[q].core))

/-- A device with the snapshot of a sample event open and the inputs of the quay sampled, before the conversions of its legs. -/
structure Sampled (q : QuayNo) (s u : State) : Prop where
  rest : u.blank [.cell, .sd, .quayAt q, .transit, .free] = s.blank [.cell, .sd, .quayAt q, .transit, .free]
  opening : u.quay[q].opening = s.openingOf q
  conversions : u.quay[q].conversions = s.quay[q].conversions
  cell : ∀ k : CellNo, s.cellQuay k ≠ some q → u.cell[k] = s.cell[k]
  await : ∀ k : CellNo, s.cellQuay k = some q → fbMode s k = 3 ∨ fbMode s k = 4 → u.cell[k].await = some s.now
  sd : ∀ n : Fin 16, u.sd[n] = if s.sdQuay n = some q ∧ devSdClock s n.val ≠ 255 then
    { s.sd[n] with await := some s.now, first := (s.sdWindow n s.now).1, last := (s.sdWindow n s.now).2 } else s.sd[n]

theorem State.sampled (s : State) (q : QuayNo) : Sampled q s (((s.snapOpened q).sampleCells q).sampleSd q) := by
  obtain ⟨hb1, hopen1, hconv1⟩ := s.snapOpened_spec q
  generalize s.snapOpened q = u1 at hb1 hopen1 hconv1
  have h1 : u1 = _ := State.eq_take (State.blank_mono hb1 (by simp) : u1.blank [.quay] = s.blank [.quay])
  obtain ⟨⟨hb2, hv2, hcells2⟩, hawait2⟩ := u1.sampleCells_spec q
  generalize u1.sampleCells q = u2 at hb2 hv2 hcells2 hawait2
  have hb12 : u2.blank [.cell, .quayAt q, .transit, .free] = s.blank [.cell, .quayAt q, .transit, .free] := hb2.trans (State.blank_mono hb1 (by simp))
  have h2 : u2 = _ := State.eq_take (State.blank_mono hb12 (by simp) : u2.blank [.cell, .quay, .transit, .free] = s.blank [.cell, .quay, .transit, .free])
  obtain ⟨hb3, hsd3⟩ := u2.sampleSd_spec q
  generalize u2.sampleSd q = u3 at hb3 hsd3
  have hq3 : u3.quay = u2.quay := (congrArg State.quay (State.eq_take hb3) :)
  have hcell3 : u3.cell = u2.cell := (congrArg State.cell (State.eq_take hb3) :)
  refine ⟨(State.blank_mono hb3 (by simp)).trans (State.blank_mono hb12 (by simp)), ?_, ?_, fun k hk => ?_, fun k hk hm => ?_, fun n => (hsd3 n).trans ?_⟩
  · exact ((congrArg (fun v : Vector Quay 12 => v[q].opening) hq3).trans (congrArg Quay.opening hv2 :)).trans hopen1
  · exact ((congrArg (fun v : Vector Quay 12 => v[q].conversions) hq3).trans (congrArg Quay.conversions hv2 :)).trans hconv1
  · rw [hcell3, hcells2 k (by rw [h1]; exact hk), h1]
    rfl
  · rw [hcell3, hawait2 k (by rw [h1]; exact hk) (by rw [h1]; exact hm), h1]
    rfl
  · rw [h2]
    rfl

theorem execSampleEvent_of_fires {q : QuayNo} {s : State} (legs : List LegSample) (vm : BitVec 14) (h : s.quayFires q = true) :
    execSampleEvent q legs vm s = .next ((((((s.snapOpened q).sampleCells q).sampleSd q).takeSamples q legs).takeVm q vm).captureAtSample q) := if_pos h

/-- Settles O18. -/
theorem sampleEvents : Obligations.SampleEvents := by
  refine ⟨fun q legs vm s hf => ⟨_, execSampleEvent_of_fires legs vm hf, ?_⟩, fun q legs vm s hf => if_neg (by rw [hf]; decide)⟩
  obtain ⟨hb13, hopen3, hconv3, hcell3, hawait3, hsd3⟩ := s.sampled q
  generalize ((s.snapOpened q).sampleCells q).sampleSd q = u3 at hb13 hopen3 hconv3 hcell3 hawait3 hsd3
  have h3 : u3 = _ := State.eq_take (State.blank_mono hb13 (by simp) : u3.blank [.cell, .sd, .quay, .transit, .free] = s.blank [.cell, .sd, .quay, .transit, .free])
  have hmissing : u3.quay[q].form.missing = s.awaited q :=
    (congrArg (fun p : (Bool × Bool × Nat × List InputId × List InputId) × _ => p.1.2.2.2.1) hopen3 :)
  have hwaits : ∀ l, u3.awaitsLane q (u3.laneOf l) = true ↔ ∃ n, s.laneOf l = some n ∧ InputId.lane n ∈ s.awaited q := fun l => by
    rw [State.awaitsLane_iff, hmissing, show u3.laneOf l = s.laneOf l by rw [h3]; rfl]
  have hs4 : LegsSampled q u3 (u3.takeSamples q legs) := State.takeSamples_spec legs
  have hne4 : ∀ l : LegNo, (∀ e ∈ legs, e.leg ≠ l) ∨ 32 ≤ l.val ∨ u3.legQuay l ≠ some q → (u3.takeSamples q legs).leg[l] = u3.leg[l] := fun l =>
    State.takeSamples_leg_ne
  have hlast4 : ∀ (l : LegNo) (code volts : BitVec 14) (pre : List LegSample), legs = pre ++ [⟨l, code, volts⟩] → l.val < 32 → u3.legQuay l = some q →
      (u3.takeSamples q legs).leg[l].current = some (u3.adcCurrent l code) ∧ (u3.takeSamples q legs).leg[l].vphase = (volts.toNat : Rat) * 25 / 4 ∧
      (u3.awaitsLane q (u3.laneOf l) = false → (u3.takeSamples q legs).quay[q].form.legs.lookup l = some (some (u3.adcCurrent l code)) ∧
        (u3.takeSamples q legs).quay[q].form.volts.lookup l = some ((volts.toNat : Rat) * 25 / 4)) := by
    rintro l code volts pre rfl hl hq
    exact State.takeSamples_last code volts pre hl hq
  have hwait4 : ∀ l : LegNo, u3.awaitsLane q (u3.laneOf l) = true →
      (u3.takeSamples q legs).quay[q].form.legs.lookup l = u3.quay[q].form.legs.lookup l ∧
      (u3.takeSamples q legs).quay[q].form.volts.lookup l = u3.quay[q].form.volts.lookup l := fun l => State.takeSamples_lookup_awaits legs
  generalize u3.takeSamples q legs = u4 at hs4 hne4 hlast4 hwait4
  have h4 := hs4.take
  have hopen4 : u4.quay[q].opening = s.openingOf q := (congrArg Quay.opening hs4.quay :).trans hopen3
  have hvm4 : u4.quay[q].form.vm = u3.quay[q].form.vm := (congrArg (fun x : Quay => x.form.vm) hs4.quay :)
  obtain ⟨hb5, hq5, hdie5, hnone5⟩ := State.takeVm_spec (s := u4) (q := q) vm
  generalize u4.takeVm q vm = u5 at hb5 hq5 hdie5 hnone5
  have hb6 : (u5.captureAtSample q).blank [.trace, .free] = u5.blank [.trace, .free] := u5.captureAtSample_blank q (by simp)
  generalize u5.captureAtSample q = t at hb6
  have hq6 : t.quay = u5.quay := (congrArg State.quay (State.eq_take hb6) :)
  have hleg : t.leg = u4.leg := (congrArg State.leg (State.eq_take hb6) :).trans (congrArg State.leg (State.eq_take (State.blank_mono hb5 (by simp) : u5.blank [.supply, .quay] = u4.blank [.supply, .quay])) :)
  have h5 : u5 = _ := State.eq_take (State.blank_mono hb5 (by simp) : u5.blank [.supply, .quay] = u4.blank [.supply, .quay])
  have h46 : t.blank [.trace, .free, .supply, .quayAt q] = u4.blank [.trace, .free, .supply, .quayAt q] :=
    (State.blank_mono hb6 (by simp)).trans (State.blank_mono hb5 (by simp))
  have h36 : t.blank [.trace, .free, .supply, .quayAt q, .leg] = u3.blank [.trace, .free, .supply, .quayAt q, .leg] :=
    (State.blank_mono h46 (by simp)).trans (State.blank_mono hs4.rest (by simp))
  have hall : t.blank [.trace, .free, .supply, .quayAt q, .leg, .cell, .sd, .transit] = s.blank [.trace, .free, .supply, .quayAt q, .leg, .cell, .sd, .transit] :=
    (State.blank_mono h36 (by simp)).trans (State.blank_mono hb13 (by simp))
  have hleg : t.leg = u4.leg := (congrArg State.leg (State.eq_take (State.blank_mono h46 (by simp) : t.blank [.trace, .free, .supply, .quay] = u4.blank _)) :)
  have hcell : t.cell = u3.cell :=
    (congrArg State.cell (State.eq_take (State.blank_mono h36 (by simp) : t.blank [.trace, .free, .supply, .quay, .leg] = u3.blank _)) :)
  have hsd : t.sd = u3.sd := (congrArg State.sd (State.eq_take (State.blank_mono h36 (by simp) : t.blank [.trace, .free, .supply, .quay, .leg] = u3.blank _)) :)
  have hsupply : t.supply = u5.supply := (congrArg State.supply (State.eq_take hb6) :)
  have hopen : t.quay[q].opening = s.openingOf q := by
    rw [hq6, hq5]
    exact hopen4
  simp only [Quay.opening, State.openingOf, Prod.mk.injEq] at hopen
  obtain ⟨⟨o1, o2, o3, o4, o5⟩, ⟨o6, o7, o8, o9, o10, o11, o12⟩, o13, o14, o15⟩ := hopen
  have hforms : t.quay[q].form.legs = u4.quay[q].form.legs ∧ t.quay[q].form.volts = u4.quay[q].form.volts ∧ t.quay[q].form.vm = u5.quay[q].form.vm := by
    rw [hq6]
    exact ⟨by rw [hq5], by rw [hq5], rfl⟩
  simp only [Quay.conversions, Prod.mk.injEq] at hconv3
  obtain ⟨hlegs3, hvolts3, hvm3⟩ := hconv3
  have hlegQuay : ∀ l, u3.legQuay l = s.legQuay l := fun l => by
    rw [h3]
    rfl
  have hvmDie : u4.vmDie q = s.vmDie q := by
    rw [h4, h3]
    rfl
  have hphase : u4.phaseLegs q = s.phaseLegs q := by
    rw [h4, h3]
    rfl
  have hsup4 : u4.supply = s.supply := by
    rw [h4, h3]
    rfl
  refine ⟨o1, o2, o3, o4, o5, o6, o7, o8, o9, o10, o11, o12, o13, o14, o15, fun l code volts pre hpre hl hq => ?_, fun l hl => ?_, fun d hd => ?_, fun hd => ?_,
    fun k hk hm => ?_, fun k hk => ?_, fun n => ?_, fun r hr => State.quay_of_blank hall (by simpa using hr), State.eq_take (ps := [.quay, .cell, .sd, .leg, .supply, .flt, .transit, .trace, .free]) (State.blank_mono hall (by simp))⟩
  · have hadc : u3.adcCurrent l code = ((code.toNat : Rat) - 8192) * 1800 / (16384 * (legShuntGain s l : Rat) * ((legRshunt s l : Rat) / 1000000)) := by
      rw [h3]
      rfl
    obtain ⟨hc, hv, hform⟩ := hlast4 l code volts pre hpre hl ((hlegQuay l).trans hq)
    rw [hleg, hforms.1, hforms.2.1]
    refine ⟨hc.trans (congrArg some hadc), hv, fun hno => ?_, fun n hn hin => ?_⟩
    · rw [hc, hv]
      exact hform (Bool.eq_false_iff.2 fun hw => (by obtain ⟨n, hn, hin⟩ := (hwaits l).1 hw; exact hno n hn hin))
    · obtain ⟨w1, w2⟩ := hwait4 l ((hwaits l).2 ⟨n, hn, hin⟩)
      exact ⟨w1.trans (by rw [hlegs3]), w2.trans (by rw [hvolts3])⟩
  · rw [hleg, hne4 l (by rwa [hlegQuay]), h3]
    rfl
  · obtain ⟨hsup, hvm⟩ := hdie5 d (by rw [hvmDie]; exact hd)
    have hany : (u4.phaseLegs q).any (fun l => isLocal l && u4.awaitsLane q (u4.laneOf l)) = true ↔
        ∃ l ∈ s.phaseLegs q, ∃ n, l.val < 32 ∧ s.laneOf l = some n ∧ InputId.lane n ∈ s.awaited q := by
      rw [List.any_eq_true, hphase]
      refine exists_congr fun l => and_congr_right fun _ => ?_
      rw [Bool.and_eq_true, isLocal, decide_eq_true_eq, hs4.awaits, hwaits]
      exact ⟨fun ⟨h, n, hn, hin⟩ => ⟨n, h, hn, hin⟩, fun ⟨n, h, hn, hin⟩ => ⟨h, n, hn, hin⟩⟩
    rw [hforms.2.2, hsupply, hsup]
    refine ⟨by rw [hsup4], fun hno => ?_, ?_⟩
    · rw [hvm, if_neg]
      rw [hany]
      rintro ⟨l, hl, n, hlt, hn, hin⟩
      exact hno l hl n hlt hn hin
    · intro l hl n hlt hn hin
      rw [hvm, if_pos (hany.2 ⟨l, hl, n, hlt, hn, hin⟩), hvm4, hvm3]
  · rw [hsupply, hnone5 (by rw [hvmDie]; exact hd), hsup4]
  · rw [hcell]
    exact hawait3 k ((s.mem_cellsOf k q).1 hk) hm
  · rw [hcell]
    exact hcell3 k fun h => hk ((s.mem_cellsOf k q).2 h)
  · rw [hsd, hsd3 n]

end Sys2Proof.Machine
end

section
namespace Sys2Proof.Machine

/-! ### What an iteration leaves of the snapshots that the quays have formed (R76) -/

/-- The formed snapshot of a quay and the one its engine has: whether they wait, and since when. -/
def Quay.formed (x : Quay) : (Bool × Nat) × Bool × Option Nat × Nat := ((x.form.complete, x.form.closedAt), x.snap.complete, x.iterAt, x.ranAt)

/-- The time base, and what the quays have formed. -/
def State.formed (s : State) : TimeBase × Vector ((Bool × Nat) × Bool × Option Nat × Nat) 12 := (s.tb, s.quay.map Quay.formed)

section
variable (s : State) (q : QuayNo)

@[simp] theorem State.modQuay_formed (f : Quay → Quay) (h : ∀ x, (f x).form.complete = x.form.complete ∧ (f x).form.closedAt = x.form.closedAt ∧
    (f x).snap.complete = x.snap.complete ∧ (f x).iterAt = x.iterAt ∧ (f x).ranAt = x.ranAt) :
    (s.modQuay q f).formed = s.formed := by
  have hset : (vmod s.quay q f).map Quay.formed = s.quay.map Quay.formed := by
    have hq : (f s.quay[q]).formed = s.quay[q].formed := by
      obtain ⟨h1, h2, h3, h4, h5⟩ := h s.quay[q]
      rw [Quay.formed, h1, h2, h3, h4, h5, Quay.formed]
    rw [vmod, Vector.map_set, hq]
    refine Vector.ext fun i hi => ?_
    by_cases hi : q.val = i
    · subst hi
      simp
    · rw [Vector.getElem_set_ne _ _ hi]
  exact congrArg (Prod.mk s.tb) hset

@[simp] theorem forAll_formed {α : Type} (xs : List α) (f : State → α → State) (h : ∀ t a, (f t a).formed = t.formed) : (forAll xs s f).formed = s.formed :=
  forAll_keeps (P := fun t => t.formed = s.formed) rfl fun t ht a _ => (h t a).trans ht

@[simp] theorem foldl_formed {α : Type} (xs : List α) (f : State → α → State) (h : ∀ t a, (f t a).formed = t.formed) : (xs.foldl f s).formed = s.formed :=
  forAll_formed s xs f h

@[simp] theorem State.groups_formed (g : List GroupMove) : ({ s with groups := g } : State).formed = s.formed := (rfl)
@[simp] theorem State.free_formed (n : Nat) : ({ s with free := n } : State).formed = s.formed := (rfl)

theorem State.ite_formed {c : Prop} [Decidable c] (t u : State) : (if c then t else u).formed = if c then t.formed else u.formed := apply_ite _ _ _ _

@[simp] theorem State.leaveShare_formed : (s.leaveShare q).formed = s.formed := by
  simp [State.leaveShare, State.ite_formed]
@[simp] theorem State.modIh_formed (f : Channel → Channel) : (s.modIh f).formed = s.formed := (rfl)
@[simp] theorem State.publish_formed : (s.publish q).formed = s.formed := by
  unfold State.publish
  (repeat' split) <;> simp
@[simp] theorem State.modCore_formed (f : AxisCore → AxisCore) : (s.modCore q f).formed = s.formed := by
  simp [State.modCore]
@[simp] theorem State.applyRelease_formed : (s.applyRelease q).formed = s.formed := by
  unfold State.applyRelease
  (repeat' split) <;> simp
@[simp] theorem State.modLeg_formed (l : LegNo) (f : Leg → Leg) : (s.modLeg l f).formed = s.formed := (rfl)
@[simp] theorem State.blockLeg_formed (l : LegNo) : (s.blockLeg l).formed = s.formed := by
  simp [State.blockLeg]
@[simp] theorem State.modFlt_formed (f : Collector → Collector) : (s.modFlt f).formed = s.formed := (rfl)
@[simp] theorem State.pulse_formed (level : Nat) : (s.pulse level).formed = s.formed := by
  simp [State.pulse, State.ite_formed]
@[simp] theorem State.cutSteps_formed : (s.cutSteps q).formed = s.formed := by
  simp [State.cutSteps]
@[simp] theorem State.blockPulses_formed : (s.blockPulses q).formed = s.formed := by
  simp [State.blockPulses]
@[simp] theorem State.modPort_formed (p : Side) (f : Port → Port) : (s.modPort p f).formed = s.formed := (rfl)
@[simp] theorem State.event_formed (o : AcceptedOp) (status : Byte) (advice : U16) (result : Nat) : (s.event o status advice result).formed = s.formed := (rfl)
@[simp] theorem State.eventOpt_formed (o : Option AcceptedOp) (status : Byte) (advice : U16) (result : Nat) : (s.eventOpt o status advice result).formed = s.formed := by
  unfold State.eventOpt
  (repeat' split) <;> simp
@[simp] theorem State.abandon_formed (arm : Bool) (start : Bool) : (s.abandon q arm start).formed = s.formed := by
  simp [State.abandon, State.ite_formed]
@[simp] theorem State.releaseLegs_formed : (s.releaseLegs q).formed = s.formed := by
  simp [State.releaseLegs]
@[simp] theorem State.rewriteTable_formed : (s.rewriteTable q).formed = s.formed := by
  simp [State.rewriteTable, State.ite_formed]
@[simp] theorem State.modLane_formed (n : LaneNo) (f : Lane → Lane) : (s.modLane n f).formed = s.formed := (rfl)
@[simp] theorem State.sendLane_formed (n : LaneNo) (f : GwFrame) : (s.sendLane n f).formed = s.formed := (rfl)
@[simp] theorem State.sendMask_formed (ls : List LegNo) (mk : Byte → GwFrame) : (s.sendMask ls mk).formed = s.formed := by
  simp [State.sendMask, State.ite_formed]
@[simp] theorem State.zeroRefs_formed : (s.zeroRefs q).formed = s.formed := by
  simp [State.zeroRefs, State.ite_formed]
@[simp] theorem State.afterEnter_formed (st : AxisState) : (s.afterEnter q st).formed = s.formed := by
  simp [State.afterEnter, State.ite_formed]
@[simp] theorem State.leaveGroup_formed : (s.leaveGroup q).formed = s.formed := by
  simp [State.leaveGroup]
@[simp] theorem State.resume_formed (l : LegNo) : (s.resume l).formed = s.formed := by
  unfold State.resume
  (repeat' split) <;> simp
@[simp] theorem State.orderLocal_formed (old : State) (l : LegNo) : (State.orderLocal old s l).formed = s.formed := by
  unfold State.orderLocal
  (repeat' split) <;> simp
@[simp] theorem State.stateFrame_formed (old : State) (n : LaneNo) : (State.stateFrame old s n).formed = s.formed := by
  simp [State.stateFrame, State.ite_formed]
@[simp] theorem State.syncLegs_formed (old : State) : (State.syncLegs old s).formed = s.formed := by
  simp [State.syncLegs]
@[simp] theorem State.enter_formed (st : AxisState) (k : StopKind) : (s.enter q st k).formed = s.formed := by
  simp [State.enter, State.ite_formed]
@[simp] theorem State.enterStopping_formed (k : StopKind) : (s.enterStopping q k).formed = s.formed := by
  simp [State.enterStopping]
@[simp] theorem State.applyStop_formed (k : StopKind) : (s.applyStop q k).formed = s.formed := by
  unfold State.applyStop
  (repeat' split) <;> simp
@[simp] theorem State.applyFlags_formed : (s.applyFlags q).formed = s.formed := by
  simp [State.applyFlags, State.ite_formed]
@[simp] theorem State.modReg_formed (f : Regs → Regs) : (s.modReg q f).formed = s.formed := by
  simp [State.modReg]
@[simp] theorem State.catchDone_formed : (s.catchDone q).formed = s.formed := by
  simp [State.catchDone]
@[simp] theorem State.enterPhase_formed (p : Nat) : (s.enterPhase q p).formed = s.formed := by
  simp [State.enterPhase, State.ite_formed]
@[simp] theorem State.takenStanding_formed : (s.takenStanding q).formed = s.formed := by
  simp [State.takenStanding]
@[simp] theorem State.observed_formed (n : Rat) (standing : Bool) : (s.observed q n standing).formed = s.formed := by
  simp [State.observed, State.ite_formed]
@[simp] theorem State.catchRefused_formed : (s.catchRefused q).formed = s.formed := by
  simp [State.catchRefused]
@[simp] theorem State.searchStep_formed : (s.searchStep q).formed = s.formed := by
  simp [State.searchStep, State.ite_formed]
@[simp] theorem State.catchStep_formed : (s.catchStep q).formed = s.formed := by
  unfold State.catchStep
  dsimp only
  (repeat' split) <;> simp
@[simp] theorem State.dwells_formed : (s.dwells q).formed = s.formed := by
  simp [State.dwells]
@[simp] theorem State.modCell_formed (k : CellNo) (f : Cell → Cell) : (s.modCell k f).formed = s.formed := (rfl)
@[simp] theorem State.emuHold_formed (k : CellNo) : (s.emuHold k).formed = s.formed := (rfl)
@[simp] theorem State.raise_formed (e : FaultEvent) : (s.raise e).formed = s.formed := (rfl)
@[simp] theorem State.raiseQuay_formed (src : Nat) (q : QuayNo) (ctx : Ctx) : (s.raiseQuay src q ctx).formed = s.formed := (rfl)
@[simp] theorem State.emulate_formed (k : CellNo) (e target : Int) (period : Nat) : (s.emulate k e target period).formed = s.formed := by
  unfold State.emulate
  (repeat' split) <;> simp [State.ite_formed]
@[simp] theorem State.emulateAngle_formed (stale : Bool) : (s.emulateAngle q stale).formed = s.formed := by
  simp [State.emulateAngle, State.ite_formed]
@[simp] theorem State.finishGroups_formed : s.finishGroups.formed = s.formed := by
  rw [s.finishGroups_eq]
  refine foldl_formed s _ _ fun t g => ?_
  rw [t.endGroup_eq]
  have hentry : (t.groupEntry g).formed = t.formed := by
    unfold State.groupEntry
    split <;> rfl
  exact (foldl_formed _ _ _ fun u e => by simp [State.ite_formed]).trans hentry
@[simp] theorem State.settle_formed : (s.settle q).formed = s.formed := by
  simp [State.settle, State.ite_formed]
@[simp] theorem State.modHwPort_formed (p : Side) (f : HwPort → HwPort) : (s.modHwPort p f).formed = s.formed := (rfl)
@[simp] theorem State.hwSend_formed (p : Side) (f : HwFrame) : (s.hwSend p f).formed = s.formed := (rfl)
@[simp] theorem State.modHw_formed (f : Hawser → Hawser) : (s.modHw f).formed = s.formed := (rfl)
@[simp] theorem State.originate_formed (src : Word) (ty : Nat) (mk : HwHeader → HwFrame) : (s.originate src ty mk).formed = s.formed := by
  simp [State.originate, State.ite_formed]
@[simp] theorem State.inputArrived_formed (i : InputId) (f : Snapshot → Snapshot) (h : ∀ x, (f x).complete = x.complete ∧ (f x).closedAt = x.closedAt) :
    (s.inputArrived q i f).formed = s.formed := by
  refine s.modQuay_formed q _ fun x => ?_
  split
  · exact ⟨(h _).1, (h _).2, rfl, rfl, rfl⟩
  · exact ⟨rfl, rfl, rfl, rfl, rfl⟩
@[simp] theorem State.takeShare_formed (src : Word) (v : HwShare) : (s.takeShare q src v).formed = s.formed := by
  simp [State.takeShare, State.ite_formed]
@[simp] theorem State.sendShare_formed : (s.sendShare q).formed = s.formed := by
  simp [State.sendShare]
@[simp] theorem State.takeStat_formed (src : Word) (st : HwShareStat) : (s.takeStat q src st).formed = s.formed := by
  simp [State.takeStat]
@[simp] theorem State.sendStat_formed : (s.sendStat q).formed = s.formed := by
  simp [State.sendStat]
@[simp] theorem State.shareSend_formed : (s.shareSend q).formed = s.formed := by
  simp [State.shareSend, State.ite_formed]
@[simp] theorem State.speedMonitors_formed : (s.speedMonitors q).formed = s.formed := by
  simp [State.speedMonitors, State.ite_formed]
@[simp] theorem State.trackArrival_formed : (s.trackArrival q).formed = s.formed := by
  unfold State.trackArrival
  (repeat' split) <;> simp
@[simp] theorem State.crashStep_formed : (s.crashStep q).formed = s.formed := by
  unfold State.crashStep
  dsimp only
  (repeat' split) <;> simp
@[simp] theorem State.balanceMonitor_formed : (s.balanceMonitor q).formed = s.formed := by
  simp [State.balanceMonitor]
@[simp] theorem State.loadStep_formed : (s.loadStep q).formed = s.formed := by
  simp [State.loadStep]
@[simp] theorem State.shortStep_formed : (s.shortStep q).formed = s.formed := by
  simp [State.shortStep, State.ite_formed]
@[simp] theorem State.voltMonitor_formed : (s.voltMonitor q).formed = s.formed := by
  simp [State.voltMonitor, State.ite_formed]
@[simp] theorem State.focControl_formed : (s.focControl q).1.formed = s.formed := by
  unfold State.focControl
  dsimp only
  (repeat' split) <;> simp
@[simp] theorem State.modGen_formed (f : ProfileGen → ProfileGen) : (s.modGen q f).formed = s.formed := by
  simp [State.modGen]
@[simp] theorem State.genStart_formed : (s.genStart q).formed = s.formed := by
  simp [State.genStart, State.ite_formed]
@[simp] theorem State.genStop_formed : (s.genStop q).formed = s.formed := by
  simp [State.genStop]
@[simp] theorem State.genZero_formed : (s.genZero q).formed = s.formed := by
  simp [State.genZero]
@[simp] theorem State.modHoming_formed (f : Homing → Homing) : (s.modHoming q f).formed = s.formed := by
  simp [State.modHoming]
@[simp] theorem State.homeReached_formed : (s.homeReached q).formed = s.formed := by
  simp [State.homeReached]
@[simp] theorem State.shiftPosition_formed (d : Int) : (s.shiftPosition q d).formed = s.formed := by
  unfold State.shiftPosition
  (repeat' split) <;> simp
@[simp] theorem State.homeReference_formed (hm : Homing) (ref : Int) : (s.homeReference q hm ref).formed = s.formed := by
  simp [State.homeReference, State.ite_formed]
@[simp] theorem State.homeSpeedStep_formed (w : Rat) : (s.homeSpeedStep q w).formed = s.formed := by
  simp [State.homeSpeedStep]
@[simp] theorem State.homePhase_formed (hm : Homing) : (s.homePhase q hm).formed = s.formed := by
  unfold State.homePhase
  dsimp only
  (repeat' split) <;> simp
@[simp] theorem State.homingStep_formed : (s.homingStep q).formed = s.formed := by
  unfold State.homingStep
  dsimp only
  (repeat' split) <;> simp
@[simp] theorem State.setGroup_formed (g : GroupMove) : (s.setGroup g).formed = s.formed := by
  simp [State.setGroup]
@[simp] theorem State.groupWait_formed (g : GroupMove) : (s.groupWait q g).formed = s.formed := by
  simp [State.groupWait, State.ite_formed]
@[simp] theorem State.groupStep_formed (g : GroupMove) : (s.groupStep q g).formed = s.formed := by
  unfold State.groupStep
  (repeat' split) <;> simp [State.ite_formed]
@[simp] theorem State.startMotion_formed (m : Motion) : (s.startMotion q m).formed = s.formed := by
  simp [State.startMotion]
@[simp] theorem State.motionStep_formed : (s.motionStep q).formed = s.formed := by
  unfold State.motionStep
  dsimp only
  (repeat' split) <;> simp
@[simp] theorem State.speedGen_formed : (s.speedGen q).formed = s.formed := by
  simp [State.speedGen]
@[simp] theorem State.genStep_formed : (s.genStep q).formed = s.formed := by
  unfold State.genStep
  dsimp only
  (repeat' split) <;> simp
@[simp] theorem State.homeDone_formed : (s.homeDone q).formed = s.formed := by
  simp [State.homeDone]
@[simp] theorem State.homeEnd_formed : (s.homeEnd q).formed = s.formed := by
  simp [State.homeEnd, State.ite_formed]
@[simp] theorem State.ifStep_formed : (s.ifStep q).formed = s.formed := by
  simp [State.ifStep, State.ite_formed]
@[simp] theorem State.leaveRun_formed : (s.leaveRun q).formed = s.formed := by
  simp [State.leaveRun]
@[simp] theorem State.limitBoth_formed : (s.limitBoth q).formed = s.formed := by
  simp [State.limitBoth, State.ite_formed]
@[simp] theorem State.limitStep_formed : (s.limitStep q).formed = s.formed := by
  simp [State.limitStep, State.ite_formed]
@[simp] theorem State.recatch_formed : (s.recatch q).formed = s.formed := by
  simp [State.recatch]
@[simp] theorem State.lossStep_formed : (s.lossStep q).formed = s.formed := by
  simp [State.lossStep, State.ite_formed]
@[simp] theorem State.fallBack_formed : (s.fallBack q).formed = s.formed := by
  simp [State.fallBack, State.ite_formed]
@[simp] theorem State.senseStep_formed (e : Estimates) : (s.senseStep q e).formed = s.formed := by
  simp [State.senseStep, State.ite_formed]
@[simp] theorem State.dropShare_formed : (s.dropShare q).formed = s.formed := by
  simp [State.dropShare]
@[simp] theorem State.standAlone_formed : (s.standAlone q).formed = s.formed := by
  unfold State.standAlone
  dsimp only
  (repeat' split) <;> simp
@[simp] theorem State.goAlone_formed : (s.goAlone q).formed = s.formed := by
  unfold State.goAlone
  dsimp only
  (repeat' split) <;> simp
@[simp] theorem State.loseMaster_formed : (s.loseMaster q).formed = s.formed := by
  simp [State.loseMaster]
@[simp] theorem State.followStep_formed : (s.followStep q).formed = s.formed := by
  simp [State.followStep, State.ite_formed]
@[simp] theorem State.masterStep_formed : (s.masterStep q).formed = s.formed := by
  simp [State.masterStep, State.ite_formed]
@[simp] theorem State.takeOver_formed : (s.takeOver q).formed = s.formed := by
  unfold State.takeOver
  dsimp only
  (repeat' split) <;> simp
@[simp] theorem State.shareStep_formed : (s.shareStep q).formed = s.formed := by
  simp [State.shareStep, State.ite_formed]
@[simp] theorem State.modStep_formed (f : StepKern → StepKern) : (s.modStep q f).formed = s.formed := by
  simp [State.modStep]
@[simp] theorem State.pulseStep_formed : (s.pulseStep q).formed = s.formed := by
  simp [State.pulseStep]
@[simp] theorem State.declareStall_formed : (s.declareStall q).formed = s.formed := by
  unfold State.declareStall
  dsimp only
  (repeat' split) <;> simp
@[simp] theorem State.stepperStep_formed (e : Estimates) (first : Bool) (freeze : Bool) : (s.stepperStep q e first freeze).1.formed = s.formed := by
  simp [State.stepperStep, State.ite_formed]
@[simp] theorem State.stepControl_formed (e : Estimates) : (s.stepControl q e).1.formed = s.formed := by
  unfold State.stepControl
  dsimp only
  (repeat' split) <;> simp

end

end Sys2Proof.Machine
end

section
namespace Sys2Proof.Machine

/-! ### Iterations (O19) -/

section
variable (s : State) (q : QuayNo)

theorem State.formed_quay {s t : State} (h : t.formed = s.formed) (r : QuayNo) : t.quay[r].formed = s.quay[r].formed := by
  have hmap : t.quay.map Quay.formed = s.quay.map Quay.formed := congrArg Prod.snd h
  have hr : (t.quay.map Quay.formed)[r] = (s.quay.map Quay.formed)[r] := by rw [hmap]
  simpa only [Fin.getElem_fin, Vector.getElem_map] using hr

theorem State.formed_now {s t : State} (h : t.formed = s.formed) : t.now = s.now := by
  have htb : t.tb = s.tb := congrArg Prod.fst h
  rw [State.now, htb, State.now]

/-- The end of an iteration: its snapshot is used up (R76). -/
theorem State.closeIter_spec (cmds : List (LegNo × LegCmd)) : (s.closeIter q cmds).quay[q].formed =
    ((s.quay[q].form.complete, s.quay[q].form.closedAt), false, none, s.now) := by
  unfold State.closeIter
  extract_lets x r n s1 staleAngle s2 s3
  have h1 : s1.formed = s.formed := by simp [s1]
  have h2 : s2.formed = s.formed := by simp [s2, h1]
  clear_value s2
  have hq := State.formed_quay h2 q
  have h3 : s3.quay[q].formed = ((s2.quay[q].form.complete, s2.quay[q].form.closedAt), false, none, s.now) := congrArg Quay.formed (State.modQuay_self s2 q _)
  clear_value s3
  have hend : ({ s3.shareSend q with free := s.free + 64 } : State).quay[q].formed = s3.quay[q].formed :=
    State.formed_quay (by rw [State.free_formed, State.shareSend_formed]) q
  rw [hend, h3]
  simp only [Quay.formed, Prod.mk.injEq] at hq
  rw [hq.1.1, hq.1.2]

/-- An iteration uses its snapshot up, and leaves a formed one (R76). -/
theorem State.iterate_formed (e : Estimates) : (s.iterate q e).quay[q].formed =
    ((s.quay[q].form.complete, s.quay[q].form.closedAt), false, none, s.now) := by
  unfold State.iterate
  extract_lets u s1 s2 stepped s3 s4 o t
  have h1 : s1.formed = u.formed := by simp [s1]
  have h2 : s2.formed = u.formed := by simp [s2, h1]
  have h3 : s3.formed = u.formed := by simp [s3, State.ite_formed, h2]
  have h4 : s4.formed = u.formed := by simp [s4, h3]
  clear_value s4
  have ho : o.1.formed = s.formed := by
    cases hs : stepped with
    | true => exact (congrArg (fun p : State × _ => p.1.formed) (show o = s4.stepControl q e from if_pos hs)).trans ((State.stepControl_formed _ _ _).trans h4)
    | false =>
      exact (congrArg (fun p : State × _ => p.1.formed) (show o = s4.focControl q from if_neg (hs ▸ Bool.false_ne_true))).trans ((State.focControl_formed _ _).trans h4)
  clear_value o
  have hend : (o.1.homeEnd q).formed = s.formed := (State.homeEnd_formed _ _).trans ho
  have hclose := (o.1.homeEnd q).closeIter_spec q o.2
  have hq := State.formed_quay hend q
  simp only [Quay.formed, Prod.mk.injEq] at hq
  rw [hq.1.1, hq.1.2, State.formed_now hend] at hclose
  have ht : t = (o.1.homeEnd q).closeIter q o.2 := rfl
  clear_value t
  rw [← ht] at hclose
  exact hclose

/-- An engine takes what the quay has formed, where it has nothing of the quay left (R76). -/
theorem State.startIteration_spec : (∃ c, (s.startIteration q).quay[q] =
      if s.quay[q].form.complete = true ∧ s.quay[q].snap.complete = false then
        { s.quay[q] with snap := s.quay[q].form, form := { s.quay[q].form with complete := false }, iterAt := some s.quay[q].form.closedAt, cfg := c }
      else { s.quay[q] with cfg := c }) ∧
    (∀ r : QuayNo, r ≠ q → (s.startIteration q).quay[r] = s.quay[r]) := by
  have hcond : (s.quay[q].form.complete && !s.quay[q].snap.complete) = true ↔ s.quay[q].form.complete = true ∧ s.quay[q].snap.complete = false := by simp
  unfold State.startIteration
  extract_lets s1
  have h1 : s1.quay[q] = (if s.quay[q].form.complete = true ∧ s.quay[q].snap.complete = false then
        { s.quay[q] with snap := s.quay[q].form, form := { s.quay[q].form with complete := false }, iterAt := some s.quay[q].form.closedAt }
      else s.quay[q]) ∧ ∀ r : QuayNo, r ≠ q → s1.quay[r] = s.quay[r] := by
    by_cases hc : s.quay[q].form.complete = true ∧ s.quay[q].snap.complete = false
    · rw [show s1 = _ from if_pos (hcond.2 hc), if_pos hc]
      exact ⟨State.modQuay_self _ _ _, fun r hr => State.modQuay_ne _ _ hr.symm⟩
    · rw [show s1 = s from if_neg fun h => hc (hcond.1 h), if_neg hc]
      exact ⟨rfl, fun _ _ => rfl⟩
  clear_value s1
  obtain ⟨hq, hne⟩ := h1
  split
  · refine ⟨⟨some (s1.quay[q].oldCfg.getD s1.working), ?_⟩, fun r hr => (State.modQuay_ne _ _ hr.symm).trans (hne r hr)⟩
    rw [State.modQuay_self, hq]
    split <;> rfl
  · refine ⟨⟨s1.quay[q].cfg, ?_⟩, hne⟩
    rw [hq]
    split <;> rfl

theorem partnerOf_ne : partnerOf q ≠ q := by
  unfold partnerOf
  revert q
  decide

/-- The device after an iteration of a quay. -/
def State.iterated (e : Estimates) : State :=
  (((((s.overrun q).iterate q e).noteIteration q (s.iterLate q)).rewriteTable q).startIteration q).startIteration (partnerOf q)

theorem execIterationComplete_eq (e : Estimates) : execIterationComplete q e s =
    if s.quay[q].snap.complete = true ∧ s.hm.grant ≠ none ∧ s.hasKernel q = true ∧ s.afterPartner q = false then .next (s.iterated q e) else .next s := by
  refine if_congr ?_ rfl rfl
  rw [Bool.and_eq_true, Bool.and_eq_true, Bool.and_eq_true, Option.isSome_iff_ne_none, Bool.not_eq_true', and_assoc, and_assoc]

theorem State.iterated_spec (e : Estimates) : (s.iterated q e).quay[q].snap.complete = s.quay[q].form.complete ∧
    (s.iterated q e).quay[q].form.complete = false ∧
    (s.iterated q e).quay[q].iterAt = (if s.quay[q].form.complete = true then some s.quay[q].form.closedAt else none) ∧
    (s.iterated q e).quay[q].ranAt = s.now ∧ (s.iterated q e).base = s.base := by
  have hover : (s.overrun q).quay = s.quay ∧ (s.overrun q).now = s.now := by
    unfold State.overrun
    split <;> exact ⟨rfl, rfl⟩
  have hiter := (s.overrun q).iterate_formed q e
  rw [hover.1, hover.2] at hiter
  have hbase : (s.iterated q e).base = s.base := by simp [State.iterated]
  refine (and_assoc.trans (and_assoc.trans and_assoc)).1 ⟨?_, hbase⟩
  unfold State.iterated
  generalize (s.overrun q).iterate q e = u at hiter
  have hw : ((u.noteIteration q (s.iterLate q)).rewriteTable q).quay[q].formed = u.quay[q].formed :=
    (State.formed_quay (State.rewriteTable_formed _ q) q).trans rfl
  rw [hiter] at hw
  generalize (u.noteIteration q (s.iterLate q)).rewriteTable q = w at hw
  obtain ⟨⟨c, hstart⟩, -⟩ := w.startIteration_spec q
  obtain ⟨-, hpartner⟩ := (w.startIteration q).startIteration_spec (partnerOf q)
  rw [hpartner q (partnerOf_ne q).symm, hstart]
  simp only [Quay.formed, Prod.mk.injEq] at hw
  obtain ⟨⟨hc, hat⟩, hsnap, hiterAt, hran⟩ := hw
  by_cases hform : s.quay[q].form.complete = true
  · rw [if_pos ⟨hc.trans hform, hsnap⟩, if_pos hform]
    exact ⟨⟨⟨by rw [hform]; exact hc.trans hform, rfl⟩, congrArg some hat⟩, hran⟩
  · rw [if_neg fun h => hform (hc.symm.trans h.1), if_neg hform]
    exact ⟨⟨⟨hsnap.trans (Bool.eq_false_iff.2 hform).symm, hc.trans (Bool.eq_false_iff.2 hform)⟩, hiterAt⟩, hran⟩

end

end Sys2Proof.Machine
end

section
namespace Sys2Proof.Machine

/-! ### Snapshots that close (R74 to R76) -/

section
variable {α : Type} (s : State) (q : QuayNo)

theorem State.abandonArm_keeps (g : Quay → α) (r : QuayNo) (hc : ∀ (x : Quay) (c : AxisCore), g { x with core := c } = g x)
    (h : ∀ x : Quay, g { x with eff := x.core, coreCopy := x.core } = g x) : g (s.abandonArm q).quay[r] = g s.quay[r] := by
  refine (State.modCore_keeps g _ q r _ hc h).trans ?_
  rw [State.eventOpt_quay]

/-- What averaging the offsets leaves of a quay. -/
theorem State.averageOffsets_keeps (g : Quay → α) (r : QuayNo) (hc : ∀ (x : Quay) (c : AxisCore), g { x with core := c } = g x)
    (h : ∀ x : Quay, g { x with eff := x.core, coreCopy := x.core } = g x)
    (ho : ∀ (x : Quay) a b, g { x with offSum := a, offsets := b } = g x) : g (s.averageOffsets q).quay[r] = g s.quay[r] := by
  unfold State.averageOffsets
  extract_lets x n sums done fresh bad s1
  have h1 : g s1.quay[r] = g s.quay[r] := s.modQuay_keeps g q r fun x => ho x _ _
  split
  · rfl
  · split
    · exact (State.abandonArm_keeps _ q g r hc h).trans h1
    · exact h1

theorem State.averageOffsets_blank {ps : List Part} (h : Covers ps [.quayAt q, .ih, .port, .transit]) : (s.averageOffsets q).blank ps = s.blank ps := by
  simp at h
  unfold State.averageOffsets
  extract_lets x n sums done fresh bad s1
  have h1 : s1.blank ps = s.blank ps := s.modQuay_blank q (by simp [h]) _
  split
  · rfl
  · split
    · simp [State.abandonArm, h, h1]
    · exact h1

/-- The snapshot of a quay that closes, with the inputs that are stale. -/
structure Closed (q : QuayNo) (stale : List InputId) (s t : State) : Prop where
  rest : t.blank [.quayAt q, .ih, .port, .transit] = s.blank [.quayAt q, .ih, .port, .transit]
  form : t.quay[q].form = { t.quay[q].form with
    isOpen := false, complete := true, stale := stale, closedAt := s.now, time := s.quay[q].form.time, torque := s.quay[q].form.torque
    speed := s.quay[q].form.speed, tension := s.quay[q].form.tension, ff := s.quay[q].form.ff, quick := s.quay[q].form.quick
    stop := s.quay[q].form.stop, release := s.quay[q].form.release }
  snap : t.quay[q].snap = s.quay[q].snap
  iterAt : t.quay[q].iterAt = s.quay[q].iterAt
  inputLate : t.quay[q].inputLate = s.quay[q].inputLate

theorem State.formSnapshot_closed (stale : List InputId) : Closed q stale s (s.formSnapshot q stale) := by
  have hblank : (s.averageOffsets q).blank [.quayAt q, .ih, .port, .transit] = s.blank [.quayAt q, .ih, .port, .transit] := s.averageOffsets_blank q (by simp)
  have hkept := s.averageOffsets_keeps q (fun x => (x.form, x.snap, x.iterAt, x.inputLate)) q (fun _ _ => rfl) (fun _ => rfl) (fun _ _ _ => rfl)
  simp only [Prod.mk.injEq] at hkept
  obtain ⟨hform, hsnap, hiter, hlate⟩ := hkept
  unfold State.formSnapshot
  extract_lets s0 x
  have hs0 : s0 = s.averageOffsets q := rfl
  clear_value s0
  rw [← hs0] at hblank hform hsnap hiter hlate
  refine ⟨(State.modQuay_blank _ q (by simp) _).trans hblank, ?_, ?_, ?_, ?_⟩ <;> rw [State.modQuay_self]
  · rw [hform]
  · exact hsnap
  · exact hiter
  · exact hlate

/-- What an engine has of a quay whose snapshot closes (R76). -/
theorem State.closeSnapshot_spec (stale : List InputId) :
    (s.closeSnapshot q stale).quay[q].form.isOpen = false ∧ (s.closeSnapshot q stale).base = s.base ∧
    (s.quay[q].snap.complete = false → (s.closeSnapshot q stale).quay[q].snap.complete = true ∧ (s.closeSnapshot q stale).quay[q].snap.stale = stale ∧
      (s.closeSnapshot q stale).quay[q].form.complete = false ∧
      (s.closeSnapshot q stale).quay[q].snap.time = s.quay[q].form.time ∧ (s.closeSnapshot q stale).quay[q].snap.closedAt = s.now ∧
      (s.closeSnapshot q stale).quay[q].iterAt = some s.now ∧
      (s.closeSnapshot q stale).quay[q].snap.torque = s.quay[q].form.torque ∧ (s.closeSnapshot q stale).quay[q].snap.speed = s.quay[q].form.speed ∧
      (s.closeSnapshot q stale).quay[q].snap.tension = s.quay[q].form.tension ∧ (s.closeSnapshot q stale).quay[q].snap.ff = s.quay[q].form.ff ∧
      (s.closeSnapshot q stale).quay[q].snap.quick = s.quay[q].form.quick ∧ (s.closeSnapshot q stale).quay[q].snap.stop = s.quay[q].form.stop ∧
      (s.closeSnapshot q stale).quay[q].snap.release = s.quay[q].form.release) ∧
    (s.quay[q].snap.complete = true → (s.closeSnapshot q stale).quay[q].snap = s.quay[q].snap ∧
      (s.closeSnapshot q stale).quay[q].iterAt = s.quay[q].iterAt ∧ (s.closeSnapshot q stale).quay[q].form.complete = true ∧
      (s.closeSnapshot q stale).quay[q].form.stale = stale ∧ (s.closeSnapshot q stale).quay[q].form.closedAt = s.now) ∧
    (s.closeSnapshot q stale).quay[q].inputLate = s.quay[q].inputLate ∧
    (∀ r : QuayNo, r ≠ q → (s.closeSnapshot q stale).quay[r] = s.quay[r]) ∧
    (s.closeSnapshot q stale).blank [.quay, .ih, .port, .transit] = s.blank [.quay, .ih, .port, .transit] := by
  have hbase : (s.closeSnapshot q stale).base = s.base := State.closeSnapshot_base s q stale
  obtain ⟨hrest, hform, hsnap, hiter, hlate⟩ := s.formSnapshot_closed q stale
  have hstart : ((s.formSnapshot q stale).startIteration q).blank [.quayAt q] = (s.formSnapshot q stale).blank [.quayAt q] := by
    unfold State.startIteration
    simp [State.ite_blank]
  obtain ⟨⟨c, hself⟩, hne⟩ := (s.formSnapshot q stale).startIteration_spec q
  rw [State.closeSnapshot] at hbase ⊢
  generalize s.formSnapshot q stale = u at hbase hrest hform hsnap hiter hlate hself hne hstart ⊢
  have hcomplete : u.quay[q].form.complete = true := by rw [hform]
  refine ⟨?_, hbase, fun hs => ?_, fun hs => ?_, ?_, fun r hr => (hne r hr).trans (State.quay_of_blank hrest (by simpa using hr)),
    (State.blank_mono hstart (by simp)).trans (State.blank_mono hrest (by simp))⟩
  · rw [hself]
    split
    · change u.quay[q].form.isOpen = false
      rw [hform]
    · change u.quay[q].form.isOpen = false
      rw [hform]
  · rw [hself, if_pos ⟨hcomplete, hsnap ▸ hs⟩]
    dsimp only
    rw [hform]
    exact ⟨rfl, rfl, rfl, rfl, rfl, rfl, rfl, rfl, rfl, rfl, rfl, rfl, rfl⟩
  · rw [hself, if_neg fun h => absurd ((hsnap ▸ h.2).symm.trans hs) (by decide)]
    dsimp only
    rw [hform]
    exact ⟨hsnap, hiter, rfl, rfl, rfl⟩
  · rw [hself]
    split
    · exact hlate
    · exact hlate

end

/-! ### Inputs that are missing at the deadline (R75) -/

section
variable (s : State)

/-- A missing input of a snapshot with a sample event. -/
def State.staleInput (t : Nat) (u : State) (i : InputId) : State :=
  match i with
  | .cell k => ((u.modCell k (fun c => if fbMode s k ≤ 2 then c.staleEdges else c.staleAt t)).give k).emulateOwn k true
  | _ => u

theorem State.staleCells_eq (t : Nat) (is : List InputId) : s.staleCells t is = forAll is s (s.staleInput t) := rfl

/-- A device in which missing inputs of a snapshot are stale. -/
structure Staled (s u : State) : Prop where
  rest : u.blank [.cell, .quay, .transit] = s.blank [.cell, .quay, .transit]
  quay : ∀ r : QuayNo, u.quay[r].viewless = s.quay[r].viewless

variable {s} {u : State}

theorem Staled.cellQuay (h : Staled s u) (k : CellNo) : u.cellQuay k = s.cellQuay k := by
  rw [State.eq_take h.rest]
  rfl

theorem Staled.mode (h : Staled s u) (k : CellNo) : fbMode u k = fbMode s k := by
  rw [State.eq_take h.rest]
  rfl

/-- The quays after one missing cell. -/
theorem State.staleInput_quay (t : Nat) (k : CellNo) : (∀ r : QuayNo, (s.staleInput t u (.cell k)).quay[r].viewless = u.quay[r].viewless) ∧
    ∀ r : QuayNo, u.cellQuay k ≠ some r → (s.staleInput t u (.cell k)).quay[r] = u.quay[r] := by
  unfold State.staleInput
  dsimp only
  have hmod : (u.modCell k (fun c => if fbMode s k ≤ 2 then c.staleEdges else c.staleAt t)).quay = u.quay := rfl
  have hcq : (u.modCell k (fun c => if fbMode s k ≤ 2 then c.staleEdges else c.staleAt t)).cellQuay k = u.cellQuay k := rfl
  generalize u.modCell k (fun c => if fbMode s k ≤ 2 then c.staleEdges else c.staleAt t) = w at hmod hcq
  have hemu : ((w.give k).emulateOwn k true).quay = (w.give k).quay :=
    (congrArg State.quay (State.eq_take ((w.give k).emulateOwn_blank (ps := [.cell, .transit]) k true (by simp))) :)
  obtain ⟨-, -, hothers⟩ := w.give_spec k
  rw [hemu]
  refine ⟨fun r => (w.give_viewless k r).trans (by rw [hmod]), fun r hr => (hothers r (by rw [hcq]; exact hr)).trans (by rw [hmod])⟩

theorem State.staleInput_rest (t : Nat) (i : InputId) : (s.staleInput t u i).blank [.cell, .quay, .transit] = u.blank [.cell, .quay, .transit] := by
  cases i with
  | cell k =>
    exact (State.emulateOwn_blank _ k true (by simp)).trans ((State.give_blank _ k (by simp)).trans (State.modCell_blank _ k (by simp) _))
  | _ => rfl

theorem Staled.step (h : Staled s u) (t : Nat) (i : InputId) : Staled s (s.staleInput t u i) := by
  refine ⟨(State.staleInput_rest t i).trans h.rest, fun r => ?_⟩
  cases i with
  | cell k => exact ((State.staleInput_quay t k).1 r).trans (h.quay r)
  | _ => exact h.quay r

theorem Cell.staleEdges_stale (c : Cell) : c.staleEdges.stale = true := by
  unfold Cell.staleEdges
  split <;> rfl

/-- A missing cell is stale, and a conversion of it is no longer awaited (R343, R393). -/
theorem State.staleInput_cell (t : Nat) (k : CellNo) : (s.staleInput t u (.cell k)).cell[k].stale = true ∧
    (3 ≤ fbMode s k → (s.staleInput t u (.cell k)).cell[k].await = none) := by
  have hself := u.modCell_self k (fun c => if fbMode s k ≤ 2 then c.staleEdges else c.staleAt t)
  unfold State.staleInput
  dsimp only
  generalize u.modCell k (fun c => if fbMode s k ≤ 2 then c.staleEdges else c.staleAt t) = w at hself
  have hbare : ((w.give k).emulateOwn k true).cell[k].bare = w.cell[k].bare := ((w.give_follows k).trans ((w.give k).emulateOwn_follows k true)).cell
  have hstale : ((w.give k).emulateOwn k true).cell[k].stale = w.cell[k].stale := (congrArg Cell.stale hbare :)
  have hawait : ((w.give k).emulateOwn k true).cell[k].await = w.cell[k].await := (congrArg Cell.await hbare :)
  rw [hstale, hawait, hself]
  split
  next hm => exact ⟨Cell.staleEdges_stale _, fun h => absurd h (by omega)⟩
  next => exact ⟨rfl, fun _ => rfl⟩

theorem State.staleInput_cell_ne (t : Nat) {i : InputId} {k : CellNo} (h : i ≠ .cell k) : (s.staleInput t u i).cell[k] = u.cell[k] := by
  cases i with
  | cell j =>
    have hj : j ≠ k := fun e => h (congrArg InputId.cell e)
    exact State.cell_of_blank (ps := [.cellAt j, .quay, .transit])
      ((State.emulateOwn_blank _ j true (by simp)).trans ((State.give_blank _ j (by simp)).trans (State.modCell_blank _ j (by simp) _))) (by simpa using hj.symm)
  | _ => rfl

theorem State.staleCells_spec (s : State) (t : Nat) (is : List InputId) : Staled s (s.staleCells t is) ∧
    (∀ k : CellNo, InputId.cell k ∈ is → (s.staleCells t is).cell[k].stale = true ∧ (3 ≤ fbMode s k → (s.staleCells t is).cell[k].await = none)) ∧
    ∀ r : QuayNo, (∀ k : CellNo, InputId.cell k ∈ is → s.cellQuay k ≠ some r) → (s.staleCells t is).quay[r] = s.quay[r] := by
  rw [s.staleCells_eq]
  refine ⟨forAll_keeps ⟨rfl, fun _ => rfl⟩ fun u hu i _ => hu.step t i, fun k hk => ?_, fun r hr => ?_⟩
  · refine forAll_establishes (P := Staled s) (Q := fun u => u.cell[k].stale = true ∧ (3 ≤ fbMode s k → u.cell[k].await = none)) hk ⟨rfl, fun _ => rfl⟩
      (fun u hu i _ => hu.step t i) (fun u _ => State.staleInput_cell t k) fun u _ hQ i _ => ?_
    by_cases hi : i = .cell k
    · exact hi ▸ State.staleInput_cell t k
    · rw [State.staleInput_cell_ne t hi]
      exact hQ
  · refine (forAll_keeps (P := fun u => Staled s u ∧ u.quay[r] = s.quay[r]) ⟨⟨rfl, fun _ => rfl⟩, rfl⟩ fun u hu i hi => ⟨hu.1.step t i, ?_⟩).2
    cases i with
    | cell k => exact ((State.staleInput_quay t k).2 r (by rw [hu.1.cellQuay]; exact hr k hi)).trans hu.2
    | _ => exact hu.2

end

end Sys2Proof.Machine
end

section
namespace Sys2Proof.Machine

/-- The inputs that a snapshot lacks at its deadline: those that have not come, and cells whose filter still runs from the sample event (R75, R393). -/
def State.lacking (s : State) (q : QuayNo) : List InputId := s.quay[q].form.missing ++ (s.filtering q).map .cell

theorem State.lacking_eq_nil (s : State) (q : QuayNo) : s.lacking q = [] ↔ s.quay[q].form.missing = [] ∧ s.filtering q = [] := by
  rw [State.lacking, List.append_eq_nil_iff, List.map_eq_nil_iff]

/-- The device after the deadline of a snapshot. -/
def State.closedLate (s : State) (q : QuayNo) : State :=
  ((((s.staleCells s.quay[q].form.time (s.lacking q)).modQuay q (fun y => { y with inputLate := satInc y.inputLate })).closeSnapshot q (s.lacking q)).raiseQuay
    srcInputLate q)

theorem execInputDeadline_eq (q : QuayNo) (s : State) : execInputDeadline q s =
    if s.quay[q].form.isOpen = true ∧ s.lacking q ≠ [] ∧ 100 * s.quay[q].form.time + quayInputDeadline s q * s.loopPeriod q ≤ 100 * s.now then
      .next (s.closedLate q) else .next s := by
  refine if_congr ?_ rfl rfl
  have hempty : (!(s.lacking q).isEmpty) = true ↔ s.lacking q ≠ [] := by
    rw [Bool.not_eq_true', ← Bool.not_eq_true, List.isEmpty_iff]
  rw [Bool.and_eq_true, Bool.and_eq_true, decide_eq_true_eq, and_assoc]
  exact and_congr_right fun _ => and_congr_left fun _ => hempty

theorem execSnapshotComplete_eq (q : QuayNo) (s : State) : execSnapshotComplete q s =
    if s.quay[q].form.isOpen = true ∧ s.quay[q].form.missing = [] ∧ s.filtering q = [] then .next (s.closeSnapshot q []) else .next s := by
  refine if_congr ?_ rfl rfl
  rw [Bool.and_eq_true, Bool.and_eq_true, List.isEmpty_iff, List.isEmpty_iff, and_assoc]

/-- Settles O19. -/
theorem snapshotsClose : Obligations.SnapshotsClose := by
  unfold Obligations.SnapshotsClose
  refine ⟨?_, ⟨fun q e s hs hg hk hp => ?_, fun q e s h => ?_⟩, ⟨fun q s hg hk => ?_, fun q s h => ?_, fun k s hf hu => ?_, fun k s h => if_pos h⟩⟩
  · intro taken
    refine ⟨fun q s ho hm hf => ?_, fun q s h => (execSnapshotComplete_eq q s).trans (if_neg fun ⟨ho, hm, hf⟩ => ?_), fun q s ho hl hd => ?_,
      fun q s h => (execInputDeadline_eq q s).trans (if_neg fun ⟨ho, hl, hd⟩ => ?_)⟩
    · obtain ⟨h1, h2, h3, h4, -, h5, -⟩ := s.closeSnapshot_spec q []
      exact ⟨_, (execSnapshotComplete_eq q s).trans (if_pos ⟨ho, hm, hf⟩), ⟨h1, h2, h3, h4⟩, h5⟩
    · have hne : s.lacking q ≠ [] := by
        rw [Ne, s.lacking_eq_nil q]
        tauto
      refine ⟨_, (execInputDeadline_eq q s).trans (if_pos ⟨ho, hne, hd⟩), ?_⟩
      have hlack : s.quay[q].form.missing ++ (s.filtering q).map InputId.cell = s.lacking q := rfl
      rw [hlack]
      have hmem : ∀ k : CellNo, InputId.cell k ∈ s.lacking q ↔ InputId.cell k ∈ s.quay[q].form.missing ∨ k ∈ s.filtering q := fun k => by
        rw [State.lacking, List.mem_append, List.mem_map]
        simp
      obtain ⟨⟨hrest, hviewless⟩, hcells, hquays⟩ := s.staleCells_spec s.quay[q].form.time (s.lacking q)
      have hubase := State.staleCells_base s s.quay[q].form.time (s.lacking q)
      unfold State.closedLate
      generalize s.lacking q = missing at hmem hrest hviewless hcells hquays hubase ⊢
      generalize s.staleCells s.quay[q].form.time missing = u at hrest hviewless hcells hquays hubase
      have hself := u.modQuay_self q (fun y => { y with inputLate := satInc y.inputLate })
      have hother : ∀ r : QuayNo, r ≠ q → (u.modQuay q (fun y => { y with inputLate := satInc y.inputLate })).quay[r] = u.quay[r] := fun r hr =>
        u.modQuay_ne _ hr.symm
      have hb : (u.modQuay q (fun y => { y with inputLate := satInc y.inputLate })).blank [.cell, .quay, .transit] = s.blank [.cell, .quay, .transit] :=
        (u.modQuay_blank q (by simp) _).trans hrest
      have hcell : (u.modQuay q (fun y => { y with inputLate := satInc y.inputLate })).cell = u.cell := rfl
      have hwbase : (u.modQuay q (fun y => { y with inputLate := satInc y.inputLate })).base = s.base := (State.modQuay_base _ _ _).trans hubase
      generalize u.modQuay q (fun y => { y with inputLate := satInc y.inputLate }) = w at hself hother hb hcell hwbase
      have hview : w.quay[q].viewless = { s.quay[q].viewless with inputLate := satInc s.quay[q].inputLate } :=
        (congrArg Quay.viewless hself).trans (congrArg (fun x : Quay => { x with inputLate := satInc x.inputLate }) (hviewless q) :)
      have hnow : w.now = s.now := by
        rw [State.eq_take hb]
        rfl
      have hform : ∀ {β : Type} (g : Quay → β), (∀ x : Quay, g x.viewless = g x) → (∀ x n, g { x with inputLate := n } = g x) → g w.quay[q] = g s.quay[q] :=
        fun g hv hl => by rw [← hv, hview, hl, hv]
      have hkept := hform (fun x => (x.form.time, x.form.torque, x.form.speed, x.form.tension, x.form.ff, x.form.quick, x.form.stop, x.form.release,
        x.snap, x.iterAt)) (fun _ => rfl) fun _ _ => rfl
      simp only [Prod.mk.injEq] at hkept
      obtain ⟨k1, k2, k3, k4, k5, k6, k7, k8, k9, k10⟩ := hkept
      have hlate : w.quay[q].inputLate = satInc s.quay[q].inputLate := (congrArg Quay.inputLate hview :)
      have hsat : satInc s.quay[q].inputLate = if s.quay[q].inputLate = 65535#16 then 65535#16 else s.quay[q].inputLate + 1 := by
        unfold satInc
        split
        · assumption
        · rfl
      obtain ⟨h1, h2, h3, h4, h5, h6, h7⟩ := w.closeSnapshot_spec q missing
      rw [k1, k2, k3, k4, k5, k6, k7, k8, k9, hnow] at h3
      rw [k9, k10, hnow] at h4
      generalize w.closeSnapshot q missing = v at h1 h2 h3 h4 h5 h6 h7
      have hv7 := State.eq_take h7
      refine ⟨⟨h1, h2.trans hwbase, h3, h4⟩, h5.trans (hlate.trans hsat), ⟨_, List.mem_append_right _ (List.mem_singleton_self _), rfl, rfl, ?_⟩, fun k hk => ?_, fun r hr hno => ?_⟩
      · change v.now = s.now
        rw [hv7]
        exact hnow
      · have hcv : v.cell = u.cell := (congrArg State.cell hv7).trans hcell
        change v.cell[k].stale = true ∧ (3 ≤ fbMode s k → v.cell[k].await = none)
        rw [hcv]
        exact hcells k ((hmem k).2 hk)
      · refine (h6 r hr).trans ((hother r hr).trans (hquays r fun k hk => ?_))
        rcases (hmem k).1 hk with hm | hf
        · exact hno k hm
        · rw [(s.mem_cellsOf k q).1 (List.mem_filter.1 hf).1]
          exact fun h => hr (Option.some.inj h).symm
    · rcases h with h | h | h
      · exact absurd (h.symm.trans ho) (by decide)
      · exact h hm
      · exact h hf
    · rcases h with h | h | h
      · exact absurd (h.symm.trans ho) (by decide)
      · exact hl ((s.lacking_eq_nil q).2 h)
      · omega
  · have hspec := s.iterated_spec q e
    have hexec := (execIterationComplete_eq s q e).trans (if_pos ⟨hs, hg, hk, hp⟩)
    generalize s.iterated q e = t at hspec hexec
    exact ⟨t, hexec, hspec⟩
  · refine (execIterationComplete_eq s q e).trans (if_neg fun ⟨hs, hg, hk, hp⟩ => ?_)
    rcases h with h | h | h | h
    · exact absurd (h.symm.trans hs) (by decide)
    · exact hg h
    · exact absurd (h.symm.trans hk) (by decide)
    · exact absurd (h.symm.trans hp) (by decide)
  · exact ⟨_, if_pos (by rw [hk, Option.isSome_iff_ne_none.2 hg]; rfl), State.modQuay_self _ _ _, fun r hr => State.modQuay_ne _ _ hr.symm, rfl⟩
  · refine if_neg ?_
    rcases h with h | h
    · rw [h]
      exact Bool.false_ne_true
    · rw [h, Bool.and_false]
      exact Bool.false_ne_true
  · refine ⟨_, if_neg (by rintro (h | h); exacts [hf h, absurd (h.symm.trans hu) (by decide)]), ?_, fun j hj => State.modCell_ne _ _ hj.symm, rfl⟩
    rw [State.modCell_self]
    rfl

end Sys2Proof.Machine
end

section
namespace Sys2Proof.Machine

/-! ### Legs at the update point of their quay (R77 to R79, O20) -/

/-- The gates of a leg. -/
def Leg.gates (x : Leg) : List (Nat × Bool) × List (Nat × Bool) := (x.high, x.low)

section
variable {x y : Leg}

theorem Leg.hold_gates (h : y.gates = x.gates) (k : LegKind) (a b : Nat) : (y.hold k a b).gates = (x.hold k a b).gates := by
  obtain ⟨hhigh, hlow⟩ := Prod.mk.inj h
  cases k <;> simp only [Leg.hold, Leg.gates, hhigh, hlow]

theorem Leg.hold_ungated (x : Leg) (k : LegKind) (a b : Nat) : (x.hold k a b).ungated = x.ungated := by cases k <;> rfl

/-- What a command does to gates depends on the gates alone. -/
theorem Leg.execute_gates (h : y.gates = x.gates) (c : LegCmd) (t dead : Nat) (lowToo : Bool) :
    (y.execute c t dead lowToo).gates = (x.execute c t dead lowToo).gates := by
  obtain ⟨hhigh, hlow⟩ := Prod.mk.inj h
  have hstart : ∀ k u, (y.hold k (t + u - dead / 2) (t + u + dead / 2)).gates = (x.hold k (t + u - dead / 2) (t + u + dead / 2)).gates := fun k u => Leg.hold_gates h k _ _
  unfold Leg.execute
  dsimp only
  split
  · have hy : ∀ fall : LegKind, (if startsHigh c = true then (if endsOn y.high = true then y else y.hold .holdHigh (t + 0 - dead / 2) (t + 0 + dead / 2))
        else if (endsOn y.high || lowToo != endsOn y.low) = true then y.hold fall (t + 0 - dead / 2) (t + 0 + dead / 2) else y).gates =
        (if startsHigh c = true then (if endsOn x.high = true then x else x.hold .holdHigh (t + 0 - dead / 2) (t + 0 + dead / 2))
        else if (endsOn x.high || lowToo != endsOn x.low) = true then x.hold fall (t + 0 - dead / 2) (t + 0 + dead / 2) else x).gates := fun fall => by
      rw [hhigh, hlow]
      split
      · split
        · exact h
        · exact hstart _ _
      · split
        · exact hstart _ _
        · exact h
    split
    · split
      · exact Leg.hold_gates (Leg.hold_gates (hy _) _ _ _) _ _ _
      · exact Leg.hold_gates (Leg.hold_gates (hy _) _ _ _) _ _ _
    · exact Leg.hold_gates (hy _) _ _ _
    · exact Leg.hold_gates (hy _) _ _ _
    · exact hy _
  · exact hstart _ _

theorem Leg.execute_ungated (x : Leg) (c : LegCmd) (t dead : Nat) (lowToo : Bool) : (x.execute c t dead lowToo).ungated = x.ungated := by
  unfold Leg.execute
  dsimp only
  split
  · have hy : ∀ fall : LegKind, (if startsHigh c = true then (if endsOn x.high = true then x else x.hold .holdHigh (t + 0 - dead / 2) (t + 0 + dead / 2))
        else if (endsOn x.high || lowToo != endsOn x.low) = true then x.hold fall (t + 0 - dead / 2) (t + 0 + dead / 2) else x).ungated = x.ungated := fun fall => by
      split
      · split
        · rfl
        · exact x.hold_ungated _ _ _
      · split
        · exact x.hold_ungated _ _ _
        · rfl
    split
    · split
      · exact (Leg.hold_ungated _ _ _ _).trans ((Leg.hold_ungated _ _ _ _).trans (hy _))
      · exact (Leg.hold_ungated _ _ _ _).trans ((Leg.hold_ungated _ _ _ _).trans (hy _))
    · exact (Leg.hold_ungated _ _ _ _).trans (hy _)
    · exact (Leg.hold_ungated _ _ _ _).trans (hy _)
    · exact hy _
  · exact x.hold_ungated _ _ _

theorem State.executeLeg_ungated (s : State) (q : QuayNo) (l : LegNo) (x : Leg) (t : Nat) : (s.executeLeg q l x t).ungated = x.ungated :=
  (show (s.executeLeg q l x t).ungated = (x.execute x.inForce t (legDeadTime s l) (!s.highSideOnly q)).ungated from rfl).trans (Leg.execute_ungated _ _ _ _ _)

theorem State.executeLeg_gates (s : State) (q : QuayNo) (l : LegNo) (t : Nat) (h : y.gates = x.gates) (hc : y.inForce = x.inForce) :
    (s.executeLeg q l y t).high = (s.executeLeg q l x t).high ∧ (s.executeLeg q l y t).low = (s.executeLeg q l x t).low := by
  obtain ⟨hhigh, hlow⟩ := Prod.mk.inj (Leg.execute_gates h x.inForce t (legDeadTime s l) (!s.highSideOnly q))
  unfold State.executeLeg
  dsimp only
  rw [hc, hhigh, hlow]
  exact ⟨rfl, rfl⟩

end

section
variable (s : State) (q : QuayNo) (l : LegNo)

/-- A leg at the update point of its quay. -/
def State.legAfter (x : Leg) : Leg :=
  match (if x.fresh then x.active else none), s.heldKind l with
  | some c, h =>
    let c' := substitute c (s.loopPeriod q) (legDeadTime s l)
    let y := { x.endPeriod with inForce := c', fresh := false, missed := 0, present := true, shorts := if c' != c then x.shorts + 1 else x.shorts }
    if s.localLeg l && h.isNone then s.executeLeg q l y s.now else y
  | none, some k =>
    let y := { x.endPeriod with missed := 0 }
    if s.localLeg l && x.abandoned then y.hold k s.now (s.now + legDeadTime s l) else y
  | none, none =>
    let y := if s.localLeg l then s.executeLeg q l x.endPeriod s.now else x.endPeriod
    if s.outsideOff q then
      { y with missed := y.missed + 1, react := if 1 ≤ x.missed then (s.lateReaction q).or y.react else y.react }
    else { y with missed := 0 }

theorem State.legUpdate_leg : (s.legUpdate q l).leg[l] = s.legAfter q l s.leg[l] := by
  have hrep : (s.repeatCommand q l).leg[l] = if s.localLeg l then s.executeLeg q l s.leg[l].endPeriod s.now else s.leg[l].endPeriod := State.modLeg_self _ _ _
  unfold State.legUpdate State.legAfter
  cases (if s.leg[l].fresh then s.leg[l].active else none) with
  | some c => exact State.modLeg_self _ _ _
  | none =>
    cases s.heldKind l with
    | some k => exact State.modLeg_self _ _ _
    | none =>
      dsimp only
      split
      · have hmiss : ((s.repeatCommand q l).modLeg l (fun x => { x with missed := x.missed + 1 })).leg[l] =
            { (s.repeatCommand q l).leg[l] with missed := (s.repeatCommand q l).leg[l].missed + 1 } := State.modLeg_self _ _ _
        rw [hrep] at hmiss
        unfold State.missCommand
        dsimp only
        generalize (s.repeatCommand q l).modLeg l (fun x => { x with missed := x.missed + 1 }) = u at hmiss
        cases s.lateReaction q with
        | none =>
          rw [hmiss, Option.none_or, ite_self]
        | some k =>
          dsimp only
          by_cases hm : 1 ≤ s.leg[l].missed
          · rw [decide_eq_true hm, if_pos rfl, State.modLeg_self, hmiss, if_pos hm]
            rfl
          · rw [decide_eq_false hm, if_neg Bool.false_ne_true, hmiss, if_neg hm]
      · rw [State.modLeg_self, hrep]

theorem State.legUpdate_blank {ps : List Part} (h : .legAt l ∈ ps ∨ .leg ∈ ps) : (s.legUpdate q l).blank ps = s.blank ps := by
  unfold State.legUpdate
  split
  · exact s.modLeg_blank l h _
  · exact s.modLeg_blank l h _
  · split
    · unfold State.missCommand
      dsimp only
      split
      · split <;> simp [State.repeatCommand, h]
      · simp [State.repeatCommand, h]
    · simp [State.repeatCommand, h]

variable {s l}

/-- What holds a leg depends on boot, pins and parameters, its latch and its reaction. -/
theorem State.heldKind_of {t : State} (h : t.blank [.quay, .leg, .lane, .flt, .transit] = s.blank [.quay, .leg, .lane, .flt, .transit])
    (hlatch : t.leg[l].latch = s.leg[l].latch) (hreact : t.leg[l].react = s.leg[l].react) : t.heldKind l = s.heldKind l := by
  have hrest := State.eq_take h
  have h10 : t.afterStep10 = s.afterStep10 := by rw [hrest]; rfl
  have hlow : t.legEnLow l = s.legEnLow l := by rw [hrest]; rfl
  have hchop : t.isChopperLeg l = s.isChopperLeg l := by rw [hrest]; rfl
  have hhalt : t.haltOn = s.haltOn := by rw [hrest]; rfl
  rw [State.heldKind, State.heldKind, h10, hlow, hchop, hhalt, hlatch, hreact]

theorem State.legAfter_congr {t : State} (h : t.blank [.leg] = s.blank [.leg]) (hl : t.leg[l] = s.leg[l]) (x : Leg) : t.legAfter q l x = s.legAfter q l x := by
  have hrest := State.eq_take h
  have hheld : t.heldKind l = s.heldKind l := State.heldKind_of (State.blank_mono h (by simp)) (by rw [hl]) (by rw [hl])
  have hexec : ∀ (y : Leg) u, t.executeLeg q l y u = s.executeLeg q l y u := fun y u => by rw [hrest]; rfl
  have hperiod : t.loopPeriod q = s.loopPeriod q := by rw [hrest]; rfl
  have hdead : legDeadTime t l = legDeadTime s l := by rw [hrest]; rfl
  have hlocal : t.localLeg l = s.localLeg l := by rw [hrest]; rfl
  have hout : t.outsideOff q = s.outsideOff q := by rw [hrest]; rfl
  have hnow : t.now = s.now := by rw [hrest]; rfl
  have hlate : t.lateReaction q = s.lateReaction q := by rw [hrest]; rfl
  unfold State.legAfter
  simp only [hexec, hheld, hperiod, hdead, hlocal, hout, hlate, hnow]

theorem Leg.endPeriod_gates (x : Leg) : x.endPeriod.gates = x.gates := rfl

/-- A leg with a new command has it in force (R77, R742). -/
theorem State.legAfter_fresh {x : Leg} {c : LegCmd} (hf : x.fresh = true) (hc : x.active = some c) :
    (s.legAfter q l x).ungated = ({ x.endPeriod with
      inForce := substitute c (s.loopPeriod q) (legDeadTime s l), fresh := false, missed := 0, present := true
      shorts := if substitute c (s.loopPeriod q) (legDeadTime s l) != c then x.shorts + 1 else x.shorts } : Leg).ungated ∧
    (s.localLeg l = true → s.heldKind l = none →
      (s.legAfter q l x).high = (s.executeLeg q l { x with inForce := substitute c (s.loopPeriod q) (legDeadTime s l) } s.now).high ∧
      (s.legAfter q l x).low = (s.executeLeg q l { x with inForce := substitute c (s.loopPeriod q) (legDeadTime s l) } s.now).low) := by
  unfold State.legAfter
  rw [if_pos hf, hc]
  dsimp only
  constructor
  · split
    · exact s.executeLeg_ungated q l _ _
    · rfl
  · intro hlocal hheld
    rw [if_pos (by rw [hlocal, hheld]; rfl)]
    exact s.executeLeg_gates q l s.now rfl rfl

/-- A leg without a new command that misses it, outside OFF (R78, R79, R1078). -/
theorem State.legAfter_late {x : Leg} (hf : x.fresh = false) (hh : s.heldKind l = none) (ho : s.quay[q].core.st ≠ .off) :
    (s.legAfter q l x).ungated = ({ x.endPeriod with
      missed := x.missed + 1, react := if 1 ≤ x.missed then (s.lateReaction q).or x.react else x.react } : Leg).ungated ∧
    (s.localLeg l = true → (s.legAfter q l x).high = (s.executeLeg q l x s.now).high ∧ (s.legAfter q l x).low = (s.executeLeg q l x s.now).low) := by
  have hout : s.outsideOff q = true := bne_iff_ne.2 ho
  unfold State.legAfter
  rw [if_neg (by rw [hf]; decide), hh]
  dsimp only
  rw [if_pos hout]
  cases hlocal : s.localLeg l with
  | true =>
    rw [if_pos rfl]
    have hun := s.executeLeg_ungated q l x.endPeriod s.now
    have hg := s.executeLeg_gates q l s.now (Leg.endPeriod_gates x) rfl
    generalize s.executeLeg q l x.endPeriod s.now = y at hun hg ⊢
    have hmissed : y.missed = x.missed := (congrArg Leg.missed hun :)
    have hreact : y.react = x.react := (congrArg Leg.react hun :)
    refine ⟨?_, fun _ => hg⟩
    rw [hmissed, hreact]
    exact (congrArg (fun z : Leg => ({ z with missed := x.missed + 1, react := if 1 ≤ x.missed then (s.lateReaction q).or x.react else x.react } : Leg)) hun :)
  | false => exact ⟨rfl, fun h => absurd h (by decide)⟩

/-- A leg without a new command in OFF, and one that is held (R1078). -/
theorem State.legAfter_quiet {x : Leg} (hf : x.fresh = false) (h : s.quay[q].core.st = .off ∨ s.heldKind l ≠ none) :
    (s.legAfter q l x).ungated = ({ x.endPeriod with missed := 0 } : Leg).ungated ∧
    (s.localLeg l = true → s.heldKind l = none →
      (s.legAfter q l x).high = (s.executeLeg q l x s.now).high ∧ (s.legAfter q l x).low = (s.executeLeg q l x s.now).low) := by
  unfold State.legAfter
  rw [if_neg (by rw [hf]; decide)]
  cases hh : s.heldKind l with
  | some k =>
    refine ⟨?_, fun _ h => absurd h (by simp)⟩
    dsimp only
    split
    · exact Leg.hold_ungated _ _ _ _
    · rfl
  | none =>
    have hout : s.outsideOff q = false := bne_eq_false_iff_eq.2 (h.resolve_right fun h => h hh)
    dsimp only
    rw [if_neg (by rw [hout]; decide)]
    cases hlocal : s.localLeg l with
    | true =>
      rw [if_pos rfl]
      have hun := s.executeLeg_ungated q l x.endPeriod s.now
      have hg := s.executeLeg_gates q l s.now (Leg.endPeriod_gates x) rfl
      generalize s.executeLeg q l x.endPeriod s.now = y at hun hg ⊢
      exact ⟨(congrArg (fun z : Leg => ({ z with missed := 0 } : Leg)) hun :), fun _ _ => hg⟩
    | false => exact ⟨rfl, fun h => absurd h (by decide)⟩

end

end Sys2Proof.Machine
end

section
namespace Sys2Proof.Machine

section
variable (s : State) (q : QuayNo)

/-- The legs of a quay after its update point, before what changed is taken to their gates. -/
theorem State.legsUpdated : (forAll (s.phaseLegs q) s (fun t l => t.legUpdate q l)).blank [.leg] = s.blank [.leg] ∧
    (∀ l ∈ s.phaseLegs q, (forAll (s.phaseLegs q) s (fun t l => t.legUpdate q l)).leg[l] = s.legAfter q l s.leg[l]) ∧
    ∀ l : LegNo, l ∉ s.phaseLegs q → (forAll (s.phaseLegs q) s (fun t l => t.legUpdate q l)).leg[l] = s.leg[l] := by
  have hstep : ∀ t : State, t.blank [.leg] = s.blank [.leg] → ∀ l, (t.legUpdate q l).blank [.leg] = s.blank [.leg] := fun t ht l =>
    (t.legUpdate_blank q l (by simp)).trans ht
  have hne : ∀ (t : State) (j l : LegNo), j ≠ l → (t.legUpdate q j).leg[l] = t.leg[l] := fun t j l hj =>
    State.leg_of_blank (t.legUpdate_blank q j (ps := [.legAt j]) (by simp)) (by simpa using hj.symm)
  refine ⟨forAll_keeps (P := fun t => t.blank [.leg] = s.blank [.leg]) rfl fun t ht l _ => hstep t ht l, fun l hl => ?_, fun l hl => ?_⟩
  · obtain ⟨t, ht, hgt, hall⟩ := forAll_observe (s := s) (f := fun t l => t.legUpdate q l) (P := fun t => t.blank [.leg] = s.blank [.leg])
      (s.phaseLegs_nodup q) hl (fun t => t.leg[l]) rfl (fun t ht j _ => hstep t ht j) fun t _ j _ hj => hne t j l hj
    exact hall.trans ((t.legUpdate_leg q l).trans ((State.legAfter_congr q ht hgt _).trans (congrArg _ hgt)))
  · exact forAll_keeps (f := fun t l => t.legUpdate q l) (P := fun t => t.leg[l] = s.leg[l]) rfl fun t ht j hj => (hne t j l fun h => hl (h ▸ hj)).trans ht

/-- Step pulses of a quay at its update point (R663 to R668): what they change. -/
theorem State.emitSteps_cases : s.emitSteps q = s ∨ ∃ f : Quay → Quay, (∀ x, (f x).cmdLate = x.cmdLate) ∧
    (s.emitSteps q = s.modQuay q f ∨ s.emitSteps q = (s.modQuay q f).raiseQuay srcStepOverrun q) := by
  unfold State.emitSteps
  split
  · exact .inl rfl
  · extract_lets x st blocked todo n w dir dirAt first p r done lag s1
    right
    split
    · exact ⟨fun x => let p := x.pulse.cut s.now; { x with pulse := p, kern := { x.kern with count := p.emitted } }, fun _ => rfl, .inl rfl⟩
    · split
      · exact ⟨fun y => { y with pulse := { y.pulse with lag := 0 } }, fun _ => rfl, .inl rfl⟩
      · refine ⟨fun y => { y with pulse := { y.pulse with
          emitted := y.pulse.emitted + done, lag := lag, dir := dir, dirAt := dirAt
          stepAt := r.getLastD y.pulse.stepAt
          edges := (r.reverse.map (fun t => (t, dir)) ++ y.pulse.edges).take 4096 } }, fun _ => rfl, ?_⟩
        split
        · exact .inr rfl
        · exact .inl rfl

theorem State.emitSteps_blank {ps : List Part} (h : Covers ps [.quayAt q, .transit]) : (s.emitSteps q).blank ps = s.blank ps := by
  simp at h
  rcases s.emitSteps_cases q with he | ⟨f, -, he | he⟩ <;> rw [he]
  · exact s.modQuay_blank q h.1 f
  · exact (State.raiseQuay_blank _ h.2 _ _ _).trans (s.modQuay_blank q h.1 f)

theorem State.emitSteps_cmdLate : (s.emitSteps q).quay[q].cmdLate = s.quay[q].cmdLate := by
  rcases s.emitSteps_cases q with he | ⟨f, hf, he | he⟩ <;> rw [he]
  · exact s.modQuay_keeps Quay.cmdLate q q hf
  · exact s.modQuay_keeps Quay.cmdLate q q hf

theorem State.emitSteps_raises : s.flt.transit ⊆ (s.emitSteps q).flt.transit := by
  rcases s.emitSteps_cases q with he | ⟨f, -, he | he⟩ <;> rw [he]
  · exact List.Subset.refl _
  · exact List.Subset.refl _
  · exact List.subset_append_left _ _

/-- A leg misses its command at an update point. -/
def State.lateLeg (l : LegNo) : Prop := l ∈ s.phaseLegs q ∧ s.leg[l].fresh = false ∧ s.quay[q].core.st ≠ .off ∧ s.heldKind l = none

theorem State.misses_iff : (s.misses q false || s.misses q true) = true ↔ ∃ l, s.lateLeg q l := by
  have hone : ∀ b, s.misses q b = true ↔ ∃ l, s.lateLeg q l ∧ decide (1 ≤ s.leg[l].missed) = b := fun b => by
    simp only [State.misses, List.any_eq_true, Bool.and_eq_true, State.outsideOff, bne_iff_ne, Option.isNone_iff_eq_none, Bool.not_eq_true', beq_iff_eq,
      State.lateLeg]
    exact exists_congr fun l => by tauto
  rw [Bool.or_eq_true, hone, hone]
  constructor
  · rintro (⟨l, hl, -⟩ | ⟨l, hl, -⟩) <;> exact ⟨l, hl⟩
  · rintro ⟨l, hl⟩
    cases hm : decide (1 ≤ s.leg[l].missed) with
    | false => exact .inl ⟨l, hl, hm⟩
    | true => exact .inr ⟨l, hl, hm⟩

/-- Missed commands raised and counted once for their quay (R78, R79), from a device `u`. -/
def State.latesRaised (u : State) : State :=
  let s2 := if s.misses q true then u.raise { faultOf s srcCmdLate (BitVec.ofNat 8 q.val) [q] {} with forceSevere := true }
    else if s.misses q false then u.raiseQuay srcCmdLate q else u
  if s.misses q false || s.misses q true then s2.modQuay q (fun x => { x with cmdLate := satInc x.cmdLate }) else s2

theorem State.latesRaised_spec (u : State) : (s.latesRaised q u).blank [.quayAt q, .transit] = u.blank [.quayAt q, .transit] ∧
    (s.latesRaised q u).quay[q] = { u.quay[q] with cmdLate := if s.misses q false || s.misses q true then satInc u.quay[q].cmdLate else u.quay[q].cmdLate } ∧
    ((s.misses q false || s.misses q true) = true → ∃ e ∈ (s.latesRaised q u).flt.transit, e.src = srcCmdLate ∧ e.quays = [q]) := by
  unfold State.latesRaised
  cases h2 : s.misses q true with
  | true =>
    rw [Bool.or_true, if_pos rfl, if_pos rfl, if_pos rfl, State.modQuay_self]
    exact ⟨(State.modQuay_blank _ q (by simp) _).trans (u.raise_blank (by simp) _), rfl, fun _ =>
      ⟨_, List.mem_append_right _ (List.mem_singleton_self _), rfl, rfl⟩⟩
  | false =>
    cases h1 : s.misses q false with
    | true =>
      rw [Bool.or_false, if_pos rfl, if_pos rfl, if_neg Bool.false_ne_true, if_pos rfl, State.modQuay_self]
      exact ⟨(State.modQuay_blank _ q (by simp) _).trans (u.raiseQuay_blank (by simp) _ _ _), rfl, fun _ =>
        ⟨_, List.mem_append_right _ (List.mem_singleton_self _), rfl, rfl⟩⟩
    | false =>
      exact ⟨rfl, rfl, fun h => absurd h (by decide)⟩

end

/-- Settles O20. -/
theorem updatePoints : Obligations.UpdatePoints := by
  refine ⟨fun q s h10 hk hf => ?_, fun q s h => ?_⟩
  · intro late runs
    have hexec : exec (.updatePoint q) s =
        .next (State.syncLegs s ((s.latesRaised q (forAll (s.phaseLegs q) s (fun t l => t.legUpdate q l))).emitSteps q)) :=
      if_pos (by rw [h10, hk, hf]; rfl)
    obtain ⟨hb1, hlegs1, hne1⟩ := s.legsUpdated q
    generalize forAll (s.phaseLegs q) s (fun t l => t.legUpdate q l) = u1 at hexec hb1 hlegs1 hne1
    obtain ⟨hb2, hq2, hraise2⟩ := s.latesRaised_spec q u1
    generalize s.latesRaised q u1 = u2 at hexec hb2 hq2 hraise2
    have hb3 := u2.emitSteps_blank q (ps := [.quayAt q, .transit]) (by simp)
    have hcount3 := u2.emitSteps_cmdLate q
    have hsub3 := u2.emitSteps_raises q
    have hpulse3 : s.isPulse q = false → u2.emitSteps q = u2 := fun hp => by
      have hp2 : u2.isPulse q = s.isPulse q := by
        rw [State.eq_take ((State.blank_mono hb2 (by simp)).trans (State.blank_mono hb1 (by simp)) : u2.blank [.quay, .transit, .leg] = s.blank _)]
        rfl
      exact if_pos (by rw [hp2, hp]; rfl)
    generalize u2.emitSteps q = u at hexec hb3 hcount3 hsub3 hpulse3
    have hub : u.blank [.quayAt q, .transit] = u1.blank [.quayAt q, .transit] := hb3.trans hb2
    have huleg : ∀ l : LegNo, u.leg[l] = u1.leg[l] := fun l => State.leg_of_blank hub (by simp)
    have hus : u.blank [.quayAt q, .transit, .leg] = s.blank [.quayAt q, .transit, .leg] := (State.blank_mono hub (by simp)).trans (State.blank_mono hb1 (by simp))
    have hgates := s.syncLegs_gates u
    have hsame : ∀ l : LegNo, u.leg[l].latch = s.leg[l].latch → u.leg[l].react = s.leg[l].react → (s.syncLegs u).leg[l] = u.leg[l] := fun l hl hr =>
      State.syncLegs_leg_same (.inl (State.heldKind_of (State.blank_mono hus (by simp)) hl hr).symm)
    have hun : ∀ l : LegNo, (s.syncLegs u).leg[l].ungated = u.leg[l].ungated := hgates.leg
    have hrest := hgates.rest.rest
    obtain ⟨hquay, -, hflt, -⟩ := hrest
    have hruns : ∀ l : LegNo, u.leg[l].latch = s.leg[l].latch → u.leg[l].react = s.leg[l].react → (s.syncLegs u).leg[l].high = u.leg[l].high ∧
        (s.syncLegs u).leg[l].low = u.leg[l].low := fun l hl hr => by
      rw [hsame l hl hr]
      exact ⟨rfl, rfl⟩
    have hts : (s.syncLegs u).blank [.quayAt q, .transit, .leg, .lane] = s.blank [.quayAt q, .transit, .leg, .lane] :=
      (State.syncLegs_blank u s (by simp)).trans (State.blank_mono hus (by simp))
    have hu1q : u1.quay = s.quay := (congrArg State.quay (State.eq_take hb1) :)
    refine ⟨_, hexec, fun l c hl hc hfresh => ?_, fun l hl => ?_, fun l hl hfresh hoff => ?_, fun hlate => ⟨?_, ?_⟩, fun hno => ?_, fun hp => ?_, fun l hl => ?_,
      fun r hr => State.quay_of_blank hts (by simpa using hr), State.eq_take (ps := [.quay, .leg, .lane, .transit]) (State.blank_mono hts (by simp))⟩
    · have hul : u.leg[l] = s.legAfter q l s.leg[l] := (huleg l).trans (hlegs1 l hl)
      obtain ⟨hafter, hg⟩ := State.legAfter_fresh (s := s) (l := l) q hfresh hc
      rw [← hul] at hafter hg
      have ht := (hun l).trans hafter
      have hin : (s.syncLegs u).leg[l].inForce = substitute c (s.loopPeriod q) (legDeadTime s l) := (congrArg Leg.inForce ht :)
      refine ⟨hin, (congrArg Leg.missed ht :), (congrArg Leg.present ht :), (congrArg Leg.fresh ht :), (congrArg Leg.active ht :).trans hc, fun hheld hlocal => ?_⟩
      obtain ⟨hhigh, hlow⟩ := hruns l (congrArg Leg.latch hafter :) (congrArg Leg.react hafter :)
      rw [hin, hhigh, hlow]
      exact hg hlocal hheld
    · obtain ⟨hmem, hfresh, hst, hheld⟩ := hl
      have hul : u.leg[l] = s.legAfter q l s.leg[l] := (huleg l).trans (hlegs1 l hmem)
      obtain ⟨hafter, hg⟩ := State.legAfter_late (s := s) (l := l) q hfresh hheld hst
      rw [← hul] at hafter hg
      have ht := (hun l).trans hafter
      have hreact : u.leg[l].react = if 1 ≤ s.leg[l].missed then (s.lateReaction q).or s.leg[l].react else s.leg[l].react := (congrArg Leg.react hafter :)
      have htreact : (s.syncLegs u).leg[l].react = u.leg[l].react := (congrArg Leg.react (hun l) :)
      refine ⟨(congrArg Leg.inForce ht :), (congrArg Leg.missed ht :), (congrArg Leg.present ht :), fun h0 => ?_, fun k hm hk => ?_⟩
      · rw [if_neg (by omega)] at hreact
        refine ⟨htreact.trans hreact, fun hlocal => ?_⟩
        obtain ⟨hhigh, hlow⟩ := hruns l (congrArg Leg.latch hafter :) hreact
        rw [hhigh, hlow]
        exact hg hlocal
      · rw [htreact, hreact, if_pos (Nat.one_le_iff_ne_zero.2 hm), hk]
        rfl
    · have hul : u.leg[l] = s.legAfter q l s.leg[l] := (huleg l).trans (hlegs1 l hl)
      obtain ⟨hafter, hg⟩ := State.legAfter_quiet (s := s) (l := l) q hfresh hoff
      rw [← hul] at hafter hg
      have ht := (hun l).trans hafter
      refine ⟨(congrArg Leg.inForce ht :), (congrArg Leg.missed ht :), (congrArg Leg.present ht :), fun hheld hlocal => ?_⟩
      obtain ⟨hhigh, hlow⟩ := hruns l (congrArg Leg.latch hafter :) (congrArg Leg.react hafter :)
      rw [hhigh, hlow]
      exact hg hlocal hheld
    · obtain ⟨e, he, hsrc, hquays⟩ := hraise2 ((s.misses_iff q).2 hlate)
      exact ⟨e, hflt ▸ hsub3 he, hsrc, hquays⟩
    · rw [hquay, hcount3, hq2, if_pos ((s.misses_iff q).2 hlate), hu1q]
    · rw [hquay, hcount3, hq2, if_neg fun h => (by obtain ⟨l, hl⟩ := (s.misses_iff q).1 h; exact hno l hl), hu1q]
    · rw [hquay, hpulse3 hp, hq2, hu1q]
    · have hul : u.leg[l] = s.leg[l] := (huleg l).trans (hne1 l hl)
      rw [hsame l (by rw [hul]) (by rw [hul]), hul]
  · refine if_neg ?_
    rcases h with h | h | h <;> simp [h]

end Sys2Proof.Machine
end

section
/-! #### The footprints of the commands of a host (R270 to R307) -/

namespace Sys2Proof.Machine

section
variable {ps : List Part} (s : State) (q : QuayNo)

@[simp] theorem State.modGen_blank (f : ProfileGen → ProfileGen) (h : Covers ps [.quayAt q]) : (s.modGen q f).blank ps = s.blank ps := by
  simp at h
  simp [State.modGen, h]
@[simp] theorem State.genZero_blank (h : Covers ps [.quayAt q]) : (s.genZero q).blank ps = s.blank ps := by
  simp at h
  simp [State.genZero, h]
@[simp] theorem State.modReg_blank (f : Regs → Regs) (h : Covers ps [.quayAt q]) : (s.modReg q f).blank ps = s.blank ps := by
  simp at h
  simp [State.modReg, h]
@[simp] theorem State.limitBoth_blank (h : Covers ps [.quayAt q, .transit]) : (s.limitBoth q).blank ps = s.blank ps := by
  simp at h
  simp [State.limitBoth, State.ite_blank, h]
@[simp] theorem State.limitStep_blank (h : Covers ps [.quayAt q, .port, .groups, .leg, .lane, .ih, .transit]) :
    (s.limitStep q).blank ps = s.blank ps := by
  simp at h
  simp [State.limitStep, State.ite_blank, h]
@[simp] theorem State.applyStop_blank (k : StopKind) (h : Covers ps [.quayAt q, .port, .groups, .leg, .lane, .ih]) :
    (s.applyStop q k).blank ps = s.blank ps := by
  simp at h
  unfold State.applyStop
  split <;> simp [State.ite_blank, h]
@[simp] theorem State.applyRelease_blank (h : Covers ps [.quayAt q, .port, .groups, .ih]) : (s.applyRelease q).blank ps = s.blank ps := by
  simp at h
  unfold State.applyRelease
  split <;> simp [State.ite_blank, h]
@[simp] theorem State.applyFlags_blank (h : Covers ps [.quayAt q, .port, .groups, .leg, .lane, .ih]) : (s.applyFlags q).blank ps = s.blank ps := by
  simp at h
  simp [State.applyFlags, State.ite_blank, h]
@[simp] theorem State.flagsFirst_blank (h : Covers ps [.quayAt q, .port, .groups, .leg, .lane, .ih, .transit]) :
    (s.flagsFirst q).blank ps = s.blank ps := by
  simp at h
  simp [State.flagsFirst, State.ite_blank, h]

@[simp] theorem State.writeRef_blank (m : Mode) (v : U16) (h : Covers ps [.quayAt q]) : (s.writeRef q m v).blank ps = s.blank ps := by
  simp at h
  simp [State.writeRef, h]
@[simp] theorem State.startIn_blank (m : Mode) (v : U16) (op : Option AcceptedOp) (st : AxisState)
    (h : Covers ps [.quayAt q, .port, .groups, .leg, .lane, .ih]) : (s.startIn q m v op st).blank ps = s.blank ps := by
  simp at h
  simp [State.startIn, h]
@[simp] theorem State.abandonArm_blank (h : Covers ps [.quayAt q, .port, .ih]) : (s.abandonArm q).blank ps = s.blank ps := by
  simp at h
  simp [State.abandonArm, h]
@[simp] theorem State.sendArm_blank (ls : List LegNo) (h : .lane ∈ ps) : (s.sendArm ls).blank ps = s.blank ps := by
  simp [State.sendArm, State.ite_blank, h]
@[simp] theorem State.armVm_blank (d : DieNo) (h : .transit ∈ ps) : (s.armVm d).blank ps = s.blank ps := by
  simp [State.armVm, h]
@[simp] theorem State.armVgd_blank (d : DieNo) (h : Covers ps [.free, .transit]) : (s.armVgd d).blank ps = s.blank ps := by
  simp at h
  simp [State.armVgd, h]
@[simp] theorem State.startArm_blank (op : AcceptedOp) (h : Covers ps [.quayAt q, .port, .lane, .ih, .free, .transit]) :
    (s.startArm q op).blank ps = s.blank ps := by
  simp at h
  simp [State.startArm, State.ite_blank, h]
@[simp] theorem State.putMotion_blank (m : Motion) (op : Option AcceptedOp) (h : Covers ps [.quayAt q, .port, .groups, .leg, .lane, .ih]) :
    (s.putMotion q m op).blank ps = s.blank ps := by
  simp at h
  simp [State.putMotion, State.ite_blank, h]
/-- What a command to a quay changes of the state beside that quay. -/
abbrev axisParts (q : QuayNo) : List Part := [.quayAt q, .port, .groups, .leg, .lane, .ih, .free, .transit]

@[simp] theorem State.doArm_blank (op : AcceptedOp) (h : Covers ps (axisParts q)) : (s.doArm q op).1.blank ps = s.blank ps := by
  simp [axisParts] at h
  unfold State.doArm
  generalize s.quay[q].core = c
  cases hc : c.st <;> simp [hc, apply_ite Prod.fst, State.ite_blank, h]
@[simp] theorem State.doDisarm_blank (h : Covers ps (axisParts q)) : (s.doDisarm q).1.blank ps = s.blank ps := by
  simp [axisParts] at h
  unfold State.doDisarm
  split <;> simp [h]
@[simp] theorem State.doStart_blank (bs : List Byte) (op : AcceptedOp) (h : Covers ps (axisParts q)) :
    (s.doStart q bs op).1.blank ps = s.blank ps := by
  simp [axisParts] at h
  unfold State.doStart
  generalize s.quay[q].core = c
  cases hc : c.st <;> simp [hc, apply_ite Prod.fst, State.ite_blank, h]
@[simp] theorem State.doHold_blank (h : Covers ps (axisParts q)) : (s.doHold q).1.blank ps = s.blank ps := by
  simp [axisParts] at h
  unfold State.doHold
  generalize s.quay[q].core = c
  cases c.st <;> simp [apply_ite Prod.fst, State.ite_blank, h]
@[simp] theorem State.doMove_blank (bs : List Byte) (op : AcceptedOp) (h : Covers ps (axisParts q)) :
    (s.doMove q bs op).1.blank ps = s.blank ps := by
  simp [axisParts] at h
  unfold State.doMove
  simp only
  split
  · rfl
  · split_ifs <;> simp [h]
@[simp] theorem State.doJog_blank (bs : List Byte) (h : Covers ps (axisParts q)) : (s.doJog q bs).1.blank ps = s.blank ps := by
  simp [axisParts] at h
  unfold State.doJog
  generalize s.quay[q].core = c
  cases hc : c.st <;> simp [hc, apply_ite Prod.fst, State.ite_blank, h]
@[simp] theorem State.doHome_blank (bs : List Byte) (op : AcceptedOp) (h : Covers ps (axisParts q)) :
    (s.doHome q bs op).1.blank ps = s.blank ps := by
  simp [axisParts] at h
  unfold State.doHome
  generalize s.quay[q].core = c
  cases hc : c.st <;> simp [hc, apply_ite Prod.fst, State.ite_blank, h]
@[simp] theorem State.doStop_blank (k : StopKind) (h : Covers ps (axisParts q)) : (s.doStop q k).1.blank ps = s.blank ps := by
  simp [axisParts] at h
  simp [State.doStop, h]
@[simp] theorem State.noteRefusal_blank (t : Option Target) (b : Byte) (h : .transit ∈ ps) : (s.noteRefusal t b).blank ps = s.blank ps := by
  unfold State.noteRefusal
  split_ifs
  · split <;> simp [h]
  · rfl
@[simp] theorem State.ackOne_blank (h : Covers ps [.flt, .transit, .quayAt q, .port, .groups, .leg, .lane, .ih]) : (s.ackOne q).blank ps = s.blank ps := by
  simp at h
  simp [State.ackOne, State.ite_blank, h]
/-! What configuration, trace and flash commands change. -/

@[simp] theorem State.setParam_blank (a : Nat) (v : Word) (h : .params ∈ ps) : (s.setParam a v).blank ps = s.blank ps := by
  simp [State.setParam, State.blank, State.take, h]
@[simp] theorem State.withEntries_blank (es : Staging) (h : .params ∈ ps) : (s.withEntries es).blank ps = s.blank ps := by
  simp [State.withEntries, h]
@[simp] theorem State.refreshHalf_blank (g : Side) (h : .half ∈ ps) : (s.refreshHalf g).blank ps = s.blank ps := by
  simp [State.refreshHalf, h]
@[simp] theorem State.refreshHalves_blank (h : .half ∈ ps) : s.refreshHalves.blank ps = s.blank ps := by
  simp [State.refreshHalves, State.ite_blank, h]
@[simp] theorem State.commitNotes_blank (b : Byte) (h : .transit ∈ ps) : (s.commitNotes b).blank ps = s.blank ps := by
  simp [State.commitNotes, h, apply_ite (State.blank ps)]
@[simp] theorem State.postCommit_blank (old : State) (es : Staging) (h : Covers ps [.quay, .ih]) : (s.postCommit old es).blank ps = s.blank ps := by
  simp at h
  simp [State.postCommit, h]
@[simp] theorem State.applyCommit_blank (es : Staging) (cs : List PoolClaim)
    (h : Covers ps [.params, .half, .claims, .cell, .quay, .ih, .tb, .free, .boot]) : (s.applyCommit es cs).blank ps = s.blank ps := by
  simp at h
  obtain ⟨hp, hh, hc, hr⟩ := h
  have e : ({ (s.withEntries es).refreshHalves with claims := cs } : State).blank ps = s.blank ps := by
    rw [show ({ (s.withEntries es).refreshHalves with claims := cs } : State).blank ps = (s.withEntries es).refreshHalves.blank ps by
      simp [State.blank, State.take, hc]]
    simp [hp, hh]
  simp [State.applyCommit, hr, e]
@[simp] theorem State.ownCommit_blank (es : Staging)
    (h : Covers ps [.params, .half, .claims, .cell, .quay, .ih, .tb, .free, .boot, .transit]) : (s.ownCommit es).1.blank ps = s.blank ps := by
  simp at h
  unfold State.ownCommit State.commitEntries
  cases s.judgeCommit es <;> simp [h]
@[simp] theorem State.doCommit_blank (es : Staging)
    (h : Covers ps [.params, .half, .claims, .cell, .quay, .ih, .tb, .free, .boot, .transit]) : (s.doCommit es).1.blank ps = s.blank ps := by
  simp at h
  unfold State.doCommit State.commitEntries
  cases s.judgeCommit es <;> simp [h]
theorem State.withClaims_blank (cs : List PoolClaim) (h : .claims ∈ ps) : ({ s with claims := cs } : State).blank ps = s.blank ps := by
  simp [State.blank, State.take, h]
theorem State.withFlash_blank (m : List Host.Cell) (h : .flash ∈ ps) : ({ s with flash := m } : State).blank ps = s.blank ps := by
  simp [State.blank, State.take, h]
@[simp] theorem State.startSlot_blank (cs : List PoolClaim) (r : Fin 16) (i : Fin 256) (n : Nat)
    (h : Covers ps [.free, .tb, .claims, .traceAt r]) : (s.startSlot cs r i n).blank ps = s.blank ps := by
  simp at h
  obtain ⟨hf, ht, hc, hr⟩ := h
  refine (State.modTrace_blank _ r (by simpa using hr) _).trans ((State.withClaims_blank (s.drawn.modTb _) _ hc).trans ?_)
  simp [hf, ht]
@[simp] theorem State.releaseSlot_blank (r : Fin 16) (h : Covers ps [.tb, .claims, .traceAt r]) : (s.releaseSlot r).blank ps = s.blank ps := by
  simp at h
  obtain ⟨ht, hc, hr⟩ := h
  refine (State.modTrace_blank _ r (by simpa using hr) _).trans ?_
  split
  · exact (State.modTb_blank _ ht _).trans (s.withClaims_blank _ hc)
  · exact s.withClaims_blank _ hc
@[simp] theorem State.doTraceConfig_blank (bs : List Byte) (h : Covers ps [.free, .tb, .claims, .trace]) :
    (s.doTraceConfig bs).1.blank ps = s.blank ps := by
  simp at h
  obtain ⟨hf, ht, hc, hr⟩ := h
  unfold State.doTraceConfig
  simp only
  split_ifs
  · rfl
  · rfl
  · rfl
  · exact (State.withClaims_blank ((s.releaseSlot _).modTrace _ _) _ hc).trans (by simp [ht, hc, hr])
  · split
    · simp [hf, ht, hc, hr]
    · rfl
@[simp] theorem State.doTraceArm_blank (bs : List Byte) (h : Covers ps [.free, .tb, .claims, .trace]) :
    (s.doTraceArm bs).1.blank ps = s.blank ps := by
  simp at h
  unfold State.doTraceArm
  simp only
  split
  · rfl
  · split_ifs
    · rfl
    · simp [h]
    · split <;> simp [h]
@[simp] theorem State.doTraceStop_blank (bs : List Byte) (h : Covers ps [.tb, .claims, .trace]) : (s.doTraceStop bs).1.blank ps = s.blank ps := by
  simp at h
  simp [State.doTraceStop, h]
@[simp] theorem State.doFlashWrite_blank (bs : List Byte) (h : .flash ∈ ps) : (s.doFlashWrite bs).1.blank ps = s.blank ps := by
  simp only [State.doFlashWrite, apply_ite Prod.fst, State.ite_blank, s.withFlash_blank _ h, ite_self]

/-! What commands to a lane and to the device change. -/

@[simp] theorem State.doDetach_blank (n : LaneNo) (h : Covers ps [.lane, .leg, .port]) : (s.doDetach n).1.blank ps = s.blank ps := by
  simp at h
  simp [State.doDetach, apply_ite Prod.fst, State.ite_blank, h]
@[simp] theorem State.doAttach_blank (n : LaneNo) (op : AcceptedOp) (h : .lane ∈ ps) : (s.doAttach n op).1.blank ps = s.blank ps := by
  unfold State.doAttach
  split <;> simp [h]
theorem State.withGroups_blank (gs : List GroupMove) (h : .groups ∈ ps) : ({ s with groups := gs } : State).blank ps = s.blank ps := by
  simp [State.blank, State.take, h]
@[simp] theorem State.doMoveGroup_blank (bs : List Byte) (op : AcceptedOp) (h : Covers ps [.quay, .port, .groups, .leg, .lane, .ih]) :
    (s.doMoveGroup bs op).1.blank ps = s.blank ps := by
  simp at h
  obtain ⟨hq, hp, hg, hr⟩ := h
  unfold State.doMoveGroup
  simp only
  split
  · rfl
  · exact (State.withGroups_blank _ _ hg).trans (foldl_blank _ _ _ fun t e => by simp [hq, hp, hg, hr])
@[simp] theorem State.doStopAll_blank (k : StopKind) (h : Covers ps [.quay, .port, .groups, .leg, .lane, .ih]) :
    (s.doStopAll k).1.blank ps = s.blank ps := by
  simp at h
  simp [State.doStopAll, h]
@[simp] theorem State.afterDeviceAck_blank (margin : Bool) (h : Covers ps [.boot, .flt, .transit]) :
    (s.afterDeviceAck margin).blank ps = s.blank ps := by
  simp at h
  simp [State.afterDeviceAck, State.ite_blank, h]
@[simp] theorem State.ackQuay_blank (h : Covers ps [.flt, .transit, .quayAt q, .port, .groups, .leg, .lane, .ih]) :
    (s.ackQuay q).1.blank ps = s.blank ps := by
  simp at h
  simp [State.ackQuay, apply_ite Prod.fst, State.ite_blank, h]
@[simp] theorem State.ackDevice_blank (h : Covers ps [.boot, .flt, .transit, .quay, .port, .groups, .leg, .lane, .ih]) :
    s.ackDevice.1.blank ps = s.blank ps := by
  simp at h
  simp [State.ackDevice, State.ite_blank, h]
end

end Sys2Proof.Machine
end

section
/-! #### Forwarded commands that are waited for: a command performed leaves them (R256) -/

namespace Sys2Proof.Machine

section
variable {s t : State} {ps : List Part}

/-- What keeps the channel keeps the commands that are waited for. -/
theorem State.waiting_of_blank (h : t.blank ps = s.blank ps) (hp : .ih ∉ ps) : t.ih.waiting = s.ih.waiting :=
  congrArg Channel.waiting (State.ih_of_blank h hp)
end

section
variable (s : State) (q : QuayNo)

@[simp] theorem State.publish_waiting : (s.publish q).ih.waiting = s.ih.waiting := by
  unfold State.publish
  split
  · split <;> rfl
  · rfl
@[simp] theorem State.modCore_waiting (f : AxisCore → AxisCore) : (s.modCore q f).ih.waiting = s.ih.waiting := by
  simp [State.modCore, State.modQuay]
@[simp] theorem State.enter_waiting (st : AxisState) (k : StopKind) : (s.enter q st k).ih.waiting = s.ih.waiting := by
  have sync (u : State) : (s.syncLegs u).ih.waiting = u.ih.waiting :=
    State.waiting_of_blank (State.syncLegs_blank (ps := [.leg, .lane]) u s (by simp)) (by simp)
  have after (u : State) : (u.afterEnter q st).ih.waiting = u.ih.waiting :=
    State.waiting_of_blank (State.afterEnter_blank (ps := [.quayAt q, .leg, .lane]) u q st (by simp)) (by simp)
  have leave (u : State) (a b : Bool) : (u.abandon q a b).ih.waiting = u.ih.waiting :=
    State.waiting_of_blank (State.abandon_blank (ps := [.quayAt q, .port]) u q a b (by simp)) (by simp)
  simp [State.enter, State.modQuay, sync, after, leave, apply_ite State.ih, State.leaveGroup]
@[simp] theorem State.leaveShare_waiting : (s.leaveShare q).ih.waiting = s.ih.waiting :=
  State.waiting_of_blank (State.leaveShare_blank (ps := [.quayAt q]) s q (by simp)) (by simp)
@[simp] theorem State.blockPulses_waiting : (s.blockPulses q).ih.waiting = s.ih.waiting :=
  State.waiting_of_blank (State.blockPulses_blank (ps := [.quayAt q, .leg, .lane]) s q (by simp)) (by simp)
@[simp] theorem State.rewriteTable_waiting : (s.rewriteTable q).ih.waiting = s.ih.waiting :=
  State.waiting_of_blank (State.rewriteTable_blank (ps := [.quayAt q]) s q (by simp)) (by simp)
@[simp] theorem State.eventOpt_waiting (o : Option AcceptedOp) (st : Byte) (a : U16) (n : Nat) :
    (s.eventOpt o st a n).ih.waiting = s.ih.waiting :=
  State.waiting_of_blank (State.eventOpt_blank (ps := [.port]) s (by simp) o st a n) (by simp)
@[simp] theorem State.raise_waiting (e : FaultEvent) : (s.raise e).ih.waiting = s.ih.waiting :=
  State.waiting_of_blank (State.raise_blank (ps := [.transit]) s (by simp) e) (by simp)

@[simp] theorem State.applyStop_waiting (k : StopKind) : (s.applyStop q k).ih.waiting = s.ih.waiting := by
  unfold State.applyStop
  split <;> simp [State.enterStopping, apply_ite State.ih]
  split <;> simp
@[simp] theorem State.applyRelease_waiting : (s.applyRelease q).ih.waiting = s.ih.waiting := by
  unfold State.applyRelease
  split <;> simp only [apply_ite State.ih, apply_ite Channel.waiting, State.modCore_waiting, State.leaveShare_waiting, ite_self]
@[simp] theorem State.applyFlags_waiting : (s.applyFlags q).ih.waiting = s.ih.waiting := by
  simp [State.applyFlags, State.modQuay, apply_ite State.ih, apply_ite Channel.waiting]
@[simp] theorem State.limitStep_waiting : (s.limitStep q).ih.waiting = s.ih.waiting := by
  have both : (s.limitBoth q).ih.waiting = s.ih.waiting :=
    State.waiting_of_blank (State.limitBoth_blank (ps := [.quayAt q, .transit]) s q (by simp)) (by simp)
  simp [State.limitStep, State.raiseQuay, State.modReg, State.genZero, State.modGen, State.modQuay, apply_ite State.ih, apply_ite Channel.waiting, both]
@[simp] theorem State.flagsFirst_waiting : (s.flagsFirst q).ih.waiting = s.ih.waiting := by
  simp [State.flagsFirst, State.modQuay, apply_ite State.ih, apply_ite Channel.waiting]
@[simp] theorem State.abandonArm_waiting : (s.abandonArm q).ih.waiting = s.ih.waiting := by
  simp [State.abandonArm]
@[simp] theorem State.startArm_waiting (op : AcceptedOp) : (s.startArm q op).ih.waiting = s.ih.waiting := by
  have send (u : State) (ls : List LegNo) : (u.sendArm ls).ih.waiting = u.ih.waiting :=
    State.waiting_of_blank (State.sendArm_blank (ps := [.lane]) u ls (by simp)) (by simp)
  have low (u : State) (ds es : List DieNo) : (forAll es (forAll ds u State.armVm) State.armVgd).ih.waiting = u.ih.waiting :=
    State.waiting_of_blank (ps := [.free, .transit]) (by simp) (by simp)
  simp [State.startArm, apply_ite State.ih, apply_ite Channel.waiting, send, low, State.modQuay]
@[simp] theorem State.startIn_waiting (m : Mode) (v : U16) (op : Option AcceptedOp) (st : AxisState) :
    (s.startIn q m v op st).ih.waiting = s.ih.waiting := by
  simp [State.startIn, State.writeRef, State.modQuay]
@[simp] theorem State.putMotion_waiting (m : Motion) (op : Option AcceptedOp) : (s.putMotion q m op).ih.waiting = s.ih.waiting := by
  simp [State.putMotion, State.modQuay, apply_ite State.ih, apply_ite Channel.waiting]
@[simp] theorem State.ackOne_waiting : (s.ackOne q).ih.waiting = s.ih.waiting := by
  simp [State.ackOne, State.modQuay, State.modFlt, apply_ite State.ih, apply_ite Channel.waiting]

/-- A fold keeps what its step keeps of the commands that are waited for. -/
@[simp] theorem forAll_waiting {α : Type} (xs : List α) (f : State → α → State) (h : ∀ t a, (f t a).ih.waiting = t.ih.waiting) :
    (forAll xs s f).ih.waiting = s.ih.waiting := by
  induction xs generalizing s with
  | nil => rfl
  | cons x xs ih => exact (ih (f s x)).trans (h s x)

@[simp] theorem State.clearHomed_waiting : (s.clearHomed q).ih.waiting = s.ih.waiting := by
  simp [State.clearHomed, apply_ite State.ih, apply_ite Channel.waiting]
@[simp] theorem State.restartCell_waiting (was : Nat) (k : CellNo) : (s.restartCell was k).ih.waiting = s.ih.waiting := by
  unfold State.restartCell
  simp only
  split
  · split <;> simp [State.modCell]
  · rfl
@[simp] theorem State.startCell_waiting (old : State) (staged : Nat → Bool) (k : CellNo) :
    (old.startCell s staged k).ih.waiting = s.ih.waiting := by
  simp [State.startCell, State.modCell, apply_ite State.ih, apply_ite Channel.waiting]
@[simp] theorem State.startConfig_waiting (old : State) (staged : Nat → Bool) : (old.startConfig s staged).ih.waiting = s.ih.waiting := by
  have quays (u : State) : (forAll allQuays u (fun t q => old.startQuay t staged q)).ih.waiting = u.ih.waiting :=
    State.waiting_of_blank (ps := [.quay]) (by simp) (by simp)
  simp [State.startConfig, State.refreshSlots, State.modTb, State.drawn, quays, apply_ite State.ih]
@[simp] theorem State.applyCommit_waiting (es : Staging) (cs : List PoolClaim) : (s.applyCommit es cs).ih.waiting = s.ih.waiting := by
  have staged : (s.withEntries es).refreshHalves.ih.waiting = s.ih.waiting :=
    State.waiting_of_blank (ps := [.params, .half]) (by simp) (by simp)
  simp [State.applyCommit, State.postCommit, State.modBoot, State.modQuay, staged]
theorem State.commitEntries_waiting (es : Staging) : (s.commitEntries es).1.ih.waiting = s.ih.waiting := by
  unfold State.commitEntries
  split
  · exact State.waiting_of_blank (State.commitNotes_blank (ps := [.transit]) s _ (by simp)) (by simp)
  · exact s.applyCommit_waiting es _

@[simp] theorem State.ownCommit_waiting (es : Staging) : (s.ownCommit es).1.ih.waiting = s.ih.waiting := s.commitEntries_waiting es
@[simp] theorem State.doArm_waiting (op : AcceptedOp) : (s.doArm q op).1.ih.waiting = s.ih.waiting := by
  unfold State.doArm
  generalize s.quay[q].core = c
  cases hc : c.st <;> simp [hc, apply_ite Prod.fst, apply_ite State.ih, apply_ite Channel.waiting]
@[simp] theorem State.doDisarm_waiting : (s.doDisarm q).1.ih.waiting = s.ih.waiting := by
  unfold State.doDisarm
  split <;> simp
@[simp] theorem State.doStart_waiting (bs : List Byte) (op : AcceptedOp) : (s.doStart q bs op).1.ih.waiting = s.ih.waiting := by
  unfold State.doStart
  generalize s.quay[q].core = c
  cases hc : c.st <;> simp [hc, apply_ite Prod.fst, apply_ite State.ih, apply_ite Channel.waiting, State.writeRef, State.modQuay]
@[simp] theorem State.doStop_waiting (k : StopKind) : (s.doStop q k).1.ih.waiting = s.ih.waiting := by
  simp [State.doStop]
@[simp] theorem State.doHold_waiting : (s.doHold q).1.ih.waiting = s.ih.waiting := by
  unfold State.doHold
  generalize s.quay[q].core = c
  cases c.st <;> simp [apply_ite Prod.fst, apply_ite State.ih, apply_ite Channel.waiting]
@[simp] theorem State.doMove_waiting (bs : List Byte) (op : AcceptedOp) : (s.doMove q bs op).1.ih.waiting = s.ih.waiting := by
  unfold State.doMove
  simp only
  split
  · rfl
  · simp [apply_ite Prod.fst, apply_ite State.ih, apply_ite Channel.waiting]
@[simp] theorem State.doJog_waiting (bs : List Byte) : (s.doJog q bs).1.ih.waiting = s.ih.waiting := by
  unfold State.doJog
  generalize s.quay[q].core = c
  cases hc : c.st <;> simp [hc, apply_ite Prod.fst, apply_ite State.ih, apply_ite Channel.waiting]
@[simp] theorem State.doHome_waiting (bs : List Byte) (op : AcceptedOp) : (s.doHome q bs op).1.ih.waiting = s.ih.waiting := by
  unfold State.doHome
  generalize s.quay[q].core = c
  cases hc : c.st <;> simp [hc, apply_ite Prod.fst, apply_ite State.ih, apply_ite Channel.waiting, State.modQuay]
@[simp] theorem State.ackQuay_waiting : (s.ackQuay q).1.ih.waiting = s.ih.waiting := by
  simp [State.ackQuay, apply_ite Prod.fst, apply_ite State.ih, apply_ite Channel.waiting]

/-- A command to a quay leaves the forwarded commands that are waited for. -/
theorem State.quayCommand_waiting (m : Msg) (op : AcceptedOp) : (s.quayCommand q m op).1.ih.waiting = s.ih.waiting := by
  unfold State.quayCommand
  simp only
  split <;> simp [State.doSetSpeed, State.doSetAccel, State.doSetTorqueLimit]

/-- A command to the device leaves the forwarded commands that are waited for. -/
theorem State.deviceCommand_waiting (m : Msg) (op : AcceptedOp) (es : Staging) : (s.deviceCommand m op es).1.ih.waiting = s.ih.waiting := by
  unfold State.deviceCommand
  simp only
  split
  case h_1 => simp [State.doStopAll]
  case h_2 => simp [State.doStopAll]
  case h_3 =>
    unfold State.doMoveGroup
    simp only
    split
    · rfl
    · exact forAll_waiting _ _ _ fun t e => t.putMotion_waiting e.1 _ _
  case h_4 =>
    have after (u : State) (b : Bool) : (u.afterDeviceAck b).ih.waiting = u.ih.waiting :=
      State.waiting_of_blank (State.afterDeviceAck_blank (ps := [.boot, .flt, .transit]) u b (by simp)) (by simp)
    simp [State.ackDevice, State.modFlt, apply_ite State.ih, after]
  case h_5 => exact s.commitEntries_waiting es
  case h_6 => exact State.waiting_of_blank (State.doTraceConfig_blank (ps := [.free, .tb, .claims, .trace]) s _ (by simp)) (by simp)
  case h_7 => exact State.waiting_of_blank (State.doTraceArm_blank (ps := [.free, .tb, .claims, .trace]) s _ (by simp)) (by simp)
  case h_8 => exact State.waiting_of_blank (State.doTraceStop_blank (ps := [.free, .tb, .claims, .trace]) s _ (by simp)) (by simp)
  case h_9 => exact State.waiting_of_blank (State.doFlashWrite_blank (ps := [.flash]) s _ (by simp)) (by simp)
  case h_10 => rfl

/-- A command to a lane leaves the forwarded commands that are waited for. -/
theorem State.laneCommand_waiting (n : LaneNo) (m : Msg) (op : AcceptedOp) : (s.laneCommand n m op).1.ih.waiting = s.ih.waiting := by
  unfold State.laneCommand
  split
  · exact State.waiting_of_blank (State.doDetach_blank (ps := [.lane, .leg, .port]) s n (by simp)) (by simp)
  · exact State.waiting_of_blank (State.doAttach_blank (ps := [.lane]) s n op (by simp)) (by simp)

/-- A command performed leaves the forwarded commands that are waited for. -/
theorem State.perform_waiting (m : Msg) (es : Staging) (f : Bool) : (s.perform m es f).1.ih.waiting = s.ih.waiting := by
  have note (u : State) (t : Option Target) (b : Byte) : (u.noteRefusal t b).ih.waiting = u.ih.waiting :=
    State.waiting_of_blank (State.noteRefusal_blank (ps := [.transit]) u t b (by simp)) (by simp)
  refine (note _ _ _).trans ?_
  cases targetOf m.target with
  | none => exact (State.deviceCommand_waiting _ m _ es).trans (forAll_waiting _ _ _ State.flagsFirst_waiting)
  | some t =>
    cases t with
    | quay q => exact (State.quayCommand_waiting _ q m _).trans (s.flagsFirst_waiting q)
    | lane n => exact s.laneCommand_waiting n m _
    | device => exact (State.deviceCommand_waiting _ m _ es).trans (forAll_waiting _ _ _ State.flagsFirst_waiting)
end

end Sys2Proof.Machine
end

section
/-! #### Forwarded commands and their replies (R228, R255 to R259) -/

namespace Sys2Proof.Machine

/-- The half whose message is taken first: half A's, unless it has none of the kind. -/
theorem execIhForward_of_head {s : State} {h : Side} {m : Msg} {es : Staging} {u : Nat} (hh : (s.ih.from_.get h).head? = some (.forward m es u))
    (hf : h = .b → ∀ m' es' u', (s.ih.from_.get .a).head? ≠ some (.forward m' es' u')) :
    exec .ihForward s = .next ((s.takeFrom h).takeForward h.other m es u) := by
  change execIhForward s = _
  unfold execIhForward State.headFrom
  cases h with
  | a => simp only [hh]; rfl
  | b =>
    rw [hh]
    split
    · exact absurd ‹(s.ih.from_.get .a).head? = _› (hf rfl _ _ _)
    · have e := ‹some (IhMsg.forward m es u) = _›
      cases e
      rfl
    · exact absurd rfl (‹∀ m' es' u', some (IhMsg.forward m es u) = some (.forward m' es' u') → False› m es u)

theorem execIhForward_none {s : State} (hn : ∀ h m es u, (s.ih.from_.get h).head? ≠ some (.forward m es u)) : exec .ihForward s = .next s := by
  change execIhForward s = _
  unfold execIhForward State.headFrom
  split
  · exact absurd ‹(s.ih.from_.get .a).head? = _› (hn _ _ _ _)
  · exact absurd ‹(s.ih.from_.get .b).head? = _› (hn _ _ _ _)
  · rfl

theorem execIhForwardReply_of_head {s : State} {h : Side} {m : Msg} {r : Result} (hh : (s.ih.from_.get h).head? = some (.forwardReply m r))
    (hf : h = .b → ∀ m' r', (s.ih.from_.get .a).head? ≠ some (.forwardReply m' r')) :
    exec .ihForwardReply s = .next ((s.takeFrom h).takeReply m r) := by
  change execIhForwardReply s = _
  unfold execIhForwardReply State.headFrom
  cases h with
  | a => simp only [hh]
  | b =>
    rw [hh]
    split
    · exact absurd ‹(s.ih.from_.get .a).head? = _› (hf rfl _ _)
    · have e := ‹some (IhMsg.forwardReply m r) = _›
      cases e
      rfl
    · exact absurd rfl (‹∀ m' r', some (IhMsg.forwardReply m r) = some (.forwardReply m' r') → False› m r)

theorem execIhForwardReply_none {s : State} (hn : ∀ h m r, (s.ih.from_.get h).head? ≠ some (.forwardReply m r)) :
    exec .ihForwardReply s = .next s := by
  change execIhForwardReply s = _
  unfold execIhForwardReply State.headFrom
  split
  · exact absurd ‹(s.ih.from_.get .a).head? = _› (hn _ _ _)
  · exact absurd ‹(s.ih.from_.get .b).head? = _› (hn _ _ _)
  · rfl

/-! ##### A command that is answered is waited for no longer -/

/-- The commands that are waited for, without one. -/
def State.unwait (s : State) (m : Msg) : State := s.modIh (fun c => { c with waiting := c.waiting.filter (fun e => e.1 != m) })

theorem State.unwait_waiting (s : State) (m : Msg) (u : Nat) : (m, u) ∉ (s.unwait m).ih.waiting := by
  simp [State.unwait, State.modIh]

theorem any_waiting_iff {xs : List (Msg × Nat)} {m : Msg} : xs.any (fun e => e.1 == m) = true ↔ ∃ u, (m, u) ∈ xs := by
  simp only [List.any_eq_true, beq_iff_eq, Prod.exists]
  exact ⟨fun ⟨a, u, hm, e⟩ => ⟨u, e ▸ hm⟩, fun ⟨u, hm⟩ => ⟨m, u, hm, rfl⟩⟩

/-- With nothing held no request is taken. -/
theorem State.serveHeld_of_nil {s : State} {p : Side} (h : (s.port.get p).held = []) : s.serveHeld p = s := by
  have e : ({ s.port.get p with held := [] } : Port) = s.port.get p := by rw [← h]
  unfold State.serveHeld
  rw [h]
  simp only [forAll, List.foldl_nil, State.modPort]
  rw [e, Pair.set_get_self]

/-- The requests a port holds, dropped. -/
def State.unheld (s : State) (p : Side) : State := s.modPort p (fun x => { x with held := [] })

theorem State.unheld_held (s : State) (p : Side) : ((s.unheld p).port.get p).held = [] := by
  simp [State.unheld, State.modPort]

/-- A command that was waited for, answered, with the requests held behind it. -/
def State.settleWait (s : State) (m : Msg) (r : Result) (f : Bool) : State := ((s.unwait m).finish m r f).serveHeld m.port

/-- With nothing held behind it, an answered command changes its port and what is waited for. -/
theorem State.settleWait_spec {s : State} {m : Msg} (h : (s.port.get m.port).held = []) (r : Result) (f : Bool) :
    Answered (s.settleWait m r f) m r f ∧ (∀ u, (m, u) ∉ (s.settleWait m r f).ih.waiting) ∧
    s.settleWait m r f = { s with port := (s.settleWait m r f).port, ih := { s.ih with waiting := (s.settleWait m r f).ih.waiting } } := by
  have hn : ((((s.unwait m).finish m r f).port.get m.port).held = []) := by
    simpa [State.finish, State.answer, State.modMbx, State.modPort, State.unwait, State.modIh] using h
  have e : s.settleWait m r f = (s.unwait m).finish m r f := State.serveHeld_of_nil hn
  rw [e]
  exact ⟨(finish_answered _ m r f).1, s.unwait_waiting m, rfl⟩

/-- An answer leaves the requests its port holds, which are then taken in their order. -/
theorem State.settleWait_held (s : State) (m : Msg) (r : Result) (f : Bool) :
    s.settleWait m r f = (s.port.get m.port).held.foldl (fun y k => y.serve m.port k) ((s.unheld m.port).settleWait m r f) := by
  have e : (((s.unwait m).finish m r f).port.get m.port).held = (s.port.get m.port).held := by
    simp [State.finish, State.answer, State.modMbx, State.modPort, State.unwait, State.modIh]
  have c : ((s.unheld m.port).unwait m).finish m r f = ((s.unwait m).finish m r f).unheld m.port := by
    simp [State.finish, State.answer, State.modMbx, State.modPort, State.unwait, State.modIh, State.unheld]
  have d : (s.unheld m.port).settleWait m r f = ((s.unwait m).finish m r f).unheld m.port := by
    unfold State.settleWait
    rw [c]
    exact State.serveHeld_of_nil (State.unheld_held _ _)
  rw [d]
  unfold State.settleWait State.serveHeld
  rw [e]
  rfl

/-! ##### What becomes of a forwarded command at the half it reaches -/

section
variable {s : State} {g : Side} {m : Msg} {es : Staging} {u : Nat}

/-- In charge, a command in line with one on its way back goes round behind it. -/
theorem State.takeForward_behind (hg : s.hm.grant = some g) (hl : s.inLineFrom g m = true) : s.takeForward g m es u = s.post g (.forward m es u) :=
  if_pos (by rw [State.inCharge, hg, hl, beq_self_eq_true, Bool.and_true])

/-- In charge, any other is performed. -/
theorem State.takeForward_performed (hg : s.hm.grant = some g) (hl : s.inLineFrom g m = false) :
    s.takeForward g m es u =
      let o := s.perform m es (decide (m.port ≠ g))
      if m.port = g then (if s.ih.waiting.any (fun e => e.1 == m) then o.1.settleWait m o.2 false else o.1) else o.1.post g (.forwardReply m o.2) := by
  have hc : s.inCharge g = true := by rw [State.inCharge, hg, beq_self_eq_true]
  unfold State.takeForward
  rw [hc, hl, Bool.and_false, if_neg Bool.false_ne_true, if_pos rfl]
  rfl

/-- The half in charge is another one, and runs: the command goes on to it. -/
theorem State.takeForward_on (hg : s.hm.grant = some g.other) (hr : (s.half.get g.other).run = true) :
    s.takeForward g m es u = s.post g (.forward m es u) := by
  have hc : s.inCharge g = false := by rw [State.inCharge, hg]; cases g <;> rfl
  have ho : s.inCharge g.other = true := by rw [State.inCharge, hg, beq_self_eq_true]
  simp only [State.takeForward, hc, ho, hr, Bool.false_and, Bool.false_eq_true, if_false, Bool.and_self, if_true]

/-- No running half is in charge: the command is lost. -/
theorem State.takeForward_lost (hg : s.hm.grant = none ∨ (s.hm.grant = some g.other ∧ (s.half.get g.other).run = false)) :
    s.takeForward g m es u = s := by
  have hc : s.inCharge g = false := by
    obtain h | ⟨h, -⟩ := hg
    · rw [State.inCharge, h]; rfl
    · rw [State.inCharge, h]; cases g <;> rfl
  have ho : (s.inCharge g.other && (s.half.get g.other).run) = false := by
    obtain h | ⟨-, h⟩ := hg
    · rw [State.inCharge, h]; rfl
    · rw [h, Bool.and_false]
  simp only [State.takeForward, hc, ho, Bool.false_and, Bool.false_eq_true, if_false]
end

/-- A forwarded command at a half (R228, R255 to R259). -/
theorem forward_taken {h : Side} {m : Msg} {es : Staging} {u : Nat} {s : State} (hh : (s.ih.from_.get h).head? = some (.forward m es u))
    (hf : h = .b → ∀ m' es' u', (s.ih.from_.get .a).head? ≠ some (.forward m' es' u')) :
    let s1 := s.takeFrom h
    let o := s1.perform m es (decide (m.port ≠ h.other))
    (s.hm.grant = some h.other → s1.inLineFrom h.other m = true → exec .ihForward s = .next (s1.post h.other (.forward m es u))) ∧
    (s.hm.grant = some h.other → s1.inLineFrom h.other m = false → m.port = h → exec .ihForward s = .next (o.1.post h.other (.forwardReply m o.2))) ∧
    (s.hm.grant = some h.other → s1.inLineFrom h.other m = false → m.port = h.other → (∀ v, (m, v) ∉ o.1.ih.waiting) →
      exec .ihForward s = .next o.1) ∧
    (s.hm.grant = some h.other → s1.inLineFrom h.other m = false → m.port = h.other → (∃ v, (m, v) ∈ o.1.ih.waiting) →
      (o.1.port.get m.port).held = [] →
      ∃ t, exec .ihForward s = .next t ∧ Answered t m o.2 false ∧ (∀ v, (m, v) ∉ t.ih.waiting) ∧ t = { o.1 with port := t.port, ih := t.ih }) ∧
    (s.hm.grant = some h → (s.half.get h).run = true → exec .ihForward s = .next (s1.post h.other (.forward m es u))) ∧
    (s.hm.grant = none ∨ (s.hm.grant = some h ∧ (s.half.get h).run = false) → exec .ihForward s = .next s1) := by
  intro s1 o
  have he := execIhForward_of_head hh hf
  have hw : s1.ih.waiting.any (fun e => e.1 == m) = true ↔ ∃ v, (m, v) ∈ o.1.ih.waiting := by
    rw [show o.1.ih.waiting = s1.ih.waiting from s1.perform_waiting m es _]
    exact any_waiting_iff
  have hoo : h.other.other = h := by cases h <;> rfl
  have done (hg : s.hm.grant = some h.other) (hl : s1.inLineFrom h.other m = false) := he.trans (congrArg _ (State.takeForward_performed (s := s1) hg hl))
  refine ⟨fun hg hl => he.trans (congrArg _ (State.takeForward_behind hg hl)), fun hg hl hp => (done hg hl).trans (congrArg _ (if_neg ?_)),
    fun hg hl hp hv => (done hg hl).trans (congrArg _ ((if_pos hp).trans (if_neg ?_))), fun hg hl hp hv hd => ?_,
    fun hg hr => he.trans (congrArg _ (State.takeForward_on ?_ ?_)), fun hg => he.trans (congrArg _ (State.takeForward_lost ?_))⟩
  · rw [hp]
    exact Side.other_ne h
  · rw [hw]
    exact fun ⟨v, hm⟩ => hv v hm
  · obtain ⟨ha, hn, hs⟩ := State.settleWait_spec hd o.2 false
    refine ⟨_, (done hg hl).trans (congrArg _ ((if_pos hp).trans (if_pos (hw.mpr hv)))), ha, hn, ?_⟩
    generalize o.1.settleWait m o.2 false = t at hs ⊢
    rw [hs]
  · rw [hoo]; exact hg
  · rw [hoo]; exact hr
  · rw [hoo]; exact hg

/-- A reply at the half its request came through (R256 to R258). -/
theorem reply_taken {h : Side} {m : Msg} {r : Result} {s : State} (hh : (s.ih.from_.get h).head? = some (.forwardReply m r))
    (hf : h = .b → ∀ m' r', (s.ih.from_.get .a).head? ≠ some (.forwardReply m' r')) :
    ((∃ u, (m, u) ∈ s.ih.waiting) → (s.port.get m.port).held = [] → ∃ t, exec .ihForwardReply s = .next t ∧ Answered t m r true ∧
      (∀ u, (m, u) ∉ t.ih.waiting) ∧ t.ih.from_ = s.ih.from_.set h ((s.ih.from_.get h).drop 1) ∧ t = { s with port := t.port, ih := t.ih }) ∧
    ((∃ u, (m, u) ∈ s.ih.waiting) → ∀ t, exec .ihForwardReply (s.modPort m.port (fun x => { x with held := [] })) = .next t →
      exec .ihForwardReply s = .next ((s.port.get m.port).held.foldl (fun y k => y.serve m.port k) t)) ∧
    ((∀ u, (m, u) ∉ s.ih.waiting) → exec .ihForwardReply s = .next (s.takeFrom h)) := by
  have he (hw : ∃ u, (m, u) ∈ s.ih.waiting) : exec .ihForwardReply s = .next ((s.takeFrom h).settleWait m r true) :=
    (execIhForwardReply_of_head hh hf).trans (congrArg _ (if_pos (any_waiting_iff.mpr hw)))
  refine ⟨fun hw hd => ?_, fun hw t ht => ?_, fun hw => ?_⟩
  · obtain ⟨ha, hn, hs⟩ := State.settleWait_spec (s := s.takeFrom h) hd r true
    refine ⟨_, he hw, ha, hn, ?_⟩
    generalize (s.takeFrom h).settleWait m r true = t at hs ⊢
    rw [hs]
    exact ⟨rfl, rfl⟩
  · have ht' : ((s.unheld m.port).takeFrom h).settleWait m r true = t := by
      have e : exec .ihForwardReply (s.unheld m.port) = .next (((s.unheld m.port).takeFrom h).settleWait m r true) :=
        (execIhForwardReply_of_head (s := s.unheld m.port) hh hf).trans (congrArg _ (if_pos (any_waiting_iff.mpr hw)))
      exact Host.Outcome.next.inj (e.symm.trans ht)
    rw [he hw, State.settleWait_held, ← ht']
    rfl
  · refine (execIhForwardReply_of_head hh hf).trans (congrArg _ (if_neg ?_))
    rw [any_waiting_iff]
    exact fun ⟨u, hm⟩ => hw u hm

/-- A forwarded command that has waited too long, or whose half in charge does not run. -/
def State.Gone (s : State) (e : Msg × Nat) : Prop := e.2 + 6400 * hostFwdTimeout s e.1.port ≤ s.now ∨ (s.half.get e.1.port.other).run = false

theorem State.forwardExpired_iff (s : State) (e : Msg × Nat) : s.forwardExpired e = true ↔ s.Gone e := by
  unfold State.forwardExpired
  rw [Bool.or_eq_true, decide_eq_true_iff, Bool.not_eq_true']
  exact Iff.rfl

theorem find?_forwardExpired {s : State} {e : Msg × Nat} {pre rest : List (Msg × Nat)} (hl : s.ih.waiting = pre ++ e :: rest)
    (hp : ∀ x ∈ pre, ¬ s.Gone x) (he : s.Gone e) : s.ih.waiting.find? s.forwardExpired = some e := by
  rw [List.find?_eq_some_iff_append]
  refine ⟨(s.forwardExpired_iff e).mpr he, pre, rest, hl, fun x hx => ?_⟩
  rw [Bool.not_eq_true', ← Bool.not_eq_true, s.forwardExpired_iff]
  exact hp x hx

theorem execForwardTimeout_some {s : State} {e : Msg × Nat} (h : s.ih.waiting.find? s.forwardExpired = some e) :
    exec .forwardTimeout s = .next (s.settleWait e.1 (refusal stNotInCharge) false) := by
  change execForwardTimeout s = _
  simp only [execForwardTimeout, h]
  rfl

theorem execForwardTimeout_none {s : State} (h : ∀ e ∈ s.ih.waiting, ¬ s.Gone e) : exec .forwardTimeout s = .next s := by
  have hn : s.ih.waiting.find? s.forwardExpired = none := List.find?_eq_none.mpr fun e he => by
    rw [s.forwardExpired_iff]
    exact h e he
  change execForwardTimeout s = _
  simp only [execForwardTimeout, hn]

/-- The first forwarded command that is given up (R257, R258). -/
theorem forward_given_up {s : State} {m : Msg} {u : Nat} {pre rest : List (Msg × Nat)} (hl : s.ih.waiting = pre ++ (m, u) :: rest)
    (hp : ∀ x ∈ pre, ¬ s.Gone x) (he : s.Gone (m, u)) :
    ((s.port.get m.port).held = [] → ∃ t, exec .forwardTimeout s = .next t ∧ Answered t m { status := 0x17, advice := 0, data := [] } false ∧
      (∀ v, (m, v) ∉ t.ih.waiting) ∧ t = { s with port := t.port, ih := { s.ih with waiting := t.ih.waiting } }) ∧
    (∀ t, exec .forwardTimeout (s.modPort m.port (fun x => { x with held := [] })) = .next t →
      exec .forwardTimeout s = .next ((s.port.get m.port).held.foldl (fun y k => y.serve m.port k) t)) := by
  have hx := execForwardTimeout_some (find?_forwardExpired hl hp he)
  refine ⟨fun hd => ⟨_, hx, State.settleWait_spec hd _ false⟩, fun t ht => ?_⟩
  have ht' : (s.unheld m.port).settleWait m (refusal stNotInCharge) false = t :=
    Host.Outcome.next.inj ((execForwardTimeout_some (s := s.unheld m.port) (find?_forwardExpired hl hp he)).symm.trans ht)
  rw [hx, State.settleWait_held, ht']

/-- Settles O49, with the cases of `takeForward`, `takeReply` and `forwardExpired`; that a performed command leaves the waiting ones is
`State.perform_waiting`. -/
theorem commandsForwarded : Obligations.CommandsForwarded :=
  ⟨fun _ _ _ _ _ hh hf => forward_taken hh hf, fun _ => execIhForward_none, fun _ _ _ _ hh hf => reply_taken hh hf, fun _ => execIhForwardReply_none,
    fun _ => ⟨fun _ _ _ _ hl hp he => forward_given_up hl hp he, execForwardTimeout_none⟩⟩

end Sys2Proof.Machine
end

section
/-! #### Register writes and reads through a window of a port (R199 to R206, R225, R239 to R241) -/

namespace Sys2Proof.Machine

section
variable (s : State) (p : Side)

/-! ##### Transactions -/

theorem exec_registerWrite_ignored {i : Byte} (a : BitVec 16) (data : List Byte) (cut : Bool)
    (h : s.portsDead = true ∨ (i ∉ [(0x00 : Byte), 0x10, 0x20] ∧ i ∉ [(0x80 : Byte), 0x90, 0xA0])) :
    exec (.registerWrite p ⟨i, a⟩ data cut) s = .next s := by
  change execRegisterWrite p ⟨i, a⟩ data cut s = _
  obtain hd | ⟨hw, hr⟩ := h
  · simp [execRegisterWrite, State.transaction, hd]
  · simp only [List.mem_cons, List.not_mem_nil, or_false, not_or] at hw hr
    obtain ⟨w0, w1, w2⟩ := hw
    obtain ⟨r0, r1, r2⟩ := hr
    have ew : isWriteInstruction i = false := by
      simp only [isWriteInstruction, Bool.or_eq_false_iff, beq_eq_false_iff_ne]
      exact ⟨⟨w0, w1⟩, w2⟩
    have er : isReadInstruction i = false := by
      simp only [isReadInstruction, Bool.or_eq_false_iff, beq_eq_false_iff_ne]
      exact ⟨⟨r0, r1⟩, r2⟩
    simp only [execRegisterWrite, ew, er, Bool.false_and, Bool.false_eq_true, if_false]

theorem exec_registerWrite_write {i : Byte} (hi : i = 0x00 ∨ i = 0x10 ∨ i = 0x20) (a : BitVec 16) (data : List Byte) (cut : Bool) :
    exec (.registerWrite p ⟨i, a⟩ data cut) s = .next (s.transaction p a.toNat data cut) :=
  if_pos (by rcases hi with rfl | rfl | rfl <;> rfl)

theorem exec_registerWrite_read {i : Byte} (hi : i ∈ [(0x80 : Byte), 0x90, 0xA0]) (hd : s.portsDead = false) (a : BitVec 16) (data : List Byte)
    (cut : Bool) : exec (.registerWrite p ⟨i, a⟩ data cut) s = .next (s.readBytes p a.toNat data.length).2 := by
  simp only [List.mem_cons, List.not_mem_nil, or_false] at hi
  change execRegisterWrite p ⟨i, a⟩ data cut s = _
  rcases hi with rfl | rfl | rfl <;> simp [execRegisterWrite, isWriteInstruction, isReadInstruction, hd]

/-- No class-0 request buffer lies in the regions of whole words. -/
theorem c0ReqAt_of_word {a : Nat} (h : a < 0x1000 ∨ 0x8000 ≤ a) : c0ReqAt a = none :=
  dif_neg (by omega)

theorem c0Touched_of_word {a n : Nat} (h : ∀ i < n, (a + i) % 65536 < 0x1000 ∨ 0x8000 ≤ (a + i) % 65536) : c0Touched a n = [] := by
  refine List.filter_eq_nil_iff.mpr fun m _ => ?_
  simp only [List.any_eq_true, List.mem_range, not_exists, not_and]
  intro i hi
  rw [c0ReqAt_of_word (h i hi)]
  simp

/-- The four bytes of a word make it again. -/
theorem leNat_leBytes_four (v : Word) : BitVec.ofNat 32 (leNat (leBytes 4 v.toNat)) = v := by
  apply BitVec.eq_of_toNat_eq
  have := v.isLt
  simp only [leBytes, leNat, BitVec.toNat_ofNat]
  omega

variable {s}

/-- A whole word written in the regions of whole words. -/
theorem transaction_word (hd : s.portsDead = false) {a : Nat} (h4 : a % 4 = 0) (hl : a < 65536) (hr : a < 0x1000 ∨ 0x8000 ≤ a) (v : Word) :
    s.transaction p a (leBytes 4 v.toNat) false = s.writeReg p a v := by
  have ht : c0Touched a 4 = [] := c0Touched_of_word fun i hi => by omega
  have hw : wordRegion a = true := by simpa [wordRegion] using hr
  have hb : s.writeBytes p a (leBytes 4 v.toNat) = s.writeReg p a (BitVec.ofNat 32 (leNat (leBytes 4 v.toNat))) := by
    simp [leBytes, State.writeBytes, hw, h4]
  rw [leNat_leBytes_four] at hb
  unfold State.transaction
  rw [c0ReqAt_of_word hr]
  simp only [hd, hb]
  simp [leBytes, ht]

/-- A byte of a word alone changes SPI_ERR.PARTIAL only. -/
theorem transaction_byte (hd : s.portsDead = false) {a : Nat} (hl : a < 65536) (hr : a < 0x1000 ∨ 0x8000 ≤ a) (b : Byte) :
    s.transaction p a [b] false = s.spiError p 0 := by
  have ht : c0Touched a 1 = [] := c0Touched_of_word fun i hi => by omega
  have hw : wordRegion a = true := by simpa [wordRegion] using hr
  unfold State.transaction
  rw [c0ReqAt_of_word hr]
  simp [hd, ht, State.writeBytes, hw]

/-- A byte left incomplete in a word sets SPI_ERR.ABORT and PARTIAL. -/
theorem transaction_abort (hd : s.portsDead = false) {a : Nat} (hl : a < 65536) (hr : a < 0x1000 ∨ 0x8000 ≤ a) :
    s.transaction p a [] true = (s.spiError p 1).spiError p 0 := by
  have ht : c0Touched a 1 = [] := c0Touched_of_word fun i hi => by omega
  have hw : wordRegion a = true := by simpa [wordRegion] using hr
  unfold State.transaction
  rw [c0ReqAt_of_word hr]
  simp [hd, ht, State.writeBytes, hw, State.abortAt, Nat.mod_eq_of_lt hl]

/-- The class-0 request buffers at their first byte. -/
theorem c0ReqAt_buffer (mb : Fin 4) : c0ReqAt (0x2000 + 32 * mb.val) = some mb := by
  revert mb
  decide

/-- A message of 16 bytes at a class-0 request buffer is taken. -/
theorem transaction_classZero (hd : s.portsDead = false) (mb : Fin 4) {data : List Byte} (hl : data.length = 16) :
    s.transaction p (0x2000 + 32 * mb.val) data false = s.classZero p mb (data.getD 1 0) (c0Parse data) := by
  unfold State.transaction
  rw [c0ReqAt_buffer]
  have h0 : (0x2000 + 32 * mb.val) % 32 = 0 := by omega
  simp only [hd, hl, h0]
  rfl

/-- Another write to a class-0 request buffer is discarded and counted. -/
theorem transaction_discard (hd : s.portsDead = false) (mb : Fin 4) {data : List Byte} (hn : data ≠ []) (hl : data.length ≠ 16) :
    s.transaction p (0x2000 + 32 * mb.val) data false = s.c0Discard p := by
  have h0 : data.length ≠ 0 := fun h => hn (List.eq_nil_of_length_eq_zero h)
  unfold State.transaction
  rw [c0ReqAt_buffer]
  simp [hd, hl, h0]
end

/-! ##### The latches of a read (R92, R96) -/

section
variable (s : State) (p : Side)

/-- A capture register whose time an offset begins. -/
theorem readEffect_spec (a : Nat) :
    s.readEffect p a = { s with tb := { s.tb with
      devHi := if a = 0xA000 then s.tb.devHi.set p (BitVec.ofNat 32 (s.now / 4294967296)) else s.tb.devHi
      capHi := (s.readEffect p a).tb.capHi } } ∧
    (s.readEffect p a).tb.capHi.get p.other = s.tb.capHi.get p.other ∧
    ∀ k : Fin 32, ((s.readEffect p a).tb.capHi.get p)[k] =
      if a = 0xA100 + 16 * k.val then BitVec.ofNat 32 (s.tb.cap[k].time / 4294967296) else (s.tb.capHi.get p)[k] := by
  unfold State.readEffect
  by_cases ha : a = 0xA000
  · rw [if_pos ha]
    refine ⟨by simp [State.latchDevTime, State.modTb, ha, State.now], rfl, fun k => ?_⟩
    rw [if_neg (by omega)]
    rfl
  · rw [if_neg ha]
    by_cases hc : 0xA100 ≤ a ∧ a % 16 = 0 ∧ (a - 0xA100) / 16 < 32
    · rw [dif_pos hc]
      refine ⟨by rw [if_neg ha]; rfl, ?_, fun k => ?_⟩
      · exact Pair.get_set_ne _ _ (Side.other_ne p)
      · change ((s.tb.capHi.set p ((s.tb.capHi.get p).set ((a - 0xA100) / 16)
          (BitVec.ofNat 32 (s.tb.cap[(a - 0xA100) / 16].time / 4294967296)) hc.2.2)).get p)[k] = _
        rw [Pair.get_set]
        by_cases hk : a = 0xA100 + 16 * k.val
        · have e : (a - 0xA100) / 16 = k.val := by omega
          simp only [if_pos hk, e]
          exact Vector.getElem_set_self _
        · rw [if_neg hk]
          exact Vector.getElem_set_ne _ _ (by omega)
    · rw [dif_neg hc]
      refine ⟨by simp [ha], rfl, fun k => ?_⟩
      rw [if_neg (by have := k.isLt; omega)]

/-- The offsets of a read are its first one and those of the rest. -/
theorem reads_succ {a n x : Nat} (ha : a < 65536) :
    (∃ i, i < n + 1 ∧ (a + i) % 65536 = x) ↔ a = x ∨ ∃ i, i < n ∧ ((a + 1) % 65536 + i) % 65536 = x := by
  constructor
  · rintro ⟨i, hi, e⟩
    cases i with
    | zero => left; omega
    | succ i => exact .inr ⟨i, by omega, by omega⟩
  · rintro (rfl | ⟨i, hi, e⟩)
    · exact ⟨0, by omega, by omega⟩
    · exact ⟨i + 1, by omega, by omega⟩

/-- What a read of some bytes from an offset on latches. -/
theorem readBytes_spec (s : State) (p : Side) {a : Nat} (ha : a < 65536) (n : Nat) {t : State} (ht : (s.readBytes p a n).2 = t) :
    t = { s with tb := { s.tb with devHi := t.tb.devHi, capHi := t.tb.capHi } } ∧
    t.tb.devHi.get p.other = s.tb.devHi.get p.other ∧ t.tb.capHi.get p.other = s.tb.capHi.get p.other ∧
    ((∃ i, i < n ∧ (a + i) % 65536 = 0xA000) → t.tb.devHi.get p = BitVec.ofNat 32 (s.now / 4294967296)) ∧
    ((¬ ∃ i, i < n ∧ (a + i) % 65536 = 0xA000) → t.tb.devHi = s.tb.devHi) ∧
    ∀ k : Fin 32,
      ((∃ i, i < n ∧ (a + i) % 65536 = 0xA100 + 16 * k.val) → (t.tb.capHi.get p)[k] = BitVec.ofNat 32 (s.tb.cap[k].time / 4294967296)) ∧
      ((¬ ∃ i, i < n ∧ (a + i) % 65536 = 0xA100 + 16 * k.val) → (t.tb.capHi.get p)[k] = (s.tb.capHi.get p)[k]) := by
  induction n generalizing s a with
  | zero =>
    subst ht
    exact ⟨rfl, rfl, rfl, fun ⟨_, h, _⟩ => absurd h (Nat.not_lt_zero _), fun _ => rfl,
      fun _ => ⟨fun ⟨_, h, _⟩ => absurd h (Nat.not_lt_zero _), fun _ => rfl⟩⟩
  | succ n ih =>
    obtain ⟨f1, o1, c1⟩ := readEffect_spec s p a
    have ht' : ((s.readEffect p a).readBytes p ((a + 1) % 65536) n).2 = t := ht
    obtain ⟨f2, d2, o2, r2, k2, c2⟩ := ih _ (Nat.mod_lt _ (by omega)) ht'
    generalize s.readEffect p a = u at *
    have hnow : u.now = s.now := (congrArg State.now f1 :)
    have hcap : u.tb.cap = s.tb.cap := (congrArg (fun x => x.tb.cap) f1 :)
    have hdev : u.tb.devHi = if a = 0xA000 then s.tb.devHi.set p (BitVec.ofNat 32 (s.now / 4294967296)) else s.tb.devHi :=
      (congrArg (fun x => x.tb.devHi) f1 :)
    refine ⟨?_, ?_, o2.trans o1, fun h => ?_, fun h => ?_, fun k => ⟨fun h => ?_, fun h => ?_⟩⟩
    · rw [f2, f1]
    · rw [d2, hdev]
      split
      · exact Pair.get_set_ne _ _ (Side.other_ne p)
      · rfl
    · by_cases hr : ∃ i, i < n ∧ ((a + 1) % 65536 + i) % 65536 = 0xA000
      · rw [r2 hr, hnow]
      · rw [k2 hr, hdev, if_pos (((reads_succ ha).mp h).resolve_right hr), Pair.get_set]
    · rw [reads_succ ha, not_or] at h
      rw [k2 h.2, hdev, if_neg h.1]
    · by_cases hr : ∃ i, i < n ∧ ((a + 1) % 65536 + i) % 65536 = 0xA100 + 16 * k.val
      · rw [(c2 k).1 hr, hcap]
      · rw [(c2 k).2 hr, c1 k, if_pos (((reads_succ ha).mp h).resolve_right hr)]
    · rw [reads_succ ha, not_or] at h
      rw [(c2 k).2 h.2, c1 k, if_neg h.1]
end

/-! ##### Single registers -/

/-- The word of a capture register clears its flags. -/
theorem writeReg_capture (s : State) (p : Side) (v : Word) (k : Fin 32) :
    s.writeReg p (0xA10C + 16 * k.val) v = { s with tb := { s.tb with cap := s.tb.cap.set k (s.tb.cap[k].clear v) } } := by
  have hk := k.isLt
  have hc : 0xA10C ≤ 0xA10C + 16 * k.val ∧ (0xA10C + 16 * k.val) % 16 = 12 ∧ (0xA10C + 16 * k.val - 0xA10C) / 16 < 32 := by omega
  have e : (⟨(0xA10C + 16 * k.val - 0xA10C) / 16, hc.2.2⟩ : Fin 32) = k := Fin.ext (by simp only; omega)
  unfold State.writeReg
  split
  any_goals omega
  rw [dif_pos hc, e]
  rfl

/-- A tail that would pass the head has no effect. -/
theorem writeReg_evqTail (s : State) (p : Side) (v : Word) : s.writeReg p 0x0424 v =
    if v.setWidth 4 - (s.port.get p).evqTail ≤ (s.port.get p).evqHead - (s.port.get p).evqTail
    then { s with port := s.port.set p { s.port.get p with evqTail := v.setWidth 4 } } else s := by
  change { s with port := s.port.set p ((s.port.get p).moveTail (v.setWidth 4)) } = _
  unfold Port.moveTail
  split
  · rfl
  · rw [Pair.set_get_self]

/-- A word written to an offset that no register of a write has changes nothing. -/
theorem writeReg_none (s : State) (p : Side) (v : Word) {a : Nat}
    (hn : a ∉ [0x0120, 0x0124, 0x0128, 0x0164, 0x0170, 0x0400, 0x0404, 0x040C, 0x0410, 0x0414, 0x0418, 0x041C, 0x0424, 0x8000, 0x8010])
    (hc : ∀ k : Fin 32, a ≠ 0xA10C + 16 * k.val) : s.writeReg p a v = s := by
  simp only [List.mem_cons, List.not_mem_nil, or_false, not_or] at hn
  unfold State.writeReg
  split
  any_goals omega
  exact dif_neg fun ⟨h1, h2, h3⟩ => hc ⟨_, h3⟩ (by simp only; omega)

/-- Settles O60, with the transactions of a word, of a byte and of a class-0 buffer, and the latches of a read. -/
theorem registerWrites : Obligations.RegisterWrites := by
  refine ⟨fun p i a data cut s h => exec_registerWrite_ignored s p a data cut h, fun p i a data cut s hd hi => ?_, fun p i v s hd hi => ?_⟩
  · intro reads
    refine ⟨_, exec_registerWrite_read s p hi hd a data cut, ?_⟩
    generalize ht : (s.readBytes p a.toNat data.length).2 = t
    exact readBytes_spec s p a.isLt data.length ht
  · intro word x gives port
    have gw (a : BitVec 16) (t : State) (h4 : a.toNat % 4 = 0) (hr : a.toNat < 0x1000 ∨ 0x8000 ≤ a.toNat) (ht : s.writeReg p a.toNat v = t) :
        gives a t := (exec_registerWrite_write s p hi a word false).trans (congrArg _ ((transaction_word p hd h4 a.isLt hr v).trans ht))
    refine ⟨gw _ _ (by decide) (by decide) rfl, gw _ _ (by decide) (by decide) rfl, gw _ _ (by decide) (by decide) rfl,
      gw _ _ (by decide) (by decide) rfl, gw _ _ (by decide) (by decide) rfl, gw _ _ (by decide) (by decide) rfl,
      gw _ _ (by decide) (by decide) rfl, gw _ _ (by decide) (by decide) ?_, gw _ _ (by decide) (by decide) rfl,
      gw _ _ (by decide) (by decide) rfl, gw _ _ (by decide) (by decide) rfl, gw _ _ (by decide) (by decide) rfl,
      gw _ _ (by decide) (by decide) rfl, gw _ _ (by decide) (by decide) rfl, gw _ _ (by decide) (by decide) rfl,
      fun k => ?_, fun a h4 hr hn hc => gw a s h4 hr (writeReg_none s p v hn hc), fun a b hr => ⟨?_, ?_⟩, fun mb data hne => ?_⟩
    · exact writeReg_evqTail s p v
    · have hk := k.isLt
      have e : (BitVec.ofNat 16 (0xA10C + 16 * k.val)).toNat = 0xA10C + 16 * k.val := by
        rw [BitVec.toNat_ofNat]
        omega
      exact gw _ _ (by omega) (by omega) ((congrArg (fun n => s.writeReg p n v) e).trans (writeReg_capture s p v k))
    · exact (exec_registerWrite_write s p hi a [b] false).trans (congrArg _ (transaction_byte p hd a.isLt hr b))
    · refine (exec_registerWrite_write s p hi a [] true).trans (congrArg _ ((transaction_abort p hd a.isLt hr).trans ?_))
      simp only [State.spiError, State.modPort, Pair.get_set, Pair.set_set, BitVec.or_assoc]
      rfl
    · intro a
      have hm := mb.isLt
      have e : a.toNat = 0x2000 + 32 * mb.val := by
        rw [BitVec.toNat_ofNat]
        omega
      have hx := exec_registerWrite_write s p hi a data false
      rw [e] at hx
      refine ⟨fun hl => hx.trans (congrArg _ (transaction_classZero p hd mb hl)), fun hl => hx.trans (congrArg _ ?_)⟩
      rw [transaction_discard p hd mb hne hl]
      simp only [State.c0Discard, State.spiError, State.modPort, Pair.get_set, Pair.set_set]
      rfl

end Sys2Proof.Machine
end

section
/-! #### Class-0 messages (R144, R219, R240 to R254) -/

namespace Sys2Proof.Machine

theorem exec_classZero {c : Instr} {op : Byte} {p : Side} {mb : Fin 4} {msg : C0Msg} (h : c0Command c = some (op, p, mb, msg)) (s : State) :
    exec c s = .next (s.classZero p mb op msg) := by
  cases c <;> cases h <;> rfl

/-- The opcodes of class 0 are known. -/
theorem c0Opcode_of_command {c : Instr} {op : Byte} {p : Side} {mb : Fin 4} {msg : C0Msg} (h : c0Command c = some (op, p, mb, msg)) :
    c0Opcode op = true := by
  cases c <;> cases h <;> rfl

/-- A message written twice leaves what it leaves written once. -/
theorem C0Buffer.take_take (c : C0Buffer) (op : Byte) (m : C0Msg) : (c.take op m).take op m = c.take op m := by
  unfold C0Buffer.take
  generalize op.toNat = n
  split
  case h_8 => split <;> simp_all
  all_goals rfl

/-- A message written into the buffers of some quays. -/
theorem forAll_take_quay (op : Byte) (m : C0Msg) (qs : List QuayNo) (s : State) (q : QuayNo) :
    (forAll qs s (fun t q => t.modQuay q (fun x => { x with c0 := x.c0.take op m }))).quay[q] =
      if q ∈ qs then { s.quay[q] with c0 := s.quay[q].c0.take op m } else s.quay[q] := by
  induction qs generalizing s with
  | nil => rfl
  | cons r rs ih =>
    rw [forAll_cons, ih]
    by_cases hr : r = q
    · subst hr
      rw [s.modQuay_self, if_pos (List.mem_cons_self ..)]
      split
      · rw [C0Buffer.take_take]
      · rfl
    · rw [s.modQuay_ne _ hr]
      simp only [List.mem_cons, Ne.symm hr, false_or]

theorem forAll_take_frame (op : Byte) (m : C0Msg) (qs : List QuayNo) (s : State) :
    forAll qs s (fun t q => t.modQuay q (fun x => { x with c0 := x.c0.take op m })) =
      { s with quay := (forAll qs s (fun t q => t.modQuay q (fun x => { x with c0 := x.c0.take op m }))).quay } :=
  State.eq_take (ps := [.quay]) (forAll_blank s _ _ fun t q => by simp)

/-- The reply of a class-0 message as the mailbox holds it after `st`. -/
structure C0Answered (s t : State) (p : Side) (n : MbxNo) (op : Byte) (msg : C0Msg) (st : Byte) : Prop where
  req : (t.port.get p).mbx[n].req = writeCells 0 (s.port.get p).mbx[n].req 0 (c0Bytes op msg)
  rep : (t.port.get p).mbx[n].rep = writeCells 0 (s.port.get p).mbx[n].rep 0 (c0Reply op msg st s.now)
  done : (t.port.get p).done = (s.port.get p).done ||| mbxBit n
  busy : (t.port.get p).busy = (s.port.get p).busy
  accepted : (t.port.get p).c0Accepted = (if st = 0 then (s.port.get p).c0Accepted + 1 else (s.port.get p).c0Accepted)
  refused : (t.port.get p).c0Refused = (if st = 0 then (s.port.get p).c0Refused else satInc (s.port.get p).c0Refused)
  other : t.port.get p.other = s.port.get p.other

/-- The message in its request buffer. -/
def State.c0Put (s : State) (p : Side) (mb : Fin 4) (op : Byte) (msg : C0Msg) : State :=
  s.modMbx p (c0Mbx mb) (fun x => { x with req := writeCells 0 x.req 0 (c0Bytes op msg) })

/-- A message put into its buffer and answered, whatever it does to the quays between. -/
theorem c0Answer_spec {s u : State} (p : Side) (mb : Fin 4) (op : Byte) (msg : C0Msg) (st : Byte) (hp : u.port = (s.c0Put p mb op msg).port)
    (hn : u.now = s.now) : C0Answered s (u.c0Answer p mb op msg st) p (c0Mbx mb) op msg st ∧
      u.c0Answer p mb op msg st = { u with port := (u.c0Answer p mb op msg st).port } := by
  refine ⟨?_, rfl⟩
  have e : (u.c0Answer p mb op msg st).port = s.port.set p { s.port.get p with
      mbx := (s.port.get p).mbx.set (c0Mbx mb) { (s.port.get p).mbx[c0Mbx mb] with
        req := writeCells 0 (s.port.get p).mbx[c0Mbx mb].req 0 (c0Bytes op msg)
        rep := writeCells 0 (s.port.get p).mbx[c0Mbx mb].rep 0 (c0Reply op msg st s.now) }
      done := (s.port.get p).done ||| mbxBit (c0Mbx mb)
      c0Accepted := if st = stDone then (s.port.get p).c0Accepted + 1 else (s.port.get p).c0Accepted
      c0Refused := if st = stDone then (s.port.get p).c0Refused else satInc (s.port.get p).c0Refused } := by
    simp only [State.c0Answer, State.modMbx, State.modPort, hp, hn, State.c0Put, Pair.get_set, Pair.set_set, vmod, Vector.set_set]
    simp
  constructor <;> rw [e]
  · simp
  · simp
  · simp
  · simp
  · rw [Pair.get_set]
    rfl
  · rw [Pair.get_set]
    rfl
  · exact Pair.get_set_ne _ _ (Side.other_ne p)

/-- The checks that come before the acceptance table (R219). -/
theorem c0Check_crc {s : State} {p : Side} {op : Byte} {m : C0Msg} (h : m.crc ≠ crc16 ((c0Bytes op m).take 14)) : s.c0Check p op m = .inl 0x16 :=
  if_pos h

section
variable {s : State} {p : Side} {op : Byte} {m : C0Msg} (hr : m.crc = crc16 ((c0Bytes op m).take 14))
include hr

theorem c0Check_disabled (he : hostC0Enable s p = 0) : s.c0Check p op m = .inl 0x1A :=
  (if_neg (fun h => h hr)).trans (if_pos he)

theorem c0Check_unformed (he : hostC0Enable s p ≠ 0) (hf : ¬ (m.byte0.extractLsb' 6 2 = 0 ∧ m.length = 6)) : s.c0Check p op m = .inl 0x11 :=
  (if_neg (fun h => h hr)).trans ((if_neg he).trans (if_pos (not_and_or.mp hf)))

variable (ho : c0Opcode op = true) (he : hostC0Enable s p ≠ 0) (hf : m.byte0.extractLsb' 6 2 = 0 ∧ m.length = 6)
include ho he hf

/-- A formed message of a known opcode is judged by its target and the acceptance tables. -/
theorem c0Check_formed : s.c0Check p op m = match s.c0Targets op m.target with
    | none => .inl stRange
    | some qs => if qs.any (fun q => s.quay[q].c0.judge op == .refuse) then .inl stRefused else .inr qs := by
  unfold State.c0Check
  rw [if_neg (fun h => h hr), if_neg he, if_neg (fun h => h.elim (fun h => h hf.1) (fun h => h hf.2)), ho]
  rfl

theorem c0Check_untargeted (ht : s.c0Targets op m.target = none) : s.c0Check p op m = .inl 0x11 := by
  rw [c0Check_formed hr ho he hf, ht]
  rfl

theorem c0Check_refused {qs : List QuayNo} (ht : s.c0Targets op m.target = some qs) (hq : ∃ q ∈ qs, s.quay[q].c0.judge op = .refuse) :
    s.c0Check p op m = .inl 0x10 := by
  rw [c0Check_formed hr ho he hf]
  simp only [ht]
  obtain ⟨q, hq, hj⟩ := hq
  exact if_pos (List.any_eq_true.mpr ⟨q, hq, by rw [hj]; rfl⟩)

theorem c0Check_passed {qs : List QuayNo} (ht : s.c0Targets op m.target = some qs) (hq : ∀ q ∈ qs, s.quay[q].c0.judge op ≠ .refuse) :
    s.c0Check p op m = .inr qs := by
  rw [c0Check_formed hr ho he hf]
  simp only [ht]
  refine if_neg fun h => ?_
  obtain ⟨q, hm, hj⟩ := List.any_eq_true.mp h
  exact hq q hm (beq_iff_eq.mp hj)
end

/-- The scope of the note of a refused message: the quay it targets, else the device. -/
def c0Scope (t : U16) : Byte :=
  match targetOf t with
  | some (.quay q) => BitVec.ofNat 8 q.val
  | _ => 0xFF

/-- A refusal noted is raised at the scope of its target. -/
theorem noteRefusal_raised (s u : State) (t : U16) (hf : u.flt = s.flt) (hn : u.now = s.now) :
    Raised s (u.noteRefusal (targetOf t) 0x10) srcCmdRefused (c0Scope t) := by
  unfold State.noteRefusal c0Scope
  rw [if_pos (show (0x10 : Byte) = stRefused from rfl)]
  generalize targetOf t = o
  have at_ (n : Byte) (qs : List QuayNo) : Raised s (u.raise (faultOf u srcCmdRefused n qs {})) srcCmdRefused n :=
    ⟨_, congrArg (fun f : Collector => { f with transit := f.transit ++ [faultOf u srcCmdRefused n qs {}] }) hf, rfl, hn, rfl⟩
  cases o with
  | none => exact at_ 0xFF []
  | some x =>
    cases x with
    | quay q => exact at_ (BitVec.ofNat 8 q.val) [q]
    | device => exact at_ 0xFF []
    | lane n => exact at_ 0xFF []

section
variable {s : State} {p : Side} {mb : Fin 4} {op : Byte} {m : C0Msg} (hd : s.portsDead = false) (hs : s.boot.sealed = true)
include hd hs

/-- A message that fails a check is answered its status and changes no quay. -/
theorem classZero_refused {st : Byte} (h0 : st ≠ 0) (hc : s.c0Check p op m = .inl st) :
    C0Answered s (s.classZero p mb op m) p (c0Mbx mb) op m st ∧
    s.classZero p mb op m = { s with port := (s.classZero p mb op m).port, flt := (s.classZero p mb op m).flt } ∧
    (st ≠ 0x10 → (s.classZero p mb op m).flt = s.flt) ∧ (st = 0x10 → Raised s (s.classZero p mb op m) srcCmdRefused (c0Scope m.target)) := by
  have e : s.classZero p mb op m = ((s.c0Put p mb op m).c0Answer p mb op m st).noteRefusal (targetOf m.target) st := by
    have hc' : (s.c0Put p mb op m).c0Check p op m = .inl st := hc
    unfold State.classZero
    simp only [hd, hs, Bool.not_true, Bool.false_eq_true, if_false]
    change (match (s.c0Put p mb op m).c0Check p op m with | .inl status => _ | .inr qs => _) = _
    rw [hc']
    rfl
  obtain ⟨ha, hu⟩ := c0Answer_spec (u := s.c0Put p mb op m) p mb op m st rfl rfl
  rw [e]
  generalize (s.c0Put p mb op m).c0Answer p mb op m st = u at ha hu ⊢
  have hf : u.flt = s.flt := (congrArg State.flt hu :)
  have hp : (u.noteRefusal (targetOf m.target) st).port = u.port :=
    State.port_of_blank (State.noteRefusal_blank (ps := [.transit]) u _ _ (by simp)) (by simp)
  have hb : u.noteRefusal (targetOf m.target) st = { u with flt := (u.noteRefusal (targetOf m.target) st).flt } :=
    State.eq_take (ps := [.flt, .transit]) (State.noteRefusal_blank u _ _ (by simp))
  refine ⟨?_, ?_, fun h => ?_, fun h => ?_⟩
  · obtain ⟨h1, h2, h3, h4, h5, h6, h7⟩ := ha
    constructor <;> rw [hp] <;> assumption
  · rw [hp]
    rw [hb]
    generalize (u.noteRefusal (targetOf m.target) st).flt = f
    rw [hu]
    rfl
  · rw [noteRefusal_ne h]
    exact hf
  · subst h
    exact noteRefusal_raised s u m.target hf (congrArg State.now hu :)

/-- A message that passes is written into the buffer of each quay whose table accepts it. -/
theorem classZero_passed {qs : List QuayNo} (hc : s.c0Check p op m = .inr qs) :
    C0Answered s (s.classZero p mb op m) p (c0Mbx mb) op m 0 ∧
    s.classZero p mb op m = { s with port := (s.classZero p mb op m).port, quay := (s.classZero p mb op m).quay } ∧
    ∀ q : QuayNo, (s.classZero p mb op m).quay[q] =
      if q ∈ qs ∧ s.quay[q].c0.judge op = .accept then { s.quay[q] with c0 := s.quay[q].c0.take op m } else s.quay[q] := by
  have e : s.classZero p mb op m = (forAll (qs.filter (fun q => s.quay[q].c0.judge op == .accept)) (s.c0Put p mb op m)
      (fun t q => t.modQuay q (fun x => { x with c0 := x.c0.take op m }))).c0Answer p mb op m 0 := by
    have hc' : (s.c0Put p mb op m).c0Check p op m = .inr qs := hc
    unfold State.classZero
    simp only [hd, hs, Bool.not_true, Bool.false_eq_true, if_false]
    change (match (s.c0Put p mb op m).c0Check p op m with | .inl status => _ | .inr qs => _) = _
    rw [hc']
    rfl
  have hq (q : QuayNo) := forAll_take_quay op m (qs.filter (fun q => s.quay[q].c0.judge op == .accept)) (s.c0Put p mb op m) q
  have hf := forAll_take_frame op m (qs.filter (fun q => s.quay[q].c0.judge op == .accept)) (s.c0Put p mb op m)
  generalize forAll (qs.filter (fun q => s.quay[q].c0.judge op == .accept)) (s.c0Put p mb op m) _ = u at e hq hf
  obtain ⟨ha, hu⟩ := c0Answer_spec (s := s) (u := u) p mb op m 0 (congrArg State.port hf :) (congrArg State.now hf :)
  rw [e]
  refine ⟨ha, ?_, fun q => ?_⟩
  · generalize u.c0Answer p mb op m 0 = t at hu ⊢
    rw [hu]
    rw [hf]
    rfl
  · have h := hq q
    simp only [List.mem_filter, beq_iff_eq] at h
    exact h
end

/-- Settles O58, with the checks of `State.c0Check` and what a refused and an accepted message change. -/
theorem classZero : Obligations.ClassZero := by
  refine ⟨fun c op p mb msg s h => ⟨fun hd => ?_, fun hd hs => ?_⟩, fun c op p mb msg s h hd hs => ?_⟩
  · rw [exec_classZero h, State.classZero, if_pos hd]
  · have e : satInc s.boot.c0Drop = if s.boot.c0Drop = 0xFFFF#16 then 0xFFFF#16 else s.boot.c0Drop + 1 := by
      unfold satInc
      split
      · assumption
      · rfl
    rw [exec_classZero h, State.classZero, hd, hs, ← e]
    rfl
  · intro n bytes scope answered refused right formed
    have answers {t : State} {st : Byte} (ha : C0Answered s t p (c0Mbx mb) op msg st) : answered t st :=
      ⟨ha.req, ha.rep, ha.done, ha.busy, ha.accepted, ha.refused, ha.other⟩
    have refuses {st : Byte} (h0 : st ≠ 0) (hc : s.c0Check p op msg = .inl st) : refused st := by
      obtain ⟨ha, hf, h1, h2⟩ := classZero_refused hd hs h0 hc
      exact ⟨_, exec_classZero h s, answers ha, hf, h1, h2⟩
    have ho := c0Opcode_of_command h
    refine ⟨fun hr => refuses (by decide) (c0Check_crc hr), fun hr he => refuses (by decide) (c0Check_disabled hr he),
      fun hr he hf => refuses (by decide) (c0Check_unformed hr he hf),
      fun hr he hf ht => refuses (by decide) (c0Check_untargeted hr ho he hf ht),
      fun qs hr he hf ht => ⟨fun hq => refuses (by decide) (c0Check_refused hr ho he hf ht hq), fun hq => ?_⟩⟩
    obtain ⟨ha, hf, hk⟩ := classZero_passed (mb := mb) hd hs (c0Check_passed hr ho he hf ht hq)
    refine ⟨_, exec_classZero h s, answers ha, hf, fun q => ?_⟩
    rw [hk]
    cases c <;> cases h <;> rfl

end Sys2Proof.Machine
end

section
/-! #### How a request of class 1 to 3 is judged (R144, R219 to R233, R255 to R257, R316) -/

namespace Sys2Proof.Machine

section
variable {s : State} {op : Byte} {p : Side} {m : MbxNo} {r : Req}

/-! ##### A doorbell that finds no serving half or a busy mailbox -/

/-- What an exchange leaves that sets bits of SPI_ERR only. -/
def Noted (s t : State) (p : Side) (e : BitVec 6) : Prop :=
  t = { s with port := s.port.set p { s.port.get p with spiErr := (s.port.get p).spiErr ||| e, mbx3Sel := (t.port.get p).mbx3Sel } }

/-- MBX3_SEL as a message of class 3 needs it. -/
def State.selected (s : State) (p : Side) (m : MbxNo) : State :=
  if 24 ≤ m.val ∧ s.portsDead = false then s.modPort p (fun x => { x with mbx3Sel := BitVec.ofNat 3 (m.val - 24) }) else s

theorem selected_eq (s : State) (p : Side) (m : MbxNo) :
    s.selected p m = { s with port := s.port.set p { s.port.get p with mbx3Sel := ((s.selected p m).port.get p).mbx3Sel } } := by
  unfold State.selected
  split
  · simp [State.modPort]
  · rw [Pair.set_get_self]

theorem exchange_of_class (h4 : 4 ≤ m.val) : s.exchange op p m r = ((s.selected p m).putRequest p m (reqBytes op r)).ring p m :=
  if_neg (by omega)

/-- A half that does not run serves no doorbell. -/
theorem exchange_down (h4 : 4 ≤ m.val) (hy : s.isReady = true) (hr : (s.half.get p).run = false) : Noted s (s.exchange op p m r) p 0x20 := by
  have hd := portsDead_of_ready hy
  have ha : s.afterStep10 = true := by
    simp only [State.isReady, beq_iff_eq] at hy
    simp [State.afterStep10, hy]
  have hs := selected_eq s p m
  have e : s.exchange op p m r = (s.selected p m).spiError p 5 := by
    rw [exchange_of_class h4]
    generalize s.selected p m = u at hs
    have h1 : u.portsDead = false := by rw [hs]; exact hd
    have h2 : (u.half.get p).run = false := by rw [hs]; exact hr
    have h3 : u.buffersOpen p = false := by
      rw [State.buffersOpen, h2, show u.afterStep10 = true by rw [hs]; exact ha]
      rfl
    simp [State.putRequest, State.ring, h1, h2, h3]
  unfold Noted
  rw [e]
  generalize s.selected p m = u at hs
  rw [hs]
  simp [State.spiError, State.modPort]

/-- A busy mailbox takes neither request nor doorbell. -/
theorem exchange_busy (h4 : 4 ≤ m.val) (hy : s.isReady = true) (hr : (s.half.get p).run = true) (hb : (s.port.get p).busy &&& mbxBit m ≠ 0) :
    Noted s (s.exchange op p m r) p 0x18 := by
  have hd := portsDead_of_ready hy
  have hs := selected_eq s p m
  have e : s.exchange op p m r = ((s.selected p m).spiError p 3).spiError p 4 := by
    rw [exchange_of_class h4]
    generalize s.selected p m = u at hs
    have busy (v : State) (hv : (v.port.get p).busy = (s.port.get p).busy) : (v.port.get p).isBusy m = true := by
      rw [Port.isBusy, hv]
      exact bne_iff_ne.mpr hb
    have h1 : u.portsDead = false := by rw [hs]; exact hd
    have h2 : (u.half.get p).run = true := by rw [hs]; exact hr
    have h3 : u.buffersOpen p = true := by rw [State.buffersOpen, h2]; rfl
    have h4 : u.isReady = true := by rw [hs]; exact hy
    have h5 := busy u (by rw [hs]; simp)
    have e1 : u.putRequest p m (reqBytes op r) = u.spiError p 3 := by simp [State.putRequest, h1, h3, h5]
    have h6 := busy (u.spiError p 3) (by simp only [State.spiError, State.modPort, Pair.get_set]; rw [hs]; simp)
    rw [e1]
    have g1 : (u.spiError p 3).portsDead = false := h1
    have g2 : ((u.spiError p 3).half.get p).run = true := h2
    have g4 : (u.spiError p 3).isReady = true := h4
    simp [State.ring, g1, g2, g4, h6]
  unfold Noted
  rw [e]
  generalize s.selected p m = u at hs
  rw [hs]
  simp [State.spiError, State.modPort, BitVec.or_assoc]

/-! ##### A request that has rung -/

theorem rung_get (s : State) (op : Byte) (p : Side) (m : MbxNo) (r : Req) : ((s.rung op p m r).port.get p) =
    { s.port.get p with
      mbx3Sel := if 24 ≤ m.val then BitVec.ofNat 3 (m.val - 24) else (s.port.get p).mbx3Sel
      mbx := (s.port.get p).mbx.set m { (s.port.get p).mbx[m] with
        req := writeCells 0 (s.port.get p).mbx[m].req 0 ((reqBytes op r).take (bufSize (mbxClass m))) }
      busy := (s.port.get p).busy ||| mbxBit m, done := (s.port.get p).done &&& ~~~ mbxBit m } := by
  rw [State.rung, State.modPort, Pair.get_set]

/-- A rung mailbox is busy. -/
theorem rung_busy (s : State) (op : Byte) (p : Side) (m : MbxNo) (r : Req) : ((s.rung op p m r).port.get p).busy &&& mbxBit m ≠ 0 := by
  rw [rung_get]
  have e : ((s.port.get p).busy ||| mbxBit m) &&& mbxBit m = mbxBit m := by
    ext i hi
    simp only [BitVec.getElem_and, BitVec.getElem_or]
    cases (mbxBit m)[i] <;> simp
  rw [e]
  exact mbxBit_ne m

theorem rung_staging (s : State) (op : Byte) (p : Side) (m : MbxNo) (r : Req) :
    ((s.rung op p m r).port.get p).staging = (s.port.get p).staging := by rw [rung_get]

theorem rung_kept (s : State) (op : Byte) (p : Side) (m : MbxNo) (r : Req) :
    ((s.rung op p m r).port.get p).mbx[m].kept = (s.port.get p).mbx[m].kept := by
  rw [rung_get]
  simp

/-- A doorbell that finds a serving half and a free mailbox has its request taken. -/
theorem exec_of_rings {c : Instr} (hc : hostRequest c = some (op, p, m, r)) (h : Rings s p m) :
    exec c s = .next ((s.rung op p m r).serve p m) := by
  rw [exec_exchange hc, exchange_of_rings h]
end

section
variable {u : State} {p : Side} {m : MbxNo}

theorem serve_crc (hc : (u.readRequest p m).crcOk = false) : u.serve p m = u.finish (u.readRequest p m).msg (refusal stCrc) false := by
  simp only [State.serve, hc, Bool.not_false, if_true]

theorem keptReply_of_kept {msg : Msg} {bytes : List Byte} (hk : (u.port.get msg.port).mbx[msg.mbx].kept = some (msg.seq, bytes))
    (hr : msg.byte0.getLsbD 2 = true) : u.keptReply msg = some bytes := by
  simp only [State.keptReply, hk, Msg.retry, hr, beq_self_eq_true, Bool.and_self, if_true]

theorem serve_kept (hc : (u.readRequest p m).crcOk = true) {bytes : List Byte} (hk : u.keptReply (u.readRequest p m).msg = some bytes) :
    u.serve p m = u.answer p m bytes := by
  simp only [State.serve, hc, hk, Bool.not_true, Bool.false_eq_true, if_false]

theorem serve_waits (hc : (u.readRequest p m).crcOk = true) (hk : u.keptReply (u.readRequest p m).msg = none)
    (hw : u.mustWait (u.readRequest p m).msg = true) : u.serve p m = u.modPort p (fun y => { y with held := y.held ++ [m] }) := by
  simp only [State.serve, hc, hk, hw, Bool.not_true, Bool.false_eq_true, if_false, if_true]

theorem serve_refused (hc : (u.readRequest p m).crcOk = true) (hk : u.keptReply (u.readRequest p m).msg = none)
    (hw : u.mustWait (u.readRequest p m).msg = false) {st : Byte} (hs : u.checkRequest (u.readRequest p m) = some st) :
    u.serve p m = (u.refuseCommit (u.readRequest p m).msg).finish (u.readRequest p m).msg (refusal st) false := by
  simp only [State.serve, hc, hk, hw, hs, Bool.not_true, Bool.false_eq_true, if_false]

/-- A reply written once more. -/
theorem answer_spec (u : State) (p : Side) (m : MbxNo) (bytes : List Byte) :
    (∃ old, ((u.answer p m bytes).port.get p).mbx[m].rep = writeCells 0 old 0 bytes) ∧
    ((u.answer p m bytes).port.get p).mbx[m].kept = (u.port.get p).mbx[m].kept ∧
    ((u.answer p m bytes).port.get p).done &&& mbxBit m ≠ 0 ∧ ((u.answer p m bytes).port.get p).busy &&& mbxBit m = 0 ∧
    u.answer p m bytes = { u with port := (u.answer p m bytes).port } := by
  have e : (u.answer p m bytes).port.get p = { u.port.get p with
      mbx := vmod (u.port.get p).mbx m (fun x => { x with rep := writeCells 0 x.rep 0 bytes })
      done := (u.port.get p).done ||| mbxBit m, busy := (u.port.get p).busy &&& ~~~ mbxBit m } := by
    simp only [State.answer, State.modMbx, State.modPort, Pair.get_set]
  refine ⟨⟨(u.port.get p).mbx[m].rep, ?_⟩, ?_, ?_, ?_, rfl⟩ <;> rw [e]
  · simp [vmod]
  · simp [vmod]
  · have h : ((u.port.get p).done ||| mbxBit m) &&& mbxBit m = mbxBit m := by
      ext i hi
      simp only [BitVec.getElem_and, BitVec.getElem_or]
      cases (mbxBit m)[i] <;> simp
    simp only [h]
    exact mbxBit_ne m
  · ext i hi
    simp

/-- The staging area of a port is no part of a reply. -/
theorem finish_staging (u : State) (msg : Msg) (res : Result) (f : Bool) (p : Side) :
    ((u.finish msg res f).port.get p).staging = (u.port.get p).staging := by
  cases p <;> cases h : msg.port <;> simp [State.finish, State.answer, State.modMbx, State.modPort, h, Pair.get, Pair.set]

/-- A request that fails a check leaves the staging area, but for a COMMIT. -/
theorem refuseCommit_spec (u : State) (msg : Msg) : u.refuseCommit msg = { u with port := (u.refuseCommit msg).port } ∧
    (mbxClass msg.mbx = 2 →
      ((u.refuseCommit msg).port.get msg.port).staging = if msg.opcode = 0x42 then [] else (u.port.get msg.port).staging) := by
  unfold State.refuseCommit
  split
  · next h =>
    refine ⟨rfl, fun _ => ?_⟩
    rw [if_pos h.1, State.modPort, Pair.get_set]
  · next h =>
    refine ⟨rfl, fun h2 => ?_⟩
    rw [if_neg fun h1 => h ⟨h1, h2⟩]
end

/-! ##### A request that passes and is not carried out by its half -/

section
variable {u : State} {msg : Msg}

/-- The staging area of a COMMIT leaves its port. -/
def State.emptied (u : State) (msg : Msg) : State := if msg.opcode = 0x42 then u.modPort msg.port (fun x => { x with staging := [] }) else u

theorem emptied_spec (u : State) (msg : Msg) : u.emptied msg = { u with port := (u.emptied msg).port } ∧
    ((u.emptied msg).port.get msg.port).busy = (u.port.get msg.port).busy ∧
    ((u.emptied msg).port.get msg.port).staging = if msg.opcode = 0x42 then [] else (u.port.get msg.port).staging := by
  unfold State.emptied
  split
  · refine ⟨rfl, ?_, ?_⟩ <;> simp [State.modPort]
  · exact ⟨rfl, rfl, rfl⟩

theorem carryOut_eq (u : State) (msg : Msg) : u.carryOut msg =
    if (u.emptied msg).inCharge msg.port then
      ((u.emptied msg).perform msg (u.port.get msg.port).staging false).1.finish msg ((u.emptied msg).perform msg (u.port.get msg.port).staging false).2 false
    else if (u.emptied msg).inCharge msg.port.other && ((u.emptied msg).half.get msg.port.other).run then
      ((u.emptied msg).post msg.port (.forward msg (u.port.get msg.port).staging (u.emptied msg).now)).modIh
        (fun c => { c with waiting := c.waiting ++ [(msg, (u.emptied msg).now)] })
    else (u.emptied msg).finish msg (refusal stNotInCharge) false := rfl

/-- Without a running half in charge a command is refused. -/
theorem carryOut_refused (hg : u.hm.grant = none ∨ (u.hm.grant = some msg.port.other ∧ (u.half.get msg.port.other).run = false)) :
    u.carryOut msg = (u.emptied msg).finish msg (refusal stNotInCharge) false := by
  have hs := (emptied_spec u msg).1
  rw [carryOut_eq]
  generalize u.emptied msg = v at hs
  have h1 : v.inCharge msg.port = false := by
    rw [State.inCharge, hs]
    rcases hg with h | ⟨h, -⟩
    · rw [h]; rfl
    · rw [h]; cases msg.port <;> rfl
  have h2 : (v.inCharge msg.port.other && (v.half.get msg.port.other).run) = false := by
    rw [State.inCharge, hs]
    rcases hg with h | ⟨-, h⟩
    · rw [h]; rfl
    · rw [h, Bool.and_false]
  simp only [h1, h2, Bool.false_eq_true, if_false]

/-- With the other half in charge a command is forwarded, with its staging area. -/
theorem carryOut_forwarded (hg : u.hm.grant = some msg.port.other) (hr : (u.half.get msg.port.other).run = true) :
    u.carryOut msg = { u.emptied msg with ih := { u.ih with
      from_ := u.ih.from_.set msg.port (u.ih.from_.get msg.port ++ [.forward msg (u.port.get msg.port).staging u.now])
      unacked := u.ih.unacked.set msg.port (u.ih.unacked.get msg.port ++ [u.now]), waiting := u.ih.waiting ++ [(msg, u.now)] } } := by
  have hs := (emptied_spec u msg).1
  rw [carryOut_eq]
  generalize u.emptied msg = v at hs
  have h1 : v.inCharge msg.port = false := by
    rw [State.inCharge, hs, hg]; cases msg.port <;> rfl
  have h2 : (v.inCharge msg.port.other && (v.half.get msg.port.other).run) = true := by
    rw [State.inCharge, hs]
    simp [hg, hr]
  simp only [h1, h2, Bool.false_eq_true, if_false, if_true]
  rw [hs]
  rfl
end

/-- Opcodes are told apart by their numbers. -/
theorem toNat_notMem {op : Byte} (h : op ∉ [(0x40 : Byte), 0x41, 0x43, 0x44, 0x60]) : op.toNat ∉ [0x40, 0x41, 0x43, 0x44, 0x60] := fun hn =>
  h (by
    simp only [List.mem_cons, List.not_mem_nil, or_false] at hn ⊢
    exact hn.imp (fun e => BitVec.eq_of_toNat_eq e) (Or.imp (fun e => BitVec.eq_of_toNat_eq e) (Or.imp (fun e => BitVec.eq_of_toNat_eq e)
      (Or.imp (fun e => BitVec.eq_of_toNat_eq e) (fun e => BitVec.eq_of_toNat_eq e)))))

/-- Settles O51: the answers of `exchange`, `serve` and `carryOut` to a request, in the order of their checks. -/
theorem requestsJudged : Obligations.RequestsJudged := by
  intro c op p m r s hc h4 hy u x noted area
  have he := exec_exchange hc s
  have hp : x.msg.port = p := rfl
  have hm : x.msg.mbx = m := rfl
  have hu : u = { s with port := u.port } := rung_port s op p m r
  have hst : (u.port.get p).staging = (s.port.get p).staging := rung_staging s op p m r
  refine ⟨fun hr => ⟨_, he, exchange_down h4 hy hr⟩, fun hr hb => ⟨_, he, exchange_busy h4 hy hr hb⟩, fun h hx bytes hk hr => ?_, fun h hx => ?_,
    fun h hx hk hw => (exec_of_rings hc h).trans (congrArg _ (serve_waits hx hk hw)), fun h hx hk hw st hs => ?_, fun h ho => ?_⟩
  · obtain ⟨h1, h2, h3, h4, h5⟩ := answer_spec u p m bytes
    have hk' : (u.port.get p).mbx[m].kept = some (x.msg.seq, bytes) := (rung_kept s op p m r).trans hk
    refine ⟨_, (exec_of_rings hc h).trans (congrArg _ (serve_kept hx (keptReply_of_kept hk' hr))), h1, h2.trans hk', h3, h4, ?_⟩
    generalize u.answer p m bytes = t at h5
    rw [h5]
    rfl
  · refine ⟨_, (exec_of_rings hc h).trans (congrArg _ (serve_crc hx)), (finish_answered u x.msg _ false).1, ?_⟩
    have hf := (finish_answered u x.msg (refusal stCrc) false).2
    change u.finish x.msg (refusal stCrc) false = _
    generalize u.finish x.msg (refusal stCrc) false = t at hf
    rw [hf]
    rfl
  · obtain ⟨h1, h2⟩ := refuseCommit_spec u x.msg
    have hf := finish_answered (u.refuseCommit x.msg) x.msg (refusal st) false
    have hg := finish_staging (u.refuseCommit x.msg) x.msg (refusal st) false p
    refine ⟨_, (exec_of_rings hc h).trans (congrArg _ (serve_refused hx hk hw hs)), hf.1, ?_, fun hcl => ?_⟩
    · have hf2 := hf.2
      change (u.refuseCommit x.msg).finish x.msg (refusal st) false = _
      generalize (u.refuseCommit x.msg).finish x.msg (refusal st) false = t at hf2
      generalize u.refuseCommit x.msg = v at h1 hf2
      rw [hf2]
      rw [h1]
      rfl
    · refine hg.trans ((h2 hcl).trans ?_)
      rw [← hst]
      rfl
  · have hroute : exec c s = .next (u.carryOut x.msg) := by
      refine (exec_of_passes hc h).trans (congrArg _ (route_carryOut ?_ u))
      rw [h.op]
      exact toNat_notMem ho
    obtain ⟨h1, h2, h3⟩ := emptied_spec u x.msg
    have hop : x.msg.opcode = op := h.op
    refine ⟨fun hg => ?_, fun hg hr => ?_⟩
    · have hf := finish_answered (u.emptied x.msg) x.msg (refusal stNotInCharge) false
      refine ⟨_, hroute.trans (congrArg _ (carryOut_refused hg)), hf.1, ?_, ?_⟩
      · refine (finish_staging (u.emptied x.msg) x.msg _ false p).trans (h3.trans ?_)
        rw [hop, ← hst]
        rfl
      · have hf2 := hf.2
        change (u.emptied x.msg).finish x.msg (refusal stNotInCharge) false = _
        generalize (u.emptied x.msg).finish x.msg (refusal stNotInCharge) false = t at hf2
        generalize u.emptied x.msg = v at h1 hf2
        rw [hf2]
        rw [h1]
        rfl
    · refine ⟨_, hroute.trans (congrArg _ (carryOut_forwarded hg hr)), ?_, ?_, ?_, ?_⟩
      · rw [← hst]
        rfl
      · have hb := rung_busy s op p m r
        rw [← show ((u.emptied x.msg).port.get p).busy = (u.port.get p).busy from h2] at hb
        exact hb
      · refine h3.trans ?_
        rw [hop, ← hst]
        rfl
      · generalize u.emptied x.msg = v at h1
        rw [h1]
        rfl

end Sys2Proof.Machine
end

section
/-! #### A command to a quay through the port of the half in charge (R270, R278, R287 to R299) -/

namespace Sys2Proof.Machine

/-- A command to a quay is answered `res`, leaves the other quays and the configuration, and does `P`. -/
def AxisDoes (s : State) (msg : Msg) (q : QuayNo) (c : Instr) (v : State) (res : Result) (P : State → Prop) : Prop :=
  ∃ t, exec c s = .next t ∧ Answered t msg res false ∧ (∀ k : QuayNo, k ≠ q → t.quay[k] = v.quay[k]) ∧ t.base = s.base ∧ P t

/-- The state of a quay and the collector stay. -/
def AxisSame (q : QuayNo) (v t : State) : Prop := t.quay[q] = v.quay[q] ∧ t.flt = v.flt

/-- The quay stays, and a refusal is noted. -/
def AxisNoted (s : State) (q : QuayNo) (v t : State) : Prop := t.quay[q] = v.quay[q] ∧
  ∃ e, t.flt = { v.flt with transit := v.flt.transit ++ [e] } ∧ e.src = srcCmdRefused ∧ e.quays = [q] ∧ e.time = s.now

section
variable {c : Instr} {op : Byte} {p : Side} {m : MbxNo} {r : Req} {s : State} {msg : Msg} {q : QuayNo}

/-- A command to a quay through the port of the half in charge, as its meaning `o` says. -/
theorem exec_axis {o : State × Result} (hc : hostRequest c = some (op, p, m, r)) (k : Passes s op p m r msg) (hg : s.hm.grant = some p)
    (ht : targetOf msg.target = some (.quay q)) (ho : op.toNat ≤ 0x2D) (hO : ((s.rung op p m r).flagsFirst q).quayCommand q msg (msg.op false) = o) :
    exec c s = .next ((o.1.noteRefusal (some (.quay q)) o.2.status).finish msg o.2 false) := by
  refine exec_performed (o := (o.1.noteRefusal (some (.quay q)) o.2.status, o.2)) hc k hg ?_ ?_
  · simp only [List.mem_cons, List.not_mem_nil, or_false, not_or]
    omega
  · rw [perform_quay ht, hO]

/-- The time of a request is that of the state it reaches. -/
theorem flagsFirst_now (s : State) (q : QuayNo) : (s.flagsFirst q).now = s.now := by
  rw [State.eq_take (ps := [.quayAt q, .port, .groups, .leg, .lane, .ih, .transit]) (s.flagsFirst_blank q (by simp))]
  rfl

/-- What a command to a quay leaves, given what its meaning leaves. -/
theorem axis_does {v : State} {o : State × Result} (hv : v = (s.rung op p m r).flagsFirst q) (hc : hostRequest c = some (op, p, m, r))
    (k : Passes s op p m r msg) (hg : s.hm.grant = some p) (ht : targetOf msg.target = some (.quay q)) (ho : op.toNat ≤ 0x2D)
    (hO : v.quayCommand q msg (msg.op false) = o) (hb : o.1.blank (axisParts q) = v.blank (axisParts q)) (hbase : o.1.base = v.base)
    {P : State → Prop} (hP : ∀ t : State, t.quay = o.1.quay → t.lane = o.1.lane → t.groups = o.1.groups → (o.2.status ≠ 0x10 → t.flt = o.1.flt) → P t) :
    AxisDoes s msg q c v o.2 P := by
  subst hv
  have he := exec_axis hc k hg ht ho hO
  have hf := finish_note o.1 (some (.quay q)) o.2.status o.2 msg
  refine ⟨_, he, (finish_answered _ msg o.2 false).1, fun j hj => ?_, ?_, hP _ ?_ ?_ ?_ fun hs => ?_⟩
  · generalize ((o.1.noteRefusal (some (.quay q)) o.2.status).finish msg o.2 false) = t at hf
    rw [hf]
    exact State.quay_of_blank hb (by simp [axisParts, hj])
  · rw [State.finish_base, State.noteRefusal_base, hbase, State.flagsFirst_base]
    rfl
  · exact (congrArg State.quay hf :)
  · exact (congrArg State.lane hf :)
  · exact (congrArg State.groups hf :)
  · rw [finish_flt, noteRefusal_ne hs]

/-- A command that leaves the state as it is, with a result other than STATE_REFUSED. -/
theorem axis_same {v : State} {res : Result} (hv : v = (s.rung op p m r).flagsFirst q) (hc : hostRequest c = some (op, p, m, r))
    (k : Passes s op p m r msg) (hg : s.hm.grant = some p) (ht : targetOf msg.target = some (.quay q)) (ho : op.toNat ≤ 0x2D)
    (hO : v.quayCommand q msg (msg.op false) = (v, res)) (hs : res.status ≠ 0x10) : AxisDoes s msg q c v res (AxisSame q v) :=
  axis_does hv hc k hg ht ho hO rfl rfl fun _ hq _ _ hf => ⟨by rw [hq], hf hs⟩

/-- A command that is refused is noted, and leaves the state as it is. -/
theorem axis_noted {v : State} {res : Result} (hv : v = (s.rung op p m r).flagsFirst q) (hc : hostRequest c = some (op, p, m, r))
    (k : Passes s op p m r msg) (hg : s.hm.grant = some p) (ht : targetOf msg.target = some (.quay q)) (ho : op.toNat ≤ 0x2D)
    (hO : v.quayCommand q msg (msg.op false) = (v, res)) (hs : res.status = 0x10) : AxisDoes s msg q c v res (AxisNoted s q v) := by
  obtain ⟨t, he, ha, hk, hbase, -⟩ := axis_does (P := fun _ => True) hv hc k hg ht ho hO rfl rfl fun _ _ _ _ _ => trivial
  have hx := exec_axis hc k hg ht ho (hv ▸ hO)
  have htx : t = (v.noteRefusal (some (.quay q)) res.status).finish msg res false := Host.Outcome.next.inj (he.symm.trans (hv ▸ hx))
  have hn : v.noteRefusal (some (.quay q)) res.status = v.raiseQuay srcCmdRefused q := if_pos hs
  have hnow : v.now = s.now := by rw [hv]; exact flagsFirst_now _ q
  rw [hn] at htx
  refine ⟨t, he, ha, hk, hbase, ?_, faultOf v srcCmdRefused (BitVec.ofNat 8 q.val) [q] {}, ?_, rfl, rfl, hnow⟩
  · rw [htx]; rfl
  · rw [htx]; rfl
end

/-! ##### ARM (R287 to R291) -/

section
variable {s : State} {q : QuayNo} {op : AcceptedOp}

/-- ARM is accepted in OFF, with the legs available and free of latches. -/
def ArmFits (v : State) (q : QuayNo) : Prop := v.quay[q].core.st = .off ∧ v.quay[q].core.armOp = none ∧ v.bollardHeld q = false ∧
  ∀ l ∈ v.legsOf q, v.legAvailable l = true

/-- VM and VGD of each die that carries legs of the quay are up. -/
def ArmFed (v : State) (q : QuayNo) : Prop := ∀ d ∈ v.diesOf q, (devVmUv v d.val : Rat) ≤ v.supply.vm[d] ∧ v.supply.vgdLow[d] = false

theorem doArm_off (h : s.quay[q].core.st = .off) : s.doArm q op =
    if s.quay[q].core.armOp.isSome then (s, refusal stBusy)
    else if s.bollardHeld q then (s, refused 0x0005)
    else if !(s.legsOf q).all s.legAvailable then (s, refused 0x0006)
    else (s.startArm q op, acceptedWith []) := by
  simp only [State.doArm, h]

theorem doArm_fits (h : ArmFits s q) : s.doArm q op = (s.startArm q op, acceptedWith []) := by
  obtain ⟨h1, h2, h3, h4⟩ := h
  rw [doArm_off h1, h2, h3, List.all_eq_true.mpr h4]
  rfl

theorem doArm_busy (h : s.quay[q].core.st = .off) (ha : s.quay[q].core.armOp ≠ none) : s.doArm q op = (s, refusal stBusy) := by
  rw [doArm_off h, if_pos (Option.isSome_iff_ne_none.mpr ha)]

theorem doArm_latched (h : s.quay[q].core.st = .off) (ha : s.quay[q].core.armOp = none) (hb : s.bollardHeld q = true) :
    s.doArm q op = (s, refused 0x0005) := by
  rw [doArm_off h, ha, hb]
  rfl

theorem doArm_unavailable (h : s.quay[q].core.st = .off) (ha : s.quay[q].core.armOp = none) (hb : s.bollardHeld q = false)
    (hl : ∃ l ∈ s.legsOf q, s.legAvailable l = false) : s.doArm q op = (s, refused 0x0006) := by
  have e : (s.legsOf q).all s.legAvailable = false := by
    obtain ⟨l, hm, hn⟩ := hl
    exact List.all_eq_false.mpr ⟨l, hm, by rw [hn]; exact Bool.false_ne_true⟩
  rw [doArm_off h, ha, hb, e]
  rfl

theorem doArm_armed (h : s.quay[q].core.st = .armed) : s.doArm q op = (s, doneR) := by
  simp only [State.doArm, h]

theorem doArm_elsewhere (h : s.quay[q].core.st ≠ .off) (h' : s.quay[q].core.st ≠ .armed) : s.doArm q op = (s, refused 0) := by
  unfold State.doArm
  generalize s.quay[q].core = c at h h'
  cases hc : c.st <;> simp_all

/-- The gate units are told to arm, each lane with its entries. -/
theorem sendArm_lane (s : State) (ls : List LegNo) (n : LaneNo) : (s.sendArm ls).lane[n].tx = s.lane[n].tx ++
    if s.lane[n].st = .attached ∧ s.armEntries ls n ≠ [] then [.arm (s.armEntries ls n)] else [] := by
  have h := forAll_lanes_lane s (fun n => (s.armEntries ls n).isEmpty = true ∨ s.lane[n].st ≠ .attached) (fun n => .arm (s.armEntries ls n)) n
  have e : s.sendArm ls = forAll (List.finRange 20) s (fun t n =>
    if (s.armEntries ls n).isEmpty = true ∨ s.lane[n].st ≠ .attached then t else t.sendLane n (.arm (s.armEntries ls n))) := rfl
  rw [e, h]
  by_cases hc : s.lane[n].st = .attached ∧ s.armEntries ls n ≠ []
  · rw [if_pos hc, if_neg fun h => h.elim (fun h => hc.2 (List.isEmpty_iff.mp h)) (fun h => h hc.1)]
  · rw [if_neg hc, if_pos, List.append_nil]
    by_cases ha : s.lane[n].st = .attached
    · exact .inl (List.isEmpty_iff.mpr (by_contra fun h => hc ⟨ha, h⟩))
    · exact .inr ha

/-- The quay with an ARM under way, its change posted. -/
def State.armTaken (s : State) (q : QuayNo) (op : AcceptedOp) : State := (s.modQuay q (fun x => x.arming op s.now)).publish q

theorem armTaken_spec (s : State) (q : QuayNo) (op : AcceptedOp) :
    (s.armTaken q op).quay[q].core = { s.quay[q].core with armOp := some op, armAt := s.now } ∧ (s.armTaken q op).quay[q].inputLate = 0 ∧
    (s.armTaken q op).quay[q].cmdLate = 0 ∧ (s.armTaken q op).blank [.quayAt q, .ih] = s.blank [.quayAt q, .ih] := by
  have h := State.publish_keeps (fun x : Quay => (x.core, x.inputLate, x.cmdLate)) (s.modQuay q (fun x => x.arming op s.now)) q q fun _ => rfl
  rw [s.modQuay_self] at h
  exact ⟨congrArg Prod.fst h, congrArg (fun x => x.2.1) h, congrArg (fun x => x.2.2) h, by simp [State.armTaken]⟩

theorem startArm_fed (h : ArmFed s q) : s.startArm q op = (s.armTaken q op).sendArm (s.phaseLegs q) := by
  unfold State.startArm
  have h1 : (s.diesOf q).filter (fun d => decide (s.supply.vm[d] < (devVmUv s d.val : Rat))) = [] :=
    List.filter_eq_nil_iff.mpr fun d hd => by
      rw [decide_eq_true_iff]
      exact not_lt.mpr (h d hd).1
  have h2 : (s.diesOf q).filter (fun d => s.supply.vgdLow[d]) = [] :=
    List.filter_eq_nil_iff.mpr fun d hd => by rw [(h d hd).2]; exact Bool.false_ne_true
  simp only [h1, h2]
  rfl

theorem startArm_unfed (h : ¬ ArmFed s q) : ∃ u : State, s.startArm q op = u.abandonArm q ∧ u.quay = (s.armTaken q op).quay := by
  refine ⟨forAll ((s.diesOf q).filter (fun d => s.supply.vgdLow[d])) (forAll ((s.diesOf q).filter
      (fun d => decide (s.supply.vm[d] < (devVmUv s d.val : Rat)))) (s.armTaken q op) State.armVm) State.armVgd, ?_, ?_⟩
  · unfold State.startArm
    refine if_neg fun he => h fun d hd => ?_
    rw [Bool.and_eq_true, List.isEmpty_iff, List.isEmpty_iff, List.filter_eq_nil_iff, List.filter_eq_nil_iff] at he
    refine ⟨not_lt.mp fun hl => he.1 d hd (decide_eq_true hl), ?_⟩
    have := he.2 d hd
    rwa [Bool.not_eq_true] at this
  · have hb : ∀ t : State, ∀ ds es : List DieNo, (forAll es (forAll ds t State.armVm) State.armVgd).blank [.free, .transit] = t.blank [.free, .transit] :=
      fun t ds es => by simp
    exact (congrArg State.quay (State.eq_take (ps := [.free, .transit]) (hb _ _ _)) :)
end

end Sys2Proof.Machine
end

section
/-! #### START, STOP, QUICKSTOP and HOLD to a quay (R292 to R299, R307, R609) -/

namespace Sys2Proof.Machine

section
variable {s : State} {q : QuayNo} {op : AcceptedOp}

/-! ##### DISARM -/

theorem doDisarm_off (h : s.quay[q].core.st = .off) : s.doDisarm q = (s, doneR) := by
  simp only [State.doDisarm, h]

theorem doDisarm_armed (h : s.quay[q].core.st = .armed) : s.doDisarm q = (s.enter q .off, doneR) := by
  simp only [State.doDisarm, h]

theorem doDisarm_elsewhere (h : s.quay[q].core.st ≠ .off) (h' : s.quay[q].core.st ≠ .armed) : s.doDisarm q = (s, refused 0) := by
  unfold State.doDisarm
  generalize s.quay[q].core = c at h h'
  cases hc : c.st <;> simp_all

/-! ##### START -/

theorem doStart_barred (bs : List Byte) (h : s.modeAllowed q (startMode (bs.getD 0 0).toNat) = false) : s.doStart q bs op = (s, unsupported) := by
  unfold State.doStart
  simp only [h, Bool.not_false, if_true]

theorem startData_running : startData .running = [3, 0, 0, 0] := (rfl)
theorem startData_catching : startData .catching = [2, 0, 0, 0] := (rfl)

section
variable {bs : List Byte} {md : Mode} (hm : startMode (bs.getD 0 0).toNat = md) (h : s.modeAllowed q md = true)
include hm h

theorem doStart_runs (hr : s.quay[q].core.st = .armed ∧ s.turning q = false ∨ s.quay[q].core.st = .hold) :
    s.doStart q bs op = (s.startIn q md (BitVec.ofNat 16 (field bs 2 2)) none .running, doneWith [3, 0, 0, 0]) := by
  unfold State.doStart
  rcases hr with ⟨h1, h2⟩ | h1 <;> simp only [startData_running, hm, h, h1, Bool.not_true, Bool.false_eq_true, if_false]
  simp only [h2, Bool.false_eq_true, if_false]

theorem doStart_catches (h1 : s.quay[q].core.st = .armed) (h2 : s.turning q = true) :
    s.doStart q bs op = (s.startIn q md (BitVec.ofNat 16 (field bs 2 2)) (some op) .catching, acceptedWith [2, 0, 0, 0]) := by
  unfold State.doStart
  simp only [startData_running, startData_catching, hm, h, h1, h2, Bool.not_true, Bool.false_eq_true, if_false, if_true]

theorem doStart_same (h1 : s.quay[q].core.st = .running) (h2 : s.quay[q].core.mode = md) :
    s.doStart q bs op = (s, doneWith [3, 0, 0, 0]) := by
  unfold State.doStart
  simp only [startData_running, hm, h, h1, h2, Bool.not_true, Bool.false_eq_true, if_false, if_true]

theorem doStart_position (h1 : s.quay[q].core.st = .running) (h2 : s.quay[q].core.mode ≠ md) (h3 : s.quay[q].core.mode = .position ∨ md = .position) :
    s.doStart q bs op = (s, refused 0x0008) := by
  unfold State.doStart
  simp only [hm, h, h1, h2, h3, Bool.not_true, Bool.false_eq_true, if_false, if_true]

theorem doStart_changes (h1 : s.quay[q].core.st = .running) (h2 : s.quay[q].core.mode ≠ md) (h3 : s.quay[q].core.mode ≠ .position) (h4 : md ≠ .position) :
    s.doStart q bs op = ((s.writeRef q md (BitVec.ofNat 16 (field bs 2 2))).modCore q (fun x => { x with mode := md }), doneWith [3, 0, 0, 0]) := by
  unfold State.doStart
  simp only [startData_running, hm, h, h1, h2, h3, h4, Bool.not_true, Bool.false_eq_true, if_false, or_self]

theorem doStart_elsewhere (h1 : s.quay[q].core.st = .off ∨ s.quay[q].core.st = .catching ∨ s.quay[q].core.st = .stopping ∨ s.quay[q].core.st = .homing ∨
    s.quay[q].core.st = .faulted ∨ s.quay[q].core.st = .safe) : s.doStart q bs op = (s, refused 0) := by
  unfold State.doStart
  rcases h1 with h1 | h1 | h1 | h1 | h1 | h1 <;> simp only [hm, h, h1, Bool.not_true, Bool.false_eq_true, if_false]
end

/-- The references that START writes for its mode. -/
def Started (x : Quay) (md : Mode) (ref : U16) : Prop := x.core.mode = md ∧ (md = .torque → x.c0.torque = ref) ∧
  (md = .speed → x.c0.speed = ref ∧ x.c0.ff = 0) ∧ (md = .tension → x.c0.tension = ref)

theorem writeRef_quay (s : State) (q : QuayNo) (md : Mode) (v : U16) : (s.writeRef q md v).quay[q].core = s.quay[q].core ∧
    (md = .torque → (s.writeRef q md v).quay[q].c0.torque = v) ∧
    (md = .speed → (s.writeRef q md v).quay[q].c0.speed = v ∧ (s.writeRef q md v).quay[q].c0.ff = 0) ∧
    (md = .tension → (s.writeRef q md v).quay[q].c0.tension = v) := by
  have h : (s.writeRef q md v).quay[q] = _ := s.modQuay_self q _
  rw [h]
  refine ⟨rfl, fun h => ?_, fun h => ?_, fun h => ?_⟩ <;> subst h
  · rfl
  · exact ⟨rfl, rfl⟩
  · rfl

/-- References equal in a setpoint buffer are equal one by one. -/
theorem C0Buffer.refs_eq {a b : C0Buffer} (h : a.refs = b.refs) : a.torque = b.torque ∧ a.speed = b.speed ∧ a.tension = b.tension ∧ a.ff = b.ff := by
  simp only [C0Buffer.refs, Prod.mk.injEq] at h
  exact h

theorem startIn_spec (s : State) (q : QuayNo) (md : Mode) (v : U16) (op : Option AcceptedOp) {st : AxisState} (h : st = .running ∨ st = .catching) :
    (s.startIn q md v op st).quay[q].core.st = st ∧ (s.startIn q md v op st).quay[q].core.startOp = op ∧
    Started (s.startIn q md v op st).quay[q] md v := by
  obtain ⟨hcore, hw1, hw2, hw3⟩ := writeRef_quay s q md v
  have hrefs : (s.startIn q md v op st).quay[q].c0.refs = (s.writeRef q md v).quay[q].c0.refs := by
    refine (State.enter_refs _ q .none ?_ ?_ ?_ q).trans ?_
    any_goals rcases h with rfl | rfl <;> decide
    refine State.modQuay_keeps (fun x : Quay => x.c0.refs) _ q q fun x => ?_
    rfl
  obtain ⟨e1, e2, e3, e4⟩ := C0Buffer.refs_eq hrefs
  have hc := State.enter_core ((s.writeRef q md v).modQuay q (fun x => { x with core := { x.core with mode := md, sigma := catchDir md v, startOp := op } })) q st .none
  have hq : ((s.writeRef q md v).modQuay q (fun x => { x with core := { x.core with mode := md, sigma := catchDir md v, startOp := op } })).core q =
      { (s.writeRef q md v).quay[q].core with mode := md, sigma := catchDir md v, startOp := op } := congrArg Quay.core (State.modQuay_self _ q _)
  rw [hq] at hc
  have hc' : (s.startIn q md v op st).quay[q].core = _ := hc
  refine ⟨State.enter_st _ q st .none, ?_, ?_, fun h => ?_, fun h => ?_, fun h => ?_⟩
  · rw [hc']
    rcases h with rfl | rfl <;> rfl
  · rw [hc']
    rcases h with rfl | rfl <;> rfl
  · rw [e1, hw1 h]
  · rw [e2, e4]
    exact hw2 h
  · rw [e3, hw3 h]

theorem modeChanged_spec (s : State) (q : QuayNo) (md : Mode) (v : U16) :
    ((s.writeRef q md v).modCore q (fun x => { x with mode := md })).quay[q].core = { s.quay[q].core with mode := md } ∧
    Started ((s.writeRef q md v).modCore q (fun x => { x with mode := md })).quay[q] md v := by
  obtain ⟨hcore, hw1, hw2, hw3⟩ := writeRef_quay s q md v
  have hc : ((s.writeRef q md v).modCore q (fun x => { x with mode := md })).core q = { s.quay[q].core with mode := md } := by
    rw [State.modCore_core, if_pos rfl, State.core, hcore]
  have h0 : ((s.writeRef q md v).modCore q (fun x => { x with mode := md })).quay[q].c0 = (s.writeRef q md v).quay[q].c0 :=
    State.modCore_keeps (fun x : Quay => x.c0) (s.writeRef q md v) q q (fun x => { x with mode := md }) (fun _ _ => rfl) fun _ => rfl
  refine ⟨hc, congrArg AxisCore.mode hc, ?_, ?_, ?_⟩ <;> rw [h0]
  · exact hw1
  · exact hw2
  · exact hw3

/-! ##### Stops -/

theorem State.blockPulses_core (s : State) (q r : QuayNo) : (s.blockPulses q).core r = s.core r := by
  have hl : (forAll (s.phaseLegs q) s (fun t l => t.blockLeg l)).quay = s.quay :=
    (congrArg State.quay (State.eq_take (ps := [.leg]) (forAll_blank s (s.phaseLegs q) (fun t l => t.blockLeg l)
      fun t l => State.blockLeg_blank t l (by simp))) :)
  unfold State.blockPulses State.cutSteps
  rw [State.modQuay_core, State.modQuay_core]
  · exact State.core_of_quay hl r
  · exact fun _ => rfl
  · exact fun _ => rfl

theorem State.leaveShare_core (s : State) (q r : QuayNo) : (s.leaveShare q).core r = s.core r := by
  unfold State.leaveShare
  split
  · exact s.modQuay_core _ _ _ fun _ => rfl
  · rfl

theorem applyStop_ends (k : StopKind) (h : s.quay[q].core.st = .armed ∨ s.quay[q].core.st = .catching) : (s.applyStop q k).quay[q].core.st = .off := by
  unfold State.applyStop
  rcases h with h | h <;> rw [h]
  · exact State.enter_st _ q _ _
  · have hb : ((s.enter q .off).blockPulses q).core q = (s.enter q .off).core q := State.blockPulses_core _ q q
    exact (congrArg AxisCore.st hb).trans (State.enter_st _ q _ _)

theorem applyStop_stops (k : StopKind) (h : s.quay[q].core.st = .running ∨ s.quay[q].core.st = .hold ∨ s.quay[q].core.st = .homing) :
    (s.applyStop q k).quay[q].core.st = .stopping ∧
    (s.applyStop q k).quay[q].core.stop = if s.quay[q].core.st = .hold ∧ s.quay[q].core.stop = .quick then .quick else k := by
  have e : s.applyStop q k = s.enterStopping q k := by
    unfold State.applyStop
    rcases h with h | h | h <;> rw [h]
  have hl : (s.leaveShare q).core q = s.quay[q].core := State.leaveShare_core s q q
  rw [e]
  refine ⟨State.enter_st _ q _ _, ?_⟩
  have hc : (s.enterStopping q k).quay[q].core = _ := State.enter_core (s.leaveShare q) q .stopping k
  rw [hc, hl]
  rfl

theorem applyStop_stopping (k : StopKind) (h : s.quay[q].core.st = .stopping) : (s.applyStop q k).quay[q].core =
    if k = .quick ∧ s.quay[q].core.stop ≠ .quick then { s.quay[q].core with stop := .quick, release := false } else s.quay[q].core := by
  unfold State.applyStop
  rw [h]
  simp only
  split
  · have hr : ∀ u : State, (u.rewriteTable q).quay[q].core = u.quay[q].core := fun u => State.rewriteTable_core u q q
    rw [hr]
    have := State.modCore_core s q q (fun c => { c with stop := .quick, release := false })
    rw [if_pos rfl] at this
    exact this
  · rfl

theorem applyStop_idle (k : StopKind) (h : s.quay[q].core.st = .off ∨ s.quay[q].core.st = .faulted ∨ s.quay[q].core.st = .safe) : s.applyStop q k = s := by
  unfold State.applyStop
  rcases h with h | h | h <;> rw [h]

/-! ##### HOLD -/

theorem doHold_barred (h : s.noFeedback q = true) : s.doHold q = (s, unsupported) := if_pos h

theorem doHold_holds (h : s.noFeedback q = false) (h1 : s.quay[q].core.st = .armed ∧ s.turning q = false ∨ s.quay[q].core.st = .running) :
    s.doHold q = ((s.leaveShare q).enter q .hold (if s.quay[q].core.st = .running then .ramp else .none), doneR) := by
  unfold State.doHold
  rcases h1 with ⟨h1, h2⟩ | h1 <;> simp only [h, h1, Bool.false_eq_true, if_false]
  · simp only [h2, Bool.false_eq_true, if_false]
    rfl
  · rfl

theorem doHold_turning (h : s.noFeedback q = false) (h1 : s.quay[q].core.st = .armed) (h2 : s.turning q = true) : s.doHold q = (s, refused 0x0004) := by
  unfold State.doHold
  simp only [h, h1, h2, Bool.false_eq_true, if_false, if_true]

theorem doHold_held (h : s.noFeedback q = false) (h1 : s.quay[q].core.st = .hold) : s.doHold q = (s, doneR) := by
  unfold State.doHold
  simp only [h, h1, Bool.false_eq_true, if_false]

theorem doHold_elsewhere (h : s.noFeedback q = false) (h1 : s.quay[q].core.st ≠ .armed) (h2 : s.quay[q].core.st ≠ .running) (h3 : s.quay[q].core.st ≠ .hold) :
    s.doHold q = (s, refused 0) := by
  unfold State.doHold
  rw [h, if_neg Bool.false_ne_true]
  generalize s.quay[q].core = c at h1 h2 h3
  cases hc : c.st <;> simp_all

theorem enterHold_spec (s : State) (q : QuayNo) (k : StopKind) : ((s.leaveShare q).enter q .hold k).quay[q].core.st = .hold ∧
    ((s.leaveShare q).enter q .hold k).quay[q].core.stop = k := by
  refine ⟨State.enter_st _ q _ _, ?_⟩
  have hc : ((s.leaveShare q).enter q .hold k).quay[q].core = _ := State.enter_core (s.leaveShare q) q .hold k
  rw [hc]
  rfl
end

/-- The parts that ARM of a fed quay leaves are those the statement names. -/
theorem startArm_fed_spec {v : State} {q : QuayNo} {op : AcceptedOp} (h : ArmFed v q) :
    (v.startArm q op).quay[q].core = { v.quay[q].core with armOp := some op, armAt := v.now } ∧ (v.startArm q op).quay[q].inputLate = 0 ∧
    (v.startArm q op).quay[q].cmdLate = 0 ∧ ∀ n : LaneNo, (v.startArm q op).lane[n].tx = v.lane[n].tx ++
      if v.lane[n].st = .attached ∧ v.armEntries (v.phaseLegs q) n ≠ [] then [.arm (v.armEntries (v.phaseLegs q) n)] else [] := by
  obtain ⟨h1, h2, h3, hb⟩ := armTaken_spec v q op
  rw [startArm_fed h]
  have hq : ((v.armTaken q op).sendArm (v.phaseLegs q)).quay = (v.armTaken q op).quay :=
    (congrArg State.quay (State.eq_take (ps := [.lane]) (State.sendArm_blank _ _ (by simp))) :)
  rw [hq]
  refine ⟨h1, h2, h3, fun n => ?_⟩
  have hl := sendArm_lane (v.armTaken q op) (v.phaseLegs q) n
  have hv : v.armTaken q op = { v with quay := (v.armTaken q op).quay, ih := (v.armTaken q op).ih } :=
    State.eq_take (ps := [.quay, .ih]) (State.blank_mono hb (by simp))
  generalize v.armTaken q op = u at hl hv
  rw [hl, hv]
  rfl

theorem startArm_unfed_spec {v : State} {q : QuayNo} {op : AcceptedOp} (h : ¬ ArmFed v q) :
    (v.startArm q op).quay[q].core = { v.quay[q].core with armOp := none, armAt := v.now } := by
  obtain ⟨u, he, hq⟩ := startArm_unfed (op := op) h
  have hc := State.modCore_core (u.eventOpt u.quay[q].core.armOp stRefused 0x000E 0) q q (fun c => { c with armOp := none })
  rw [if_pos rfl] at hc
  have hu : (u.eventOpt u.quay[q].core.armOp stRefused 0x000E 0).core q = { v.quay[q].core with armOp := some op, armAt := v.now } := by
    rw [← (armTaken_spec v q op).1, ← hq]
    exact congrArg Quay.core (congrArg (fun x => x[q]) (State.eventOpt_quay u _ _ _ _))
  rw [he]
  refine hc.trans ?_
  rw [hu]

/-- What a stop of a quay does in each state. -/
theorem axis_stop {c : Instr} {op : Byte} {p : Side} {m : MbxNo} {r : Req} {s v : State} {msg : Msg} {q : QuayNo} {kind : StopKind}
    (hv : v = (s.rung op p m r).flagsFirst q) (hc : hostRequest c = some (op, p, m, r)) (k : Passes s op p m r msg) (hg : s.hm.grant = some p)
    (ht : targetOf msg.target = some (.quay q)) (ho : op.toNat ≤ 0x2D) (hO : v.quayCommand q msg (msg.op false) = v.doStop q kind) :
    AxisDoes s msg q c v doneR fun t =>
      (v.quay[q].core.st = .armed ∨ v.quay[q].core.st = .catching → t.quay[q].core.st = .off) ∧
      (v.quay[q].core.st = .running ∨ v.quay[q].core.st = .hold ∨ v.quay[q].core.st = .homing → t.quay[q].core.st = .stopping ∧
        t.quay[q].core.stop = (if v.quay[q].core.st = .hold ∧ v.quay[q].core.stop = .quick then .quick else kind)) ∧
      (v.quay[q].core.st = .stopping → t.quay[q].core =
        (if kind = .quick ∧ v.quay[q].core.stop ≠ .quick then { v.quay[q].core with stop := .quick, release := false } else v.quay[q].core)) ∧
      (v.quay[q].core.st = .off ∨ v.quay[q].core.st = .faulted ∨ v.quay[q].core.st = .safe → AxisSame q v t) := by
  refine axis_does hv hc k hg ht ho hO (v.doStop_blank q _ (by simp [axisParts])) (State.doStop_base _ _ _) fun t hq _ _ hf => ?_
  have hf := hf (show (0 : Byte) ≠ 0x10 by decide)
  rw [hq]
  refine ⟨applyStop_ends kind, applyStop_stops kind, applyStop_stopping kind, fun h => ?_⟩
  have e : (v.doStop q kind).1 = v := applyStop_idle kind h
  rw [e] at hq hf
  exact ⟨by rw [hq], hf⟩

section
variable {p : Side} {m : MbxNo} {r : Req} {s v : State} {msg : Msg} {q : QuayNo}

/-- A refusal of a command to a quay. -/
def refusedWith (advice : U16) : Result := { status := 0x10, advice := advice, data := [] }

/-- What ARM does in each state. -/
theorem axis_arm (hv : v = (s.rung 0x20 p m r).flagsFirst q) (k : Passes s 0x20 p m r msg) (hg : s.hm.grant = some p)
    (ht : targetOf msg.target = some (.quay q)) :
    (ArmFits v q → ArmFed v q → AxisDoes s msg q (.arm p m r) v (acceptedWith []) fun t =>
      t.quay[q].core = { v.quay[q].core with armOp := some (msg.op false), armAt := v.now } ∧ t.quay[q].inputLate = 0 ∧ t.quay[q].cmdLate = 0 ∧
      (∀ n : LaneNo, t.lane[n].tx = v.lane[n].tx ++
        if v.lane[n].st = .attached ∧ v.armEntries (v.phaseLegs q) n ≠ [] then [.arm (v.armEntries (v.phaseLegs q) n)] else [])) ∧
    (ArmFits v q → ¬ ArmFed v q → AxisDoes s msg q (.arm p m r) v (acceptedWith []) fun t =>
      t.quay[q].core = { v.quay[q].core with armOp := none, armAt := v.now }) ∧
    (v.quay[q].core.st = .off → v.quay[q].core.armOp ≠ none → AxisDoes s msg q (.arm p m r) v { status := 0x15, advice := 0, data := [] } (AxisSame q v)) ∧
    (v.quay[q].core.st = .off → v.quay[q].core.armOp = none → v.bollardHeld q = true →
      AxisDoes s msg q (.arm p m r) v (refusedWith 0x0005) (AxisNoted s q v)) ∧
    (v.quay[q].core.st = .off → v.quay[q].core.armOp = none → v.bollardHeld q = false → (∃ l ∈ v.legsOf q, v.legAvailable l = false) →
      AxisDoes s msg q (.arm p m r) v (refusedWith 0x0006) (AxisNoted s q v)) ∧
    (v.quay[q].core.st = .armed → AxisDoes s msg q (.arm p m r) v doneR (AxisSame q v)) ∧
    (v.quay[q].core.st ≠ .off → v.quay[q].core.st ≠ .armed → AxisDoes s msg q (.arm p m r) v (refusedWith 0) (AxisNoted s q v)) := by
  have hq (o : State × Result) (h : v.doArm q (msg.op false) = o) : v.quayCommand q msg (msg.op false) = o := (quayCommand_arm k.op v q _).trans h
  have hb : (v.doArm q (msg.op false)).1.blank (axisParts q) = v.blank (axisParts q) := v.doArm_blank q _ (by simp [axisParts])
  have still {res : Result} (h : v.doArm q (msg.op false) = (v, res)) (hs : res.status ≠ 0x10) : AxisDoes s msg q (.arm p m r) v res (AxisSame q v) :=
    axis_same hv rfl k hg ht (by decide) (hq _ h) hs
  have note {res : Result} (h : v.doArm q (msg.op false) = (v, res)) (hs : res.status = 0x10) :
      AxisDoes s msg q (.arm p m r) v res (AxisNoted s q v) := axis_noted hv rfl k hg ht (by decide) (hq _ h) hs
  refine ⟨fun hf hd => ?_, fun hf hd => ?_, fun h ha => still (doArm_busy h ha) (by decide), fun h ha hl => note (doArm_latched h ha hl) rfl,
    fun h ha hl hn => note (doArm_unavailable h ha hl hn) rfl, fun h => still (doArm_armed h) (by decide),
    fun h h' => note (doArm_elsewhere h h') rfl⟩
  all_goals
    have e := doArm_fits (op := msg.op false) hf
    rw [e] at hb
  · obtain ⟨h1, h2, h3, h4⟩ := startArm_fed_spec (op := msg.op false) hd
    exact axis_does hv rfl k hg ht (by decide) (hq _ e) hb (State.startArm_base _ _ _) fun t hqt hl _ _ => by
      rw [hqt, hl]
      exact ⟨h1, h2, h3, h4⟩
  · exact axis_does hv rfl k hg ht (by decide) (hq _ e) hb (State.startArm_base _ _ _) fun t hqt _ _ _ => by
      rw [hqt]
      exact startArm_unfed_spec hd

/-- What DISARM does in each state. -/
theorem axis_disarm (hv : v = (s.rung 0x21 p m r).flagsFirst q) (k : Passes s 0x21 p m r msg) (hg : s.hm.grant = some p)
    (ht : targetOf msg.target = some (.quay q)) :
    (v.quay[q].core.st = .armed → AxisDoes s msg q (.disarm p m r) v doneR fun t =>
      t.quay[q].core.st = .off ∧ t.quay[q].react = none ∧ t.quay[q].openRec = none) ∧
    (v.quay[q].core.st = .off → AxisDoes s msg q (.disarm p m r) v doneR (AxisSame q v)) ∧
    (v.quay[q].core.st ≠ .off → v.quay[q].core.st ≠ .armed → AxisDoes s msg q (.disarm p m r) v (refusedWith 0) (AxisNoted s q v)) := by
  have hq (o : State × Result) (h : v.doDisarm q = o) : v.quayCommand q msg (msg.op false) = o := (quayCommand_disarm k.op v q _).trans h
  refine ⟨fun h => ?_, fun h => axis_same hv rfl k hg ht (by decide) (hq _ (doDisarm_off h)) (by decide),
    fun h h' => axis_noted hv rfl k hg ht (by decide) (hq _ (doDisarm_elsewhere h h')) rfl⟩
  obtain ⟨h1, h2, -⟩ := v.enter_off q .none
  exact axis_does hv rfl k hg ht (by decide) (hq _ (doDisarm_armed h)) (v.enter_blank q _ _ (by simp [axisParts])) (State.enter_base _ _ _ _)
    fun t hqt _ _ _ => by
      rw [hqt]
      exact ⟨v.enter_st q _ _, h2, h1⟩

/-- What START does in each state. -/
theorem axis_start {md : Mode} {ref : U16} (hv : v = (s.rung 0x22 p m r).flagsFirst q) (k : Passes s 0x22 p m r msg) (hg : s.hm.grant = some p)
    (ht : targetOf msg.target = some (.quay q)) (hmd : startMode (msg.payload.getD 0 0).toNat = md) (href : BitVec.ofNat 16 (field msg.payload 2 2) = ref) :
    (v.modeAllowed q md = false → AxisDoes s msg q (.start p m r) v { status := 0x11, advice := 0x0007, data := [] } (AxisSame q v)) ∧
    (v.modeAllowed q md = true →
      (v.quay[q].core.st = .armed ∧ v.turning q = false ∨ v.quay[q].core.st = .hold →
        AxisDoes s msg q (.start p m r) v (doneWith [3, 0, 0, 0]) fun t => t.quay[q].core.st = .running ∧ Started t.quay[q] md ref) ∧
      (v.quay[q].core.st = .armed ∧ v.turning q = true → AxisDoes s msg q (.start p m r) v (acceptedWith [2, 0, 0, 0]) fun t =>
        t.quay[q].core.st = .catching ∧ t.quay[q].core.startOp = some (msg.op false) ∧ Started t.quay[q] md ref) ∧
      (v.quay[q].core.st = .running → v.quay[q].core.mode = md → AxisDoes s msg q (.start p m r) v (doneWith [3, 0, 0, 0]) (AxisSame q v)) ∧
      (v.quay[q].core.st = .running → v.quay[q].core.mode ≠ md → v.quay[q].core.mode = .position ∨ md = .position →
        AxisDoes s msg q (.start p m r) v (refusedWith 0x0008) (AxisNoted s q v)) ∧
      (v.quay[q].core.st = .running → v.quay[q].core.mode ≠ md → v.quay[q].core.mode ≠ .position → md ≠ .position →
        AxisDoes s msg q (.start p m r) v (doneWith [3, 0, 0, 0]) fun t =>
          t.quay[q].core = { v.quay[q].core with mode := md } ∧ Started t.quay[q] md ref) ∧
      (v.quay[q].core.st = .off ∨ v.quay[q].core.st = .catching ∨ v.quay[q].core.st = .stopping ∨ v.quay[q].core.st = .homing ∨
        v.quay[q].core.st = .faulted ∨ v.quay[q].core.st = .safe → AxisDoes s msg q (.start p m r) v (refusedWith 0) (AxisNoted s q v))) := by
  subst hmd href
  have hq (o : State × Result) (h : v.doStart q msg.payload (msg.op false) = o) : v.quayCommand q msg (msg.op false) = o :=
    (quayCommand_start k.op v q _).trans h
  have still {res : Result} (h : v.doStart q msg.payload (msg.op false) = (v, res)) (hs : res.status ≠ 0x10) :
      AxisDoes s msg q (.start p m r) v res (AxisSame q v) := axis_same hv rfl k hg ht (by decide) (hq _ h) hs
  have note {res : Result} (h : v.doStart q msg.payload (msg.op false) = (v, res)) (hs : res.status = 0x10) :
      AxisDoes s msg q (.start p m r) v res (AxisNoted s q v) := axis_noted hv rfl k hg ht (by decide) (hq _ h) hs
  have hin (md : Mode) (ref : U16) (o : Option AcceptedOp) (st' : AxisState) : (v.startIn q md ref o st').blank (axisParts q) = v.blank (axisParts q) :=
    v.startIn_blank q _ _ _ _ (by simp [axisParts])
  refine ⟨fun h => still (doStart_barred _ h) (by decide), fun h => ⟨fun hr => ?_, fun hc => ?_,
    fun h1 h2 => still (doStart_same rfl h h1 h2) (by decide), fun h1 h2 h3 => note (doStart_position rfl h h1 h2 h3) rfl, fun h1 h2 h3 h4 => ?_,
    fun h1 => note (doStart_elsewhere rfl h h1) rfl⟩⟩
  · obtain ⟨h1, -, h2⟩ := startIn_spec v q _ _ none (.inl rfl)
    exact axis_does (o := (v.startIn q _ _ none .running, doneWith [3, 0, 0, 0])) hv rfl k hg ht (by decide)
      (hq _ (doStart_runs rfl h hr)) (hin _ _ _ _) (State.startIn_base _ _ _ _ _ _) fun t hqt _ _ _ => by
      rw [hqt]
      exact ⟨h1, h2⟩
  · obtain ⟨h1, h2, h3⟩ := startIn_spec v q _ _ (some (msg.op false)) (.inr rfl)
    exact axis_does (o := (v.startIn q _ _ (some (msg.op false)) .catching, acceptedWith [2, 0, 0, 0])) hv rfl k hg ht (by decide)
      (hq _ (doStart_catches rfl h hc.1 hc.2)) (hin _ _ _ _) (State.startIn_base _ _ _ _ _ _)
      fun t hqt _ _ _ => by
        rw [hqt]
        exact ⟨h1, h2, h3⟩
  · obtain ⟨e1, e2⟩ := modeChanged_spec v q _ _
    exact axis_does (o := ((v.writeRef q _ _).modCore q (fun x => { x with mode := startMode (msg.payload.getD 0 0).toNat }), doneWith [3, 0, 0, 0])) hv rfl k hg ht (by decide)
      (hq _ (doStart_changes rfl h h1 h2 h3 h4))
      ((State.modCore_blank _ q _ (by simp [axisParts])).trans (v.writeRef_blank q _ _ (by simp [axisParts])))
      ((State.modCore_base _ q _).trans (State.writeRef_base _ _ _ _)) fun t hqt _ _ _ => by
        rw [hqt]
        exact ⟨e1, e2⟩

/-- What HOLD does in each state. -/
theorem axis_hold (hv : v = (s.rung 0x25 p m r).flagsFirst q) (k : Passes s 0x25 p m r msg) (hg : s.hm.grant = some p)
    (ht : targetOf msg.target = some (.quay q)) :
    (v.noFeedback q = true → AxisDoes s msg q (.hold p m r) v { status := 0x11, advice := 0x0007, data := [] } (AxisSame q v)) ∧
    (v.noFeedback q = false →
      (v.quay[q].core.st = .armed ∧ v.turning q = false ∨ v.quay[q].core.st = .running → AxisDoes s msg q (.hold p m r) v doneR fun t =>
        t.quay[q].core.st = .hold ∧ t.quay[q].core.stop = (if v.quay[q].core.st = .running then .ramp else .none)) ∧
      (v.quay[q].core.st = .armed ∧ v.turning q = true → AxisDoes s msg q (.hold p m r) v (refusedWith 0x0004) (AxisNoted s q v)) ∧
      (v.quay[q].core.st = .hold → AxisDoes s msg q (.hold p m r) v doneR (AxisSame q v)) ∧
      (v.quay[q].core.st ≠ .armed → v.quay[q].core.st ≠ .running → v.quay[q].core.st ≠ .hold →
        AxisDoes s msg q (.hold p m r) v (refusedWith 0) (AxisNoted s q v))) := by
  have hq (o : State × Result) (h : v.doHold q = o) : v.quayCommand q msg (msg.op false) = o := (quayCommand_hold k.op v q _).trans h
  have still {res : Result} (h : v.doHold q = (v, res)) (hs : res.status ≠ 0x10) : AxisDoes s msg q (.hold p m r) v res (AxisSame q v) :=
    axis_same hv rfl k hg ht (by decide) (hq _ h) hs
  have note {res : Result} (h : v.doHold q = (v, res)) (hs : res.status = 0x10) : AxisDoes s msg q (.hold p m r) v res (AxisNoted s q v) :=
    axis_noted hv rfl k hg ht (by decide) (hq _ h) hs
  refine ⟨fun h => still (doHold_barred h) (by decide), fun h => ⟨fun h1 => ?_, fun h1 => note (doHold_turning h h1.1 h1.2) rfl,
    fun h1 => still (doHold_held h h1) (by decide), fun h1 h2 h3 => note (doHold_elsewhere h h1 h2 h3) rfl⟩⟩
  exact axis_does hv rfl k hg ht (by decide) (hq _ (doHold_holds h h1))
    ((State.enter_blank _ q _ _ (by simp [axisParts])).trans (v.leaveShare_blank q (by simp [axisParts])))
    ((State.enter_base _ _ _ _).trans (State.leaveShare_base _ _)) fun t hqt _ _ _ => by
      rw [hqt]
      exact enterHold_spec v q _
end

/-- Settles O52: what ARM, DISARM, START, the stops and HOLD do in each state of the axis. -/
theorem axisCommands : Obligations.AxisCommands := by
  intro p m r msg q s ht hg does same noted refusedWith
  refine ⟨fun k => axis_arm rfl k hg ht, fun k => axis_disarm rfl k hg ht, fun k => axis_start rfl k hg ht rfl rfl, fun kind hkind k => ?_,
    fun k => axis_hold rfl k hg ht⟩
  cases kind with
  | none => exact absurd rfl hkind
  | ramp =>
    have eo : (if StopKind.ramp = .quick then (0x24 : Byte) else 0x23) = 0x23 := rfl
    have ec : (if StopKind.ramp = .quick then Instr.quickstop p m r else .stop p m r) = .stop p m r := rfl
    rw [eo] at k ⊢
    rw [ec]
    intro v x
    exact axis_stop (v := v) rfl rfl k hg ht (by decide) (quayCommand_stop k.op _ q _)
  | quick =>
    have eo : (if StopKind.quick = .quick then (0x24 : Byte) else 0x23) = 0x24 := rfl
    have ec : (if StopKind.quick = .quick then Instr.quickstop p m r else .stop p m r) = .quickstop p m r := rfl
    rw [eo] at k ⊢
    rw [ec]
    intro v x
    exact axis_stop (v := v) rfl rfl k hg ht (by decide) (quayCommand_quickstop k.op _ q _)

end Sys2Proof.Machine
end

section
/-! #### TRACE_CONFIG, TRACE_ARM, TRACE_STOP and TRACE_READ (R321 to R327) -/

namespace Sys2Proof.Machine

section
variable {c : Instr} {op : Byte} {p : Side} {m : MbxNo} {r : Req} {s : State} {msg : Msg}

/-- A command from 0x40 on has the device as its target. -/
theorem device_of_passes (k : Passes s op p m r msg) (ho : 0x40 ≤ op.toNat) : targetOf msg.target = some .device := by
  have hv := k.valid
  have ht : (s.rung op p m r).targetOk msg.opcode (targetOf msg.target) = true := by
    by_contra hn
    have hx := k.read
    unfold State.checkRequest at hv
    rw [hx] at hv
    simp only at hv
    split_ifs at hv with _ _ h _
    rw [Bool.not_eq_true', Bool.not_eq_false] at h
    exact hn h
  rw [k.op] at ht
  unfold State.targetOk at ht
  cases h : targetOf msg.target with
  | none => rw [h] at ht; exact absurd ht Bool.false_ne_true
  | some x =>
    rw [h] at ht
    cases x with
    | device => rfl
    | quay q =>
      simp only [Bool.and_eq_true, decide_eq_true_eq] at ht
      omega
    | lane n =>
      simp only [Bool.or_eq_true, beq_iff_eq] at ht
      omega

/-- A command to the device, but a COMMIT, that is taken for no quay: what it does and its reply. -/
theorem exec_device {o : State × Result} (hc : hostRequest c = some (op, p, m, r)) (k : Passes s op p m r msg) (hg : s.hm.grant = some p)
    (ho : op ∈ [(0x48 : Byte), 0x49, 0x4A, 0x61])
    (hO : (s.rung op p m r).deviceCommand msg (msg.op false) ((s.rung op p m r).port.get p).staging = o) :
    exec c s = .next ((o.1.noteRefusal (some .device) o.2.status).finish msg o.2 false) := by
  have hop := k.op
  have hn : (s.rung op p m r).namedQuays msg ((s.rung op p m r).port.get p).staging = [] := by
    simp only [List.mem_cons, List.not_mem_nil, or_false] at ho
    unfold State.namedQuays
    rcases ho with rfl | rfl | rfl | rfl <;> rw [hop] <;> rfl
  have hl : op.toNat ∉ [0x40, 0x41, 0x42, 0x43, 0x44, 0x60] ∧ 0x40 ≤ op.toNat := by
    simp only [List.mem_cons, List.not_mem_nil, or_false] at ho
    rcases ho with rfl | rfl | rfl | rfl <;> decide
  refine exec_performed (o := (o.1.noteRefusal (some .device) o.2.status, o.2)) hc k hg hl.1 ?_
  rw [perform_device (device_of_passes k hl.2), hn, forAll, List.foldl_nil, hO]

/-- Such a command with a result other than STATE_REFUSED changes what its meaning changes, and its port. -/
theorem device_does {o : State × Result} (hc : hostRequest c = some (op, p, m, r)) (k : Passes s op p m r msg) (hg : s.hm.grant = some p)
    (ho : op ∈ [(0x48 : Byte), 0x49, 0x4A, 0x61])
    (hO : (s.rung op p m r).deviceCommand msg (msg.op false) ((s.rung op p m r).port.get p).staging = o) (hs : o.2.status ≠ 0x10) :
    ∃ t, exec c s = .next t ∧ Answered t msg o.2 false ∧ t = { o.1 with port := t.port } := by
  have he := exec_device hc k hg ho hO
  rw [noteRefusal_ne hs] at he
  exact ⟨_, he, finish_answered o.1 msg o.2 false⟩

/-- A command that answers a status alone changes its port. -/
def Stays (s : State) (msg : Msg) (c : Instr) (st : Byte) : Prop := ∃ t, exec c s = .next t ∧
  Answered t msg { status := st, advice := 0, data := [] } false ∧ t = { s with port := t.port }

theorem device_stays {st : Byte} (hc : hostRequest c = some (op, p, m, r)) (k : Passes s op p m r msg) (hg : s.hm.grant = some p)
    (ho : op ∈ [(0x48 : Byte), 0x49, 0x4A, 0x61])
    (hO : (s.rung op p m r).deviceCommand msg (msg.op false) ((s.rung op p m r).port.get p).staging = (s.rung op p m r, refusal st)) (hs : st ≠ 0x10) :
    Stays s msg c st := by
  obtain ⟨t, he, ha, hf⟩ := device_does hc k hg ho hO hs
  refine ⟨t, he, ha, ?_⟩
  rw [hf]
  rfl
end

/-! ##### What the slot of a region holds -/

section
variable (s : State) (k : Fin 16)

theorem releaseSlot_trace : (s.releaseSlot k).trace = s.trace.set k { s.trace[k] with slot := none } := by
  unfold State.releaseSlot
  simp only
  split <;> rfl

theorem releaseSlot_frame : s.releaseSlot k = { s with
    claims := s.claims.filter (fun c => !(c.ofRegion k && c.cls == 0x10)), trace := (s.releaseSlot k).trace
    tb := { s.tb with slots := (s.releaseSlot k).tb.slots } } := by
  unfold State.releaseSlot
  simp only
  split <;> rfl

theorem mem_releaseSlot_slots (e : EventSlot) : e ∈ (s.releaseSlot k).tb.slots ↔ e ∈ s.tb.slots ∧ s.trace[k].slot ≠ some e.slot := by
  unfold State.releaseSlot
  simp only
  split
  · next i h =>
    change e ∈ s.tb.slots.filter (fun e => e.slot != i) ↔ _
    rw [List.mem_filter, bne_iff_ne, h]
    exact and_congr_right fun _ => not_congr ⟨fun h => by rw [h], fun h => (Option.some.inj h).symm⟩
  · next h =>
    change e ∈ s.tb.slots ↔ _
    rw [h]
    exact ⟨fun h => ⟨h, nofun⟩, fun h => h.1⟩

theorem mem_released_claims (c : PoolClaim) :
    c ∈ s.claims.filter (fun c => !(c.ofRegion k && c.cls == 0x10)) ↔ c ∈ s.claims ∧ (c.by_ = .trace k → c.cls ≠ 0x10) := by
  rw [List.mem_filter, PoolClaim.ofRegion]
  refine and_congr_right fun _ => ?_
  simp only [Bool.not_eq_true', Bool.and_eq_false_iff, beq_eq_false_iff_ne]
  exact imp_iff_not_or.symm

/-- A slot that starts: its phase is below its period. -/
theorem startSlot_spec (cs : List PoolClaim) (i : Fin 256) {n : Nat} (hn : n ≠ 0) : ∃ f, f < n ∧
    { slot := i, period := n, phase := f, next := none } ∈ (s.startSlot cs k i n).tb.slots ∧
    (s.startSlot cs k i n).claims = cs ++ [{ cls := 0x10, index := i.val, by_ := .trace k }] ∧
    (s.startSlot cs k i n).trace = s.trace.set k { s.trace[k] with slot := some i } ∧
    s.startSlot cs k i n = { s with claims := (s.startSlot cs k i n).claims, trace := (s.startSlot cs k i n).trace
                                    tb := { s.tb with slots := (s.startSlot cs k i n).tb.slots }, free := (s.startSlot cs k i n).free } :=
  ⟨(Config.freeInt s.free).toNat % n, Nat.mod_lt _ (Nat.pos_of_ne_zero hn), List.mem_append_right _ (List.mem_singleton_self _), rfl, rfl, rfl⟩
end

/-! ##### The commands -/

section
variable {u : State} {bs : List Byte}

theorem doTraceConfig_unknown (h : ¬ ∀ w ∈ (traceDesc bs).signals, signalOk w = true) : u.doTraceConfig bs = (u, refusal stRange) := by
  refine if_pos ?_
  rw [List.any_eq_true]
  push Not at h
  obtain ⟨w, hw, hn⟩ := h
  exact ⟨w, hw, by rw [Bool.eq_false_of_not_eq_true hn]; rfl⟩

section
variable (h : ∀ w ∈ (traceDesc bs).signals, signalOk w = true)
include h

theorem doTraceConfig_known : u.doTraceConfig bs =
    if u.trace[regionOf bs].armed then (u, refusal stBusy)
    else if !u.claimable (u.claims.filter (fun c => !c.ofRegion (regionOf bs))) (.trace (regionOf bs)) 0x13 (regionOf bs).val then (u, refusal stOwnership)
    else if (traceDesc bs).period = 0 then
      ({ (u.releaseSlot (regionOf bs)).modTrace (regionOf bs) (fun _ => .configured (traceDesc bs)) with
        claims := u.claims.filter (fun c => !c.ofRegion (regionOf bs)) ++ [⟨0x13, (regionOf bs).val, .trace (regionOf bs)⟩] }, doneR)
    else
      match u.freeSlot (u.claims.filter (fun c => !c.ofRegion (regionOf bs)) ++ [⟨0x13, (regionOf bs).val, .trace (regionOf bs)⟩]) (regionOf bs) with
      | some i => (((u.releaseSlot (regionOf bs)).modTrace (regionOf bs) (fun _ => .configured (traceDesc bs))).startSlot
          (u.claims.filter (fun c => !c.ofRegion (regionOf bs)) ++ [⟨0x13, (regionOf bs).val, .trace (regionOf bs)⟩]) (regionOf bs) i (traceDesc bs).period, doneR)
      | none => (u, refusal stOwnership) := by
  refine if_neg ?_
  rw [List.any_eq_true]
  rintro ⟨w, hw, hn⟩
  rw [h w hw] at hn
  exact Bool.false_ne_true hn

theorem doTraceConfig_armed (ha : u.trace[regionOf bs].armed = true) : u.doTraceConfig bs = (u, refusal stBusy) := by
  rw [doTraceConfig_known h, if_pos ha]

variable (ha : u.trace[regionOf bs].armed = false)
include ha

theorem doTraceConfig_unclaimable
    (hc : u.claimable (u.claims.filter (fun c => !c.ofRegion (regionOf bs))) (.trace (regionOf bs)) 0x13 (regionOf bs).val = false) :
    u.doTraceConfig bs = (u, refusal stOwnership) := by
  rw [doTraceConfig_known h, ha, hc]
  rfl

variable (hc : u.claimable (u.claims.filter (fun c => !c.ofRegion (regionOf bs))) (.trace (regionOf bs)) 0x13 (regionOf bs).val = true)
include hc

theorem doTraceConfig_slotless (hp : (traceDesc bs).period = 0) : u.doTraceConfig bs =
    ({ (u.releaseSlot (regionOf bs)).modTrace (regionOf bs) (fun _ => .configured (traceDesc bs)) with
      claims := u.claims.filter (fun c => !c.ofRegion (regionOf bs)) ++ [⟨0x13, (regionOf bs).val, .trace (regionOf bs)⟩] }, doneR) := by
  rw [doTraceConfig_known h, ha, hc, if_neg Bool.false_ne_true, if_neg (by decide), if_pos hp]

theorem doTraceConfig_slot (hp : (traceDesc bs).period ≠ 0) {i : Fin 256}
    (hs : u.freeSlot (u.claims.filter (fun c => !c.ofRegion (regionOf bs)) ++ [⟨0x13, (regionOf bs).val, .trace (regionOf bs)⟩]) (regionOf bs) = some i) :
    u.doTraceConfig bs = (((u.releaseSlot (regionOf bs)).modTrace (regionOf bs) (fun _ => .configured (traceDesc bs))).startSlot
      (u.claims.filter (fun c => !c.ofRegion (regionOf bs)) ++ [⟨0x13, (regionOf bs).val, .trace (regionOf bs)⟩]) (regionOf bs) i (traceDesc bs).period, doneR) := by
  rw [doTraceConfig_known h, ha, hc, if_neg Bool.false_ne_true, if_neg (by decide), if_neg hp]
  simp only [hs]

theorem doTraceConfig_slots_taken (hp : (traceDesc bs).period ≠ 0)
    (hs : u.freeSlot (u.claims.filter (fun c => !c.ofRegion (regionOf bs)) ++ [⟨0x13, (regionOf bs).val, .trace (regionOf bs)⟩]) (regionOf bs) = none) :
    u.doTraceConfig bs = (u, refusal stOwnership) := by
  rw [doTraceConfig_known h, ha, hc, if_neg Bool.false_ne_true, if_neg (by decide), if_neg hp]
  simp only [hs]
end

/-- An armed region: it holds no record and waits for its trigger. -/
def TraceRegion.rearmed (x : TraceRegion) (d : TraceDesc) : TraceRegion :=
  { x with armed := true, stopped := false, triggered := d.trigKind == 0, recs := [], prevFirst := none }

theorem doTraceArm_unconfigured (h : u.trace[regionOf bs].desc = none) : u.doTraceArm bs = (u, refusal stRange) := by
  unfold State.doTraceArm
  simp only [h]

section
variable {d : TraceDesc} (h : u.trace[regionOf bs].desc = some d)
include h

theorem doTraceArm_configured : u.doTraceArm bs =
    if u.trace[regionOf bs].armed then (u, doneR)
    else if d.period = 0 ∨ u.trace[regionOf bs].slot.isSome then (u.modTrace (regionOf bs) (·.rearmed d), doneR)
    else
      match u.freeSlot u.claims (regionOf bs) with
      | some i => ((u.startSlot u.claims (regionOf bs) i d.period).modTrace (regionOf bs) (·.rearmed d), doneR)
      | none => (u, refusal stOwnership) := by
  unfold State.doTraceArm
  simp only [h]
  rfl

theorem doTraceArm_armed (ha : u.trace[regionOf bs].armed = true) : u.doTraceArm bs = (u, doneR) := by
  rw [doTraceArm_configured h, if_pos ha]

variable (ha : u.trace[regionOf bs].armed = false)
include ha

theorem doTraceArm_ready (hp : d.period = 0 ∨ u.trace[regionOf bs].slot ≠ none) :
    u.doTraceArm bs = (u.modTrace (regionOf bs) (·.rearmed d), doneR) := by
  rw [doTraceArm_configured h, ha, if_neg Bool.false_ne_true, if_pos (hp.imp_right Option.isSome_iff_ne_none.mpr)]

variable (hp : d.period ≠ 0) (hs : u.trace[regionOf bs].slot = none)
include hp hs

theorem doTraceArm_slot {i : Fin 256} (hf : u.freeSlot u.claims (regionOf bs) = some i) :
    u.doTraceArm bs = ((u.startSlot u.claims (regionOf bs) i d.period).modTrace (regionOf bs) (·.rearmed d), doneR) := by
  rw [doTraceArm_configured h, ha, hs, if_neg Bool.false_ne_true, if_neg (by simp [hp])]
  simp only [hf]

theorem doTraceArm_slots_taken (hf : u.freeSlot u.claims (regionOf bs) = none) : u.doTraceArm bs = (u, refusal stOwnership) := by
  rw [doTraceArm_configured h, ha, hs, if_neg Bool.false_ne_true, if_neg (by simp [hp])]
  simp only [hf]
end
end

end Sys2Proof.Machine
end

section
namespace Sys2Proof.Machine

/-! ##### TRACE_CONFIG, TRACE_ARM, TRACE_STOP and TRACE_READ as a host sends them -/

/-- Setting an element of a vector. -/
theorem vmod_eq_set {α : Type} {n : Nat} (v : Vector α n) (i : Fin n) (f : α → α) : vmod v i f = v.set i (f v[i]) := rfl

theorem configured_trace (u : State) (k : Fin 16) (x : TraceRegion) : ((u.releaseSlot k).modTrace k (fun _ => x)).trace = u.trace.set k x := by
  rw [State.modTrace, releaseSlot_trace]
  simp [vmod_eq_set]

/-- A region with its old slot released and a new descriptor: what stays. -/
theorem configured_frame (u : State) (k : Fin 16) (x : TraceRegion) : (u.releaseSlot k).modTrace k (fun _ => x) =
    { u with claims := u.claims.filter (fun c => !(c.ofRegion k && c.cls == 0x10)), trace := u.trace.set k x
             tb := { u.tb with slots := (u.releaseSlot k).tb.slots } } := by
  have ht := configured_trace u k x
  rw [State.modTrace] at ht ⊢
  simp only at ht
  rw [ht, releaseSlot_frame]

section
variable {p : Side} {m : MbxNo} {r : Req} {s : State} {msg : Msg}

/-- The claims of a region's descriptor beside those of others. -/
def othersClaims (s : State) (k : Fin 16) : List PoolClaim := s.claims.filter (fun c => !c.ofRegion k)
def regionClaims (s : State) (k : Fin 16) : List PoolClaim := othersClaims s k ++ [{ cls := 0x13, index := k.val, by_ := .trace k }]

/-- What TRACE_CONFIG of a region that is free does. -/
theorem traceConfig_takes (k : Passes s 0x48 p m r msg) (hg : s.hm.grant = some p) (hk : ∀ w ∈ (traceDesc msg.payload).signals, signalOk w = true)
    (ha : s.trace[regionOf msg.payload].armed = false)
    (hc : s.claimable (othersClaims s (regionOf msg.payload)) (.trace (regionOf msg.payload)) 0x13 (regionOf msg.payload).val = true) :
    ((traceDesc msg.payload).period = 0 → ∃ t, exec (.traceConfig p m r) s = .next t ∧ Answered t msg doneR false ∧
      t.claims = regionClaims s (regionOf msg.payload) ∧ t.trace = s.trace.set (regionOf msg.payload) { desc := some (traceDesc msg.payload) } ∧
      t = { s with port := t.port, claims := t.claims, trace := t.trace, tb := { s.tb with slots := t.tb.slots } }) ∧
    (∀ i, (traceDesc msg.payload).period ≠ 0 → s.freeSlot (regionClaims s (regionOf msg.payload)) (regionOf msg.payload) = some i →
      ∃ t f, exec (.traceConfig p m r) s = .next t ∧ Answered t msg doneR false ∧
      t.claims = regionClaims s (regionOf msg.payload) ++ [{ cls := 0x10, index := i.val, by_ := .trace (regionOf msg.payload) }] ∧
      t.trace = s.trace.set (regionOf msg.payload) { desc := some (traceDesc msg.payload), slot := some i } ∧
      { slot := i, period := (traceDesc msg.payload).period, phase := f, next := none } ∈ t.tb.slots ∧ f < (traceDesc msg.payload).period ∧
      t = { s with port := t.port, claims := t.claims, trace := t.trace, tb := { s.tb with slots := t.tb.slots }, free := t.free }) ∧
    ((traceDesc msg.payload).period ≠ 0 → s.freeSlot (regionClaims s (regionOf msg.payload)) (regionOf msg.payload) = none →
      Stays s msg (.traceConfig p m r) 0x12) := by
  have hO (o : State × Result) (h : (s.rung 0x48 p m r).doTraceConfig msg.payload = o) :
      (s.rung 0x48 p m r).deviceCommand msg (msg.op false) ((s.rung 0x48 p m r).port.get p).staging = o := (deviceCommand_traceConfig k.op _ _ _).trans h
  refine ⟨fun hp => ?_, fun i hp hs => ?_, fun hp hs => device_stays rfl k hg (by decide) (hO _ (doTraceConfig_slots_taken (u := s.rung 0x48 p m r) hk ha hc hp hs)) (by decide)⟩
  · have ho := hO _ (doTraceConfig_slotless (u := s.rung 0x48 p m r) hk ha hc hp)
    obtain ⟨t, he, hans, hf⟩ := device_does (c := .traceConfig p m r) rfl k hg (by decide) ho (show (0 : Byte) ≠ 0x10 by decide)
    have hu := configured_frame (s.rung 0x48 p m r) (regionOf msg.payload) (.configured (traceDesc msg.payload))
    generalize (((s.rung 0x48 p m r).releaseSlot (regionOf msg.payload)).modTrace (regionOf msg.payload) fun _ => _) = u at hf hu
    have htr : t.trace = s.trace.set (regionOf msg.payload) { desc := some (traceDesc msg.payload) } := by
      rw [hf, hu]
      rfl
    have hcl : t.claims = regionClaims s (regionOf msg.payload) := by
      rw [hf]
      rfl
    refine ⟨t, he, hans, hcl, htr, ?_⟩
    rw [hf, hu]
    rfl
  · have ho := hO _ (doTraceConfig_slot (u := s.rung 0x48 p m r) hk ha hc hp hs)
    obtain ⟨t, he, hans, hf⟩ := device_does (c := .traceConfig p m r) rfl k hg (by decide) ho (show (0 : Byte) ≠ 0x10 by decide)
    have hu := configured_frame (s.rung 0x48 p m r) (regionOf msg.payload) (.configured (traceDesc msg.payload))
    generalize (((s.rung 0x48 p m r).releaseSlot (regionOf msg.payload)).modTrace (regionOf msg.payload) fun _ => _) = u at hf hu
    obtain ⟨f, hlt, hmem, hcl, htr, hfr⟩ := startSlot_spec u (regionOf msg.payload) (regionClaims s (regionOf msg.payload)) i hp
    change t = { u.startSlot (regionClaims s (regionOf msg.payload)) (regionOf msg.payload) i (traceDesc msg.payload).period with port := t.port } at hf
    generalize u.startSlot (regionClaims s (regionOf msg.payload)) (regionOf msg.payload) i (traceDesc msg.payload).period = w at *
    have htr' : w.trace = s.trace.set (regionOf msg.payload) { desc := some (traceDesc msg.payload), slot := some i } := by
      have e : u.trace = s.trace.set (regionOf msg.payload) (.configured (traceDesc msg.payload)) := by
        rw [hu]
        rfl
      rw [htr, e]
      simp [TraceRegion.configured]
    refine ⟨t, f, he, hans, ?_, ?_, ?_, hlt, ?_⟩
    · rw [hf]; exact hcl
    · rw [hf]; exact htr'
    · rw [hf]; exact hmem
    · rw [hf, hfr, hu]
      rfl

/-- What TRACE_CONFIG does (R321 to R323). -/
theorem traceConfig_does (k : Passes s 0x48 p m r msg) (hg : s.hm.grant = some p) :
    ((¬ ∀ w ∈ (traceDesc msg.payload).signals, signalOk w = true) → Stays s msg (.traceConfig p m r) 0x11) ∧
    ((∀ w ∈ (traceDesc msg.payload).signals, signalOk w = true) → s.trace[regionOf msg.payload].armed = true → Stays s msg (.traceConfig p m r) 0x15) ∧
    ((∀ w ∈ (traceDesc msg.payload).signals, signalOk w = true) → s.trace[regionOf msg.payload].armed = false →
      s.claimable (othersClaims s (regionOf msg.payload)) (.trace (regionOf msg.payload)) 0x13 (regionOf msg.payload).val = false →
      Stays s msg (.traceConfig p m r) 0x12) := by
  have hO (o : State × Result) (h : (s.rung 0x48 p m r).doTraceConfig msg.payload = o) :
      (s.rung 0x48 p m r).deviceCommand msg (msg.op false) ((s.rung 0x48 p m r).port.get p).staging = o := (deviceCommand_traceConfig k.op _ _ _).trans h
  exact ⟨fun hk => device_stays rfl k hg (by decide) (hO _ (doTraceConfig_unknown hk)) (by decide),
    fun hk ha => device_stays rfl k hg (by decide) (hO _ (doTraceConfig_armed (u := s.rung 0x48 p m r) hk ha)) (by decide),
    fun hk ha hc => device_stays rfl k hg (by decide) (hO _ (doTraceConfig_unclaimable (u := s.rung 0x48 p m r) hk ha hc)) (by decide)⟩

/-- A region armed: no record, waiting for its trigger, the other regions as they were. -/
def Armed (s t : State) (k : Fin 16) (d : TraceDesc) : Prop := t.trace[k].armed = true ∧ t.trace[k].stopped = false ∧ t.trace[k].recs = [] ∧
  t.trace[k].desc = some d ∧ (t.trace[k].triggered = true ↔ d.trigKind = 0) ∧ ∀ j : Fin 16, j ≠ k → t.trace[j] = s.trace[j]

theorem armed_of_set {s t : State} {k : Fin 16} {d : TraceDesc} {x : TraceRegion} (ht : t.trace = s.trace.set k (x.rearmed d)) (hx : x.desc = some d) :
    Armed s t k d ∧ t.trace[k].slot = x.slot := by
  have hk : t.trace[k] = x.rearmed d := by
    rw [ht]
    exact Vector.getElem_set_self _
  have hj (j : Fin 16) (h : j ≠ k) : t.trace[j] = s.trace[j] := by
    rw [ht]
    exact Vector.getElem_set_ne _ _ fun e => h (Fin.ext e.symm)
  refine ⟨⟨?_, ?_, ?_, ?_, ?_, hj⟩, ?_⟩ <;> rw [hk]
  · rfl
  · rfl
  · rfl
  · exact hx
  · exact beq_iff_eq
  · rfl

/-- TRACE_ARM of a region whose slot was released claims one anew (R325). -/
theorem traceArm_takes (k : Passes s 0x49 p m r msg) (hg : s.hm.grant = some p) {d : TraceDesc} (hd : s.trace[regionOf msg.payload].desc = some d)
    (ha : s.trace[regionOf msg.payload].armed = false) (hp : d.period ≠ 0) (hs : s.trace[regionOf msg.payload].slot = none) {i : Fin 256}
    (hf : s.freeSlot s.claims (regionOf msg.payload) = some i) : ∃ t, exec (.traceArm p m r) s = .next t ∧ Answered t msg doneR false ∧
      Armed s t (regionOf msg.payload) d ∧ t.trace[regionOf msg.payload].slot = some i ∧
      t.claims = s.claims ++ [{ cls := 0x10, index := i.val, by_ := .trace (regionOf msg.payload) }] ∧
      t = { s with port := t.port, claims := t.claims, trace := t.trace, tb := { s.tb with slots := t.tb.slots }, free := t.free } := by
  have ho := (deviceCommand_traceArm k.op (s.rung 0x49 p m r) (msg.op false) ((s.rung 0x49 p m r).port.get p).staging).trans
    (doTraceArm_slot (u := s.rung 0x49 p m r) hd ha hp hs hf)
  obtain ⟨t, he, hans, ht⟩ := device_does (c := .traceArm p m r) rfl k hg (by decide) ho (show (0 : Byte) ≠ 0x10 by decide)
  obtain ⟨f, -, -, hcl, htr, hfr⟩ := startSlot_spec (s.rung 0x49 p m r) (regionOf msg.payload) s.claims i hp
  change t = { ((s.rung 0x49 p m r).startSlot s.claims (regionOf msg.payload) i d.period).modTrace (regionOf msg.payload) (·.rearmed d)
    with port := t.port } at ht
  generalize (s.rung 0x49 p m r).startSlot s.claims (regionOf msg.payload) i d.period = w at *
  have hset : t.trace = s.trace.set (regionOf msg.payload) ({ s.trace[regionOf msg.payload] with slot := some i }.rearmed d) := by
    rw [ht]
    change vmod w.trace (regionOf msg.payload) (fun x => x.rearmed d) = _
    rw [htr]
    change vmod (s.trace.set (regionOf msg.payload) { s.trace[regionOf msg.payload] with slot := some i }) (regionOf msg.payload) (·.rearmed d) = _
    simp [vmod_eq_set]
  obtain ⟨harmed, hslot⟩ := armed_of_set hset hd
  refine ⟨t, he, hans, harmed, hslot, ?_, ?_⟩
  · rw [ht]
    exact hcl
  · rw [ht, hfr]
    rfl

/-- What TRACE_ARM does (R321, R325). -/
theorem traceArm_does (k : Passes s 0x49 p m r msg) (hg : s.hm.grant = some p) :
    (s.trace[regionOf msg.payload].desc = none → Stays s msg (.traceArm p m r) 0x11) ∧
    ∀ d, s.trace[regionOf msg.payload].desc = some d →
    (s.trace[regionOf msg.payload].armed = true → Stays s msg (.traceArm p m r) 0) ∧
    (s.trace[regionOf msg.payload].armed = false → d.period = 0 ∨ s.trace[regionOf msg.payload].slot ≠ none →
      ∃ t, exec (.traceArm p m r) s = .next t ∧ Answered t msg doneR false ∧ Armed s t (regionOf msg.payload) d ∧
        t = { s with port := t.port, trace := t.trace }) ∧
    (s.trace[regionOf msg.payload].armed = false → d.period ≠ 0 → s.trace[regionOf msg.payload].slot = none →
      (∀ i, s.freeSlot s.claims (regionOf msg.payload) = some i → ∃ t, exec (.traceArm p m r) s = .next t ∧ Answered t msg doneR false ∧
        Armed s t (regionOf msg.payload) d ∧ t.trace[regionOf msg.payload].slot = some i ∧
        t.claims = s.claims ++ [{ cls := 0x10, index := i.val, by_ := .trace (regionOf msg.payload) }] ∧
        t = { s with port := t.port, claims := t.claims, trace := t.trace, tb := { s.tb with slots := t.tb.slots }, free := t.free }) ∧
      (s.freeSlot s.claims (regionOf msg.payload) = none → Stays s msg (.traceArm p m r) 0x12)) := by
  have hO (o : State × Result) (h : (s.rung 0x49 p m r).doTraceArm msg.payload = o) :
      (s.rung 0x49 p m r).deviceCommand msg (msg.op false) ((s.rung 0x49 p m r).port.get p).staging = o := (deviceCommand_traceArm k.op _ _ _).trans h
  refine ⟨fun hd => device_stays rfl k hg (by decide) (hO _ (doTraceArm_unconfigured (u := s.rung 0x49 p m r) hd)) (by decide), fun d hd => ⟨fun ha => ?_,
    fun ha hp => ?_, fun ha hp hs => ⟨fun i hf => ?_,
      fun hf => device_stays rfl k hg (by decide) (hO _ (doTraceArm_slots_taken (u := s.rung 0x49 p m r) hd ha hp hs hf)) (by decide)⟩⟩⟩
  · exact device_stays (st := 0) rfl k hg (by decide) (hO _ (doTraceArm_armed (u := s.rung 0x49 p m r) hd ha)) (by decide)
  · have ho := hO _ (doTraceArm_ready (u := s.rung 0x49 p m r) hd ha hp)
    obtain ⟨t, he, hans, hf⟩ := device_does (c := .traceArm p m r) rfl k hg (by decide) ho (show (0 : Byte) ≠ 0x10 by decide)
    have ht : t.trace = s.trace.set (regionOf msg.payload) (s.trace[regionOf msg.payload].rearmed d) := by
      rw [hf]
      rfl
    refine ⟨t, he, hans, (armed_of_set ht hd).1, ?_⟩
    rw [hf]
    rfl
  · exact traceArm_takes k hg hd ha hp hs hf

/-- What TRACE_STOP does (R325). -/
theorem traceStop_does (k : Passes s 0x4A p m r msg) (hg : s.hm.grant = some p) : ∃ t, exec (.traceStop p m r) s = .next t ∧
    Answered t msg (doneWith (leBytes 4 s.trace[regionOf msg.payload].data.length)) false ∧
    t.trace = s.trace.set (regionOf msg.payload) { s.trace[regionOf msg.payload] with armed := false, stopped := true, slot := none } ∧
    (∀ c, c ∈ t.claims ↔ c ∈ s.claims ∧ (c.by_ = .trace (regionOf msg.payload) → c.cls ≠ 0x10)) ∧
    (∀ e, e ∈ t.tb.slots ↔ e ∈ s.tb.slots ∧ s.trace[regionOf msg.payload].slot ≠ some e.slot) ∧
    t = { s with port := t.port, trace := t.trace, claims := t.claims, tb := { s.tb with slots := t.tb.slots } } := by
  have ho : (s.rung 0x4A p m r).deviceCommand msg (msg.op false) ((s.rung 0x4A p m r).port.get p).staging =
    ((s.rung 0x4A p m r).doTraceStop msg.payload) := deviceCommand_traceStop k.op _ _ _
  obtain ⟨t, he, hans, hf⟩ := device_does (c := .traceStop p m r) rfl k hg (by decide) ho (show (0 : Byte) ≠ 0x10 by decide)
  have hr := releaseSlot_frame (s.rung 0x4A p m r) (regionOf msg.payload)
  have htr := releaseSlot_trace (s.rung 0x4A p m r) (regionOf msg.payload)
  have hsl := mem_releaseSlot_slots (s.rung 0x4A p m r) (regionOf msg.payload)
  change t = { ((s.rung 0x4A p m r).releaseSlot (regionOf msg.payload)).modTrace (regionOf msg.payload)
    (fun x => { x with armed := false, stopped := true }) with port := t.port } at hf
  generalize (s.rung 0x4A p m r).releaseSlot (regionOf msg.payload) = u at *
  refine ⟨t, he, hans, ?_, fun c => ?_, fun e => ?_, ?_⟩
  · rw [hf]
    change vmod u.trace (regionOf msg.payload) (fun x => { x with armed := false, stopped := true }) = _
    rw [htr]
    change vmod (s.trace.set (regionOf msg.payload) { s.trace[regionOf msg.payload] with slot := none }) (regionOf msg.payload)
      (fun x => { x with armed := false, stopped := true }) = _
    simp [vmod_eq_set]
  · have hc : t.claims = u.claims := by rw [hf]; rfl
    rw [hc, hr]
    exact mem_released_claims s (regionOf msg.payload) c
  · have hc : t.tb = u.tb := by rw [hf]; rfl
    rw [hc]
    exact hsl e
  · rw [hf, hr]
    rfl

/-- What TRACE_READ does (R326, R327). -/
theorem traceRead_does (k : Passes s 0x60 p m r msg) :
    (s.trace[regionOf msg.payload].invalid = true → Stays s msg (.traceRead p m r) 0x11) ∧
    (s.trace[regionOf msg.payload].invalid = false → ∃ t, exec (.traceRead p m r) s = .next t ∧
      Answered t msg (doneWith (leBytes 4 (field msg.payload 4 4) ++
        (s.trace[regionOf msg.payload].data.drop (field msg.payload 4 4)).take (field msg.payload 8 2))) false ∧ t = { s with port := t.port }) := by
  have he : exec (.traceRead p m r) s = .next ((s.rung 0x60 p m r).finish msg ((s.rung 0x60 p m r).doTraceRead msg.payload) false) :=
    (exec_of_passes rfl k).trans (congrArg _ (route_traceRead k.op _))
  obtain ⟨ha, hf⟩ := finish_answered (s.rung 0x60 p m r) msg ((s.rung 0x60 p m r).doTraceRead msg.payload) false
  refine ⟨fun h => ⟨_, he, ?_, hf⟩, fun h => ⟨_, he, ?_, hf⟩⟩
  · have e : (s.rung 0x60 p m r).doTraceRead msg.payload = refusal stRange := if_pos h
    rw [e] at ha ⊢
    exact ha
  · have e : (s.rung 0x60 p m r).doTraceRead msg.payload = doneWith (leBytes 4 (field msg.payload 4 4) ++
        (s.trace[regionOf msg.payload].data.drop (field msg.payload 4 4)).take (field msg.payload 8 2)) :=
      if_neg (by rw [show (s.rung 0x60 p m r).trace = s.trace from rfl, h]; exact Bool.false_ne_true)
    rw [e] at ha ⊢
    exact ha
end

/-- Settles O56: what the four trace commands do to the region they name. -/
theorem traceCommands : Obligations.TraceCommands := by
  intro p m r msg s k0 stays
  refine ⟨fun k hg => ?_, fun k hg => traceArm_does k hg, fun k hg => traceStop_does k hg, fun k => traceRead_does k⟩
  intro d others claims known
  obtain ⟨h1, h2, h3⟩ := traceConfig_does k hg
  exact ⟨h1, h2, h3, fun hk ha hc => traceConfig_takes k hg hk ha hc⟩

end Sys2Proof.Machine
end

section
/-! #### DETACH, ATTACH and FLASH_WRITE (R304 to R306, R859 to R861) -/

namespace Sys2Proof.Machine

section
variable {c : Instr} {op : Byte} {p : Side} {m : MbxNo} {r : Req} {s : State} {msg : Msg} {n : LaneNo}

/-- A command to a lane: what it does and its reply. -/
theorem exec_lane {o : State × Result} (hc : hostRequest c = some (op, p, m, r)) (k : Passes s op p m r msg) (hg : s.hm.grant = some p)
    (ht : targetOf msg.target = some (.lane n)) (ho : op.toNat ∉ [0x40, 0x41, 0x42, 0x43, 0x44, 0x60])
    (hO : (s.rung op p m r).laneCommand n msg (msg.op false) = o) :
    exec c s = .next ((o.1.noteRefusal (some (.lane n)) o.2.status).finish msg o.2 false) := by
  refine exec_performed (o := (o.1.noteRefusal (some (.lane n)) o.2.status, o.2)) hc k hg ho ?_
  rw [perform_lane ht, hO]

theorem lane_does {o : State × Result} (hc : hostRequest c = some (op, p, m, r)) (k : Passes s op p m r msg) (hg : s.hm.grant = some p)
    (ht : targetOf msg.target = some (.lane n)) (ho : op.toNat ∉ [0x40, 0x41, 0x42, 0x43, 0x44, 0x60])
    (hO : (s.rung op p m r).laneCommand n msg (msg.op false) = o) (hs : o.2.status ≠ 0x10) :
    exec c s = .next (o.1.finish msg o.2 false) ∧ Answered (o.1.finish msg o.2 false) msg o.2 false ∧
      o.1.finish msg o.2 false = { o.1 with port := (o.1.finish msg o.2 false).port } := by
  have he := exec_lane hc k hg ht ho hO
  rw [noteRefusal_ne hs] at he
  exact ⟨he, finish_answered o.1 msg o.2 false⟩

/-- A refused command to the device or a lane is noted. -/
theorem finish_refused {u : State} {tg : Target} (hq : ∀ q, tg ≠ .quay q) {res : Result} (hs : res.status = 0x10) :
    Answered ((u.noteRefusal (some tg) res.status).finish msg res false) msg res false ∧
    (∃ e ∈ ((u.noteRefusal (some tg) res.status).finish msg res false).flt.transit, e.src = srcCmdRefused) ∧
    (u.noteRefusal (some tg) res.status).finish msg res false = { u with
      port := ((u.noteRefusal (some tg) res.status).finish msg res false).port, flt := ((u.noteRefusal (some tg) res.status).finish msg res false).flt } := by
  have hn : u.noteRefusal (some tg) res.status = u.raiseDevice srcCmdRefused := by
    unfold State.noteRefusal
    rw [if_pos (show res.status = stRefused from hs)]
    cases tg with
    | quay q => exact absurd rfl (hq q)
    | device => rfl
    | lane n => rfl
  refine ⟨(finish_answered _ msg res false).1, ?_, finish_note u (some tg) res.status res msg⟩
  rw [hn, finish_flt]
  exact ⟨_, State.raise_mem _ _, rfl⟩

/-! ##### The event queue of a port at the end of commands in progress -/

/-- The indices of an event queue. -/
def Port.evIndices (x : Port) : BitVec 4 × BitVec 4 := (x.evqHead, x.evqTail)

theorem pushEvq_evIndices (x : Port) (e : EvqEntry) : (x.pushEvq e).evIndices = (if x.evqFull then x.evqHead else x.evqHead + 1, x.evqTail) := by
  unfold Port.pushEvq
  split <;> rfl

theorem pushEvq_indices {x y : Port} (h : x.evIndices = y.evIndices) (a b : EvqEntry) : (x.pushEvq a).evIndices = (y.pushEvq b).evIndices := by
  simp only [Port.evIndices, Prod.mk.injEq] at h
  rw [pushEvq_evIndices, pushEvq_evIndices, Port.evqFull, Port.evqFull, h.1, h.2]

theorem event_indices {s u : State} (h : ∀ g, (u.port.get g).evIndices = (s.port.get g).evIndices) (o : AcceptedOp) (st : Byte) (a : U16) (n : Nat)
    (g : Side) : ((u.event o st a n).port.get g).evIndices = ((s.event o st a n).port.get g).evIndices := by
  unfold State.event State.modPort
  rcases Side.eq_or_other g o.port with rfl | rfl
  · simp only [Pair.get_set]
    exact pushEvq_indices (h _) _ _
  · rw [Pair.get_set_ne _ _ (Side.other_ne _), Pair.get_set_ne _ _ (Side.other_ne _)]
    exact h _

/-- Event entries move the queue's indices as they would from any state with the same indices. -/
theorem eventAll_indices {s u : State} (h : ∀ g, (u.port.get g).evIndices = (s.port.get g).evIndices) (os : List AcceptedOp) (st : Byte) (a : U16) (n : Nat)
    (g : Side) : ((u.eventAll os st a n).port.get g).evIndices = ((s.eventAll os st a n).port.get g).evIndices := by
  induction os generalizing s u with
  | nil => exact h g
  | cons o os ih => exact ih fun g' => event_indices h o st a n g'

/-- A reply leaves the indices of the event queue. -/
theorem finish_indices (u : State) (msg : Msg) (res : Result) (f : Bool) (g : Side) :
    ((u.finish msg res f).port.get g).evIndices = (u.port.get g).evIndices := by
  cases g <;> cases h : msg.port <;> simp [State.finish, State.answer, State.modMbx, State.modPort, h, Pair.get, Pair.set, Port.evIndices]

theorem rung_indices (s : State) (op : Byte) (p : Side) (m : MbxNo) (r : Req) (g : Side) :
    ((s.rung op p m r).port.get g).evIndices = (s.port.get g).evIndices := by
  cases g <;> cases p <;> rfl

/-! ##### DETACH -/

/-- A lane that is detached. -/
def Lane.detach (x : Lane) : Lane := { x with st := .detached, rxOk := false, rxSeq := none, timeOk := false, attachOps := [] }

/-- A lane with BYE handed to its transmitter where it was ATTACHED. -/
def Lane.farewell (x : Lane) : Lane := { x with tx := if x.st = .attached then x.tx ++ [.bye] else x.tx }

/-- A lane detached, after BYE where it was ATTACHED, its legs no longer armed. -/
theorem doDetach_detaches {u : State} (h1 : u.lane[n].st ≠ .detached) (h2 : ∀ q ∈ u.laneQuays n, u.quay[q].core.st = .off) :
    (u.doDetach n).2 = doneR ∧
    (u.doDetach n).1.lane = u.lane.set n u.lane[n].farewell.detach ∧
    (∀ g, ((u.doDetach n).1.port.get g).evIndices = ((u.eventAll u.lane[n].attachOps 0x10 0 0).port.get g).evIndices) ∧
    (∀ l : LegNo, (u.doDetach n).1.leg[l] = { u.leg[l] with armed := u.leg[l].armed && !(u.legsOnLane n).contains l }) ∧
    (u.doDetach n).1 = { u with lane := (u.doDetach n).1.lane, leg := (u.doDetach n).1.leg, port := (u.doDetach n).1.port } := by
  have hout : (u.laneQuays n).any u.outsideOff = false := List.any_eq_false.mpr fun q hq => by
    rw [State.outsideOff, h2 q hq]
    decide
  have e : u.doDetach n = (forAll (u.legsOnLane n) (((if u.lane[n].st = .attached then u.sendLane n .bye else u).eventAll u.lane[n].attachOps stRefused 0 0).modLane n
      Lane.detach) (fun t l => t.modLeg l (fun y => { y with armed := false })), doneR) := by
    unfold State.doDetach
    rw [if_neg h1, hout, if_neg Bool.false_ne_true]
    rfl
  rw [e]
  have hs : (if u.lane[n].st = .attached then u.sendLane n .bye else u) = { u with lane := u.lane.set n u.lane[n].farewell } := by
    unfold Lane.farewell
    split
    · rfl
    · change u = { u with lane := u.lane.set n u.lane[n] }
      rw [show u.lane.set n u.lane[n] = u.lane from Vector.set_getElem_self _]
  generalize (if u.lane[n].st = .attached then u.sendLane n .bye else u) = v at hs ⊢
  have hev := State.eq_take (ps := [.port]) (v.eventAll_blank (by simp) u.lane[n].attachOps stRefused 0 0)
  have hport : (v.eventAll u.lane[n].attachOps stRefused 0 0).port = (u.eventAll u.lane[n].attachOps stRefused 0 0).port :=
    State.eventAll_port (by rw [hs]) (by rw [hs]; rfl) _ _ _ _
  generalize v.eventAll u.lane[n].attachOps stRefused 0 0 = w at hev hport ⊢
  have hdis := State.eq_take (ps := [.leg]) (forAll_blank_of_mem (ps := [.leg]) (w.modLane n Lane.detach) (u.legsOnLane n)
    (fun t l => t.modLeg l (fun y => { y with armed := false })) fun t l _ => by simp)
  have hleg := forAll_disarm (u.legsOnLane n) (w.modLane n Lane.detach)
  generalize forAll (u.legsOnLane n) (w.modLane n Lane.detach) _ = x at hdis hleg ⊢
  refine ⟨rfl, ?_, fun g => ?_, fun l => ?_, ?_⟩
  · rw [hdis]
    change vmod w.lane n Lane.detach = _
    rw [hev]
    change vmod v.lane n Lane.detach = _
    rw [hs]
    simp [vmod_eq_set]
  · rw [hdis]
    change (w.port.get g).evIndices = _
    rw [hport]
    rfl
  · rw [hleg, show (w.modLane n Lane.detach).leg = u.leg by rw [hev, hs]; rfl]
  · rw [hdis, hev, hs]
    rfl

/-- DETACH of a lane as a host sends it (R304, R859 to R861). -/
theorem detach_does (k : Passes s 0x2E p m r msg) (hg : s.hm.grant = some p) (ht : targetOf msg.target = some (.lane n)) :
    (s.lane[n].st = .detached → ∃ t, exec (.detach p m r) s = .next t ∧ Answered t msg doneR false ∧ t = { s with port := t.port }) ∧
    (s.lane[n].st ≠ .detached → (∀ q ∈ s.laneQuays n, s.quay[q].core.st = .off) → ∃ t, exec (.detach p m r) s = .next t ∧ Answered t msg doneR false ∧
      t.lane = s.lane.set n s.lane[n].farewell.detach ∧
      (t.port.get p).evqHead = ((s.eventAll s.lane[n].attachOps 0x10 0 0).port.get p).evqHead ∧
      (∀ l : LegNo, t.leg[l] = { s.leg[l] with armed := s.leg[l].armed && !(s.legsOnLane n).contains l }) ∧
      t = { s with lane := t.lane, leg := t.leg, port := t.port }) ∧
    (s.lane[n].st ≠ .detached → (∃ q ∈ s.laneQuays n, s.quay[q].core.st ≠ .off) → ∃ t, exec (.detach p m r) s = .next t ∧
      Answered t msg { status := 0x10, advice := 0xC, data := [] } false ∧ (∃ e ∈ t.flt.transit, e.src = srcCmdRefused) ∧
      t = { s with port := t.port, flt := t.flt }) := by
  have hO (o : State × Result) (h : (s.rung 0x2E p m r).doDetach n = o) : (s.rung 0x2E p m r).laneCommand n msg (msg.op false) = o :=
    (if_pos k.op).trans h
  refine ⟨fun h => ?_, fun h hq => ?_, fun h hq => ?_⟩
  · have ho : (s.rung 0x2E p m r).doDetach n = (s.rung 0x2E p m r, doneR) := if_pos h
    obtain ⟨he, ha, hf⟩ := lane_does (c := .detach p m r) rfl k hg ht (by decide) (hO _ ho) (show (0 : Byte) ≠ 0x10 by decide)
    exact ⟨_, he, ha, hf⟩
  · obtain ⟨h2, hlane, hev, hleg, hfr⟩ := doDetach_detaches (u := s.rung 0x2E p m r) h hq
    have hs : ((s.rung 0x2E p m r).doDetach n).2.status ≠ 0x10 := by
      rw [h2]
      decide
    obtain ⟨he, ha, hf⟩ := lane_does (c := .detach p m r) rfl k hg ht (by decide) (hO _ rfl) hs
    have hev2 : ∀ g, (((s.rung 0x2E p m r).eventAll s.lane[n].attachOps 0x10 0 0).port.get g).evIndices =
      ((s.eventAll s.lane[n].attachOps 0x10 0 0).port.get g).evIndices := eventAll_indices (rung_indices s 0x2E p m r) _ _ _ _
    have hev3 := finish_indices ((s.rung 0x2E p m r).doDetach n).1 msg ((s.rung 0x2E p m r).doDetach n).2 false p
    generalize ((s.rung 0x2E p m r).doDetach n) = o at *
    generalize o.1.finish msg o.2 false = t at *
    refine ⟨t, he, h2 ▸ ha, ?_, ?_, fun l => ?_, ?_⟩
    · rw [hf]
      exact hlane
    · exact congrArg Prod.fst (hev3.trans ((hev p).trans (hev2 p)))
    · rw [hf]
      exact hleg l
    · rw [hf, hfr]
      rfl
  · have ho : (s.rung 0x2E p m r).doDetach n = (s.rung 0x2E p m r, refused 0x000C) := by
      refine (if_neg h).trans (if_pos (List.any_eq_true.mpr ?_))
      obtain ⟨q, hm, hn⟩ := hq
      exact ⟨q, hm, bne_iff_ne.mpr hn⟩
    have he := exec_lane (c := .detach p m r) rfl k hg ht (by decide) (hO _ ho)
    exact ⟨_, he, finish_refused (u := s.rung 0x2E p m r) (tg := .lane n) (fun q => nofun) rfl⟩

/-- ATTACH of a lane as a host sends it (R305, R861). -/
theorem attach_does (k : Passes s 0x2F p m r msg) (hg : s.hm.grant = some p) (ht : targetOf msg.target = some (.lane n)) {x : Lane} {res : Result}
    (hx : (s.rung 0x2F p m r).doAttach n (msg.op false) = ((s.rung 0x2F p m r).modLane n (fun _ => x), res)) (hs : res.status ≠ 0x10) :
    ∃ t, exec (.attach p m r) s = .next t ∧ Answered t msg res false ∧ t.lane = s.lane.set n x ∧ t = { s with lane := t.lane, port := t.port } := by
  have hO : (s.rung 0x2F p m r).laneCommand n msg (msg.op false) = (s.rung 0x2F p m r).doAttach n (msg.op false) :=
    if_neg (by rw [k.op]; decide)
  obtain ⟨he, ha, hf⟩ := lane_does (c := .attach p m r) rfl k hg ht (by decide) (hO.trans hx) hs
  generalize State.finish _ msg _ false = t at *
  refine ⟨t, he, ha, ?_, ?_⟩ <;> rw [hf] <;> rfl

/-! ##### FLASH_WRITE -/

/-- What a byte programmed into a cell of the flash reads afterwards. -/
theorem readCell_programFlash_cell (f : List Host.Cell) (x i : Nat) (bs : List Byte) (h : cellsWf erased f = true) (hi : i < bs.length)
    (he : readCell erased f (x + i) = erased) : readCell erased (programFlash f x bs) (x + i) = bs[i] := by
  induction bs generalizing f x i with
  | nil => simp at hi
  | cons b bs ih =>
    rw [programFlash]
    cases i with
    | zero =>
      rw [readCell_programFlash_outside _ _ _ _ (by omega), Nat.add_zero, readCell_writeCell _ _ _ _ h]
      rw [Nat.add_zero] at he
      simp [he]
    | succ i =>
      rw [show x + (i + 1) = x + 1 + i by omega] at he ⊢
      refine (ih _ (x + 1) i (cellsWf_writeCell erased f x _ h) (by simpa using hi) ?_).trans rfl
      rw [readCell_writeCell_ne _ _ _ _ _ (by omega)]
      exact he

/-- The flash after FLASH_WRITE of some bytes, with its sectors erased or not. -/
def flashed (f : List Host.Cell) (erase : Bool) (x : Nat) (data : List Byte) : List Host.Cell :=
  programFlash (if erase then eraseSectors f x data.length else f) x data

theorem readCell_flashed_inside (f : List Host.Cell) (erase : Bool) (x : Nat) (data : List Byte) (h : cellsWf erased f = true) (i : Nat) (hi : i < data.length)
    (he : erase = true ∨ readCell erased f (x + i) = erased) : readCell erased (flashed f erase x data) (x + i) = data[i] := by
  cases erase with
  | true =>
    refine readCell_programFlash_cell _ x i data (cellsWf_eraseSectors f x data.length h) hi ?_
    rw [readCell_eraseSectors, if_neg]
    omega
  | false => exact readCell_programFlash_cell f x i data h hi (he.resolve_left Bool.false_ne_true)

theorem readCell_flashed_outside (f : List Host.Cell) (erase : Bool) (x : Nat) (data : List Byte) (a : Nat) (h : a < x ∨ x + data.length ≤ a) :
    readCell erased (flashed f erase x data) a =
      if erase = true ∧ x / 4096 * 4096 ≤ a ∧ a < (x + data.length - 1) / 4096 * 4096 + 4096 then erased else readCell erased f a := by
  rw [flashed, readCell_programFlash_outside _ _ _ _ h]
  cases erase with
  | true =>
    rw [if_pos rfl, readCell_eraseSectors]
    by_cases hx : x / 4096 * 4096 ≤ a ∧ a < (x + data.length - 1) / 4096 * 4096 + 4096
    · rw [if_neg (by omega), if_pos ⟨rfl, hx⟩]
    · rw [if_pos (by omega), if_neg fun h => hx h.2]
  | false => rw [if_neg Bool.false_ne_true, if_neg fun h => Bool.false_ne_true h.1]
end

section
variable {p : Side} {m : MbxNo} {r : Req} {s : State} {msg : Msg}

/-- ATTACH in each state of a lane (R305, R861). -/
theorem attach_spec {n : LaneNo} (k : Passes s 0x2F p m r msg) (hg : s.hm.grant = some p) (ht : targetOf msg.target = some (.lane n)) :
    let ops := s.lane[n].attachOps ++ [msg.op false]
    let accepts (x : Lane) : Prop := ∃ t, exec (.attach p m r) s = .next t ∧ Answered t msg (acceptedWith []) false ∧ t.lane = s.lane.set n x ∧
      t = { s with lane := t.lane, port := t.port }
    (s.lane[n].st = .detached ∨ s.lane[n].st = .down → accepts { s.lane[n] with st := .down, detectAt := s.now, attachOps := ops }) ∧
    (s.lane[n].st = .quarantined → accepts { s.lane[n] with
      st := .identifying, detectAt := s.now, identReqs := 1, identReqAt := s.now, tx := s.lane[n].tx ++ [.identReq], attachOps := ops }) ∧
    (s.lane[n].st = .training ∨ s.lane[n].st = .aligning ∨ s.lane[n].st = .identifying → accepts { s.lane[n] with attachOps := ops }) ∧
    (s.lane[n].st = .attached → ∃ t, exec (.attach p m r) s = .next t ∧ Answered t msg doneR false ∧ t = { s with port := t.port }) := by
  intro ops accepts
  have hl : (s.rung 0x2F p m r).lane[n] = s.lane[n] := rfl
  refine ⟨fun h => attach_does k hg ht ?_ (by decide), fun h => attach_does k hg ht ?_ (by decide), fun h => attach_does k hg ht ?_ (by decide),
    fun h => ?_⟩
  · unfold State.doAttach
    rw [hl]
    rcases h with h | h <;> rw [h] <;> rfl
  · unfold State.doAttach
    rw [hl, h]
    rfl
  · unfold State.doAttach
    rw [hl]
    rcases h with h | h | h <;> rw [h] <;> rfl
  · have hO : (s.rung 0x2F p m r).laneCommand n msg (msg.op false) = (s.rung 0x2F p m r, doneR) := by
      refine (if_neg (by rw [k.op]; decide)).trans ?_
      unfold State.doAttach
      rw [hl, h]
    obtain ⟨he, ha, hf⟩ := lane_does (c := .attach p m r) rfl k hg ht (by decide) hO (show (0 : Byte) ≠ 0x10 by decide)
    exact ⟨_, he, ha, hf⟩

/-- FLASH_WRITE (R306). -/
theorem flashWrite_does (k : Passes s 0x61 p m r msg) (hg : s.hm.grant = some p) :
    let slot : Bool := msg.payload.getD 0 0 == 1
    let off := field msg.payload 4 4
    let data := msg.payload.drop 8
    let x := slotBase slot + off
    let booted : Prop := s.boot.src = (if slot = true then 1 else 0)
    (¬ booted → off + data.length ≤ 0x1000000 → ∃ t, exec (.flashWrite p m r) s = .next t ∧ Answered t msg doneR false ∧
      t.flash = flashed s.flash (msg.payload.getD 1 0 == 1) x data ∧ t = { s with flash := t.flash, port := t.port }) ∧
    (¬ booted → 0x1000000 < off + data.length → Stays s msg (.flashWrite p m r) 0x11) ∧
    (booted → ∃ t, exec (.flashWrite p m r) s = .next t ∧ Answered t msg { status := 0x10, advice := 0xD, data := [] } false ∧
      t = { s with port := t.port, flt := t.flt }) := by
  intro slot off data x booted
  have hO (o : State × Result) (h : (s.rung 0x61 p m r).doFlashWrite msg.payload = o) :
      (s.rung 0x61 p m r).deviceCommand msg (msg.op false) ((s.rung 0x61 p m r).port.get p).staging = o := (deviceCommand_flashWrite k.op _ _ _).trans h
  refine ⟨fun hb hl => ?_, fun hb hl => ?_, fun hb => ?_⟩
  · have ho : (s.rung 0x61 p m r).doFlashWrite msg.payload =
        ({ s.rung 0x61 p m r with flash := flashed s.flash (msg.payload.getD 1 0 == 1) x data }, doneR) :=
      (if_neg hb).trans (if_neg (not_lt.mpr hl))
    obtain ⟨t, he, ha, hf⟩ := device_does (c := .flashWrite p m r) rfl k hg (by decide) (hO _ ho) (show (0 : Byte) ≠ 0x10 by decide)
    exact ⟨t, he, ha, by rw [hf], by rw [hf]; rfl⟩
  · have ho : (s.rung 0x61 p m r).doFlashWrite msg.payload = (s.rung 0x61 p m r, refusal stRange) := (if_neg hb).trans (if_pos hl)
    exact device_stays rfl k hg (by decide) (hO _ ho) (by decide)
  · have ho : (s.rung 0x61 p m r).doFlashWrite msg.payload = (s.rung 0x61 p m r, refused 0x000D) := if_pos hb
    have he := exec_device (c := .flashWrite p m r) rfl k hg (by decide) (hO _ ho)
    obtain ⟨ha, -, hf⟩ := finish_refused (u := s.rung 0x61 p m r) (msg := msg) (tg := .device) (res := refused 0x000D) (fun q => nofun) rfl
    exact ⟨_, he, ha, hf⟩
end

/-- Settles O57: DETACH and ATTACH in each state of a lane, FLASH_WRITE cell by cell. -/
theorem laneAndFlashCommands : Obligations.LaneAndFlashCommands := by
  intro p m r msg s hg
  refine ⟨fun n ht k => detach_does k hg ht, fun n ht k => attach_spec k hg ht, fun ht k hw => ?_⟩
  intro slot off data x booted
  obtain ⟨h1, h2, h3⟩ := flashWrite_does k hg
  refine ⟨fun hb hl => ?_, h2, h3⟩
  obtain ⟨t, he, ha, hfl, hf⟩ := h1 hb hl
  refine ⟨t, he, ha, fun i hi hc => ?_, fun a ha => ?_, hf⟩
  · rw [hfl]
    exact readCell_flashed_inside s.flash _ x data hw i hi (hc.imp_left beq_iff_eq.mpr)
  · rw [hfl, readCell_flashed_outside s.flash _ x data a ha]
    simp only [beq_iff_eq]

end Sys2Proof.Machine
end

section
/-! #### MOVE, JOG and HOME to a quay (R300, R590, R593, R597, R620, R654) -/

namespace Sys2Proof.Machine

section
variable {s : State} {q : QuayNo} {bs : List Byte} {op : AcceptedOp}

theorem AxisCore.busyWith_iff (c : AxisCore) (op : Byte) :
    c.busyWith op = true ↔ c.inMotion = true ∧ ∃ o, c.motionOp = some o ∧ o.opcode = op := by
  unfold AxisCore.busyWith
  rw [Bool.and_eq_true]
  refine and_congr_right fun _ => ?_
  cases c.motionOp with
  | none => simp
  | some o => simp

/-- The axis with the motion `m`, the ended motion's command kept where there is one. -/
def AxisCore.taking (c : AxisCore) (m : Motion) (op : Option AcceptedOp) (ended : Option AcceptedOp) : AxisCore :=
  { c with motion := some m, motionOp := op, mode := .position, endedOp := if ended.isSome then ended else c.endedOp }

theorem putMotion_eq (s : State) (q : QuayNo) (m : Motion) (op : Option AcceptedOp) : ∃ (u : State) (ended : Option AcceptedOp), u.core q = s.core q ∧ s.putMotion q m op =
    if s.quay[q].core.st = .hold then (u.modQuay q (fun x => { x with core := x.core.taking m op ended })).enter q .running
    else u.modCore q (fun c => c.taking m op ended) := by
  have h (b : Bool) (n : Nat) : (if b = true then s.eventOpt s.quay[q].core.endedOp stRefused 0 n else s).core q = s.core q := by
    split
    · exact State.core_of_quay (State.eventOpt_quay s _ _ _ _) q
    · rfl
  exact ⟨_, _, h _ _, rfl⟩

/-- A motion that is given to a quay in HOLD or RUNNING runs in position mode. -/
theorem putMotion_core (s : State) (q : QuayNo) (m : Motion) (op : Option AcceptedOp)
    (h : s.quay[q].core.st = .hold ∨ s.quay[q].core.st = .running) : (s.putMotion q m op).quay[q].core.st = .running ∧
    (s.putMotion q m op).quay[q].core.mode = .position ∧ (s.putMotion q m op).quay[q].core.motionOp = op ∧
    (s.putMotion q m op).quay[q].core.motion = some m := by
  obtain ⟨u, ended, hu, e⟩ := putMotion_eq s q m op
  rw [e]
  split
  · have hc := State.enter_core (u.modQuay q (fun x => { x with core := x.core.taking m op ended })) q .running .none
    have hm : (u.modQuay q (fun x => { x with core := x.core.taking m op ended })).core q = u.quay[q].core.taking m op ended :=
      congrArg Quay.core (State.modQuay_self u q _)
    rw [hm] at hc
    exact ⟨congrArg AxisCore.st hc, congrArg AxisCore.mode hc, congrArg AxisCore.motionOp hc, congrArg AxisCore.motion hc⟩
  · next hn =>
    have hc := State.modCore_core u q q fun c => c.taking m op ended
    rw [if_pos rfl, hu] at hc
    exact ⟨(congrArg AxisCore.st hc).trans (h.resolve_left hn), congrArg AxisCore.mode hc, congrArg AxisCore.motionOp hc, congrArg AxisCore.motion hc⟩

/-! ##### When a motion is taken -/

section
variable {k : Byte} {a : Bool} {c : AxisCore} (hc : s.quay[q].core = c)
include hc

theorem judgeMove_busy (h : c.busyWith k = true) : s.judgeMove q k a = some (refusal stBusy) := by
  subst hc
  exact if_pos h

section
variable (h : ¬ c.busyWith k = true)
include h

theorem judgeMove_elsewhere (h1 : c.st ≠ .running) (h2 : c.st ≠ .hold) : s.judgeMove q k a = some (refused 0) := by
  subst hc
  exact (if_neg h).trans (if_pos ⟨h1, h2⟩)

theorem judgeMove_mode (h1 : c.st = .running) (h2 : c.mode ≠ .position) : s.judgeMove q k a = some (refused 0x0008) := by
  subst hc
  exact (if_neg h).trans ((if_neg fun e => e.1 h1).trans (if_pos ⟨h1, h2⟩))

theorem judgeMove_moving (h1 : c.st = .running) (h2 : c.mode = .position) (h3 : c.inMotion = true) : s.judgeMove q k a = some (refused 0x0002) := by
  subst hc
  exact (if_neg h).trans ((if_neg fun e => e.1 h1).trans ((if_neg fun e => e.2 h2).trans (if_pos ⟨h1, h3⟩)))

/-- Where the axis is free for a motion, what is left is whether it is homed. -/
theorem judgeMove_free (hf : c.st = .hold ∨ (c.st = .running ∧ c.mode = .position ∧ c.inMotion = false)) :
    s.judgeMove q k a = if (a && quayRequireHomed s q == 1 && !c.homed) = true then some (refused 0x000B) else none := by
  subst hc
  refine (if_neg h).trans ((if_neg fun e => ?_).trans ((if_neg fun e => ?_).trans (if_neg fun e => ?_))) <;> rcases hf with hf | ⟨h1, h2, h3⟩
  · exact e.2 hf
  · exact e.1 h1
  · exact absurd (hf.symm.trans e.1) (by decide)
  · exact e.2 h2
  · exact absurd (hf.symm.trans e.1) (by decide)
  · exact absurd (h3.symm.trans e.2) (by decide)
end

/-- A motion that is taken finds the axis in HOLD or RUNNING. -/
theorem judgeMove_none (h : s.judgeMove q k a = none) : c.st = .hold ∨ c.st = .running := by
  subst hc
  unfold State.judgeMove at h
  simp only at h
  split_ifs at h with _ h2
  by_contra hn
  exact h2 ⟨fun e => hn (.inr e), fun e => hn (.inl e)⟩
end

/-- An absolute move needs a homed axis where the configuration asks for it. -/
theorem homed_iff {rel : Bool} {h : Bool} {n : Nat} : ((!rel) && n == 1 && !h) = false ↔ rel = true ∨ n ≠ 1 ∨ h = true := by
  cases rel <;> cases h <;> simp

theorem doMove_judged {res : Result} (h : s.judgeMove q 0x26 (!(bs.getD 8 0 == 1)) = some res) : s.doMove q bs op = (s, res) := by
  unfold State.doMove
  simp only [h]

theorem doMove_far (h : s.judgeMove q 0x26 (!(bs.getD 8 0 == 1)) = none)
    (hg : inS64 (sfield bs 0 8 + if (bs.getD 8 0 == 1) = true then s.profilePos q else 0) = false) : s.doMove q bs op = (s, refusal stRange) := by
  have e : (if (bs.getD 8 0 == 1) = true then s.profilePos q + sfield bs 0 8 else sfield bs 0 8) =
      sfield bs 0 8 + if (bs.getD 8 0 == 1) = true then s.profilePos q else 0 := by split <;> omega
  unfold State.doMove
  simp only [h]
  refine if_pos ?_
  rw [e, hg]
  rfl

/-- The motion of a MOVE. -/
def moveOf (bs : List Byte) (goal : Int) : Motion :=
  { target := goal, rel := if (bs.getD 8 0 == 1) = true then some (sfield bs 0 8) else none, jog := none, group := false, halted := false
    started := false, turn := false }

theorem doMove_taken (h : s.judgeMove q 0x26 (!(bs.getD 8 0 == 1)) = none)
    (hg : inS64 (sfield bs 0 8 + if (bs.getD 8 0 == 1) = true then s.profilePos q else 0) = true) : s.doMove q bs op =
    (s.putMotion q (moveOf bs (sfield bs 0 8 + if (bs.getD 8 0 == 1) = true then s.profilePos q else 0)) (some op), acceptedWith []) := by
  have e : (if (bs.getD 8 0 == 1) = true then s.profilePos q + sfield bs 0 8 else sfield bs 0 8) =
      sfield bs 0 8 + if (bs.getD 8 0 == 1) = true then s.profilePos q else 0 := by split <;> omega
  rw [← e] at hg ⊢
  unfold State.doMove
  simp only [h]
  refine if_neg ?_
  rw [hg]
  exact Bool.false_ne_true

/-! ##### JOG -/

/-- The run of HOME in a quay. -/
def homingOf (s : State) (q : QuayNo) (bs : List Byte) : Homing :=
  { method := (bs.getD 0 0).toNat, homePos := sfield bs 4 8, phase := 0, lastPos := s.position q, travel := 0
    latches := match s.primaryCell q with
      | some k => s.cell[k].latches
      | none => 0 }

theorem homingOf_spec (s : State) (q : QuayNo) (bs : List Byte) : (homingOf s q bs).method = (bs.getD 0 0).toNat ∧
    (homingOf s q bs).homePos = sfield bs 4 8 ∧ (homingOf s q bs).phase = 0 ∧ (homingOf s q bs).travel = 0 := by
  simp only [homingOf, and_self]

theorem doHome_method (h : ¬ s.methodAllowed q (bs.getD 0 0).toNat = true) : s.doHome q bs op = (s, unsupported) := by
  refine if_pos ?_
  rw [Bool.eq_false_of_not_eq_true h]
  rfl

/-- The motion of a JOG at the speed `w`. -/
def jogOf (w : Rat) : Motion := { target := 0, rel := none, jog := some w, group := false, halted := false, started := false, turn := false }

theorem AxisCore.inJog_iff (c : AxisCore) : c.inJog = true ↔ c.inMotion = true ∧ ∃ x, c.motion = some x ∧ x.jog.isSome = true := by
  unfold AxisCore.inJog
  rw [Bool.and_eq_true]
  refine and_congr_right fun _ => ?_
  cases c.motion with
  | none => simp
  | some x => simp

section
variable {c : AxisCore} (hc : s.quay[q].core = c)
include hc

theorem doJog_hold (h : c.st = .hold) : s.doJog q bs = (s.putMotion q (jogOf (q14 (BitVec.ofNat 16 (field bs 0 2)))) none, doneR) := by
  subst hc
  unfold State.doJog
  simp only [h]
  rfl

theorem doJog_elsewhere (h1 : c.st ≠ .running) (h2 : c.st ≠ .hold) : s.doJog q bs = (s, refused 0) := by
  unfold State.doJog
  rw [hc]
  cases h : c.st <;> simp_all

section
variable (h : c.st = .running)
include h

theorem doJog_running : s.doJog q bs =
    if c.mode ≠ .position then (s, refused 0x0008)
    else if c.inJog then
      (s.modCore q (fun x => { x with motion := x.motion.map (fun m => { m with jog := some (q14 (BitVec.ofNat 16 (field bs 0 2))) }) }), doneR)
    else if c.inMotion then (s, refused 0x0002)
    else (s.putMotion q (jogOf (q14 (BitVec.ofNat 16 (field bs 0 2)))) none, doneR) := by
  subst hc
  unfold State.doJog
  simp only [h]
  rfl

theorem doJog_mode (h1 : c.mode ≠ .position) : s.doJog q bs = (s, refused 0x0008) := by
  rw [doJog_running hc h, if_pos h1]

theorem doJog_moving (h1 : c.mode = .position) (h2 : c.inMotion = true) (h3 : c.inJog = false) : s.doJog q bs = (s, refused 0x0002) := by
  rw [doJog_running hc h, if_neg (not_not_intro h1), h3, h2]
  rfl

theorem doJog_starts (h1 : c.mode = .position) (h2 : c.inMotion = false) :
    s.doJog q bs = (s.putMotion q (jogOf (q14 (BitVec.ofNat 16 (field bs 0 2)))) none, doneR) := by
  have h3 : c.inJog = false := by rw [AxisCore.inJog, h2, Bool.false_and]
  rw [doJog_running hc h, if_neg (not_not_intro h1), h3, h2]
  rfl

theorem doJog_jogging (h1 : c.mode = .position) (h2 : c.inJog = true) : s.doJog q bs =
    (s.modCore q (fun x => { x with motion := x.motion.map (fun m => { m with jog := some (q14 (BitVec.ofNat 16 (field bs 0 2))) }) }), doneR) := by
  rw [doJog_running hc h, if_neg (not_not_intro h1), if_pos h2]
end

/-- A JOG that is taken is done, and the quay jogs at the speed given. -/
theorem doJog_taken (h : c.st = .hold ∨ (c.st = .running ∧ c.mode = .position ∧ (c.inMotion = false ∨ c.inJog = true))) : (s.doJog q bs).2 = doneR ∧
    (s.doJog q bs).1.quay[q].core.st = .running ∧ (s.doJog q bs).1.quay[q].core.mode = .position ∧
    ∃ x, (s.doJog q bs).1.quay[q].core.motion = some x ∧ x.jog = some (q14 (BitVec.ofNat 16 (field bs 0 2))) := by
  have put (hr : c.st = .hold ∨ c.st = .running) (e : s.doJog q bs = (s.putMotion q (jogOf (q14 (BitVec.ofNat 16 (field bs 0 2)))) none, doneR)) :
      (s.doJog q bs).2 = doneR ∧ (s.doJog q bs).1.quay[q].core.st = .running ∧ (s.doJog q bs).1.quay[q].core.mode = .position ∧
      ∃ x, (s.doJog q bs).1.quay[q].core.motion = some x ∧ x.jog = some (q14 (BitVec.ofNat 16 (field bs 0 2))) := by
    obtain ⟨h1, h2, -, h4⟩ := putMotion_core s q (jogOf (q14 (BitVec.ofNat 16 (field bs 0 2)))) none (by rw [hc]; exact hr)
    rw [e]
    exact ⟨rfl, h1, h2, _, h4, rfl⟩
  rcases h with h | ⟨h, h1, h2 | h2⟩
  · exact put (.inl h) (doJog_hold hc h)
  · exact put (.inr h) (doJog_starts hc h h1 h2)
  · obtain ⟨-, x, hx, -⟩ := c.inJog_iff.mp h2
    have hm := State.modCore_core s q q fun x => { x with motion := x.motion.map (fun m => { m with jog := some (q14 (BitVec.ofNat 16 (field bs 0 2))) }) }
    rw [if_pos rfl, show s.core q = c from hc] at hm
    rw [doJog_jogging hc h h1 h2]
    exact ⟨rfl, (congrArg AxisCore.st hm).trans h, (congrArg AxisCore.mode hm).trans h1, { x with jog := some (q14 (BitVec.ofNat 16 (field bs 0 2))) },
      (congrArg AxisCore.motion hm).trans (by rw [hx]; rfl), rfl⟩

/-! ##### HOME -/

section
variable (h : s.methodAllowed q (bs.getD 0 0).toNat = true)
include h

theorem doHome_busy (h1 : c.st = .homing) (h2 : c.homeOp ≠ none) : s.doHome q bs op = (s, refusal stBusy) := by
  subst hc
  unfold State.doHome
  dsimp only
  rw [h, Option.isSome_iff_ne_none.mpr h2, h1]
  rfl

theorem doHome_same (h1 : c.st = .homing) (h2 : c.homeOp = none) : s.doHome q bs op = (s, doneR) := by
  subst hc
  unfold State.doHome
  dsimp only
  rw [h, h2, h1]
  rfl

theorem doHome_elsewhere (h1 : c.st ≠ .armed) (h2 : c.st ≠ .homing) : s.doHome q bs op = (s, refused 0) := by
  unfold State.doHome
  dsimp only
  rw [h, hc]
  cases h : c.st <;> simp_all

theorem doHome_disabled (h1 : c.st = .armed) (h2 : quayHomingEnable s q ≠ 1) : s.doHome q bs op = (s, refused 0x0003) := by
  subst hc
  unfold State.doHome
  dsimp only
  rw [h, h1]
  simp [h2]

/-- A HOME that is taken enters HOMING. -/
theorem doHome_taken (h1 : c.st = .armed) (h2 : quayHomingEnable s q = 1) : (s.doHome q bs op).2 = acceptedWith [] ∧
    (s.doHome q bs op).1.quay[q].core.st = .homing ∧ (s.doHome q bs op).1.quay[q].core.homeOp = some op ∧
    (s.doHome q bs op).1.quay[q].core.homing = some (homingOf s q bs) := by
  subst hc
  have e : s.doHome q bs op = (((s.eventOpt s.quay[q].core.homeOp stRefused 0 (s.positionResult q)).modQuay q
      (fun x => { x with core := { x.core with homing := some (homingOf s q bs), homeOp := some op } })).enter q .homing, acceptedWith []) := by
    unfold State.doHome
    dsimp only
    rw [h, h1]
    refine (if_neg (by decide)).trans ((if_neg fun e => ?_).trans (if_neg (not_not_intro h2)))
    rw [Bool.and_eq_true] at e
    exact absurd e.2 (by decide)
  rw [e]
  have hcore := State.enter_core ((s.eventOpt s.quay[q].core.homeOp stRefused 0 (s.positionResult q)).modQuay q
      (fun x => { x with core := { x.core with homing := some (homingOf s q bs), homeOp := some op } })) q .homing .none
  have hm : ((s.eventOpt s.quay[q].core.homeOp stRefused 0 (s.positionResult q)).modQuay q
      (fun x => { x with core := { x.core with homing := some (homingOf s q bs), homeOp := some op } })).core q = _ :=
    congrArg Quay.core (State.modQuay_self _ q _)
  rw [hm] at hcore
  exact ⟨rfl, congrArg AxisCore.st hcore, congrArg AxisCore.homeOp hcore, congrArg AxisCore.homing hcore⟩
end
end
end

/-! ##### The commands through a port -/

/-- A command is answered, and quays, groups and the configuration stay. -/
def AxisStays (s : State) (msg : Msg) (c : Instr) (v : State) (res : Result) : Prop := ∃ t, exec c s = .next t ∧
  Answered t msg res false ∧ t.quay = v.quay ∧ t.groups = v.groups ∧ t.base = s.base

section
variable {p : Side} {m : MbxNo} {r : Req} {s v : State} {msg : Msg} {q : QuayNo}

theorem axis_stays {c : Instr} {op : Byte} {res : Result} (hv : v = (s.rung op p m r).flagsFirst q) (hc : hostRequest c = some (op, p, m, r))
    (k : Passes s op p m r msg) (hg : s.hm.grant = some p) (ht : targetOf msg.target = some (.quay q)) (ho : op.toNat ≤ 0x2D)
    (hO : v.quayCommand q msg (msg.op false) = (v, res)) : AxisStays s msg c v res := by
  obtain ⟨t, he, ha, -, hb, hq, hgr⟩ := axis_does (P := fun t => t.quay = v.quay ∧ t.groups = v.groups) hv hc k hg ht ho hO rfl rfl
    fun t hq _ hgr _ => ⟨hq, hgr⟩
  exact ⟨t, he, ha, hq, hgr, hb⟩

/-- What MOVE does in each state. -/
theorem axis_move {goal : Int} (hv : v = (s.rung 0x26 p m r).flagsFirst q) (k : Passes s 0x26 p m r msg) (hg : s.hm.grant = some p)
    (ht : targetOf msg.target = some (.quay q)) {c : AxisCore} (hc : v.quay[q].core = c) {rel : Bool} (hrel : (msg.payload.getD 8 0 == 1) = rel)
    (hgoal : sfield msg.payload 0 8 + (if rel = true then v.profilePos q else 0) = goal)
    {free busy homed : Prop} (hfree : free ↔ c.st = .hold ∨ (c.st = .running ∧ c.mode = .position ∧ c.inMotion = false))
    (hbusy : busy ↔ c.inMotion = true ∧ ∃ o, c.motionOp = some o ∧ o.opcode = 0x26)
    (hhomed : homed ↔ rel = true ∨ quayRequireHomed v q ≠ 1 ∨ c.homed = true) :
    (free → ¬ busy → homed → inS64 goal = true → ∃ t, exec (.move p m r) s = .next t ∧ Answered t msg (acceptedWith []) false ∧
      t.quay[q].core.st = .running ∧ t.quay[q].core.mode = .position ∧ t.quay[q].core.motionOp = some (msg.op false) ∧
      t.quay[q].core.motion = some (moveOf msg.payload goal) ∧ (∀ k : QuayNo, k ≠ q → t.quay[k] = v.quay[k]) ∧ t.base = s.base) ∧
    (free → ¬ busy → homed → inS64 goal = false → AxisStays s msg (.move p m r) v (refusal 0x11)) ∧
    (free → ¬ busy → ¬ homed → AxisStays s msg (.move p m r) v (refusedWith 0x000B)) ∧
    (busy → AxisStays s msg (.move p m r) v (refusal 0x15)) ∧
    (¬ busy → c.st ≠ .running → c.st ≠ .hold → AxisStays s msg (.move p m r) v (refusedWith 0)) ∧
    (¬ busy → c.st = .running → c.mode ≠ .position → AxisStays s msg (.move p m r) v (refusedWith 0x0008)) ∧
    (¬ busy → c.st = .running → c.mode = .position → c.inMotion = true → AxisStays s msg (.move p m r) v (refusedWith 0x0002)) := by
  subst hrel hgoal
  rw [← AxisCore.busyWith_iff] at hbusy
  rw [← homed_iff] at hhomed
  have hq (o : State × Result) (h : v.doMove q msg.payload (msg.op false) = o) : v.quayCommand q msg (msg.op false) = o :=
    (quayCommand_move k.op v q _).trans h
  have still {res : Result} (h : v.doMove q msg.payload (msg.op false) = (v, res)) : AxisStays s msg (.move p m r) v res :=
    axis_stays hv rfl k hg ht (by decide) (hq _ h)
  have refuse {res : Result} (h : v.judgeMove q 0x26 (!(msg.payload.getD 8 0 == 1)) = some res) : AxisStays s msg (.move p m r) v res :=
    still (doMove_judged h)
  have judge (hf : free) (hb : ¬ busy) := judgeMove_free (a := !(msg.payload.getD 8 0 == 1)) hc (fun h => hb (hbusy.mpr h)) (hfree.mp hf)
  have taken (hf : free) (hb : ¬ busy) (hh : homed) : v.judgeMove q 0x26 (!(msg.payload.getD 8 0 == 1)) = none := by
    rw [judge hf hb, hhomed.mp hh]
    rfl
  refine ⟨fun hf hb hh hr => ?_, fun hf hb hh hr => still (doMove_far (taken hf hb hh) hr),
    fun hf hb hh => refuse ((judge hf hb).trans (if_pos (Bool.eq_true_of_not_eq_false fun e => hh (hhomed.mpr e)))),
    fun hb => refuse (judgeMove_busy hc (hbusy.mp hb)),
    fun hb h1 h2 => refuse (judgeMove_elsewhere hc (fun h => hb (hbusy.mpr h)) h1 h2),
    fun hb h1 h2 => refuse (judgeMove_mode hc (fun h => hb (hbusy.mpr h)) h1 h2),
    fun hb h1 h2 h3 => refuse (judgeMove_moving hc (fun h => hb (hbusy.mpr h)) h1 h2 h3)⟩
  have hst := judgeMove_none hc (taken hf hb hh)
  rw [← hc] at hst
  obtain ⟨h1, h2, h3, h4⟩ := putMotion_core v q (moveOf msg.payload _) (some (msg.op false)) hst
  have ho := doMove_taken (op := msg.op false) (taken hf hb hh) hr
  obtain ⟨t, he, ha, hk, hbase, hp⟩ := axis_does (c := .move p m r)
    (P := fun t => t.quay[q].core.st = .running ∧ t.quay[q].core.mode = .position ∧ t.quay[q].core.motionOp = some (msg.op false) ∧
      t.quay[q].core.motion = some (moveOf msg.payload _)) hv rfl k hg ht (by decide) (hq _ ho)
    (v.putMotion_blank q _ _ (by simp [axisParts])) (State.putMotion_base _ _ _ _) fun t hqt _ _ _ => by
      rw [hqt]
      exact ⟨h1, h2, h3, h4⟩
  obtain ⟨p1, p2, p3, p4⟩ := hp
  exact ⟨t, he, ha, p1, p2, p3, p4, hk, hbase⟩

/-- What JOG does in each state. -/
theorem axis_jog (hv : v = (s.rung 0x28 p m r).flagsFirst q) (k : Passes s 0x28 p m r msg) (hg : s.hm.grant = some p)
    (ht : targetOf msg.target = some (.quay q)) {c : AxisCore} (hc : v.quay[q].core = c) {w : Rat}
    (hw : q14 (BitVec.ofNat 16 (field msg.payload 0 2)) = w) :
    (c.st = .hold ∨ (c.st = .running ∧ c.mode = .position ∧ (c.inMotion = false ∨ c.inJog = true)) → ∃ t x, exec (.jog p m r) s = .next t ∧
      Answered t msg doneR false ∧ t.quay[q].core.st = .running ∧ t.quay[q].core.mode = .position ∧ t.quay[q].core.motion = some x ∧
      x.jog = some w ∧ (∀ k : QuayNo, k ≠ q → t.quay[k] = v.quay[k]) ∧ t.base = s.base) ∧
    (c.st ≠ .running → c.st ≠ .hold → AxisStays s msg (.jog p m r) v (refusedWith 0)) ∧
    (c.st = .running → c.mode ≠ .position → AxisStays s msg (.jog p m r) v (refusedWith 0x0008)) ∧
    (c.st = .running → c.mode = .position → c.inMotion = true → c.inJog = false → AxisStays s msg (.jog p m r) v (refusedWith 0x0002)) := by
  subst hw
  have hq (o : State × Result) (h : v.doJog q msg.payload = o) : v.quayCommand q msg (msg.op false) = o := (quayCommand_jog k.op v q _).trans h
  have still {res : Result} (h : v.doJog q msg.payload = (v, res)) : AxisStays s msg (.jog p m r) v res :=
    axis_stays hv rfl k hg ht (by decide) (hq _ h)
  refine ⟨fun h => ?_, fun h1 h2 => still (doJog_elsewhere hc h1 h2), fun h1 h2 => still (doJog_mode hc h1 h2),
    fun h1 h2 h3 h4 => still (doJog_moving hc h1 h2 h3 h4)⟩
  obtain ⟨hd, h1, h2, x, h3, h4⟩ := doJog_taken (bs := msg.payload) hc h
  obtain ⟨t, he, ha, hk, hbase, p1, p2, p3⟩ := axis_does (c := .jog p m r)
    (P := fun t => t.quay[q].core.st = .running ∧ t.quay[q].core.mode = .position ∧ t.quay[q].core.motion = some x) hv rfl k hg ht (by decide) (hq _ rfl)
    (v.doJog_blank q _ (by simp [axisParts])) (State.doJog_base _ _ _) fun t hqt _ _ _ => by
      rw [hqt]
      exact ⟨h1, h2, h3⟩
  rw [hd] at ha
  exact ⟨t, x, he, ha, p1, p2, p3, h4, hk, hbase⟩

/-- What HOME does in each state. -/
theorem axis_home (hv : v = (s.rung 0x29 p m r).flagsFirst q) (k : Passes s 0x29 p m r msg) (hg : s.hm.grant = some p)
    (ht : targetOf msg.target = some (.quay q)) {c : AxisCore} (hc : v.quay[q].core = c) {has : Prop}
    (hhas : has ↔ v.methodAllowed q (msg.payload.getD 0 0).toNat = true) :
    (c.st = .armed → quayHomingEnable v q = 1 → has →
      ∃ t x, exec (.home p m r) s = .next t ∧ Answered t msg (acceptedWith []) false ∧ t.quay[q].core.st = .homing ∧
      t.quay[q].core.homeOp = some (msg.op false) ∧ t.quay[q].core.homing = some x ∧ x.method = (msg.payload.getD 0 0).toNat ∧
      x.homePos = sfield msg.payload 4 8 ∧ x.phase = 0 ∧ x.travel = 0 ∧ (∀ k : QuayNo, k ≠ q → t.quay[k] = v.quay[k]) ∧ t.base = s.base) ∧
    (¬ has → AxisStays s msg (.home p m r) v { status := 0x11, advice := 0x0007, data := [] }) ∧
    (has → c.st = .homing → c.homeOp ≠ none → AxisStays s msg (.home p m r) v (refusal 0x15)) ∧
    (has → c.st = .homing → c.homeOp = none → AxisStays s msg (.home p m r) v (refusal 0)) ∧
    (has → c.st = .armed → quayHomingEnable v q ≠ 1 → AxisStays s msg (.home p m r) v (refusedWith 0x0003)) ∧
    (has → c.st ≠ .armed → c.st ≠ .homing → AxisStays s msg (.home p m r) v (refusedWith 0)) := by
  have hq (o : State × Result) (h : v.doHome q msg.payload (msg.op false) = o) : v.quayCommand q msg (msg.op false) = o :=
    (quayCommand_home k.op v q _).trans h
  have still {res : Result} (h : v.doHome q msg.payload (msg.op false) = (v, res)) : AxisStays s msg (.home p m r) v res :=
    axis_stays hv rfl k hg ht (by decide) (hq _ h)
  refine ⟨fun h1 h2 h => ?_, fun h => still (doHome_method fun e => h (hhas.mpr e)), fun h h1 h2 => still (doHome_busy hc (hhas.mp h) h1 h2),
    fun h h1 h2 => still (doHome_same hc (hhas.mp h) h1 h2), fun h h1 h2 => still (doHome_disabled hc (hhas.mp h) h1 h2),
    fun h h1 h2 => still (doHome_elsewhere hc (hhas.mp h) h1 h2)⟩
  obtain ⟨hd, e1, e2, e3⟩ := doHome_taken (op := msg.op false) hc (hhas.mp h) h1 h2
  have hb : (v.doHome q msg.payload (msg.op false)).1.blank (axisParts q) = v.blank (axisParts q) := v.doHome_blank q _ _ (by simp [axisParts])
  have hbs := State.doHome_base v q msg.payload (msg.op false)
  have ho := hq _ rfl
  generalize v.doHome q msg.payload (msg.op false) = o at hd e1 e2 e3 hb hbs ho
  obtain ⟨t, he, ha, hk, hbase, p1, p2, p3⟩ := axis_does (c := .home p m r)
    (P := fun t => t.quay[q].core.st = .homing ∧ t.quay[q].core.homeOp = some (msg.op false) ∧
      t.quay[q].core.homing = some (homingOf v q msg.payload)) hv rfl k hg ht (by decide) ho hb hbs fun t hqt _ _ _ => by
      rw [hqt]
      exact ⟨e1, e2, e3⟩
  rw [hd] at ha
  obtain ⟨x1, x2, x3, x4⟩ := homingOf_spec v q msg.payload
  exact ⟨t, homingOf v q msg.payload, he, ha, p1, p2, p3, x1, x2, x3, x4, hk, hbase⟩
end

end Sys2Proof.Machine
end

section
/-! #### MOVE_GROUP to the device (R599, R655 to R657) -/

namespace Sys2Proof.Machine

/-! ##### When a group motion is taken -/

/-- A group is refused as its first refused axis is. -/
theorem judgeGroup_refused {s : State} {rel : Bool} {e : Option (QuayNo × Int)} {post : List (Option (QuayNo × Int))} {res : Result} :
    ∀ before pre : List (Option (QuayNo × Int)), s.judgeAxis rel (before ++ pre) e = some res →
    (∀ a x b, pre = a ++ x :: b → s.judgeAxis rel (before ++ a) x = none) → s.judgeGroup rel before (pre ++ e :: post) = some res
  | before, [], he, _ => by
    rw [List.append_nil] at he
    rw [List.nil_append, State.judgeGroup, he]
  | before, x :: pre, he, hp => by
    have hx := hp [] x pre rfl
    rw [List.append_nil] at hx
    rw [List.cons_append, State.judgeGroup, hx]
    refine judgeGroup_refused (before ++ [x]) pre (by rwa [List.append_assoc]) fun a y b h => ?_
    rw [List.append_assoc]
    exact hp (x :: a) y b (by rw [h]; rfl)

/-- A group whose axes are taken one by one is taken. -/
theorem judgeGroup_taken {s : State} {rel : Bool} : ∀ before axes : List (Option (QuayNo × Int)),
    (∀ a x b, axes = a ++ x :: b → s.judgeAxis rel (before ++ a) x = none) → s.judgeGroup rel before axes = none
  | before, [], _ => rfl
  | before, x :: axes, hp => by
    have hx := hp [] x axes rfl
    rw [List.append_nil] at hx
    rw [State.judgeGroup, hx]
    refine judgeGroup_taken (before ++ [x]) axes fun a y b h => ?_
    rw [List.append_assoc]
    exact hp (x :: a) y b (by rw [h]; rfl)

/-- Whether a quay has a kernel is a matter of the parameters. -/
theorem hasKernel_of_params {s t : State} (h : t.params = s.params) (q : QuayNo) : t.hasKernel q = s.hasKernel q := by
  simp only [State.hasKernel, State.machine, pNat, State.param, h]

/-- Applying class-0 flags first leaves the configuration. -/
theorem flagged_base {s : State} (qs : List QuayNo) : (forAll qs s State.flagsFirst).base = s.base :=
  forAll_keeps (P := fun t : State => t.base = s.base) rfl fun t ht q _ => (State.flagsFirst_base t q).trans ht

/-- The axes of a group that a MOVE_GROUP names: each once, each fit for the motion. -/
structure GroupFits (s : State) (rel : Bool) (xs : List (QuayNo × Int)) : Prop where
  nodup : (xs.map (·.1)).Nodup
  fits : ∀ e ∈ xs, s.hasKernel e.1 = true ∧ s.judgeMove e.1 0x27 (!rel) = none ∧ inS64 (s.groupTarget rel e) = true

theorem filterMap_id_some {α : Type} (xs : List α) : (xs.map some).filterMap id = xs := by
  rw [List.filterMap_map]
  exact List.filterMap_some

theorem GroupFits.judged {s : State} {rel : Bool} {xs : List (QuayNo × Int)} (h : GroupFits s rel xs) : s.judgeGroup rel [] (xs.map some) = none := by
  refine judgeGroup_taken [] _ fun a x b hab => ?_
  obtain ⟨pre, ys, rfl, rfl, hy⟩ := List.map_eq_append_iff.mp hab
  obtain ⟨e, post, rfl, rfl, rfl⟩ := List.map_eq_cons_iff.mp hy
  obtain ⟨hk, hm, ht⟩ := h.fits e (List.mem_append_right _ List.mem_cons_self)
  have hn : pre.any (fun x => x.1 == e.1) = false := by
    rw [List.any_eq_false]
    intro x hx hxe
    have hnd := h.nodup
    rw [List.map_append, List.nodup_append] at hnd
    exact hnd.2.2 x.1 (List.mem_map_of_mem hx) e.1 (by simp) (beq_iff_eq.mp hxe)
  rw [List.nil_append, State.judgeAxis, filterMap_id_some, hk, hn, hm, ht]
  rfl

/-! ##### What a group motion does -/

/-- Entering RUNNING leaves group motions. -/
theorem enterRunning_blank {ps : List Part} (s : State) (q : QuayNo) (h : Covers ps [.quayAt q, .port, .leg, .lane, .ih]) :
    (s.enter q .running).blank ps = s.blank ps := by
  simp at h
  simp [State.enter, h]

/-- A motion that a quay takes leaves group motions. -/
theorem putMotion_groups (s : State) (q : QuayNo) (m : Motion) (op : Option AcceptedOp) : (s.putMotion q m op).groups = s.groups := by
  have h : (s.putMotion q m op).blank [.quayAt q, .port, .leg, .lane, .ih] = s.blank [.quayAt q, .port, .leg, .lane, .ih] := by
    simp [State.putMotion, State.ite_blank, enterRunning_blank]
  exact State.groups_of_blank h (by simp)

/-- The motion of an axis of a group. -/
def groupMotion (target : Int) : Motion := { target := target, rel := none, jog := none, group := true, halted := false, started := false, turn := false }

/-- The quays of a group with their motions. -/
def State.putGroup (s : State) (rel : Bool) (op : AcceptedOp) (xs : List (QuayNo × Int)) : State :=
  forAll xs s (fun t e => t.putMotion e.1 (groupMotion (s.groupTarget rel e)) (some op))

section
variable {s : State} {rel : Bool} {xs : List (QuayNo × Int)} (op : AcceptedOp)

theorem putGroup_groups : (s.putGroup rel op xs).groups = s.groups :=
  forAll_keeps (P := fun t => t.groups = s.groups) rfl fun _ ht _ _ => (putMotion_groups _ _ _ _).trans ht

theorem putMotion_ne {t : State} {q k : QuayNo} {m : Motion} {o : Option AcceptedOp} (h : k ≠ q) : (t.putMotion q m o).quay[k] = t.quay[k] :=
  State.quay_of_blank (ps := [.quayAt q, .port, .groups, .leg, .lane, .ih]) (t.putMotion_blank q m o (by simp)) (by simp [h])

theorem putGroup_ne {k : QuayNo} (hk : k ∉ xs.map (·.1)) : (s.putGroup rel op xs).quay[k] = s.quay[k] :=
  forAll_keeps (P := fun t => t.quay[k] = s.quay[k]) rfl fun _ ht e he =>
    (putMotion_ne fun h => hk (by rw [h]; exact List.mem_map_of_mem he)).trans ht

/-- Each axis of a group runs its motion. -/
theorem putGroup_core (h : GroupFits s rel xs) {e : QuayNo × Int} (he : e ∈ xs) : (s.putGroup rel op xs).quay[e.1].core.st = .running ∧
    (s.putGroup rel op xs).quay[e.1].core.mode = .position ∧ (s.putGroup rel op xs).quay[e.1].core.motionOp = some op ∧
    (s.putGroup rel op xs).quay[e.1].core.motion = some (groupMotion (s.groupTarget rel e)) := by
  obtain ⟨t, -, ht, hx⟩ := forAll_observe (s := s) (P := fun _ => True)
    (f := fun t e => t.putMotion e.1 (groupMotion (s.groupTarget rel e)) (some op)) (List.Nodup.of_map _ h.nodup) he (fun t => t.quay[e.1]) trivial
    (fun _ _ _ _ => trivial) fun t _ b hb hbe => putMotion_ne fun heq => hbe (List.inj_on_of_nodup_map h.nodup hb he heq.symm)
  have hx' : (s.putGroup rel op xs).quay[e.1] = (t.putMotion e.1 (groupMotion (s.groupTarget rel e)) (some op)).quay[e.1] := hx
  have ht' : t.quay[e.1] = s.quay[e.1] := ht
  rw [hx']
  refine putMotion_core t e.1 _ _ ?_
  rw [ht']
  exact judgeMove_none rfl (h.fits e he).2.1
end

/-! ##### The command -/

section
variable {bs : List Byte} {op : AcceptedOp} {v : State} {rel : Bool}

theorem doMoveGroup_refused {res : Result} (hr : (bs.getD 1 0 == 1) = rel) (h : v.judgeGroup rel [] (groupAxes bs) = some res) :
    v.doMoveGroup bs op = (v, res) := by
  subst hr
  unfold State.doMoveGroup
  simp only [h]

/-- The group motion of a MOVE_GROUP. -/
def groupMoveOf (v : State) (rel : Bool) (op : AcceptedOp) (xs : List (QuayNo × Int)) : GroupMove :=
  { op := op, axes := xs.map (fun e => (e.1, v.profilePos e.1, v.groupTarget rel e - v.profilePos e.1)), relative := rel
    t0 := v.now + xs.foldl (fun x e => max x (v.loopPeriod e.1)) 0, points := [], lims := [], ended := none }

/-- The state after a group motion that is taken. -/
def State.grouped (v : State) (rel : Bool) (op : AcceptedOp) (xs : List (QuayNo × Int)) : State :=
  { v.putGroup rel op xs with groups := (v.putGroup rel op xs).groups ++ [groupMoveOf v rel op xs] }

theorem doMoveGroup_taken {xs : List (QuayNo × Int)} (hr : (bs.getD 1 0 == 1) = rel) (hx : groupAxes bs = xs.map some) (h : GroupFits v rel xs) :
    v.doMoveGroup bs op = (v.grouped rel op xs, acceptedWith []) := by
  subst hr
  have hj := h.judged
  unfold State.doMoveGroup
  rw [hx]
  simp only [hj, filterMap_id_some]
  rfl
end

section
variable {p : Side} {m : MbxNo} {r : Req} {s v : State} {msg : Msg} {rel : Bool}

theorem exec_moveGroup {o : State × Result} (k : Passes s 0x27 p m r msg) (hg : s.hm.grant = some p) (ht : targetOf msg.target = some .device)
    (hv : v = forAll ((((groupAxes msg.payload).filterMap id).map (·.1)).filter s.hasKernel) (s.rung 0x27 p m r) State.flagsFirst)
    (hO : v.doMoveGroup msg.payload (msg.op false) = o) :
    exec (.moveGroup p m r) s = .next ((o.1.noteRefusal (some .device) o.2.status).finish msg o.2 false) := by
  have hn : (s.rung 0x27 p m r).namedQuays msg ((s.rung 0x27 p m r).port.get p).staging =
      (((groupAxes msg.payload).filterMap id).map (·.1)).filter s.hasKernel := by
    unfold State.namedQuays
    rw [k.op]
    rfl
  refine exec_performed (o := (o.1.noteRefusal (some .device) o.2.status, o.2)) rfl k hg (by decide) ?_
  rw [perform_device ht, hn, ← hv, deviceCommand_moveGroup k.op, hO]

/-- What MOVE_GROUP does. -/
theorem device_moveGroup (k : Passes s 0x27 p m r msg) (hg : s.hm.grant = some p) (ht : targetOf msg.target = some .device)
    (hv : v = forAll ((((groupAxes msg.payload).filterMap id).map (·.1)).filter s.hasKernel) (s.rung 0x27 p m r) State.flagsFirst)
    (hrel : (msg.payload.getD 1 0 == 1) = rel) :
    (∀ xs : List (QuayNo × Int), groupAxes msg.payload = xs.map some → GroupFits v rel xs →
      ∃ t, exec (.moveGroup p m r) s = .next t ∧ Answered t msg (acceptedWith []) false ∧ t.groups = v.groups ++ [groupMoveOf v rel (msg.op false) xs] ∧
      (∀ k : QuayNo, k ∉ xs.map (·.1) → t.quay[k] = v.quay[k]) ∧
      ∀ e ∈ xs, t.quay[e.1].core.st = .running ∧ t.quay[e.1].core.mode = .position ∧ t.quay[e.1].core.motionOp = some (msg.op false) ∧
        t.quay[e.1].core.motion = some (groupMotion (v.groupTarget rel e))) ∧
    (∀ res, v.judgeGroup rel [] (groupAxes msg.payload) = some res →
      ∃ t, exec (.moveGroup p m r) s = .next t ∧ Answered t msg res false ∧ t.groups = v.groups ∧ t.quay = v.quay) := by
  refine ⟨fun xs hx hf => ?_, fun res hj => ?_⟩
  · have he := exec_moveGroup k hg ht hv (doMoveGroup_taken hrel hx hf)
    rw [noteRefusal_ne (show (acceptedWith []).status ≠ stRefused by decide)] at he
    obtain ⟨hans, hfr⟩ := finish_answered (v.grouped rel (msg.op false) xs) msg (acceptedWith []) false
    generalize hu : v.grouped rel (msg.op false) xs = u at he hans hfr
    have hq : (u.finish msg (acceptedWith []) false).quay = (v.putGroup rel (msg.op false) xs).quay := by
      rw [hfr, ← hu]
      rfl
    refine ⟨_, he, hans, ?_, fun j hj => ?_, fun e hm => ?_⟩
    · rw [hfr, ← hu]
      exact congrArg (· ++ [groupMoveOf v rel (msg.op false) xs]) (putGroup_groups (msg.op false))
    · rw [hq]
      exact putGroup_ne _ hj
    · rw [hq]
      exact putGroup_core _ hf hm
  · have he := exec_moveGroup k hg ht hv (doMoveGroup_refused hrel hj)
    have hfr := finish_note v (some .device) res.status res msg
    exact ⟨_, he, (finish_answered _ msg res false).1, (congrArg State.groups hfr :), (congrArg State.quay hfr :)⟩
end

/-- Settles O54: MOVE, MOVE_GROUP, JOG and HOME through the port of the half in charge. -/
theorem motionCommands : Obligations.MotionCommands := by
  intro p m r msg s hg stays
  refine ⟨fun q ht k => ?_, fun ht k => ?_, fun q ht k => ?_, fun q ht k => ?_⟩
  · exact axis_move rfl k hg ht rfl rfl rfl Iff.rfl Iff.rfl Iff.rfl
  · intro axes v rel
    obtain ⟨h1, h2⟩ := device_moveGroup (v := v) (rel := rel) k hg ht rfl rfl
    have hp : v.params = s.params := congrArg Base.params (show v.base = s.base from flagged_base _)
    refine ⟨fun xs hx hn hf => ?_, fun pre e post res hx he hp => h2 res ?_⟩
    · obtain ⟨t, he, ha, hgr, hk, hxs⟩ := h1 xs hx ⟨hn, fun e he => by
        rw [hasKernel_of_params hp]
        exact hf e he⟩
      refine ⟨t, _, he, ha, hgr, rfl, rfl, rfl, rfl, rfl, rfl, rfl, hk, fun e hm => ?_⟩
      obtain ⟨p1, p2, p3, p4⟩ := hxs e hm
      exact ⟨p1, p2, p3, _, p4, rfl, rfl, rfl, rfl⟩
    · have hx' : groupAxes msg.payload = pre ++ e :: post := hx
      rw [hx']
      exact judgeGroup_refused [] pre he hp
  · exact axis_jog rfl k hg ht rfl rfl
  · exact axis_home rfl k hg ht rfl Iff.rfl

end Sys2Proof.Machine
end

section
/-! #### STOP, QUICKSTOP and ACK_FAULT to the device, ACK_FAULT to a quay (R276, R284, R285, R301, R302, R934 to R936) -/

namespace Sys2Proof.Machine

/-- The quays with a kernel are a matter of the parameters. -/
theorem kernelQuays_of_params {s t : State} (h : t.params = s.params) : t.kernelQuays = s.kernelQuays :=
  List.filter_congr fun q _ => hasKernel_of_params h q

theorem kernelQuays_nodup (s : State) : s.kernelQuays.Nodup := (List.nodup_finRange _).filter _

/-- The device with the flags of each quay applied that has a kernel. -/
def State.allFlagged (s : State) (op : Byte) (p : Side) (m : MbxNo) (r : Req) : State := forAll s.kernelQuays (s.rung op p m r) State.flagsFirst

section
variable {c : Instr} {op : Byte} {p : Side} {m : MbxNo} {r : Req} {s : State} {msg : Msg} {q : QuayNo}

theorem allFlagged_base : (s.allFlagged op p m r).base = s.base := flagged_base _

theorem allFlagged_kernelQuays : (s.allFlagged op p m r).kernelQuays = s.kernelQuays :=
  kernelQuays_of_params (congrArg Base.params (allFlagged_base (s := s) (op := op) (p := p) (m := m) (r := r)))

/-- The flags of a quay are those of this quay alone. -/
theorem flagsFirst_ne {t : State} {j : QuayNo} (h : q ≠ j) : (t.flagsFirst j).quay[q] = t.quay[q] :=
  State.quay_of_blank (ps := [.quayAt j, .port, .groups, .leg, .lane, .ih, .transit]) (t.flagsFirst_blank j (by simp)) (by simp [h])

theorem allFlagged_ne (h : q ∉ s.kernelQuays) : (s.allFlagged op p m r).quay[q] = s.quay[q] :=
  forAll_keeps (P := fun t => t.quay[q] = s.quay[q]) rfl fun _ ht _ hj => (flagsFirst_ne fun e => h (by rw [e]; exact hj)).trans ht

/-- A command to the device that is taken for each quay with a kernel. -/
theorem exec_allQuays {v : State} {o : State × Result} (hv : v = s.allFlagged op p m r) (hc : hostRequest c = some (op, p, m, r)) (k : Passes s op p m r msg) (hg : s.hm.grant = some p)
    (ht : targetOf msg.target = some .device) (hop : op ∈ [(0x23 : Byte), 0x24, 0x2D])
    (hO : ∀ es, v.deviceCommand msg (msg.op false) es = o) (hs : o.2.status ≠ 0x10) :
    exec c s = .next (o.1.finish msg o.2 false) := by
  have hn : (s.rung op p m r).namedQuays msg ((s.rung op p m r).port.get p).staging = s.kernelQuays := by
    simp only [List.mem_cons, List.not_mem_nil, or_false] at hop
    unfold State.namedQuays
    rcases hop with rfl | rfl | rfl <;> rw [k.op] <;> rfl
  have hl : op.toNat ∉ [0x40, 0x41, 0x42, 0x43, 0x44, 0x60] := by
    simp only [List.mem_cons, List.not_mem_nil, or_false] at hop
    rcases hop with rfl | rfl | rfl <;> decide
  have he := exec_performed (o := (o.1.noteRefusal (some .device) o.2.status, o.2)) hc k hg hl (by
    rw [perform_device ht, hn, show forAll s.kernelQuays (s.rung op p m r) State.flagsFirst = v from hv.symm, hO])
  rw [noteRefusal_ne hs] at he
  exact he
end

/-! ##### A stop of every quay -/

/-- What a stop leaves of a quay that was `x`, now `y`. -/
def Stopped (kind : StopKind) (x y : AxisCore) : Prop :=
  (x.st = .armed ∨ x.st = .catching → y.st = .off) ∧
  (x.st = .running ∨ x.st = .hold ∨ x.st = .homing → y.st = .stopping ∧ y.stop = (if x.st = .hold ∧ x.stop = .quick then .quick else kind)) ∧
  (x.st = .stopping → y = (if kind = .quick ∧ x.stop ≠ .quick then { x with stop := .quick, release := false } else x)) ∧
  (x.st = .off ∨ x.st = .faulted ∨ x.st = .safe → y = x)

theorem applyStop_stopped (s : State) (q : QuayNo) (kind : StopKind) : Stopped kind s.quay[q].core (s.applyStop q kind).quay[q].core :=
  ⟨applyStop_ends kind, applyStop_stops kind, applyStop_stopping kind, fun h => by rw [applyStop_idle kind h]⟩

theorem applyStop_ne {t : State} {q j : QuayNo} {kind : StopKind} (h : q ≠ j) : (t.applyStop j kind).quay[q] = t.quay[q] :=
  State.quay_of_blank (ps := [.quayAt j, .port, .groups, .leg, .lane, .ih]) (t.applyStop_blank j kind (by simp)) (by simp [h])

theorem doStopAll_spec (v : State) (kind : StopKind) : (∀ q, q ∉ v.kernelQuays → (v.doStopAll kind).1.quay[q] = v.quay[q]) ∧
    ∀ q ∈ v.kernelQuays, Stopped kind v.quay[q].core (v.doStopAll kind).1.quay[q].core := by
  refine ⟨fun q hq => forAll_keeps (P := fun t => t.quay[q] = v.quay[q]) rfl fun t ht j hj =>
    (applyStop_ne fun e => hq (by rw [e]; exact hj)).trans ht, fun q hq => ?_⟩
  obtain ⟨t, -, ht, hx⟩ := forAll_observe (s := v) (P := fun _ => True) (f := fun t j => t.applyStop j kind) (kernelQuays_nodup v) hq (fun t => t.quay[q])
    trivial (fun _ _ _ _ => trivial) fun t _ j _ hj => applyStop_ne hj.symm
  have hx' : (v.doStopAll kind).1.quay[q] = (t.applyStop q kind).quay[q] := hx
  rw [hx', ← show t.quay[q] = v.quay[q] from ht]
  exact applyStop_stopped t q kind

section
variable {c : Instr} {op : Byte} {p : Side} {m : MbxNo} {r : Req} {s v : State} {msg : Msg} {kind : StopKind}

/-- What a stop of the device does. -/
theorem device_stop (hc : hostRequest c = some (op, p, m, r)) (k : Passes s op p m r msg) (hg : s.hm.grant = some p)
    (ht : targetOf msg.target = some .device) (hop : op ∈ [(0x23 : Byte), 0x24, 0x2D]) (hv : v = s.allFlagged op p m r)
    (hO : ∀ es, v.deviceCommand msg (msg.op false) es = v.doStopAll kind) :
    ∃ t, exec c s = .next t ∧ Answered t msg doneR false ∧ t.base = s.base ∧ (∀ q : QuayNo, q ∉ s.kernelQuays → t.quay[q] = s.quay[q]) ∧
      ∀ q ∈ s.kernelQuays, Stopped kind v.quay[q].core t.quay[q].core := by
  have hkv : v.kernelQuays = s.kernelQuays := by rw [hv, allFlagged_kernelQuays]
  have he := exec_allQuays hv hc k hg ht hop hO (show (0 : Byte) ≠ 0x10 by decide)
  obtain ⟨h1, h2⟩ := doStopAll_spec v kind
  rw [hkv] at h1 h2
  have hf := finish_answered (v.doStopAll kind).1 msg doneR false
  have hq : ((v.doStopAll kind).1.finish msg doneR false).quay = (v.doStopAll kind).1.quay := by
    generalize (v.doStopAll kind).1 = u at hf
    rw [hf.2]
  refine ⟨_, he, hf.1, ?_, fun q hn => ?_, fun q hm => ?_⟩
  · rw [State.finish_base, State.doStopAll_base, hv, allFlagged_base]
  · rw [show (v.doStopAll kind).2 = doneR from rfl, hq, h1 q hn, hv, allFlagged_ne hn]
  · rw [show (v.doStopAll kind).2 = doneR from rfl, hq]
    exact h2 q hm
end

/-! ##### ACK_FAULT to a quay -/

section
variable {s : State} {q : QuayNo}

/-- A quay is FAULTED or SAFE. -/
def State.isOut (s : State) (q : QuayNo) : Bool := s.quay[q].core.st == .faulted || s.quay[q].core.st == .safe

theorem isOut_iff : s.isOut q = true ↔ s.quay[q].core.st = .faulted ∨ s.quay[q].core.st = .safe := by
  rw [State.isOut, Bool.or_eq_true, beq_iff_eq, beq_iff_eq]

/-- The records of a quay acknowledged, its first-fault register emptied. -/
def State.ackRecs (s : State) (q : QuayNo) : State :=
  (s.modFlt (fun f => { f with log := f.log.map (fun r => r.ackQuay q s.now) })).modQuay q (fun x => { x with first := none })

theorem ackOne_out (h : s.isOut q = true) : s.ackOne q = (s.ackRecs q).enter q .off := if_pos (isOut_iff.mp h)
theorem ackOne_in (h : s.isOut q = false) : s.ackOne q = s.ackRecs q := if_neg fun e => by
  rw [isOut_iff.mpr e] at h
  exact Bool.noConfusion h

/-- An acknowledgement of a quay acknowledges its records and leaves the collector otherwise. -/
theorem ackOne_flt (s : State) (q : QuayNo) : (s.ackOne q).flt = { s.flt with log := s.flt.log.map (fun r => r.ackQuay q s.now) } := by
  cases h : s.isOut q
  · rw [ackOne_in h]
    rfl
  · rw [ackOne_out h]
    exact (congrArg State.flt (State.eq_take (ps := [.quayAt q, .port, .groups, .leg, .lane, .ih]) ((s.ackRecs q).enter_blank q .off .none (by simp))) :)

theorem ackOne_quay (h : s.isOut q = true) : (s.ackOne q).quay[q].core.st = .off ∧ (s.ackOne q).quay[q].react = none ∧
    (s.ackOne q).quay[q].openRec = none := by
  obtain ⟨h1, h2, -⟩ := (s.ackRecs q).enter_off (q := q) .none
  rw [ackOne_out h]
  exact ⟨(s.ackRecs q).enter_st q _ _, h2, h1⟩

theorem ackRecs_quay (s : State) (q : QuayNo) : (s.ackRecs q).quay[q] = { s.quay[q] with first := none } := State.modQuay_self _ q _

theorem ackOne_first (s : State) (q : QuayNo) : (s.ackOne q).quay[q].first = none := by
  cases h : s.isOut q
  · rw [ackOne_in h, ackRecs_quay]
  · rw [ackOne_out h]
    refine (State.enter_off_keeps (s := s.ackRecs q) (q := q) (fun x : Quay => x.first) .none ?_ ?_ ?_ q).trans ?_
    · exact fun _ _ _ _ _ => rfl
    · exact fun _ _ _ => rfl
    · exact fun _ => rfl
    · exact congrArg Quay.first (ackRecs_quay s q)

theorem ackOne_ne {j : QuayNo} (h : j ≠ q) : (s.ackOne q).quay[j] = s.quay[j] :=
  State.quay_of_blank (ps := [.flt, .transit, .quayAt q, .port, .groups, .leg, .lane, .ih]) (s.ackOne_blank q (by simp)) (by simp [h])

theorem ackOne_now (s : State) (q : QuayNo) : (s.ackOne q).now = s.now := by
  rw [State.eq_take (ps := [.flt, .transit, .quayAt q, .port, .groups, .leg, .lane, .ih]) (s.ackOne_blank q (by simp))]
  rfl

/-- No quay acknowledged is left out of operation. -/
theorem ackOne_in_operation (s : State) (q : QuayNo) : (s.ackOne q).isOut q = false := by
  cases h : s.isOut q
  · rw [ackOne_in h, State.isOut, ackRecs_quay]
    exact h
  · rw [State.isOut, (ackOne_quay h).1]
    rfl

theorem leftMask_one (s : State) (q : QuayNo) : s.leftMask [q] = bit (s.isOut q) q.val := Nat.zero_add _

theorem ackQuay_free (h : s.ackBlocked q = false) : s.ackQuay q = (s.ackOne q, { status := 0, advice := 0, data := [0, 0] }) := by
  refine (if_neg fun e => ?_).trans ?_
  · rw [h] at e
    exact Bool.false_ne_true e
  · have hb : (s.ackOne q).leftMask [q] = 0 := by rw [leftMask_one, ackOne_in_operation]; rfl
    simp only [hb]
    rfl

theorem ackQuay_blocked (h : s.ackBlocked q = true) : s.ackQuay q = (s, { status := 0x18, advice := 0, data := leBytes 2 (2 ^ q.val) }) := by
  have ho : s.isOut q = true := by
    unfold State.ackBlocked at h
    exact (Bool.and_eq_true _ _ ▸ h).1
  refine (if_pos h).trans ?_
  rw [leftMask_one, ho]
  rfl
end

section
variable {p : Side} {m : MbxNo} {r : Req} {s v : State} {msg : Msg} {q : QuayNo}

/-- What ACK_FAULT to a quay does. -/
theorem axis_ack (hv : v = (s.rung 0x2D p m r).flagsFirst q) (k : Passes s 0x2D p m r msg) (hg : s.hm.grant = some p)
    (ht : targetOf msg.target = some (.quay q)) :
    (v.ackBlocked q = false → ∃ t, exec (.ackFault p m r) s = .next t ∧ Answered t msg { status := 0, advice := 0, data := [0, 0] } false ∧
      (v.isOut q = true → t.quay[q].core.st = .off ∧ t.quay[q].react = none ∧ t.quay[q].openRec = none) ∧
      (v.isOut q = false → t.quay[q] = { v.quay[q] with first := none }) ∧ (∀ k : QuayNo, k ≠ q → t.quay[k] = v.quay[k]) ∧
      t.quay[q].first = none ∧ t.flt.log = v.flt.log.map (fun x => x.ackQuay q v.now)) ∧
    (v.ackBlocked q = true → ∃ t, exec (.ackFault p m r) s = .next t ∧
      Answered t msg { status := 0x18, advice := 0, data := leBytes 2 (2 ^ q.val) } false ∧ t.quay = v.quay ∧ t.flt = v.flt) := by
  have run {o : State × Result} (h : v.ackQuay q = o) (hs : o.2.status ≠ 0x10) :
      ∃ t, exec (.ackFault p m r) s = .next t ∧ Answered t msg o.2 false ∧ t.quay = o.1.quay ∧ t.flt = o.1.flt := by
    have he := exec_axis (c := .ackFault p m r) rfl k hg ht (by decide) (hv ▸ (quayCommand_ackFault k.op v q (msg.op false)).trans h)
    rw [noteRefusal_ne hs] at he
    obtain ⟨hans, hf⟩ := finish_answered o.1 msg o.2 false
    exact ⟨_, he, hans, (congrArg State.quay hf :), (congrArg State.flt hf :)⟩
  refine ⟨fun h => ?_, fun h => run (ackQuay_blocked h) (show (0x18 : Byte) ≠ 0x10 by decide)⟩
  obtain ⟨t, he, hans, hq, hf⟩ := run (ackQuay_free h) (show (0 : Byte) ≠ 0x10 by decide)
  have hf' : t.flt.log = v.flt.log.map (fun x => x.ackQuay q v.now) := congrArg Collector.log (hf.trans (ackOne_flt v q))
  refine ⟨t, he, hans, fun ho => ?_, fun ho => ?_, fun j hj => ?_, ?_, hf'⟩ <;> rw [hq]
  · exact ackOne_quay ho
  · rw [ackOne_in ho, ackRecs_quay]
  · exact ackOne_ne hj
  · exact ackOne_first v q
end

end Sys2Proof.Machine
end

section
/-! #### ACK_FAULT to the device (R284, R302, R928, R934 to R936) -/

namespace Sys2Proof.Machine

/-! ##### Which records an acknowledgement changes -/

/-- A record that only the device acknowledges, or that is acknowledged, is none of a quay's. -/
theorem ackQuay_other {x : Record} (q : QuayNo) (n : Nat) (h : x.deviceOnly = true ∨ x.unacked = false) : x.ackQuay q n = x := by
  refine if_neg fun e => ?_
  simp only [Bool.and_eq_true, Bool.not_eq_true'] at e
  rcases h with h | h
  · exact absurd (h.symm.trans e.1.2) (by decide)
  · exact absurd (h.symm.trans e.1.1) (by decide)

/-- A record of the device's safe state that asks for acknowledgement. -/
def Record.holdsDevice (x : Record) : Bool := x.unacked && x.severity == 4

theorem Record.holdsDevice_only {x : Record} (h : x.severity = 4) : x.deviceOnly = true := by
  simp only [Record.deviceOnly, h, beq_self_eq_true, Bool.true_or]

theorem ackQuay_severity (x : Record) (q : QuayNo) (n : Nat) : (x.ackQuay q n).severity = x.severity := by
  unfold Record.ackQuay
  dsimp only
  split
  · split <;> split <;> rfl
  · rfl

theorem ackQuay_holdsDevice (x : Record) (q : QuayNo) (n : Nat) : (x.ackQuay q n).holdsDevice = x.holdsDevice := by
  by_cases h : x.severity = 4
  · rw [ackQuay_other q n (.inl (Record.holdsDevice_only h))]
  · have e : (x.severity == 4) = false := beq_eq_false_iff_ne.mpr h
    rw [Record.holdsDevice, Record.holdsDevice, ackQuay_severity, e, Bool.and_false, Bool.and_false]

section
variable (v : State)

/-- A record that the device acknowledges now: it alone may, and its cause is gone. -/
def State.clears (x : Record) : Bool := x.unacked && x.deviceOnly && !v.causePresent x

/-- A record after the device's acknowledgement. -/
def State.ackDev (x : Record) : Record := if v.clears x then { x with acked := true, ackedAt := v.now } else x

/-- The device with its own records acknowledged. -/
def State.deviceAcked : State :=
  (v.modFlt (fun f => { f with log := f.log.map v.ackDev })).afterDeviceAck (v.flt.log.any (fun x => v.clears x && x.src == srcSpeedMargin))

/-- The device's safe state that is left once its records are acknowledged. -/
def State.devHeld : Bool := v.flt.devSafe && (v.flt.log.map v.ackDev).any Record.holdsDevice

theorem deviceAcked_eq : ∃ b, v.deviceAcked = { v with boot := b, flt := { v.flt with log := v.flt.log.map v.ackDev, devSafe := v.devHeld } } := by
  unfold State.deviceAcked State.afterDeviceAck
  generalize v.flt.log.any (fun x => v.clears x && x.src == srcSpeedMargin) = margin
  have hd (L : Bool) : (v.flt.log.map v.ackDev).any (fun x => x.unacked && x.severity == 4) = L → v.devHeld = (v.flt.devSafe && L) :=
    fun h => congrArg (v.flt.devSafe && ·) h
  cases hL : (v.flt.log.map v.ackDev).any (fun x => x.unacked && x.severity == 4)
  · rw [hd _ hL, Bool.and_false]
    cases hm : margin && !v.boot.debugOpen
    · exact ⟨v.boot, by simp [State.modFlt, hm, hL]⟩
    · exact ⟨{ v.boot with boundVoid := false }, by simp [State.modFlt, State.modBoot, hm, hL]⟩
  · rw [hd _ hL, Bool.and_true]
    cases hm : margin && !v.boot.debugOpen
    · exact ⟨v.boot, by simp [State.modFlt, hm, hL]⟩
    · exact ⟨{ v.boot with boundVoid := false }, by simp [State.modFlt, State.modBoot, hm, hL]⟩

/-- The quays that hinder an acknowledgement of the device. -/
def State.hindering : List QuayNo := v.deviceAcked.kernelQuays.filter v.deviceAcked.ackBlocked

/-- Each quay acknowledged that does not hinder. -/
def State.quaysAcked : State :=
  forAll (v.deviceAcked.kernelQuays.filter (fun q => !v.hindering.contains q)) v.deviceAcked State.ackOne

/-- The acknowledgement of the device leaves nothing. -/
def State.allAcked : Bool := v.hindering.isEmpty && !v.quaysAcked.flt.log.any Record.unacked

theorem ackDevice_eq : v.ackDevice = (if v.allAcked then v.quaysAcked.modFlt (fun f => { f with devFirst := none }) else v.quaysAcked,
    ackResult v.allAcked (v.quaysAcked.leftMask v.quaysAcked.kernelQuays)) := rfl
end

/-! ##### What it leaves -/

section
variable {v : State}

theorem deviceAcked_flt : v.deviceAcked.flt = { v.flt with log := v.flt.log.map v.ackDev, devSafe := v.devHeld } := by
  obtain ⟨b, h⟩ := deviceAcked_eq v
  rw [h]

theorem deviceAcked_quay : v.deviceAcked.quay = v.quay := by
  obtain ⟨b, h⟩ := deviceAcked_eq v
  rw [h]

theorem deviceAcked_causePresent (x : Record) : v.deviceAcked.causePresent x = v.causePresent x := by
  obtain ⟨b, h⟩ := deviceAcked_eq v
  rw [h]
  rfl

theorem deviceAcked_kernelQuays : v.deviceAcked.kernelQuays = v.kernelQuays := by
  obtain ⟨b, h⟩ := deviceAcked_eq v
  exact kernelQuays_of_params (by rw [h])

/-- The quays acknowledge their own records; of the collector nothing else changes. -/
theorem quaysAcked_flt : v.quaysAcked.flt = { v.deviceAcked.flt with log := v.quaysAcked.flt.log } :=
  forAll_keeps (P := fun t => t.flt = { v.deviceAcked.flt with log := t.flt.log }) rfl fun t ht q _ => by
    rw [ackOne_flt, ht]

theorem mem_quaysAcked {x : Record} (h : x.deviceOnly = true ∨ x.unacked = false) (hx : x ∈ v.deviceAcked.flt.log) : x ∈ v.quaysAcked.flt.log :=
  forAll_keeps (P := fun t => x ∈ t.flt.log) hx fun t ht q _ => by
    rw [ackOne_flt]
    exact List.mem_map.mpr ⟨x, ht, ackQuay_other q _ h⟩

theorem quaysAcked_holdsDevice : v.quaysAcked.flt.log.any Record.holdsDevice = (v.flt.log.map v.ackDev).any Record.holdsDevice := by
  rw [← show v.deviceAcked.flt.log = v.flt.log.map v.ackDev from congrArg Collector.log deviceAcked_flt]
  refine forAll_keeps (P := fun t => t.flt.log.any Record.holdsDevice = v.deviceAcked.flt.log.any Record.holdsDevice) rfl fun t ht q _ => ?_
  rw [ackOne_flt, ← ht]
  refine List.any_map.trans (congrArg _ (funext fun x => ?_))
  exact ackQuay_holdsDevice x q _

theorem mem_hindering {q : QuayNo} : q ∈ v.hindering ↔ q ∈ v.kernelQuays ∧ v.deviceAcked.ackBlocked q = true := by
  rw [State.hindering, deviceAcked_kernelQuays, List.mem_filter]

theorem mem_free {q : QuayNo} : q ∈ v.deviceAcked.kernelQuays.filter (fun q => !v.hindering.contains q) ↔ q ∈ v.kernelQuays ∧ q ∉ v.hindering := by
  rw [deviceAcked_kernelQuays, List.mem_filter, Bool.not_eq_true', List.contains_eq_mem, decide_eq_false_iff_not]

/-- A quay that hinders the acknowledgement stays. -/
theorem quaysAcked_hindering {q : QuayNo} (h : q ∈ v.hindering) : v.quaysAcked.quay[q] = v.quay[q] ∧ v.allAcked = false := by
  constructor
  · rw [← deviceAcked_quay (v := v)]
    refine forAll_keeps (P := fun t => t.quay[q] = v.deviceAcked.quay[q]) rfl fun t ht j hj => (ackOne_ne fun e => ?_).trans ht
    exact (mem_free.mp hj).2 (e ▸ h)
  · have : v.hindering.isEmpty = false := by
      rw [List.isEmpty_eq_false_iff]
      exact List.ne_nil_of_mem h
    rw [State.allAcked, this, Bool.false_and]

/-- A quay that does not hinder is acknowledged on its own. -/
theorem quaysAcked_free {q : QuayNo} (hk : q ∈ v.kernelQuays) (h : q ∉ v.hindering) (ho : v.isOut q = true) :
    v.quaysAcked.quay[q].core.st = .off ∧ v.quaysAcked.quay[q].react = none ∧ v.quaysAcked.quay[q].first = none := by
  have hn : (v.deviceAcked.kernelQuays.filter (fun q => !v.hindering.contains q)).Nodup := (kernelQuays_nodup _).filter _
  obtain ⟨t, -, ht, hx⟩ := forAll_observe (s := v.deviceAcked) (P := fun _ => True) (f := State.ackOne) hn (mem_free.mpr ⟨hk, h⟩) (fun t => t.quay[q])
    trivial (fun _ _ _ _ => trivial) fun t _ j _ hj => ackOne_ne hj.symm
  have hx' : v.quaysAcked.quay[q] = (t.ackOne q).quay[q] := hx
  have ht' : t.quay[q] = v.quay[q] := by rw [← deviceAcked_quay (v := v)]; exact ht
  obtain ⟨h1, h2, -⟩ := ackOne_quay (s := t) (q := q) (by rw [State.isOut, ht']; exact ho)
  rw [hx']
  exact ⟨h1, h2, ackOne_first t q⟩

/-- Why a quay in FAULTED or SAFE hinders: the device's safe state, its ramp, or a cause that is present. -/
theorem ackBlocked_iff {q : QuayNo} (ho : v.isOut q = true) : v.deviceAcked.ackBlocked q = true ↔ v.devHeld = true ∨ v.quay[q].rampReact = true ∨
    ∃ x ∈ v.flt.log.map v.ackDev, x.unacked = true ∧ q ∈ x.quays ∧ (v.quay[q].openRec = some x.no ∨ x.merged = true) ∧ v.causePresent x = true := by
  have ho' : (v.quay[q].core.st == .faulted || v.quay[q].core.st == .safe) = true := ho
  simp only [State.ackBlocked, deviceAcked_quay, deviceAcked_flt, deviceAcked_causePresent, ho', Bool.true_and, Bool.or_eq_true, List.any_eq_true,
    Bool.and_eq_true, beq_iff_eq, List.contains_eq_mem, decide_eq_true_eq, or_assoc, and_assoc]

/-- A record that stays unacknowledged is as it was. -/
theorem unacked_of_ackDev {x : Record} (h : (v.ackDev x).unacked = true) : v.ackDev x = x := by
  unfold State.ackDev at h ⊢
  split
  · next hc =>
    rw [if_pos hc, Record.unacked] at h
    exact absurd (Bool.and_eq_true _ _ ▸ h).2 Bool.false_ne_true
  · rfl
end

section
variable {p : Side} {m : MbxNo} {r : Req} {s v : State} {msg : Msg}

theorem ackResult_status (ok : Bool) (mask : Nat) : (ackResult ok mask).status ≠ 0x10 := by
  cases ok
  · exact show (0x18 : Byte) ≠ 0x10 by decide
  · exact show (0 : Byte) ≠ 0x10 by decide

/-- What ACK_FAULT to the device leaves of the collector. -/
theorem device_ack (k : Passes s 0x2D p m r msg) (hg : s.hm.grant = some p) (ht : targetOf msg.target = some .device)
    (hv : v = s.allFlagged 0x2D p m r) : ∃ t mask, exec (.ackFault p m r) s = .next t ∧ Answered t msg (ackResult v.allAcked mask) false ∧
      t.quay = v.quaysAcked.quay ∧ t.flt.log = v.quaysAcked.flt.log ∧ t.flt.devSafe = v.devHeld ∧ (v.allAcked = true → t.flt.devFirst = none) := by
  have he := exec_allQuays (c := .ackFault p m r) (o := v.ackDevice) hv rfl k hg ht (by simp) (fun es => deviceCommand_ackFault k.op v _ es) (ackResult_status _ _)
  obtain ⟨hans, hf⟩ := finish_answered v.ackDevice.1 msg v.ackDevice.2 false
  have hd : v.quaysAcked.flt.devSafe = v.devHeld := by
    rw [quaysAcked_flt, deviceAcked_flt]
  refine ⟨_, _, he, hans, (congrArg State.quay hf :).trans ?_, (congrArg (fun t => t.flt.log) hf :).trans ?_,
    (congrArg (fun t => t.flt.devSafe) hf :).trans ?_, fun h => (congrArg (fun t => t.flt.devFirst) hf :).trans ?_⟩ <;> rw [ackDevice_eq]
  · simp only
    split <;> rfl
  · simp only
    split <;> rfl
  · simp only
    split <;> exact hd
  · simp only [h, if_true]
    rfl
end

/-- Settles O53: the stops and acknowledgements of the device, and the acknowledgement of a quay. -/
theorem stopsAndAcks : Obligations.StopsAndAcks := by
  intro p m r msg s hg
  refine ⟨fun ht kind hkind k => ?_, fun q ht k => axis_ack rfl k hg ht, fun ht k => ?_⟩
  · cases kind with
    | none => exact absurd rfl hkind
    | ramp =>
      have eo : (if StopKind.ramp = .quick then (0x24 : Byte) else 0x23) = 0x23 := rfl
      have ec : (if StopKind.ramp = .quick then Instr.quickstop p m r else .stop p m r) = .stop p m r := rfl
      rw [eo] at k ⊢
      rw [ec]
      exact device_stop (op := 0x23) rfl k hg ht (by simp) rfl fun es => deviceCommand_stop k.op _ _ es
    | quick =>
      have eo : (if StopKind.quick = .quick then (0x24 : Byte) else 0x23) = 0x24 := rfl
      have ec : (if StopKind.quick = .quick then Instr.quickstop p m r else .stop p m r) = .quickstop p m r := rfl
      rw [eo] at k ⊢
      rw [ec]
      exact device_stop (op := 0x24) rfl k hg ht (by simp) rfl fun es => deviceCommand_quickstop k.op _ _ es
  · intro v
    have hkv : v.kernelQuays = s.kernelQuays := allFlagged_kernelQuays
    obtain ⟨t, mask, he, hans, hq, hlog, hsafe, hfirst⟩ := device_ack (v := v) k hg ht rfl
    clear_value v
    have inLog {x : Record} (hx : x ∈ v.flt.log) (h : (v.ackDev x).deviceOnly = true ∨ (v.ackDev x).unacked = false) : v.ackDev x ∈ t.flt.log := by
      rw [hlog]
      refine mem_quaysAcked h ?_
      rw [deviceAcked_flt]
      exact List.mem_map_of_mem hx
    have done (h : v.allAcked = true) : ∀ x ∈ t.flt.log, x.unacked = false := by
      rw [State.allAcked, Bool.and_eq_true, Bool.not_eq_true', List.any_eq_false] at h
      rw [hlog]
      exact fun x hx => Bool.eq_false_of_not_eq_true (h.2 x hx)
    refine ⟨t, v.allAcked, mask, he, hans, fun x hx hu hd hc => ?_, fun x hx hu hd hc => ?_, ?_, fun q hm ho => ⟨fun h => ?_, fun hr hs hc => ?_⟩,
      fun h => ⟨hfirst h, done h⟩⟩
    · have e : v.ackDev x = { x with acked := true, ackedAt := v.now } := if_pos (by rw [State.clears, hu, hd, hc]; rfl)
      rw [← e]
      refine inLog hx (.inr ?_)
      rw [e]
      exact Bool.and_false _
    · have e : v.ackDev x = x := if_neg (by rw [State.clears, hc, Bool.not_true, Bool.and_false]; exact Bool.false_ne_true)
      have hx' := inLog hx (.inl (by rw [e]; exact hd))
      rw [e] at hx'
      refine ⟨hx', Bool.eq_false_of_not_eq_true fun h => ?_⟩
      exact absurd (hu.symm.trans (done h x hx')) (by decide)
    · rw [hsafe, hlog]
      exact congrArg (v.flt.devSafe && ·) quaysAcked_holdsDevice.symm
    · have hb : q ∈ v.hindering := mem_hindering.mpr ⟨hkv ▸ hm, (ackBlocked_iff (isOut_iff.mpr ho)).mpr (by
        rcases h with h | h
        · exact .inr (.inl h)
        · exact .inl (hsafe ▸ h))⟩
      rw [hq]
      exact quaysAcked_hindering hb
    · rw [hq]
      refine quaysAcked_free (hkv ▸ hm) (fun hb => ?_) (isOut_iff.mpr ho)
      rcases (ackBlocked_iff (isOut_iff.mpr ho)).mp (mem_hindering.mp hb).2 with h | h | ⟨y, hy, hu, hmem, hop, hcause⟩
      · exact absurd (hs.symm.trans (hsafe.trans h)) (by decide)
      · exact absurd (hr.symm.trans h) (by decide)
      · obtain ⟨x, hx, rfl⟩ := List.mem_map.mp hy
        have e := unacked_of_ackDev hu
        rw [e] at hu hmem hop hcause
        exact absurd ((hc x hx hu hmem hop).symm.trans hcause) (by decide)

end Sys2Proof.Machine
end

section
/-! #### PARAM_READ, PARAM_STAGE, STAGE_CLEAR and PARAM_INFO (R184 to R186, R312 to R314, R320) -/

namespace Sys2Proof.Machine

/-- An address of a block kind that is not assigned. -/
def StrangeAddr (a : Nat) : Prop := a / 0x100000 = 0xB ∨ a / 0x100000 = 0xD ∨ a / 0x100000 = 0xE ∨ a / 0x100000 = 0xF

theorem noKind_iff (a : Nat) : noKind a = true ↔ StrangeAddr a := by
  rw [noKind, List.contains_eq_mem, decide_eq_true_iff]
  simp only [List.mem_cons, List.not_mem_nil, or_false]
  rfl

/-- Bit `i` of the undefined mask says that value `i` has none. -/
theorem testBit_undefinedMask : ∀ (vs : List (Option Word)) (i : Nat) (h : i < vs.length), (undefinedMask vs).testBit i = vs[i].isNone
  | v :: vs, 0, _ => by
    rw [undefinedMask, List.foldr_cons, Nat.testBit_zero, List.getElem_cons_zero]
    generalize vs.foldr (fun v n => 2 * n + bit v.isNone 0) 0 = n
    cases v.isNone
    · exact decide_eq_false (by simp [bit])
    · exact decide_eq_true (by simp [bit])
  | v :: vs, i + 1, h => by
    have ih := testBit_undefinedMask vs i (Nat.lt_of_succ_lt_succ h)
    rw [List.getElem_cons_succ, ← ih, undefinedMask, undefinedMask, List.foldr_cons, Nat.testBit_succ]
    generalize vs.foldr (fun v n => 2 * n + bit v.isNone 0) 0 = n
    refine congrArg (Nat.testBit · i) ?_
    cases v.isNone <;> simp [bit]
    omega

section
variable {p : Side} {m : MbxNo} {r : Req} {s : State} {msg : Msg}

/-- A request that only answers changes its port. -/
theorem finish_rung (op : Byte) (res : Result) : Answered ((s.rung op p m r).finish msg res false) msg res false ∧
    (s.rung op p m r).finish msg res false = { s with port := ((s.rung op p m r).finish msg res false).port } :=
  ⟨(finish_answered _ msg res false).1, rfl⟩

/-- What PARAM_READ answers. -/
theorem port_paramRead (k : Passes s 0x40 p m r msg) :
    ((∃ a ∈ readAddrs msg.payload, StrangeAddr a) → Stays s msg (.paramRead p m r) 0x11) ∧
    ((∀ a ∈ readAddrs msg.payload, ¬ StrangeAddr a) → ∃ t n, exec (.paramRead p m r) s = .next t ∧ t = { s with port := t.port } ∧
      Answered t msg (doneWith ([msg.payload.getD 0 0, 0, 0, 0] ++
        (readAddrs msg.payload).flatMap (fun a => leBytes 4 ((s.rung 0x40 p m r).readParam a |>.getD 0).toNat) ++ leBytes 8 n)) false ∧
      ∀ i (h : i < (readAddrs msg.payload).length), n.testBit i = ((s.rung 0x40 p m r).readParam (readAddrs msg.payload)[i]).isNone) := by
  have he := exec_of_passes (c := .paramRead p m r) rfl k
  rw [route_paramRead k.op] at he
  refine ⟨fun ⟨a, ha, hs⟩ => ?_, fun h => ?_⟩
  · have e : (s.rung 0x40 p m r).doParamRead msg.payload = refusal stRange := if_pos (List.any_eq_true.mpr ⟨a, ha, (noKind_iff a).mpr hs⟩)
    rw [e] at he
    obtain ⟨h1, h2⟩ := finish_rung (s := s) (p := p) (m := m) (r := r) (msg := msg) 0x40 (refusal stRange)
    exact ⟨_, he, h1, h2⟩
  · have e : (s.rung 0x40 p m r).doParamRead msg.payload = _ := if_neg fun ha => by
      obtain ⟨a, ha, hs⟩ := List.any_eq_true.mp ha
      exact h a ha ((noKind_iff a).mp hs)
    rw [e, List.flatMap_map] at he
    obtain ⟨h1, h2⟩ := finish_rung (s := s) (p := p) (m := m) (r := r) (msg := msg) 0x40 (doneWith ([msg.payload.getD 0 0, 0, 0, 0] ++
      (readAddrs msg.payload).flatMap (fun a => leBytes 4 ((s.rung 0x40 p m r).readParam a |>.getD 0).toNat) ++
      leBytes 8 (undefinedMask ((readAddrs msg.payload).map (s.rung 0x40 p m r).readParam))))
    refine ⟨_, _, he, h2, h1, fun i hi => ?_⟩
    have hb := testBit_undefinedMask ((readAddrs msg.payload).map (s.rung 0x40 p m r).readParam) i (by rwa [List.length_map])
    rw [List.getElem_map] at hb
    exact hb

/-- What PARAM_INFO answers. -/
theorem port_paramInfo (k : Passes s 0x44 p m r msg) :
    (StrangeAddr (field msg.payload 0 4) → Stays s msg (.paramInfo p m r) 0x11) ∧
    (¬ StrangeAddr (field msg.payload 0 4) → ∃ t, exec (.paramInfo p m r) s = .next t ∧
      Answered t msg (doneWith ((s.rung 0x44 p m r).descriptor (field msg.payload 0 4))) false ∧ t = { s with port := t.port }) := by
  have he := exec_of_passes (c := .paramInfo p m r) rfl k
  rw [route_paramInfo k.op] at he
  refine ⟨fun h => ?_, fun h => ?_⟩
  · rw [show (s.rung 0x44 p m r).doParamInfo msg.payload = refusal stRange from if_pos ((noKind_iff _).mpr h)] at he
    obtain ⟨h1, h2⟩ := finish_rung (s := s) (p := p) (m := m) (r := r) (msg := msg) 0x44 (refusal stRange)
    exact ⟨_, he, h1, h2⟩
  · rw [show (s.rung 0x44 p m r).doParamInfo msg.payload = _ from if_neg fun e => h ((noKind_iff _).mp e)] at he
    obtain ⟨h1, h2⟩ := finish_rung (s := s) (p := p) (m := m) (r := r) (msg := msg) 0x44
      (doneWith ((s.rung 0x44 p m r).descriptor (field msg.payload 0 4)))
    exact ⟨_, he, h1, h2⟩

/-- A port with another staging area. -/
def State.staged (s : State) (p : Side) (area : Staging) : State := s.modPort p (fun x => { x with staging := area })

theorem staged_staging (s : State) (p : Side) (area : Staging) : ((s.staged p area).port.get p).staging = area := by
  rw [State.staged, State.modPort, Pair.get_set]

/-- A request that changes its staging area alone: what it leaves there. -/
theorem finish_staged (op : Byte) (area : Staging) (res : Result) : Answered (((s.rung op p m r).staged p area).finish msg res false) msg res false ∧
    ((((s.rung op p m r).staged p area).finish msg res false).port.get p).staging = area ∧
    ((s.rung op p m r).staged p area).finish msg res false = { s with port := (((s.rung op p m r).staged p area).finish msg res false).port } := by
  obtain ⟨h1, h2⟩ := finish_answered ((s.rung op p m r).staged p area) msg res false
  refine ⟨h1, by rw [finish_staging, staged_staging], ?_⟩
  generalize ((s.rung op p m r).staged p area).finish msg res false = t at h2 ⊢
  rw [h2]
  rfl

/-- What PARAM_STAGE does. -/
theorem port_paramStage {area : Staging} (ha : area = (s.port.get p).staging ++ stageEntries msg.payload) (k : Passes s 0x41 p m r msg) :
    (area.length ≤ 256 → ∃ t, exec (.paramStage p m r) s = .next t ∧ Answered t msg (doneWith (leBytes 2 area.length)) false ∧
      (t.port.get p).staging = area ∧ t = { s with port := t.port }) ∧
    (256 < area.length → ∃ t, exec (.paramStage p m r) s = .next t ∧ Answered t msg { status := 0x11, advice := 0xA, data := [] } false ∧
      (t.port.get p).staging = (s.port.get p).staging ∧ t = { s with port := t.port }) := by
  have he := exec_of_passes (c := .paramStage p m r) rfl k
  rw [route_paramStage k.op, k.port] at he
  have hs : ((s.rung 0x41 p m r).port.get p).staging ++ stageEntries msg.payload = area := by rw [rung_staging, ha]
  have hd : (s.rung 0x41 p m r).doParamStage p msg.payload = if 256 < area.length then (s.rung 0x41 p m r, ⟨stRange, 0x000A, []⟩)
      else ((s.rung 0x41 p m r).staged p area, doneWith (leBytes 2 area.length)) := by
    unfold State.doParamStage
    rw [hs]
    rfl
  refine ⟨fun h => ?_, fun h => ?_⟩
  · rw [hd, if_neg (Nat.not_lt.mpr h)] at he
    obtain ⟨h1, h2, h3⟩ := finish_staged (s := s) (p := p) (m := m) (r := r) (msg := msg) 0x41 area (doneWith (leBytes 2 area.length))
    exact ⟨_, he, h1, h2, h3⟩
  · rw [hd, if_pos h] at he
    obtain ⟨h1, h2⟩ := finish_rung (s := s) (p := p) (m := m) (r := r) (msg := msg) 0x41 ⟨stRange, 0x000A, []⟩
    exact ⟨_, he, h1, by rw [finish_staging, rung_staging], h2⟩

/-- What STAGE_CLEAR does. -/
theorem port_stageClear (k : Passes s 0x43 p m r msg) : ∃ t, exec (.stageClear p m r) s = .next t ∧ Answered t msg doneR false ∧
    (t.port.get p).staging = [] ∧ t = { s with port := t.port } := by
  have he := exec_of_passes (c := .stageClear p m r) rfl k
  rw [route_stageClear k.op, k.port, show (s.rung 0x43 p m r).doStageClear p = ((s.rung 0x43 p m r).staged p [], doneR) from rfl] at he
  obtain ⟨h1, h2, h3⟩ := finish_staged (s := s) (p := p) (m := m) (r := r) (msg := msg) 0x43 [] doneR
  exact ⟨_, he, h1, h2, h3⟩
end

end Sys2Proof.Machine
end

section
/-! #### COMMIT: what a commit that passes leaves (R183, R315 to R317, R961) -/

namespace Sys2Proof.Machine

/-! ##### Class-0 flags leave the staging areas -/

section
variable (s : State) (q : QuayNo)

theorem State.mail_of_blank {s t : State} {ps : List Part} (h : t.blank ps = s.blank ps) (hp : .port ∉ ps) : t.mail = s.mail :=
  State.mail_of_port (State.port_of_blank h hp)

theorem State.eventOpt_mail (o : Option AcceptedOp) (st : Byte) (a : U16) (n : Nat) : (s.eventOpt o st a n).mail = s.mail := by
  unfold State.eventOpt
  split
  · exact s.event_mail _ st a n
  · rfl

theorem State.abandon_mail (arm start : Bool) : (s.abandon q arm start).mail = s.mail := by
  have h (u : State) (b : Bool) (o : Option AcceptedOp) (st : Byte) (a : U16) (n : Nat) :
      (if b then u.eventOpt o st a n else u).mail = u.mail := by
    split
    · exact u.eventOpt_mail o st a n
    · rfl
  have hq (u : State) (f : Quay → Quay) : (u.modQuay q f).mail = u.mail := rfl
  simp only [State.abandon, hq, h]

theorem State.enter_mail (st : AxisState) (k : StopKind) : (s.enter q st k).mail = s.mail := by
  have sync (u : State) : (s.syncLegs u).mail = u.mail := State.mail_of_blank (State.syncLegs_blank (ps := [.leg, .lane]) u s (by simp)) (by simp)
  have after (u : State) : (u.afterEnter q st).mail = u.mail :=
    State.mail_of_blank (State.afterEnter_blank (ps := [.quayAt q, .leg, .lane]) u q st (by simp)) (by simp)
  have pub (u : State) : (u.publish q).mail = u.mail := State.mail_of_blank (ps := [.quayAt q, .ih]) (by simp) (by simp)
  have hq (u : State) (f : Quay → Quay) : (u.modQuay q f).mail = u.mail := rfl
  have leave (b : Bool) : (if b then s else s.leaveGroup q).mail = s.mail := by split <;> rfl
  simp only [State.enter, sync, pub, after, hq, State.abandon_mail, leave]

theorem State.modCore_mail (f : AxisCore → AxisCore) : (s.modCore q f).mail = s.mail :=
  State.mail_of_blank (ps := [.quayAt q, .ih]) (by simp) (by simp)
theorem State.leaveShare_mail : (s.leaveShare q).mail = s.mail := State.mail_of_blank (ps := [.quayAt q]) (by simp) (by simp)

theorem State.applyStop_mail (k : StopKind) : (s.applyStop q k).mail = s.mail := by
  have block (u : State) : (u.blockPulses q).mail = u.mail := State.mail_of_blank (ps := [.quayAt q, .leg, .lane]) (by simp) (by simp)
  have table (u : State) : (u.rewriteTable q).mail = u.mail := State.mail_of_blank (ps := [.quayAt q]) (by simp) (by simp)
  unfold State.applyStop
  split
  case h_6 =>
    split
    · rw [table, State.modCore_mail]
    · rfl
  all_goals simp only [State.enterStopping, block, State.enter_mail, State.leaveShare_mail]

theorem State.applyRelease_mail : (s.applyRelease q).mail = s.mail := by
  have h : (if quayReleaseEnable s q = 1 then (s.leaveShare q).modCore q (fun c => { c with release := true }) else s).mail = s.mail := by
    split
    · rw [State.modCore_mail, State.leaveShare_mail]
    · rfl
  unfold State.applyRelease
  split
  case h_5 => rfl
  all_goals exact h

theorem State.limitStep_mail : (s.limitStep q).mail = s.mail := by
  have both : (s.limitBoth q).mail = s.mail := State.mail_of_blank (ps := [.quayAt q, .transit]) (by simp) (by simp)
  have reg (u : State) (f : Regs → Regs) : (u.modReg q f).mail = u.mail := rfl
  have zero (u : State) : (u.genZero q).mail = u.mail := State.mail_of_blank (ps := [.quayAt q]) (by simp) (by simp)
  have rs (u : State) (n : Nat) : (u.raiseQuay n q).mail = u.mail := rfl
  simp only [State.limitStep, apply_ite State.mail, reg, zero, rs, State.enter_mail, State.modCore_mail, both, ite_self]

theorem State.applyFlags_mail : (s.applyFlags q).mail = s.mail := by
  have hq (u : State) (f : Quay → Quay) : (u.modQuay q f).mail = u.mail := rfl
  simp only [State.applyFlags, apply_ite State.mail, State.applyStop_mail, State.applyRelease_mail, hq, ite_self]

theorem State.flagsFirst_mail : (s.flagsFirst q).mail = s.mail := by
  have hq (u : State) (f : Quay → Quay) : (u.modQuay q f).mail = u.mail := rfl
  simp only [State.flagsFirst, apply_ite State.mail, State.limitStep_mail, hq, State.applyFlags_mail, ite_self]
end

/-! ##### What starts with a new configuration leaves the configuration a quay ran with -/

section
variable (s : State) (r : QuayNo)

theorem clearHomed_oldCfg (q : QuayNo) : (s.clearHomed q).quay[r].oldCfg = s.quay[r].oldCfg := by
  unfold State.clearHomed
  split
  · exact State.modCore_keeps (fun x : Quay => x.oldCfg) s q r _ (fun _ _ => rfl) fun _ => rfl
  · rfl

theorem restartCell_oldCfg (was : Nat) (k : CellNo) : (s.restartCell was k).quay[r].oldCfg = s.quay[r].oldCfg := by
  unfold State.restartCell
  simp only
  split
  · split
    · exact clearHomed_oldCfg _ r _
    · rfl
  · rfl

/-- The configurations that the quays ran with. -/
def State.ranWith (s : State) (r : QuayNo) : Option (List (Nat × Word)) := s.quay[r].oldCfg

theorem startCell_oldCfg (old : State) (staged : Nat → Bool) (k : CellNo) : (old.startCell s staged k).quay[r].oldCfg = s.quay[r].oldCfg := by
  have cell (u : State) (f : Cell → Cell) : (u.modCell k f).ranWith = u.ranWith := rfl
  have again (was : Nat) : (s.restartCell was k).ranWith = s.ranWith := funext fun r => restartCell_oldCfg s r was k
  have h : (old.startCell s staged k).ranWith = s.ranWith := by
    simp only [State.startCell, apply_ite State.ranWith, cell, again, ite_self]
  exact congrFun h r

theorem startQuay_oldCfg (old : State) (staged : Nat → Bool) (q : QuayNo) : (old.startQuay s staged q).quay[r].oldCfg = s.quay[r].oldCfg := by
  have probe (u : State) (f : Quay → Probe) : (u.modQuay q (fun x => { x with probe := f x })).quay[r].oldCfg = u.quay[r].oldCfg :=
    State.modQuay_keeps (fun x : Quay => x.oldCfg) u q r fun _ => rfl
  have slot (b : Bool) (f : Quay → Option (Nat × Nat × Option Nat)) :
      (if b then s.modQuay q (fun x => { x with slotOld := f x }) else s).quay[r].oldCfg = s.quay[r].oldCfg := by
    split
    · exact State.modQuay_keeps (fun x : Quay => x.oldCfg) s q r fun _ => rfl
    · rfl
  unfold State.startQuay
  simp only
  split
  · exact (probe _ _).trans (slot _ _)
  · split
    · exact (probe _ _).trans (slot _ _)
    · exact slot _ _

theorem startConfig_oldCfg (old : State) (staged : Nat → Bool) : (old.startConfig s staged).quay[r].oldCfg = s.quay[r].oldCfg := by
  have cells : (forAll (List.finRange 16) s (fun t k => old.startCell t staged k)).quay[r].oldCfg = s.quay[r].oldCfg :=
    forAll_keeps (P := fun t => t.quay[r].oldCfg = s.quay[r].oldCfg) rfl fun t ht k _ => (startCell_oldCfg t r old staged k).trans ht
  generalize hu : forAll (List.finRange 16) s (fun t k => old.startCell t staged k) = u at cells
  have quays : (forAll allQuays u (fun t q => old.startQuay t staged q)).quay[r].oldCfg = s.quay[r].oldCfg :=
    forAll_keeps (P := fun t => t.quay[r].oldCfg = s.quay[r].oldCfg) cells fun t ht q _ => (startQuay_oldCfg t r old staged q).trans ht
  generalize hw : forAll allQuays u (fun t q => old.startQuay t staged q) = w at quays
  have h : (old.startConfig s staged).blank [.tb, .free] = w.blank [.tb, .free] := by
    rw [← hw, ← hu]
    simp [State.startConfig, State.ite_blank]
  rw [State.quay_of_blank h (by simp)]
  exact quays
end

/-! ##### A commit that passes -/

/-- The parameters that entries leave are a matter of the parameters. -/
theorem withEntries_params {s t : State} (h : t.params = s.params) (es : Staging) : (t.withEntries es).params = (s.withEntries es).params := by
  induction es generalizing s t with
  | nil => exact h
  | cons e es ih => exact ih (by simp only [State.setParam, h])

/-- The tables of each running half are taken anew. -/
theorem refreshHalves_tables (s : State) (g : Side) (h : (s.half.get g).run = true) :
    (s.refreshHalves.half.get g).tables = s.params.filter (fun e => decide (0xC00000 ≤ e.1)) := by
  have hne (t : State) (g' : Side) (hb : g' ≠ g) : (t.refreshHalf g').half.get g = t.half.get g := by
    cases g' <;> cases g
    · exact absurd rfl hb
    · rfl
    · rfl
    · exact absurd rfl hb
  have hself (t : State) : (t.refreshHalf g).half.get g = { t.half.get g with
      tables := t.params.filter (fun e => decide (0xC00000 ≤ e.1)), roster := t.prot.roster } := Pair.get_set _ _ _
  refine forAll_establishes (a := g) (P := fun t => (t.half.get g).run = true ∧ t.params = s.params)
    (Q := fun t => (t.half.get g).tables = s.params.filter (fun e => decide (0xC00000 ≤ e.1))) (by cases g <;> simp) ⟨h, rfl⟩ ?_ ?_ ?_
  · rintro t ⟨hr, hp⟩ g' -
    split
    · refine ⟨?_, hp⟩
      by_cases hb : g' = g
      · rw [hb, hself]
        exact hr
      · rw [hne t g' hb]
        exact hr
    · exact ⟨hr, hp⟩
  · rintro t ⟨hr, hp⟩
    rw [if_pos hr, hself, hp]
  · rintro t ⟨-, hp⟩ hq g' -
    split
    · by_cases hb : g' = g
      · rw [hb, hself, hp]
      · rw [hne t g' hb]
        exact hq
    · exact hq

section
variable (v : State) (es : Staging) (cs : List PoolClaim)

/-- The new configuration before anything starts with it. -/
def State.configured (v : State) (es : Staging) (cs : List PoolClaim) : State := { (v.withEntries es).refreshHalves with claims := cs }

/-- The new configuration with all that starts with it. -/
def State.started (v : State) (es : Staging) (cs : List PoolClaim) : State :=
  (v.startConfig (v.configured es cs) (fun a => es.any (fun e => e.1.toNat == a))).postCommit v es

theorem applyCommit_eq : v.applyCommit es cs = (v.started es cs).modBoot (fun b => { b with commitCount := b.commitCount + 1 }) := rfl

theorem started_blank : (v.started es cs).blank [.cell, .quay, .ih, .tb, .free] = (v.configured es cs).blank [.cell, .quay, .ih, .tb, .free] := by
  simp [State.started]

theorem applyCommit_spec : (v.applyCommit es cs).params = (v.withEntries es).params ∧ (v.applyCommit es cs).claims = cs ∧
    (v.applyCommit es cs).boot = { v.boot with commitCount := v.boot.commitCount + 1 } ∧ (v.applyCommit es cs).half = (v.configured es cs).half := by
  have hb := started_blank v es cs
  have hboot : (v.withEntries es).refreshHalves.boot = v.boot :=
    State.boot_of_blank (ps := [.params, .half]) (by simp) (by simp)
  have hparams : (v.withEntries es).refreshHalves.params = (v.withEntries es).params := State.params_of_blank (ps := [.half]) (by simp) (by simp)
  rw [applyCommit_eq]
  refine ⟨(State.params_of_blank hb (by simp)).trans hparams, State.claims_of_blank hb (by simp), ?_, State.half_of_blank (t := v.started es cs) hb (by simp)⟩
  have hx : (v.started es cs).boot = v.boot := (State.boot_of_blank hb (by simp)).trans hboot
  rw [← hx]
  rfl

theorem configured_tables (g : Side) (h : (v.half.get g).run = true) :
    ((v.configured es cs).half.get g).tables = (v.withEntries es).params.filter (fun e => decide (0xC00000 ≤ e.1)) := by
  refine refreshHalves_tables (v.withEntries es) g ?_
  rw [State.half_of_blank (ps := [.params]) (s := v) (by simp) (by simp)]
  exact h

/-- A quay whose change waits for its shadow keeps the configuration it ran with. -/
theorem applyCommit_oldCfg {q : QuayNo} (hk : q ∈ v.kernelQuays) (hg : v.hm.grant.isSome = true) (ha : v.hm.admission[q] = true)
    (hq : ∃ e ∈ es, ofQuay q e.1.toNat = true) : (v.applyCommit es cs).quay[q].oldCfg = some (v.quay[q].oldCfg.getD v.working) := by
  have hm : q ∈ v.kernelQuays.filter (fun q => v.hm.grant.isSome && v.hm.admission[q] && es.any (fun e => ofQuay q e.1.toNat)) := by
    rw [List.mem_filter, hg, ha, List.any_eq_true.mpr hq]
    exact ⟨hk, rfl⟩
  have step (t : State) (j : QuayNo) : ((t.modQuay j (fun x => { x with oldCfg := some (x.oldCfg.getD v.working) })).publish j).quay[q].oldCfg =
      if j = q then some (t.quay[q].oldCfg.getD v.working) else t.quay[q].oldCfg := by
    refine (State.publish_keeps (fun x : Quay => x.oldCfg) _ j q fun _ => rfl).trans ?_
    by_cases hj : j = q
    · subst hj
      rw [if_pos rfl, State.modQuay_self]
    · rw [if_neg hj, State.modQuay_ne _ _ hj]
  obtain ⟨t, -, ht, hx⟩ := forAll_observe (s := v.startConfig (v.configured es cs) (fun a => es.any (fun e => e.1.toNat == a))) (P := fun _ => True)
    (f := fun u q => (u.modQuay q (fun x => { x with oldCfg := some (x.oldCfg.getD v.working) })).publish q) ((kernelQuays_nodup v).filter _) hm
    (fun t => t.quay[q].oldCfg) trivial (fun _ _ _ _ => trivial) fun t _ j _ hj => (step t j).trans (if_neg hj)
  have ht' : t.quay[q].oldCfg = v.quay[q].oldCfg := by
    refine Eq.trans ht ((startConfig_oldCfg (v.configured es cs) q v _).trans ?_)
    have hv : (v.withEntries es).refreshHalves.quay[q] = v.quay[q] := State.quay_of_blank (ps := [.params, .half]) (by simp) (by simp)
    exact congrArg Quay.oldCfg hv
  refine Eq.trans hx ((step t q).trans ?_)
  rw [if_pos rfl, ht']
end

end Sys2Proof.Machine
end

section
/-! #### COMMIT, SET_SPEED, SET_ACCEL and SET_TORQUE_LIMIT (R183, R276, R288, R315 to R317, R961) -/

namespace Sys2Proof.Machine

/-! ##### A state in which flags were applied before a commit -/

/-- What applying the flags of quays, and ringing a doorbell, may change. -/
abbrev flagParts : List Part := [.quay, .port, .groups, .leg, .lane, .ih, .transit]

theorem flagged_blank (s : State) (qs : List QuayNo) : (forAll qs s State.flagsFirst).blank flagParts = s.blank flagParts := by
  simp [flagParts]

section
variable {s v : State} (hv : v.blank flagParts = s.blank flagParts)
include hv

/-- The configuration stays when flags are applied. -/
theorem flagged_keeps : v.params = s.params ∧ v.claims = s.claims ∧ v.boot = s.boot ∧ v.half = s.half ∧ v.hm = s.hm ∧ v.prot = s.prot ∧
    v.fuse = s.fuse ∧ v.flash = s.flash :=
  ⟨State.params_of_blank hv (by simp [flagParts]), State.claims_of_blank hv (by simp [flagParts]), State.boot_of_blank hv (by simp [flagParts]),
    State.half_of_blank hv (by simp [flagParts]), State.hm_of_blank hv (by simp [flagParts]), State.prot_of_blank hv (by simp [flagParts]),
    State.fuse_of_blank hv (by simp [flagParts]), State.flash_of_blank hv (by simp [flagParts])⟩

/-- What a commit that passes leaves, told from the state before the flags. -/
theorem committed_spec (es : Staging) (cs : List PoolClaim) : (v.applyCommit es cs).params = (s.withEntries es).params ∧
    (v.applyCommit es cs).claims = cs ∧ (v.applyCommit es cs).boot.commitCount = s.boot.commitCount + 1 ∧ (v.applyCommit es cs).prot = s.prot ∧
    (v.applyCommit es cs).fuse = s.fuse ∧ (v.applyCommit es cs).flash = s.flash := by
  obtain ⟨k1, -, k3, -, -, k6, k7, k8⟩ := flagged_keeps hv
  obtain ⟨h1, h2, h3, -⟩ := applyCommit_spec v es cs
  have hb : (v.applyCommit es cs).blank [.params, .half, .claims, .cell, .quay, .ih, .tb, .free, .boot] =
      v.blank [.params, .half, .claims, .cell, .quay, .ih, .tb, .free, .boot] := State.applyCommit_blank _ es cs (by simp)
  refine ⟨h1.trans (withEntries_params k1 es), h2, ?_, ?_, ?_, ?_⟩
  · rw [h3, k3]
  · exact (State.prot_of_blank hb (by simp)).trans k6
  · exact (State.fuse_of_blank hb (by simp)).trans k7
  · exact (State.flash_of_blank hb (by simp)).trans k8
end

/-! ##### A commit that is refused -/

section
variable {v : State} {es : Staging}

theorem commitEntries_taken {cs : List PoolClaim} (h : v.judgeCommit es = .inr cs) : v.commitEntries es = (v.applyCommit es cs, stDone, 0, 0xFFFF) := by
  unfold State.commitEntries
  rw [h]

theorem commitEntries_refused {st : Byte} {adv : U16} {i : Nat} (h : v.judgeCommit es = .inl (st, adv, i)) :
    v.commitEntries es = (v.commitNotes st, st, adv, i) := by
  unfold State.commitEntries
  rw [h]

/-- A sealed entry refuses a commit. -/
theorem judgeCommit_sealed (h : ∃ e ∈ es, sealedAddr e.1.toNat = true) : ∃ adv i, v.judgeCommit es = .inl (0x13, adv, i) := by
  cases hf : firstEntry es (fun a _ => sealedAddr a) with
  | none =>
    obtain ⟨e, he, hs⟩ := h
    exact absurd (hs.symm.trans (List.findIdx?_eq_none_iff.mp hf e he)) (by decide)
  | some i =>
    refine ⟨0, i, ?_⟩
    unfold State.judgeCommit
    simp only [hf]
    rfl

/-- A refused commit is noted in the collector. -/
theorem commitNotes_spec (v : State) (st : Byte) : v.commitNotes st = { v with flt := (v.commitNotes st).flt } ∧
    (∃ e ∈ (v.commitNotes st).flt.transit, e.src = srcConfigRefused) ∧ (st = 0x13 → ∃ e ∈ (v.commitNotes st).flt.transit, e.src = srcSealWrite) := by
  refine ⟨?_, ⟨_, State.raise_mem _ _, rfl⟩, fun h => ?_⟩
  · unfold State.commitNotes
    split <;> rfl
  · subst h
    exact ⟨_, List.mem_append_left _ (State.raise_mem v _), rfl⟩

/-- A refusal noted leaves the faults on their way. -/
theorem mem_noteRefusal {u : State} {e : FaultEvent} (h : e ∈ u.flt.transit) (t : Option Target) (st : Byte) : e ∈ (u.noteRefusal t st).flt.transit := by
  unfold State.noteRefusal
  split
  · split <;> exact List.mem_append_left _ h
  · exact h

/-- What a refused commit leaves once it is answered. -/
theorem refused_spec (v : State) (t : Option Target) (st : Byte) (res : Result) (msg : Msg) {w : State}
    (hw : w = ((v.commitNotes st).noteRefusal t res.status).finish msg res false) : Answered w msg res false ∧
    (∃ e ∈ w.flt.transit, e.src = srcConfigRefused) ∧ (st = 0x13 → ∃ e ∈ w.flt.transit, e.src = srcSealWrite) ∧
    w = { v with port := w.port, flt := w.flt } := by
  obtain ⟨hf, ⟨e, he, hs⟩, hseal⟩ := commitNotes_spec v st
  have ha := (finish_answered ((v.commitNotes st).noteRefusal t res.status) msg res false).1
  have hn := finish_note (v.commitNotes st) t res.status res msg
  have hm {e : FaultEvent} (h : e ∈ (v.commitNotes st).flt.transit) : e ∈ w.flt.transit := by
    rw [hw, finish_flt]
    exact mem_noteRefusal h t _
  rw [← hw] at ha hn
  refine ⟨ha, ⟨e, hm he, hs⟩, fun h => ?_, ?_⟩
  · obtain ⟨e, he, hs⟩ := hseal h
    exact ⟨e, hm he, hs⟩
  · rw [hf] at hn
    exact hn
end

/-! ##### COMMIT -/

section
variable {p : Side} {m : MbxNo} {r : Req} {s v : State} {msg : Msg} {es : Staging}

/-- The device at a COMMIT: its staging area emptied, the flags of the quays concerned applied. -/
def State.atCommit (s : State) (p : Side) (m : MbxNo) (r : Req) (msg : Msg) (es : Staging) : State :=
  forAll (((s.rung 0x42 p m r).staged p []).namedQuays msg es) ((s.rung 0x42 p m r).staged p []) State.flagsFirst

theorem atCommit_blank : (s.atCommit p m r msg es).blank flagParts = s.blank flagParts :=
  (flagged_blank _ _).trans (by simp [State.staged, State.rung, flagParts])

theorem atCommit_staging : ((s.atCommit p m r msg es).port.get p).staging = [] := by
  have h : (s.atCommit p m r msg es).mail = ((s.rung 0x42 p m r).staged p []).mail :=
    forAll_keeps (P := fun t => t.mail = ((s.rung 0x42 p m r).staged p []).mail) rfl fun t ht q _ => (t.flagsFirst_mail q).trans ht
  have hs : ((s.atCommit p m r msg es).port.get p).staging = (((s.rung 0x42 p m r).staged p []).port.get p).staging :=
    congrArg (fun x => x.2.1) (congrFun h p)
  rw [hs, staged_staging]

theorem exec_commit (k : Passes s 0x42 p m r msg) (hg : s.hm.grant = some p) (hes : es = (s.port.get p).staging) (hv : v = s.atCommit p m r msg es) :
    exec (.commit p m r) s = .next (((v.doCommit es).1.noteRefusal (some .device) (v.doCommit es).2.status).finish msg (v.doCommit es).2 false) := by
  have he := exec_of_passes (c := .commit p m r) rfl k
  have hg' : (s.rung 0x42 p m r).hm.grant = some msg.port := by
    rw [k.port]
    exact hg
  have hc := carryOut_commit hg' k.op
  have hst : ((s.rung 0x42 p m r).port.get p).staging = es := by rw [rung_staging, hes]
  simp only [k.port, hst] at hc
  rw [route_carryOut (by rw [k.op]; decide), hc, perform_device (device_of_passes k (by decide))] at he
  have hd (u : State) : u.deviceCommand msg (msg.op false) es = u.doCommit es := deviceCommand_commit k.op u _ es
  rw [hd, show forAll (((s.rung 0x42 p m r).modPort p (fun x => { x with staging := [] })).namedQuays msg es)
    ((s.rung 0x42 p m r).modPort p (fun x => { x with staging := [] })) State.flagsFirst = v from hv.symm] at he
  exact he

/-- What COMMIT does. -/
theorem device_commit (k : Passes s 0x42 p m r msg) (hg : s.hm.grant = some p) (hes : es = (s.port.get p).staging) (hv : v = s.atCommit p m r msg es) :
    (∀ cs, v.judgeCommit es = .inr cs → ∃ t, exec (.commit p m r) s = .next t ∧ Answered t msg { status := 0, advice := 0, data := [0xFF, 0xFF] } false ∧
      t.params = (s.withEntries es).params ∧ t.claims = cs ∧ t.boot.commitCount = s.boot.commitCount + 1 ∧ (t.port.get p).staging = [] ∧
      (∀ h, (s.half.get h).run = true → (t.half.get h).tables = t.params.filter (fun e => decide (0xC00000 ≤ e.1))) ∧
      (∀ q ∈ s.kernelQuays, s.hm.admission[q] = true → (∃ e ∈ es, ofQuay q e.1.toNat = true) →
        t.quay[q].oldCfg = some (v.quay[q].oldCfg.getD v.working)) ∧ t.prot = s.prot ∧ t.fuse = s.fuse ∧ t.flash = s.flash) ∧
    (∀ st adv i, v.judgeCommit es = .inl (st, adv, i) → ∃ t, exec (.commit p m r) s = .next t ∧
      Answered t msg { status := st, advice := adv, data := leBytes 2 i } false ∧
      t.params = s.params ∧ t.claims = s.claims ∧ t.boot = s.boot ∧ (t.port.get p).staging = [] ∧ (∃ e ∈ t.flt.transit, e.src = srcConfigRefused) ∧
      (st = 0x13 → ∃ e ∈ t.flt.transit, e.src = srcSealWrite) ∧ t = { v with port := t.port, flt := t.flt }) := by
  have hb : v.blank flagParts = s.blank flagParts := by rw [hv, atCommit_blank]
  have hstage : (v.port.get p).staging = [] := by rw [hv, atCommit_staging]
  have he := exec_commit k hg hes hv
  obtain ⟨kp, kc, kb, kh, km, -⟩ := flagged_keeps hb
  refine ⟨fun cs hj => ?_, fun st adv i hj => ?_⟩
  · have hd : v.doCommit es = (v.applyCommit es cs, { status := 0, advice := 0, data := [0xFF, 0xFF] }) := by
      unfold State.doCommit
      rw [commitEntries_taken hj]
      rfl
    obtain ⟨h1, h2, h3, h4, h5, h6⟩ := committed_spec hb es cs
    have hport : (v.applyCommit es cs).port = v.port :=
      State.port_of_blank (ps := [.params, .half, .claims, .cell, .quay, .ih, .tb, .free, .boot]) (State.applyCommit_blank _ es cs (by simp)) (by simp)
    have htab (h : Side) (hr : (s.half.get h).run = true) :
        ((v.applyCommit es cs).half.get h).tables = (v.applyCommit es cs).params.filter (fun e => decide (0xC00000 ≤ e.1)) := by
      rw [(applyCommit_spec v es cs).2.2.2, configured_tables v es cs h (by rw [kh]; exact hr), (applyCommit_spec v es cs).1]
    have hold {q : QuayNo} (hk : q ∈ s.kernelQuays) (ha : s.hm.admission[q] = true) (hq : ∃ e ∈ es, ofQuay q e.1.toNat = true) :
        (v.applyCommit es cs).quay[q].oldCfg = some (v.quay[q].oldCfg.getD v.working) :=
      applyCommit_oldCfg v es cs (by rw [kernelQuays_of_params kp]; exact hk) (by rw [km, hg]; rfl) (by rw [km]; exact ha) hq
    rw [hd, noteRefusal_ne (show (0 : Byte) ≠ 0x10 by decide)] at he
    obtain ⟨ha, hf⟩ := finish_answered (v.applyCommit es cs) msg { status := 0, advice := 0, data := [0xFF, 0xFF] } false
    have hs : (((v.applyCommit es cs).finish msg { status := 0, advice := 0, data := [0xFF, 0xFF] } false).port.get p).staging = [] := by
      rw [finish_staging, hport, hstage]
    generalize v.applyCommit es cs = u at he h1 h2 h3 h4 h5 h6 htab hold ha hf hs
    generalize hw : u.finish msg { status := 0, advice := 0, data := [0xFF, 0xFF] } false = w at he ha hf hs
    have hpar : w.params = u.params := (congrArg State.params hf :)
    refine ⟨w, he, ha, hpar.trans h1, (congrArg State.claims hf :).trans h2, (congrArg (fun t => t.boot.commitCount) hf :).trans h3, hs,
      fun h hr => ?_, fun q hk had hq => ?_, (congrArg State.prot hf :).trans h4, (congrArg State.fuse hf :).trans h5, (congrArg State.flash hf :).trans h6⟩
    · rw [hpar, ← htab h hr, show w.half = u.half from (congrArg State.half hf :)]
    · rw [show w.quay = u.quay from (congrArg State.quay hf :)]
      exact hold hk had hq
  · have hd : v.doCommit es = (v.commitNotes st, { status := st, advice := adv, data := leBytes 2 i }) := by
      unfold State.doCommit
      rw [commitEntries_refused hj]
    rw [hd] at he
    obtain ⟨ha, hc, hseal, hf⟩ := refused_spec v (some .device) st { status := st, advice := adv, data := leBytes 2 i } msg rfl
    have hs : ((((v.commitNotes st).noteRefusal (some .device) st).finish msg { status := st, advice := adv, data := leBytes 2 i } false).port.get p).staging = [] := by
      rw [finish_staging, State.port_of_blank (ps := [.transit]) (s := v) (by simp) (by simp), hstage]
    dsimp only at he ha hc hseal hf
    generalize ((v.commitNotes st).noteRefusal (some .device) st).finish msg { status := st, advice := adv, data := leBytes 2 i } false = w at he ha hc hseal hf hs
    exact ⟨w, he, ha, (congrArg State.params hf :).trans kp, (congrArg State.claims hf :).trans kc, (congrArg State.boot hf :).trans kb, hs, hc, hseal, hf⟩
end

/-! ##### SET_SPEED, SET_ACCEL and SET_TORQUE_LIMIT -/

section
variable {c : Instr} {op : Byte} {p : Side} {m : MbxNo} {r : Req} {s v : State} {msg : Msg} {q : QuayNo} {es : Staging}

/-- A commit of a quay's own limits. -/
theorem axis_ownCommit (hv : v = (s.rung op p m r).flagsFirst q) (hc : hostRequest c = some (op, p, m, r)) (k : Passes s op p m r msg)
    (hg : s.hm.grant = some p) (ht : targetOf msg.target = some (.quay q)) (ho : op.toNat ≤ 0x2D)
    (hO : v.quayCommand q msg (msg.op false) = v.ownCommit es) :
    (∀ cs, v.judgeCommit es = .inr cs → ∃ t, exec c s = .next t ∧ Answered t msg doneR false ∧ t.params = (s.withEntries es).params ∧ t.claims = cs ∧
      t.boot.commitCount = s.boot.commitCount + 1 ∧ t.prot = s.prot ∧ t.fuse = s.fuse ∧ t.flash = s.flash) ∧
    (∀ st adv i, v.judgeCommit es = .inl (st, adv, i) → ∃ t, exec c s = .next t ∧ Answered t msg { status := st, advice := adv, data := [] } false ∧
      t.params = s.params ∧ t.claims = s.claims ∧ t.boot = s.boot ∧ (∃ e ∈ t.flt.transit, e.src = srcConfigRefused) ∧
      t = { v with port := t.port, flt := t.flt }) := by
  have hb : v.blank flagParts = s.blank flagParts := by
    rw [hv]
    simp [State.rung, flagParts]
  have he {o : State × Result} (h : v.ownCommit es = o) := exec_axis (o := o) hc k hg ht ho (hv ▸ hO.trans h)
  obtain ⟨kp, kc, kb, -⟩ := flagged_keeps hb
  refine ⟨fun cs hj => ?_, fun st adv i hj => ?_⟩
  · have hd : v.ownCommit es = (v.applyCommit es cs, doneR) := by
      unfold State.ownCommit
      rw [commitEntries_taken hj]
      rfl
    obtain ⟨h1, h2, h3, h4, h5, h6⟩ := committed_spec hb es cs
    have he := he hd
    dsimp only at he
    rw [noteRefusal_ne (show doneR.status ≠ stRefused by decide)] at he
    obtain ⟨ha, hf⟩ := finish_answered (v.applyCommit es cs) msg doneR false
    generalize v.applyCommit es cs = u at he h1 h2 h3 h4 h5 h6 ha hf
    generalize hw : u.finish msg doneR false = w at he ha hf
    exact ⟨w, he, ha, (congrArg State.params hf :).trans h1, (congrArg State.claims hf :).trans h2, (congrArg (fun t => t.boot.commitCount) hf :).trans h3,
      (congrArg State.prot hf :).trans h4, (congrArg State.fuse hf :).trans h5, (congrArg State.flash hf :).trans h6⟩
  · have hd : v.ownCommit es = (v.commitNotes st, { status := st, advice := adv, data := [] }) := by
      unfold State.ownCommit
      rw [commitEntries_refused hj]
    have he := he hd
    obtain ⟨ha, hc, -, hf⟩ := refused_spec v (some (.quay q)) st { status := st, advice := adv, data := [] } msg rfl
    dsimp only at he ha hc hf
    generalize ((v.commitNotes st).noteRefusal (some (.quay q)) st).finish msg { status := st, advice := adv, data := [] } false = w at he ha hc hf
    exact ⟨w, he, ha, (congrArg State.params hf :).trans kp, (congrArg State.claims hf :).trans kc, (congrArg State.boot hf :).trans kb, hc, hf⟩
end

/-- Settles O55: reads, staging, commits and the limits that a quay commits on its own. -/
theorem configurationCommands : Obligations.ConfigurationCommands := by
  refine ⟨fun p m r msg s => ?_, fun p m r msg q s ht hg => ?_⟩
  · refine ⟨port_paramRead, port_paramStage rfl, port_stageClear, port_paramInfo, fun k hg => ?_⟩
    obtain ⟨h1, h2⟩ := device_commit (es := (s.port.get p).staging) k hg rfl rfl
    exact ⟨h1, h2, fun e he hs => judgeCommit_sealed ⟨e, he, hs⟩⟩
  · intro a short op c es hop k
    rcases hop with ⟨rfl, rfl, rfl⟩ | ⟨rfl, rfl, rfl⟩ | ⟨rfl, rfl, rfl⟩
    · exact axis_ownCommit (op := 0x2A) rfl rfl k hg ht (by decide) (quayCommand_setSpeed k.op _ q _)
    · exact axis_ownCommit (op := 0x2B) rfl rfl k hg ht (by decide) (quayCommand_setAccel k.op _ q _)
    · exact axis_ownCommit (op := 0x2C) rfl rfl k hg ht (by decide) (quayCommand_setTorqueLimit k.op _ q _)

end Sys2Proof.Machine
end
